-- ==== Sys2Proof/Word.lean ====
section
/-! DEFINITION. The word and byte of the host address map (spec 00 R3, R4): registers are 32 bits wide, memories are bytes. -/

namespace Sys2Proof

/-- A register word: 32 bits (00 R4). -/
abbrev Word := BitVec 32

/-- A byte of the ring memory, of the staging window and of the store die (00 R3). -/
abbrev Byte := BitVec 8

end Sys2Proof
end

