-- ==== Sys2Proof/Frames.lean ====
section
/-! DEFINITION. The data that commands carry: what an event reports, what a frame holds. Frames are records of their fields, not byte strings (log entry 10). -/

namespace Sys2Proof

/-- Zone of a window channel (06 R237). -/
inductive Zone where
  | below | inWin | above | unsettled
  deriving DecidableEq, Repr

/-- Operating region of a port's loop (05 R207). -/
inductive Region where
  | buck | transition | boost
  deriving DecidableEq, Repr

/-- A clock the device checks (01 R26, 11 R432). -/
inductive ClockId where
  | hub | edge (e : Fin 4) | feed | eth | aon
  deriving DecidableEq, Repr

/-- A supply the device supervises (17 R606); an edge die has its own VCORE, VIO and VANA domain (17 R607). -/
inductive Supply where
  | vcore | vio | vana | edgeRail (e : Fin 4) | vgd | vconnIn
  deriving DecidableEq, Repr

/-- What slew a reference command uses (05 R211). -/
inductive SlewKind where
  | softStart | up | down | off | single
  deriving DecidableEq, Repr

/-- A CONTROL frame for a port (01 R20, R29): the commands a hub gives an edge die. -/
inductive EdgeCmd where
  | fence (mv : Nat)                     -- new contract fence (04 R162)
  | reference (mv : Nat) (k : SlewKind)  -- reference target and slew (05 R211)
  | guardOpen                            -- open the port guard (07 R295)
  | vconnOn (pin : Bool)                 -- turn VCONN on; true is CC2 (03 R115)
  | vconnOff                             -- turn VCONN off (03 R115)
  | currentLimit (ma : Nat)              -- parameter write: PPS current limit (05 R202)
  deriving DecidableEq, Repr

/-- The command entry a completion answers (12 R477, R478): its ring, ring index and tag. -/
structure CmdRef where
  ring  : Fin 16
  index : Nat
  tag   : Word
  deriving DecidableEq, Repr

/-- The SOP messages of 04 R144, R145 and the SOP' and SOP'' discovery of 03 R118, by name. -/
inductive PdKind where
  | sourceCapabilities | request | eprRequest | accept | reject | psRdy
  | getSourceCap | getSinkCap | sinkCapabilities | getSourceCapExtended | sourceCapabilitiesExtended
  | eprModeEnter | eprModeEnterAck | eprModeEnterSucceeded | eprModeEnterFailed | eprModeExit
  | eprGetSourceCap | eprSourceCapabilities | eprKeepAlive | eprKeepAliveAck
  | getStatus | status | getPpsStatus | ppsStatus | getRevision | revision | getSourceInfo | sourceInfo
  | prSwap | drSwap | vconnSwap | softReset | notSupported | vendorDefined | alert | ping
  | bistCarrier | bistTestData | bistOther | chunkRequest | discoverIdentity | otherControl | otherData
  deriving DecidableEq, Repr

/-- A PD message: addressed to SOP (0), SOP' (1) or SOP'' (2). -/
structure PdMsg where
  sop   : Fin 3
  kind  : PdKind
  msgId : Fin 8
  rev20 : Bool
  data  : List Word
  deriving DecidableEq, Repr

/-- A cable's answer to Discover Identity (03 R119): maxV is the maximum VBUS voltage field (0: 20 V, 1: 30 V, 2: 40 V, 3: 50 V). -/
structure CableAnswer where
  ack     : Bool
  isCable : Bool
  active  : Bool
  fiveA   : Bool
  maxV    : Fin 4
  epr     : Bool
  vid     : BitVec 16
  pid     : BitVec 16
  vdos    : List Word
  deriving DecidableEq, Repr

/-- What the census of one phase measured (05 R195, R196): IMON zero in mV, best peak in mA, own VOUT rise in mV, largest foreign change in mV and its port. -/
structure CensusResult where
  zeroMv      : Nat
  peakMa      : Nat
  ownRise     : Nat
  foreignPort : Fin 32
  foreignRise : Nat
  deriving DecidableEq, Repr

/-- A die identity (15 R572): the lot code as a number of six ASCII characters, the first most significant. -/
structure DieId where
  lot   : Nat
  wafer : Nat
  x     : Nat
  y     : Nat
  deriving DecidableEq, Repr

/-- Post-link frame header (08 R316). -/
structure PostHdr where
  seq         : BitVec 16
  hops        : Nat
  origin      : Nat
  selfDiscord : Bool
  postmark    : Nat
  deriving DecidableEq, Repr

/-- HELLO (08 R319). -/
structure Hello where
  key       : Nat
  id        : DieId
  rxOk      : Bool
  isDealer  : Bool
  branch    : Bool
  uplink    : Bool
  epoch     : Nat
  dealer    : Nat
  dhops     : Nat
  link      : Fin 3
  deriving DecidableEq, Repr

/-- One entry of a BID (08 R323). -/
structure BidEntry where
  slot         : Nat
  selfDiscord  : Bool
  neighDiscord : Bool
  standing     : Bool
  minimal      : Bool
  late         : Bool
  orderOk      : Bool
  applied      : Bool
  contract     : Nat
  trump        : Nat
  kitty        : Nat
  deriving DecidableEq, Repr

/-- BID (08 R323). -/
structure Bid where
  dealNo  : Nat
  entries : List BidEntry
  deriving DecidableEq, Repr

/-- One entry of a DEAL (08 R324). -/
structure DealEntry where
  key   : Nat
  allot : Nat
  cut   : Nat
  deriving DecidableEq, Repr

/-- DEAL (08 R324). -/
structure Deal where
  dealNo        : Nat
  dealer        : Nat
  epoch         : Nat
  conservative  : Bool
  merging       : Bool
  defaultBudget : Bool
  overflow      : Bool
  emptyRoll     : Bool
  tEff          : Nat
  dealMs        : Nat
  depth         : Nat
  budget        : Nat
  orderNo       : Nat
  refusedNo     : Nat
  expect        : Nat
  discord       : Word
  step          : Nat
  entries       : List DealEntry
  deriving DecidableEq, Repr

/-- ELECT (08 R320). -/
structure Elect where
  cand  : Nat
  id    : DieId
  epoch : Nat
  deriving DecidableEq, Repr

/-- One frame of an ORDER (08 R325); param is bytes 16 to 23 as one little-endian number. -/
structure Order where
  no     : Nat
  kind   : Nat
  part   : Nat
  parts  : Nat
  tOrder : Nat
  param  : Nat
  digest : Nat
  roll   : List (Nat × Nat)
  deriving DecidableEq, Repr

/-- CARD (08 R322). -/
structure Card where
  key          : Nat
  id           : DieId
  formerDealer : Bool
  twin         : Bool
  depthExc     : Bool
  busA         : Bool
  busB         : Bool
  floor        : Nat
  kitty        : Nat
  cap          : Nat
  held         : Nat
  dhops        : Nat
  dealMs       : Nat
  depth        : Nat
  orderHeld    : Nat
  orderApplied : Nat
  postmark     : Nat
  roll         : Nat
  ledgerBudget : Nat
  foreignOfs   : Int
  deriving DecidableEq, Repr

/-- MHELLO (09 R378). -/
structure MHello where
  role     : Nat
  mode     : Nat
  rxOk     : Bool
  eligible : Bool
  inhibit  : Bool
  replace  : Bool
  slot     : Bool
  linksUp  : Nat
  id       : DieId
  postmark : Nat
  seatKey  : Nat
  deriving DecidableEq, Repr

/-- One 16-byte loop-state record of a LOOP frame (09 R380). -/
structure LoopRec where
  port      : Fin 32
  sourcing  : Bool
  softStart : Bool
  ramping   : Bool
  trunc     : Bool
  cl        : Bool
  skipping  : Bool
  hiccup    : Bool
  latched   : Bool
  ref       : Nat
  region    : Region
  target    : Nat
  deForced  : Bool
  minimal   : Bool
  vc        : Nat
  lc        : Nat
  hc        : Nat
  mask      : BitVec 4
  cycle     : Nat
  fence     : Nat
  hoff      : Nat
  deriving DecidableEq, Repr

/-- One 64-byte port protocol record (09 R381). -/
structure ProtoRec where
  port     : Fin 32
  tcState  : Nat
  pflags   : BitVec 8
  oflags   : BitVec 8
  txId     : Nat
  rxId     : Nat
  outType  : Nat
  outKind  : Nat
  rdo      : Word
  volt     : Nat
  curr     : Nat
  hand     : Nat
  pend     : Nat
  pendTb   : Nat
  cable    : Word
  timerTb  : Nat
  timerId  : Nat
  ams      : Nat
  rpLvl    : Nat
  rxTb     : Nat
  counts   : Word
  deriving DecidableEq, Repr

/-- What a CONTROL mirror frame carries (09 R383, R384, R385). -/
inductive MirrorCtl where
  | image (slot : Fin 4) (bytes : List Byte)
  | amendment (bytes : List Byte)
  | orderHeld (o : Order)
  | roll (entries : List (Nat × Nat))
  | census (ph : Fin 64) (passed : Bool) (r : CensusResult)
  | retired (mask : BitVec 64)
  | card (k : Card)
  | regRead (addr count : Nat)
  | regWrite (addr : Nat) (words : List Word)
  deriving DecidableEq, Repr

/-- A received process-data telegram (13 R513): its dataset fields when the dataset is 4 or 5. -/
structure TrdpIn where
  comId   : Nat
  msgPd   : Bool
  fcsOk   : Bool
  length  : Nat
  seqNo   : Nat
  orderNo : Nat
  budget  : Nat
  caps    : List Nat
  tOrder  : Nat
  deriving DecidableEq, Repr

/-- The PHY's negotiation result (13 R503): speed code 0, 1 or 2. -/
structure PhyResult where
  link  : Bool
  half  : Bool
  speed : Fin 3
  deriving DecidableEq, Repr

/-- What HUB-BOOT and SV find during BOOT (15 R568): straps, port and feed levels, the verdict on each firmware slot (14 R552), and whether a phase's bus has power-good. -/
structure BootObs where
  bootsel0   : Bool
  dben       : BitVec 4
  feedsUp    : Bool          -- a feed is above its UV_RISE (03 R133)
  vgdAbove9  : Bool
  deadcar    : BitVec 4      -- edge dies whose strapped port reads Rp on one pin with VBUS above 4.0 V (03 R133, R134)
  slotOk     : BitVec 4      -- firmware slots that pass digests and signature
  deadcarPin : BitVec 4      -- of those ports, whether the pin that reads Rp is CC2 (03 R109)
  twinProle  : Bool
  twinHb     : Bool
  twinSlot   : Bool
  storeOk    : Bool
  dieCrcBad  : BitVec 7      -- die identity records whose CRC fails (15 R573)
  calBad     : BitVec 4      -- copies in the calibration partition whose CRC fails: the minimal record (bits 0, 1) and the retired-phase list (2, 3) (15 R575)
  deriving DecidableEq, Repr

end Sys2Proof
end

