-- ==== Sys2Proof/Syntax.lean ====
section
/-! DEFINITION. The commands of the block: one constructor for each row of the table, with what the sender or the environment supplies as operands. -/

namespace Sys2Proof

/-- The rows of the table; those the block itself posts stand first. The table gives no operands: each constructor's operands are what the row's rule says the command carries or the event reports (log entry 11). -/
inductive Instr where
  /-- R21: An edge-link receiver gets a frame with a bad CRC, discards it and requests retransmission. -/
  | edgeLinkCrcError (l : Fin 5)
  /-- R22: 50 µs pass without a valid frame; the hub declares the link lost, discards queued frames, raises the link-loss source and starts retraining. -/
  | edgeLinkLost (l : Fin 5)
  /-- R630: Retraining of an edge link completes and the die starts sending its loss queue. -/
  | edgeLinkRetrained (l : Fin 5)
  /-- R631: The die's loss queue has drained; pending marks are sent and the hub reads the die state back and re-sends unconfirmed commands. -/
  | lossQueueDrained (l : Fin 5)
  /-- R23: An edge die has received no valid frame for 2 ms and enters minimal mode by itself. -/
  | edgeDieMinimalTimeout (e : Fin 4)
  /-- R24: ELF has been lost for 2 ms; the feed die holds its last limits and keeps its own power-good logic. -/
  | feedLinkHold
  /-- R406: A TB sync frame reaches an edge or feed die and updates its TB replica. -/
  | tbSyncFrame (die : Fin 5)
  /-- R81: The owner's IMAGE_CHECK command starts a check of the staged image and sets STAGE_LOCK. -/
  | imageCheck (c : CmdRef)
  /-- R82: A running check ends; the admission report is written and CHECK takes its final value. -/
  | admissionCheckEnd (us : Nat)
  /-- R84: The owner's IMAGE_STORE command checks the staged image and starts writing it into a named slot. -/
  | imageStore (c : CmdRef) (slot : Fin 4)
  /-- R84: A slot write and read-back complete and the slot is marked STORED. -/
  | imageSlotWritten (ok : Bool)
  /-- R85: The owner's IMAGE_SWITCH command schedules a STORED slot to become active at a stated TB time. -/
  | imageSwitch (c : CmdRef) (slot : Fin 4) (tb : Nat)
  /-- R85: The effective TB time of a pending switch arrives; the slot becomes ACTIVE, D and the postmark change and sections are applied. -/
  | switchEffective
  /-- R88: The owner's AMEND_APPLY command checks the staged amendment against the effective serial and scope rules. -/
  | amendApply (c : CmdRef)
  /-- R89: A checked amendment is committed in one step and its sections take effect. -/
  | amendCommit
  /-- R50: The owner's IMAGE_FLOOR command writes a serial-floor entry equal to the effective serial. -/
  | imageFloor (c : CmdRef)
  /-- R48: The owner's KEY_ENROL command enrols a public key into a blank slot. -/
  | keyEnrol (c : CmdRef) (slot signer : Fin 4)
  /-- R49: The owner's KEY_REVOKE command permanently revokes a key slot. -/
  | keyRevoke (c : CmdRef) (slot signer : Fin 4)
  /-- R245: A window channel's filtered thresholds change its zone; events, captures, wakes and triggers follow. -/
  | monitorZoneChange (ch : Fin 204) (z : Zone) (stamp : Nat)
  /-- R107: tCCDebounce completes and the port attaches as source, sink, debug accessory or enters Try.SRC. -/
  | tccdebounceExpiry (p : Fin 32)
  /-- R107: tPDDebounce completes with the attach condition gone and the port returns towards an unattached state. -/
  | tpddebounceExpiry (p : Fin 32)
  /-- R108: The source or sink fraction of tDRP ends and a DRP port toggles its presented termination. -/
  | tdrpExpiry (p : Fin 32)
  /-- R108: tDRPTry ends in Try.SRC without Rd and the port enters TryWait.SNK. -/
  | tdrptryExpiry (p : Fin 32)
  /-- R108: tTryCCDebounce completes in Try.SRC and the port enters Attached.SRC. -/
  | ttryccdebounceExpiry (p : Fin 32)
  /-- R108: tDRPTryWait ends without VBUS and the port enters Unattached.SNK. -/
  | tdrptrywaitExpiry (p : Fin 32)
  /-- R107: tErrorRecovery elapses and the port re-enters its unattached state. -/
  | terrorrecoveryExpiry (p : Fin 32)
  /-- R104: A CC pin exceeds 6.0 V for 10 µs; the edge die removes termination and VCONN and raises CC_FAULT. -/
  | ccOvervoltage (p : Fin 32) (pin : Bool)
  /-- R116: A VCONN switch trips on overcurrent, opens, raises VCONN_OC and the port re-cuts its offers. -/
  | vconnOvercurrent (p : Fin 32)
  /-- R115: A CC pin exceeds VCONN_IN by 200 mV and the VCONN switch opens without a fault. -/
  | vconnReverseBlock (p : Fin 32)
  /-- R118: tVCONNStable ends and PX sends Discover Identity on SOP'. -/
  | tvconnstableExpiry (p : Fin 32)
  /-- R118: The interval between cable discovery tries ends and PX sends another Discover Identity. -/
  | discoverIdentityRetry (p : Fin 32)
  /-- R123: In minimal mode an attach debounce of 150 ms completes and the edge die soft-starts the port to 5 V. -/
  | minimalAttachDebounce (p : Fin 32)
  /-- R123: In minimal mode a detach debounce of 15 ms completes and the edge die discharges VBUS. -/
  | minimalDetachDebounce (p : Fin 32)
  /-- R139: tCRCReceive ends without GoodCRC and PX retries or reports a failure. -/
  | tcrcreceiveExpiry (p : Fin 32)
  /-- R482: The owner's PORT_HARD_RESET command sends Hard Reset on a port with an explicit contract. -/
  | portHardReset (c : CmdRef) (p : Fin 32)
  /-- R166: tSenderResponse ends without the expected response and R139 recovery follows. -/
  | tsenderresponseExpiry (p : Fin 32)
  /-- R160: tTypeCSendSourceCap ends and Source_Capabilities are sent again, up to nCapsCount. -/
  | ttypecsendsourcecapExpiry (p : Fin 32)
  /-- R141: tSinkTx ends after SinkTxNG and the source starts its AMS. -/
  | tsinktxExpiry (p : Fin 32)
  /-- R165: tSrcTransition ends and the reference starts to move or the new current limit takes effect. -/
  | tsrctransitionExpiry (p : Fin 32)
  /-- R168: tSourceEPRKeepAlive ends in EPR mode and Hard Reset is sent. -/
  | tsourceeprkeepaliveExpiry (p : Fin 32)
  /-- R169: tPPSTimeout ends without a PPS request and Hard Reset is sent. -/
  | tppstimeoutExpiry (p : Fin 32)
  /-- R174: tPSHardReset ends and the source off-ramp starts. -/
  | tpshardresetExpiry (p : Fin 32)
  /-- R174: tSrcRecover ends and VCONN and the soft start to 5 V begin. -/
  | tsrcrecoverExpiry (p : Fin 32)
  /-- R171: tPSSourceOff ends without the partner's PS_RDY and the port enters ErrorRecovery. -/
  | tpssourceoffExpiry (p : Fin 32)
  /-- R171: tPSSourceOn ends without the partner's PS_RDY and the port enters ErrorRecovery. -/
  | tpssourceonExpiry (p : Fin 32)
  /-- R171: tSwapSourceStart ends and the new source sends Source_Capabilities. -/
  | tswapsourcestartExpiry (p : Fin 32)
  /-- R173: tVCONNSourceTimeout ends without the partner's PS_RDY and Hard Reset is sent. -/
  | tvconnsourcetimeoutExpiry (p : Fin 32)
  /-- R142: tChunkSenderRequest ends without a chunk request and the message is abandoned. -/
  | tchunksenderrequestExpiry (p : Fin 32)
  /-- R143: tBISTContMode ends and the carrier stops. -/
  | tbistcontmodeExpiry (p : Fin 32)
  /-- R182: As sink, 500 ms pass after Accept without PS_RDY and Hard Reset is sent. -/
  | tpstransitionExpiry (p : Fin 32)
  /-- R165: The edge die reports VBUS in the window of the new voltage and PX sends PS_RDY. -/
  | vbusInWindow (p : Fin 32)
  /-- R163: VBUS exceeds the fence; the edge die tri-states the phases, opens the guard and the port enters ErrorRecovery. -/
  | vbusOvFence (p : Fin 32)
  /-- R162: VBUS has stayed below the new lower fence for 100 µs and the edge die lowers the fence. -/
  | fenceLower (p : Fin 32)
  /-- R177: IPORT exceeds the contract current margin for 500 ms and CONTRACT_BREACH is raised. -/
  | contractBreachOvercurrent (p : Fin 32)
  /-- R154: A pending hand's instant arrives and it becomes the port's hand. -/
  | pendingHandEffective (p : Fin 32)
  /-- R294: VOUT has stayed in its 5 V window for 1 ms and the edge die starts closing the guard. -/
  | guardCloseStart (p : Fin 32)
  /-- R294: The guard reaches CLOSED and GUARD_CLOSED is reported. -/
  | guardClosed (p : Fin 32)
  /-- R213: VOUT falls below 3.0 V at the end of an off-ramp; the phases stop and discharge starts. -/
  | offRampEnd (p : Fin 32)
  /-- R207: M crosses a hysteresis threshold and all the port's phases change region at a cycle boundary. -/
  | regionChange (p : Fin 32) (region : Region)
  /-- R214: The sensed voltage exceeds the truncation level and every phase of the port stops switching. -/
  | truncationStart (p : Fin 32)
  /-- R214: The sensed voltage falls below the release level and switching resumes. -/
  | truncationEnd (p : Fin 32)
  /-- R217: The limited-cycle count exceeds its allowance and a hiccup starts. -/
  | limitAllowanceExceeded (p : Fin 32) (ph : Fin 64)
  /-- R217: T_HICCUP ends and the port soft-starts to 5 V. -/
  | hiccupOffTimeExpiry (p : Fin 32)
  /-- R216: A hiccup reaches 10 s of age and leaves the hiccup count. -/
  | hiccupAgeOut (p : Fin 32)
  /-- R220: SF holds its fault level for 200 ns; the port's phases go to mid and STAGE_FAULT is raised. -/
  | stageFault (p : Fin 32)
  /-- R221: 32 counted cycles meet the silent conditions and the phase is retired. -/
  | phaseSilent (ph : Fin 64)
  /-- R222: 64 cycles show an implausible current estimate and the worst phase is retired. -/
  | senseImplausible (ph : Fin 64)
  /-- R224: The owner's RESTORE_PHASE command runs a census of a retired phase on a detached port. -/
  | restorePhase (c : CmdRef) (ph : Fin 64)
  /-- R194: A bus gains its first power-good and the census of its PENDING phases runs. -/
  | pendingCensus (busB : Bool)
  /-- R196: A phase's census ends and it passes or fails. -/
  | censusComplete (ph : Fin 64) (res : CensusResult)
  /-- R225: A phase's bus falls below 30 V and its port's phases go to mid. -/
  | busVinLow (e : Fin 4) (busB : Bool)
  /-- R225: The bus exceeds 32 V and the port's phases switch again. -/
  | busVinRecover (e : Fin 4) (busB : Bool)
  /-- R215: VBUS stays below 0.90 × VREF for 10 ms; VBUS_UV is raised and Hard Reset follows. -/
  | vbusUv (p : Fin 32)
  /-- R243: Every threshold of an UNSETTLED channel settles and agrees, and the channel leaves UNSETTLED. -/
  | channelSettle (ch : Fin 204) (z : Zone) (stamp : Nat)
  /-- R240: A CC channel's 100 µs hold ends and it takes the zone its thresholds give. -/
  | channelHoldEnd (ch : Fin 204) (z : Zone) (stamp : Nat)
  /-- R249: The calibration step time elapses and a spare starts calibrating the next channel of the group. -/
  | calStep (g : Fin 25) (spareOk : Bool)
  /-- R250: 64 agreeing samples complete and the output passes between channel and spare. -/
  | calAgreement (g : Fin 25) (err : Int)
  /-- R251: 1 ms after a failed agreement the step is retried, or the channel is skipped after four retries. -/
  | calRetry (g : Fin 25)
  /-- R252: The 24 h interval ends and trims are written to the calibration partition. -/
  | trimWrite
  /-- R261: A trigger reaches a converter and starts, queues or drops a sequence. -/
  | converterTrigger (cv : Fin 5) (sq : Fin 16) (stamp : Nat)
  /-- R263: The last member of a sequence completes and the result block is written. -/
  | sequenceComplete (cv : Fin 5) (results : List (BitVec 16))
  /-- R260: A continuous conversion completes and writes MONc_RESULT. -/
  | continuousResult (ch : Fin 204) (res : BitVec 16)
  /-- R275: A feed's enable becomes 1 and the feed enters WAIT. -/
  | feedEnableRise (f : Fin 4)
  /-- R276: A feed's enable falls to 0; the gate turns off, power-good deasserts and the latch clears. -/
  | feedEnableFall (f : Fin 4)
  /-- R278: FVIN enters its window with VGD above 10.5 V and the feed enters DELAY. -/
  | feedWindowEnter (f : Fin 4)
  /-- R277: INS_DELAY ends and the feed enters RAMP or COOLING. -/
  | insDelayExpiry (f : Fin 4)
  /-- R277: INS_TIMEOUT ends without power-good and the feed latches with INSERT_TIMEOUT. -/
  | insTimeoutExpiry (f : Fin 4)
  /-- R278: FVIN stays below UV_FALL for 10 µs; UV is raised and the feed returns to WAIT. -/
  | feedUvBreach (f : Fin 4)
  /-- R278: FVIN stays above OV_RISE for 1 µs; OV is raised and the feed returns to WAIT. -/
  | feedOvBreach (f : Fin 4)
  /-- R281: The feed current reaches its limit and the fault timer starts counting up. -/
  | feedLimitStart (f : Fin 4) (foldback : Bool)
  /-- R282: The feed fault timer reaches FTIMER; the gate turns off and the feed latches. -/
  | feedFaultTimerExpiry (f : Fin 4)
  /-- R277: The FET temperature falls below its release level and a COOLING feed enters RAMP. -/
  | fetTempRelease (f : Fin 4)
  /-- R285: Every 10 µs the feed die advances its thermal model of the hot-swap FET. -/
  | feedModelStep (f : Fin 4) (tdie power : Int)
  /-- R290: The power-good conditions hold for 100 µs; power-good asserts and the feed enters ON. -/
  | feedPowerGood (f : Fin 4)
  /-- R288: FMID exceeds FVIN by 15 mV and the diode gate is pulled off, raising REVERSE when it was fully on. -/
  | feedReverseTurnOff (f : Fin 4)
  /-- R287: FVIN exceeds FMID by 30 mV for 10 µs and the diode gate is driven again. -/
  | diodeRedrive (f : Fin 4)
  /-- R272: VGD falls below 9.0 V and every gate driver pulls its gate off without latching. -/
  | vgdLow
  /-- R272: VGD falls below 10.5 V and feeds in DELAY or COOLING return to WAIT. -/
  | vgdBelowStartLevel
  /-- R272: VGD rises above 10.5 V and feed insertion and guard closure may start again. -/
  | vgdRecover
  /-- R296: The port current reaches the guard limit and the guard fault timer starts counting. -/
  | guardLimitStart (p : Fin 32) (foldback : Bool)
  /-- R297: The guard fault timer reaches GTIMER; the guard latches off with GUARD_TRIP. -/
  | guardFaultTimerExpiry (p : Fin 32)
  /-- R299: The guard dissipation estimate or Vds condition trips; GUARD_TEMP is raised and the guard latches. -/
  | guardTemp (p : Fin 32) (byVds : Bool)
  /-- R301: The guard thermal estimate falls below PGUARD ÷ 16 and a deferred re-arm is performed. -/
  | deferredRearm (p : Fin 32)
  /-- R302: Connector VBUS stays below vSafe0V for 10 ms and DSG returns to 0 V. -/
  | dischargeDone (p : Fin 32)
  /-- R312: Symbol lock holds for 1 ms after the hold-off and the post link enters TRAIN. -/
  | postSymbolLock (l : Fin 3)
  /-- R313: Symbol lock is lost for 10 µs and the post link goes DOWN. -/
  | postLockLoss (l : Fin 3)
  /-- R313: 3 ms pass without a valid frame and the post link goes DOWN. -/
  | postFrameTimeout (l : Fin 3)
  /-- R312: TRAIN lasts 50 ms without reaching UP and the link returns to DOWN. -/
  | postTrainTimeout (l : Fin 3)
  /-- R314: The 20 ms hold-off ends and the link counts symbol lock again. -/
  | postHoldoffEnd (l : Fin 3)
  /-- R318: A post-link frame with bad CRC, length or type is discarded and counted. -/
  | postBadFrame (l : Fin 3) (crc : Bool)
  /-- R317: Every 1 ms in TRAIN and UP the link sends a HELLO. -/
  | helloTimer (l : Fin 3)
  /-- R328: A deal period boundary arrives; the device applies ALLOT and snapshots CONTRACT and TRUMP. -/
  | dealPeriodBoundary
  /-- R329: The device's bid slot arrives and it sends its BID to its parent. -/
  | bidSlot
  /-- R336: The dealer's deadline arrives; it computes targets and sends the DEAL. -/
  | dealerDealSlot
  /-- R340: At 0.5 P without a deal the member counts a miss and prepares a standing hand. -/
  | dealMissCheck
  /-- R343: At 0.6 P each member sends SYNC to its parent. -/
  | syncSlot
  /-- R334: A candidate's own key has stayed best for a full period and it becomes dealer. -/
  | dealerAccession
  /-- R351: T_ORDER arrives and the member applies the held order. -/
  | orderEffective
  /-- R375: Symbol lock holds on both mirror lanes for 100 µs and the link enters TRAIN. -/
  | mirrorLock
  /-- R375: Lock on a mirror lane is lost for 1 µs and the link goes DOWN with MIRROR_LOSS. -/
  | mirrorLinkDown
  /-- R375: 250 µs pass without a valid mirror frame and the link goes DOWN. -/
  | mirrorFrameTimeout
  /-- R376: A mirror frame with bad CRC, class or length is discarded and counted. -/
  | mirrorBadFrame (crc : Bool)
  /-- R380: At each LS_PERIOD the ACTIVE snapshots every loop and sends a LOOP frame. -/
  | loopSnapshot
  /-- R389: TWIN_HBI shows no edge for 3 µs and the SHADOW takes over or sets ELIGIBLE_LOST. -/
  | heartbeatLoss
  /-- R371: TWIN_PROLE rises at a device and all its dies release their outputs. -/
  | partnerRoleAssert
  /-- R396: The named instant arrives; the ACTIVE stops its heartbeat and the SHADOW asserts TWIN_ROLE. -/
  | handoverInstant
  /-- R399: 30 min after it was set, TWIN_CTL.REPLACE clears by itself. -/
  | replaceTimeout
  /-- R372: The BOOT role hold-off or wait ends and the device re-checks TWIN_PROLE and takes its role. -/
  | twinRoleHoldoff
  /-- R407: A write to ALMn_CMP_LO stages the low compare word. -/
  | almCmpLoWrite (m : Fin 5) (a : Fin 32) (v : Word)
  /-- R407: A write to ALMn_CMP_HI commits the staged compare value. -/
  | almCmpHiWrite (m : Fin 5) (a : Fin 32) (v : Word)
  /-- R407: Two ticks after the commit the compare value is evaluated as ARMED or past. -/
  | alarmCommit (a : Fin 32)
  /-- R409: TB reaches an ARMED alarm's compare value and the alarm fires its trigger. -/
  | alarmFire (a : Fin 32) (stepped : Bool)
  /-- R411: The owner's ALMn_CMD.CANCEL makes the alarm IDLE two ticks later. -/
  | cancel (m : Fin 5) (a : Fin 32)
  /-- R413: An interval timer's count reaches 0; it launches its trigger and reloads or stops. -/
  | itmZero (t : Fin 16)
  /-- R414: An owner write to ITMn_RELOAD updates the reload buffer and may clamp the count. -/
  | itmReloadWrite (m : Fin 5) (t : Fin 16) (v : Word)
  /-- R416: An ITMn_CMD.START starts or restarts the timer. -/
  | itmStart (m : Fin 5) (t : Fin 16)
  /-- R417: An ITMn_CMD.STOP stops the timer two ticks later. -/
  | itmStop (m : Fin 5) (t : Fin 16)
  /-- R421: An owner write to TMR_GO releases the selected timers, at once or dated. -/
  | tmrGo (m : Fin 5) (v : Word)
  /-- R422: TB reaches a pending dated release and the selected timers start. -/
  | tmrGoDatedRelease
  /-- R424: An owner write to ITMn_CAP_POP removes the oldest capture. -/
  | capPop (m : Fin 5) (t : Fin 16)
  /-- R405: A read of TB_LO returns the low word and loads the master's TB_HI buffer. -/
  | tbLoRead (m : Fin 5)
  /-- R439: A fault source is raised; its latch and count are set and severity, grace and action are applied. -/
  | faultRaise (src : Fin 768) (stamp : Nat)
  /-- R32: An ACT source's grace time runs out and its action is carried out. -/
  | graceExpiry (src : Fin 768)
  /-- R440: The owner writes a source ID to FAULT_CLEAR, clearing its latch or setting CLEAR_REFUSED. -/
  | faultClear (m : Fin 5) (v : Word)
  /-- R440: The owner writes 1 to a bit of a block FAULT register, clearing that source's latch. -/
  | faultLatchBitClear (m : Fin 5) (src : Fin 768)
  /-- R443: The owner writes a source ID to FAULT_FORCE and the source is raised as FORCED. -/
  | faultForce (m : Fin 5) (v : Word)
  /-- R442: 60 s after a source's last raise its effective severity returns and RELAXED is reported. -/
  | severityRelax (src : Fin 768)
  /-- R449: Room appears in the fault-message ring and held messages are written in order. -/
  | faultBacklogDrain
  /-- R453: A die's edge link has been valid for 100 ms with the exit conditions met and it leaves minimal mode. -/
  | minimalAutoExit (e : Fin 4)
  /-- R469: A UART STATUS frame is answered with the status byte. -/
  | uartStatus
  /-- R473: A write to a command ring's TAIL rings its doorbell. -/
  | ringTailWrite (m : Fin 5) (r : Fin 16) (v : Word)
  /-- R472: A consumer write to HEAD frees entries, or is refused with BAD_INDEX. -/
  | ringHeadWrite (m : Fin 5) (r : Fin 16) (v : Word)
  /-- R475: A write to RINGr_CTL enables or disables a ring or sets COALESCE. -/
  | ringCtlWrite (m : Fin 5) (r : Fin 16) (v : Word)
  /-- R475: RINGr_CMD.RESET sets HEAD, TAIL and ARM of a disabled ring to 0. -/
  | ringReset (m : Fin 5) (r : Fin 16)
  /-- R479: The device fetches a command entry, checks it and accepts it or completes it at once. -/
  | commandFetch (r : Fin 16)
  /-- R476: Room appears in a full completion ring; held completions are written and fetching resumes. -/
  | completionRingRoom (r : Fin 16)
  /-- R482: The NOP command completes at fetch. -/
  | nop (c : CmdRef)
  /-- R482: The PORT_ENABLE command takes a Disabled port to its unattached state. -/
  | portEnable (c : CmdRef) (p : Fin 32)
  /-- R125: The PORT_DISABLE command starts taking a port to Disabled. -/
  | portDisable (c : CmdRef) (p : Fin 32)
  /-- R125: VBUS falls below vSafe0V during a disable; the guard opens and the port enters Disabled. -/
  | portDisableDone (p : Fin 32)
  /-- R125: 650 ms pass without VBUS below vSafe0V and the port enters Disabled with VBUS_HIGH. -/
  | portDisableTimeout (p : Fin 32)
  /-- R486: The LEDGER_ORDER command issues a dated order towards the dealer. -/
  | ledgerOrder (c : CmdRef) (no kind rcount tOrder param : Nat)
  /-- R486: 10 deal periods pass without the order being held or refused and the command completes TIMEOUT. -/
  | ledgerOrderTimeout
  /-- R451: The MINIMAL_ENTER command takes the device into MINIMAL with cause 4. -/
  | minimalEnter (c : CmdRef)
  /-- R453: The MINIMAL_EXIT command leaves MINIMAL when the exit conditions hold. -/
  | minimalExit (c : CmdRef)
  /-- R563: The ENTER_STANDBY command takes the device into STANDBY when allowed. -/
  | enterStandby (c : CmdRef)
  /-- R566: The ENTER_DORMANT command runs the DORMANT entry sequence. -/
  | enterDormant (c : CmdRef) (secs : Nat)
  /-- R482: The DEVICE_RESET command with the key value resets the hub die. -/
  | deviceReset (c : CmdRef) (key : Word)
  /-- R537: The UPDATE_OPEN command opens an update session and erases the target slot. -/
  | updateOpen (c : CmdRef) (comp : Fin 2) (count : Nat)
  /-- R538: The PARCEL_WRITE command checks a parcel's CRC and programs it into the slot. -/
  | parcelWrite (c : CmdRef) (ofs crc : Nat)
  /-- R541: The UPDATE_VERIFY command checks the written package whole. -/
  | updateVerify (c : CmdRef)
  /-- R543: The UPDATE_ACTIVATE command waits for a quiet moment to activate a slot. -/
  | updateActivate (c : CmdRef) (which : Fin 5)
  /-- R546: A quiet moment arrives and the port core or platform set is paused and activated. -/
  | updateQuietMoment
  /-- R543: 2 s pass without a quiet moment and the activation completes TIMEOUT. -/
  | quietWaitTimeout
  /-- R550: The UPDATE_CONFIRM command ends a trial and makes the slot ACTIVE. -/
  | updateConfirm (c : CmdRef)
  /-- R551: The UPDATE_ABORT command closes a session or falls a trial back. -/
  | updateAbort (c : CmdRef)
  /-- R536: The UPDATE_FLOOR command raises a component's anti-rollback floor. -/
  | updateFloor (c : CmdRef) (comp : Fin 2)
  /-- R551: The health timer expires during a trial and the device falls back. -/
  | healthTimerExpiry
  /-- R482: The JOURNAL_MARK command appends a MARK record with a note. -/
  | journalMark (c : CmdRef) (note : List Byte)
  /-- R582: The JOURNAL_WINDOW command sets the window start of the JOURNAL window. -/
  | journalWindow (c : CmdRef) (start : Nat)
  /-- R488: The TELEMETRY_SET command names the registers a telemetry ring samples. -/
  | telemetrySet (c : CmdRef) (ring : Fin 16) (addrs : List Nat)
  /-- R491: A write of SYS_CLAIM.CLAIM opens or joins a claim window, or is refused. -/
  | claim (m : Fin 5)
  /-- R491: The claim window closes and the winning claimant becomes owner. -/
  | claimWindowClose
  /-- R493: The owner's write of SYS_RENEW.RENEW restarts its lease. -/
  | renew (m : Fin 5)
  /-- R493: 75 % of the lease passes without renewal and LEASE_WARN is set. -/
  | leaseWarn
  /-- R493: The lease ends without renewal and ownership ends. -/
  | leaseExpiry
  /-- R494: The owner writes SYS_HANDOVER to offer or withdraw ownership to a successor. -/
  | ownerHandover (m : Fin 5) (v : Word)
  /-- R494: The named successor writes SYS_ACCEPT.ACCEPT and becomes owner. -/
  | sysAccept (m : Fin 5)
  /-- R494: The owner writes SYS_RELEASE.RELEASE and ownership ends at once. -/
  | sysRelease (m : Fin 5)
  /-- R494: 100 ms pass after an offer without acceptance and the offer lapses. -/
  | handoverLapse
  /-- R504: An owner write to NET_MDIO with GO set starts one MDIO read or write. -/
  | netMdioGo (m : Fin 5) (v : Word)
  /-- R508: An ARP cache entry reaches 300 s and ages out. -/
  | arpAgeOut (ip : Nat)
  /-- R514: A telegram's publish instant arrives and the dataset is sampled and sent. -/
  | trdpPublish (k : Fin 16)
  /-- R515: A subscription receives nothing valid for 3 × CYCLE and TIMEOUT is set. -/
  | trdpTimeout (k : Fin 16)
  /-- R512: A write of 1 to NET_PTP_POP removes the oldest stamp. -/
  | netPtpPop (m : Fin 5)
  /-- R554: In RECOVERY, OPEN binds the recovery registers and erases the target slot. -/
  | recOpen (m : Fin 5)
  /-- R554: In RECOVERY, PARCEL checks and programs one parcel. -/
  | recParcel (m : Fin 5)
  /-- R554: In RECOVERY, VERIFY checks the written platform set. -/
  | recVerify (m : Fin 5)
  /-- R554: In RECOVERY, INSTALL makes the VERIFIED slot ACTIVE and runs BOOT. -/
  | recInstall (m : Fin 5)
  /-- R554: In RECOVERY, CLOSE releases the binding and empties an uninstalled slot. -/
  | recClose (m : Fin 5)
  /-- R559: RST# is held low for 10 µs and the device is held in reset. -/
  | resetAssert
  /-- R560: VAON leaves its range; retention and the always-on counter are cleared. -/
  | vaonLoss
  /-- R570: A BOOT reaches neither SERVICE nor MINIMAL within 10 s and the device restarts BOOT. -/
  | bootTimeout
  /-- R567: WAKE is held high for 1 ms and the device wakes from STANDBY or DORMANT. -/
  | wakePin
  /-- R567: The always-on wake timer expires and the device leaves DORMANT. -/
  | wakeTimerExpiry
  /-- R562: A feed rises above UV_RISE during readout and the device runs the full BOOT. -/
  | deadcarFeedRise (f : Fin 4)
  /-- R579: The credit covers the next held record and the writer programs it into the store. -/
  | journalProgram
  /-- R580: 1 s after the last shed the writer writes one SHED record. -/
  | shedRecord
  /-- R211: The reference of a port reaches its target; RAMPING clears and the 5 ms suspension of the undervoltage comparison begins. -/
  | referenceRampEnd (p : Fin 32)
  /-- R296: The port current falls below the guard limit; limiting ends and the fault timer counts down. -/
  | guardLimitEnd (p : Fin 32)
  /-- R291: The feed current falls below its limit; the fault timer counts down and PG_WARN clears. -/
  | feedLimitEnd (f : Fin 4)
  /-- R301: A guard re-arm reaches 60 s of age, leaves the count of the last 60 s, and REARM_SPENT may clear. -/
  | rearmAgeOut (p : Fin 32)
  /-- R375: Every 10 µs in TRAIN and every 100 µs in UP the device sends an MHELLO on the mirror link. -/
  | mhelloTimer
  /-- R379: Every 100 µs the device sends an MSYNC with its TB stamps. -/
  | msyncTimer
  /-- R402: Edges appear on TWIN_HBI; PARTNER_HB and PARTNER_FOUND are set. -/
  | heartbeatFound
  /-- R371: TWIN_PROLE falls at a device, its status changes, and COLD becomes acceptable. -/
  | partnerRoleDeassert
  /-- R388: No LOOP frame arrives within LS_PERIOD + 5 µs of the last one; LS_FRESH and ELIGIBLE clear and ELIGIBLE_LOST is set. -/
  | loopFrameOverdue
  /-- R537: The erase of an update target slot completes and UPDATE_OPEN or recovery OPEN completes DONE. -/
  | slotEraseDone (ok : Bool)
  /-- R538: A parcel's programming and read-back complete and PARCEL_WRITE completes DONE, clearing PARCEL_LOCK. -/
  | parcelProgrammed (ok : Bool)
  /-- R541: Verification of a written package ends; the slot becomes VERIFIED or INVALID and the session closes. -/
  | packageVerifyDone
  /-- R48: An OTP write for KEY_ENROL, KEY_REVOKE or IMAGE_FLOOR completes and the command completes. -/
  | otpWriteDone
  /-- R546: A paused port core resumes on its new slot, or a platform set reaches step 5, and UPDATE_ACTIVATE completes. -/
  | activationDone (ok : Bool)
  /-- R8: A master writes a register that has no row of its own; the write is applied or refused under its access code. -/
  | registerWrite (m : Fin 5) (addr : Nat) (v : Word)
  /-- R26: A clock fails its lock or frequency check and raises its clock-failure source. -/
  | clockCheckFail (k : ClockId)
  /-- R29: An edge die receives a CONTROL frame carrying a fence, reference, guard, VCONN or parameter command and applies it locally. -/
  | edgeControlFrame (p : Fin 32) (k : EdgeCmd)
  /-- R119: A cable answer to Discover Identity arrives and the port core derives the cable limits. -/
  | cableIdentityAnswer (p : Fin 32) (sop2 : Bool) (a : CableAnswer)
  /-- R137: A service readout IDENT request is answered with the hub die identity. -/
  | ident (p : Fin 32) (tag : Fin 128)
  /-- R137: A service readout STATE request is answered with mode, reset reason, fault count and postmark. -/
  | serviceState (p : Fin 32) (tag : Fin 128)
  /-- R137: A service readout JTAIL request is answered with a record position and its first 16 bytes. -/
  | jtail (p : Fin 32) (tag : Fin 128) (arg : Nat)
  /-- R137: A service readout JREAD request is answered with 20 journal bytes from an offset. -/
  | jread (p : Fin 32) (tag : Fin 128) (arg : Nat)
  /-- R137: A service readout FAULTS request is answered with entries of the uncleared fault list. -/
  | serviceFaults (p : Fin 32) (tag : Fin 128) (arg : Nat)
  /-- R137: A service readout request with an unknown command is answered with status UNKNOWN. -/
  | serviceUnknownCmd (p : Fin 32) (tag : Fin 128) (cmd : Fin 16)
  /-- R18: PX receives a PD message, answers GoodCRC, checks MessageID and queues it for the port core. -/
  | pdMessageReceived (p : Fin 32) (msg : PdMsg)
  /-- R139: GoodCRC arrives for a sent message and its retry timer stops. -/
  | pdGoodcrcReceived (p : Fin 32)
  /-- R182: As sink the port core answers a partner's Source_Capabilities with a request for fixed 5 V. -/
  | sourceCapabilities (p : Fin 32) (pdos : List Word)
  /-- R159: As source the port core evaluates a Request and answers Accept or Reject. -/
  | request (p : Fin 32) (rdo : Word)
  /-- R159: In EPR mode the port core evaluates an EPR_Request and answers Accept or Reject. -/
  | eprRequest (p : Fin 32) (rdo pdoCopy : Word)
  /-- R144: Get_Source_Cap is answered with Source_Capabilities or EPR_Source_Capabilities. -/
  | getSourceCap (p : Fin 32)
  /-- R144: Get_Sink_Cap is answered with Sink_Capabilities or Not_Supported. -/
  | getSinkCap (p : Fin 32)
  /-- R158: Get_Source_Cap_Extended is answered with the cut PDP ratings. -/
  | getSourceCapExtended (p : Fin 32)
  /-- R167: EPR_Mode Enter is acknowledged and answered with Enter Succeeded or Enter Failed. -/
  | eprModeEnter (p : Fin 32) (pdp : Nat)
  /-- R168: EPR_Mode Exit from the sink leads to Source_Capabilities or Hard Reset. -/
  | eprModeExit (p : Fin 32)
  /-- R144: EPR_Get_Source_Cap is answered with EPR_Source_Capabilities. -/
  | eprGetSourceCap (p : Fin 32)
  /-- R168: EPR_KeepAlive is answered with EPR_KeepAlive_Ack. -/
  | eprKeepalive (p : Fin 32)
  /-- R183: Get_Status is answered with a Status message. -/
  | getStatus (p : Fin 32)
  /-- R169: Get_PPS_Status is answered with PPS_Status or Not_Supported. -/
  | getPpsStatus (p : Fin 32)
  /-- R144: Get_Revision is answered with revision 3.2, version 1.0. -/
  | getRevision (p : Fin 32)
  /-- R158: Get_Source_Info is answered with Source_Info. -/
  | getSourceInfo (p : Fin 32)
  /-- R171: PR_Swap is answered and, when accepted, the power-role swap sequence starts. -/
  | prSwap (p : Fin 32)
  /-- R172: DR_Swap is accepted or rejected and DROLE follows. -/
  | drSwap (p : Fin 32)
  /-- R173: VCONN_Swap is answered and, when accepted, VCONN responsibility changes. -/
  | vconnSwap (p : Fin 32)
  /-- R171: An Accept from the partner advances the device's own AMS. -/
  | accept (p : Fin 32)
  /-- R160: A Reject from the partner ends the device's AMS with the contract unchanged. -/
  | reject (p : Fin 32)
  /-- R171: The partner's PS_RDY advances a swap or transition sequence. -/
  | psRdy (p : Fin 32)
  /-- R176: Soft_Reset is accepted, MessageID resets and a source resends Source_Capabilities. -/
  | softReset (p : Fin 32)
  /-- R147: A Vendor_Defined message is answered with Not_Supported unless it is an accepted service readout request. -/
  | vendorDefined (p : Fin 32) (header : Word) (body : List Word)
  /-- R144: An Alert is journalled without answer. -/
  | alert (p : Fin 32)
  /-- R144: A Ping is ignored after GoodCRC. -/
  | ping (p : Fin 32)
  /-- R143: BIST Carrier Mode at vSafe5V starts transmission of the carrier. -/
  | bistCarrierMode (p : Fin 32)
  /-- R143: BIST Test Data at vSafe5V makes the port discard messages until Hard Reset. -/
  | bistTestData (p : Fin 32)
  /-- R142: A chunk request makes PX send the next chunk of an extended message. -/
  | chunkRequest (p : Fin 32) (n : Nat)
  /-- R145: Any other message is answered with Not_Supported, or per PD 2.0 rules. -/
  | unsupportedMessage (p : Fin 32) (control : Bool)
  /-- R174: Hard Reset signalling is received and the source or sink Hard Reset sequence starts. -/
  | hardResetReceived (p : Fin 32)
  /-- R181: An owner write to PORTn_LIMIT starts a division of the hands. -/
  | portLimitWrite (m : Fin 5) (p : Fin 32) (v : Word)
  /-- R223: An owner write of 1 to PHASEn_CMD.RETIRE retires the phase without a fault. -/
  | phaseRetireCmd (m : Fin 5) (ph : Fin 64)
  /-- R244: The owner's MONc_CMD.SETTLE forces a channel out of UNSETTLED. -/
  | settle (m : Fin 5) (ch : Fin 204) (aboveHi aboveLo : Bool)
  /-- R255: The owner's MONc_CMD.CAL_NEXT puts a channel next in its calibration group. -/
  | calNext (m : Fin 5) (ch : Fin 204)
  /-- R268: An owner write to MON_CAL_CTL sets PAUSE and the clamped STEP_MS. -/
  | monCalCtlWrite (m : Fin 5) (v : Word)
  /-- R265: An owner write to CVx_TRIG triggers the selected sequences. -/
  | cvxTrig (m : Fin 5) (cv : Fin 5) (v : Word)
  /-- R264: Clearing a SEQ_EN bit drops the rest of a sequence and writes an INCOMPLETE block. -/
  | seqEnDisable (m : Fin 5) (cv : Fin 5) (sq : Fin 16)
  /-- R264: Clearing CONT_EN lets the conversion in progress finish and starts no more. -/
  | contEnClear (m : Fin 5) (cv : Fin 5)
  /-- R263: A read of RESs_STAMP_LO copies the result block into the master's read buffer. -/
  | ressStampLoRead (m : Fin 5) (cv : Fin 5) (sq : Fin 16)
  /-- R283: The feed current exceeds 2 × ILIM; the gate turns off and OC_TRIP latches the feed. -/
  | feedOvercurrentTrip (f : Fin 4)
  /-- R286: The feed FET temperature trips; FET_TEMP is raised and a ramping or on feed latches. -/
  | fetTempTrip (f : Fin 4)
  /-- R297: The port current exceeds 2.5 × ILIM; the guard is pulled off and latched with GUARD_TRIP. -/
  | guardShortTrip (p : Fin 32)
  /-- R315: A write of POSTx_CTL.EN enables a link or takes it DOWN at once. -/
  | postEnableWrite (m : Fin 5) (l : Fin 3) (v : Word)
  /-- R319: A HELLO is received; link training advances and the neighbour's ledger is compared. -/
  | hello (l : Fin 3) (hdr : PostHdr) (h : Hello)
  /-- R323: A child's BID is received and its entries are merged into the next bid. -/
  | bid (l : Fin 3) (hdr : PostHdr) (b : Bid)
  /-- R324: A DEAL is received, forwarded and held, setting allotments and pending cuts. -/
  | deal (l : Fin 3) (hdr : PostHdr) (d : Deal)
  /-- R343: A SYNC is received and answered with SYNC_REPLY. -/
  | sync (l : Fin 3) (hdr : PostHdr) (t1 t2 t3 : Nat)
  /-- R343: A SYNC_REPLY is received; delay and offset are computed and TB is steered. -/
  | syncReply (l : Fin 3) (hdr : PostHdr) (t1 t2 t3 t4 : Nat)
  /-- R333: An ELECT is received and the best key is updated, forwarded or answered. -/
  | elect (l : Fin 3) (hdr : PostHdr) (x : Elect)
  /-- R350: An ORDER frame is received, forwarded to the dealer or kept by a member. -/
  | order (l : Fin 3) (hdr : PostHdr) (o : Order)
  /-- R322: A CARD is received and forwarded towards the dealer or entered by it. -/
  | card (l : Fin 3) (hdr : PostHdr) (k : Card)
  /-- R322: An owner write of LEDGER_CMD.CARD sends a CARD now. -/
  | ledgerCmdCard (m : Fin 5)
  /-- R378: An MHELLO is received and mirror training or partner state advances. -/
  | mhello (h : MHello)
  /-- R382: A SHADOW receives an URGENT fence value and its edge die holds it. -/
  | mirrorFence (p : Fin 32) (mv : Nat)
  /-- R386: A SHADOW receives a LOOP frame and tracks each port's loop from it. -/
  | loopState (stamp : Nat) (recs : List LoopRec)
  /-- R379: An MSYNC exchange arrives and the SHADOW steers its TB to the ACTIVE's. -/
  | msync (t1 t2 t3 t4 : Nat)
  /-- R381: A SHADOW receives port protocol records and programs its CC thresholds from them. -/
  | protocolRecord (rec : ProtoRec)
  /-- R383: A SHADOW receives a mirrored DEAL payload and keeps the ledger state. -/
  | mirrorLedger (d : Deal)
  /-- R384: A SHADOW receives journal appends and writes them marked as mirrored. -/
  | mirrorJournal (cls : Fin 16) (payload : List Byte)
  /-- R384: A SHADOW receives images, amendments, orders, rolls, census results or MT register accesses. -/
  | mirrorControl (x : MirrorCtl)
  /-- R396: The ACTIVE owner writes TWIN_CMD.HANDOVER and an URGENT handover frame names an instant. -/
  | handover (m : Fin 5)
  /-- R397: The SHADOW owner writes TWIN_CMD.TAKEOVER and a takeover runs when eligible. -/
  | twinCmdTakeover (m : Fin 5)
  /-- R398: The SHADOW owner writes TWIN_CMD.COLD and takes over without eligibility. -/
  | cold (m : Fin 5)
  /-- R465: An SPI WRITE transaction is received and its words applied after the CRC passes. -/
  | spiWrite (b : Fin 2) (addr : Nat) (words : List Word) (crc : Option Nat)
  /-- R466: An SPI READ transaction reads words in address order after its header CRC passes. -/
  | spiRead (b : Fin 2) (addr count : Nat) (crc : Option Nat) (read : Nat)
  /-- R468: An SPI STATUS transaction returns the status byte and clears RESET for the master. -/
  | spiStatus (b : Fin 2)
  /-- R463: An SPI transaction with an unknown command byte is ignored until CS# rises. -/
  | spiUnknownCommand (b : Fin 2)
  /-- R469: A UART READ frame is answered with the words read. -/
  | uartRead (addr count : Nat)
  /-- R469: A UART WRITE frame's words are applied and a response is sent. -/
  | uartWrite (addr : Nat) (words : List Word)
  /-- R470: A partial UART frame is dropped after a 10-byte-time gap, or a bad-CRC frame is dropped. -/
  | uartFrameDrop (badCrc : Bool)
  /-- R524: A management READ request is answered with the words read. -/
  | mgmtRead (crcOk : Bool) (ep seq addr count : Nat)
  /-- R524: A management WRITE request is applied once and replied to. -/
  | mgmtWrite (crcOk : Bool) (ep seq addr : Nat) (words : List Word)
  /-- R524: A management STATUS request is answered with the status byte. -/
  | mgmtStatus (crcOk : Bool) (ep seq : Nat)
  /-- R525: A repeated management request receives the kept reply with nothing applied. -/
  | mgmtRetry (ep seq : Nat)
  /-- R503: Every 100 ms the MAC reads the PHY's negotiation result over MDIO. -/
  | mdioPoll (res : PhyResult)
  /-- R503: The PHY's link rises; speed and duplex are read and ARP and IGMP announcements follow. -/
  | phyLinkRise (res : PhyResult)
  /-- R504: An MDIO transaction ends; GO clears and a read result is stored. -/
  | mdioComplete (data : BitVec 16)
  /-- R508: An ARP request for the device's address is answered. -/
  | arpRequest (ip mac target : Nat)
  /-- R509: An ICMP echo request is answered with an echo reply or discarded. -/
  | icmpEchoRequest (src len : Nat)
  /-- R510: An IGMP membership query is answered within its response time. -/
  | igmpQuery (group : Nat)
  /-- R513: A TRDP process-data telegram is received, checked and stored for its subscription. -/
  | trdpPdReceive (x : TrdpIn)
  /-- R516: An Mn notification carrying dataset 4 or 5 is accepted. -/
  | mdNotification (x : TrdpIn)
  /-- R516: An Mr request is answered with Mp or Me. -/
  | mdRequest (comId : Nat)
  /-- R512: An IEEE 1588 event message is sent or received and stamped into the queue. -/
  | ptpEventMessage (tx : Bool) (kind : Fin 16) (sqid : BitVec 16) (stamp : Nat)
  /-- R606: A supervised supply stays below its falling threshold for 50 ns and is out of range. -/
  | supplyOutOfRange (x : Supply)
  /-- R568: RST# is released with the rails in range, or a latched wake finds them, and the BOOT programme runs. -/
  | bootStart (obs : BootObs)
  /-- R433: An SV, port-core or edge microcode watchdog expires and hardware restarts the core; the heartbeat stops when it escalates to RESET_BLOCK or above. -/
  | watchdogExpiry (core : Fin 9) (restarted : Bool)
  /-- R433: The condition of a level source ends; COND clears, and for TEMP_TRIP the hardware response of R434 ends. -/
  | faultConditionEnd (src : Fin 768)
  /-- R606: A supervised supply stays above its rising threshold for 10 µs and is in range again; a die starts afresh in minimal mode with its channels UNSETTLED. -/
  | supplyInRange (x : Supply)
  deriving DecidableEq, Repr

end Sys2Proof
end

