-- ==== Sys2Proof/Config.lean ====
section
/-! DEFINITION. What an implementation fixes and the spec leaves open: constants without a body (log entry 5). -/

namespace Sys2Proof

/-- A value the spec leaves open where the machine goes on; the argument is the state's counter of such values (log entry 5). -/
opaque Config.freeWord : Nat → Word

/-- SHA-256 hash of Uzorosin firmware key 0 or 1 in the ROM of HUB-BOOT (14 R533): the spec gives no value. -/
opaque Config.romKeyHash : Fin 2 → Nat

/-- Readings of the die temperature sensors, in units of 0.125 degrees (17 R614): the spec gives no value. -/
opaque Config.dieTemp : Nat → Fin 6 → Int

/-- Voltage at the input of a feed, FVINf in 10 mV, and across its hot-swap FET in 10 mV (07 R271, R281): no command carries them. -/
opaque Config.feedVin : Nat → Fin 4 → Nat
opaque Config.feedVds : Nat → Fin 4 → Nat

/-- Voltage across a port guard in mV (07 R296), its dissipation estimate and the peak of its last limiting episode in 0.1 W (07 R299, R307): no command
carries them. -/
opaque Config.guardVds : Nat → Fin 32 → Nat
opaque Config.guardHeat : Nat → Fin 32 → Nat
opaque Config.guardPeak : Nat → Fin 32 → Nat

end Sys2Proof
end

