-- ==== Sys2Proof/Machine/Bits.lean ====
section
/-! DEFINITION. Bit fields, byte order and saturation: the helpers every register and frame uses (00 R3, R4). -/

namespace Sys2Proof.Machine

/-- Bits lo to lo + n - 1 of a word, as a number. -/
def bits (w : Word) (lo n : Nat) : Nat := (w.toNat >>> lo) % 2 ^ n

/-- Bit i of a word. -/
def bit (w : Word) (i : Nat) : Bool := w.getLsbD i

/-- The number of a flag. -/
def b2n (b : Bool) : Nat := if b then 1 else 0

/-- A register word from its fields: (least bit, width, value) each; a value is cut to its width. -/
def packNat : List (Nat × Nat × Nat) → Nat
  | [] => 0
  | (lo, n, v) :: r => (v % 2 ^ n) * 2 ^ lo + packNat r

/-- The word of `packNat`. -/
def pack (l : List (Nat × Nat × Nat)) : Word := BitVec.ofNat 32 (packNat l)

/-- One bit of an event register set. -/
def setBit (w : Word) (i : Nat) : Word := w ||| BitVec.ofNat 32 (2 ^ i)

/-- One bit of a register cleared. -/
def clrBit (w : Word) (i : Nat) : Word := w &&& ~~~ BitVec.ofNat 32 (2 ^ i)

/-- One bit of a register given. -/
def putBit (w : Word) (i : Nat) (b : Bool) : Word := if b then setBit w i else clrBit w i

/-- A counter that saturates. -/
def sat (m n : Nat) : Nat := min m n

/-- A saturating 8-bit count, one more. -/
def inc8 (n : Nat) : Nat := sat 255 (n + 1)

/-- A count that wraps at 2 ^ k. -/
def wrapInc (k n : Nat) : Nat := (n + 1) % 2 ^ k

/-- The low bits of an integer in two's complement. -/
def twos (k : Nat) (i : Int) : Nat := (i % (2 ^ k : Int)).toNat

/-- An integer read from k bits in two's complement. -/
def signed (k n : Nat) : Int := if n < 2 ^ (k - 1) then (n : Int) else (n : Int) - (2 ^ k : Int)

/-- Little-endian bytes to a number (00 R3). -/
def leNat : List Byte → Nat
  | [] => 0
  | b :: r => b.toNat + 256 * leNat r

/-- A number as k little-endian bytes. -/
def toLe : Nat → Nat → List Byte
  | 0, _ => []
  | k + 1, n => BitVec.ofNat 8 n :: toLe k (n / 256)

/-- Big-endian bytes to a number. -/
def beNat (l : List Byte) : Nat := leNat l.reverse

/-- A number as k big-endian bytes. -/
def toBe (k n : Nat) : List Byte := (toLe k n).reverse

/-- n bytes of a string from an offset; bytes past its end read 0. -/
def bytesAt (l : List Byte) (ofs n : Nat) : List Byte :=
  let r := (l.drop ofs).take n
  r ++ List.replicate (n - r.length) 0

/-- A little-endian field of a string. -/
def fieldAt (l : List Byte) (ofs n : Nat) : Nat := leNat (bytesAt l ofs n)

/-- One byte of a string, as a number. -/
def byteAt (l : List Byte) (ofs : Nat) : Nat := fieldAt l ofs 1

/-- Word i of a little-endian number of many words. -/
def wordOf (n i : Nat) : Word := BitVec.ofNat 32 (n / 2 ^ (32 * i))

/-- Division rounded up. -/
def ceilDiv (a b : Nat) : Nat := if b = 0 then 0 else (a + b - 1) / b

/-- An element of a bank changed in place. -/
def upd {α : Type} {n : Nat} (v : Vector α n) (i : Fin n) (f : α → α) : Vector α n := v.set i (f v[i])

/-- Every element of a bank changed. -/
def updAll {α : Type} {n : Nat} (v : Vector α n) (f : Fin n → α → α) : Vector α n := Vector.ofFn fun i => f i v[i]

/-- The indices of a bank. -/
def indices (n : Nat) : List (Fin n) := List.finRange n

/-- A word whose bit i is the predicate at i. -/
def maskOf {n : Nat} (f : Fin n → Bool) : Word := BitVec.ofNat 32 ((indices n).foldl (fun a i => if f i then a + 2 ^ i.val else a) 0)

/-- The number of indices at which a predicate holds. -/
def countWhere {n : Nat} (f : Fin n → Bool) : Nat := ((indices n).filter f).length

/-- A sum over the indices of a bank. -/
def sumOver {n : Nat} (f : Fin n → Nat) : Nat := (indices n).foldl (fun a i => a + f i) 0

/-- An element put in its place in a sorted list. -/
def insertBy {α : Type} (le : α → α → Bool) (x : α) : List α → List α
  | [] => [x]
  | y :: r => if le x y then x :: y :: r else y :: insertBy le x r

/-- A list sorted. -/
def sortBy {α : Type} (le : α → α → Bool) : List α → List α
  | [] => []
  | x :: r => insertBy le x (sortBy le r)

end Sys2Proof.Machine
end

