-- ==== Sys2Proof/Machine/Crypto.lean ====
section
/-! DEFINITION. The published functions the spec names: CRC-16/CCITT-FALSE (12 R464), CRC-32C, SHA-256 and ECDSA over P-256 (02 R46). Written from their standards (log entry 8). -/

namespace Sys2Proof.Machine

/-- Eight steps of a reflected CRC-32C register, polynomial 0x1EDC6F41. -/
def crc32cByte : Nat → Word → Word
  | 0, c => c
  | k + 1, c => crc32cByte k (if c.getLsbD 0 then (c >>> 1) ^^^ 0x82F63B78 else c >>> 1)

/-- CRC-32C register over bytes. -/
def crc32cFold : List Byte → Word → Word
  | [], c => c
  | b :: r, c => crc32cFold r (crc32cByte 8 (c ^^^ BitVec.ofNat 32 b.toNat))

/-- CRC-32C of a byte string. -/
def crc32c (l : List Byte) : Nat := (~~~ (crc32cFold l 0xFFFFFFFF)).toNat

/-- Eight steps of a CRC-16 register, polynomial 0x1021, not reflected (12 R464). -/
def crc16Byte : Nat → BitVec 16 → BitVec 16
  | 0, c => c
  | k + 1, c => crc16Byte k (if c.getLsbD 15 then (c <<< 1) ^^^ 0x1021 else c <<< 1)

/-- CRC-16 register over bytes. -/
def crc16Fold : List Byte → BitVec 16 → BitVec 16
  | [], c => c
  | b :: r, c => crc16Fold r (crc16Byte 8 (c ^^^ (BitVec.ofNat 16 b.toNat <<< 8)))

/-- CRC-16/CCITT-FALSE (12 R464). -/
def crc16 (l : List Byte) : Nat := (crc16Fold l 0xFFFF).toNat

/-- The 32-bit words of a number, the most significant first: the last k of them. -/
def numWords : Nat → Nat → List Word
  | 0, _ => []
  | k + 1, n => BitVec.ofNat 32 (n / 2 ^ (32 * k)) :: numWords k n

/-- The round constants of SHA-256, sixteen to a number. -/
def shaK : List Word :=
  [0x428a2f9871374491b5c0fbcfe9b5dba53956c25b59f111f1923f82a4ab1c5ed5d807aa9812835b01243185be550c7dc372be5d7480deb1fe9bdc06a7c19bf174,
    0xe49b69c1efbe47860fc19dc6240ca1cc2de92c6f4a7484aa5cb0a9dc76f988da983e5152a831c66db00327c8bf597fc7c6e00bf3d5a7914706ca635114292967,
    0x27b70a852e1b21384d2c6dfc53380d13650a7354766a0abb81c2c92e92722c85a2bfe8a1a81a664bc24b8b70c76c51a3d192e819d6990624f40e3585106aa070,
    0x19a4c1161e376c082748774c34b0bcb5391c0cb34ed8aa4a5b9cca4f682e6ff3748f82ee78a5636f84c878148cc7020890befffaa4506cebbef9a3f7c67178f2].flatMap (numWords 16)

/-- The initial hash value of SHA-256. -/
def shaH0 : List Word := numWords 8 0x6a09e667bb67ae853c6ef372a54ff53a510e527f9b05688c1f83d9ab5be0cd19

/-- The sum modulo 2 of some rotations of a word. -/
def rots (l : List Nat) (x : Word) : Word := (l.map fun k => x.rotateRight k).foldl (· ^^^ ·) 0

/-- Message schedule: the last sixteen words, newest first, extended by k words. -/
def shaExtend : Nat → List Word → List Word
  | 0, l => l
  | k + 1, l =>
    let w (i : Nat) : Word := l.getD (i - 1) 0
    shaExtend k ((w 16 + w 7 + (rots [7, 18] (w 15) ^^^ (w 15 >>> 3)) + (rots [17, 19] (w 2) ^^^ (w 2 >>> 10))) :: l)

/-- One round of SHA-256 on its eight words, with the sum of its constant and its schedule word. -/
def shaRound : List Word → Word → List Word
  | [a, b, c, d, e, f, g, h], kw =>
    let t := kw + h + rots [6, 11, 25] e + (g ^^^ (e &&& (f ^^^ g)))
    [t + rots [2, 13, 22] a + ((a &&& (b ||| c)) ||| (b &&& c)), a, b, c, t + d, e, f, g]
  | l, _ => l

/-- One block of SHA-256: sixteen words into the hash value. -/
def shaBlock (h : List Word) (w : List Word) : List Word :=
  List.zipWith (· + ·) h ((List.zipWith (· + ·) shaK (shaExtend 48 w.reverse).reverse).foldl shaRound h)

/-- Sixteen big-endian words of a block of bytes. -/
def beWords : Nat → List Byte → List Word
  | 0, _ => []
  | k + 1, l => BitVec.ofNat 32 (beNat (l.take 4)) :: beWords k (l.drop 4)

/-- The blocks of a padded message. -/
def shaBlocks : Nat → List Byte → List Word → List Word
  | 0, _, h => h
  | k + 1, l, h => shaBlocks k (l.drop 64) (shaBlock h (beWords 16 (l.take 64)))

/-- The padding of SHA-256: 0x80, zeros, the length in bits as 64 bits. -/
def shaPad (l : List Byte) : List Byte :=
  l ++ (0x80 : Byte) :: List.replicate ((119 - l.length % 64) % 64) 0 ++ toBe 8 (8 * l.length)

/-- SHA-256 of a byte string, as a number of 256 bits, most significant byte first. -/
def sha256 (l : List Byte) : Nat :=
  let p := shaPad l
  (shaBlocks (p.length / 64) p shaH0).foldl (fun a w => a * 2 ^ 32 + w.toNat) 0

/-- The field prime of P-256. -/
def p256P : Nat := 2 ^ 256 - 2 ^ 224 + 2 ^ 192 + 2 ^ 96 - 1

/-- The group order of P-256. -/
def p256N : Nat := 0xffffffff00000000ffffffffffffffffbce6faada7179e84f3b9cac2fc632551

/-- The coefficient b of P-256. -/
def p256B : Nat := 0x5ac635d8aa3a93e7b3ebbd55769886bc651d06b0cc53b0f63bce3c3e27d2604b

/-- The base point of P-256. -/
def p256Gx : Nat := 0x6b17d1f2e12c4247f8bce6e563a440f277037d812deb33a0f4a13945d898c296
def p256Gy : Nat := 0x4fe342e2fe1a7f9b8ee7eb4a7c0f9e162bce33576b315ececbb6406837bf51f5

/-- Modular power by square and multiply over k bits of the exponent. -/
def powMod (m : Nat) : Nat → Nat → Nat → Nat
  | 0, _, _ => 1 % m
  | k + 1, b, e => (if e % 2 = 1 then b * powMod m k (b * b % m) (e / 2) else powMod m k (b * b % m) (e / 2)) % m

/-- Inverse modulo a prime, by Fermat's theorem. -/
def invMod (m a : Nat) : Nat := powMod m 256 (a % m) (m - 2)

/-- Subtraction modulo m. -/
def subMod (m a b : Nat) : Nat := (a + (m - b % m)) % m

/-- Sum of two points of P-256; none is the point at infinity. -/
def p256Add : Option (Nat × Nat) → Option (Nat × Nat) → Option (Nat × Nat)
  | none, q => q
  | p, none => p
  | some (x1, y1), some (x2, y2) =>
    if x1 = x2 ∧ (y1 + y2) % p256P = 0 then none
    else
      let s := if x1 = x2 then (subMod p256P (3 * x1 * x1) 3) * invMod p256P (2 * y1) % p256P
        else subMod p256P y2 y1 * invMod p256P (subMod p256P x2 x1) % p256P
      let x3 := subMod p256P (subMod p256P (s * s) x1) x2
      some (x3, subMod p256P (s * subMod p256P x1 x3) y1)

/-- Multiple of a point over k bits of the factor. -/
def p256Mul : Nat → Nat → Option (Nat × Nat) → Option (Nat × Nat)
  | 0, _, _ => none
  | k + 1, n, p => let r := p256Mul k (n / 2) (p256Add p p); if n % 2 = 1 then p256Add p r else r

/-- A public key is a point of the curve other than infinity. -/
def p256OnCurve (x y : Nat) : Bool := decide (x < p256P) && decide (y < p256P) && decide (y * y % p256P = (x * x * x + (p256P - 3) * x + p256B) % p256P)

/-- ECDSA verification over P-256 with a hash of 256 bits (02 R46). -/
def ecdsaVerify (x y hash r s : Nat) : Bool :=
  if p256OnCurve x y && decide (0 < r) && decide (r < p256N) && decide (0 < s) && decide (s < p256N) then
    let w := invMod p256N s
    match p256Add (p256Mul 256 (hash * w % p256N) (some (p256Gx, p256Gy))) (p256Mul 256 (r * w % p256N) (some (x, y))) with
    | none => false
    | some (vx, _) => vx % p256N == r
  else false

end Sys2Proof.Machine
end

