-- ==== Sys2Proof/Machine/ImageCfg.lean ====
section
/-! DEFINITION. The running configuration: the records of the sections of an image (02 R53 to R72), with the defaults of their tables. -/

namespace Sys2Proof.Machine

/-- DEVICE section (02 R53). -/
structure DeviceCfg where
  name : List Byte := []
  vehicle : Nat := 0
  position : Nat := 0
  coded : BitVec 8 := 0x3F
  healthS : Nat := 30
  twarn : Nat := 110
  tact : Nat := 120
  deriving DecidableEq, Repr

/-- FEEDS section (02 R54). -/
structure FeedCfg where
  uvRise : Nat := 0
  uvFall : Nat := 0
  ovRise : Nat := 0
  ovFall : Nat := 0
  insDelay : Nat := 1
  insTimeout : Nat := 10
  ilim : Nat := 0
  ftimer : Nat := 10
  pfet : Nat := 0
  tsrc : Nat := 0
  tfet : Nat := 100
  pgVds : Nat := 0
  fflags : BitVec 8 := 0
  rth : Nat := 0
  tau : Nat := 0
  deriving DecidableEq, Repr

/-- PORT section (02 R55). -/
structure PortCfg where
  cls : Nat := 0
  roles : Nat := 0
  pflags : BitVec 8 := 0
  offerSet : Fin 16 := 0
  rp : Nat := 0
  drpol : Bool := false
  trump : Nat := 0
  debounce : Nat := 100
  ilim : Nat := 1000
  gtimer : Nat := 50
  pguard : Nat := 0
  slewSs : Nat := 1000
  slewUp : Nat := 1000
  slewDn : Nat := 1000
  slewOff : Nat := 500
  deriving DecidableEq, Repr

/-- One PHASE_MAP entry (02 R56). -/
structure PhaseCfg where
  port : Fin 32 := 0
  busB : Bool := false
  sfpol : Bool := false
  ipeak : Nat := 1000
  imonGain : Nat := 1
  deriving DecidableEq, Repr

/-- LOOP section (02 R57). -/
structure LoopCfg where
  fsw : Nat := 200
  gm : Nat := 0
  rz : Nat := 0
  cz : Nat := 0
  cp : Nat := 0
  slope : Nat := 0
  blank : Nat := 2
  iskip : Nat := 0
  lflags : BitVec 8 := 0
  nRun : Nat := 64
  nStart : Nat := 256
  tHiccup : Nat := 60
  mHiccup : Nat := 4
  iSilent : Nat := 500
  iSenseOfs : Nat := 100
  deriving DecidableEq, Repr

/-- One PDO record (02 R58): ptype 0 SPR fixed, 1 PPS, 2 EPR fixed, 3 AVS. -/
structure PdoCfg where
  ptype : Nat := 0
  vmin : Nat := 0
  vmax : Nat := 0
  limit : Nat := 0
  deriving DecidableEq, Repr

/-- OFFERS section (02 R58). -/
structure OfferCfg where
  pdp : Nat := 1
  pdos : List PdoCfg := []
  deriving DecidableEq, Repr

/-- MONITOR CHANNEL record (02 R60). -/
structure ChanCfg where
  mode : Nat := 0
  filter : Nat := 3
  thrHi : Nat := 0
  thrLo : Nat := 0
  hyst : Nat := 0
  safe : Nat := 0
  route : BitVec 8 := 0
  capt : Fin 16 := 0
  deriving DecidableEq, Repr

/-- One SCAN entry (02 R61); chan counts FM i as 192 + i. -/
structure ScanCfg where
  chan : Fin 204 := 0
  ovs : Nat := 1
  sq : Fin 16 := 0
  rate : Nat := 0
  deriving DecidableEq, Repr

/-- One TRIGGER record (02 R61). -/
structure TrigCfg where
  sq : Fin 16 := 0
  tkind : Nat := 0
  tindex : Nat := 0
  tmin : Nat := 0
  deriving DecidableEq, Repr

/-- A scan plan: MONITOR instances 512 to 516 (02 R61). -/
structure ScanPlan where
  scans : List ScanCfg := []
  trigs : List TrigCfg := []
  deriving DecidableEq, Repr

/-- ITM record (02 R63). -/
structure ItmCfg where
  flags : BitVec 8 := 0
  tkind : Nat := 0
  tindex : Nat := 0
  tsub : Nat := 0
  period : Nat := 2
  deriving DecidableEq, Repr

/-- ALM record (02 R63). -/
structure AlmCfg where
  late : Bool := false
  tkind : Nat := 0
  tindex : Nat := 0
  tsub : Nat := 0
  deriving DecidableEq, Repr

/-- SOURCE record (02 R64). -/
structure SourceCfg where
  src : Nat := 0
  sev : Nat := 0
  action : Nat := 0
  grace : Nat := 0
  deriving DecidableEq, Repr

/-- FAULTS section (02 R64). -/
structure FaultsCfg where
  errlvl : Nat := 1
  sources : List SourceCfg := []
  deriving DecidableEq, Repr

/-- MASTER record (02 R66). -/
structure MasterCfg where
  prio : Nat := 8
  mayClaim : Bool := true
  deriving DecidableEq, Repr

/-- RING record (02 R66). -/
structure RingCfg where
  kind : Nat := 0
  master : Fin 5 := 0
  irq : BitVec 2 := 0
  entries : Nat := 8
  base : Nat := 0
  pair : Nat := 0xFF
  deriving DecidableEq, Repr

/-- HOST section (02 R66). -/
structure HostCfg where
  masters : Vector MasterCfg 5 := Vector.replicate 5 {}
  lease : Nat := 1000
  rings : Vector (Option RingCfg) 16 := Vector.replicate 16 none
  deriving DecidableEq, Repr

/-- TRDP record (02 R68). -/
structure TrdpCfg where
  comId : Nat := 0
  subscribe : Bool := false
  dataset : Nat := 1
  cycle : Nat := 10
  dest : Nat := 0
  deriving DecidableEq, Repr

/-- NETWORK section (02 R68). -/
structure NetCfg where
  mac : Nat := 0
  vlan : Nat := 0
  ip : Nat := 0
  mask : Nat := 0
  gw : Nat := 0
  mgmtPort : Nat := 0
  trdp : List TrdpCfg := []
  deriving DecidableEq, Repr

/-- LEDGER section (02 R69). -/
structure LedgerCfg where
  seatKey : Nat := 0
  links : BitVec 8 := 0
  pcRole : Nat := 0
  dealMs : Nat := 10
  kitty : Nat := 0
  floor : Nat := 0
  busA : Nat := 0
  busB : Nat := 0
  deriving DecidableEq, Repr

/-- TWIN section (02 R70). -/
structure TwinCfg where
  en : Bool := false
  prefShadow : Bool := false
  lsPeriod : Nat := 10
  deriving DecidableEq, Repr

/-- Priority and recording of a journal class (02 R71, 15 R578). -/
structure ClassCfg where
  prio : Nat := 0
  on : Bool := true
  deriving DecidableEq, Repr

/-- JOURNAL section (02 R71) with the class defaults of 15 R578. -/
structure JournalCfg where
  classes : Vector ClassCfg 16 := #v[⟨7, true⟩, ⟨6, true⟩, ⟨5, true⟩, ⟨2, true⟩, ⟨4, true⟩, ⟨6, true⟩, ⟨6, true⟩, ⟨3, true⟩,
    ⟨3, true⟩, ⟨5, true⟩, ⟨5, true⟩, ⟨4, true⟩, ⟨7, true⟩, ⟨7, true⟩, ⟨7, true⟩, ⟨0, true⟩]
  jrate : Nat := 3584
  deriving DecidableEq, Repr

/-- ADMISSION section (02 R72). -/
structure AdmCfg where
  depth : Nat := 0
  pdRate : Nat := 50
  jmirror : Nat := 0
  deriving DecidableEq, Repr

/-- The effective configuration: every section instance of an image with its amendments. -/
structure ImageCfg where
  device : DeviceCfg := {}
  feeds : Vector (Option FeedCfg) 4 := Vector.replicate 4 none
  ports : Vector (Option PortCfg) 32 := Vector.replicate 32 none
  phases : Vector (Option PhaseCfg) 64 := Vector.replicate 64 none
  loops : Vector (Option LoopCfg) 32 := Vector.replicate 32 none
  offers : Vector (Option OfferCfg) 16 := Vector.replicate 16 none
  chans : Vector (Option ChanCfg) 204 := Vector.replicate 204 none
  scans : Vector (Option ScanPlan) 5 := Vector.replicate 5 none
  itms : Vector (Option ItmCfg) 16 := Vector.replicate 16 none
  alms : Vector (Option AlmCfg) 32 := Vector.replicate 32 none
  faults : FaultsCfg := {}
  host : HostCfg := {}
  net : Option NetCfg := none
  ledger : LedgerCfg := {}
  twin : TwinCfg := {}
  journal : JournalCfg := {}
  adm : AdmCfg := {}
  deriving DecidableEq, Repr

/-- The parameters that a die holds for itself (01 R24, R29; 05 R226, 07 R292): PHASE_MAP, PORT ROLE, GUARD and RAMP, LOOP and FEEDS, and
whether the card is a twin (09 R371). -/
structure DieParams where
  phases : Vector (Option PhaseCfg) 64 := Vector.replicate 64 none
  ports : Vector (Option PortCfg) 32 := Vector.replicate 32 none
  loops : Vector (Option LoopCfg) 32 := Vector.replicate 32 none
  feeds : Vector (Option FeedCfg) 4 := Vector.replicate 4 none
  twinEn : Bool := false
  deriving DecidableEq, Repr

/-- The parameters that the dies hold under a configuration. -/
def dieParams (c : ImageCfg) : DieParams := { phases := c.phases, ports := c.ports, loops := c.loops, feeds := c.feeds, twinEn := c.twin.en }

end Sys2Proof.Machine
end

