-- ==== Sys2Proof/Machine/Memory.lean ====
section
/-! DEFINITION. Byte memories: ring memory, staging window, report, parcel buffer. A list of cells in one canonical form (addresses strictly rising, no cell equal to what an unlisted address reads as). -/

namespace Sys2Proof.Machine

/-- A byte memory as its listed cells. -/
abbrev Memory := List Host.Cell

/-- What an unlisted byte reads as (log entry 4). -/
def Memory.blank : Byte := 0

/-- One byte of a memory. -/
def Memory.read : Memory → Nat → Byte
  | [], _ => Memory.blank
  | (k, v) :: r, a => if a < k then Memory.blank else if a = k then v else Memory.read r a

/-- One byte written, keeping the canonical form. -/
def Memory.write : Memory → Nat → Byte → Memory
  | [], a, b => if b = Memory.blank then [] else [(a, b)]
  | (k, v) :: r, a, b =>
    if a < k then (if b = Memory.blank then (k, v) :: r else (a, b) :: (k, v) :: r)
    else if a = k then (if b = Memory.blank then r else (k, b) :: r)
    else (k, v) :: Memory.write r a b

/-- Every address of a memory lies above a bound, strictly rising, with no blank cell. -/
def Memory.wfFrom : Nat → Memory → Bool
  | _, [] => true
  | n, (k, v) :: r => decide (n ≤ k) && decide (v ≠ Memory.blank) && Memory.wfFrom (k + 1) r

/-- The canonical form. -/
def Memory.wf (m : Memory) : Bool := Memory.wfFrom 0 m

/-- Bytes written from an address upwards. -/
def Memory.writeBytes (m : Memory) (a : Nat) : List Byte → Memory
  | [] => m
  | b :: r => Memory.writeBytes (Memory.write m a b) (a + 1) r

/-- Bytes read from an address upwards. -/
def Memory.readBytes (m : Memory) (a : Nat) : Nat → List Byte
  | 0 => []
  | n + 1 => Memory.read m a :: Memory.readBytes m (a + 1) n

/-- A little-endian word read (00 R3). -/
def Memory.readWord (m : Memory) (a : Nat) : Word := BitVec.ofNat 32 (leNat (Memory.readBytes m a 4))

/-- A little-endian word written (00 R3). -/
def Memory.writeWord (m : Memory) (a : Nat) (w : Word) : Memory := Memory.writeBytes m a (toLe 4 w.toNat)

end Sys2Proof.Machine
end

