-- ==== Sys2Proof/Machine/Records.lean ====
section
/-! DEFINITION. The pieces of state of each unit of the block, as the register maps and the prose of the spec name them. A default value is the value right after reset. -/

namespace Sys2Proof.Machine

/-- Type-C states (03 R105). -/
inductive TcState where
  | disabled | errorRecovery | unattachedSrc | attachWaitSrc | attachedSrc | trySrc | tryWaitSnk
  | unattachedSnk | attachWaitSnk | attachedSnk | debugSrc | debugSnk | minimal
  deriving DecidableEq, Repr

/-- Rp presented (04 R185 RPLVL). -/
inductive RpLevel where
  | default | a15 | a30 | none
  deriving DecidableEq, Repr

/-- Kind of contract (04 R185 KIND). -/
inductive ContractKind where
  | none | sprFixed | pps | eprFixed | avs | sink
  deriving DecidableEq, Repr

/-- The atomic message sequence a port core is in: what it awaits from the partner or from its own edge die. -/
inductive Ams where
  | none
  | offer            -- capabilities sent, a request is awaited
  | transition       -- Accept sent, the voltage moves, PS_RDY is owed
  | epr              -- EPR mode entry
  | prSwapSrc        -- PR_Swap as old source
  | prSwapSnk        -- PR_Swap as old sink
  | vconnGive        -- VCONN_Swap, the device gives VCONN up
  | vconnTake        -- VCONN_Swap, the device takes VCONN
  | softReset        -- Soft_Reset sent, Accept is awaited
  | hardReset        -- Hard Reset in progress
  | sinkRequest      -- as sink: Request sent
  | sinkTransition   -- as sink: accepted, PS_RDY is awaited
  | discover         -- cable discovery
  | bist             -- BIST
  | drSwap           -- DR_Swap accepted
  | softAnswer       -- Soft_Reset received, Accept goes out
  deriving DecidableEq, Repr

/-- A message handed to PX for transmission: its tries so far (04 R139), and which chunk of 26 data bytes goes out (04 R142). -/
structure PdTx where
  sop : Fin 3
  kind : PdKind
  data : List Word
  tries : Nat
  chunk : Nat := 0
  deriving DecidableEq, Repr

/-- A port: Type-C, Power Delivery, hands and registers (04 R184 to R187). -/
structure Port where
  tc : TcState := .disabled
  minAtt : Bool := false
  orient : Bool := false
  vconnOn : Bool := false
  vconnPin : Bool := false
  source : Bool := false
  dfp : Bool := false
  servicePresent : Bool := false
  deadcar : Bool := false
  enabled : Bool := false
  rp : RpLevel := .none
  rd : Bool := false
  ccCut : BitVec 2 := 0
  vbusHigh : Bool := false
  startFail : Bool := false
  minimal : Bool := false
  rev : Nat := 0
  kind : ContractKind := .none
  position : Nat := 0
  eprMode : Bool := false
  ppsLimited : Bool := false
  mismatch : Bool := false
  swap : Bool := false
  transition : Bool := false
  capsSent : Nat := 0
  volt : Nat := 0
  curr : Nat := 0
  rdo : Word := 0
  fence : Nat := 0
  fencePend : Option Nat := none
  /-- FENCE as PORTn_FENCE shows it: that of the contract the other registers show (04 R187). -/
  fenceReg : Nat := 0
  hand : Nat := 0
  pend : Option (Nat × Nat) := none
  capWatts : Nat := 0
  capMa : Nat := 0
  cableFinding : Nat := 0
  cableEpr : Bool := false
  cableActive : Bool := false
  vconnOc : Bool := false
  cableDone : Bool := false
  cableV : Nat := 0
  cableI : Nat := 0
  cableVid : BitVec 16 := 0
  cablePid : BitVec 16 := 0
  deriving DecidableEq, Repr

/-- A port's registers and protocol engine (04 R184, 01 R18, R19). -/
structure PortPd where
  limit : Nat := 0
  event : Word := 0
  irqen : Word := 0
  fault : Word := 0
  hrTx : Nat := 0
  hrRx : Nat := 0
  softs : Nat := 0
  retries : Nat := 0
  pdos : Vector Word 11 := Vector.replicate 11 0
  sinkPdp : Nat := 0
  sprRating : Nat := 0
  eprRating : Nat := 0
  reach : Nat := 0
  base : Nat := 0
  rxQueue : List PdMsg := []
  /-- TB of the last change of a CC zone in STANDBY (15 R565). -/
  ccStamp : Option Nat := none
  rxId : Option (Fin 8) := none
  txId : Fin 8 := 0
  txId1 : Fin 8 := 0
  txQueue : List PdTx := []
  ams : Ams := .none
  sinkTxNg : Bool := false
  newVolt : Nat := 0
  newCurr : Nat := 0
  newRdo : Word := 0
  newKind : ContractKind := .none
  newPos : Nat := 0
  hardResets : Nat := 0
  discoverTries : Nat := 0
  bistData : Bool := false
  lastRdoEpr : Bool := false
  lastCapsTb : Nat := 0
  breachTb : Option Nat := none
  guardTripTb : Option Nat := none
  disabling : Bool := false
  hrDischarge : Bool := false
  hiccupRestart : Bool := false
  chunks : Option PdTx := none
  rxTb : Nat := 0
  attachCensus : Bool := false
  leaving : Bool := false
  ssDue : Bool := false
  capsDue : Bool := false
  /-- A rise of the hand whose offer waits for the second after the last one (04 R179). -/
  riseDue : Bool := false
  /-- The exchange that SinkTxNG announces is a Discover Identity (04 R141, R148). -/
  discDue : Bool := false
  deb : Bool := false
  /-- The pins whose attach condition the debounce counts: bit 0 CC1, bit 1 CC2 (03 R108). -/
  debPins : Nat := 0
  inWindow : Bool := false
  sentPdos : Vector Word 11 := Vector.replicate 11 0
  sentSink : Nat := 0
  sentSpr : Nat := 0
  sentEpr : Nat := 0
  /-- VMIN and VMAX in mV of the offers last sent, by position (04 R159). -/
  sentLims : Vector (Nat × Nat) 11 := Vector.replicate 11 (0, 0)
  target : Nat := 0
  sopSecond : Bool := false
  deriving DecidableEq, Repr

/-- The fault timer of a guard (07 R274): its count in TB ticks at the instant since, and whether it counts up. -/
structure FaultTimer where
  count : Nat := 0
  since : Nat := 0
  up : Bool := false
  deriving DecidableEq, Repr

/-- States of a port guard (07 R308). -/
inductive GuardState where
  | openG | closing | closed | limiting | latched
  deriving DecidableEq, Repr

/-- A port guard (07 R294 to R308). -/
structure Guard where
  state : GuardState := .openG
  foldback : Bool := false
  timer : FaultTimer := {}
  discharge : Bool := false
  rearmHold : Bool := false
  rearmSpent : Bool := false
  latchWhy : Nat := 0
  openWhy : Nat := 0
  event : Word := 0
  /-- Of EVENT, the bits the hub has seen while the link of the die is lost (01 R631). -/
  evSeen : Word := 0
  irqen : Word := 0
  /-- The dissipation estimate at its last event (07 R299, R301; log entry 38). -/
  therm : Nat := 0
  limits : Nat := 0
  timerTrips : Nat := 0
  shortTrips : Nat := 0
  rearms : Nat := 0
  rearms60 : Nat := 0
  rearmDue : Bool := false
  reached : Bool := false
  deriving DecidableEq, Repr

/-- What a reference ramp belongs to. -/
inductive RampFor where
  | none | softStart | transition | offRamp | minimal
  deriving DecidableEq, Repr

/-- A loop block (05 R199 to R231). -/
structure Loop where
  ref : Nat := 0
  refTb : Nat := 0
  target : Nat := 0
  ramping : Bool := false
  rampFor : RampFor := .none
  slew : Nat := 0
  region : Region := .buck
  switching : Bool := false
  softStart : Bool := false
  deForced : Bool := false
  trunc : Bool := false
  uv : Bool := false
  limitMa : Option Nat := none
  cl : Bool := false
  hiccup : Bool := false
  latched : Bool := false
  skipping : Bool := false
  vinLow : Bool := false
  lc : Nat := 0
  hc : Nat := 0
  vc : Nat := 0
  cycle : Nat := 0
  hoff : Nat := 0
  /-- Unlimited cycles in a row, up to 256 (05 R216). -/
  run : Nat := 0
  /-- The instant from which VBUS_UV can be raised again after a ramp (05 R215). -/
  uvFrom : Nat := 0
  deriving DecidableEq, Repr

/-- States of a phase (05 R229). -/
inductive PhaseState where
  | unused | idle | switching | retired | census | pending
  deriving DecidableEq, Repr

/-- A phase controller (05 R228 to R230). -/
structure Phase where
  state : PhaseState := .unused
  de : Bool := false
  skip : Bool := false
  sf : Bool := false
  why : Nat := 0
  census : Nat := 0
  minimal : Bool := false
  due : Bool := false
  retire : Bool := false
  imonPeak : Nat := 0
  imonAvg : Int := 0
  dutyA : Nat := 0
  dutyB : Nat := 0
  event : Word := 0
  /-- Of EVENT, the bits the hub has seen while the link of the die is lost (01 R631). -/
  evSeen : Word := 0
  irqen : Word := 0
  fault : Word := 0
  limited : Nat := 0
  truncs : Nat := 0
  hiccups : Nat := 0
  zeroMv : Nat := 0
  ownRise : Nat := 0
  foreignPort : Fin 32 := 0
  foreignRise : Nat := 0
  deriving DecidableEq, Repr

/-- A monitor channel (06 R266, R267); codes in threshold LSB. -/
structure Chan where
  enabled : Bool := true
  zone : Zone := .unsettled
  tripHi : Bool := false
  tripLo : Bool := false
  unsetHi : Bool := false
  unsetLo : Bool := false
  spare : Bool := false
  drift : Bool := false
  forced : Bool := false
  frozen : Bool := false
  thrHi : Nat := 0
  relHi : Nat := 0
  thrLo : Nat := 0
  relLo : Nat := 0
  waiting : Option (Nat × Nat × Nat × Nat) := none
  /-- The last samples of the upper and of the lower threshold, tripped or not, the newest first (06 R238). -/
  histHi : List Bool := []
  histLo : List Bool := []
  /-- The instant at which a hold of the zone ends (03 R101, 06 R240). -/
  holdEnd : Nat := 0
  event : Word := 0
  /-- Of EVENT, the bits the hub has seen while the link of the die is lost (01 R631). -/
  evSeen : Word := 0
  irqen : Word := 0
  result : BitVec 16 := 0
  results : Nat := 0
  resultTb : Nat := 0
  trimOfs : Int := 0
  trimGain : Int := 0
  trimErr : Int := 0
  calTb : Nat := 0
  changes : Nat := 0
  cals : Nat := 0
  filter : Nat := 3
  safe : Bool := false
  mode : Bool := false
  route : BitVec 3 := 0
  capt : Fin 16 := 0
  deriving DecidableEq, Repr

/-- A calibration group (06 R249 to R255): its turn, its step and its retries. -/
structure CalGroup where
  turn : Nat := 0
  next : Option (Fin 204) := none
  now : Option (Fin 204) := none
  stage : Nat := 0
  retries : Nat := 0
  skips : Nat := 0
  lastSkips : Nat := 0
  rounds : Nat := 0
  useB : Bool := false
  failedA : Bool := false
  failedB : Bool := false
  stopped : Bool := false
  deriving DecidableEq, Repr

/-- A result block (06 R270). -/
structure ResBlock where
  stamp : Nat := 0
  number : Nat := 0
  members : Nat := 0
  incomplete : Bool := false
  valid : BitVec 16 := 0
  data : Vector (BitVec 16) 16 := Vector.replicate 16 0
  deriving DecidableEq, Repr

/-- A triggered sequence (06 R269 CVx_SEQs, R262). -/
structure Sequence where
  completions : Nat := 0
  drops : Nat := 0
  overruns : Nat := 0
  incomplete : Bool := false
  waiting : Option Nat := none
  lastTrig : Option Nat := none
  block : ResBlock := {}
  deriving DecidableEq, Repr

/-- A converter (06 R269). -/
structure Converter where
  contEn : Bool := false
  seqEn : BitVec 16 := 0
  running : Option (Fin 16 × Nat) := none
  startTb : Nat := 0
  order : List (Fin 16) := []
  event : Word := 0
  irqen : Word := 0
  load : Nat := 0
  seqs : Vector Sequence 16 := Vector.replicate 16 {}
  /-- Read buffers (06 R263): of the five masters, then of the telemetry rings (12 R488). -/
  buffers : Vector (Vector (Option ResBlock) 16) 21 := Vector.replicate 21 (Vector.replicate 16 none)
  deriving DecidableEq, Repr

/-- States of a feed guard (07 R277). -/
inductive FeedState where
  | off | wait | delay | ramp | on | latched | cooling
  deriving DecidableEq, Repr

/-- A feed guard (07 R275 to R305). -/
structure Feed where
  en : Bool := false
  fen : Bool := false
  state : FeedState := .off
  inUv : Bool := false
  inOv : Bool := false
  inWindow : Bool := false
  limiting : Bool := false
  foldback : Bool := false
  timer : FaultTimer := {}
  pg : Bool := false
  pgWarn : Bool := false
  diodeOn : Bool := false
  blocking : Bool := false
  hubLost : Bool := false
  enHeld : Bool := false
  model : Int := 0
  /-- The thermal model has started (07 R285). -/
  modelOn : Bool := false
  latchWhy : Nat := 0
  hot : Bool := false
  event : Word := 0
  /-- Of EVENT, the bits the hub has seen while the link of the die is lost (01 R631). -/
  evSeen : Word := 0
  irqen : Word := 0
  fault : Word := 0
  temp : Int := 0
  trips : Nat := 0
  reverses : Nat := 0
  pgLosses : Nat := 0
  inserts : Nat := 0
  deriving DecidableEq, Repr

/-- States of a link (08 R312, 09 R375). -/
inductive LinkState where
  | down | train | up
  deriving DecidableEq, Repr

/-- A post link (08 R365, R366). -/
structure Post where
  en : Bool := false
  state : LinkState := .down
  lock : Bool := false
  holdoff : Bool := false
  parent : Bool := false
  foreign : Bool := false
  peerDiscord : Bool := false
  rxOk : Bool := false
  hellos : Nat := 0
  peer : Option Hello := none
  peerPm : Nat := 0
  delay : Nat := 0
  rxFrames : Nat := 0
  txFrames : Nat := 0
  errors : Nat := 0
  invalid : Nat := 0
  crcErrs : List Nat := []
  event : Word := 0
  irqen : Word := 0
  deriving DecidableEq, Repr

/-- A frame the device sends on the post links: the links it leaves on and its content. -/
inductive PostOut where
  | hello (h : Hello) | bid (b : Bid) | deal (d : Deal) | sync (t1 : Nat) | syncReply (t1 t2 t3 : Nat)
  | elect (x : Elect) | order (o : Order) | card (k : Card)
  deriving DecidableEq, Repr

/-- A dated order held (08 R350): its parts so far with their roll entries. -/
structure HeldOrder where
  order : Order
  pieces : List (Nat × List (Nat × Nat)) := []
  whole : Bool := false
  applied : Bool := false
  deriving DecidableEq, Repr

/-- What the dealer knows of a member (08 R336, R341, R342, R355). -/
structure Member where
  card : Card
  contract : Nat := 0
  trump : Nat := 0
  kitty : Nat := 0
  bidFlags : Option BidEntry := none
  missing : Nat := 0
  allot : Nat := 0
  cut : Nat := 0
  /-- CUT of the last two deals that held its bid (08 R342, R362). -/
  bidCut0 : Nat := 0
  bidCut1 : Nat := 0
  dup : Bool := false
  /-- Orders up to this number were applied before the device joined (08 R361). -/
  orderBase : Nat := 0
  joining : Bool := false
  kinds : BitVec 8 := 0
  since : Nat := 0
  deriving DecidableEq, Repr

/-- Roles in the ledger (08 R364 ROLE). -/
inductive LedgerRole where
  | none | member | dealer | alone
  deriving DecidableEq, Repr

/-- The ledger engine (08 R363, R364). -/
structure Ledger where
  role : LedgerRole := .none
  candidate : Bool := false
  bestKey : Nat := 0xFFFFFFFF
  bestId : DieId := ⟨0, 0, 0, 0⟩
  candSince : Nat := 0
  standing : Bool := false
  missed : Nat := 0
  merging : Bool := false
  discordant : Bool := false
  conservative : Bool := false
  outsider : Bool := false
  depthExceeded : Bool := false
  dupKey : Bool := false
  tsyncLost : Bool := false
  defaultBudget : Bool := false
  budgetShort : Bool := false
  event : Word := 0
  irqen : Word := 0
  dealer : Nat := 0xFFFFFFFF
  epoch : Nat := 0
  hops : Nat := 0xFF
  slot : Nat := 0xFF
  parent : Option (Fin 3) := none
  dealNo : Nat := 0
  allot : Nat := 0
  cuts : List (Nat × Nat) := []
  budget : Nat := 0
  bidContract : Nat := 0
  bidTrump : Nat := 0
  kittyHeld : Nat := 0
  caps : Vector Nat 4 := Vector.replicate 4 0xFFFF
  orderHeld : Nat := 0
  orderApplied : Nat := 0
  orders : List HeldOrder := []
  orderNo : Nat := 0
  refusedNo : Nat := 0
  roll : List (Nat × Nat) := []
  rollDigest : Nat := 0
  tofs : Int := 0
  trate : Int := 0
  offs : Nat := 0
  onOffs : Nat := 0
  syncsMissed : Nat := 0
  misses : Nat := 0
  lates : Nat := 0
  elections : Nat := 0
  merges : Nat := 0
  last : Option Deal := none
  /-- The deal in force, which the registers show (08 R367). -/
  shown : Option Deal := none
  pendingDeal : Option Deal := none
  prevAllot : Nat := 0
  late : Bool := false
  seq : BitVec 16 := 0
  seen : List (Nat × BitVec 16) := []
  childBids : List BidEntry := []
  members : List Member := []
  budgetInForce : Nat := 0
  budgetSet : Bool := false
  /-- The last six deals held or sent, newest first. -/
  deals : List Deal := []
  winDeals : Nat := 0
  /-- The number of the last winning deal, and TB at it (08 R358, R359). -/
  winNo : Nat := 0
  winTb : Option Nat := none
  /-- The period of the last deal received, on the TB in force (08 R333, R358). -/
  liveNo : Nat := 0
  /-- The other devices that share a member's seat key (08 R355). -/
  dups : List Member := []
  held : Nat := 0
  formerDealer : Bool := false
  foreignOfs : Int := 0
  joinStep : Bool := false
  lastCardDeal : Nat := 0
  sent : List (Fin 3 × PostHdr × PostOut) := []
  passed : Option Nat := none
  epochSeen : Nat := 0
  budgetOld : Option Nat := none
  lastCard : Option Card := none
  mergeDeals : Nat := 0
  mergeDue : Bool := false
  splitSide : Bool := false
  /-- The last two deals held before this device became dealer (08 R362). -/
  splitDeals : List Deal := []
  /-- Orders whose parts the dealer gathers (08 R349). -/
  inbox : List HeldOrder := []
  joinDeals : Nat := 0
  joining : Bool := false
  /-- BOOT has started the engine: EMPTY_ROLL speaks of a roll in force (08 R364). -/
  started : Bool := false
  winKey : Nat := 0xFFFFFFFF
  snapContract : Nat := 0
  snapTrump : Nat := 0
  deriving DecidableEq, Repr

/-- A journal record held or written: class and bytes (15 R576). -/
structure JRec where
  cls : Fin 16
  bytes : List Byte
  deriving DecidableEq, Repr

/-- A frame the device sends on the mirror link (09 R377). -/
inductive MirrorOut where
  | fence (p : Fin 32) (mv : Nat) | takeover | handover (tb : Nat) | loop (stamp : Nat) (recs : List LoopRec)
  | msync (t1 t2 t3 : Nat) | proto (r : ProtoRec) | ledger (x : Deal) | mhello (h : MHello) | journal (r : JRec) | control (x : MirrorCtl)
  deriving DecidableEq, Repr

/-- The twin block (09 R401, R402). -/
structure Twin where
  role : Nat := 0
  eligible : Bool := false
  partnerHb : Bool := false
  prole : Bool := false
  roleOut : Bool := false
  slot : Bool := false
  lsFresh : Bool := false
  lsFreshSince : Nat := 0
  tbLock : Bool := false
  event : Word := 0
  irqen : Word := 0
  inhibit : Bool := false
  replace : Bool := false
  cmd : Word := 0
  link : LinkState := .down
  lock0 : Bool := false
  lock1 : Bool := false
  skew : Nat := 0
  lsAgeMax : Nat := 0
  lastLoop : Option Nat := none
  tofs : Int := 0
  lastCause : Nat := 0
  lastTook : Bool := false
  resume : Nat := 0
  lastTb : Nat := 0
  takeovers : Nat := 0
  releases : Nat := 0
  losses : Nat := 0
  refused : Nat := 0
  errors : Nat := 0
  invalid : Nat := 0
  mhellos : Nat := 0
  peer : Option MHello := none
  heartbeatStopped : Bool := false
  deal : Option Deal := none
  loops : Vector (Option LoopRec) 32 := Vector.replicate 32 none
  protos : Vector (Option ProtoRec) 32 := Vector.replicate 32 none
  handoverAt : Option Nat := none
  crcErrs : List Nat := []
  roleWaits : Nat := 0
  /-- Frames sent, newest first (09 R377), and the counted payload of the last 10 ms by instant (09 R401 LOAD). -/
  sent : List MirrorOut := []
  loadLog : List (Nat × Nat) := []
  /-- STAMP of the last LOOP frame, and ELIGIBLE as it was then (09 R389). -/
  lastStamp : Nat := 0
  eligAtLoop : Bool := false
  /-- The partner postmark to which the slot was last forwarded (09 R399). -/
  forwarded : Option Nat := none
  loopSeq : Nat := 0
  deriving DecidableEq, Repr

/-- An alarm (10 R428). -/
structure Alarm where
  staged : Nat := 0
  commitHi : Option Nat := none
  /-- The low word staged when a commit was written (10 R407). -/
  commitLo : Nat := 0
  cmp : Nat := 0
  late : Bool := false
  shift : Bool := false
  armed : Bool := false
  cancelIn : Nat := 0
  wasLate : Bool := false
  stepped : Bool := false
  missed : Bool := false
  fireTb : Nat := 0
  fires : Nat := 0
  misses : Nat := 0
  lates : Nat := 0
  tkind : Nat := 0
  tindex : Nat := 0
  tsub : Nat := 0
  deriving DecidableEq, Repr

/-- States of an interval timer (10 R415). -/
inductive ItmState where
  | stopped | held | running
  deriving DecidableEq, Repr

/-- A capture (10 R423). -/
structure Capture where
  stamp : Nat
  chan : Fin 204
  zone : Zone
  count : Nat
  deriving DecidableEq, Repr

/-- An interval timer (10 R429). -/
structure Itm where
  clamp : Bool := false
  oneShot : Bool := false
  hold : Bool := false
  reload : Nat := 2
  count : Nat := 1
  state : ItmState := .stopped
  load : Bool := false
  startDue : Bool := false
  /-- A start has taken effect in this tick (10 R416). -/
  started : Bool := false
  cut : Bool := false
  stopIn : Nat := 0
  newReload : Option (Nat × Nat) := none
  zero : Bool := false
  restart : Bool := false
  capOvf : Bool := false
  captures : List Capture := []
  zeroTb : Nat := 0
  zeros : Nat := 0
  drops : Nat := 0
  restarts : Nat := 0
  tkind : Nat := 0
  tindex : Nat := 0
  tsub : Nat := 0
  deriving DecidableEq, Repr

/-- The timer block (10 R426). -/
structure Timers where
  tb : Nat := 0
  /-- Read buffers (10 R405): of the five masters, then of the telemetry rings (12 R488). -/
  tbHi : Vector Nat 21 := Vector.replicate 21 0
  replicas : Vector Nat 5 := Vector.replicate 5 0
  disc : Nat := 0
  shadowSync : Bool := false
  steer : Int := 0
  sinceSteer : Nat := 0
  event : Word := 0
  irqen : Word := 0
  goMask : Nat := 0
  goPending : Bool := false
  goAt : Nat := 0
  goEffect : Nat := 0
  goArmed : Nat := 0
  stepSize : Nat := 0
  fired : Word := 0
  missed : Word := 0
  almIrqen : Word := 0
  summary : Word := 0
  deriving DecidableEq, Repr

/-- A fault source (11 R456). -/
structure Source where
  latch : Bool := false
  cond : Bool := false
  sev : Nat := 0
  eff : Nat := 0
  action : Nat := 0
  grace : Nat := 0
  graceRun : Bool := false
  forced : Bool := false
  realRaise : Bool := false
  acted : Bool := false
  count : Nat := 0
  raises : List Nat := []
  lastRecur : Option Nat := none
  /-- The port or class that the raise of the present latch named, and the snapshot taken at it (11 R448). -/
  index : Nat := 0
  snap : List Byte := []
  /-- Severity, action and grace of an amendment, taken at the next event (02 R91). -/
  later : Option (Nat × Nat × Nat) := none
  deriving DecidableEq, Repr

/-- A coded message (11 R447): word 0 and the fields behind it. -/
structure FaultMsg where
  word0 : Word
  status : Word
  stamp : Nat
  action : Nat
  cfgSev : Nat
  count : Nat
  master : Nat
  graceLeft : Nat
  snapshot : List Byte
  deriving DecidableEq, Repr

/-- The fault collector (11 R455). -/
structure Collector where
  event : Word := 0
  irqen : Word := 0
  errlvl : Nat := 1
  errTest : Bool := false
  escN : Nat := 8
  codedOn : Bool := false
  lost : Nat := 0
  recurSupp : Nat := 0
  graces : List (Fin 768 × Nat) := []
  graceMost : Nat := 0
  graceShort : Nat := 0
  lastSrc : Nat := 0
  lastSev : Nat := 0
  lastTb : Nat := 0
  resetWhy : Nat := 0
  resetSrc : Nat := 0
  sys : Vector Word 7 := Vector.replicate 7 0
  backlog : List FaultMsg := []
  gap : Bool := false
  minimal : Bool := false
  minCause : Nat := 0
  deriving DecidableEq, Repr

/-- A ring (12 R500, R501). -/
structure Ring where
  en : Bool := false
  coalesce : Bool := false
  head : BitVec 16 := 0
  tail : BitVec 16 := 0
  arm : BitVec 16 := 0
  stallWhy : Nat := 0
  event : Word := 0
  irqen : Word := 0
  passed : Nat := 0
  dropped : Nat := 0
  badIndex : Nat := 0
  gap : Bool := false
  addrs : Option (List Nat) := none
  telSeq : Nat := 0
  held : List (List Byte) := []
  deriving DecidableEq, Repr

/-- An accepted, uncompleted command (12 R479): begun once it cannot be undone (12 R495). -/
structure Job where
  ref : CmdRef
  opcode : Nat
  port : Option (Fin 32) := none
  arg : Nat := 0
  arg2 : Nat := 0
  begun : Bool := false
  deriving DecidableEq, Repr

/-- A master (12 R498) and what its last transaction returned. -/
structure Master where
  refused : Nat := 0
  crcErr : Nat := 0
  claiming : Bool := false
  sawReset : Bool := true
  reply : List Word := []
  status : BitVec 8 := 0
  deriving DecidableEq, Repr

/-- A kept management reply (13 R525). -/
structure Kept where
  ep : Nat
  sqn : Nat
  content : List Nat
  status : BitVec 8
  words : List Word
  deriving DecidableEq, Repr

/-- Host interface and ownership (12 R497 to R499). -/
structure HostIf where
  event : Word := 0
  irqen : Word := 0
  owner : Option (Fin 5) := none
  successor : Option (Fin 5) := none
  window : Bool := false
  changes : Nat := 0
  leaseEnd : Nat := 0
  hostLoaded : Bool := false
  irqA : Word := 0
  irqB : Word := 0
  spiDummy : Vector Nat 2 := Vector.replicate 2 8
  spiCount : Vector Nat 2 := Vector.replicate 2 0
  spiCrc : Vector Nat 2 := Vector.replicate 2 0
  spiAbort : Vector Nat 2 := Vector.replicate 2 0
  baud : Nat := 0x480
  uartFrames : Nat := 0
  uartCrc : Nat := 0
  uartDrops : Nat := 0
  rings : Vector Ring 16 := Vector.replicate 16 {}
  jobs : List Job := []
  masters : Vector Master 5 := Vector.replicate 5 {}
  kept : List Kept := []
  deriving DecidableEq, Repr

/-- A stamp of the PTP queue (13 R526). -/
structure PtpStamp where
  tx : Bool
  kind : Fin 16
  sqid : BitVec 16
  stamp : Nat
  deriving DecidableEq, Repr

/-- A telegram's state (13 R527). -/
structure Telegram where
  timeout : Bool := false
  count : Nat := 0
  discard : Nat := 0
  lastTb : Nat := 0
  seqNo : Nat := 0
  stored : Option TrdpIn := none
  deriving DecidableEq, Repr

/-- What the network stacks send (13). -/
inductive NetOut where
  | arpReply (ip mac : Nat) | arpAnnounce | igmpReport (group : Nat) | igmpLeave (group : Nat) | echoReply (dst len : Nat)
  | trdp (i : Fin 16) (seqNo tb : Nat) (data : List Byte) | mdReply (comId : Nat) (data : List Byte) | mdError (comId : Nat)
  deriving DecidableEq, Repr

/-- The network block (13 R526, R527). -/
structure Net where
  link : Bool := false
  speed : Nat := 0
  running : Bool := false
  half : Bool := false
  event : Word := 0
  irqen : Word := 0
  pcp : Nat := 5
  macOff : Bool := false
  mdio : Word := 0
  rx : Nat := 0
  tx : Nat := 0
  rxDrop : Nat := 0
  overflows : Nat := 0
  /-- The second of TB in which frames were last received, and how many it brought (13 R506). -/
  rxSecond : Nat := 0
  rxInSecond : Nat := 0
  ptp : List PtpStamp := []
  mgmt : Nat := 0
  resent : Nat := 0
  mgmtCrc : Nat := 0
  tgs : Vector Telegram 16 := Vector.replicate 16 {}
  arp : List (Nat × Nat) := []
  groups : List Nat := []
  lastOrder : Nat := 0
  sent : List NetOut := []
  deriving DecidableEq, Repr

/-- States of a firmware slot (14 R556). -/
inductive FwState where
  | empty | erasing | writing | verified | trial | active | previous | rejected | invalid
  deriving DecidableEq, Repr

/-- A firmware slot (14 R529, R556) with its parcels by offset. -/
structure FwSlot where
  state : FwState := .empty
  security : Nat := 0
  bound : Bool := false
  keyId : Nat := 0
  pfiMinor : Nat := 0
  pfiMajor : Nat := 0
  version : Nat := 0
  stateFormat : Nat := 0
  schemaMajor : Nat := 0
  schemaMinor : Nat := 0
  revokeOther : Bool := false
  waybill : Nat := 0
  parcels : List (Nat × List Byte) := []
  deriving DecidableEq, Repr

/-- An activation in progress (14 R543 to R547). -/
inductive Activation where
  | core (k : Fin 4) (slot : Fin 4) | platform (slot : Fin 4) | fallback (comp : Fin 2)
  deriving DecidableEq, Repr

/-- The update block (14 R555, R556). -/
structure Update where
  session : Option (Fin 2 × Fin 4 × Nat) := none
  parcelLock : Bool := false
  programming : Option (Nat × List Byte) := none
  trial : Option (Fin 2) := none
  trialSlot : Fin 4 := 0
  trialBad : Nat := 0
  quietWait : Option Activation := none
  paused : Option Activation := none
  event : Word := 0
  irqen : Word := 0
  coreSlots : Vector Bool 4 := Vector.replicate 4 false
  coreRun : BitVec 4 := 0
  svRun : Bool := false
  floors : Vector Nat 2 := Vector.replicate 2 0
  keyRevoked : BitVec 2 := 0
  healthEnd : Nat := 0
  lastCode : Nat := 0
  slots : Vector FwSlot 4 := Vector.replicate 4 {}
  recCmd : Nat := 0
  recCtl : Nat := 0
  recArg : Word := 0
  recCrc : Word := 0
  recBusy : Bool := false
  recResult : Nat := 0
  recBound : Option (Fin 5) := none
  activations : Nat := 0
  confirms : Nat := 0
  fallbacks : Nat := 0
  failures : Nat := 0
  uzKeys : Vector (List Byte) 2 := Vector.replicate 2 []
  /-- Target slot of ROM recovery (14 R554). -/
  recSlot : Option (Fin 4) := none
  deriving DecidableEq, Repr

/-- States of an image slot (02 R95). -/
inductive SlotState where
  | empty | stored | active | previous | invalid | writing
  deriving DecidableEq, Repr

/-- An image slot: its full image and amendments (02 R90). -/
structure ImgSlot where
  state : SlotState := .empty
  image : List Byte := []
  amends : List (List Byte) := []
  deriving DecidableEq, Repr

/-- State of the admission check (02 R94 CHECK). -/
inductive CheckState where
  | idle | running | accepted | refused | discarded
  deriving DecidableEq, Repr

/-- A customer key slot (02 R46 to R49): OTP hash, revocation bit, stored key. -/
structure KeySlot where
  hash : Nat := 0
  revoked : Bool := false
  key : List Byte := []
  deriving DecidableEq, Repr

/-- Configuration store (02 R93 to R95). -/
structure CfgStore where
  slots : Vector ImgSlot 4 := Vector.replicate 4 {}
  activeSlot : Fin 4 := 0
  admitted : Bool := false
  serial : Nat := 0
  baseSerial : Nat := 0
  amendCount : Nat := 0
  lastAmend : Option (Nat × Nat) := none
  digest : Nat := 0
  postmark : Nat := 0
  schemaMajor : Nat := 0
  schemaMinor : Nat := 0
  keys : Vector KeySlot 4 := Vector.replicate 4 {}
  floors : List Nat := []
  pendPorts : Word := 0
  stageLen : Nat := 0
  check : CheckState := .idle
  stageLock : Bool := false
  switchAt : Option (Fin 4 × Nat) := none
  stage : Memory := []
  report : Memory := []
  writing : Option (Fin 4) := none
  commitDue : Bool := false
  otpWrite : Option (Nat × Fin 4) := none
  deriving DecidableEq, Repr

/-- Device modes (15 R561). -/
inductive Mode where
  | boot | standby | service | minimal | recovery | dormant
  deriving DecidableEq, Repr

/-- The journal writer and store (15 R576 to R583). -/
structure Journal where
  buffer : List JRec := []
  written : List (Nat × JRec) := []
  pos : Nat := 0
  sqno : Nat := 0
  creditAt : Nat := 0
  credit : Nat := 262144
  gap : Bool := false
  shed : Vector Nat 16 := Vector.replicate 16 0
  shedFirst : Option Nat := none
  wstart : Nat := 0
  busy : Bool := false
  deriving DecidableEq, Repr

/-- Retention memory (15 R584). -/
structure Retention where
  bootCount : Nat := 0
  failedBoots : Nat := 0
  wakeCause : Nat := 0
  wakeLatched : Bool := false
  wakeTimer : Nat := 0
  modeBefore : Nat := 0
  aonAtEntry : Nat := 0
  deriving DecidableEq, Repr

/-- A record of the calibration partition (15 R575): two copies in alternate blocks, each under its own CRC-32C, and which of them is the
newer. -/
structure Copies (α : Type) where
  a : Option α := none
  crcA : Nat := 0
  b : Option α := none
  crcB : Nat := 0
  newB : Bool := false
  deriving DecidableEq, Repr

/-- The instructions of the JTAG port (16 R599). -/
inductive TapInstr where
  | bypass | idcode | sample | extest
  deriving DecidableEq, Repr

/-- The boundary-scan port (16 R599): TRST#, which the board ties low in service, and the instruction in force (log entry 45). -/
structure Tap where
  trstLow : Bool := true
  instr : TapInstr := .idcode
  deriving DecidableEq, Repr

/-- A frame of a die to the hub (01 R631): a report, or the result block of a sequence with its trigger's stamp. -/
inductive Frame where
  | report (i : Instr)
  | block (cv : Fin 5) (sq : Fin 16) (stamp : Nat) (results : List (BitVec 16))
  deriving DecidableEq, Repr

/-- What the two ends of a lost edge link keep (01 R630, R631): the frames each die could not send, oldest first; the first of the frames of
one kind that its full queue could not take, and how many of them; the commands of the hub whose application is not confirmed. -/
structure Loss where
  queue : Vector (List Frame) 5 := Vector.replicate 5 []
  marks : List (Fin 5 × Frame × Nat) := []
  unconfirmed : List (Fin 32 × EdgeCmd) := []
  /-- The guards and the feeds as their registers show them while the link is lost, and the counter of free values then (07 R309). -/
  guards : Vector Guard 32 := Vector.replicate 32 {}
  feeds : Vector Feed 4 := Vector.replicate 4 {}
  freeCtr : Vector Nat 5 := Vector.replicate 5 0
  deriving DecidableEq, Repr

/-- Modes, supplies, pins and identity (15 R558 to R586, 17 R606). -/
structure Sys where
  mode : Mode := .boot
  deadcar : Bool := false
  bootStep : Nat := 1
  wake : Nat := 0
  prev : Mode := .boot
  /-- The mode before the reset that BOOT follows, for its record (15 R578). -/
  former : Mode := .boot
  attachHold : Bool := true
  /-- The edge dies whose hold ended with the loss of their link (15 R569). -/
  unheld : Vector Bool 4 := Vector.replicate 4 false
  inReset : Bool := false
  storeOk : Bool := true
  aon : Nat := 0
  aonFrac : Nat := 0
  ret : Retention := {}
  edgeMin : Vector Bool 4 := Vector.replicate 4 false
  edgeUp : Vector Bool 5 := Vector.replicate 5 false
  edgeUpSince : Vector Nat 5 := Vector.replicate 5 0
  edgeOn : Vector Bool 4 := Vector.replicate 4 true
  retraining : Vector Bool 5 := Vector.replicate 5 false
  crcRetries : Vector Nat 5 := Vector.replicate 5 0
  tempTrip : Vector Bool 6 := Vector.replicate 6 false
  supplyOk : Vector Bool 3 := Vector.replicate 3 true
  vgdStart : Bool := true
  vgdKeep : Bool := true
  vconnIn : Bool := true
  ids : Vector DieId 7 := Vector.replicate 7 ⟨0, 0, 0, 0⟩
  stepping : Nat := 2
  date : Nat := 0
  vid : BitVec 16 := 0
  /-- The copies of the die identity records in the identity partition (15 R573). -/
  idCopies : Vector DieId 7 := Vector.replicate 7 ⟨0, 0, 0, 0⟩
  /-- The minimal record and the list of retired phases in the calibration partition (05 R224, R226). -/
  minRecord : Copies DieParams := {}
  retiredRec : Copies (BitVec 64) := {}
  /-- Blocks of the Spare partition that replace none yet (15 R574, R575). -/
  spareBlocks : Nat := 60
  /-- The minimal record that each edge die was loaded with (05 R226). -/
  dieRec : Vector (Option DieParams) 4 := Vector.replicate 4 none
  /-- The parameters a die runs under in place of the hub's: its minimal record, or what it held when its link was lost (01 R24, R29). -/
  held : Vector (Option DieParams) 5 := Vector.replicate 5 none
  retired : BitVec 64 := 0
  dben : BitVec 4 := 0
  dbenMismatch : Bool := false
  monCtl : Nat := 0x14
  monRounds : Vector Nat 5 := Vector.replicate 5 0
  trimTb : Nat := 0
  trimDue : Bool := false
  /-- A BOOT that falls due without a reset pin, and its WAKE cause (14 R552, R554). -/
  bootDue : Option Nat := none
  deriving DecidableEq, Repr

end Sys2Proof.Machine
end

