-- ==== Sys2Proof/Machine/SourceTable.lean ====
section
/-! DEFINITION. The fault sources of 11 R431 and R432: their numbers, types, defaults and the register that shows each. -/

namespace Sys2Proof.Machine

/-- A source number, cut to the 768 numbers of FAULT_SRCi (11 R455). -/
def srcOf (n : Nat) : Fin 768 := Fin.ofNat 768 n

/-- Port source k of port p (00 R13). -/
def portSrc (p : Fin 32) (k : Nat) : Fin 768 := srcOf (8 * p.val + k)

/-- Phase source k of phase n (00 R13). -/
def phaseSrc (n : Fin 64) (k : Nat) : Fin 768 := srcOf (0x100 + 4 * n.val + k)

/-- Feed source k of feed f (00 R13). -/
def feedSrc (f : Fin 4) (k : Nat) : Fin 768 := srcOf (0x200 + 8 * f.val + k)

/-- A row of the tables of R431 and R432: severity 0 NOTE, 1 WARN, 2 ACT, 3 SAFE; action code of R436; grace in us. -/
structure SrcRow where
  level : Bool
  sev : Nat
  action : Nat
  grace : Nat
  protective : Bool
  deriving DecidableEq, Repr

/-- Rows of the port sources (R431). -/
def portRow : Nat → SrcRow
  | 0 => ⟨false, 3, 2, 0, true⟩
  | 1 => ⟨true, 1, 0, 0, false⟩
  | 2 => ⟨false, 3, 2, 0, true⟩
  | 3 => ⟨false, 3, 2, 0, true⟩
  | 4 => ⟨true, 3, 2, 0, false⟩
  | 5 => ⟨false, 1, 0, 0, false⟩
  | 6 => ⟨false, 0, 0, 0, false⟩
  | _ => ⟨false, 1, 0, 0, false⟩

/-- Rows of the phase sources (R431). -/
def phaseRow : Nat → SrcRow
  | 0 => ⟨false, 1, 0, 0, false⟩
  | 1 => ⟨false, 3, 1, 0, true⟩
  | 2 => ⟨false, 3, 1, 0, true⟩
  | _ => ⟨true, 3, 4, 0, true⟩

/-- Rows of the feed sources (R431). -/
def feedRow : Nat → SrcRow
  | 0 => ⟨true, 1, 0, 0, false⟩
  | 1 => ⟨true, 1, 0, 0, false⟩
  | 2 => ⟨false, 3, 5, 0, true⟩
  | 3 => ⟨true, 3, 5, 0, true⟩
  | 4 => ⟨false, 1, 0, 0, false⟩
  | 5 => ⟨false, 1, 0, 0, false⟩
  | 6 => ⟨false, 1, 0, 0, false⟩
  | _ => ⟨false, 3, 5, 0, true⟩

/-- Rows of the system sources (R432); none for a reserved number. -/
def sysRow (n : Nat) : Option SrcRow :=
  if n < 0x220 then none
  else if n ≤ 0x224 then some ⟨true, 1, 0, 0, false⟩
  else if n ≤ 0x227 then some ⟨false, 1, 0, 0, false⟩
  else if n ≤ 0x22A then some ⟨true, 0, 0, 0, false⟩
  else if n ≤ 0x22D then some ⟨true, 1, 0, 0, false⟩
  else if n = 0x22E then some ⟨false, 1, 0, 0, false⟩
  else if n = 0x22F then none
  else if n ≤ 0x238 then some ⟨false, 3, 6, 0, false⟩
  else if n = 0x239 then some ⟨true, 3, 8, 0, true⟩
  else if n ≤ 0x23E then some ⟨true, 3, 6, 0, true⟩
  else if n ≤ 0x246 then some ⟨true, 1, 0, 0, false⟩
  else if n ≤ 0x24C then some ⟨true, 2, 7, 10000000, false⟩
  else if n ≤ 0x252 then some ⟨true, 3, 0, 0, true⟩
  else if n ≤ 0x254 then some ⟨false, 1, 0, 0, false⟩
  else if n ≤ 0x256 then some ⟨true, 1, 0, 0, false⟩
  else if n = 0x257 then some ⟨false, 0, 0, 0, false⟩
  else if n = 0x258 then some ⟨false, 3, 8, 0, false⟩
  else if n ≤ 0x25C then some ⟨true, 1, 0, 0, false⟩
  else if n = 0x25D then some ⟨false, 0, 0, 0, false⟩
  else if n = 0x25E then some ⟨true, 1, 0, 0, false⟩
  else none

/-- The row of a source; none for a reserved number (R432). -/
def srcRow (n : Nat) : Option SrcRow :=
  if n < 0x100 then some (portRow (n % 8))
  else if n < 0x200 then some (phaseRow (n % 4))
  else if n < 0x220 then some (feedRow (n % 8))
  else sysRow n

/-- What a source acts on: the group of its number (R431, R432, R436). -/
inductive SrcGroup where
  | port (p : Fin 32) | phase (n : Fin 64) | feed (f : Fin 4) | system
  deriving DecidableEq, Repr

/-- Group of a source. -/
def srcGroup (n : Fin 768) : SrcGroup :=
  if n.val < 0x100 then .port (Fin.ofNat 32 (n.val / 8))
  else if n.val < 0x200 then .phase (Fin.ofNat 64 ((n.val - 0x100) / 4))
  else if n.val < 0x220 then .feed (Fin.ofNat 4 ((n.val - 0x200) / 8))
  else .system

/-- Whether RESET_BLOCK names a block for a system source (R432). -/
def sysHasBlock (n : Nat) : Bool :=
  (0x220 ≤ n && n ≤ 0x22C) || (0x230 ≤ n && n ≤ 0x238) || (0x23A ≤ n && n ≤ 0x23F)

/-- Whether a group may use an action (R436). -/
def actionAllowed (n : Fin 768) (a : Nat) : Bool :=
  match srcGroup n with
  | .port _ => a == 0 || a == 2 || a == 3 || a == 4 || a == 6 || a == 7 || a == 8
  | .phase _ => a ≤ 4 || a == 6 || a == 7 || a == 8
  | .feed _ => a == 0 || a == 5 || a == 7 || a == 8
  | .system => a == 0 || (a == 3 && n.val == 0x254) || (a == 6 && sysHasBlock n.val) || a == 7 || a == 8

/-- The block group whose CODED bit governs a source (02 R53, 11 R432): 0 PORT, 1 PHASE, 2 FEED, 3 MONITOR, 4 TIMER, 5 SYSTEM. -/
def codedGroup (n : Fin 768) : Nat :=
  match srcGroup n with
  | .port _ => 0
  | .phase _ => 1
  | .feed _ => 2
  | .system => if n.val == 0x22C || n.val == 0x240 then 4 else if n.val == 0x25E then 3 else 5

/-- Host address of the status register of a source (R432); `port` is the port of a PORT_START_FAIL. -/
def srcStatus (n : Fin 768) (port : Nat) : Nat :=
  match srcGroup n with
  | .port p => if n.val % 8 == 2 || n.val % 8 == 3 then 0x34000 + 0x40 * p.val else 0x8000 + 0x400 * p.val
  | .phase i => 0x10000 + 0x400 * i.val + 4
  | .feed f => 0x30000 + 0x100 * f.val + 4
  | .system =>
    if n.val == 0x224 then 0x30004
    else if 0x228 ≤ n.val && n.val ≤ 0x22A then 0x39000 + 0x100 * (n.val - 0x228)
    else if n.val == 0x22B then 0x3C000
    else if n.val == 0x22C || n.val == 0x22D then 0x38000
    else if n.val == 0x22E then 0xA0000
    else if n.val == 0x254 then 0x8000 + 0x400 * port
    else 0x2040 + 4 * ((n.val - 0x220) / 32)

/-- A source at reset: its defaults (R444). -/
def srcReset (n : Fin 768) : Source :=
  match srcRow n.val with
  | some r => { sev := r.sev, eff := r.sev, action := r.action, grace := r.grace }
  | none => {}

end Sys2Proof.Machine
end

