-- ==== Sys2Proof/Machine/State.lean ====
section
/-! DEFINITION. The state of the block: every register, queue, mode and pin the spec gives it, and the queue of waiting commands. -/

namespace Sys2Proof.Machine

/-- Everything of the block but its command queue. -/
structure Dev where
  /-- Running configuration: the records in force (02 R53 to R72, R86). -/
  cfg : ImageCfg := {}
  /-- Configuration a port takes when its deferred records apply (02 R86). -/
  cfgNew : ImageCfg := {}
  ports : Vector Port 32 := Vector.replicate 32 {}
  pd : Vector PortPd 32 := Vector.replicate 32 {}
  guards : Vector Guard 32 := Vector.replicate 32 {}
  loops : Vector Loop 32 := Vector.replicate 32 {}
  phases : Vector Phase 64 := Vector.replicate 64 {}
  /-- MC0 to MC191, then FM0 to FM11 (00 R13). -/
  chans : Vector Chan 204 := Vector.replicate 204 {}
  groups : Vector CalGroup 25 := Vector.replicate 25 {}
  convs : Vector Converter 5 := Vector.replicate 5 {}
  feeds : Vector Feed 4 := Vector.replicate 4 {}
  posts : Vector Post 3 := Vector.replicate 3 {}
  ledger : Ledger := {}
  twin : Twin := {}
  tmr : Timers := {}
  alarms : Vector Alarm 32 := Vector.replicate 32 {}
  itms : Vector Itm 16 := Vector.replicate 16 {}
  sources : Vector Source 768 := Vector.ofFn srcReset
  coll : Collector := {}
  host : HostIf := {}
  net : Net := {}
  upd : Update := {}
  store : CfgStore := {}
  jrn : Journal := {}
  sys : Sys := {}
  loss : Loss := {}
  tap : Tap := {}
  /-- Ring memory, 256 KiB (12 R471). -/
  ringMem : Memory := []
  /-- Parcel buffer, 4 KiB (14 R555). -/
  parcel : Memory := []
  /-- Running timers: the TB instant of the end of each, and the event it posts (03 R108, 04 R166). -/
  timers : List (Nat × Instr) := []
  /-- The model's own counter of free values (log entry 5). -/
  freeCtr : Nat := 0
  deriving DecidableEq, Repr

/-- The block and the commands that wait, first in first out. -/
structure State where
  dev : Dev := {}
  pending : List Instr := []
  deriving DecidableEq, Repr

/-- The faults that stop the block: none. What the spec calls a fault is a fault source (11), an effect on the state. -/
inductive Fault where
  deriving DecidableEq, Repr

/-- The refusals of the model. -/
inductive Refusal where
  /-- Raised by `exec` for a command without a meaning yet; safe: the machine stops where the hardware goes on. No arm raises it now. -/
  | notModelled (mnemonic : String)
  deriving DecidableEq, Repr

/-- The machine right after reset: every register at the value the spec gives it, or at the value log entries 2 and 3 name. -/
def State.reset : State := {}

end Sys2Proof.Machine
end

