-- ==== Sys2Proof/Machine/View.lean ====
section
/-! DEFINITION. Derived values of the state: what several registers, rules and frames compute from it. -/

namespace Sys2Proof.Machine

/-- Type-C state code (03 R105). -/
def tcCode : TcState → Nat
  | .disabled => 0 | .errorRecovery => 1 | .unattachedSrc => 2 | .attachWaitSrc => 3 | .attachedSrc => 4 | .trySrc => 5
  | .tryWaitSnk => 6 | .unattachedSnk => 7 | .attachWaitSnk => 8 | .attachedSnk => 9 | .debugSrc => 10 | .debugSnk => 11
  | .minimal => 12

/-- Rp code of TCSTAT (04 R185). -/
def rpCode : RpLevel → Nat
  | .default => 0 | .a15 => 1 | .a30 => 2 | .none => 3

/-- Contract kind code (04 R185). -/
def kindCode : ContractKind → Nat
  | .none => 0 | .sprFixed => 1 | .pps => 2 | .eprFixed => 3 | .avs => 4 | .sink => 5

/-- Zone code (06 R267). -/
def zoneCode : Zone → Nat
  | .below => 0 | .inWin => 1 | .above => 2 | .unsettled => 3

/-- Region code (05 R229). -/
def regionCode : Region → Nat
  | .buck => 0 | .transition => 1 | .boost => 2

/-- Phase state code (05 R229). -/
def phaseCode : PhaseState → Nat
  | .unused => 0 | .idle => 1 | .switching => 2 | .retired => 3 | .census => 4 | .pending => 5

/-- Feed state code (07 R277). -/
def feedCode : FeedState → Nat
  | .off => 0 | .wait => 1 | .delay => 2 | .ramp => 3 | .on => 4 | .latched => 5 | .cooling => 6

/-- Guard state code (07 R308). -/
def guardCode : GuardState → Nat
  | .openG => 0 | .closing => 1 | .closed => 2 | .limiting => 3 | .latched => 4

/-- Link state code (08 R366, 09 R401). -/
def linkCode : LinkState → Nat
  | .down => 0 | .train => 1 | .up => 2

/-- Ledger role code (08 R364). -/
def roleCode : LedgerRole → Nat
  | .none => 0 | .member => 1 | .dealer => 2 | .alone => 3

/-- Mode code (15 R561). -/
def modeCode : Mode → Nat
  | .boot => 0 | .standby => 1 | .service => 2 | .minimal => 3 | .recovery => 4 | .dormant => 7

/-- Firmware slot state code (14 R556). -/
def fwCode : FwState → Nat
  | .empty => 0 | .erasing => 1 | .writing => 2 | .verified => 3 | .trial => 4 | .active => 5 | .previous => 6
  | .rejected => 7 | .invalid => 8

/-- Image slot state code (02 R95). -/
def slotCode : SlotState → Nat
  | .empty => 0 | .stored => 1 | .active => 2 | .previous => 3 | .invalid => 4 | .writing => 5

/-- Check state code (02 R94). -/
def checkCode : CheckState → Nat
  | .idle => 0 | .running => 1 | .accepted => 2 | .refused => 3 | .discarded => 4

/-- Edge die of a port (00 R13). -/
def edgeOf (p : Fin 32) : Fin 4 := ⟨p.val / 8, by omega⟩

/-- Edge die of a phase (00 R13). -/
def edgeOfPhase (n : Fin 64) : Fin 4 := ⟨n.val / 16, by omega⟩

/-- An edge die's link among the five (00 R13): EL0 to EL3, then ELF. -/
def linkOf (e : Fin 4) : Fin 5 := ⟨e.val, by omega⟩

/-- The feed die's link ELF. -/
def elf : Fin 5 := 4

/-- Channels of a port and of a feed (00 R13). -/
def cc1 (p : Fin 32) : Fin 204 := ⟨4 * p.val, by omega⟩
def cc2 (p : Fin 32) : Fin 204 := ⟨4 * p.val + 1, by omega⟩
def vbusCh (p : Fin 32) : Fin 204 := ⟨4 * p.val + 2, by omega⟩
def iportCh (p : Fin 32) : Fin 204 := ⟨4 * p.val + 3, by omega⟩
def phaseCh (n : Fin 64) : Fin 204 := ⟨128 + n.val, by omega⟩
def feedCh (f : Fin 4) (k : Fin 3) : Fin 204 := ⟨192 + 3 * f.val + k.val, by omega⟩

/-- What a channel watches. -/
inductive ChanRole where
  | cc1 (p : Fin 32) | cc2 (p : Fin 32) | vbus (p : Fin 32) | iport (p : Fin 32) | phase (n : Fin 64)
  | feedV (f : Fin 4) | feedI (f : Fin 4) | feedT (f : Fin 4)
  deriving DecidableEq, Repr

/-- Role of a channel (00 R13, 06 R232). -/
def chanRole (c : Fin 204) : ChanRole :=
  if c.val < 128 then
    match c.val % 4 with
    | 0 => .cc1 (Fin.ofNat 32 (c.val / 4))
    | 1 => .cc2 (Fin.ofNat 32 (c.val / 4))
    | 2 => .vbus (Fin.ofNat 32 (c.val / 4))
    | _ => .iport (Fin.ofNat 32 (c.val / 4))
  else if c.val < 192 then .phase (Fin.ofNat 64 (c.val - 128))
  else
    match c.val % 3 with
    | 0 => .feedV (Fin.ofNat 4 ((c.val - 192) / 3))
    | 1 => .feedI (Fin.ofNat 4 ((c.val - 192) / 3))
    | _ => .feedT (Fin.ofNat 4 ((c.val - 192) / 3))

/-- Role code of MONc_CFG (06 R267). -/
def roleIdx (c : Fin 204) : Nat :=
  match chanRole c with
  | .cc1 _ => 0 | .cc2 _ => 1 | .vbus _ => 2 | .iport _ => 3 | .phase _ => 4 | .feedV _ => 5 | .feedI _ => 6 | .feedT _ => 7

/-- A window channel: any but a phase channel (06 R235, R237). -/
def isWindow (c : Fin 204) : Bool := !(128 ≤ c.val && c.val < 192)

/-- Calibration group of a channel: six on each edge die, one on the feed die (06, Live calibration). -/
def groupOf (c : Fin 204) : Fin 25 :=
  if c.val < 128 then Fin.ofNat 25 (6 * (c.val / 32) + (c.val % 32) / 8)
  else if c.val < 192 then Fin.ofNat 25 (6 * ((c.val - 128) / 16) + 4 + ((c.val - 128) % 16) / 8)
  else 24

/-- Channels of a calibration group, in index order. -/
def groupChans (g : Fin 25) : List (Fin 204) := (indices 204).filter fun c => groupOf c == g

/-- First spare of a calibration group (06 R249). -/
def spareA (g : Fin 25) : Nat := 2 * g.val

/-- Die of a channel: edge 0 to 3, or 4 for the feed die. -/
def dieOf (c : Fin 204) : Fin 5 :=
  if c.val < 128 then Fin.ofNat 5 (c.val / 32) else if c.val < 192 then Fin.ofNat 5 ((c.val - 128) / 16) else 4

/-- The fence of an accepted voltage (04 R161): 1.05 V + 300 mV, rounded up to 10 mV. -/
def fenceOf (mv : Nat) : Nat := 10 * ceilDiv (105 * mv + 30000) 1000

/-- Reference code of a voltage (05 R199): 4 mV steps, never above 12,000. -/
def refCode (mv : Nat) : Nat := min 12000 (mv / 4)

/-- Present code of a reference DAC (05 R199, R211): during a ramp it moves one 4 mV step each 4 mV / slew towards the target. -/
def refNow (d : Dev) (l : Loop) : Nat :=
  if !l.ramping then l.ref
  else
    let n := (d.tmr.tb - l.refTb) * l.slew / 200000
    if l.ref ≤ l.target then min l.target (l.ref + n) else max l.target (l.ref - n)

/-- The PPS current limit of a port acts: its last converter result has reached the limit (04 R169, 05 R202; log entry 37). A SHADOW shows
what its ACTIVE reports (09 R381). -/
def clActs (d : Dev) (p : Fin 32) : Bool :=
  let l := d.loops[p]
  if d.twin.role == 2 then l.cl else l.limitMa.any fun m => decide ((m : Int) ≤ (d.chans[iportCh p]).result.toInt)

/-- An attached source state (03 R105). -/
def isSrcAttached (t : TcState) : Bool := t == .attachedSrc || t == .debugSrc

/-- An attached sink state (03 R105). -/
def isSnkAttached (t : TcState) : Bool := t == .attachedSnk || t == .debugSnk

/-- An attached state (15 R563). -/
def isAttached (q : Port) : Bool := isSrcAttached q.tc || isSnkAttached q.tc || (q.tc == .minimal && q.minAtt)

/-- A PORT section exists for a port (02 R55). -/
def hasPort (d : Dev) (p : Fin 32) : Bool := (d.cfg.ports[p]).isSome

/-- A port's PORT record, or its defaults. -/
def portCfg (d : Dev) (p : Fin 32) : PortCfg := (d.cfg.ports[p]).getD {}

/-- The PORT record that a port's edge die runs under (01 R29, 05 R226). -/
def diePort (d : Dev) (p : Fin 32) : PortCfg :=
  match d.sys.held[linkOf (edgeOf p)] with
  | some r => (r.ports[p]).getD {}
  | none => portCfg d p

/-- The LOOP record that a port's edge die runs under, or its defaults. -/
def loopCfg (d : Dev) (p : Fin 32) : LoopCfg :=
  match d.sys.held[linkOf (edgeOf p)] with
  | some r => (r.loops[p]).getD {}
  | none => (d.cfg.loops[p]).getD {}

/-- The FEEDS record that the feed die runs under (01 R24, 07 R292), or its defaults. -/
def feedCfg (d : Dev) (f : Fin 4) : FeedCfg :=
  match d.sys.held[elf] with
  | some r => (r.feeds[f]).getD {}
  | none => (d.cfg.feeds[f]).getD {}

/-- A bit of PFLAGS (02 R55). -/
def pflag (d : Dev) (p : Fin 32) (i : Nat) : Bool := (portCfg d p).pflags.getLsbD i

/-- The phases mapped to a port (02 R56). -/
def phasesOf (d : Dev) (p : Fin 32) : List (Fin 64) :=
  (indices 64).filter fun n => match d.cfg.phases[n] with | some c => c.port == p | none => false

/-- The unretired phases of a port, in phase order (05 R192). -/
def livePhases (d : Dev) (p : Fin 32) : List (Fin 64) := (phasesOf d p).filter fun n => (d.phases[n]).state != .retired

/-- The port of a phase (02 R56). -/
def portOfPhase (d : Dev) (n : Fin 64) : Option (Fin 32) := (d.cfg.phases[n]).map (·.port)

/-- Peak limit of a phase in mA (02 R56). -/
def ipeakOf (d : Dev) (n : Fin 64) : Nat := ((d.cfg.phases[n]).getD {}).ipeak

/-- Position of a port's frame in units of T / 256, counted from the start of its edge die's epoch (05 R192); the epoch is TB 0, moved by
what a takeover brought along (09 R380 CYCLE; log entry 40). -/
def framePos (d : Dev) (p : Fin 32) (tb : Nat) : Nat := 256 * (loopCfg d p).fsw * tb / 50000 + 32 * (8 - p.val % 8) + (d.loops[p]).cycle

/-- Capability of a set of phases (04 R151): W and mA. -/
def capOf (d : Dev) (l : List (Fin 64)) : Nat × Nat :=
  (min 240 (150 * l.length), min 5000 (l.foldl (fun a n => a + 6 * ipeakOf d n) 0 / 500 * 50))

/-- Power-good of a bus (07 R280, R306): F0, F1 on bus A; F2, F3 on bus B. -/
def busPg (d : Dev) (busB : Bool) : Bool := if busB then (d.feeds[2]).pg || (d.feeds[3]).pg else (d.feeds[0]).pg || (d.feeds[1]).pg

/-- Any feed has power-good. -/
def anyPg (d : Dev) : Bool := busPg d false || busPg d true

/-- The bus of a phase has power-good. -/
def phasePg (d : Dev) (n : Fin 64) : Bool := busPg d ((d.cfg.phases[n]).getD {}).busB

/-- ROLES of a port: 0 Source, 1 Sink, 2 DRP (02 R55). -/
def rolesOf (d : Dev) (p : Fin 32) : Nat := (portCfg d p).roles

/-- The port may be source. -/
def canSource (d : Dev) (p : Fin 32) : Bool := rolesOf d p != 1

/-- The port may be sink. -/
def canSink (d : Dev) (p : Fin 32) : Bool := rolesOf d p != 0

/-- A phase that is PENDING (05 R194): its census is due and its bus has no power-good. -/
def phasePending (d : Dev) (n : Fin 64) : Bool := (d.phases[n]).state == .pending || ((d.phases[n]).due && !phasePg d n)

/-- The level of SF that signals a fault is that of the lowest phase mapped to the port (05 R191). -/
def sfPolOf (d : Dev) (p : Fin 32) : Bool := (phasesOf d p).head?.any fun n => ((d.cfg.phases[n]).getD {}).sfpol

/-- The balls are under EXTEST (16 R599): gate drives, PWM legs and DSG are high-impedance, guards and feeds stay off. -/
def extest (d : Dev) : Bool := !d.tap.trstLow && d.tap.instr == .extest

/-- A DRP port. -/
def isDrp (d : Dev) (p : Fin 32) : Bool := rolesOf d p == 2

/-- The device is a SHADOW (09 R369). -/
def isShadow (d : Dev) : Bool := d.twin.role == 2

/-- Every edge die is in minimal mode, or the device is (01 R34). -/
def dieMinimal (d : Dev) (e : Fin 4) : Bool := d.sys.mode == .minimal || d.sys.edgeMin[e]

/-- The die of a port is in minimal mode. -/
def portMinimal (d : Dev) (p : Fin 32) : Bool := dieMinimal d (edgeOf p)

/-- The edge link or ELF over which a die's source reaches the collector (11 R431, R432, 01 R631): that of its port, phase, feed or die; none
for a source that the hub itself detects, PD_PROTOCOL and CONTRACT_BREACH among them. -/
def srcLink (n : Fin 768) : Option (Fin 5) :=
  match srcGroup n with
  | .port p => if 6 ≤ n.val % 8 then none else some (linkOf (edgeOf p))
  | .phase i => some (linkOf (edgeOfPhase i))
  | .feed _ => some elf
  | .system =>
    if 0x235 ≤ n.val ∧ n.val ≤ 0x238 then some (Fin.ofNat 5 (n.val - 0x235))
    else if (0x242 ≤ n.val ∧ n.val ≤ 0x246) then some (Fin.ofNat 5 (n.val - 0x242))
    else if (0x248 ≤ n.val ∧ n.val ≤ 0x24C) then some (Fin.ofNat 5 (n.val - 0x248))
    else if (0x24E ≤ n.val ∧ n.val ≤ 0x252) then some (Fin.ofNat 5 (n.val - 0x24E))
    else none

/-- The link of a source when it is lost. -/
def lostLink (d : Dev) (n : Fin 768) : Option (Fin 5) := (srcLink n).filter fun l => d.sys.retraining[l]

/-- The stamp of a source event now: of the replica of its die (01 R28), or of TB. -/
def dieTb (d : Dev) (n : Fin 768) : Nat := match srcLink n with | some l => d.tmr.replicas[l] | none => d.tmr.tb

/-- An EVENT register of a die: while its link is lost, the bits of the frames that have arrived (01 R631). -/
def shownEvent (d : Dev) (l : Fin 5) (event seen : Word) : Word := if d.sys.retraining[l] then event &&& seen else event

/-- The link of a port is lost, and its die is not in minimal mode. -/
def lostPort (d : Dev) (p : Fin 32) : Bool := d.sys.retraining[linkOf (edgeOf p)] && !portMinimal d p

/-- A latch at or above ERRLVL, or ERR_TEST (11 R444). -/
def errLow (d : Dev) : Bool :=
  d.coll.errTest || (indices 768).any fun i => (d.sources[i]).latch && decide (d.coll.errlvl ≤ (d.sources[i]).eff)

/-- The logic supplies of the hub are in range (15 R559). -/
def hubSupplied (d : Dev) : Bool := d.sys.supplyOk[0] && d.sys.supplyOk[1]

/-- The ERR# pin (01 R33, 11 R444, R445): low while the hub is in reset, without its logic supplies, or stopped in DORMANT. -/
def errPinLow (d : Dev) : Bool := d.sys.inReset || d.sys.mode == .dormant || !hubSupplied d || errLow d

/-- The sources latched, in number order. -/
def latched (d : Dev) : List (Fin 768) := (indices 768).filter fun i => (d.sources[i]).latch

/-- The DROLE output of a port (03 R121, R122): none is high-impedance. -/
def droleOut (d : Dev) (p : Fin 32) : Option Bool :=
  if d.sys.mode == .dormant || !d.sys.supplyOk[1] || isShadow d then none
  else
    let q := d.ports[p]
    let dfp := if q.tc == .minimal then q.minAtt else q.tc != .debugSrc && q.tc != .debugSnk && isAttached q && q.dfp
    some (if dfp then (portCfg d p).drpol else !(portCfg d p).drpol)

/-- Attached ports' contract power in mW, for the bid (08 R323). -/
def contractMw (q : Port) : Nat := q.volt * q.curr / 1000

/-- The postmark of this device as it stands in registers (02 R52). -/
def postmarkOf (d : Dev) : Nat := d.store.postmark

/-- The unit identity: the hub die's record (15 R573). -/
def unitId (d : Dev) : DieId := d.sys.ids[0]

/-- LOT, WAFER, DIE_X, DIE_Y as nine bytes (15 R572), the first character of LOT first. -/
def idBytes (i : DieId) : List Byte := toBe 6 i.lot ++ toLe 1 i.wafer ++ toLe 1 i.x ++ toLe 1 i.y

/-- LOT bytes 0 to 3 as a register (12 R497). -/
def lotWord (i : DieId) : Word := BitVec.ofNat 32 (fieldAt (idBytes i) 0 4)

/-- LOT bytes 4 and 5, WAFER and DIE_X as a register (12 R497). -/
def lotWord1 (i : DieId) : Word := BitVec.ofNat 32 (fieldAt (idBytes i) 4 4)

/-- A master's PRIO and right to claim (02 R66). -/
def masterCfg (d : Dev) (m : Fin 5) : MasterCfg := d.cfg.host.masters[m]

/-- TB read as 64 bits. -/
def tbNow (d : Dev) : Nat := d.tmr.tb

/-- Ticks of the time base (10 R404: 20 ns). -/
def ticksOfUs (us : Nat) : Nat := 50 * us
def ticksOfMs (ms : Nat) : Nat := 50000 * ms
def ticksOfS (s : Nat) : Nat := 50000000 * s

/-- Count of a fault timer now, in ticks (07 R274): up while limiting, down at one eighth of that rate otherwise. -/
def faultCount (d : Dev) (t : FaultTimer) : Nat :=
  let dt := d.tmr.tb - t.since
  if t.up then t.count + dt else t.count - dt / 8

/-- The deal period in ms: the dealer's (08 R331), else the device's own. -/
def dealMsOf (d : Dev) : Nat := match d.ledger.last with | some x => x.dealMs | none => d.cfg.ledger.dealMs

/-- Deal period P in ticks (08 R328). -/
def dealTicks (d : Dev) : Nat := ticksOfMs (dealMsOf d)

/-- The lowest allotment among the one in force and the pending ones (04 R152). -/
def allotMin (d : Dev) : Nat := d.ledger.cuts.foldl (fun a c => min a c.2) d.ledger.allot

/-- A held LEDGER order locks the staging window that holds its amendment (08 R351): SERIAL at byte 16 of the header, KIND at byte 9
(02 R38). -/
def orderLocks (d : Dev) : Bool :=
  d.ledger.orders.any fun o => o.whole && !o.applied && o.order.kind == 5 && decide (d.store.stageLen ≠ 0)
    && Memory.readWord d.store.stage 16 == BitVec.ofNat 32 o.order.param && Memory.read d.store.stage 9 == 1

/-- CONFIG_STATUS.STAGE_LOCK (02 R83, 08 R351). -/
def stageLocked (d : Dev) : Bool := d.store.stageLock || orderLocks d

/-- The eligibility conditions of the SHADOW (09 R388): the first that fails, 0 when all hold. -/
def whyNot (d : Dev) : Nat :=
  if d.twin.link != .up then 1
  else if !(d.twin.peer.any fun h => h.postmark == d.store.postmark) then 2
  else if !(d.twin.peer.any fun h => h.mode == 2) then 3
  else if !d.twin.lsFresh then 4
  else if !d.twin.tbLock then 5
  else if !((indices 4).all fun e => d.sys.edgeUp[linkOf e] && !dieMinimal d e)
      || (indices 768).any (fun i => (d.sources[i]).latch && (d.sources[i]).eff == 3) then 6
  else if d.twin.inhibit then 7
  else 0

/-- The edge die of a port holds attaches under ATTACH_HOLD (15 R569). -/
def dieHolds (d : Dev) (p : Fin 32) : Bool := d.sys.attachHold && !d.sys.unheld[edgeOf p]

/-- The port core of a port is paused for an activation (14 R544). -/
def corePaused (d : Dev) (p : Fin 32) : Bool :=
  match d.upd.paused with
  | some (.core k _) => k == edgeOf p
  | _ => false

/-- SV is paused for the activation or the fallback of a platform set (14 R546, R551). -/
def svPaused (d : Dev) : Bool :=
  match d.upd.paused with
  | some (.platform _) => true
  | some (.fallback comp) => comp == 0
  | _ => false

/-- Ports of an edge die. -/
def diePorts (e : Fin 4) : List (Fin 32) := (indices 32).filter fun p => edgeOf p == e

/-- The scan plan of a converter: its section, or the default plan (06 R258). -/
def scanPlan (d : Dev) (cv : Fin 5) : ScanPlan :=
  match d.cfg.scans[cv] with
  | some p => p
  | none =>
    if cv.val < 4 then
      { scans := ((diePorts (Fin.ofNat 4 cv.val)).filter (hasPort d)).flatMap fun p => [{ chan := vbusCh p, rate := 10000 }, { chan := iportCh p, rate := 10000 }] }
    else
      { scans := ((indices 4).filter fun f => (d.cfg.feeds[f]).isSome).flatMap fun f =>
          [{ chan := feedCh f 0, rate := 20000 }, { chan := feedCh f 1, rate := 20000 }, { chan := feedCh f 2, rate := 1000 }] }

/-- A channel runs in the device's mode (06 R247): in STANDBY the CC and the feed channels only, in DORMANT none. -/
def chanRuns (d : Dev) (ch : Fin 204) : Bool :=
  match d.sys.mode with
  | .dormant => false
  | .standby => d.sys.deadcar || decide (192 ≤ ch.val) || (decide (ch.val < 128) && decide (ch.val % 4 < 2))
  | _ => true

end Sys2Proof.Machine
end

