-- ==== Sys2Proof/Machine/RegRead.lean ====
section
/-! DEFINITION. What every register reads as (the register tables of the spec), without the side effects of a read. Offsets the tables leave out read 0 (00 R11). -/

namespace Sys2Proof.Machine

/-- A number as a register word. -/
def w32 (n : Nat) : Word := BitVec.ofNat 32 n

/-- PORTn_TCSTAT (04 R185). -/
def tcStat (d : Dev) (p : Fin 32) : Word :=
  let q := d.ports[p]; let g := d.guards[p]
  if d.sys.mode == .boot then (if q.enabled then 0x7000 else 0x6000)
  else pack [(0, 4, tcCode q.tc), (4, 1, b2n q.minAtt), (5, 1, b2n q.orient), (6, 1, b2n q.vconnOn), (7, 1, b2n q.vconnPin),
    (8, 1, b2n q.source), (9, 1, b2n q.dfp), (10, 1, b2n q.servicePresent), (11, 1, b2n q.deadcar), (12, 1, b2n q.enabled),
    (13, 2, rpCode q.rp), (15, 1, b2n q.vbusHigh), (16, 1, b2n (g.state == .closed || g.state == .limiting)),
    (17, 1, b2n (g.state == .latched)), (18, 1, b2n q.startFail), (19, 1, b2n q.minimal)]

/-- PORTn_PDSTAT (04 R185). -/
def pdStat (d : Dev) (p : Fin 32) : Word :=
  let q := d.ports[p]
  pack [(0, 2, q.rev), (2, 3, kindCode q.kind), (5, 4, q.position), (9, 1, b2n q.eprMode), (10, 1, b2n q.ppsLimited),
    (11, 1, b2n (clActs d p)), (12, 1, b2n q.mismatch), (13, 1, b2n q.swap), (14, 1, b2n q.transition),
    (15, 1, b2n q.pend.isSome), (16, 1, b2n ((q.capWatts, q.capMa) != capOf d (phasesOf d p))), (17, 6, q.capsSent)]

/-- PORTn_CABLE (04 R186). -/
def cableReg (q : Port) : Word :=
  pack [(0, 2, q.cableFinding), (2, 1, b2n q.cableEpr), (3, 1, b2n q.cableActive), (4, 1, b2n q.vconnOc), (5, 1, b2n q.cableDone),
    (8, 8, q.cableV), (16, 16, q.cableI)]

/-- The PORT block (04 R184). -/
def readPort (d : Dev) (p : Fin 32) (ofs : Nat) : Word :=
  let q := d.ports[p]; let x := d.pd[p]
  if 0x40 ≤ ofs ∧ ofs ≤ 0x68 then x.pdos[Fin.ofNat 11 ((ofs - 0x40) / 4)]
  else match ofs with
  | 0x00 => tcStat d p
  | 0x04 => pdStat d p
  | 0x08 => pack [(0, 16, q.volt), (16, 16, q.curr)]
  | 0x0C => pack [(0, 16, q.fenceReg), (16, 1, b2n q.fencePend.isSome)]
  | 0x10 => pack [(0, 16, q.hand), (16, 16, (q.pend.map Prod.fst).getD 0xFFFF)]
  | 0x14 => wordOf ((q.pend.map Prod.snd).getD 0) 0
  | 0x18 => wordOf ((q.pend.map Prod.snd).getD 0) 1
  | 0x1C => pack [(0, 16, q.capWatts), (16, 16, q.capMa)]
  | 0x20 => cableReg q
  | 0x24 => pack [(0, 16, q.cableVid.toNat), (16, 16, q.cablePid.toNat)]
  | 0x28 => w32 x.limit
  | 0x2C => pack [(0, 16, (d.chans[vbusCh p]).result.toNat), (16, 16, (d.chans[iportCh p]).result.toNat)]
  | 0x30 => x.event
  | 0x34 => x.irqen
  | 0x38 => x.fault
  | 0x3C => pack [(0, 8, x.hrTx), (8, 8, x.hrRx), (16, 8, x.softs), (24, 8, x.retries)]
  | 0x6C => q.rdo
  | 0x70 => pack [(0, 8, x.sinkPdp), (8, 8, x.sprRating), (16, 8, x.eprRating)]
  | 0x74 => pack [(0, 16, x.reach), (16, 16, x.base)]
  | _ => 0

/-- The legs are high-impedance (05 R189, 09 R371, 16 R599). -/
def legsOpen (d : Dev) : Bool := isShadow d || (d.cfg.twin.en && d.twin.prole) || d.sys.mode == .dormant || d.sys.inReset || !d.sys.supplyOk[1] || extest d

/-- The legs of a phase are high-impedance (05 R189). -/
def phaseHiz (d : Dev) (n : Fin 64) : Bool := legsOpen d || (d.cfg.phases[n]).isNone

/-- PHASEn_STAT (05 R229). -/
def phaseStat (d : Dev) (n : Fin 64) : Word :=
  let f := d.phases[n]
  let wait := phasePending d n
  let rg := match portOfPhase d n with | some p => regionCode (d.loops[p]).region | none => 0
  pack [(0, 3, if wait then 5 else phaseCode f.state), (3, 2, rg), (5, 1, b2n f.de), (6, 1, b2n f.skip), (7, 1, b2n f.sf), (8, 3, f.why),
    (11, 2, if wait then 3 else f.census), (13, 1, b2n f.minimal), (14, 1, b2n (phaseHiz d n))]

/-- PHASEn_CENSUS (05 R228). -/
def censusReg (f : Phase) : Word :=
  pack [(0, 10, f.zeroMv), (10, 10, f.ownRise), (20, 5, f.foreignPort.val), (25, 7, f.foreignRise / 10)]

/-- PHASEn_LSTAT (05 R230). -/
def lstat (l : Loop) : Word :=
  pack [(0, 2, regionCode l.region), (2, 1, b2n l.softStart), (3, 1, b2n l.ramping), (4, 1, b2n l.trunc), (5, 1, b2n l.uv),
    (6, 1, b2n l.cl), (7, 1, b2n l.hiccup), (8, 1, b2n l.latched), (9, 1, b2n l.skipping), (13, 13, l.lc), (26, 4, l.hc)]

/-- VBUS of a port lies below 0.90 x VREF by its last converter result, with the guard closed, the reference static and no ramp within the last
5 ms (05 R215, R230; log entry 37). -/
def uvBelow (d : Dev) (p : Fin 32) : Bool :=
  let l := d.loops[p]
  let g := (d.guards[p]).state
  (g == .closed || g == .limiting) && !l.ramping && decide (l.uvFrom ≤ d.tmr.tb + ticksOfMs 10) && decide (10 * (d.chans[vbusCh p]).result.toNat < 36 * l.ref)

/-- The registers of a mapped phase (05 R228). -/
def readMapped (d : Dev) (n : Fin 64) (c : PhaseCfg) (ofs : Nat) : Word :=
  let f := d.phases[n]
  let l := { d.loops[c.port] with cl := clActs d c.port, uv := (d.loops[c.port]).uv || uvBelow d c.port }
  let k : LoopCfg := (d.cfg.loops[c.port]).getD {}
  match ofs with
  | 0x00 =>
      pack [(0, 1, 1), (1, 5, c.port.val), (6, 1, b2n c.busB), (7, 1, b2n (sfPolOf d c.port)),
        (8, 2, ((livePhases d c.port).filter fun m => m.val < n.val).length), (10, 3, (livePhases d c.port).length)]
  | 0x04 => phaseStat d n
  | 0x08 => pack [(0, 1, b2n f.retire)]
  | 0x0C => pack [(0, 16, c.ipeak), (16, 16, c.imonGain)]
  | 0x10 => pack [(0, 16, f.imonPeak), (16, 16, twos 16 f.imonAvg)]
  | 0x14 => pack [(0, 16, f.dutyA), (16, 16, f.dutyB)]
  | 0x18 => shownEvent d (linkOf (edgeOfPhase n)) f.event f.evSeen
  | 0x1C => f.irqen
  | 0x20 => f.fault
  | 0x24 => pack [(0, 16, f.limited), (16, 8, f.truncs), (24, 8, f.hiccups)]
  | 0x28 => censusReg f
  | 0x2C => pack [(0, 8, k.rz), (8, 8, k.cz), (16, 8, k.cp), (24, 6, k.gm)]
  | 0x30 => pack [(0, 11, k.fsw), (11, 7, k.slope), (18, 5, k.blank), (23, 1, b2n (k.lflags.getLsbD 0)), (24, 1, b2n (k.lflags.getLsbD 1))]
  | 0x34 => pack [(0, 14, refNow d l), (16, 14, l.target), (30, 1, b2n l.ramping)]
  | 0x38 => lstat l
  | 0x3C => pack [(0, 11, k.nRun), (11, 13, k.nStart), (24, 4, k.mHiccup)]
  | 0x40 => pack [(0, 10, k.tHiccup), (16, 16, k.iskip)]
  | 0x44 => pack [(0, 16, k.iSilent), (16, 16, k.iSenseOfs)]
  | _ => 0

/-- The PHASE block (05 R228): an unmapped phase reads 0 in every register. -/
def readPhase (d : Dev) (n : Fin 64) (ofs : Nat) : Word :=
  match d.cfg.phases[n] with
  | some c => readMapped d n c ofs
  | none => 0

/-- MONc_STAT (06 R267); a disabled channel reads 0 in every field (06 R236). -/
def monStat (d : Dev) (c : Fin 204) : Word :=
  let x := d.chans[c]
  if !x.enabled then 0
  else
    let out := match x.zone with | .inWin => true | .unsettled => isWindow c && x.safe | _ => false
    pack [(0, 2, zoneCode x.zone), (2, 1, b2n out), (3, 1, b2n x.tripHi), (4, 1, b2n x.tripLo), (5, 1, b2n x.unsetHi),
      (6, 1, b2n x.unsetLo), (7, 1, b2n x.spare), (8, 1, b2n x.drift), (9, 1, b2n x.forced), (10, 1, b2n x.frozen)]

/-- A channel's registers (06 R266). -/
def readMon (d : Dev) (c : Fin 204) (ofs : Nat) : Word :=
  let x := d.chans[c]
  let g := groupOf c
  match ofs with
  | 0x00 => pack [(0, 1, b2n x.mode), (1, 4, x.filter), (5, 1, b2n x.safe), (6, 3, x.route.toNat), (9, 4, x.capt.val),
      (13, 3, roleIdx c), (16, 1, b2n x.enabled), (17, 3, if g.val = 24 then 0 else g.val % 6)]
  | 0x04 => if isWindow c then pack [(0, 13, x.thrHi), (16, 13, x.thrLo)] else 0
  | 0x08 => if isWindow c then pack [(0, 13, x.relHi), (16, 13, x.relLo)] else 0
  | 0x0C => monStat d c
  | 0x10 => shownEvent d (dieOf c) x.event x.evSeen
  | 0x14 => x.irqen
  | 0x1C => pack [(0, 16, x.result.toNat), (16, 16, x.results)]
  | 0x20 => wordOf x.resultTb 0
  | 0x24 => pack [(0, 8, twos 8 x.trimOfs), (8, 8, twos 8 x.trimGain), (16, 16, twos 16 x.trimErr)]
  | 0x28 => wordOf x.calTb 0
  | 0x2C => pack [(0, 16, x.changes), (16, 16, x.cals)]
  | _ => 0

/-- MON_UNSETn for 32 channels from a first one (06 R268). -/
def unsetWord (d : Dev) (first : Nat) : Word :=
  maskOf (n := 32) fun i =>
    let c : Fin 204 := Fin.ofNat 204 (first + i.val)
    decide (first + i.val < 204) && isWindow c && (d.chans[c]).enabled && (d.chans[c]).zone == .unsettled

/-- Whether spare s has failed (06 R254). -/
def spareFailed (d : Dev) (s : Nat) : Bool :=
  if s < 50 then
    let g := d.groups[(Fin.ofNat 25 (s / 2))]
    if s % 2 = 0 then g.failedA else g.failedB
  else false

/-- Present housekeeping load of a converter in samples per second (06 R257): VOUT, VBUS and IPORT of each configured port at 1 kS/s each, and
at rates the spec leaves open (log entry 5) the readbacks of live calibration, the die temperature and the bus senses, never above the
reserve. -/
def hkLoad (d : Dev) (cv : Fin 5) : Nat :=
  if d.sys.mode = .boot ∨ d.sys.mode = .dormant then 0
  else
    let ports := if cv.val < 4 then 3000 * countWhere (n := 8) fun i => hasPort d (Fin.ofNat 32 (8 * cv.val + i.val)) else 0
    min (if cv.val < 4 then 400000 else 25000) (ports + (Config.freeWord (d.freeCtr + cv.val)).toNat)

/-- The global monitor registers (06 R268). -/
def readMonGlobal (d : Dev) (ofs : Nat) : Word :=
  match ofs with
  | 0x00 => w32 d.sys.monCtl
  | 0x04 => pack [(0, 8, d.sys.monRounds[0]), (8, 8, d.sys.monRounds[1]), (16, 8, d.sys.monRounds[2]), (24, 8, d.sys.monRounds[3])]
  | 0x08 => pack [(0, 8, d.sys.monRounds[4]), (8, 8, sat 255 (sumOver (n := 25) fun g => (d.groups[g]).lastSkips)),
      (16, 8, sat 255 (countWhere (n := 204) fun c => (d.chans[c]).drift))]
  | 0x0C => maskOf (n := 32) fun i => spareFailed d i.val
  | 0x10 => maskOf (n := 18) fun i => spareFailed d (32 + i.val)
  | 0x14 => unsetWord d 0
  | 0x18 => unsetWord d 32
  | 0x20 => unsetWord d 64
  | 0x24 => unsetWord d 96
  | 0x34 => unsetWord d 192
  | _ => 0

/-- A word of a result block (06 R270). -/
def readBlock (b : ResBlock) (ofs : Nat) : Word :=
  if 0x10 ≤ ofs ∧ ofs ≤ 0x2C then
    let k := (ofs - 0x10) / 4
    pack [(0, 16, (b.data[Fin.ofNat 16 (2 * k)]).toNat), (16, 16, (b.data[Fin.ofNat 16 (2 * k + 1)]).toNat)]
  else match ofs with
  | 0x00 => wordOf b.stamp 0
  | 0x04 => wordOf b.stamp 1
  | 0x08 => pack [(0, 16, b.number), (16, 5, b.members), (21, 1, b2n b.incomplete)]
  | 0x0C => w32 b.valid.toNat
  | _ => 0

/-- A converter's registers as a master reads them (06 R269, R263): words after STAMP_LO come from the master's buffer. -/
def readConv (d : Dev) (b : Fin 21) (cv : Fin 5) (ofs : Nat) : Word :=
  let c := d.convs[cv]
  if 0x20 ≤ ofs ∧ ofs ≤ 0x58 then
    let q := c.seqs[Fin.ofNat 16 ((ofs - 0x20) / 4 + 1)]
    pack [(0, 16, q.completions), (16, 8, q.drops), (24, 4, q.overruns), (28, 1, b2n q.incomplete)]
  else if 0x100 ≤ ofs ∧ ofs < 0x4C0 then
    let s := (ofs - 0x100) / 0x40 + 1
    let o := (ofs - 0x100) % 0x40
    if o = 0 then readBlock ((c.seqs[Fin.ofNat 16 s]).block) 0
    else readBlock (((c.buffers[b])[Fin.ofNat 16 s]).getD {}) o
  else match ofs with
  | 0x00 => pack [(0, 1, b2n c.contEn), (1, 15, c.seqEn.toNat / 2)]
  | 0x04 => pack [(0, 1, b2n (c.running.isSome || (c.contEn && (scanPlan d cv).scans.any fun s => s.sq == 0))), (1, 4, (c.running.map fun r => r.1.val).getD 0),
      (5, 15, ((indices 16).foldl (fun a i => if i.val != 0 && (c.seqs[i]).waiting.isSome then a + 2 ^ (i.val - 1) else a) 0))]
  | 0x08 => c.event
  | 0x0C => c.irqen
  | 0x14 => pack [(0, 24, c.load)]
  | 0x18 => pack [(0, 24, hkLoad d cv)]
  | _ => 0

/-- FEEDn_STAT (07 R305). -/
def feedStat (x : Feed) : Word :=
  pack [(0, 3, feedCode x.state), (3, 1, b2n x.inUv), (4, 1, b2n x.inOv), (5, 1, b2n x.limiting), (6, 1, b2n x.foldback),
    (7, 1, b2n x.timer.up), (8, 1, b2n x.pg), (9, 1, b2n x.pgWarn), (10, 1, b2n x.diodeOn), (11, 1, b2n x.blocking),
    (12, 1, b2n x.fen), (13, 1, b2n x.hubLost), (16, 3, x.latchWhy)]

/-- A feed's registers (07 R304); those the feed die updates hold their last values while ELF is lost (07 R309). -/
def readFeed (d : Dev) (f : Fin 4) (ofs : Nat) : Word :=
  let x := d.feeds[f]
  let y := if d.sys.retraining[elf] then d.loss.feeds[f] else x
  let k := if d.sys.retraining[elf] then d.loss.freeCtr[elf] else d.freeCtr
  let c := (d.cfg.feeds[f]).getD { insDelay := 0, insTimeout := 0, ftimer := 0, tfet := 0 }
  match ofs with
  | 0x00 => pack [(0, 1, b2n x.en)]
  | 0x04 => feedStat y
  | 0x08 => shownEvent d elf x.event x.evSeen
  | 0x0C => x.irqen
  | 0x10 => x.fault
  | 0x14 => pack [(0, 16, c.uvRise), (16, 16, c.uvFall)]
  | 0x18 => pack [(0, 16, c.ovRise), (16, 16, c.ovFall)]
  | 0x1C => pack [(0, 16, c.insDelay), (16, 16, c.insTimeout)]
  | 0x20 => pack [(0, 16, c.ilim), (16, 16, c.pfet)]
  | 0x24 => pack [(0, 16, c.ftimer), (16, 8, c.tfet), (24, 1, c.tsrc), (25, 1, b2n (c.fflags.getLsbD 0)), (26, 1, b2n (c.fflags.getLsbD 1))]
  | 0x28 => pack [(0, 16, c.pgVds)]
  | 0x2C => if c.tsrc = 1 then pack [(0, 16, c.rth), (16, 16, c.tau)] else 0
  | 0x30 => pack [(0, 16, Config.feedVin k f), (16, 16, Config.feedVds k f)]
  | 0x34 => pack [(0, 16, (d.chans[feedCh f 1]).result.toNat), (16, 16, Config.feedVds k f * (d.chans[feedCh f 1]).result.toInt.toNat / 1000)]
  | 0x38 => if c.tsrc = 1 then pack [(0, 16, twos 16 y.temp), (16, 1, 1)] else pack [(0, 16, (d.chans[feedCh f 2]).result.toNat)]
  | 0x3C => pack [(0, 8, y.trips), (8, 8, y.reverses), (16, 8, y.pgLosses), (24, 8, y.inserts)]
  | _ => 0

/-- FEED_BUS (07 R306). -/
def readBus (d : Dev) (ofs : Nat) : Word :=
  let g (i : Fin 4) := (d.feeds[i]).pg
  if ofs = 0 then pack [(0, 1, b2n (busPg d false)), (1, 1, b2n (busPg d true)), (2, 1, b2n (g 0 != g 1)), (3, 1, b2n (g 2 != g 3))] else 0

/-- GUARDp_STAT (07 R308). -/
def guardStat (g : Guard) : Word :=
  pack [(0, 3, guardCode g.state), (3, 1, b2n g.foldback), (4, 1, b2n g.timer.up), (5, 1, b2n g.discharge), (6, 1, b2n g.rearmHold),
    (7, 1, b2n g.rearmSpent), (8, 3, g.latchWhy), (11, 3, g.openWhy)]

/-- The present limit of a guard in mA at a voltage across it in mV (07 R296): ILIM, or PGUARD over that voltage, taken as 0.5 V at least. -/
def limOf (c : PortCfg) (vds : Nat) : Nat := min c.ilim (c.pguard * 100000 / max vds 500)

/-- A port guard's registers (07 R307); a port without a PORT section reads 0. The measured values are free (log entry 5); THERM reads its reset value
0 while the guard stands as at reset. What the edge die updates holds its last values while the link is lost (07 R309). -/
def readGuard (d : Dev) (p : Fin 32) (ofs : Nat) : Word :=
  let g := d.guards[p]
  let lost := d.sys.retraining[linkOf (edgeOf p)]
  let h := if lost then d.loss.guards[p] else g
  let k := if lost then d.loss.freeCtr[linkOf (edgeOf p)] else d.freeCtr
  match d.cfg.ports[p] with
  | none => 0
  | some c =>
    match ofs with
    | 0x00 => guardStat h
    | 0x04 => shownEvent d (linkOf (edgeOf p)) g.event g.evSeen
    | 0x08 => g.irqen
    | 0x0C => pack [(0, 16, c.ilim), (16, 16, c.gtimer)]
    | 0x10 => pack [(0, 16, c.pguard)]
    | 0x14 => pack [(0, 16, Config.guardVds k p), (16, 16, limOf c (Config.guardVds k p))]
    | 0x18 => if h = {} then 0 else pack [(0, 16, Config.guardHeat k p), (16, 16, Config.guardPeak k p)]
    | 0x1C => pack [(0, 8, h.limits), (8, 8, h.timerTrips), (16, 8, h.shortTrips), (24, 8, h.rearms)]
    | _ => 0

/-- The 32 bytes of a concordance entry (08 R356). -/
def mapBytes (m : Member) : List Byte :=
  toLe 4 m.card.key ++ idBytes m.card.id ++ toLe 1 m.kinds.toNat ++ toLe 2 0 ++ toLe 8 m.card.postmark ++ toLe 8 m.since

/-- The discordant members and the devices that share their seat keys, in order of seat key (08 R355, R356). -/
def mapEntries (l : Ledger) : List Member :=
  (sortBy (fun a b => decide (a.card.key ≤ b.card.key)) (l.members.filter (fun m => m.kinds != 0) ++ l.dups)).take 32

/-- LEDGER_STAT (08 R364). -/
def ledgerStat (l : Ledger) : Word :=
  pack [(0, 2, roleCode l.role), (2, 1, b2n l.candidate), (3, 1, b2n l.standing), (4, 2, sat 3 l.missed), (6, 1, b2n l.merging),
    (7, 1, b2n l.discordant), (8, 1, b2n l.conservative), (9, 1, b2n l.outsider), (10, 1, b2n l.depthExceeded), (11, 1, b2n l.dupKey),
    (12, 1, b2n l.tsyncLost), (13, 1, b2n (l.started && l.roll.isEmpty)), (14, 1, b2n (l.orders.any fun o => o.whole && !o.applied)),
    (15, 1, b2n l.defaultBudget), (16, 1, b2n l.budgetShort)]

/-- The earliest T_ORDER of a held, unapplied order; 0 when none (08 R363). -/
def earliestOrder (l : Ledger) : Nat :=
  ((l.orders.filter fun o => o.whole && !o.applied).foldl (fun (a : Option Nat) o =>
    match a with | none => some o.order.tOrder | some t => some (min t o.order.tOrder)) none).getD 0

/-- CAP of the device in W (08 R322). -/
def ledgerCap (d : Dev) : Nat :=
  (if busPg d false then d.cfg.ledger.busA else 0) + (if busPg d true then d.cfg.ledger.busB else 0)

/-- The pending allotment and its date (08 R339): the lowest held CUT, the earliest of equals. -/
def pendingCut (l : Ledger) : Option (Nat × Nat) :=
  l.cuts.foldl (fun a c => match a with
    | none => some c
    | some b => if c.2 < b.2 ∨ (c.2 = b.2 ∧ c.1 < b.1) then some c else some b) none

/-- The ledger registers (08 R363). -/
def readLedger (d : Dev) (ofs : Nat) : Word :=
  let l := d.ledger
  if 0x100 ≤ ofs ∧ ofs < 0x1C0 then
    let i := (ofs - 0x100) / 8
    match (l.shown.map (·.entries)).getD [] |>.drop i with
    | [] => 0
    | e :: _ => if ofs % 8 = 0 then w32 e.key else pack [(0, 16, e.allot), (16, 16, e.cut)]
  else if 0x210 ≤ ofs ∧ ofs < 0x610 then
    if l.role != .dealer then 0
    else match (mapEntries l).drop ((ofs - 0x210) / 32) with
    | [] => 0
    | m :: _ => w32 (fieldAt (mapBytes m) ((ofs - 0x210) % 32) 4)
  else if 0x50 ≤ ofs ∧ ofs ≤ 0x5C then wordOf l.rollDigest ((ofs - 0x50) / 4)
  else match ofs with
  | 0x00 => ledgerStat l
  | 0x04 => l.event
  | 0x08 => l.irqen
  | 0x0C => w32 l.dealer
  | 0x10 => pack [(0, 16, l.epoch), (16, 8, l.hops), (24, 8, ((l.shown.map (·.entries)).getD []).length)]
  | 0x14 => pack [(0, 8, l.slot), (8, 8, (l.parent.map (·.val)).getD 0xFF)]
  | 0x18 => w32 l.dealNo
  | 0x1C => pack [(0, 16, l.allot), (16, 16, match pendingCut l with | none => 0xFFFF | some c => c.2)]
  | 0x20 => wordOf (((pendingCut l).map Prod.fst).getD 0) 0
  | 0x24 => wordOf (((pendingCut l).map Prod.fst).getD 0) 1
  | 0x28 => w32 l.budget
  | 0x2C => pack [(0, 16, l.bidContract), (16, 16, l.bidTrump)]
  | 0x30 => pack [(0, 16, ledgerCap d), (16, 16, l.kittyHeld / 10)]
  | 0x34 => pack [(0, 16, l.caps[0]), (16, 16, l.caps[1])]
  | 0x38 => pack [(0, 16, l.caps[2]), (16, 16, l.caps[3])]
  | 0x3C => w32 l.orderHeld
  | 0x40 => w32 l.orderApplied
  | 0x44 => wordOf (earliestOrder l) 0
  | 0x48 => wordOf (earliestOrder l) 1
  | 0x4C => (l.shown.map (·.discord)).getD 0
  | 0x60 => w32 (twos 32 (max (-2147483648) (min 2147483647 l.tofs)))
  | 0x64 => pack [(0, 16, twos 16 l.trate)]
  | 0x68 => pack [(0, 8, l.misses), (8, 8, l.lates), (16, 8, l.elections), (24, 8, l.merges)]
  | 0x200 => if l.role == .dealer then pack [(0, 8, (mapEntries l).length), (8, 1, 1)] else 0
  | _ => 0

/-- A post link's registers (08 R365). -/
def readPost (d : Dev) (i : Fin 3) (ofs : Nat) : Word :=
  let x := d.posts[i]
  let id := (x.peer.map (·.id)).getD ⟨0, 0, 0, 0⟩
  if 0x24 ≤ ofs ∧ ofs ≤ 0x30 then wordOf x.peerPm ((ofs - 0x24) / 4)
  else match ofs with
  | 0x00 => pack [(0, 2, linkCode x.state), (2, 1, b2n x.lock), (3, 1, b2n x.holdoff), (4, 1, b2n (d.ledger.parent == some i)),
      (5, 1, b2n x.foreign), (6, 1, b2n x.peerDiscord), (7, 1, b2n x.rxOk)]
  | 0x04 => x.event
  | 0x08 => x.irqen
  | 0x0C => pack [(0, 1, b2n x.en)]
  | 0x10 => w32 ((x.peer.map (·.key)).getD 0)
  | 0x14 => w32 ((x.peer.map (·.dealer)).getD 0)
  | 0x18 => lotWord id
  | 0x1C => lotWord1 id
  | 0x20 => pack [(0, 8, id.y), (8, 8, (x.peer.map (·.link.val)).getD 0), (16, 16, (x.peer.map (·.epoch)).getD 0)]
  | 0x34 => pack [(0, 16, x.delay)]
  | 0x38 => pack [(0, 16, x.rxFrames), (16, 16, x.txFrames)]
  | 0x3C => pack [(0, 16, x.errors), (16, 16, x.invalid)]
  | _ => 0

/-- TWIN_STAT (09 R402). -/
def twinStat (d : Dev) : Word :=
  let t := d.twin
  pack [(0, 2, t.role), (2, 1, b2n t.eligible), (3, 1, b2n t.partnerHb), (4, 1, b2n t.prole), (5, 1, b2n (t.link == .up)),
    (6, 1, b2n (t.peer.any fun h => h.postmark == d.store.postmark)), (7, 1, b2n t.lsFresh), (8, 1, b2n t.tbLock),
    (9, 1, b2n t.slot), (12, 4, if t.role == 2 && !t.eligible then whyNot d else 0)]

/-- Age of the last LOOP frame in units of 10 ns, saturating (09 R401). -/
def lsAge (d : Dev) : Nat := match d.twin.lastLoop with | some t => sat 65535 (2 * (d.tmr.tb - t)) | none => 0

/-- The flags of an MHELLO as the byte HFLAGS (09 R378). -/
def mhelloFlags (h : MHello) : Nat := b2n h.rxOk + 2 * b2n h.eligible + 4 * b2n h.inhibit + 8 * b2n h.replace + 16 * b2n h.slot

/-- Counted mirror traffic over the last 10 ms in kbit/s (09 R377, R401). -/
def mirrorLoad (d : Dev) : Nat :=
  (d.twin.loadLog.foldl (fun a x => if d.tmr.tb < x.1 + ticksOfMs 10 then a + x.2 else a) 0) * 8 / 10

/-- The TWIN block (09 R401); with TWIN_EN 0 every register reads 0. -/
def readTwin (d : Dev) (ofs : Nat) : Word :=
  let t := d.twin
  let id := (t.peer.map (·.id)).getD ⟨0, 0, 0, 0⟩
  if !d.cfg.twin.en then 0
  else if 0x44 ≤ ofs ∧ ofs ≤ 0x50 then wordOf ((t.peer.map (·.postmark)).getD 0) ((ofs - 0x44) / 4)
  else match ofs with
  | 0x00 => twinStat d
  | 0x04 => t.event
  | 0x08 => t.irqen
  | 0x0C => pack [(0, 1, b2n t.inhibit), (1, 1, b2n t.replace)]
  | 0x10 => t.cmd
  | 0x14 => pack [(0, 2, linkCode t.link), (2, 1, b2n t.lock0), (3, 1, b2n t.lock1), (8, 8, t.skew)]
  | 0x18 => pack [(0, 24, mirrorLoad d)]
  | 0x1C => pack [(0, 16, lsAge d), (16, 16, max t.lsAgeMax (lsAge d))]
  | 0x20 => w32 (twos 32 (max (-2147483648) (min 2147483647 t.tofs)))
  | 0x24 => pack [(0, 3, t.lastCause), (3, 1, b2n t.lastTook), (16, 16, t.resume)]
  | 0x28 => wordOf t.lastTb 0
  | 0x2C => wordOf t.lastTb 1
  | 0x30 => pack [(0, 8, t.takeovers), (8, 8, t.releases), (16, 8, t.losses), (24, 8, t.refused)]
  | 0x34 => pack [(0, 16, t.errors), (16, 16, t.invalid)]
  | 0x38 => lotWord id
  | 0x3C => lotWord1 id
  | 0x40 => pack [(0, 8, id.y), (8, 8, (t.peer.map (·.role)).getD 0), (16, 8, (t.peer.map (·.mode)).getD 0), (24, 8, (t.peer.map mhelloFlags).getD 0)]
  | _ => 0

/-- An alarm's registers (10 R428). -/
def readAlarm (d : Dev) (i : Fin 32) (ofs : Nat) : Word :=
  let a := d.alarms[i]
  match ofs with
  | 0x00 => wordOf a.staged 0
  | 0x04 => wordOf ((a.commitHi.map fun h => h * 2 ^ 32).getD a.cmp) 1
  | 0x08 => pack [(0, 1, b2n a.late), (1, 1, b2n a.shift)]
  | 0x0C => pack [(0, 1, b2n a.armed), (1, 1, b2n a.wasLate), (2, 1, b2n a.stepped), (3, 1, b2n a.missed), (4, 2, a.tkind), (8, 8, a.tindex), (16, 4, a.tsub)]
  | 0x14 => wordOf a.fireTb 0
  | 0x18 => wordOf a.fireTb 1
  | 0x1C => pack [(0, 16, a.fires), (16, 8, a.misses), (24, 8, a.lates)]
  | _ => 0

/-- An interval timer's registers (10 R429). -/
def readItm (d : Dev) (i : Fin 16) (ofs : Nat) : Word :=
  let t := d.itms[i]
  let c := t.captures.head?
  let st := match t.state with | .stopped => 0 | .held => 1 | .running => 2
  match ofs with
  | 0x00 => pack [(0, 1, b2n t.clamp), (1, 1, b2n t.oneShot), (2, 1, b2n t.hold)]
  | 0x04 => w32 t.reload
  | 0x08 => w32 t.count
  | 0x0C => pack [(0, 2, st), (2, 1, b2n t.zero), (3, 1, b2n t.restart), (4, 1, b2n t.capOvf), (5, 2, t.tkind), (8, 8, t.tindex), (16, 4, t.tsub), (20, 5, t.captures.length)]
  | 0x14 => wordOf ((c.map (·.stamp)).getD 0) 0
  | 0x18 => wordOf ((c.map (·.stamp)).getD 0) 1
  | 0x1C => match c with | none => 0 | some c => pack [(0, 1, 1), (1, 2, zoneCode c.zone), (8, 8, c.chan.val), (16, 16, c.count)]
  | 0x24 => wordOf t.zeroTb 0
  | 0x28 => wordOf t.zeroTb 1
  | 0x2C => pack [(0, 16, t.zeros), (16, 8, t.drops), (24, 8, t.restarts)]
  | _ => 0

/-- The TIMER block as a master reads it (10 R405, R426). -/
def readTimer (d : Dev) (b : Fin 21) (ofs : Nat) : Word :=
  let t := d.tmr
  if 0x100 ≤ ofs ∧ ofs < 0x500 then readAlarm d (Fin.ofNat 32 ((ofs - 0x100) / 0x20)) ((ofs - 0x100) % 0x20)
  else if 0x800 ≤ ofs ∧ ofs < 0xC00 then readItm d (Fin.ofNat 16 ((ofs - 0x800) / 0x40)) ((ofs - 0x800) % 0x40)
  else match ofs with
  | 0x00 => wordOf t.tb 0
  | 0x04 => w32 t.tbHi[b]
  | 0x08 => pack [(0, 2, t.disc), (2, 1, b2n t.shadowSync)]
  | 0x0C => t.event
  | 0x10 => t.irqen
  | 0x18 => pack [(0, 16, if t.goPending then t.goMask else 0), (16, 1, b2n t.goPending)]
  | 0x1C => wordOf t.goAt 0
  | 0x20 => wordOf t.goAt 1
  | 0x24 => wordOf t.stepSize 0
  | 0x28 => wordOf t.stepSize 1
  | 0x2C => t.fired
  | 0x30 => t.missed
  | 0x34 => t.almIrqen
  | 0x38 => t.summary
  | _ => 0

/-- FAULT_SRCi (11 R456); a reserved number reads 0. -/
def readSrc (d : Dev) (i : Fin 768) : Word :=
  let s := d.sources[i]
  match srcRow i.val with
  | none => 0
  | some r => pack [(0, 1, b2n s.latch), (1, 1, b2n (r.level && s.cond)), (2, 2, s.sev), (4, 2, s.eff), (6, 4, s.action), (10, 1, b2n s.graceRun),
      (11, 1, b2n s.forced), (12, 1, b2n (decide (s.sev < s.eff))), (13, 1, b2n r.protective), (14, 1, b2n r.level), (15, 1, b2n s.acted), (16, 8, s.count)]

/-- Remaining grace of a source in us (11 R455). -/
def graceLeft (d : Dev) (e : Fin 768 × Nat) : Nat := (e.2 - d.tmr.tb) / 50

/-- FAULT_UNCLEARED (11 R455). -/
def uncleared (d : Dev) : Word :=
  let l := latched d
  let top := l.foldl (fun a i => max a (d.sources[i]).eff) 0
  match l with
  | [] => 0
  | _ => pack [(0, 12, l.length), (12, 2, top), (14, 1, 1), (16, 12, (((l.filter fun i => (d.sources[i]).eff == top).head?).map (·.val)).getD 0)]

/-- The FAULT block (11 R455). -/
def readFault (d : Dev) (ofs : Nat) : Word :=
  let c := d.coll
  if 0x1000 ≤ ofs ∧ ofs < 0x1C00 then readSrc d (srcOf ((ofs - 0x1000) / 4))
  else if 0x40 ≤ ofs ∧ ofs ≤ 0x58 then c.sys[Fin.ofNat 7 ((ofs - 0x40) / 4)]
  else if 0x100 ≤ ofs ∧ ofs < 0x300 then
    match c.graces.drop ((ofs - 0x100) / 8) with
    | [] => 0
    | e :: _ => if ofs % 8 = 0 then pack [(0, 12, e.1.val), (15, 1, 1)] else w32 (graceLeft d e)
  else match ofs with
  | 0x00 => pack [(0, 1, b2n (errLow d)), (1, 1, b2n (decide (64 ≤ c.backlog.length))), (2, 7, c.backlog.length),
      (9, 4, (maskOf (n := 4) fun e => d.sys.edgeMin[e]).toNat), (13, 1, b2n (decide (d.sys.mode = .minimal))), (14, 3, c.minCause)]
  | 0x04 => c.event
  | 0x08 => c.irqen
  | 0x0C => pack [(0, 2, c.errlvl), (2, 1, b2n c.errTest), (8, 4, c.escN)]
  | 0x18 => uncleared d
  | 0x1C => pack [(0, 16, c.lost), (16, 16, c.recurSupp)]
  | 0x20 => pack [(0, 7, c.graces.length), (8, 7, c.graceMost), (16, 8, c.graceShort)]
  | 0x24 => pack [(0, 12, c.lastSrc), (12, 2, c.lastSev)]
  | 0x28 => wordOf c.lastTb 0
  | 0x2C => wordOf c.lastTb 1
  | 0x30 => pack [(0, 4, c.resetWhy), (4, 12, c.resetSrc)]
  | _ => 0

/-- SYS_MODE (15 R585). -/
def sysMode (d : Dev) : Word :=
  let s := d.sys
  pack [(0, 3, modeCode s.mode), (3, 1, b2n s.deadcar), (4, 4, (maskOf (n := 4) fun e => s.edgeMin[e]).toNat), (8, 4, s.bootStep),
    (12, 4, s.wake), (16, 3, modeCode s.prev), (19, 1, b2n s.attachHold), (20, 1, b2n ((indices 64).any (phasePending d))), (21, 3, sat 7 s.ret.failedBoots)]

/-- The index of an optional master, 7 for none (12 R498). -/
def mIdx (m : Option (Fin 5)) : Nat := match m with | some m => m.val | none => 7

/-- Remaining lease in ms, 0 without an owner (12 R497). -/
def leaseLeft (d : Dev) : Nat := if d.host.owner.isSome then (d.host.leaseEnd - d.tmr.tb) / 50000 else 0

/-- The port cores that run: they are halted in STANDBY and in MINIMAL (15 R564, 11 R452). -/
def coresUp (d : Dev) : BitVec 4 := if d.sys.mode == .service || d.sys.mode == .boot then d.upd.coreRun else 0

/-- SYS_STAT (12 R498). -/
def sysStat (d : Dev) : Word :=
  pack [(0, 1, b2n (errPinLow d)), (1, 1, b2n d.host.owner.isSome), (2, 1, b2n d.upd.svRun), (3, 4, (coresUp d).toNat),
    (7, 5, (maskOf (n := 5) fun e => d.sys.edgeUp[e]).toNat), (12, 1, b2n (isShadow d))]

/-- The SYS block as a master reads it (12 R497). -/
def readSys (d : Dev) (m : Fin 5) (ofs : Nat) : Word :=
  let h := d.host
  if 0x40 ≤ ofs ∧ ofs ≤ 0x50 then
    let k : Fin 5 := Fin.ofNat 5 ((ofs - 0x40) / 4)
    let x := h.masters[k]
    pack [(0, 4, (masterCfg d k).prio), (4, 1, b2n (h.hostLoaded && (masterCfg d k).mayClaim)), (5, 1, b2n (x.claiming && h.window)),
      (6, 1, b2n (h.owner == some k)), (8, 8, x.refused), (16, 8, x.crcErr)]
  else match ofs with
  | 0x00 => pack [(0, 16, 0x3264), (16, 8, d.sys.stepping)]
  | 0x04 => lotWord (unitId d)
  | 0x08 => lotWord1 (unitId d)
  | 0x0C => pack [(0, 8, (unitId d).y), (16, 16, d.sys.date)]
  | 0x10 => sysMode d
  | 0x14 => sysStat d
  | 0x18 => h.event
  | 0x1C => h.irqen
  | 0x20 => pack [(0, 3, mIdx h.owner), (4, 4, (h.owner.map fun o => (masterCfg d o).prio).getD 0), (8, 3, mIdx h.successor),
      (11, 1, b2n h.successor.isSome), (12, 1, b2n h.window), (16, 16, h.changes)]
  | 0x24 => w32 (b2n (h.window && (h.masters[m]).claiming))
  | 0x28 => pack [(0, 16, d.cfg.host.lease), (16, 16, leaseLeft d)]
  | 0x34 => w32 (b2n (h.successor == some m))
  | 0x3C => pack [(0, 3, m.val), (3, 4, (masterCfg d m).prio), (7, 1, b2n (masterCfg d m).mayClaim), (8, 1, b2n (h.owner == some m))]
  | _ => 0

/-- A port asserts its interrupt (04 R184, 11 R446). -/
def irqPort (d : Dev) (p : Fin 32) : Bool := ((d.pd[p]).event &&& (d.pd[p]).irqen) != 0 || (d.pd[p]).fault != 0
def irqGuard (d : Dev) (p : Fin 32) : Bool := (shownEvent d (linkOf (edgeOf p)) (d.guards[p]).event (d.guards[p]).evSeen &&& (d.guards[p]).irqen) != 0
def irqPhase (d : Dev) (n : Fin 64) : Bool := (shownEvent d (linkOf (edgeOfPhase n)) (d.phases[n]).event (d.phases[n]).evSeen &&& (d.phases[n]).irqen) != 0 || (d.phases[n]).fault != 0
def irqChan (d : Dev) (c : Fin 204) : Bool := (shownEvent d (dieOf c) (d.chans[c]).event (d.chans[c]).evSeen &&& (d.chans[c]).irqen) != 0
def irqFeed (d : Dev) (f : Fin 4) : Bool := (shownEvent d elf (d.feeds[f]).event (d.feeds[f]).evSeen &&& (d.feeds[f]).irqen) != 0 || (d.feeds[f]).fault != 0
def irqConv (d : Dev) (c : Fin 5) : Bool := ((d.convs[c]).event &&& (d.convs[c]).irqen) != 0
def irqPost (d : Dev) (i : Fin 3) : Bool := ((d.posts[i]).event &&& (d.posts[i]).irqen) != 0
def irqRing (d : Dev) (r : Fin 16) : Bool := ((d.host.rings[r]).event &&& (d.host.rings[r]).irqen) != 0

/-- The timer block asserts its interrupt (10 R426). -/
def irqTimer (d : Dev) : Bool := (d.tmr.event &&& d.tmr.irqen) != 0 || ((d.tmr.fired ||| d.tmr.missed) &&& d.tmr.almIrqen) != 0

/-- HOSTIF_IRQ_SRC (12 R499, 11 R446). -/
def irqSrc (d : Dev) : Word :=
  pack [(0, 1, b2n ((d.host.event &&& d.host.irqen) != 0)),
    (1, 1, b2n ((d.coll.event &&& d.coll.irqen) != 0 || (indices 7).any fun i => d.coll.sys[i] != 0)),
    (2, 1, b2n (irqTimer d)), (3, 1, b2n ((indices 32).any (irqPort d))), (4, 1, b2n ((indices 32).any (irqGuard d))),
    (5, 1, b2n ((indices 64).any (irqPhase d))), (6, 1, b2n ((indices 204).any (irqChan d))), (7, 1, b2n ((indices 5).any (irqConv d))),
    (8, 1, b2n ((indices 4).any (irqFeed d))), (9, 1, b2n ((d.ledger.event &&& d.ledger.irqen) != 0)), (10, 1, b2n ((indices 3).any (irqPost d))),
    (11, 1, b2n ((d.twin.event &&& d.twin.irqen) != 0)), (12, 1, b2n ((d.net.event &&& d.net.irqen) != 0)),
    (13, 1, b2n ((d.upd.event &&& d.upd.irqen) != 0)), (14, 1, b2n ((indices 16).any (irqRing d)))]

/-- The pins IRQA# (0) and IRQB# (1) of 12 R489: none is high-impedance (DORMANT, RST# low). -/
def irqPin (d : Dev) (k : Fin 2) : Option Bool :=
  if d.sys.mode == .dormant || d.sys.inReset then none
  else
    let route := if k = 0 then d.host.irqA else d.host.irqB
    let ring := (indices 16).any fun r => match d.cfg.host.rings[r] with | some c => c.irq.getLsbD k.val && irqRing d r | none => false
    some (ring || (irqSrc d &&& clrBit route 14) != 0)

/-- Entries a ring holds (12 R471). -/
def ringHeld (g : Ring) : Nat := (g.tail - g.head).toNat

/-- A ring's registers (12 R500); a ring the image does not define reads 0. -/
def readRing (d : Dev) (r : Fin 16) (ofs : Nat) : Word :=
  let g := d.host.rings[r]
  match d.cfg.host.rings[r] with
  | none => 0
  | some c =>
    match ofs with
    | 0x00 => pack [(0, 3, c.kind), (3, 1, 1), (4, 3, c.master.val), (7, 2, c.irq.toNat), (9, 4, Nat.log2 c.entries), (13, 12, c.base),
        (25, 5, if c.pair < 16 then c.pair else 31)]
    | 0x04 => pack [(0, 1, b2n g.en), (1, 1, b2n g.coalesce)]
    | 0x08 => w32 g.head.toNat
    | 0x0C => w32 g.tail.toNat
    | 0x10 => if c.kind = 0 then w32 g.arm.toNat else 0
    | 0x14 => pack [(0, 12, ringHeld g), (12, 1, b2n (decide (ringHeld g = c.entries))), (13, 1, b2n (decide (g.stallWhy ≠ 0))), (14, 3, g.stallWhy)]
    | 0x18 => g.event
    | 0x1C => g.irqen
    | 0x20 => pack [(0, 16, g.passed), (16, 8, g.dropped), (24, 8, g.badIndex)]
    | _ => 0

/-- The HOSTIF block (12 R499). -/
def readHostif (d : Dev) (ofs : Nat) : Word :=
  let h := d.host
  if 0x100 ≤ ofs ∧ ofs < 0x500 then readRing d (Fin.ofNat 16 ((ofs - 0x100) / 0x40)) ((ofs - 0x100) % 0x40)
  else if 0x40 ≤ ofs ∧ ofs ≤ 0x54 then maskOf (n := 32) fun i => irqChan d (Fin.ofNat 204 (32 * ((ofs - 0x40) / 4) + i.val))
  else match ofs with
  | 0x00 => pack [(0, 16, (maskOf (n := 16) fun r => (d.cfg.host.rings[r]).isSome && ringHeld (h.rings[r]) != 0).toNat),
      (16, 1, b2n (decide (32 ≤ h.jobs.length))), (17, 6, h.jobs.length)]
  | 0x04 => irqSrc d
  | 0x08 => h.irqA
  | 0x0C => h.irqB
  | 0x10 => w32 h.spiDummy[0]
  | 0x14 => pack [(0, 16, h.spiCount[0]), (16, 8, h.spiCrc[0]), (24, 8, h.spiAbort[0])]
  | 0x18 => w32 h.spiDummy[1]
  | 0x1C => pack [(0, 16, h.spiCount[1]), (16, 8, h.spiCrc[1]), (24, 8, h.spiAbort[1])]
  | 0x20 => w32 h.baud
  | 0x24 => pack [(0, 16, h.uartFrames), (16, 8, h.uartCrc), (24, 8, h.uartDrops)]
  | 0x30 => maskOf (irqPort d)
  | 0x34 => maskOf (irqGuard d)
  | 0x38 => maskOf (n := 32) fun i => irqPhase d (Fin.ofNat 64 i.val)
  | 0x3C => maskOf (n := 32) fun i => irqPhase d (Fin.ofNat 64 (32 + i.val))
  | 0x58 => maskOf (n := 12) fun i => irqChan d (Fin.ofNat 204 (192 + i.val))
  | 0x5C => pack [(0, 4, (maskOf (irqFeed d)).toNat), (4, 5, (maskOf (irqConv d)).toNat), (9, 3, (maskOf (irqPost d)).toNat)]
  | _ => 0

/-- NET_TGi_STAT and NET_TGi_TB (13 R527). -/
def readTg (d : Dev) (i : Fin 16) (hi : Bool) : Word :=
  let t := d.net.tgs[i]
  let c := (d.cfg.net.bind fun n => n.trdp[i.val]?)
  if hi then wordOf t.lastTb 0
  else match c with
  | none => 0
  | some c => pack [(0, 1, 1), (1, 1, b2n c.subscribe), (2, 1, b2n t.timeout), (8, 8, c.dataset), (16, 8, t.count), (24, 8, t.discard)]

/-- The NETWORK block (13 R526); without a NETWORK section every register reads 0. -/
def readNet (d : Dev) (ofs : Nat) : Word :=
  let n := d.net
  match d.cfg.net with
  | none => 0
  | some c =>
    let s := n.ptp.head?
    if 0x100 ≤ ofs ∧ ofs < 0x180 then readTg d (Fin.ofNat 16 ((ofs - 0x100) / 8)) (ofs % 8 == 4)
    else match ofs with
    | 0x00 => pack [(0, 1, b2n n.link), (1, 2, n.speed), (3, 1, b2n n.running), (4, 1, b2n n.half), (5, 1, b2n (isShadow d))]
    | 0x04 => n.event
    | 0x08 => n.irqen
    | 0x0C => pack [(0, 3, n.pcp), (3, 1, b2n n.macOff)]
    | 0x10 => n.mdio
    | 0x14 => w32 (c.mac % 2 ^ 32)
    | 0x18 => pack [(0, 16, c.mac / 2 ^ 32), (16, 12, c.vlan)]
    | 0x1C => w32 c.ip
    | 0x20 => w32 n.rx
    | 0x24 => w32 n.tx
    | 0x28 => pack [(0, 16, n.rxDrop), (16, 16, n.overflows)]
    | 0x2C => wordOf ((s.map (·.stamp)).getD 0) 0
    | 0x30 => wordOf ((s.map (·.stamp)).getD 0) 1
    | 0x34 => match s with | none => 0 | some s => pack [(0, 1, 1), (1, 1, b2n s.tx), (2, 4, s.kind.val), (16, 16, s.sqid.toNat)]
    | 0x3C => pack [(0, 16, n.mgmt), (16, 8, n.resent), (24, 8, n.mgmtCrc)]
    | _ => 0

/-- Slot index of a component's slots (14 R529): platform set PS0 PS1, port firmware PF0 PF1. -/
def fwSlot (comp : Fin 2) (k : Fin 2) : Fin 4 := ⟨2 * comp.val + k.val, by omega⟩

/-- The running platform-set slot: TRIAL, else ACTIVE (14 R529). -/
def runningPs (d : Dev) : Option (Fin 4) :=
  ((indices 4).filter fun s => s.val < 2 && ((d.upd.slots[s]).state == .trial || (d.upd.slots[s]).state == .active)).foldl
    (fun (a : Option (Fin 4)) s => match a with
      | none => some s
      | some b => if (d.upd.slots[s]).state == .trial then some s else some b) none

/-- The slot a port core runs (14 R555 UPD_CORES). -/
def coreSlot (d : Dev) (k : Fin 4) : Fin 4 := if d.upd.coreSlots[k] then 3 else 2

/-- The UPDATE block (14 R555). UPD_REC_STAT shows 7 for an unbound master in RECOVERY only, and 0 elsewhere, as its reset value has it
(DESIGN CHOICE, log entry 33). -/
def readUpd (d : Dev) (ofs : Nat) : Word :=
  let u := d.upd
  if 0x1000 ≤ ofs ∧ ofs < 0x2000 then Memory.readWord d.parcel (ofs - 0x1000)
  else if 0x20 ≤ ofs ∧ ofs ≤ 0x2C then
    let s := u.slots[Fin.ofNat 4 ((ofs - 0x20) / 4)]
    pack [(0, 4, fwCode s.state), (4, 6, s.security), (10, 1, b2n s.bound), (11, 1, s.keyId), (16, 8, s.pfiMinor), (24, 8, s.pfiMajor)]
  else if 0x30 ≤ ofs ∧ ofs ≤ 0x3C then
    let s := u.slots[Fin.ofNat 4 ((ofs - 0x30) / 4)]
    if s.state == .empty then 0 else w32 s.version
  else if 0x40 ≤ ofs ∧ ofs ≤ 0x5C then
    match runningPs d with | some s => w32 (fieldAt (toBe 32 (u.slots[s]).waybill) (ofs - 0x40) 4) | none => 0
  else match ofs with
  | 0x00 => pack [(0, 1, b2n u.session.isSome), (1, 1, (u.session.map fun x => x.1.val).getD 0), (2, 2, (u.session.map fun x => x.2.1.val).getD 0),
      (4, 1, b2n u.parcelLock), (5, 1, b2n u.trial.isSome), (6, 1, (u.trial.map (·.val)).getD 0), (7, 1, b2n u.quietWait.isSome),
      (8, 1, b2n u.paused.isSome), (9, 1, b2n (decide (d.sys.mode = .recovery)))]
  | 0x04 => u.event
  | 0x08 => u.irqen
  | 0x0C => pack [(0, 11, (u.session.map fun x => (u.slots[x.2.1]).parcels.length).getD 0), (11, 11, (u.session.map fun x => x.2.2).getD 0)]
  | 0x10 => w32 ((indices 4).foldl (fun a k => a + (b2n u.coreSlots[k] + 2 * b2n (u.coreRun.getLsbD k.val)) * 2 ^ (8 * k.val)) 0)
  | 0x14 => pack [(0, 6, u.floors[0]), (8, 6, u.floors[1]), (16, 2, u.keyRevoked.toNat)]
  | 0x18 => if u.trial.isSome then pack [(0, 19, (u.healthEnd - d.tmr.tb) / 50000)] else 0
  | 0x1C => pack [(0, 16, u.lastCode)]
  | 0x60 => pack [(0, 3, u.recCtl)]
  | 0x64 => u.recArg
  | 0x68 => u.recCrc
  | 0x6C => pack [(0, 1, b2n u.recBusy), (1, 3, u.recCmd), (4, 8, u.recResult), (12, 3, if d.sys.mode == .recovery then mIdx u.recBound else 0)]
  | 0x70 => pack [(0, 8, u.activations), (8, 8, u.confirms), (16, 8, u.fallbacks), (24, 8, u.failures)]
  | 0x74 => match runningPs d with | some s => w32 (u.slots[s]).version | none => 0
  | 0x78 => w32 (u.slots[coreSlot d 0]).version
  | _ => 0

/-- SERIAL of an image or amendment (02 R38). -/
def imageSerial (b : List Byte) : Nat := fieldAt b 16 4

/-- Effective serial of a slot (02 R93). -/
def slotSerial (s : ImgSlot) : Nat :=
  if s.state == .empty then 0 else match s.amends.getLast? with | some a => imageSerial a | none => imageSerial s.image

/-- State code of a key slot (02 R95). -/
def keyState (k : KeySlot) : Nat := if k.revoked then 2 else if k.hash = 0 then 0 else 1

/-- The serial floor (02 R50). -/
def floorOf (c : CfgStore) : Nat := c.floors.getLastD 0

/-- The CONFIG block (02 R93). -/
def readConfig (d : Dev) (ofs : Nat) : Word :=
  let c := d.store
  if 0x10000 ≤ ofs ∧ ofs < 0x50000 then Memory.readWord c.stage (ofs - 0x10000)
  else if 0x1000 ≤ ofs ∧ ofs < 0x2000 then Memory.readWord c.report (ofs - 0x1000)
  else if 0x20 ≤ ofs ∧ ofs ≤ 0x3C then w32 (fieldAt (toBe 32 c.digest) (ofs - 0x20) 4)
  else if 0x40 ≤ ofs ∧ ofs ≤ 0x4C then wordOf c.postmark ((ofs - 0x40) / 4)
  else if 0x50 ≤ ofs ∧ ofs ≤ 0x6C then
    let s := c.slots[Fin.ofNat 4 ((ofs - 0x50) / 8)]
    if ofs % 8 = 0 then
      pack [(0, 3, slotCode s.state), (3, 4, s.amends.length), (7, 1, b2n (s.state != .empty && byteAt s.image 11 % 2 == 1)), (8, 2, byteAt s.image 10)]
    else w32 (slotSerial s)
  else match ofs with
  | 0x00 => pack [(0, 2, c.activeSlot.val), (2, 1, b2n (c.amendCount != 0)), (8, 4, c.amendCount), (16, 3, checkCode c.check), (19, 1, b2n (stageLocked d)),
      (20, 1, b2n c.switchAt.isSome), (21, 2, (c.switchAt.map fun x => x.1.val).getD 0), (24, 7, 64 - c.floors.length)]
  | 0x04 => w32 c.serial
  | 0x08 => w32 c.baseSerial
  | 0x0C => w32 (floorOf c)
  | 0x10 => pack [(0, 16, c.schemaMinor), (16, 16, c.schemaMajor)]
  | 0x14 => pack [(0, 2, keyState c.keys[0]), (2, 2, keyState c.keys[1]), (4, 2, keyState c.keys[2]), (6, 2, keyState c.keys[3])]
  | 0x18 => c.pendPorts
  | 0x1C => pack [(0, 19, c.stageLen)]
  | 0x70 => wordOf ((c.switchAt.map Prod.snd).getD 0) 0
  | 0x74 => wordOf ((c.switchAt.map Prod.snd).getD 0) 1
  | _ => 0

end Sys2Proof.Machine
end

