-- ==== Sys2Proof/Machine/Addr.lean ====
section
/-! DEFINITION. The host address map (12 R458 on; the block windows of each chapter) and the read of one word. -/

namespace Sys2Proof.Machine

/-- What a host address names. -/
inductive Loc where
  | sys (ofs : Nat) | hostif (ofs : Nat) | fault (ofs : Nat) | timer (ofs : Nat)
  | port (p : Fin 32) (ofs : Nat) | phase (n : Fin 64) (ofs : Nat)
  | mon (c : Fin 204) (ofs : Nat) | monGlobal (ofs : Nat) | conv (c : Fin 5) (ofs : Nat)
  | feed (f : Fin 4) (ofs : Nat) | bus (ofs : Nat) | guard (p : Fin 32) (ofs : Nat)
  | ledger (ofs : Nat) | post (l : Fin 3) (ofs : Nat) | twin (ofs : Nat) | ring (ofs : Nat)
  | net (ofs : Nat) | upd (ofs : Nat) | config (ofs : Nat) | journal (ofs : Nat)
  | reserved          -- inside a block window, named by no table (00 R11)
  | unmapped          -- outside every block window (12 R461)
  deriving DecidableEq, Repr

/-- The location of an address (log entry 15: where the windows of the blocks end). -/
def locOf (a : Nat) : Loc :=
  if a < 0x1000 then .sys a
  else if a < 0x2000 then .hostif (a - 0x1000)
  else if a < 0x4000 then .fault (a - 0x2000)
  else if a < 0x8000 then .timer (a - 0x4000)
  else if a < 0x10000 then .port (Fin.ofNat 32 ((a - 0x8000) / 0x400)) (a % 0x400)
  else if a < 0x20000 then .phase (Fin.ofNat 64 ((a - 0x10000) / 0x400)) (a % 0x400)
  else if a < 0x23000 then .mon (Fin.ofNat 204 ((a - 0x20000) / 0x40)) (a % 0x40)
  else if a < 0x23300 then .mon (Fin.ofNat 204 (192 + (a - 0x23000) / 0x40)) (a % 0x40)
  else if a < 0x23C00 then .reserved
  else if a < 0x24000 then .monGlobal (a - 0x23C00)
  else if a < 0x26800 then .conv (Fin.ofNat 5 ((a - 0x24000) / 0x800)) (a % 0x800)
  else if a < 0x30000 then .unmapped
  else if a < 0x30400 then .feed (Fin.ofNat 4 ((a - 0x30000) / 0x100)) (a % 0x100)
  else if a < 0x30500 then .bus (a - 0x30400)
  else if a < 0x34000 then .reserved
  else if a < 0x34800 then .guard (Fin.ofNat 32 ((a - 0x34000) / 0x40)) (a % 0x40)
  else if a < 0x38000 then .reserved
  else if a < 0x39000 then .ledger (a - 0x38000)
  else if a < 0x39300 then .post (Fin.ofNat 3 ((a - 0x39000) / 0x100)) (a % 0x100)
  else if a < 0x3C000 then .reserved
  else if a < 0x40000 then .twin (a - 0x3C000)
  else if a < 0x80000 then .ring (a - 0x40000)
  else if a < 0x90000 then .net (a - 0x80000)
  else if a < 0xA0000 then .upd (a - 0x90000)
  else if a < 0xF0000 then .config (a - 0xA0000)
  else if a < 0x100000 then .unmapped
  else if a < 0x500000 then .journal (a - 0x100000)
  else .unmapped

/-- Size of the journal partition (15 R574). -/
def journalSize : Nat := 50331648

/-- One byte of the journal partition: erased flash reads 0xFF (15 R577). -/
def journalByte (d : Dev) (pos : Nat) : Byte :=
  match d.jrn.written.find? fun x => x.1 ≤ pos && decide (pos < x.1 + x.2.bytes.length) with
  | some x => x.2.bytes.getD (pos - x.1) 0xFF
  | none => 0xFF

/-- A word of the JOURNAL window (15 R582). -/
def journalWord (d : Dev) (a : Nat) : Word :=
  BitVec.ofNat 32 (leNat ((List.range 4).map fun i => journalByte d ((d.jrn.wstart + a + i) % journalSize)))

/-- The ring whose entries hold a byte of ring memory (12 R459, R471). -/
def ringAt (d : Dev) (ofs : Nat) : Option (Fin 16) :=
  (indices 16).find? fun r => match d.cfg.host.rings[r] with
    | some c => decide (64 * c.base ≤ ofs) && decide (ofs < 64 * (c.base + c.entries))
    | none => false

/-- The read buffers of a master and of a telemetry ring (06 R263, 10 R405, 12 R488). -/
def bufOf (m : Fin 5) : Fin 21 := ⟨m.val, by omega⟩
def bufOfRing (r : Fin 16) : Fin 21 := ⟨5 + r.val, by omega⟩

/-- Addresses that are mapped in RECOVERY (14 R553): SYS_ID0 to SYS_ID_POS, SYS_MODE, FAULT_RESET, HOSTIF_SPIA_CFG, HOSTIF_UART_CFG and
the UPDATE block. -/
def inRecoveryMap (a : Nat) : Bool :=
  decide (a ≤ 0x10) || a == 0x2030 || a == 0x1010 || a == 0x1020 || (decide (0x90000 ≤ a) && decide (a < 0xA0000))

/-- The location of an address in the mode of the device (14 R553). -/
def locIn (d : Dev) (a : Nat) : Loc := if d.sys.mode == .recovery && !inRecoveryMap a then .unmapped else locOf a

/-- One word as a master reads it through its buffers, without the side effects of the read; none outside every window (12 R461). -/
def peekVia (d : Dev) (m : Fin 5) (b : Fin 21) (a : Nat) : Option Word :=
  match locIn d a with
  | .sys o => some (readSys d m o)
  | .hostif o => some (readHostif d o)
  | .fault o => some (readFault d o)
  | .timer o => some (readTimer d b o)
  | .port p o => some (readPort d p o)
  | .phase n o => some (readPhase d n o)
  | .mon c o => some (readMon d c o)
  | .monGlobal o => some (readMonGlobal d o)
  | .conv c o => some (readConv d b c o)
  | .feed f o => some (readFeed d f o)
  | .bus o => some (readBus d o)
  | .guard p o => some (readGuard d p o)
  | .ledger o => some (readLedger d o)
  | .post l o => some (readPost d l o)
  | .twin o => some (readTwin d o)
  | .ring o => some (if (ringAt d o).isSome then Memory.readWord d.ringMem o else 0)
  | .net o => some (readNet d o)
  | .upd o => some (readUpd d o)
  | .config o => some (readConfig d o)
  | .journal o => some (if d.sys.storeOk then journalWord d o else 0)
  | .reserved => some 0
  | .unmapped => none

/-- One word as a master reads it. -/
def peek (d : Dev) (m : Fin 5) (a : Nat) : Option Word := peekVia d m (bufOf m) a

/-- Words at successive addresses, unmapped ones as 0. -/
def peekWords (d : Dev) (m : Fin 5) (a n : Nat) : List Word := (List.range n).map fun i => (peek d m (a + 4 * i)).getD 0

/-- Base of the register window of an address: what the event layout of 15 R578 calls the register window of the addressed register's own set. -/
def windowBase (a : Nat) : Nat :=
  match locOf a with
  | .port _ o => a - o
  | .phase _ o => a - o
  | .mon _ o => a - o
  | .conv _ o => a - o
  | .feed _ o => a - o
  | .guard _ o => a - o
  | .post _ o => a - o
  | .monGlobal o => a - o
  | .ledger o => a - o
  | .twin o => a - o
  | .config o => a - o
  | .upd o => a - o
  | .sys o => a - o
  | .fault o => a - o
  | _ => a

end Sys2Proof.Machine
end

