-- ==== Sys2Proof/Machine/Mirror.lean ====
section
/-! DEFINITION. What the twin block does after every command: the eligibility of a SHADOW (09 R388), and the frames that an ACTIVE mirrors of what has changed (09 R377, R381 to R383). -/

namespace Sys2Proof.Machine

/-! ### Protocol records -/

/-- Type of a message on the wire, and its kind: bit 0 data message, bit 1 extended (09 R381 OUT_TYPE, OUT_KIND; log entry 9). -/
def wireType : PdKind → Nat × Nat
  | .accept => (3, 0) | .reject => (4, 0) | .ping => (5, 0) | .psRdy => (6, 0) | .getSourceCap => (7, 0) | .getSinkCap => (8, 0)
  | .drSwap => (9, 0) | .prSwap => (10, 0) | .vconnSwap => (11, 0) | .softReset => (13, 0) | .notSupported => (16, 0)
  | .getSourceCapExtended => (17, 0) | .getStatus => (18, 0) | .getPpsStatus => (20, 0) | .getSourceInfo => (22, 0) | .getRevision => (24, 0)
  | .otherControl => (31, 0)
  | .sourceCapabilities => (1, 1) | .request => (2, 1) | .bistCarrier => (3, 1) | .bistTestData => (3, 1) | .bistOther => (3, 1)
  | .sinkCapabilities => (4, 1) | .alert => (6, 1) | .eprRequest => (9, 1) | .eprModeEnter => (10, 1) | .eprModeEnterAck => (10, 1)
  | .eprModeEnterSucceeded => (10, 1) | .eprModeEnterFailed => (10, 1) | .eprModeExit => (10, 1) | .sourceInfo => (11, 1) | .revision => (12, 1)
  | .vendorDefined => (15, 1) | .discoverIdentity => (15, 1) | .otherData => (31, 1)
  | .sourceCapabilitiesExtended => (1, 3) | .status => (2, 3) | .ppsStatus => (12, 3) | .eprGetSourceCap => (16, 3) | .eprKeepAlive => (16, 3)
  | .eprKeepAliveAck => (16, 3) | .chunkRequest => (17, 3) | .eprSourceCapabilities => (17, 3)

/-- Number of an exchange in a protocol record (09 R381 AMS; log entry 19). -/
def amsCode : Ams → Nat
  | .none => 0 | .offer => 1 | .transition => 2 | .epr => 3 | .prSwapSrc => 4 | .prSwapSnk => 5 | .vconnGive => 6 | .vconnTake => 7
  | .softReset => 8 | .hardReset => 9 | .sinkRequest => 10 | .sinkTransition => 11 | .discover => 12 | .bist => 13 | .drSwap => 14 | .softAnswer => 15

/-- The exchange of a number. -/
def amsOf : Nat → Ams
  | 1 => .offer | 2 => .transition | 3 => .epr | 4 => .prSwapSrc | 5 => .prSwapSnk | 6 => .vconnGive | 7 => .vconnTake | 8 => .softReset
  | 9 => .hardReset | 10 => .sinkRequest | 11 => .sinkTransition | 12 => .discover | 13 => .bist | 14 => .drSwap | 15 => .softAnswer | _ => .none

/-- The policy timers of a port by TIMER_ID (09 R381; log entry 19): rows of 04 R166, then 20 more than the row of 03 R108. -/
def policyTimers (p : Fin 32) : List (Nat × Instr) :=
  [(1, .tcrcreceiveExpiry p), (4, .tsenderresponseExpiry p), (5, .ttypecsendsourcecapExpiry p), (6, .tsinktxExpiry p), (7, .tsrctransitionExpiry p),
    (9, .tsourceeprkeepaliveExpiry p), (10, .tppstimeoutExpiry p), (11, .tpshardresetExpiry p), (13, .tsrcrecoverExpiry p), (15, .tpssourceoffExpiry p),
    (16, .tpssourceonExpiry p), (17, .tswapsourcestartExpiry p), (18, .tvconnsourcetimeoutExpiry p), (19, .tchunksenderrequestExpiry p),
    (20, .tbistcontmodeExpiry p), (21, .tccdebounceExpiry p), (22, .tpddebounceExpiry p), (23, .tdrpExpiry p), (24, .tdrptryExpiry p),
    (25, .ttryccdebounceExpiry p), (26, .tdrptrywaitExpiry p), (27, .terrorrecoveryExpiry p), (32, .tvconnstableExpiry p)]

/-- The policy timer of a port that ends first: its instant and TIMER_ID. -/
def policyTimer (d : Dev) (p : Fin 32) : Option (Nat × Nat) :=
  d.timers.foldl (fun a t =>
    match (policyTimers p).find? fun x => x.2 == t.2 with
    | none => a
    | some x => match a with | none => some (t.1, x.1) | some b => if t.1 < b.1 then some (t.1, x.1) else some b) none

/-- The protocol record of a port (09 R381); during a transition RDO, VOLT and CURR are those last accepted. -/
def protoOf (d : Dev) (p : Fin 32) : ProtoRec :=
  let q := d.ports[p]; let x := d.pd[p]
  let out := x.txQueue.head?
  let ty := (out.map fun m => wireType m.kind).getD (0, 0)
  let tm := (policyTimer d p).getD (0, 0)
  { port := p, tcState := tcCode q.tc
    pflags := BitVec.ofNat 8 (b2n (q.kind != .none) + 2 * b2n q.eprMode + 4 * b2n (q.rev == 1) + 8 * b2n q.swap + 16 * b2n q.transition
      + 32 * b2n q.source + 64 * b2n q.dfp + 128 * b2n q.vconnOn)
    oflags := BitVec.ofNat 8 (b2n q.orient + 2 * b2n q.vconnPin + 4 * b2n q.cableDone)
    txId := x.txId.val + 8 * x.txId1.val, rxId := (x.rxId.map (·.val)).getD 0x80, outType := ty.1
    outKind := ty.2 + 4 * ((out.map (·.tries)).getD 0), rdo := if q.transition then x.newRdo else q.rdo
    volt := if q.transition then x.newVolt else q.volt, curr := if q.transition then x.newCurr else q.curr, hand := q.hand
    pend := (q.pend.map Prod.fst).getD 0xFFFF, pendTb := (q.pend.map Prod.snd).getD 0, cable := cableReg q, timerTb := tm.1, timerId := tm.2
    ams := amsCode x.ams, rpLvl := rpCode q.rp, rxTb := x.rxTb, counts := readPort d p 0x3C }

/-- The moments of 09 R381 have come for a port: a message started, a message acknowledged, a change of state, of Rp or of a hand. -/
def protoMoved (a b : Dev) (p : Fin 32) : Bool :=
  let q := a.ports[p]; let r := b.ports[p]; let x := a.pd[p]; let y := b.pd[p]
  q.tc != r.tc || q.rp != r.rp || q.hand != r.hand || q.pend != r.pend || (y.txQueue.head?.isSome && x.txQueue.head? != y.txQueue.head?) || x.rxTb != y.rxTb

/-! ### What an ACTIVE mirrors -/

/-- New census results: one record for each phase whose census ended (09 R383). -/
def censusNews (a b : Dev) : List MirrorOut :=
  ((indices 64).filter fun n => (a.phases[n]).state == .census && (b.phases[n]).state != .census).map fun n =>
    let f := b.phases[n]
    .control (.census n (f.census == 1) ⟨f.zeroMv, 0, f.ownRise, f.foreignPort, f.foreignRise⟩)

/-- What an ACTIVE sends because a command changed its state from a to b (09 R381 to R383), the first to leave last in the list. -/
def mirrorNews (a b : Dev) : List MirrorOut :=
  let fences := ((indices 32).filter fun p => ((b.ports[p]).fence, (b.ports[p]).fencePend) != ((a.ports[p]).fence, (a.ports[p]).fencePend)).map fun p =>
    MirrorOut.fence p (((b.ports[p]).fencePend).getD (b.ports[p]).fence)
  let protos := ((indices 32).filter (protoMoved a b)).map fun p => MirrorOut.proto (protoOf b p)
  let deals := if b.ledger.last != a.ledger.last then (b.ledger.last.map MirrorOut.ledger).toList else []
  let recs := (b.jrn.buffer.filter fun r => !a.jrn.buffer.contains r).map MirrorOut.journal
  let orders := (b.ledger.orders.filter fun o => o.whole && !(a.ledger.orders.any fun x => x.whole && x.order.no == o.order.no && x.order.digest == o.order.digest)).map
    fun o => MirrorOut.control (.orderHeld o.order)
  let roll := if b.ledger.roll != a.ledger.roll then [MirrorOut.control (.roll b.ledger.roll)] else []
  let cards := ((b.ledger.members.filter fun m => !(a.ledger.members.any fun x => x.card == m.card)).map fun m => MirrorOut.control (.card m.card))
    ++ (if b.ledger.lastCard != a.ledger.lastCard then (b.ledger.lastCard.map fun k => MirrorOut.control (.card k)).toList else [])
  let images := ((indices 4).filter fun k => (a.store.slots[k]).state == .writing && (b.store.slots[k]).state == .stored).map fun k =>
    MirrorOut.control (.image k (b.store.slots[k]).image)
  let am := b.store.slots[b.store.activeSlot]
  let amends := if (a.store.slots[b.store.activeSlot]).amends.length < am.amends.length then (am.amends.getLast?.map fun x => MirrorOut.control (.amendment x)).toList else []
  let retired := if b.sys.retired != a.sys.retired then [MirrorOut.control (.retired b.sys.retired)] else []
  (fences ++ protos ++ deals ++ recs ++ orders ++ roll ++ cards ++ images ++ amends ++ censusNews a b ++ retired).reverse

/-- Payload bytes of a frame that TWIN_LOAD counts: LOOP, PROTOCOL, LEDGER and JOURNAL (09 R377, R380, R381, 02 R78). -/
def mirrorBytes : MirrorOut → Nat
  | .loop _ l => 16 * l.length + 12 * ((l.length + 7) / 8)
  | .proto _ => 64
  | .ledger x => 64 + 8 * x.entries.length
  | .journal r => r.bytes.length
  | _ => 0

/-- Frames join those sent, and their payload the traffic of the last 10 ms. -/
def mirrorLog (tb : Nat) (l : List MirrorOut) (t : Twin) : Twin :=
  let n := l.foldl (fun a x => a + mirrorBytes x) 0
  { t with
    sent := (l ++ t.sent).take 64
    loadLog := if n = 0 then t.loadLog else (tb, n) :: t.loadLog.filter fun x => decide (tb < x.1 + ticksOfMs 10) }

/-- The twin block after a command that changed the block from a to b: an ACTIVE whose mirror link is UP mirrors the news; a SHADOW
evaluates its eligibility, with the events ELIGIBLE_SET and ELIGIBLE_LOST (09 R388, R402). -/
def settleTwin (a b : Dev) : Twin :=
  let t := b.twin
  if t.role = 1 then
    if t.link == .up then mirrorLog b.tmr.tb (mirrorNews a b) t else t
  else if t.role = 2 then
    let e := decide (whyNot b = 0)
    { t with eligible := e, event := if e && !t.eligible then setBit t.event 2 else if !e && t.eligible then setBit t.event 3 else t.event }
  else if t.eligible then { t with eligible := false } else t

/-- The block after a command, with its twin block settled. -/
def settle (a b : Dev) : Dev := { b with twin := settleTwin a b }

end Sys2Proof.Machine
end

