-- ==== Sys2Proof/Machine/Ops.lean ====
section
/-! DEFINITION. The named operations over the state: one part changed, events set, timers started and stopped, journal appends, ring entries and completions. -/

namespace Sys2Proof.Machine

/-- A part of the block changed. -/
def onPort (p : Fin 32) (f : Port → Port) (d : Dev) : Dev := { d with ports := upd d.ports p f }
def onPd (p : Fin 32) (f : PortPd → PortPd) (d : Dev) : Dev := { d with pd := upd d.pd p f }
def onGuard (p : Fin 32) (f : Guard → Guard) (d : Dev) : Dev := { d with guards := upd d.guards p f }
def onLoop (p : Fin 32) (f : Loop → Loop) (d : Dev) : Dev := { d with loops := upd d.loops p f }
def onPhase (n : Fin 64) (f : Phase → Phase) (d : Dev) : Dev := { d with phases := upd d.phases n f }
def onChan (c : Fin 204) (f : Chan → Chan) (d : Dev) : Dev := { d with chans := upd d.chans c f }
def onGroup (g : Fin 25) (f : CalGroup → CalGroup) (d : Dev) : Dev := { d with groups := upd d.groups g f }
def onConv (c : Fin 5) (f : Converter → Converter) (d : Dev) : Dev := { d with convs := upd d.convs c f }
def onFeed (i : Fin 4) (f : Feed → Feed) (d : Dev) : Dev := { d with feeds := upd d.feeds i f }
def onPost (l : Fin 3) (f : Post → Post) (d : Dev) : Dev := { d with posts := upd d.posts l f }
def onLedger (f : Ledger → Ledger) (d : Dev) : Dev := { d with ledger := f d.ledger }
def onTwin (f : Twin → Twin) (d : Dev) : Dev := { d with twin := f d.twin }
def onTmr (f : Timers → Timers) (d : Dev) : Dev := { d with tmr := f d.tmr }
def onAlarm (i : Fin 32) (f : Alarm → Alarm) (d : Dev) : Dev := { d with alarms := upd d.alarms i f }
def onItm (i : Fin 16) (f : Itm → Itm) (d : Dev) : Dev := { d with itms := upd d.itms i f }
def onSource (i : Fin 768) (f : Source → Source) (d : Dev) : Dev := { d with sources := upd d.sources i f }
def onColl (f : Collector → Collector) (d : Dev) : Dev := { d with coll := f d.coll }
def onHost (f : HostIf → HostIf) (d : Dev) : Dev := { d with host := f d.host }
def onRing (r : Fin 16) (f : Ring → Ring) (d : Dev) : Dev := { d with host := { d.host with rings := upd d.host.rings r f } }
def onMaster (m : Fin 5) (f : Master → Master) (d : Dev) : Dev := { d with host := { d.host with masters := upd d.host.masters m f } }
def onNet (f : Net → Net) (d : Dev) : Dev := { d with net := f d.net }
def onUpd (f : Update → Update) (d : Dev) : Dev := { d with upd := f d.upd }
def onFw (s : Fin 4) (f : FwSlot → FwSlot) (d : Dev) : Dev := { d with upd := { d.upd with slots := upd d.upd.slots s f } }
def onStore (f : CfgStore → CfgStore) (d : Dev) : Dev := { d with store := f d.store }
def onJrn (f : Journal → Journal) (d : Dev) : Dev := { d with jrn := f d.jrn }
def onSys (f : Sys → Sys) (d : Dev) : Dev := { d with sys := f d.sys }

/-- The outcome of a command whose effect on the block is a function: the queue stays. -/
def act (f : Dev → Dev) (s : State) : Host.Outcome State Fault Refusal := .next { s with dev := settle s.dev (f s.dev) }

/-! ### The calibration partition -/

/-- A record is written twice, into alternate blocks, each copy under its CRC-32C (15 R575). -/
def Copies.put {α : Type} (bytes : α → List Byte) (v : α) (c : Copies α) : Copies α :=
  let k := crc32c (bytes v)
  { a := some v, crcA := k, b := some v, crcB := k, newB := !c.newB }

/-- A copy whose CRC-32C holds. -/
def goodCopy {α : Type} (bytes : α → List Byte) (v : Option α) (crc : Nat) : Option α := v.filter fun x => crc32c (bytes x) == crc

/-- A reader takes the newer valid copy (15 R575). -/
def Copies.get {α : Type} (bytes : α → List Byte) (c : Copies α) : Option α :=
  let a := goodCopy bytes c.a c.crcA
  let b := goodCopy bytes c.b c.crcB
  if c.newB then b <|> a else a <|> b

/-- The flash gives a copy back wrong: its CRC-32C fails from then on (15 R575). -/
def Copies.spoil {α : Type} (bad : BitVec 2) (c : Copies α) : Copies α :=
  { c with crcA := if bad.getLsbD 0 then c.crcA + 2 ^ 32 else c.crcA, crcB := if bad.getLsbD 1 then c.crcB + 2 ^ 32 else c.crcB }

/-- The records of a PHASE_MAP entry, a PORT, a LOOP and a FEEDS section as bytes under a CRC; their order is the model's (log entry 42). -/
def phaseBytes (c : PhaseCfg) : List Byte := toLe 1 c.port.val ++ toLe 1 (b2n c.busB + 2 * b2n c.sfpol) ++ toLe 2 c.ipeak ++ toLe 2 c.imonGain
def portBytes (c : PortCfg) : List Byte :=
  toLe 1 c.cls ++ toLe 1 c.roles ++ toLe 1 c.pflags.toNat ++ toLe 1 c.offerSet.val ++ toLe 1 c.rp ++ toLe 1 (b2n c.drpol)
    ++ [c.trump, c.debounce, c.ilim, c.gtimer, c.pguard, c.slewSs, c.slewUp, c.slewDn, c.slewOff].flatMap (toLe 2)
def loopBytes (c : LoopCfg) : List Byte :=
  [c.fsw, c.gm, c.rz, c.cz, c.cp, c.slope, c.blank, c.iskip, c.lflags.toNat, c.nRun, c.nStart, c.tHiccup, c.mHiccup, c.iSilent, c.iSenseOfs].flatMap (toLe 2)
def feedBytes (c : FeedCfg) : List Byte :=
  [c.uvRise, c.uvFall, c.ovRise, c.ovFall, c.insDelay, c.insTimeout, c.ilim, c.ftimer, c.pfet, c.tsrc, c.tfet, c.pgVds, c.fflags.toNat, c.rth, c.tau].flatMap (toLe 4)

/-- An optional record as bytes. -/
def optBytes {α : Type} (f : α → List Byte) (x : Option α) : List Byte := match x with | some v => toLe 1 1 ++ f v | none => toLe 1 0

/-- The bytes of the minimal record under its CRC-32C (05 R226). -/
def minRecBytes (r : DieParams) : List Byte :=
  r.phases.toList.flatMap (optBytes phaseBytes) ++ r.ports.toList.flatMap (optBytes portBytes) ++ r.loops.toList.flatMap (optBytes loopBytes)
    ++ r.feeds.toList.flatMap (optBytes feedBytes) ++ toLe 1 (b2n r.twinEn)

/-- The bytes of the list of retired phases under its CRC-32C (05 R224). -/
def retiredBytes (m : BitVec 64) : List Byte := toLe 8 m.toNat

/-- A change made only where a condition holds. -/
def onlyIf (c : Bool) (f : Dev → Dev) (d : Dev) : Dev := if c then f d else d

/-- A change for each element of a list, in order. -/
def forEach {α : Type} (l : List α) (f : α → Dev → Dev) (d : Dev) : Dev := l.foldl (fun a x => f x a) d

/-- Event bits set (00 R9: a bit once set stays until it is cleared). -/
def portEvent (p : Fin 32) (i : Nat) : Dev → Dev := onPd p fun x => { x with event := setBit x.event i }
def guardEvent (p : Fin 32) (i : Nat) : Dev → Dev := onGuard p fun x => { x with event := setBit x.event i }
def phaseEvent (n : Fin 64) (i : Nat) : Dev → Dev := onPhase n fun x => { x with event := setBit x.event i }
def chanEvent (c : Fin 204) (i : Nat) : Dev → Dev := onChan c fun x => { x with event := setBit x.event i }
def feedEvent (f : Fin 4) (i : Nat) : Dev → Dev := onFeed f fun x => { x with event := setBit x.event i }
def postEvent (l : Fin 3) (i : Nat) : Dev → Dev := onPost l fun x => { x with event := setBit x.event i }
def collEvent (i : Nat) : Dev → Dev := onColl fun x => { x with event := setBit x.event i }
def sysEvent (i : Nat) : Dev → Dev := onHost fun x => { x with event := setBit x.event i }
def tmrEvent (i : Nat) : Dev → Dev := onTmr fun x => { x with event := setBit x.event i }
def netEvent (i : Nat) : Dev → Dev := onNet fun x => { x with event := setBit x.event i }
def updEvent (i : Nat) : Dev → Dev := onUpd fun x => { x with event := setBit x.event i }
def convEvent (c : Fin 5) (i : Nat) : Dev → Dev := onConv c fun x => { x with event := setBit x.event i }

/-- A running timer with the same expiry event stops. -/
def stopTimer (ev : Instr) (d : Dev) : Dev := { d with timers := d.timers.filter fun t => t.2 != ev }

/-- A timer starts, or starts again: its event comes after so many ticks (03 R108, 04 R166; log entry 7). -/
def startTimer (ev : Instr) (ticks : Nat) (d : Dev) : Dev :=
  { d with timers := (d.timers.filter fun t => t.2 != ev) ++ [(d.tmr.tb + ticks, ev)] }

/-- A timer for an instant of TB. -/
def startTimerAt (ev : Instr) (tb : Nat) (d : Dev) : Dev :=
  { d with timers := (d.timers.filter fun t => t.2 != ev) ++ [(tb, ev)] }

/-- Whether a timer with this event runs. -/
def timerRuns (d : Dev) (ev : Instr) : Bool := d.timers.any fun t => t.2 == ev

/-- Timers whose event a predicate picks stop. -/
def stopTimersIf (f : Instr → Bool) (d : Dev) : Dev := { d with timers := d.timers.filter fun t => !f t.2 }

/-- A value the spec leaves open (log entry 5): the next of the free values; the counter moves on. -/
def freeValue (d : Dev) : Word := Config.freeWord d.freeCtr
def bumpFree (d : Dev) : Dev := { d with freeCtr := d.freeCtr + 1 }

/-! ### Rings -/

/-- The address of an entry in ring memory (12 R471). -/
def entryOfs (c : RingCfg) (i : BitVec 16) : Nat := 64 * (c.base + i.toNat % c.entries)

/-- The 64 bytes of an entry. -/
def ringEntry (d : Dev) (c : RingCfg) (i : BitVec 16) : List Byte := Memory.readBytes d.ringMem (entryOfs c i) 64

/-- One entry written by the device into a ring with room (12 R472, R474, R501). -/
def ringPut (r : Fin 16) (c : RingCfg) (b : List Byte) (d : Dev) : Dev :=
  let g := d.host.rings[r]
  let g' := { g with
    tail := g.tail + 1
    passed := wrapInc 16 g.passed
    event := putBit (putBit g.event 0 (g.event.getLsbD 0 || !g.coalesce)) 1 (g.event.getLsbD 1 || decide (ringHeld g + 1 = c.entries)) }
  { d with ringMem := Memory.writeBytes d.ringMem (entryOfs c g.tail) (bytesAt b 0 64), host := { d.host with rings := d.host.rings.set r g' } }

/-- Whether a device-written ring takes an entry now (12 R475, R476). -/
def ringRoom (d : Dev) (r : Fin 16) : Bool :=
  match d.cfg.host.rings[r] with
  | some c => (d.host.rings[r]).en && decide (ringHeld (d.host.rings[r]) < c.entries)
  | none => false

/-- A journal-stream or telemetry entry: dropped and counted when the ring is full or disabled (12 R476). -/
def ringOffer (r : Fin 16) (b : Bool → List Byte) (d : Dev) : Dev :=
  match d.cfg.host.rings[r] with
  | none => d
  | some c =>
    let g := d.host.rings[r]
    if ringRoom d r then onRing r (fun g => { g with gap := false }) (ringPut r c (b g.gap) d)
    else onRing r (fun g => { g with dropped := inc8 g.dropped, event := setBit g.event 2, gap := true }) d

/-- The rings of a kind, in number order (02 R66). -/
def ringsOfKind (d : Dev) (k : Nat) : List (Fin 16) :=
  (indices 16).filter fun r => match d.cfg.host.rings[r] with | some c => c.kind == k | none => false

/-- The completion ring of a command ring. -/
def pairOf (d : Dev) (r : Fin 16) : Option (Fin 16) :=
  match d.cfg.host.rings[r] with
  | some c => if c.pair < 16 then some (Fin.ofNat 16 c.pair) else none
  | none => none

/-- The completion codes (12 R484). -/
inductive Code where
  | done | discarded | notOwner | role | minimal | badOpcode | badParam | busy | state | refused | switchPending | storeError
  | censusFail | timeout
  deriving DecidableEq, Repr

/-- The number of a completion code (12 R484). -/
def Code.toNat : Code → Nat
  | .done => 0 | .discarded => 1 | .notOwner => 2 | .role => 3 | .minimal => 4 | .badOpcode => 5 | .badParam => 6 | .busy => 7
  | .state => 8 | .refused => 9 | .switchPending => 10 | .storeError => 11 | .censusFail => 12 | .timeout => 13

/-- A completion entry (12 R478); the result is the bytes from 24 on. -/
def completionEntry (d : Dev) (c : CmdRef) (opcode : Nat) (code : Code) (result : List Byte) : List Byte :=
  toLe 2 opcode ++ toLe 2 code.toNat ++ toLe 4 c.tag.toNat ++ toLe 1 c.ring.val ++ toLe 1 0 ++ toLe 2 c.index ++ toLe 4 0
    ++ toLe 8 d.tmr.tb ++ bytesAt result 0 40

/-- A completion written into its ring, or held while the ring is full or disabled (12 R475, R476). -/
def putCompletion (c : CmdRef) (b : List Byte) (d : Dev) : Dev :=
  match pairOf d c.ring with
  | none => d
  | some r =>
    match d.cfg.host.rings[r] with
    | none => d
    | some k => if ringRoom d r && (d.host.rings[r]).held.isEmpty then ringPut r k b d else onRing r (fun g => { g with held := g.held ++ [b] }) d

/-- Held completions written while the ring has room (12 R475, R476). -/
def drainHeld : Nat → Fin 16 → Dev → Dev
  | 0, _, d => d
  | k + 1, r, d =>
    match d.cfg.host.rings[r], (d.host.rings[r]).held with
    | some c, b :: rest => if ringRoom d r then drainHeld k r (onRing r (fun g => { g with held := rest }) (ringPut r c b d)) else d
    | _, _ => d

/-! ### The journal -/

/-- Priority of a journal class (15 R578). -/
def classCfg (d : Dev) (c : Fin 16) : ClassCfg := d.cfg.journal.classes[c]

/-- Bytes held in the journal buffer. -/
def jrnHeld (l : List JRec) : Nat := l.foldl (fun a r => a + r.bytes.length) 0

/-- The buffer of the journal writer (15 R579). -/
def jrnBufferSize : Nat := 65536

/-- An erase block of the store (15 R574). -/
def eraseBlock : Nat := 65536

/-- Position of a record of a length that would be written at a position: no record crosses an erase block (15 R577). -/
def placeAt (pos len : Nat) : Nat :=
  (if pos % eraseBlock + len ≤ eraseBlock then pos else (pos / eraseBlock + 1) * eraseBlock) % journalSize

/-- Position at which the next record appended will stand, the held records before it (15 R577; log entry 16). -/
def nextPos (d : Dev) (len : Nat) : Nat :=
  placeAt (d.jrn.buffer.foldl (fun p r => placeAt p r.bytes.length + r.bytes.length) d.jrn.pos) len

/-- The index of the record a shed removes: the oldest of the lowest priority (15 R580). -/
def shedIndex (d : Dev) (l : List JRec) : Nat :=
  ((l.zipIdx).foldl (fun (a : Option (Nat × Nat)) x =>
    let p := (classCfg d x.1.cls).prio
    match a with
    | none => some (p, x.2)
    | some (q, i) => if p < q then some (p, x.2) else some (q, i)) none).elim 0 Prod.snd

/-- Records shed until the buffer holds the rest (15 R580); answers the classes shed. -/
def shedLoop (d : Dev) : Nat → List JRec → List JRec × List (Fin 16)
  | 0, l => (l, [])
  | k + 1, l =>
    if jrnHeld l ≤ jrnBufferSize then (l, [])
    else
      let i := shedIndex d l
      let r := shedLoop d k (l.eraseIdx i)
      (r.1, (l[i]?.map (·.cls)).toList ++ r.2)

/-- The bytes of a record: header, payload, CRC-32C (15 R576). -/
def recordBytes (cls : Fin 16) (flags seq stamp : Nat) (payload : List Byte) : List Byte :=
  let b := toLe 2 (payload.length + 20) ++ toLe 1 cls.val ++ toLe 1 flags ++ toLe 4 seq ++ toLe 8 stamp ++ payload
  b ++ toLe 4 (crc32c b)

/-- The entries of a record in a journal-stream ring (12 R487), from a part on. -/
def streamParts (pos len : Nat) (mirrored : Bool) : Nat → Nat → List Byte → List (Bool → List Byte)
  | 0, _, _ => []
  | k + 1, part, b =>
    match b with
    | [] => []
    | _ =>
      (fun gap => toLe 4 pos ++ toLe 2 len ++ toLe 1 (b2n (part != 0) + 2 * b2n gap + 4 * b2n mirrored) ++ toLe 1 part ++ bytesAt b 0 56)
        :: streamParts pos len mirrored k (part + 1) (b.drop 56)

/-- The journal writes nothing in dead-car readout and in RECOVERY, and in MINIMAL only while SV runs (15 R581). -/
def jrnOpen (d : Dev) : Bool := !d.sys.deadcar && d.sys.mode != .recovery && !(d.sys.mode == .minimal && !d.upd.svRun)

/-- Held bytes the writer may program now: its credit, and a store that answers (15 R579, R580). -/
def jrnCredit (d : Dev) : Nat := min 262144 (d.jrn.credit + (d.tmr.tb - d.jrn.creditAt) * d.cfg.journal.jrate / 50000000)

/-- The writer holds the store for the oldest held record (15 R576, R579): from the instant its credit allows it to the end of its write. -/
def jrnWrites (d : Dev) (l : List JRec) : Bool := d.sys.storeOk && jrnOpen d && l.head?.any fun r => decide (r.bytes.length ≤ jrnCredit d)

/-- One record appended: queued, shed when the buffer overflows, copied into the journal-stream rings (15 R576, R579, R580, 12 R487).
Answers the classes shed as well. -/
def appendRaw (cls : Fin 16) (mirrored : Bool) (payload : List Byte) (d : Dev) : Dev × List (Fin 16) :=
  if !jrnOpen d || !(classCfg d cls).on then (d, [])
  else
    let flags := b2n mirrored + 2 * b2n (isShadow d) + 4 * b2n d.jrn.gap
    let b := recordBytes cls flags d.jrn.sqno d.tmr.tb payload
    let pos := nextPos d b.length
    let all := d.jrn.buffer ++ [⟨cls, b⟩]
    let s := shedLoop d all.length all
    let shed := s.2
    let d1 := onJrn (fun j => { j with
      buffer := s.1
      sqno := wrapInc 32 j.sqno
      busy := jrnWrites d s.1
      gap := !shed.isEmpty
      shed := shed.foldl (fun v c => upd v c inc8) j.shed
      shedFirst := if shed.isEmpty then j.shedFirst else some (j.shedFirst.getD d.tmr.tb) }) d
    let d2 := if shed.isEmpty then d1 else startTimer .shedRecord (ticksOfS 1) d1
    (forEach (ringsOfKind d2 3) (fun r x => forEach (streamParts pos b.length mirrored 5 0 b) (fun e y => ringOffer r e y) x) d2, shed)

/-- An event of the block itself, posted at once: the step on an empty queue takes it up (log entry 1). -/
def post (ev : Instr) (d : Dev) : Dev := { d with timers := d.timers ++ [(d.tmr.tb, ev)] }

/-- Source JOURNAL_SHED (11 R432). -/
def srcShed : Fin 768 := srcOf 0x25D

/-- A record appended; every shed posts a raise of JOURNAL_SHED (15 R580; log entry 17). -/
def journalM (cls : Fin 16) (mirrored : Bool) (payload : List Byte) (d : Dev) : Dev :=
  let r := appendRaw cls mirrored payload d
  forEach r.2 (fun _ x => post (.faultRaise srcShed x.tmr.tb) x) r.1

/-- A record of this device appended. -/
def journal (cls : Fin 16) (payload : List Byte) (d : Dev) : Dev := journalM cls false payload d

/-- A record of the event layout (15 R578): the register, the value, who, the kind and the index, and the first eight words of its register window. -/
def eventPayload (d : Dev) (addr : Nat) (value : Word) (master kind index : Nat) : List Byte :=
  toLe 4 addr ++ toLe 4 value.toNat ++ toLe 1 master ++ toLe 1 kind ++ toLe 2 index
    ++ (peekWords d 0 (windowBase addr) 8).flatMap fun w => toLe 4 w.toNat

/-- A record of the event layout for a completion: bytes 0 to 31 of the completion entry (15 R578). -/
def completionPayload (addr : Nat) (master : Nat) (entry : List Byte) : List Byte :=
  toLe 4 addr ++ toLe 4 0 ++ toLe 1 master ++ toLe 1 2 ++ toLe 2 0 ++ bytesAt entry 0 32

/-- An event journalled in the event layout by hardware (15 R578). -/
def journalEvent (cls : Fin 16) (addr : Nat) (value : Word) (index : Nat) (d : Dev) : Dev :=
  journal cls (eventPayload d addr value 0xFF 0 index) d

/-- A write by a master journalled in the event layout (15 R578). -/
def journalWrite (cls : Fin 16) (addr : Nat) (value : Word) (m : Fin 5) (index : Nat) (d : Dev) : Dev :=
  journal cls (eventPayload d addr value m.val 1 index) d

/-- The master of a command ring. -/
def ringMaster (d : Dev) (r : Fin 16) : Option (Fin 5) := (d.cfg.host.rings[r]).map (·.master)

/-- A command completes: its entry is written, it leaves the accepted commands, and CONFIG and KEY completions are journalled
(12 R478, R481, 15 R578). -/
def complete (c : CmdRef) (opcode : Nat) (code : Code) (result : List Byte) (d : Dev) : Dev :=
  let e := completionEntry d c opcode code result
  let d1 := putCompletion c e (onHost (fun h => { h with jobs := h.jobs.filter fun j => j.ref != c }) d)
  if opcode / 256 = 2 then journal 5 (completionPayload 0xA0000 ((ringMaster d c.ring).elim 0xFF (·.val)) e) d1 else d1

/-- An accepted command joins those uncompleted (12 R479). -/
def addJob (j : Job) (d : Dev) : Dev := onHost (fun h => { h with jobs := h.jobs ++ [j] }) d

/-- The accepted command of an opcode. -/
def jobOf (d : Dev) (opcode : Nat) : Option Job := d.host.jobs.find? fun j => j.opcode == opcode

/-- The report of a check that an owner change or a reset ends (02 R96): its header alone; RESULT and DURATION are free values
(log entry 5). -/
def discardReport (d : Dev) : Dev :=
  let b := Memory.readBytes d.store.stage 0 (min d.store.stageLen 262144)
  let v := freeValue d
  let h := toLe 4 0x5241464E ++ toLe 4 (fieldAt b 16 4) ++ toLe 1 (bits v 0 8) ++ toLe 1 (byteAt b 9) ++ toLe 2 0 ++ toLe 8 d.tmr.tb
    ++ toLe 4 (Config.freeWord (d.freeCtr + 1)).toNat ++ (if 96 ≤ b.length then bytesAt b (b.length - 96) 6 else toLe 6 0) ++ toLe 2 0
  bumpFree (bumpFree (onStore (fun s => { s with report := Memory.writeBytes [] 0 h }) d))

/-- What a discarded command leaves behind (02 R83, R96, 05 R224, 12 R485, 14 R538, R543): nothing is applied, and its locks open. -/
def discardClean (j : Job) (d : Dev) : Dev :=
  match j.opcode with
  | 0x0103 => onPhase (Fin.ofNat 64 j.arg) (fun f => { f with due := f.due && f.state != .retired }) d
  | 0x0200 | 0x0201 | 0x0203 =>
    let d1 := if d.store.check == .running then discardReport (onStore (fun s => { s with check := .discarded }) d) else d
    onStore (fun s => { s with stageLock := false, commitDue := false, writing := none }) d1
  | 0x0204 => onStore (fun s => { s with otpWrite := none }) d
  | 0x0205 | 0x0206 => onStore (fun s => { s with otpWrite := none, stageLock := false }) d
  | 0x0300 => stopTimer .ledgerOrderTimeout (onStore (fun s => { s with stageLock := false }) d)
  | 0x0501 => onUpd (fun u => { u with programming := none, parcelLock := false }) d
  | 0x0503 =>
    match d.upd.quietWait with
    | some (.fallback _) => d
    | _ => stopTimer .quietWaitTimeout (onUpd (fun u => { u with quietWait := none }) d)
  | _ => d

/-- The accepted commands a predicate picks complete DISCARDED (11 R450, 12 R495). -/
def discardJobs (f : Job → Bool) (d : Dev) : Dev :=
  forEach (d.host.jobs.filter f) (fun j x => complete j.ref j.opcode .discarded [] (discardClean j x)) d

/-- A contract record of the journal (15 R578 class 2). -/
def contractRecord (d : Dev) (p : Fin 32) : List Byte :=
  let q := d.ports[p]
  toLe 1 p.val ++ toLe 1 (tcCode q.tc) ++ toLe 1 (kindCode q.kind) ++ toLe 1 q.position ++ toLe 4 q.rdo.toNat ++ toLe 2 q.volt ++ toLe 2 q.curr
    ++ toLe 2 q.hand ++ toLe 2 0 ++ toLe 4 (q.cableVid.toNat + 65536 * q.cablePid.toNat) ++ toLe 4 (cableReg q).toNat

/-- Attach, contract, detach or Hard Reset of a port journalled (15 R578). -/
def journalContract (p : Fin 32) (d : Dev) : Dev := journal 2 (contractRecord d p) d

end Sys2Proof.Machine
end

