-- ==== Sys2Proof/Machine/Image.lean ====
section
/-! DEFINITION. Configuration images (02 R37 to R73): header, sections, records, structural validation, and the configuration they give. -/

namespace Sys2Proof.Machine

/-- One entry of the admission report (02 R82). -/
structure Entry where
  code : Nat
  scope : Nat := 0
  fail : Bool := true
  index : Nat := 0
  unit : Nat := 0
  value : Nat := 0
  limit : Nat := 0
  deriving DecidableEq, Repr

/-- A record of a section: its byte offset in its image, tag and payload (02 R43). -/
structure Rec where
  ofs : Nat
  tag : Nat
  data : List Byte
  deriving DecidableEq, Repr

/-- A section: its byte offset, type, instance and records (02 R41); `gone` marks a section of an amendment that removes its instance. -/
structure Sect where
  ofs : Nat
  typ : Nat
  inst : Nat
  gone : Bool := false
  recs : List Rec := []
  deriving DecidableEq, Repr

/-- A field of a record: offset, bytes, lowest and highest value. -/
abbrev FieldRule := Nat × Nat × Nat × Nat

/-- A record of a section type (02 R53 to R72): section, tag, payload length, required, at most once, and the fields with a stated range
or reserved bits. -/
structure RecRule where
  sec : Nat
  tag : Nat
  len : Nat
  req : Bool
  once : Bool
  fields : List FieldRule

/-- The records of DEVICE, FEEDS, PORT, PHASE_MAP, LOOP and OFFERS (02 R53 to R58). -/
def rulesA : List RecRule :=
  [⟨0x01, 1, 16, true, true, []⟩, ⟨0x01, 2, 8, true, true, [(4, 1, 0, 15), (5, 3, 0, 0)]⟩, ⟨0x01, 3, 4, false, true, [(0, 1, 0, 0x3F), (1, 3, 0, 0)]⟩,
    ⟨0x01, 4, 4, false, true, [(0, 2, 5, 300), (2, 2, 0, 0)]⟩, ⟨0x01, 5, 4, false, true, [(0, 1, 85, 125), (1, 1, 0, 125), (2, 2, 0, 0)]⟩,
    ⟨0x10, 1, 12, true, true, [(8, 2, 1, 1000), (10, 2, 10, 5000)]⟩,
    ⟨0x10, 2, 16, true, true, [(2, 2, 10, 50000), (6, 1, 0, 1), (7, 1, 100, 175), (10, 1, 0, 3), (11, 1, 0, 0)]⟩,
    ⟨0x20, 1, 12, true, true, [(0, 1, 0, 3), (1, 1, 0, 2), (4, 1, 0, 2), (5, 1, 0, 1), (8, 2, 100, 200), (10, 2, 0, 0)]⟩,
    ⟨0x20, 2, 8, true, true, [(0, 2, 1000, 6000), (2, 2, 50, 2000), (6, 2, 0, 0)]⟩,
    ⟨0x20, 3, 8, false, true, [(0, 2, 100, 10000), (2, 2, 100, 10000), (4, 2, 100, 10000), (6, 2, 100, 10000)]⟩,
    ⟨0x21, 1, 8, false, false, [(0, 1, 0, 63), (1, 1, 0, 31), (2, 1, 0, 1), (3, 1, 0, 1), (4, 2, 1000, 15000), (6, 2, 1, 1000)]⟩,
    ⟨0x22, 1, 16, true, true, [(0, 2, 200, 2000), (2, 1, 0, 63), (6, 1, 0, 127), (7, 1, 2, 20), (10, 1, 0, 3), (11, 5, 0, 0)]⟩,
    ⟨0x22, 2, 12, false, true, [(0, 2, 1, 1024), (2, 2, 1, 4096), (4, 2, 10, 1000), (6, 1, 1, 15), (7, 1, 0, 0)]⟩,
    ⟨0x30, 1, 4, true, true, [(0, 2, 1, 240), (2, 2, 0, 0)]⟩, ⟨0x30, 2, 8, false, false, [(0, 1, 0, 3), (1, 1, 0, 0)]⟩]

/-- The records of MONITOR channels (0x40) and scan plans (0x41), TIMERS and FAULTS (02 R60 to R64). -/
def rulesB : List RecRule :=
  [⟨0x40, 1, 16, true, true, [(0, 1, 0, 1), (1, 1, 1, 15), (8, 1, 0, 1), (9, 1, 0, 7), (11, 5, 0, 0)]⟩,
    ⟨0x41, 0x10, 8, false, false, [(2, 1, 1, 16), (3, 1, 0, 15)]⟩, ⟨0x41, 0x11, 8, false, false, [(0, 1, 1, 15), (1, 1, 0, 2), (3, 1, 0, 0)]⟩,
    ⟨0x50, 1, 16, false, false, [(0, 1, 0, 15), (1, 1, 0, 15), (2, 1, 0, 3), (4, 4, 2, 0xFFFFFFFF), (9, 7, 0, 0)]⟩,
    ⟨0x50, 2, 8, false, false, [(0, 1, 0, 31), (1, 1, 0, 1), (2, 1, 0, 3), (5, 3, 0, 0)]⟩,
    ⟨0x60, 1, 4, true, true, [(0, 1, 0, 3), (1, 3, 0, 0)]⟩, ⟨0x60, 2, 8, false, false, [(0, 2, 0, 0xFFF), (2, 1, 0, 3), (3, 1, 0, 8)]⟩]

/-- The records of HOST, NETWORK, LEDGER, TWIN, JOURNAL and ADMISSION (02 R66 to R72). -/
def rulesC : List RecRule :=
  [⟨0x70, 1, 4, false, false, [(0, 1, 0, 4), (1, 1, 0, 15), (2, 1, 0, 1), (3, 1, 0, 0)]⟩, ⟨0x70, 2, 4, false, true, [(0, 2, 50, 10000), (2, 2, 0, 0)]⟩,
    ⟨0x70, 3, 12, false, false, [(0, 1, 0, 15), (1, 1, 0, 4), (2, 1, 0, 4), (3, 1, 0, 3), (4, 2, 8, 2048), (6, 2, 0, 4095), (9, 3, 0, 0)]⟩,
    ⟨0x80, 1, 16, true, true, [(6, 2, 0, 4094)]⟩, ⟨0x80, 2, 8, false, true, [(6, 2, 0, 0)]⟩,
    ⟨0x80, 3, 12, false, false, [(4, 1, 0, 1), (5, 1, 1, 5), (6, 2, 10, 10000)]⟩,
    ⟨0x90, 1, 8, true, true, [(4, 1, 0, 7), (5, 1, 0, 2), (6, 2, 0, 0)]⟩, ⟨0x90, 2, 8, true, true, [(0, 2, 5, 100), (6, 2, 0, 0)]⟩,
    ⟨0x90, 3, 4, true, true, []⟩, ⟨0xA0, 1, 8, false, true, [(0, 1, 0, 1), (1, 1, 0, 1), (2, 2, 2, 100), (4, 4, 0, 0)]⟩,
    ⟨0xB0, 1, 4, false, false, [(0, 1, 0, 14), (1, 1, 0, 7), (2, 1, 0, 1), (3, 1, 0, 0)]⟩, ⟨0xB0, 2, 4, false, true, [(0, 2, 256, 3584), (2, 2, 0, 0)]⟩,
    ⟨0xF0, 1, 16, true, true, [(0, 2, 0, 255), (2, 2, 1, 1000), (8, 8, 0, 0)]⟩]

/-- The record rules of a section (02 R44): its type and instance give the key, 0x41 for a scan plan; none for an unknown section. -/
def sectKey (typ inst : Nat) : Option Nat :=
  if typ = 0x40 then
    if inst < 192 ∨ (256 ≤ inst ∧ inst ≤ 267) then some 0x40 else if 512 ≤ inst ∧ inst ≤ 516 then some 0x41 else none
  else if typ = 0x10 then (if inst < 4 then some typ else none)
  else if typ = 0x20 ∨ typ = 0x22 then (if inst < 32 then some typ else none)
  else if typ = 0x30 then (if inst < 16 then some typ else none)
  else if [0x01, 0x21, 0x50, 0x60, 0x70, 0x80, 0x90, 0xA0, 0xB0, 0xF0].contains typ && inst == 0 then some typ
  else none

/-- The types of the table of R44. -/
def knownTypes : List Nat := [0x01, 0x10, 0x20, 0x21, 0x22, 0x30, 0x40, 0x50, 0x60, 0x70, 0x80, 0x90, 0xA0, 0xB0, 0xF0]

/-- The rules of a key, and the rule of one tag. -/
def rulesOf (key : Nat) : List RecRule := (rulesA ++ rulesB ++ rulesC).filter fun r => r.sec == key
def ruleOf (key tag : Nat) : Option RecRule := (rulesOf key).find? fun r => r.tag == tag

/-- A field of a record. -/
def Rec.get (r : Rec) (ofs n : Nat) : Nat := fieldAt r.data ofs n

/-- Records of a tag in a section, and the first of them. -/
def Sect.all (s : Sect) (tag : Nat) : List Rec := s.recs.filter fun r => r.tag == tag
def Sect.one (s : Sect) (tag : Nat) : Option Rec := s.recs.find? fun r => r.tag == tag

/-- A section by type and instance. -/
def findSect (l : List Sect) (typ inst : Nat) : Option Sect := l.find? fun s => s.typ == typ && s.inst == inst && !s.gone

/-- Records of a section that may be absent. -/
def recsOf (l : List Sect) (typ inst tag : Nat) : List Rec := ((findSect l typ inst).map fun s => s.all tag).getD []
def recOf (l : List Sect) (typ inst tag : Nat) : Option Rec := (findSect l typ inst).bind fun s => s.one tag

/-- A field of a record that may be absent, with the default of its table (02 R44). -/
def fld (r : Option Rec) (dflt ofs n : Nat) : Nat := (r.map fun x => x.get ofs n).getD dflt

/-! ### The configuration of an image -/

/-- NAME is held as given (02 R53); no register or frame of the spec carries it, so the model shows it nowhere else (DESIGN CHOICE,
log entry 33). -/
def deviceOf (s : List Sect) : DeviceCfg :=
  let r (t : Nat) := recOf s 0x01 0 t
  { name := ((r 1).map (·.data)).getD [], vehicle := fld (r 2) 0 0 4, position := fld (r 2) 0 4 1, coded := BitVec.ofNat 8 (fld (r 3) 0x3F 0 1)
    healthS := fld (r 4) 30 0 2, twarn := fld (r 5) 110 0 1, tact := fld (r 5) 120 1 1 }

def feedOf (x : Sect) : FeedCfg :=
  let w := x.one 1; let l := x.one 2
  { uvRise := fld w 0 0 2, uvFall := fld w 0 2 2, ovRise := fld w 0 4 2, ovFall := fld w 0 6 2, insDelay := fld w 1 8 2, insTimeout := fld w 10 10 2
    ilim := fld l 0 0 2, ftimer := fld l 10 2 2, pfet := fld l 0 4 2, tsrc := fld l 0 6 1, tfet := fld l 100 7 1, pgVds := fld l 0 8 2
    fflags := BitVec.ofNat 8 (fld l 0 10 1), rth := fld l 0 12 2, tau := fld l 0 14 2 }

def portOf (x : Sect) : PortCfg :=
  let r := x.one 1; let g := x.one 2; let m := x.one 3
  { cls := fld r 0 0 1, roles := fld r 0 1 1, pflags := BitVec.ofNat 8 (fld r 0 2 1), offerSet := Fin.ofNat 16 (fld r 0 3 1), rp := fld r 0 4 1
    drpol := decide (fld r 0 5 1 % 2 = 1), trump := fld r 0 6 2, debounce := fld r 100 8 2, ilim := fld g 1000 0 2, gtimer := fld g 50 2 2
    pguard := fld g 0 4 2, slewSs := fld m 1000 0 2, slewUp := fld m 1000 2 2, slewDn := fld m 1000 4 2, slewOff := fld m 500 6 2 }

def phaseOfRec (r : Rec) : PhaseCfg :=
  { port := Fin.ofNat 32 (r.get 1 1), busB := decide (r.get 2 1 = 1), sfpol := decide (r.get 3 1 % 2 = 1), ipeak := r.get 4 2, imonGain := r.get 6 2 }

def loopOf (x : Sect) : LoopCfg :=
  let c := x.one 1; let q := x.one 2
  { fsw := fld c 200 0 2, gm := fld c 0 2 1, rz := fld c 0 3 1, cz := fld c 0 4 1, cp := fld c 0 5 1, slope := fld c 0 6 1, blank := fld c 2 7 1
    iskip := fld c 0 8 2, lflags := BitVec.ofNat 8 (fld c 0 10 1), nRun := fld q 64 0 2, nStart := fld q 256 2 2, tHiccup := fld q 60 4 2
    mHiccup := fld q 4 6 1, iSilent := fld q 500 8 2, iSenseOfs := fld q 100 10 2 }

def offerOf (x : Sect) : OfferCfg :=
  { pdp := fld (x.one 1) 1 0 2, pdos := (x.all 2).map fun r => ⟨r.get 0 1, r.get 2 2, r.get 4 2, r.get 6 2⟩ }

def chanOf (x : Sect) : ChanCfg :=
  let r := x.one 1
  { mode := fld r 0 0 1, filter := fld r 3 1 1, thrHi := fld r 0 2 2, thrLo := fld r 0 4 2, hyst := fld r 0 6 2, safe := fld r 0 8 1
    route := BitVec.ofNat 8 (fld r 0 9 1), capt := Fin.ofNat 16 (fld r 0 10 1) }

/-- A scan plan; FM index i of FC counts as 192 + i. -/
def scanOf (cv : Nat) (x : Sect) : ScanPlan :=
  { scans := (x.all 0x10).map fun r => ⟨Fin.ofNat 204 (if cv = 4 then 192 + r.get 0 2 else r.get 0 2), r.get 2 1, Fin.ofNat 16 (r.get 3 1), r.get 4 4⟩
    trigs := (x.all 0x11).map fun r => ⟨Fin.ofNat 16 (r.get 0 1), r.get 1 1, r.get 2 1, r.get 4 4⟩ }

def itmOf (r : Rec) : ItmCfg :=
  { flags := BitVec.ofNat 8 (r.get 1 1), tkind := r.get 2 1, tindex := r.get 3 1, tsub := r.get 8 1, period := r.get 4 4 }

def almOf (r : Rec) : AlmCfg := { late := decide (r.get 1 1 % 2 = 1), tkind := r.get 2 1, tindex := r.get 3 1, tsub := r.get 4 1 }

def ringOf (r : Rec) : RingCfg :=
  { kind := r.get 1 1, master := Fin.ofNat 5 (r.get 2 1), irq := BitVec.ofNat 2 (r.get 3 1), entries := r.get 4 2, base := r.get 6 2, pair := r.get 8 1 }

def hostOf (s : List Sect) : HostCfg :=
  { masters := Vector.ofFn fun i => match (recsOf s 0x70 0 1).find? fun r => r.get 0 1 == i.val with
      | some r => ⟨r.get 1 1, decide (r.get 2 1 % 2 = 1)⟩
      | none => {}
    lease := fld (recOf s 0x70 0 2) 1000 0 2
    rings := Vector.ofFn fun i => ((recsOf s 0x70 0 3).find? fun r => r.get 0 1 == i.val).map ringOf }

/-- Addresses stand in transmission order, the first byte most significant (02 R68). Without SVC record MGMT_PORT is 0, for which the
table states no default (DESIGN CHOICE, log entry 33). -/
def netOf (x : Sect) : NetCfg :=
  let a := x.one 1; let v := x.one 2
  let be (r : Option Rec) (o n : Nat) : Nat := (r.map fun y => beNat (bytesAt y.data o n)).getD 0
  { mac := be a 0 6, vlan := fld a 0 6 2, ip := be a 8 4, mask := be a 12 4, gw := be v 0 4, mgmtPort := fld v 0 4 2
    trdp := (x.all 3).map fun r => ⟨r.get 0 4, decide (r.get 4 1 = 1), r.get 5 1, r.get 6 2, beNat (bytesAt r.data 8 4)⟩ }

def ledgerOf (s : List Sect) : LedgerCfg :=
  let a := recOf s 0x90 0 1; let b := recOf s 0x90 0 2; let c := recOf s 0x90 0 3
  { seatKey := fld a 0 0 4, links := BitVec.ofNat 8 (fld a 0 4 1), pcRole := fld a 0 5 1, dealMs := fld b 10 0 2, kitty := fld b 0 2 2, floor := fld b 0 4 2
    busA := fld c 0 0 2, busB := fld c 0 2 2 }

/-- A TWIN section without its MODE record gives TWIN_EN 0 and PREF ACTIVE, for which the table states no default (DESIGN CHOICE, log
entry 33). -/
def twinOf (s : List Sect) : TwinCfg :=
  let r := recOf s 0xA0 0 1
  { en := decide (fld r 0 0 1 = 1), prefShadow := decide (fld r 0 1 1 = 1), lsPeriod := fld r 10 2 2 }

def journalOf (s : List Sect) : JournalCfg :=
  { classes := Vector.ofFn fun i => match (recsOf s 0xB0 0 1).find? fun r => r.get 0 1 == i.val with
      | some r => ⟨r.get 1 1, decide (r.get 2 1 % 2 = 1)⟩
      | none => ({} : JournalCfg).classes[i]
    jrate := fld (recOf s 0xB0 0 2) 3584 0 2 }

def admOf (s : List Sect) : AdmCfg :=
  let r := recOf s 0xF0 0 1
  { depth := fld r 0 0 2, pdRate := fld r 50 2 2, jmirror := fld r 0 4 4 }

/-- The configuration that a body of sections gives (02 R44, R53 to R72). Of two ITM, ALM, MASTER, CLASS, SOURCE or TRIGGER records of one
index the first is taken (DESIGN CHOICE, log entry 33). -/
def cfgOf (s : List Sect) : ImageCfg :=
  { device := deviceOf s
    feeds := Vector.ofFn fun i => (findSect s 0x10 i.val).map feedOf
    ports := Vector.ofFn fun i => (findSect s 0x20 i.val).map portOf
    phases := Vector.ofFn fun i => ((recsOf s 0x21 0 1).find? fun r => r.get 0 1 == i.val).map phaseOfRec
    loops := Vector.ofFn fun i => (findSect s 0x22 i.val).map loopOf
    offers := Vector.ofFn fun i => (findSect s 0x30 i.val).map offerOf
    chans := Vector.ofFn fun i => (findSect s 0x40 (if i.val < 192 then i.val else 64 + i.val)).map chanOf
    scans := Vector.ofFn fun i => (findSect s 0x40 (512 + i.val)).map (scanOf i.val)
    itms := Vector.ofFn fun i => ((recsOf s 0x50 0 1).find? fun r => r.get 0 1 == i.val).map itmOf
    alms := Vector.ofFn fun i => ((recsOf s 0x50 0 2).find? fun r => r.get 0 1 == i.val).map almOf
    faults := { errlvl := fld (recOf s 0x60 0 1) 1 0 1, sources := (recsOf s 0x60 0 2).map fun r => ⟨r.get 0 2, r.get 2 1, r.get 3 1, r.get 4 4⟩ }
    host := hostOf s
    net := (findSect s 0x80 0).map netOf
    ledger := ledgerOf s
    twin := twinOf s
    journal := journalOf s
    adm := admOf s }

/-! ### The walk -/

/-- An entry about a record, or about a section (02 R82): the byte offset in the image divided by 4. -/
def recErr (code : Nat) (ofs value limit : Nat) : Entry := { code := code, scope := 10, index := ofs / 4, value := value, limit := limit }
def sectErr (code : Nat) (ofs value limit : Nat) : Entry := { code := code, scope := 9, index := ofs / 4, value := value, limit := limit }

/-- An MC index lies on an edge die (00 R13). -/
def mcOnDie (e c : Nat) : Bool := decide (c < 192) && (dieOf (Fin.ofNat 204 c)).val == e

/-- Ranges that depend on other fields or on the section (02 R53 to R72, 06 R248, R256, 11 R432, R435, R436, 13 R514, 15 R578):
the offending value and the limit of each breach. -/
def extraRange (key inst : Nat) (r : Rec) : List (Nat × Nat) :=
  let g := r.get
  let bad (b : Bool) (v l : Nat) : List (Nat × Nat) := if b then [(v, l)] else []
  match key, r.tag with
  | 0x01, 5 => bad (decide (g 1 1 < g 0 1) && decide (g 1 1 ≤ 125)) (g 1 1) (g 0 1)
  | 0x20, 1 => bad (g 1 1 != 1 && decide (15 < g 3 1)) (g 3 1) 15
  | 0x40, 1 =>
    bad (g 1 1 % 2 == 0 && decide (1 ≤ g 1 1) && decide (g 1 1 ≤ 15)) (g 1 1) 15 ++ bad (g 0 1 == 1 && !(decide (128 ≤ inst) && decide (inst < 192))) (g 0 1) 0
      ++ bad (g 8 1 == 1 && decide (inst < 128) && decide (inst % 4 < 3)) (g 8 1) 0
      ++ bad ((g 9 1).testBit 1 && decide (15 < g 10 1)) (g 10 1) 15
  | 0x41, 0x10 =>
    let cv := inst - 512
    let on := if cv = 4 then decide (g 0 2 < 12) else mcOnDie cv (g 0 2)
    let most := if cv = 4 then 250000 else 4000000
    bad (!on) (g 0 2) 0 ++ bad (!([1, 2, 4, 8, 16].contains (g 2 1)) && decide (1 ≤ g 2 1) && decide (g 2 1 ≤ 16)) (g 2 1) 16
      ++ bad (g 3 1 != 0 && g 4 4 != 0) (g 4 4) 0 ++ bad (g 3 1 == 0 && decide (most < g 4 4 * g 2 1)) (g 4 4 * g 2 1) most
  | 0x41, 0x11 =>
    let cv := inst - 512
    match g 1 1 with
    | 0 => bad (decide (15 < g 2 1)) (g 2 1) 15
    | 1 => bad (decide (31 < g 2 1)) (g 2 1) 31
    | 2 => bad (if cv = 4 then !(decide (192 ≤ g 2 1) && decide (g 2 1 < 204)) else !mcOnDie cv (g 2 1)) (g 2 1) (if cv = 4 then 203 else 191)
    | _ => []
  | 0x50, _ => bad (g 2 1 == 1 && decide (4 < g 3 1)) (g 3 1) 4
  | 0x60, 2 =>
    bad ((srcRow (g 0 2)).isNone && decide (g 0 2 ≤ 0xFFF)) (g 0 2) 0
      ++ bad (decide (g 3 1 ≤ 8) && (((srcRow (g 0 2)).isSome && !actionAllowed (srcOf (g 0 2)) (g 3 1)) || (decide (g 2 1 < 2) && g 3 1 != 0))) (g 3 1) 0
      ++ bad (g 2 1 == 2 && (decide (g 4 4 < 10) || decide (10000000 < g 4 4))) (g 4 4) (if g 4 4 < 10 then 10 else 10000000)
  | 0x70, 3 =>
    bad (decide (8 ≤ g 4 2) && decide (g 4 2 ≤ 2048) && g 4 2 != 2 ^ Nat.log2 (g 4 2)) (g 4 2) 2048 ++ bad (g 1 1 != 0 && g 8 1 != 0xFF) (g 8 1) 0xFF
  | 0x80, 3 => bad (g 4 1 == 0 && decide (4 ≤ g 5 1) && decide (g 5 1 ≤ 5)) (g 5 1) 3 ++ bad (g 4 1 == 1 && decide (1 ≤ g 5 1) && decide (g 5 1 ≤ 3)) (g 5 1) 4
  | 0xB0, 1 => bad ([0, 12, 13, 14].contains (g 0 1) && g 2 1 % 2 == 0) (g 2 1) 1
  | _, _ => []

/-- Breaches of one record (02 R43): an unknown tag, a wrong length, fields outside their ranges; `before` holds the records of the
section so far. -/
def recBreaches (key inst : Nat) (before : List Rec) (r : Rec) : List Entry :=
  match ruleOf key r.tag with
  | none => [recErr 0x0109 r.ofs r.tag 0]
  | some k =>
    if k.once && before.any (fun x => x.tag == r.tag) then [recErr 0x0109 r.ofs r.tag 0]
    else if r.data.length != k.len then [recErr 0x0108 r.ofs r.data.length k.len]
    else
      (k.fields.filterMap fun f =>
        let v := r.get f.1 f.2.1
        if v < f.2.2.1 then some (recErr 0x010A r.ofs v f.2.2.1) else if f.2.2.2 < v then some (recErr 0x010A r.ofs v f.2.2.2) else none)
      ++ (extraRange key inst r).map fun x => recErr 0x010A r.ofs x.1 x.2

/-- Breaches of a record of a section whose key may be unknown: an unknown section has no tags to hold a record against. -/
def recBreachesIn (key : Option Nat) (inst : Nat) (before : List Rec) (r : Rec) : List Entry :=
  match key with
  | some k => recBreaches k inst before r
  | none => []

/-- What the walk of the records of a section answers: the records, their breaches, and whether the next record's place was lost. -/
structure RecWalk where
  recs : List Rec := []
  errs : List Entry := []
  lost : Bool := false
  deriving Repr

/-- The records of a section from an offset to its end: each with its breaches. A record that runs past the end leaves the place of the
next one unknown, which ends the walk (02 R41, R633). -/
def walkRecs (b : List Byte) (key : Option Nat) (inst fin : Nat) : Nat → Nat → RecWalk → RecWalk
  | 0, _, w => w
  | k + 1, ofs, w =>
    if fin ≤ ofs then w
    else if fin < ofs + 4 then { w with errs := w.errs ++ [recErr 0x0108 ofs (fin - ofs) 4], lost := true }
    else
      let n := fieldAt b (ofs + 2) 2
      if fin < ofs + 4 + n then { w with errs := w.errs ++ [recErr 0x0108 ofs n (fin - ofs - 4)], lost := true }
      else
        let r : Rec := ⟨ofs, fieldAt b ofs 2, bytesAt b (ofs + 4) n⟩
        walkRecs b key inst fin k (ofs + 4 + n) { w with recs := w.recs ++ [r], errs := w.errs ++ recBreachesIn key inst w.recs r }

/-- Breaches of a section as a whole whose records were all walked: RCOUNT, required records, and the counts of 06 R259 and 13 R514. -/
def sectBreaches (key : Option Nat) (s : Sect) (rcount : Nat) : List Entry :=
  (if s.recs.length != rcount then [sectErr 0x0108 s.ofs s.recs.length rcount] else [])
    ++ (match key with
      | none => []
      | some k =>
        (if s.gone then [] else (rulesOf k).filterMap fun r =>
            if r.req && (s.one r.tag).isNone then some (sectErr 0x010B s.ofs r.tag 0) else none)
          ++ (if k = 0x41 then (List.range 15).flatMap fun q =>
                (((s.all 0x10).filter fun r => r.get 3 1 == q + 1).drop 16).map fun r => recErr 0x010A r.ofs 17 16 else [])
          ++ (if k = 0x80 then ((s.all 3).drop 16).map fun r => recErr 0x010A r.ofs 17 16 else []))

/-- The records of a section that its tags and lengths allow: those the checks of R73 and the configuration read. -/
def goodRecs (key : Option Nat) (l : List Rec) : List Rec :=
  l.filter fun r => key.any fun k => (ruleOf k r.tag).any fun x => x.len == r.data.length

/-- What the walk of a body answers: the sections of a known type, every TYPE and INSTANCE met, the breaches, and whether the walk
reached the end of the body, so that the checks of R73 run (02 R633). -/
structure Walk where
  sects : List Sect := []
  met : List (Nat × Nat) := []
  errs : List Entry := []
  ok : Bool := true
  deriving Repr

/-- Breaches of a section header (02 R41, R42): an unknown TYPE or INSTANCE, its place in the order, its reserved bytes. Every section
that stands below any earlier one is reported (DESIGN CHOICE, log entry 33). -/
def headBreaches (b : List Byte) (met : List (Nat × Nat)) (ofs : Nat) : List Entry :=
  let typ := fieldAt b ofs 2; let inst := fieldAt b (ofs + 2) 2
  (if (sectKey typ inst).isNone then [sectErr 0x0106 ofs (if knownTypes.contains typ then inst else typ) 0] else [])
    ++ (if met.any fun x => decide (typ < x.1) || (x.1 == typ && decide (inst ≤ x.2)) then [sectErr 0x0107 ofs typ 0] else [])
    ++ (if fieldAt b (ofs + 10) 2 != 0 then [sectErr 0x010A ofs (fieldAt b (ofs + 10) 2) 0] else [])

/-- One section whose SLEN locates the next: its place in the walk. -/
def walkSect (b : List Byte) (amend : Bool) (ofs slen : Nat) (w : Walk) : Walk :=
  let typ := fieldAt b ofs 2; let inst := fieldAt b (ofs + 2) 2; let rc := fieldAt b (ofs + 8) 2
  let key := sectKey typ inst
  let x := walkRecs b key inst (ofs + 12 + slen) (slen / 4 + 1) (ofs + 12) {}
  let s : Sect := { ofs := ofs, typ := typ, inst := inst, gone := amend && slen == 0 && rc == 0, recs := x.recs }
  { sects := if key.isSome then w.sects ++ [{ s with recs := goodRecs key x.recs }] else w.sects
    met := w.met ++ [(typ, inst)]
    errs := w.errs ++ headBreaches b w.met ofs ++ x.errs ++ (if x.lost then [] else sectBreaches key s rc)
    ok := w.ok && !x.lost }

/-- The sections of a body from an offset to the trailer (02 R41, R42, R633). An SLEN that runs past the trailer leaves the next place
unknown and ends the walk; so does one that is no multiple of 4, and a rest shorter than a section header (DESIGN CHOICE, log entry 33). -/
def walkSects (b : List Byte) (amend : Bool) (fin : Nat) : Nat → Nat → Walk → Walk
  | 0, _, w => w
  | k + 1, ofs, w =>
    if fin ≤ ofs || !w.ok then w
    else if fin < ofs + 12 then { w with errs := w.errs ++ [sectErr 0x0107 ofs (fin - ofs) 12], ok := false }
    else
      let slen := fieldAt b (ofs + 4) 4
      if slen % 4 != 0 || decide (fin < ofs + 12 + slen) then
        { w with
          met := w.met ++ [(fieldAt b ofs 2, fieldAt b (ofs + 2) 2)], ok := false
          errs := w.errs ++ headBreaches b w.met ofs ++ [sectErr 0x0108 ofs slen (if slen % 4 != 0 then 0 else fin - ofs - 12)] }
      else walkSects b amend fin k (ofs + 12 + slen) (walkSect b amend ofs slen w)

/-- The sections an image must hold (02 R44). -/
def requiredTypes : List Nat := [0x01, 0x21, 0x60, 0x70, 0x90, 0xF0]

/-- Required sections that a body lacks, one entry each (02 R82). -/
def missingSects (l : List Sect) : List Entry :=
  (requiredTypes.filter fun t => (findSect l t 0).isNone).map fun t => { code := 0x010B, scope := 0, index := t }

/-- The walk of an image's body (02 R41 to R44): at its end the number of sections is checked against SECTIONS, and what is required. -/
def walkBody (b : List Byte) : Walk :=
  let amend := decide (byteAt b 9 = 1)
  let fin := b.length - 96
  let w := walkSects b amend fin (fin / 12 + 1) 64 {}
  if !w.ok then w
  else { w with
    errs := w.errs
      ++ (if w.met.length != fieldAt b 34 2 then [{ code := 0x0107, scope := 0, unit := 8, value := w.met.length, limit := fieldAt b 34 2 }] else [])
      ++ (if amend then [] else missingSects w.sects) }

/-- The sections of an amendment take the place of those of the body, or remove them (02, Amendments). -/
def mergeSects (body new : List Sect) : List Sect :=
  let kept := body.filter fun s => !new.any fun x => x.typ == s.typ && x.inst == s.inst
  sortBy (fun a b => decide (a.typ < b.typ) || (a.typ == b.typ && decide (a.inst ≤ b.inst))) (kept ++ new.filter fun x => !x.gone)

/-! ### The conditions of R73 -/

def pErr (code scope index value limit unit : Nat) : Entry := { code := code, scope := scope, index := index, value := value, limit := limit, unit := unit }

/-- What needs a record that is absent, or has a wrong length, is not checked. Phases and ports (02 R73 PHASE_FOREIGN, PHASE_COUNT, PHASE_BUS, LINK_MISSING, CLASS_RULE; 03 R97). -/
def portBreaches (l : List Sect) : List Entry :=
  let es := recsOf l 0x21 0 1
  let ps := l.filter fun s => s.typ == 0x20
  (es.zipIdx.flatMap fun x =>
    let e := x.1; let n := e.get 0 1; let p := e.get 1 1
    (if (es.take x.2).any fun y => y.get 0 1 == n then [pErr 0x0112 8 n n 0 0] else [])
      ++ (if n / 16 != p / 8 then [pErr 0x0110 8 n p 0 0] else [])
      ++ (if (findSect l 0x20 p).isNone then [recErr 0x0117 e.ofs p 0] else []))
  ++ ps.flatMap fun s =>
    let r := s.one 1
    let at0 := (r.map (·.ofs)).getD s.ofs
    let mine := es.filter fun e => e.get 1 1 == s.inst
    let n := (mine.map fun e => e.get 0 1).eraseDups.length
    let sink := fld r 0 1 1 == 1
    let cls := fld r 0 0 1
    (if r.isSome && ((sink && n != 0) || (!sink && (n == 0 || decide (4 < n)))) then [pErr 0x0111 7 s.inst n (if sink then 0 else if n = 0 then 1 else 4) 8] else [])
      ++ (if decide (1 < (mine.map fun e => e.get 2 1).eraseDups.length) then [pErr 0x0112 7 s.inst 0 0 0] else [])
      ++ (if !mine.isEmpty && (findSect l 0x22 s.inst).isNone then [recErr 0x0117 at0 s.inst 0] else [])
      ++ (if r.isSome && !sink && (findSect l 0x30 (fld r 0 3 1)).isNone then [recErr 0x0117 at0 (fld r 0 3 1) 0] else [])
      ++ (if ((fld r 0 2 1).testBit 7 && cls != 3) || (fld r 0 1 1 != 0 && decide (cls < 2)) then [sectErr 0x0118 s.ofs cls 0] else [])

/-- One offer lies in the ranges the device supports (02 R59). -/
def pdoFits (o : PdoCfg) (epr : Bool) : Bool :=
  match o.ptype with
  | 0 => [5000, 9000, 15000, 20000].contains o.vmin && o.vmax == o.vmin && decide (o.limit ≤ 5000)
  | 1 => decide (3300 ≤ o.vmin) && decide (o.vmin ≤ o.vmax) && decide (o.vmax ≤ 21000) && o.vmin % 20 == 0 && o.vmax % 20 == 0 && decide (o.limit ≤ 5000)
      && o.limit % 50 == 0
  | 2 => epr && [28000, 36000, 48000].contains o.vmin && o.vmax == o.vmin && decide (o.limit ≤ 5000)
  | _ => epr && decide (15000 ≤ o.vmin) && decide (o.vmin ≤ o.vmax) && decide (o.vmax ≤ 48000) && o.vmin % 100 == 0 && o.vmax % 100 == 0

/-- Two offers stand in order (02 R58). -/
def pdoOrder (a b : PdoCfg) : Bool :=
  let ka := decide (2 ≤ a.ptype); let kb := decide (2 ≤ b.ptype)
  let va := a.ptype == 1 || a.ptype == 3; let vb := b.ptype == 1 || b.ptype == 3
  if ka != kb then kb
  else if va != vb then vb
  else if va then decide (a.vmax ≤ b.vmax) else decide (a.vmin < b.vmin)

/-- Every neighbour pair of a list is in order. -/
def inOrder : List PdoCfg → Bool
  | a :: b :: r => pdoOrder a b && inOrder (b :: r)
  | _ => true

/-- Offer sets (02 R58, R59): OFFER_RANGE by record, OFFER_ORDER by set. -/
def offerBreaches (l : List Sect) : List Entry :=
  (l.filter fun s => s.typ == 0x30).flatMap fun s =>
    let users := (l.filter fun x => x.typ == 0x20).filter fun x => (x.one 1).isSome && fld (x.one 1) 0 1 1 != 1 && fld (x.one 1) 0 3 1 == s.inst
    let epr := users.isEmpty || users.any fun x => (fld (x.one 1) 0 2 1).testBit 3
    let os := (offerOf s).pdos
    let spr := (os.filter fun o => decide (o.ptype < 2)).length
    let good := decide (1 ≤ os.length) && decide (os.length ≤ 11) && decide (spr ≤ 7) && decide (os.length - spr ≤ 4) && inOrder os
      && (match os with | o :: _ => o.ptype == 0 && o.vmin == 5000 | [] => false)
    ((s.all 2).zip os).filterMap (fun x => if pdoFits x.2 epr then none else some (recErr 0x0114 x.1.ofs x.2.vmin 0))
      ++ (if good then [] else [{ code := 0x0113, scope := 9, index := s.ofs / 4, unit := 8, value := os.length, limit := 11 }])

/-- Rings (02 R67): a second RING record of one ring number is a clash as an overlap is (DESIGN CHOICE, log entry 33); overlaps, ends, pairs, and the rings a full image holds. -/
def ringBreaches (l : List Sect) : List Entry :=
  let rs := recsOf l 0x70 0 3
  let kindOf (n : Nat) : Option Nat := (rs.find? fun r => r.get 0 1 == n).map fun r => r.get 1 1
  let coded := fld (recOf l 0x01 0 3) 0x3F 0 1
  (rs.zipIdx.flatMap fun x =>
    let r := x.1; let lo := r.get 6 2; let hi := lo + r.get 4 2
    let clash := (rs.take x.2).any fun y => y.get 0 1 == r.get 0 1 || (decide (lo < y.get 6 2 + y.get 4 2) && decide (y.get 6 2 < hi))
    (if clash || decide (4096 < hi) then [recErr 0x0115 r.ofs (r.get 0 1) 0] else [])
      ++ (if r.get 1 1 == 0 && kindOf (r.get 8 1) != some 1 then [recErr 0x0115 r.ofs (r.get 8 1) 0] else []))
  ++ (if rs.any (fun r => r.get 1 1 == 0 && kindOf (r.get 8 1) == some 1) && (coded == 0 || rs.any fun r => r.get 1 1 == 2) then []
      else [sectErr 0x0115 (((findSect l 0x70 0).map (·.ofs)).getD 0) 0 0])

/-- Protective sources below SAFE (02 R65). -/
def protBreaches (l : List Sect) : List Entry :=
  (recsOf l 0x60 0 2).filterMap fun r =>
    if (srcRow (r.get 0 2)).any (·.protective) && decide (r.get 2 1 < 3) then some (recErr 0x0116 r.ofs (r.get 2 1) 3) else none

/-- Triggers (02 R73 LINK_MISSING, TRIGGER_MISMATCH). A sequence whose SCAN entries have no TRIGGER record gives one entry, at its first
SCAN record (DESIGN CHOICE, log entry 33). -/
def trigBreaches (l : List Sect) : List Entry :=
  let itm (n : Nat) := (recsOf l 0x50 0 1).find? fun r => r.get 0 1 == n
  let alm (n : Nat) := (recsOf l 0x50 0 2).find? fun r => r.get 0 1 == n
  let trig (cv q : Nat) := (recsOf l 0x40 (512 + cv) 0x11).find? fun r => r.get 0 1 == q
  let isSeq (cv q : Nat) : Bool := q != 0 && (recsOf l 0x40 (512 + cv) 0x10).any fun r => r.get 3 1 == q
  let target (r : Rec) : Nat × Nat × Nat := if r.data.length = 16 then (r.get 2 1, r.get 3 1, r.get 8 1) else (r.get 2 1, r.get 3 1, r.get 4 1)
  let conv := (List.range 5).flatMap fun cv =>
    let qs := ((recsOf l 0x40 (512 + cv) 0x10).map fun r => r.get 3 1).eraseDups.filter (· != 0)
    (qs.filterMap fun q =>
      if (trig cv q).isSome then none
      else ((recsOf l 0x40 (512 + cv) 0x10).find? fun r => r.get 3 1 == q).map fun r => recErr 0x0117 r.ofs q 0)
    ++ (recsOf l 0x40 (512 + cv) 0x11).flatMap fun t =>
      let q := t.get 0 1
      (if isSeq cv q then [] else [recErr 0x0117 t.ofs q 0])
        ++ (if t.get 1 1 ≤ 1 then
              match if t.get 1 1 = 0 then itm (t.get 2 1) else alm (t.get 2 1) with
              | none => [recErr 0x0117 t.ofs (t.get 2 1) 0]
              | some r => if target r == (1, cv, q) then [] else [recErr 0x011A t.ofs (t.get 2 1) 0]
            else [])
  let side (kind : Nat) (r : Rec) : List Entry :=
    let t := target r
    match t.1 with
    | 1 => match trig t.2.1 t.2.2 with
      | some g => if !isSeq t.2.1 t.2.2 then [recErr 0x0117 r.ofs t.2.1 0] else if g.get 1 1 == kind && g.get 2 1 == r.get 0 1 then [] else [recErr 0x011A r.ofs t.2.1 0]
      | none => [recErr 0x0117 r.ofs t.2.1 0]
    | 2 => if (recsOf l 0x70 0 3).any fun x => x.get 0 1 == t.2.1 then [] else [recErr 0x0117 r.ofs t.2.1 0]
    | 3 => if (itm t.2.1).isSome then [] else [recErr 0x0117 r.ofs t.2.1 0]
    | _ => []
  conv ++ (recsOf l 0x50 0 1).flatMap (side 0) ++ (recsOf l 0x50 0 2).flatMap (side 1)

/-- Levels in order (02 R73 WINDOW_ORDER): the windows of feeds, and CHANNEL thresholds where the device applies them (06 R235). -/
def windowBreaches (l : List Sect) : List Entry :=
  ((l.filter fun s => s.typ == 0x10).flatMap fun s =>
    match s.one 1 with
    | none => []
    | some w =>
      (if w.get 2 2 < w.get 0 2 then [] else [recErr 0x0119 w.ofs (w.get 2 2) (w.get 0 2)])
        ++ (if w.get 6 2 < w.get 4 2 then [] else [recErr 0x0119 w.ofs (w.get 6 2) (w.get 4 2)]))
  ++ (l.filter fun s => s.typ == 0x40 && ((decide (s.inst < 128) && s.inst % 4 == 3) || (decide (256 ≤ s.inst) && decide (s.inst ≤ 267)))).flatMap fun s =>
    match s.one 1 with
    | none => []
    | some r => if r.get 4 2 < r.get 2 2 then [] else [recErr 0x0119 r.ofs (r.get 4 2) (r.get 2 2)]

/-- Every check of R73. -/
def crossBreaches (l : List Sect) : List Entry :=
  portBreaches l ++ offerBreaches l ++ ringBreaches l ++ protBreaches l ++ trigBreaches l ++ windowBreaches l

end Sys2Proof.Machine
end

