-- ==== Sys2Proof/Machine/Channels.lean ====
section
/-! DEFINITION. The monitor channels under the configuration in force (06 R232 to R245, 05 R204): their levels, settings and enables. -/

namespace Sys2Proof.Machine

/-- CC thresholds in mV for a termination (03 R99, R100): lower and upper trip levels. -/
def ccLevels (rp : RpLevel) (rd : Bool) : Nat × Nat :=
  if rd then (200, 660)
  else match rp with
    | .default => (200, 1600)
    | .a15 => (400, 1600)
    | .a30 => (800, 2600)
    | .none => (200, 660)

/-- The nearest code of a fraction, the higher one midway (06 R234). -/
def roundCode (n k : Nat) : Nat := min 8191 ((2 * n + k) / (2 * k))

/-- Levels of a channel with a CHANNEL record (06 R235): trip and release, upper and lower. -/
def recordLevels (x : ChanCfg) : Nat × Nat × Nat × Nat :=
  let h := min x.hyst ((x.thrHi - x.thrLo) / 2)
  (x.thrHi, x.thrHi - h, x.thrLo, x.thrLo + h)

/-- Codes of a channel (06 R232, R234, R235); those of a CC channel follow the termination, and no record of a FEED_T channel trips above TFET
(07 R284). -/
def chanLevels (c : ImageCfg) (ch : Fin 204) (cc : Nat × Nat) : Nat × Nat × Nat × Nat :=
  match chanRole ch, c.chans[ch] with
  | .cc1 _, _ => (cc.2, cc.2 - 20, cc.1, cc.1 + 20)
  | .cc2 _, _ => (cc.2, cc.2 - 20, cc.1, cc.1 + 20)
  | .vbus _, _ => (400, 367, 80, 100)
  | .phase _, _ => (0, 0, 0, 0)
  | .feedT f, some x => recordLevels { x with thrHi := min x.thrHi ((((c.feeds[f]).getD {}).tfet + 64) * 8) }
  | _, some x => recordLevels x
  | .iport p, none =>
    let i := ((c.ports[p]).getD {}).ilim
    (roundCode i 1, roundCode (i - 200) 1, 0, 50)
  | .feedV f, none =>
    let x := (c.feeds[f]).getD {}
    (roundCode x.ovRise 1, roundCode x.ovFall 1, roundCode x.uvFall 1, roundCode x.uvRise 1)
  | .feedI f, none =>
    let i := ((c.feeds[f]).getD {}).ilim
    (roundCode i 2, roundCode (95 * i) 200, 0, 0)
  | .feedT f, none =>
    let t := ((c.feeds[f]).getD {}).tfet
    ((t + 64) * 8, (t + 54) * 8, 192, 232)

/-- A channel is enabled (06 R236). -/
def chanOn (c : ImageCfg) (ch : Fin 204) : Bool :=
  match chanRole ch with
  | .cc1 p => (c.ports[p]).isSome
  | .cc2 p => (c.ports[p]).isSome
  | .vbus p => (c.ports[p]).isSome
  | .iport p => (c.ports[p]).isSome
  | .phase n => (c.phases[n]).isSome
  | .feedV f => (c.feeds[f]).isSome
  | .feedI f => (c.feeds[f]).isSome
  | .feedT f => match c.feeds[f] with | some x => x.tsrc == 0 | none => false

/-- Settings of a channel, by default FILTER 3, SAFE 0, CAPT 0, ROUTE wake on CC channels (02 R60). The fields of a record that its role
does not apply are ignored (06 R235): MODE and SAFE of a CC channel, and those of a phase channel, which always compares with its ramp
(05 R204). -/
def chanSettings (c : ImageCfg) (ch : Fin 204) : ChanCfg :=
  match chanRole ch with
  | .cc1 _ | .cc2 _ => { (c.chans[ch]).getD { route := 4 } with mode := 0, safe := 0 }
  | .phase _ => { (c.chans[ch]).getD {} with mode := 1, safe := 0 }
  | _ => { (c.chans[ch]).getD {} with mode := 0 }

/-- One sample of a threshold passes its majority filter of n samples (06 R238): the threshold changes state when more than half of the last n
samples disagree with its state. -/
def filterSample (n : Nat) (b : Bool) (x : List Bool × Bool) : List Bool × Bool :=
  let h := (b :: x.1).take n
  (h, if n < 2 * h.count (!x.2) then !x.2 else x.2)

/-- k equal samples of a threshold. -/
def filterSamples (n : Nat) (b : Bool) : Nat → List Bool × Bool → List Bool × Bool
  | 0, x => x
  | k + 1, x => filterSamples n b k (filterSample n b x)

/-- The samples of a filter: FILTER, of which 1 lets every sample decide (06 R238). -/
def filterLen (x : Chan) : Nat := max 1 x.filter

/-- A channel whose input has entered a zone and stayed there for FILTER samples (06 R237, R238): both thresholds by their filters, and the
zone of a window channel by its thresholds. -/
def chanFilter (ch : Fin 204) (z : Zone) (x : Chan) : Chan :=
  let n := filterLen x
  let hi := filterSamples n (z == .above) n (x.histHi, x.tripHi)
  let lo := filterSamples n (z == .below) n (x.histLo, x.tripLo)
  { x with
    histHi := hi.1, tripHi := hi.2, histLo := lo.1, tripLo := lo.2
    zone := if !isWindow ch then x.zone else if hi.2 then .above else if lo.2 then .below else .inWin }

/-- A channel starts afresh (06 R241, R242). On which side of each band its first sample lies, or within it, is free (log entry 5): a threshold
within its band is unsettled, its filter seeded by SAFE; another takes its state and seeds its filter with it. -/
def chanFresh (l : Nat × Nat × Nat × Nat) (w : Word) (x : Chan) : Chan :=
  let above := bits w 0 2 == 3
  let below := !above && bits w 2 2 == 3
  let unHi := !above && bit w 0
  let unLo := !below && bit w 2
  { x with
    enabled := true, zone := .unsettled, tripHi := above, tripLo := below, unsetHi := unHi, unsetLo := unLo, frozen := false
    forced := false
    histHi := List.replicate (filterLen x) (if unHi then !x.safe else above), histLo := List.replicate (filterLen x) (if unLo then !x.safe else below)
    thrHi := l.1, relHi := l.2.1, thrLo := l.2.2.1, relLo := l.2.2.2, waiting := none }

/-- New levels of a channel (06 R243 table, 02 R91): loaded directly while it is UNSETTLED, else by the calibration rotation. -/
def chanRelevel (l : Nat × Nat × Nat × Nat) (x : Chan) : Chan :=
  if l = (x.thrHi, x.relHi, x.thrLo, x.relLo) then { x with waiting := none }
  else if x.zone == .unsettled then { x with thrHi := l.1, relHi := l.2.1, thrLo := l.2.2.1, relLo := l.2.2.2, waiting := none }
  else { x with waiting := some l }

/-- One channel under the configuration in force (06 R235, R236, R241, R245). -/
def chanApply (boot : Bool) (d : Dev) (ch : Fin 204) (x : Chan) : Chan :=
  let r := chanSettings d.cfg ch
  let q := d.ports[Fin.ofNat 32 (ch.val / 4)]
  let l := chanLevels d.cfg ch (ccLevels q.rp q.rd)
  if !chanOn d.cfg ch then
    { x with enabled := false, zone := .unsettled, tripHi := false, tripLo := false, unsetHi := false, unsetLo := false, frozen := false, waiting := none }
  else
    let safe := r.safe != 0
    let mode := r.mode != 0
    let fresh := isWindow ch && (boot || !x.enabled || x.safe != safe || x.mode != mode)
    let y := if fresh then chanFresh l (Config.freeWord (d.freeCtr + ch.val)) { x with filter := r.filter, safe := safe } else if isWindow ch then chanRelevel l { x with enabled := true } else { x with enabled := true }
    { y with
      filter := r.filter, safe := safe, mode := mode, route := r.route.setWidth 3, capt := r.capt
      irqen := if boot then (y.irqen &&& ~~~ 7) ||| (if r.route.getLsbD 0 then 7 else 0) else y.irqen }

/-- A FEEDS section that comes or goes; `whole` counts any change of it, which at an amendment waits for the next enable (02 R91). -/
def feedTouched (whole : Bool) (old new : ImageCfg) (f : Fin 4) : Bool :=
  (old.feeds[f]).isSome != (new.feeds[f]).isSome || (whole && old.feeds[f] != new.feeds[f])

/-- Channels whose settings or levels follow a part that changed. -/
def chanTouched (whole : Bool) (old new : ImageCfg) (ch : Fin 204) : Bool :=
  old.chans[ch] != new.chans[ch] || (match chanRole ch with
    | .cc1 p => old.ports[p] != new.ports[p]
    | .cc2 p => old.ports[p] != new.ports[p]
    | .vbus p => old.ports[p] != new.ports[p]
    | .iport p => old.ports[p] != new.ports[p]
    | .phase n => old.phases[n] != new.phases[n]
    | .feedV f => feedTouched whole old new f
    | .feedI f => feedTouched whole old new f
    | .feedT f => feedTouched whole old new f)

/-- The channels under the configuration in force, at BOOT or after a change from an old one. -/
def applyChans (boot whole : Bool) (old : ImageCfg) (d : Dev) : Dev :=
  { d with
    chans := updAll d.chans fun ch x => if boot || chanTouched whole old d.cfg ch then chanApply boot d ch x else x
    freeCtr := d.freeCtr + 204 }

/-- The channels of a feed take the levels of its section at its enable (02 R91). -/
def feedChans (f : Fin 4) (d : Dev) : Dev :=
  forEach [feedCh f 0, feedCh f 1, feedCh f 2] (fun ch x => onChan ch (chanApply false x ch) { x with freeCtr := x.freeCtr + 204 }) d

end Sys2Proof.Machine
end

