-- ==== Sys2Proof/Machine/Prims.lean ====
section
/-! DEFINITION. What the edge dies and the feed die do on a command or a decision: terminations, VCONN, references, phases, guards, discharge, feed gates. None of these raises a source or sends a message. -/

namespace Sys2Proof.Machine

/-- Timers of a list stop. -/
def stopTimers (l : List Instr) (d : Dev) : Dev := { d with timers := d.timers.filter fun t => !l.contains t.2 }

/-- The Type-C timers of a port (03 R108). -/
def tcTimers (p : Fin 32) : List Instr :=
  [.tccdebounceExpiry p, .tpddebounceExpiry p, .tdrpExpiry p, .tdrptryExpiry p, .ttryccdebounceExpiry p, .tdrptrywaitExpiry p,
    .terrorrecoveryExpiry p]

/-- The protocol timers of a port (04 R166, 03 R118). -/
def pdTimers (p : Fin 32) : List Instr :=
  [.tcrcreceiveExpiry p, .tsenderresponseExpiry p, .ttypecsendsourcecapExpiry p, .tsinktxExpiry p, .tsrctransitionExpiry p,
    .tsourceeprkeepaliveExpiry p, .tppstimeoutExpiry p, .tpshardresetExpiry p, .tsrcrecoverExpiry p, .tpssourceoffExpiry p,
    .tpssourceonExpiry p, .tswapsourcestartExpiry p, .tvconnsourcetimeoutExpiry p, .tchunksenderrequestExpiry p,
    .tbistcontmodeExpiry p, .tpstransitionExpiry p]

/-- The cable discovery timers of a port (03 R118). -/
def cableTimers (p : Fin 32) : List Instr := [.tvconnstableExpiry p, .discoverIdentityRetry p]

/-! ### Zones a port reads -/

/-- Zone of a port's CC pin: false is CC1. -/
def ccZone (d : Dev) (p : Fin 32) (pin : Bool) : Zone := (d.chans[if pin then cc2 p else cc1 p]).zone

/-- VBUS below vSafe0V, above 4.0 V (06 R235). -/
def vbusLow (d : Dev) (p : Fin 32) : Bool := (d.chans[vbusCh p]).zone == .below
def vbusHigh4 (d : Dev) (p : Fin 32) : Bool := (d.chans[vbusCh p]).zone == .above

/-- Both CC channels are settled (03 R102). -/
def ccSettled (d : Dev) (p : Fin 32) : Bool := ccZone d p false != .unsettled && ccZone d p true != .unsettled

/-- While Rp is presented, a pin reads Rd in window (03 R100); while Rd is presented, it reads Rp in window or above. -/
def pinRd (d : Dev) (p : Fin 32) (pin : Bool) : Bool := ccZone d p pin == .inWin
def pinRp (d : Dev) (p : Fin 32) (pin : Bool) : Bool := ccZone d p pin == .inWin || ccZone d p pin == .above

/-- The port detects a debug accessory (03 R128). -/
def debugOn (d : Dev) (p : Fin 32) : Bool := pflag d p 7 && (portCfg d p).cls == 3

/-- The attach condition of a source: Rd on exactly one pin (03 R107). -/
def rdOne (d : Dev) (p : Fin 32) : Bool := ccSettled d p && (pinRd d p false != pinRd d p true)
def rdBoth (d : Dev) (p : Fin 32) : Bool := pinRd d p false && pinRd d p true

/-- The attach condition of a sink: Rp on exactly one pin (03 R107). -/
def rpOne (d : Dev) (p : Fin 32) : Bool := ccSettled d p && (pinRp d p false != pinRp d p true)
def rpBoth (d : Dev) (p : Fin 32) : Bool := pinRp d p false && pinRp d p true

/-- Try.SRC is in effect: a DRP port with PFLAGS bit 1 on a device with power-good (03 R98, R112). -/
def trySrcOn (d : Dev) (p : Fin 32) : Bool := isDrp d p && pflag d p 1 && anyPg d

/-- The bus of a port's phases: that of its lowest-numbered phase (02 R56). -/
def portBus (d : Dev) (p : Fin 32) : Bool :=
  match phasesOf d p with
  | [] => false
  | n :: _ => ((d.cfg.phases[n]).getD {}).busB

/-- The bus of a port has power-good. -/
def portPg (d : Dev) (p : Fin 32) : Bool := !(phasesOf d p).isEmpty && busPg d (portBus d p)

/-! ### Terminations -/

/-- The event that ends the hold of a channel. -/
def isHoldEnd (c : Fin 204) (e : Instr) : Bool :=
  match e with
  | .channelHoldEnd ch _ _ => ch == c
  | _ => false

/-- An enabled CC channel holds its zone until 100 us after an instant (03 R101, 06 R240). -/
def holdChan (c : Fin 204) (d : Dev) : Dev :=
  if !(d.chans[c]).enabled then d
  else
    let fin := d.tmr.tb + ticksOfUs 100
    startTimerAt (.channelHoldEnd c (d.chans[c]).zone fin) fin
      (stopTimersIf (isHoldEnd c) (onChan c (fun x => { x with frozen := true, holdEnd := fin }) d))

/-- The BMC receiver or transmitter was active on the communication pin of a port: its channel holds its zone (06 R240). -/
def holdComm (p : Fin 32) (d : Dev) : Dev := holdChan (if (d.ports[p]).orient then cc2 p else cc1 p) d

/-- A CC channel takes thresholds with 20 mV of hysteresis and holds its zone for 100 us (03 R100, R101). -/
def ccProgram (l : Nat × Nat) (c : Fin 204) (d : Dev) : Dev :=
  holdChan c (onChan c (fun x => { x with thrLo := l.1, relLo := l.1 + 20, thrHi := l.2, relHi := l.2 - 20 }) d)

/-- A CC channel of the port holds its zone: what it reads is of a former termination (03 R101). -/
def ccHeld (d : Dev) (p : Fin 32) : Bool := (d.chans[cc1 p]).frozen || (d.chans[cc2 p]).frozen

/-- The termination a port presents; both CC thresholds follow a change (03 R99, R101), and the discharge
ends with Rd (07 R302). -/
def present (p : Fin 32) (rp : RpLevel) (rd : Bool) (d : Dev) : Dev :=
  if (d.ports[p]).rp == rp && (d.ports[p]).rd == rd && (d.ports[p]).ccCut == 0 then d
  else
    let d1 := onGuard p (fun g => { g with discharge := g.discharge && !rd }) (onPort p (fun q => { q with rp := rp, rd := rd, ccCut := 0 }) d)
    ccProgram (ccLevels rp rd) (cc2 p) (ccProgram (ccLevels rp rd) (cc1 p) d1)

/-- The RP of a PORT section (02 R55). -/
def rpOf (d : Dev) (p : Fin 32) : RpLevel :=
  match (portCfg d p).rp with
  | 0 => .default
  | 1 => .a15
  | _ => .a30

/-- Rp as configured, Rd, and nothing. -/
def presentRp (p : Fin 32) (d : Dev) : Dev := present p (rpOf d p) false d
def presentRd (p : Fin 32) : Dev → Dev := present p .none true
def presentOpen (p : Fin 32) : Dev → Dev := present p .none false

/-! ### Lost links -/

/-- Capacity of a loss queue in frames of 80 bits: 16 KiB (01 R631; log entry 46). -/
def lossFrames : Nat := 1638

/-- The converter result a frame carries: of a channel, or of a sequence of a converter. -/
def resultOf (i : Frame) : Option (Nat × Nat × Nat) :=
  match i with
  | .report (.continuousResult c _) => some (0, c.val, 0)
  | .block c sq _ _ => some (1, c.val, sq.val)
  | _ => none

/-- Two frames stand for the same source or the same event bit. -/
def sameMark (a b : Frame) : Bool :=
  match a, b with
  | .report (.faultRaise n _), .report (.faultRaise m _) => n == m
  | .report (.monitorZoneChange c y _), .report (.monitorZoneChange e z _) => c == e && y == z
  | .report (.channelSettle c _ _), .report (.channelSettle e _ _) => c == e
  | _, _ => a == b

/-- The oldest converter result that a newer one of its channel or sequence follows. -/
def staleResult : List Frame → List Frame → Option (List Frame)
  | _, [] => none
  | seen, i :: rest =>
    if (resultOf i).isSome && rest.any fun j => resultOf j == resultOf i then some (seen.reverse ++ rest) else staleResult (i :: seen) rest

/-- One more of what the full queue could not take. -/
def addMark (l : Fin 5) (i : Frame) (ms : List (Fin 5 × Frame × Nat)) : List (Fin 5 × Frame × Nat) :=
  if ms.any fun m => m.1 == l && sameMark m.2.1 i then ms.map fun m => if m.1 == l && sameMark m.2.1 i then (m.1, m.2.1, m.2.2 + 1) else m
  else ms ++ [(l, i, 1)]

/-- A frame joins the loss queue of its die (01 R631): a full queue gives up converter results, oldest first and never the newest of its
channel or sequence; an event or a raise that it cannot take leaves a mark. -/
def lossPut (l : Fin 5) (i : Frame) (d : Dev) : Dev :=
  let q := d.loss.queue[l]
  if q.length < lossFrames then { d with loss := { d.loss with queue := d.loss.queue.set l (q ++ [i]) } }
  else match staleResult [] (q ++ [i]) with
    | some q' => { d with loss := { d.loss with queue := d.loss.queue.set l q' } }
    | none => { d with loss := { d.loss with marks := addMark l i d.loss.marks } }

/-- A report of a die to the hub: over a lost link it waits in the loss queue. -/
def fromDie (l : Fin 5) (i : Instr) (f : Dev → Dev) (d : Dev) : Dev := if d.sys.retraining[l] then lossPut l (.report i) d else f d

/-- A command of the hub to the die of a port: over a lost link it is discarded and stays unconfirmed (01 R630). -/
def toDie (p : Fin 32) (k : EdgeCmd) (f : Dev → Dev) (d : Dev) : Dev :=
  if lostPort d p then { d with loss := { d.loss with unconfirmed := d.loss.unconfirmed ++ [(p, k)] } } else f d

/-! ### VCONN -/

/-- The VCONN switches open (03 R115); discovery stops. -/
def vconnOff (p : Fin 32) (d : Dev) : Dev :=
  stopTimers (cableTimers p) (onPort p (fun q => { q with vconnOn := false }) d)

/-- The port core opens VCONN: over a lost link the switch stays as it is until the die takes the command (01 R29, R630). -/
def vconnEnd (p : Fin 32) (d : Dev) : Dev :=
  stopTimers (cableTimers p) (onlyIf (d.ports[p]).vconnOn (toDie p .vconnOff (vconnOff p)) d)

/-- VCONN on, on the pin that is not the communication pin (03 R109, R110); discovery is due after tVCONNStable, counted from the
2 ms of tVCONNON (03 R108). With VCONN_IN below its level VCONN_IN_UV is raised (11 R433). After an overcurrent trip the switch stays open
until the port leaves its attached state (03 R116), and dead-car readout enables no VCONN (03 R134). -/
def vconnOnPin (p : Fin 32) (d : Dev) : Dev :=
  if (d.ports[p]).vconnOc || d.sys.deadcar then d
  else onlyIf (!d.sys.vconnIn && !(d.sources[srcOf 0x256]).cond) (fun x => post (.faultRaise (srcOf 0x256) x.tmr.tb) x) <| startTimer (.tvconnstableExpiry p) (ticksOfMs 52)
    (toDie p (.vconnOn (!(d.ports[p]).orient)) (onPort p (fun q => { q with vconnOn := true, vconnPin := !q.orient })) d)

/-- The port supplies VCONN: PFLAGS bit 2, Ra on the other pin, and no overcurrent trip in this attach (03 R110, R116, R117). -/
def wantsVconn (d : Dev) (p : Fin 32) : Bool :=
  pflag d p 2 && !(d.ports[p]).vconnOc && ccZone d p (!(d.ports[p]).orient) == .below

/-! ### References and phases -/

/-- A ramp of the reference from its present code (05 R211); the undervoltage comparison is suspended (05 R215). -/
def startRamp (p : Fin 32) (code slew : Nat) (why : RampFor) (d : Dev) : Dev :=
  onLoop p (fun l => { l with
    ref := refNow d l, refTb := d.tmr.tb, target := code, slew := slew, ramping := true, rampFor := why, uv := false
    deForced := false, softStart := decide (why = .softStart), lc := 0 }) d

/-- The reference stops at its present code. -/
def stopRamp (p : Fin 32) (d : Dev) : Dev :=
  onLoop p (fun l => { l with ref := refNow d l, ramping := false, rampFor := .none, softStart := false, deForced := false }) d

/-- Every unretired phase of a port in a state. -/
def setPhases (p : Fin 32) (st : PhaseState) (d : Dev) : Dev :=
  forEach (livePhases d p) (fun n => onPhase n fun f => if f.state == .idle || f.state == .switching then { f with state := st } else f) d

/-- All legs of a port's phases at mid (05 R213). -/
def phasesMid (p : Fin 32) (d : Dev) : Dev :=
  setPhases p .idle (onLoop p (fun l => { l with switching := false, trunc := false, skipping := false, cl := false })
    (stopRamp p (onPd p (fun x => { x with ssDue := false }) d)))

/-- The phases of a port switch, unless its bus is below 32 V (05 R225). -/
def phasesGo (p : Fin 32) (d : Dev) : Dev := if (d.loops[p]).vinLow then d else setPhases p .switching d

/-- The region chosen from M = VREF / VIN with no hysteresis, at the midpoints of the bands (05 R207); both in mV. -/
def pickRegion (vref vin : Nat) : Region :=
  if 1000 * vref < 825 * vin then .buck else if 1075 * vin < 1000 * vref then .boost else .transition

/-- The bus voltage that an edge die senses, in mV: a free value up to 80 V (log entry 5). -/
def vinSample (d : Dev) (k : Nat) : Nat := (Config.freeWord (d.freeCtr + k)).toNat % 80001

/-- A soft start to 5 V (05 R207, R211, R212): from the measured VOUT, a free value (log entry 5), in the region that M chooses, with diode
emulation forced on. Without power-good on the bus it waits (07 R280). -/
def softStart (p : Fin 32) (slew : Nat) (d : Dev) : Dev :=
  if !portPg d p then onPd p (fun x => { x with ssDue := true }) d
  else
    let v := (freeValue d).toNat % 12001
    let rg := pickRegion (4 * v) (vinSample d 1)
    let d1 := startRamp p (refCode 5000) slew .softStart (onLoop p (fun l => { l with ramping := false, ref := v }) d)
    let d2 := onLoop p (fun l => { l with deForced := true, region := rg, switching := true, hiccup := false, limitMa := none }) d1
    phasesGo p (onPd p (fun x => { x with ssDue := false }) (bumpFree (bumpFree d2)))

/-- The port core starts a port at 5 V (05 R211). -/
def startPort (p : Fin 32) (d : Dev) : Dev := toDie p (.reference 5000 .softStart) (softStart p (diePort d p).slewSs) d

/-- The off-ramp of a port at SLEW_OFF (05 R211, R213); a port that does not switch has none. -/
def offRamp (p : Fin 32) (d : Dev) : Dev :=
  if (d.loops[p]).switching then toDie p (.reference 0 .off) (startRamp p 0 (diePort d p).slewOff .offRamp) d else d

/-- A fence value that stands shows in PORTn_FENCE, but for one of a contract not yet in force (04 R187). -/
def fenceShown (q : Port) (f : Nat) : Nat := if q.transition then q.fenceReg else f

/-- A new fence value reaches the comparator (04 R162): a raise acts at once, a lowering waits for VBUS. -/
def fenceTo (f : Nat) (q : Port) : Port :=
  if q.fence ≤ f then { q with fence := f, fencePend := none, fenceReg := fenceShown q f } else { q with fencePend := some f }

/-- The fence of a port for a voltage (04 R161, R162). -/
def setFence (p : Fin 32) (mv : Nat) : Dev → Dev := onPort p (fenceTo (fenceOf mv))

/-- The fence takes a value at once, at a restart (04 R164), and is cleared (04 R162). -/
def resetFence (p : Fin 32) (mv : Nat) : Dev → Dev := onPort p fun q => { q with fence := fenceOf mv, fencePend := none, fenceReg := fenceOf mv }
/-- The same by command of the port core. -/
def restartFence (p : Fin 32) (mv : Nat) (d : Dev) : Dev := toDie p (.fence (fenceOf mv)) (resetFence p mv) d

def clearFence (p : Fin 32) : Dev → Dev := onPort p fun q => { q with fence := 0, fencePend := none, fenceReg := 0 }

/-! ### Guards -/

/-- The guard conducts or ramps. -/
def guardOn (g : Guard) : Bool := g.state == .closing || g.state == .closed || g.state == .limiting

/-- The discharge driver, never driven while the port presents Rd (07 R302). -/
def discharge (p : Fin 32) (b : Bool) (d : Dev) : Dev :=
  onGuard p (fun g => { g with discharge := b && !(d.ports[p]).rd }) d

/-- The guard opens (07 R274, R295, R302): the count clears, and the discharge starts while VBUS is above vSafe0V and the port is
source. -/
def openGuard (p : Fin 32) (why : Nat) (d : Dev) : Dev :=
  let g := d.guards[p]
  let d1 := stopTimer (.guardFaultTimerExpiry p) d
  if guardOn g then
    let d2 := onGuard p (fun g => { g with
      state := .openG, foldback := false, timer := { count := 0, since := d.tmr.tb, up := false }, openWhy := why, event := setBit g.event 1
      reached := false }) d1
    if (d.ports[p]).source && !vbusLow d p then discharge p true d2 else d2
  else d1

/-- The guard opens and latches (07 R297, R299, R300); the phases go to mid. -/
def latchGuard (p : Fin 32) (latchWhy openWhy : Nat) (d : Dev) : Dev :=
  onGuard p (fun g => { g with state := .latched, latchWhy := latchWhy, rearmHold := true }) (phasesMid p (openGuard p openWhy d))

/-- A latched guard is cleared with its record of re-arms (03 R127, 07 R301). -/
def clearGuard (p : Fin 32) (d : Dev) : Dev :=
  stopTimer (.rearmAgeOut p) (onGuard p (fun g => { g with
    state := if g.state == .latched then .openG else g.state, latchWhy := 0, rearmHold := false, rearmSpent := false, rearms60 := 0
    rearmDue := false }) d)

/-- Immediate stop of a port: phases at mid, guard open (05 R213). -/
def stopPort (p : Fin 32) (why : Nat) (d : Dev) : Dev := openGuard p why (phasesMid p d)

/-- The port core stops a port: a die behind a lost link takes it once the link is back (01 R29, R630). -/
def stopByHub (p : Fin 32) (why : Nat) (d : Dev) : Dev := toDie p (.reference 0 .off) id (toDie p .guardOpen (stopPort p why) d)

/-! ### The protocol engine -/

/-- Every exchange of a port is abandoned; a frame on the wire completes (03 R114, R125). -/
def pdAbandon (p : Fin 32) (d : Dev) : Dev :=
  stopTimers (pdTimers p) (onPort p (fun q => { q with swap := false, transition := false })
    (onPd p (fun x => { x with
      rxQueue := [], txQueue := [], ams := .none, sinkTxNg := false, capsDue := false, riseDue := false, discDue := false, chunks := none, hrDischarge := false, hiccupRestart := false
      bistData := false }) d))

/-- EPR mode is left (04 R186). -/
def leaveEpr (p : Fin 32) (d : Dev) : Dev := onlyIf (d.ports[p]).eprMode (portEvent p 10) (onPort p (fun q => { q with eprMode := false }) d)

/-- The registers of a contract clear together (04 R187). -/
def clearContract (p : Fin 32) (d : Dev) : Dev :=
  onLoop p (fun l => { l with limitMa := none, cl := false })
    (onPd p (fun x => { x with pdos := Vector.replicate 11 0, sinkPdp := 0, sprRating := 0, eprRating := 0 })
      (onPort p (fun q => { q with
        kind := .none, position := 0, volt := 0, curr := 0, rdo := 0, mismatch := false, ppsLimited := false, fenceReg := q.fence }) (leaveEpr p d)))

/-- An explicit contract ends (05 R217, 04 R174): the timers of the contract stop. -/
def endContract (p : Fin 32) (d : Dev) : Dev :=
  clearContract p (stopTimers [.tsourceeprkeepaliveExpiry p, .tppstimeoutExpiry p] d)

/-! ### The census -/

/-- A census of a phase may run (05 R194): its bus has power-good, and its port neither switches nor holds its guard closed, as a port does
that keeps its 5 V through BOOT (15 R569; log entry 41). -/
def censusMay (d : Dev) (n : Fin 64) : Bool :=
  phasePg d n && (portOfPhase d n).all fun p => !(d.loops[p]).switching && !(d.loops[p]).hiccup && !guardOn (d.guards[p])

/-- The census of a phase starts: both legs at mid (05 R195), the region chosen from M (05 R207). -/
def censusBegin (n : Fin 64) (d : Dev) : Dev :=
  let d1 := onPhase n (fun f => { f with state := .census, due := false }) d
  match portOfPhase d n with
  | some p => bumpFree (onLoop p (fun l => { l with region := pickRegion (4 * refNow d l) (vinSample d 0) }) d1)
  | none => d1

/-- The next phase of an edge die whose census is due starts it: one at a time, in phase order (05 R198). -/
def censusNext (e : Fin 4) (d : Dev) : Dev :=
  let mine := (indices 64).filter fun n => edgeOfPhase n == e
  if mine.any fun n => (d.phases[n]).state == .census then d
  else match mine.find? fun n => (d.phases[n]).due && censusMay d n with
    | some n => censusBegin n d
    | none => d

/-- Censuses of phases fall due; a phase whose bus has no power-good is left PENDING (05 R194). -/
def censusStart (l : List (Fin 64)) (d : Dev) : Dev :=
  let d1 := forEach l (fun n x => onPhase n (fun f =>
    if phasePg x n || f.state == .switching then { f with due := true } else { f with state := .pending, census := 3 }) x) d
  forEach (indices 4) censusNext d1

/-- A port waits for a census of one of its phases (05 R194). -/
def censusOpen (d : Dev) (p : Fin 32) : Bool :=
  (phasesOf d p).any fun n => (d.phases[n]).state == .pending || (d.phases[n]).state == .census || (d.phases[n]).due

/-! ### Deferred records -/

/-- PORTn_CAP from the unretired phases (04 R151); its fall is an event. -/
def updateCap (p : Fin 32) (d : Dev) : Dev :=
  let c := capOf d (livePhases d p)
  let q := d.ports[p]
  onlyIf (decide (c.1 < q.capWatts) || decide (c.2 < q.capMa)) (portEvent p 15) (onPort p (fun q => { q with capWatts := c.1, capMa := c.2 }) d)

/-- The PHASE_MAP entries that a predicate picks take their new records; each changed phase that is not retired falls due for a census
(02 R86, R91). -/
def takePhases (f : Fin 64 → Bool) (new : ImageCfg) (d : Dev) : Dev :=
  let l := (indices 64).filter fun n => f n && d.cfg.phases[n] != new.phases[n]
  let d1 := { d with cfg := { d.cfg with phases := Vector.ofFn fun n => if f n then new.phases[n] else d.cfg.phases[n] } }
  let d2 := forEach l (fun n => onPhase n fun x =>
    if x.state == .retired then x else if (new.phases[n]).isSome then { x with state := .idle } else { x with state := .unused, due := false }) d1
  censusStart (l.filter fun n => (new.phases[n]).isSome && (d.phases[n]).state != .retired) d2

/-- An entry of the phase map names a port. -/
def entryOf (c : ImageCfg) (n : Fin 64) (p : Fin 32) : Bool := (c.phases[n]).any fun x => x.port == p

/-- The deferred records of a port apply once it has detached or is disabled (02 R86); its channels follow them (06 R235, R236). -/
def takeDeferred (p : Fin 32) (d : Dev) : Dev :=
  if !bit d.store.pendPorts p.val then d
  else
    let left := clrBit d.store.pendPorts p.val
    let new := d.cfgNew
    let held (n : Fin 64) : Bool := (indices 32).any fun q => bit left q.val && (entryOf d.cfg n q || entryOf new n q)
    let d1 := { d with cfg := { d.cfg with ports := d.cfg.ports.set p new.ports[p], loops := d.cfg.loops.set p new.loops[p] } }
    applyChans false false d.cfg
      (updateCap p (takePhases (fun n => (entryOf d.cfg n p || entryOf new n p) && !held n) new (onStore (fun s => { s with pendPorts := left }) d1)))

/-- The end of an attach journalled: a debug accessory's as a SERVICE record (03 R128, 15 R578 class 11). -/
def journalLeave (p : Fin 32) (d : Dev) : Dev :=
  if (d.ports[p]).tc == .debugSrc || (d.ports[p]).tc == .debugSnk then journalEvent 11 (0x8000 + 0x400 * p.val) (tcStat d p) p.val d
  else journalContract p d

/-- A port leaves its attached state (03 R109, R116, R119; 04 R146, R175, R187): everything that belongs to the attach clears. -/
def dropAttach (p : Fin 32) (d : Dev) : Dev :=
  if isAttached (d.ports[p]) then
    let d1 := onlyIf (!(d.pd[p]).leaving) (journalLeave p) (portEvent p 1 d)
    let d2 := stopTimer (.pendingHandEffective p) (vconnEnd p (endContract p (pdAbandon p d1)))
    onPd p (fun x => { x with
        hardResets := 0, discoverTries := 0, target := 0, sentSink := 0, sentSpr := 0, sentEpr := 0, sentPdos := Vector.replicate 11 0, sentLims := Vector.replicate 11 (0, 0)
        rxId := none, txId := 0, txId1 := 0, reach := 0, base := 0, leaving := false, sopSecond := false
        breachTb := none })
      (onPort p (fun q => { q with
        orient := false, source := false, dfp := false, servicePresent := false, minAtt := false, rev := 0, capsSent := 0, hand := 0
        pend := none, cableFinding := 0, cableEpr := false, cableActive := false, vconnOc := false, cableDone := false, cableV := 0
        cableI := 0, cableVid := 0, cablePid := 0, transition := false, swap := false }) d2) |> takeDeferred p
  else takeDeferred p (pdAbandon p (vconnEnd p d))

/-- The Type-C state of a port. -/
def setTc (p : Fin 32) (t : TcState) : Dev → Dev := onPort p fun q => { q with tc := t }

/-- The list of retired phases and its record in the calibration partition (05 R224, 15 R575). -/
def setRetired (m : BitVec 64) : Dev → Dev := onSys fun s => { s with retired := m, retiredRec := s.retiredRec.put retiredBytes m }

/-- A phase retires (05 R223, R224): its legs at mid, the retired-phase list, PORTn_CAP. -/
def retirePhase (n : Fin 64) (why : Nat) (d : Dev) : Dev :=
  if (d.phases[n]).state == .retired then d
  else
    let d1 := onPhase n (fun f => { f with state := .retired, why := why, retire := true, due := false, de := false, skip := false, event := setBit f.event 0 }) d
    let d2 := journalEvent 10 (0x10018 + 0x400 * n.val) 1 n.val (setRetired (d.sys.retired ||| BitVec.ofNat 64 (2 ^ n.val)) d1)
    match portOfPhase d n with
    | some p => updateCap p d2
    | none => d2

/-- Hiccup events and counts of every phase of a port (05 R228, R230). -/
def markPhases (p : Fin 32) (i : Nat) (f : Phase → Phase) (d : Dev) : Dev :=
  forEach (phasesOf d p) (fun n x => onPhase n f (phaseEvent n i x)) d

/-! ### Feeds -/

/-- The hot-swap gate of a feed turns off (07 R274, R289, R291): power-good falls, the fault timer clears. -/
def gateOff (f : Fin 4) (d : Dev) : Dev :=
  let x := d.feeds[f]
  let d1 := stopTimers [.feedFaultTimerExpiry f, .insTimeoutExpiry f, .insDelayExpiry f] d
  let d2 := onFeed f (fun x => { x with
    limiting := false, foldback := false, timer := { count := 0, since := d.tmr.tb, up := false }, pg := false, pgWarn := false
    diodeOn := x.diodeOn && (feedCfg d f).fflags.getLsbD 0 }) d1
  onlyIf x.pg (feedEvent f 1) d2

/-- A feed latches off (07 R276, R277). -/
def latchFeed (f : Fin 4) (why : Nat) (d : Dev) : Dev :=
  onFeed f (fun x => { x with state := .latched, latchWhy := why, trips := inc8 x.trips, event := setBit x.event 4 }) (gateOff f d)

/-- A feed returns to WAIT (07 R277). -/
def feedToWait (f : Fin 4) (d : Dev) : Dev := onFeed f (fun x => { x with state := .wait }) (gateOff f d)

/-- FVIN of a feed lies in its window with VGD above 10.5 V: DELAY starts (07 R277, R278). -/
def feedTryDelay (f : Fin 4) (d : Dev) : Dev :=
  let x := d.feeds[f]
  if x.state == .wait && x.inWindow && d.sys.vgdStart && d.sys.mode != .standby && !d.sys.tempTrip[5] && !extest d then
    startTimer (.insDelayExpiry f) (ticksOfMs (feedCfg d f).insDelay) (onFeed f (fun x => { x with state := .delay }) d)
  else d

end Sys2Proof.Machine
end

