-- ==== Sys2Proof/Machine/Offers.lean ====
section
/-! DEFINITION. Offers cut to the hand, the phases and the cable (04 R149 to R158), their words on the wire, and the sending of messages by the protocol engine. -/

namespace Sys2Proof.Machine

/-- The hand an offer is cut to, in 0.1 W: the pending hand when one exists (04 R156). -/
def cutHand (q : Port) : Nat := (q.pend.map Prod.fst).getD q.hand

/-- An offer after its cut: kind as in 02 R58, voltages in mV, current in mA, or PDP in W for AVS. -/
structure CutOffer where
  ptype : Nat
  vmin : Nat
  vmax : Nat
  limit : Nat
  limited : Bool := false
  deriving DecidableEq, Repr

/-- The current in mA that a hand in 0.1 W gives at a voltage in mV. -/
def handMa (h mv : Nat) : Nat := if mv = 0 then 0 else h * 100000 / mv

/-- One offer cut to hand, phases and cable (04 R156, R157); none when it is removed. -/
def cutOffer (q : Port) (o : PdoCfg) : Option CutOffer :=
  let h := cutHand q
  match o.ptype with
  | 0 =>
    let i := min (min o.limit q.capMa) (min q.cableI (handMa h o.vmin)) / 10 * 10
    if o.vmin = 5000 then some ⟨0, 5000, 5000, max 500 i, false⟩
    else if q.cableV * 1000 < o.vmin ∨ i < 1000 then none
    else some ⟨0, o.vmin, o.vmin, i, false⟩
  | 1 =>
    let i := min (min o.limit q.capMa) q.cableI / 50 * 50
    if min i (handMa h o.vmax) < 1000 then none
    else some ⟨1, o.vmin, o.vmax, i, decide (h * 100000 < i * o.vmax)⟩
  | 2 =>
    let i := min (min o.limit q.capMa) (min q.cableI (handMa h o.vmin)) / 10 * 10
    if !q.cableEpr ∨ q.cableV * 1000 < o.vmin ∨ i < 1000 then none else some ⟨2, o.vmin, o.vmin, i, false⟩
  | _ =>
    let v := min o.vmax 48000
    let w := min (min o.limit (h / 10)) q.capWatts
    if !q.cableEpr ∨ w * 1000 < v then none else some ⟨3, o.vmin, v, w, false⟩

/-- The offer set of a port. -/
def offerSet (d : Dev) (p : Fin 32) : OfferCfg := (d.cfg.offers[(portCfg d p).offerSet]).getD {}

/-- The cut SPR and EPR offers of a port, in set order; under PD 2.0 only SPR fixed offers (04 R146, R149). -/
def sprOffers (d : Dev) (p : Fin 32) : List CutOffer :=
  (((offerSet d p).pdos.filter fun o => o.ptype = 0 || (o.ptype = 1 && (d.ports[p]).rev != 1)).filterMap (cutOffer (d.ports[p]))).take 7

def eprOffers (d : Dev) (p : Fin 32) : List CutOffer :=
  (((offerSet d p).pdos.filter fun o => o.ptype = 2 || o.ptype = 3).filterMap (cutOffer (d.ports[p]))).take 4

/-- A PDO as USB PD 3.2 encodes it, with the flags of 04 R150 on the fixed 5 V offer (log entry 9). -/
def pdoWord (d : Dev) (p : Fin 32) (o : CutOffer) : Word :=
  match o.ptype with
  | 1 => pack [(30, 2, 3), (27, 1, b2n o.limited), (17, 8, o.vmax / 100), (8, 8, o.vmin / 100), (0, 7, o.limit / 50)]
  | 3 => pack [(30, 2, 3), (28, 2, 1), (17, 9, o.vmax / 100), (8, 8, o.vmin / 100), (0, 8, o.limit)]
  | _ =>
    if o.vmin = 5000 then
      pack [(29, 1, b2n (isDrp d p)), (25, 1, b2n (pflag d p 5)), (23, 1, b2n (pflag d p 3)), (10, 10, 100), (0, 10, o.limit / 10)]
    else pack [(10, 10, o.vmin / 50), (0, 10, o.limit / 10)]

/-- The words of Source_Capabilities, or in EPR mode of EPR_Source_Capabilities (04 R149). -/
def capsWords (d : Dev) (p : Fin 32) : List Word :=
  let spr := (sprOffers d p).map (pdoWord d p)
  if (d.ports[p]).eprMode then spr ++ List.replicate (7 - spr.length) 0 ++ (eprOffers d p).map (pdoWord d p) else spr

/-- VMIN and VMAX of the offers of `capsWords`, by position. -/
def capsLims (d : Dev) (p : Fin 32) : List (Nat × Nat) :=
  let spr := (sprOffers d p).map fun o => (o.vmin, o.vmax)
  if (d.ports[p]).eprMode then spr ++ List.replicate (7 - spr.length) (0, 0) ++ (eprOffers d p).map fun o => (o.vmin, o.vmax) else spr

/-- A list of words as the eleven PDO registers. -/
def pdoVector (l : List Word) : Vector Word 11 := Vector.ofFn fun i => l.getD i.val 0

/-- The ratings of 04 R158: SPR and EPR Source PDP Rating. -/
def sprRating (d : Dev) (p : Fin 32) : Nat := min (min (offerSet d p).pdp 100) (cutHand (d.ports[p]) / 10)
def eprRating (d : Dev) (p : Fin 32) : Nat := min (min (offerSet d p).pdp (cutHand (d.ports[p]) / 10)) (d.ports[p]).capWatts

/-! ### Sending -/

/-- A message joins the port's transmit queue; at its head it goes out and awaits GoodCRC for tCRCReceive (04 R139, R166). -/
def pdSend (p : Fin 32) (sop : Fin 3) (kind : PdKind) (data : List Word) (d : Dev) : Dev :=
  let x := d.pd[p]
  let d1 := onPd p (fun x => { x with txQueue := x.txQueue ++ [{ sop := sop, kind := kind, data := data, tries := 0 }] }) d
  if x.txQueue.isEmpty then startTimer (.tcrcreceiveExpiry p) (ticksOfMs 1) d1 else d1

/-- Not_Supported, and its event (04 R145, R186); under PD 2.0 a control message gets Reject and other messages get nothing (04 R146). -/
def notSupported (p : Fin 32) (control : Bool) (d : Dev) : Dev :=
  if (d.ports[p]).rev = 1 then (if control then portEvent p 12 (pdSend p 0 .reject [] d) else d)
  else portEvent p 18 (pdSend p 0 .notSupported [] d)

/-- The Rp a source presents: as configured before a contract, then SinkTxOk or SinkTxNG (04 R141). -/
def presentTx (p : Fin 32) (d : Dev) : Dev :=
  if (d.ports[p]).tc != .attachedSrc then d
  else if (d.ports[p]).kind == .none then presentRp p d
  else if (d.pd[p]).sinkTxNg then present p .a15 false d
  else present p .a30 false d

/-- Source_Capabilities go out now: in EPR mode without an EPR offer left, the device leaves EPR mode first (04 R149, R168). -/
def sendCapsNow (p : Fin 32) (d : Dev) : Dev :=
  let q := d.ports[p]
  if q.eprMode && (eprOffers d p).isEmpty && (q.kind == .eprFixed || q.kind == .avs) then post (.tsourceeprkeepaliveExpiry p) d
  else
    let leave := q.eprMode && (eprOffers d p).isEmpty
    let d0 := if leave then leaveEpr p (stopTimer (.tsourceeprkeepaliveExpiry p) (pdSend p 0 .eprModeExit [] d)) else d
    let w := capsWords d0 p
    let d1 := onPd p (fun x => { x with
      sentPdos := pdoVector w, sentLims := Vector.ofFn fun i => (capsLims d0 p).getD i.val (0, 0), ams := .offer, lastCapsTb := d.tmr.tb
      capsDue := false, riseDue := false }) d0
    let d2 := onPort p (fun q => { q with
      capsSent := if q.kind == .none then sat 50 (q.capsSent + 1) else q.capsSent, ppsLimited := (sprOffers d0 p).any (·.limited) }) d1
    pdSend p 0 (if (d0.ports[p]).eprMode then .eprSourceCapabilities else .sourceCapabilities) w (portEvent p 11 d2)

/-- The port core starts a capability offer: held while an exchange is open, after SinkTxNG for tSinkTx under a contract (04 R141, R178). -/
def offerCaps (p : Fin 32) (d : Dev) : Dev :=
  let q := d.ports[p]; let x := d.pd[p]
  if q.tc != .attachedSrc || x.leaving || (d.loops[p]).hiccup || x.bistData then d
  else if x.ams != .none || q.transition || !x.txQueue.isEmpty || x.sinkTxNg then onPd p (fun x => { x with capsDue := true }) d
  else if q.kind != .none then
    startTimer (.tsinktxExpiry p) (ticksOfMs 18) (presentTx p (onPd p (fun x => { x with sinkTxNg := true }) d))
  else sendCapsNow p d

/-- An exchange of a port ends: SinkTxOk returns, and an offer that waited goes out (04 R141). -/
def amsEnd (p : Fin 32) (d : Dev) : Dev :=
  let due := (d.pd[p]).capsDue
  let d1 := presentTx p (onPd p (fun x => { x with ams := .none, sinkTxNg := false, capsDue := false }) (stopTimer (.tsenderresponseExpiry p) d))
  if due then offerCaps p d1 else d1

/-- An offer that waited for an answer on the wire goes out behind it (04 R178). -/
def offerIdle (p : Fin 32) (d : Dev) : Dev :=
  let x := d.pd[p]
  if x.capsDue && x.ams == .none && x.txQueue.isEmpty && !x.sinkTxNg then offerCaps p (onPd p (fun x => { x with capsDue := false }) d) else d

/-- The first offer of an attach: at a closed guard, once discovery has made its tries (03 R113, R118). -/
def firstOffer (p : Fin 32) (d : Dev) : Dev :=
  let q := d.ports[p]; let x := d.pd[p]
  if q.tc == .attachedSrc && (d.guards[p]).state == .closed && q.kind == .none && x.ams == .none
      && (!q.vconnOn || q.cableDone || decide (3 ≤ x.discoverTries)) && !timerRuns d (.tswapsourcestartExpiry p) then sendCapsNow p d
  else d

/-! ### Hands -/

/-- An attached source port that takes part in a division (04 R152). -/
def takesHand (d : Dev) (p : Fin 32) : Bool := isSrcAttached (d.ports[p]).tc && !(d.pd[p]).leaving

/-- Cable power in 0.1 W (04 R151): up to 48 V at 5 A; nothing in EPR mode, and no more than 20 V outside it, when the cable forbids EPR (log entry 39). -/
def cableReach (q : Port) : Nat :=
  if q.cableEpr then min 2400 (min q.cableV 48 * q.cableI / 100) else if q.eprMode then 0 else min q.cableV 20 * q.cableI / 100

/-- Reach of a port in 0.1 W (04 R151), below the cap an order sets on its class (08, dated orders). -/
def reachOf (d : Dev) (p : Fin 32) : Nat :=
  let q := d.ports[p]
  let cable := cableReach q
  let cap := d.ledger.caps[Fin.ofNat 4 (portCfg d p).cls]
  let base := min (min (10 * (offerSet d p).pdp) (10 * q.capWatts)) (if cap = 0xFFFF then cable else min cable (10 * cap))
  let lim := if (d.pd[p]).limit = 0 then base else min base (10 * (d.pd[p]).limit)
  if q.eprMode then min lim (10 * (d.pd[p]).sentSink) else lim

/-- Base of a port in 0.1 W (04 R152). -/
def baseOf (d : Dev) (p : Fin 32) : Nat := max 25 (min (10 * (portCfg d p).trump) (reachOf d p))

/-- The largest level whose rises fit a pool (04 R152), by halving a step. -/
def fillLevel (rooms : List Nat) (pool : Nat) : Nat → Nat → Nat
  | 0, l => l
  | k + 1, l =>
    let m := l + 2 ^ k
    fillLevel rooms pool k (if rooms.foldl (fun a r => a + min m r) 0 ≤ pool then m else l)

/-- The allotment to work from, in 0.1 W: the lower of the present one and every pending one, without the kitty held back (04 R152). -/
def poolOf (d : Dev) : Nat := 10 * allotMin d - d.ledger.kittyHeld

/-- The target hands of the attached source ports (04 R152). -/
def targets (d : Dev) : List (Fin 32 × Nat) :=
  let ps := (indices 32).filter (takesHand d)
  let bases := ps.foldl (fun a p => a + baseOf d p) 0
  let pool := poolOf d - bases
  let level := fillLevel (ps.map fun p => reachOf d p - baseOf d p) pool 13 0
  ps.map fun p => (p, baseOf d p + min level (reachOf d p - baseOf d p))

/-- Room for a port under the allotment: what the other ports' present hands leave (04 R154). -/
def roomFor (d : Dev) (p : Fin 32) : Nat :=
  10 * allotMin d - ((indices 32).filter fun q => takesHand d q && q != p).foldl (fun a q => a + (d.ports[q]).hand) 0

/-- The instant of a pending hand: that of the allotment cut it derives from, else five deal periods on (04 R154). -/
def cutInstant (d : Dev) : Nat :=
  match d.ledger.cuts.find? fun c => c.2 == allotMin d && decide (c.2 < d.ledger.allot) with
  | some c => c.1
  | none => d.tmr.tb + 5 * dealTicks d

/-- Contract power in micro-watts, and a hand in 0.1 W the same way (04 R155). -/
def contractUw (q : Port) : Nat := q.volt * q.curr
def handUw (h : Nat) : Nat := h * 100000

/-- An offer rises by a tenth, or a removed offer returns (04 R179). -/
def offersRise (old new : List CutOffer) : Bool :=
  new.any fun n => match old.find? fun o => o.ptype == n.ptype && o.vmin == n.vmin && (o.ptype == 1 || o.ptype == 3 || o.vmax == n.vmax) with
    | some o => decide (11 * o.limit ≤ 10 * n.limit)
    | none => true

/-- What a port core does once its hand has changed (04 R178, R179): new capabilities under a cut below the contract or a cut that
changes an offer, and under a rise that is large enough, once a second unless the owner asked. -/
def handFollow (old : Port) (oldOffers : List CutOffer) (p : Fin 32) (asked : Bool) (d : Dev) : Dev :=
  let q := d.ports[p]
  if q.kind == .none || q.tc != .attachedSrc then d
  else
    let new := sprOffers d p ++ eprOffers d p
    if cutHand q < cutHand old then
      if handUw (cutHand q) < contractUw q || new != oldOffers then offerCaps p d else d
    else if cutHand old < cutHand q && offersRise oldOffers new then
      let at1 := (d.pd[p]).lastCapsTb + ticksOfS 1
      if asked || decide (at1 ≤ d.tmr.tb) then offerCaps p d
      else startTimerAt (.ttypecsendsourcecapExpiry p) at1 (onPd p (fun x => { x with riseDue := true }) d)
    else d

/-- A port takes its target (04 R154): a rise at once as far as there is room, a fall as a pending hand. -/
def takeTarget (p : Fin 32) (t : Nat) (asked : Bool) (d : Dev) : Dev :=
  let q := d.ports[p]
  let oldOffers := sprOffers d p ++ eprOffers d p
  let d1 := onPd p (fun x => { x with target := t, reach := reachOf d p, base := baseOf d p }) d
  let d2 :=
    if q.hand ≤ t then
      stopTimer (.pendingHandEffective p) (onPort p (fun q => { q with hand := max q.hand (min t (roomFor d p)), pend := none }) d1)
    else
      let when1 := match q.pend with
        | some (v, w) => if v = t then min w (cutInstant d) else cutInstant d
        | none => cutInstant d
      onlyIf (q.pend.map Prod.fst != some t) (portEvent p 13)
        (startTimerAt (.pendingHandEffective p) when1 (onPort p (fun q => { q with pend := some (t, when1) }) d1))
  handFollow q oldOffers p asked d2

/-- A division of the allotment into hands (04 R151, R152); a SHADOW makes none (09 R387). -/
def divide (d : Dev) : Dev := if isShadow d then d else forEach (targets d) (fun x => takeTarget x.1 x.2 false) d

/-- A division that an owner's write of PORTn_LIMIT starts (04 R181). -/
def divideFor (p : Fin 32) (d : Dev) : Dev :=
  if isShadow d then d else forEach (targets d) (fun x => takeTarget x.1 x.2 (x.1 == p)) d

/-- A rise that waited for room follows once a pending cut took effect (04 R154). -/
def raiseHands (d : Dev) : Dev :=
  forEach ((indices 32).filter (takesHand d)) (fun p x =>
    if (x.ports[p]).pend.isNone && decide ((x.ports[p]).hand < (x.pd[p]).target) then takeTarget p (x.pd[p]).target false x else x) d

/-- The first hand of an attach, from the kitty (04 R153). -/
def firstHand (p : Fin 32) (d : Dev) : Dev :=
  let h := max 25 (min (reachOf d p) d.ledger.kittyHeld)
  onLedger (fun l => { l with kittyHeld := l.kittyHeld - h })
    (onPd p (fun x => { x with target := h, reach := reachOf d p, base := baseOf d p }) (onPort p (fun q => { q with hand := h, pend := none }) d))

end Sys2Proof.Machine
end

