-- ==== Sys2Proof/Machine/PortFlow.lean ====
section
/-! DEFINITION. Courses of a port that several rules call for: unattached, ErrorRecovery, detach, disable, hiccup, latch-off, minimal mode and its exit; and the reset of the hub. None of these raises a source. -/

namespace Sys2Proof.Machine

/-- The opcode of PORT_DISABLE (12 R482). -/
def opPortDisable : Nat := 0x0101

/-- A latched guard is armed again (07 R301); the re-arm counts for 60 s. -/
def doRearm (p : Fin 32) (d : Dev) : Dev :=
  let d1 := onGuard p (fun g => { g with
    state := .openG, latchWhy := 0, rearmHold := false, rearmDue := false, rearms := inc8 g.rearms, rearms60 := g.rearms60 + 1
    rearmSpent := decide (3 ≤ g.rearms60 + 1), event := setBit g.event 7 }) d
  { d1 with timers := d1.timers ++ [(d1.tmr.tb + ticksOfS 60, .rearmAgeOut p)] }

/-- The thermal estimate lies above PGUARD / 16 (07 R301). -/
def thermHigh (d : Dev) (p : Fin 32) : Bool := decide ((diePort d p).pguard < 16 * (d.guards[p]).therm)

/-- A re-arm after a detach: at most three in 60 s, deferred while the estimate is high (07 R301). -/
def tryRearm (p : Fin 32) (d : Dev) : Dev :=
  let g := d.guards[p]
  if g.state != .latched || decide (3 ≤ g.rearms60) then d
  else if thermHigh d p then onGuard p (fun g => { g with rearmDue := true }) d
  else doRearm p d

/-- The pins of a mask that read a termination: bit 0 CC1, bit 1 CC2. -/
def pinMask (a b : Bool) : Nat := b2n a + 2 * b2n b

/-- A debounce that runs while a condition holds unbroken on the same pins (03 R107, R108), counted from the stamp of the last transition
into it; no pins end it. -/
def debounce (p : Fin 32) (ev : Instr) (pins : Nat) (due : Nat) (d : Dev) : Dev :=
  if pins = 0 then stopTimer ev (onPd p (fun x => { x with deb := false, debPins := 0 }) d)
  else if (d.pd[p]).deb && (d.pd[p]).debPins == pins then d
  else startTimerAt ev due (onPd p (fun x => { x with deb := true, debPins := pins }) d)

/-- tPDDebounce runs while a port's pins read detached (03 R107). -/
def leaveDebounce (p : Fin 32) (gone : Bool) (stamp : Nat) (d : Dev) : Dev :=
  if gone then (if timerRuns d (.tpddebounceExpiry p) then d else startTimerAt (.tpddebounceExpiry p) (stamp + ticksOfMs 15) d)
  else stopTimer (.tpddebounceExpiry p) d

/-- The pins of an attach condition as source and as sink (03 R107, R128); 0 where it does not hold. -/
def rdPins (d : Dev) (p : Fin 32) : Nat :=
  if rdOne d p || (ccSettled d p && rdBoth d p && debugOn d p) then pinMask (pinRd d p false) (pinRd d p true) else 0
def rpPins (d : Dev) (p : Fin 32) : Nat :=
  if rpOne d p || (ccSettled d p && rpBoth d p && debugOn d p) then pinMask (pinRp d p false) (pinRp d p true) else 0

/-- The pins of the conditions that ask for exactly one. -/
def rdPin (d : Dev) (p : Fin 32) : Nat := if rdOne d p then rdPins d p else 0
def rpPin (d : Dev) (p : Fin 32) : Nat := if rpOne d p then rpPins d p else 0

/-- What a port makes of its CC zones (03 R102, R107): the conditions of its state, counted from the stamp of the transition. While a
channel holds its zone, it waits for the end of the hold (03 R101). -/
def ccEval (p : Fin 32) (stamp : Nat) (d : Dev) : Dev :=
  let q := d.ports[p]
  let due := stamp + ticksOfMs (portCfg d p).debounce
  let noRd := !pinRd d p false && !pinRd d p true
  let noRp := ccZone d p false == .below && ccZone d p true == .below
  if (d.pd[p]).disabling || !hasPort d p || ccHeld d p then d
  else match q.tc with
  | .unattachedSrc =>
    if rdPins d p != 0 then debounce p (.tccdebounceExpiry p) (rdPins d p) due (onPd p (fun x => { x with deb := false })
      (stopTimer (.tdrpExpiry p) (setTc p .attachWaitSrc d)))
    else if noRd && ccSettled d p then tryRearm p d
    else d
  | .attachWaitSrc => leaveDebounce p noRd stamp (debounce p (.tccdebounceExpiry p) (rdPins d p) due d)
  | .attachedSrc => if (d.pd[p]).leaving then d else leaveDebounce p (ccZone d p q.orient == .above) stamp d
  | .debugSrc =>
    if (d.pd[p]).leaving then d else leaveDebounce p (ccZone d p false == .above && ccZone d p true == .above) stamp d
  | .trySrc => debounce p (.ttryccdebounceExpiry p) (rdPin d p) (stamp + ticksOfMs 15) d
  | .unattachedSnk =>
    if ccSettled d p && (pinRp d p false || pinRp d p true) then
      debounce p (.tccdebounceExpiry p) (rpPins d p) due (onPd p (fun x => { x with deb := false })
        (stopTimer (.tdrpExpiry p) (setTc p .attachWaitSnk d)))
    else d
  | .attachWaitSnk => leaveDebounce p noRp stamp (debounce p (.tccdebounceExpiry p) (rpPins d p) due d)
  | .tryWaitSnk => leaveDebounce p noRp stamp (debounce p (.tccdebounceExpiry p) (rpPin d p) due d)
  | .minimal =>
    if q.minAtt then
      if noRd then (if timerRuns d (.minimalDetachDebounce p) then d else startTimerAt (.minimalDetachDebounce p) (stamp + ticksOfMs 15) d)
      else stopTimer (.minimalDetachDebounce p) d
    else debounce p (.minimalAttachDebounce p) (rdPin d p) (stamp + ticksOfMs 150) d
  | _ => d

/-- A port that has just changed its state looks at its pins (03 R107); a SHADOW's ports follow the mirror link (09 R381), and in
STANDBY the port cores are halted (15 R564). -/
def ccSee (p : Fin 32) (d : Dev) : Dev :=
  if isShadow d || d.sys.mode == .standby then d else ccEval p d.tmr.tb d

/-- A port goes to the unattached state of its ROLES (03 R107, R112), and sees what its pins read already; a source port without a live phase stays Disabled (05 R225). -/
def toUnattached (p : Fin 32) (d : Dev) : Dev :=
  let d1 := stopTimers (tcTimers p) d
  if canSource d p && (livePhases d p).isEmpty && !isDrp d p then presentOpen p (setTc p .disabled d1)
  else if rolesOf d p = 1 || (isDrp d p && (!anyPg d || (livePhases d p).isEmpty)) then ccSee p (presentRd p (setTc p .unattachedSnk d1))
  else
    let d2 := presentRp p (setTc p .unattachedSrc d1)
    ccSee p (if isDrp d p then startTimer (.tdrpExpiry p) 1875000 d2 else d2)

/-- A port enters ErrorRecovery (03 R105, R107): everything off for tErrorRecovery; in minimal mode its edge die does so by itself
(03 R123). A port being disabled, Disabled or in ErrorRecovery stays as it is. -/
def errorRecovery (p : Fin 32) (why : Nat) (d : Dev) : Dev :=
  let q := d.ports[p]
  if !hasPort d p || q.tc == .disabled || q.tc == .errorRecovery || (d.pd[p]).disabling then d
  else
    let d1 := stopTimers (tcTimers p) d
    let d2 := stopTimer (.hiccupOffTimeExpiry p) (presentOpen p (onLoop p (fun l => { l with hiccup := false }) (stopByHub p why d1)))
    let d3 := startTimer (.terrorrecoveryExpiry p) (ticksOfMs 30) d2
    if q.tc == .minimal then onlyIf q.minAtt (portEvent p 1) (onPort p (fun q => { q with minAtt := false, source := false, dfp := false }) d3)
    else
      let was := isSrcAttached q.tc
      let d4 := setTc p .errorRecovery (dropAttach p d3)
      if was then divide d4 else d4

/-- VBUS of a leaving port is below vSafe0V: the detach is complete (03 R107, R114). -/
def finishDetach (p : Fin 32) (d : Dev) : Dev := toUnattached p (dropAttach p (stopByHub p 0 d))

/-- A sink detached (03 R114; log entry 35): the exchange ends, VCONN opens, the off-ramp runs with the guard closed, and the hands are divided. -/
def startDetach (p : Fin 32) (d : Dev) : Dev :=
  let d1 := vconnEnd p (endContract p (pdAbandon p (journalContract p d)))
  let d2 := stopTimer (.hiccupOffTimeExpiry p) (stopTimer (.pendingHandEffective p) d1)
  let d3 := onLoop p (fun l => { l with hiccup := false }) (onPort p (fun q => { q with hand := 0, pend := none }) d2)
  let d4 := divide (offRamp p (onPd p (fun x => { x with leaving := true }) d3))
  if vbusLow d4 p then finishDetach p d4 else d4

/-- A port enters Disabled (03 R125, R127, 04 R162): guard open, fence cleared, discharge unless it was sink, latches and counts of
hiccups and re-arms cleared. -/
def enterDisabled (p : Fin 32) (high : Bool) (d : Dev) : Dev :=
  let q := d.ports[p]
  let sink := isSnkAttached q.tc
  let was := isSrcAttached q.tc
  let d1 := stopTimers (.portDisableTimeout p :: .hiccupOffTimeExpiry p :: .hiccupAgeOut p :: tcTimers p) d
  let d2 := clearFence p (clearGuard p (stopByHub p 0 (dropAttach p d1)))
  let d3 := onLoop p (fun l => { l with hc := 0, hiccup := false, latched := false, lc := 0 }) d2
  let d4 := presentOpen p (onPort p (fun q => { q with tc := .disabled, startFail := false, vbusHigh := high, enabled := false, minAtt := false }) d3)
  let d5 := discharge p (!sink) (onPd p (fun x => { x with disabling := false, leaving := false }) d4)
  let d6 := forEach (d5.host.jobs.filter fun j => j.opcode == opPortDisable && j.port == some p)
    (fun j x => complete j.ref j.opcode .done [if high then 1 else 0] x) d5
  if was then divide d6 else d6

/-- A disable starts (03 R125, steps 1 to 4), and the fence holds its value: a port whose phases rest without VBUS, or whose guard is latched, enters
Disabled at once; one in its soft start does so when its off-ramp ends. -/
def startDisable (p : Fin 32) (d : Dev) : Dev :=
  if (d.pd[p]).disabling then d
  else
    let q := d.ports[p]
    let d1 := discardJobs (fun j => j.port == some p && j.opcode != opPortDisable) d
    let d2 := stopTimers (tcTimers p) (pdAbandon p d1)
    let d3 := offRamp p (onlyIf (!lostPort d2 p) (stopRamp p) (onPd p (fun x => { x with disabling := true }) d2))
    let d4 := onPort p (fun q => { q with dfp := false, fencePend := none }) (presentOpen p (vconnEnd p d3))
    if q.tc == .disabled || (d.guards[p]).state == .latched || (vbusLow d p && !(d.loops[p]).switching) then post (.portDisableDone p) d4
    else startTimer (.portDisableTimeout p) (ticksOfMs 650) d4

/-- A hiccup begins (05 R217): phases to mid, guard open, the contract ends, the off-time runs; it leaves the count after 10 s. -/
def startHiccup (p : Fin 32) (why : Nat) (d : Dev) : Dev :=
  let d1 := endContract p (pdAbandon p (stopPort p why d))
  let d2 := onLoop p (fun l => { l with hiccup := true, hc := sat 15 (l.hc + 1), lc := 0 }) d1
  let d3 := markPhases p 5 (fun f => { f with hiccups := inc8 f.hiccups }) d2
  let d4 := { d3 with timers := d3.timers ++ [(d3.tmr.tb + ticksOfS 10, .hiccupAgeOut p)] }
  startTimer (.hiccupOffTimeExpiry p) (ticksOfMs (loopCfg d p).tHiccup) d4

/-- A port latches off (05 R218): Disabled with START_FAIL set and ENABLED cleared; the raise of PORT_START_FAIL is its caller's. -/
def latchOff (p : Fin 32) (d : Dev) : Dev :=
  let d1 := enterDisabled p false (stopPort p 5 d)
  let d2 := onLoop p (fun l => { l with latched := true, lc := 0 }) (onPort p (fun q => { q with startFail := true }) d1)
  let n := (phasesOf d p).head?
  let d3 := markPhases p 6 id d2
  match n with
  | some n => journalEvent 10 (0x10018 + 0x400 * n.val) 0x40 n.val d3
  | none => d3

/-- A port that does not switch (11 R436): a GROUP_HICCUP has no effect on it. -/
def notSwitching (d : Dev) (p : Fin 32) : Bool := !(d.loops[p]).switching

/-- What the port core does on a retirement (04 R180, 05 R223, R225): capabilities cut to the phases left, or ErrorRecovery. -/
def afterRetire (n : Fin 64) (d : Dev) : Dev :=
  match portOfPhase d n with
  | none => d
  | some p =>
    if (livePhases d p).isEmpty then errorRecovery p 5 d
    else if portMinimal d p then d
    else offerCaps p d

/-- A phase retires and its port follows (05 R223). -/
def retire (n : Fin 64) (why : Nat) (d : Dev) : Dev :=
  if (d.phases[n]).state == .retired then d else afterRetire n (retirePhase n why d)

/-- Cable limits while no e-marker has answered (03 R119, first row). -/
def noCable (p : Fin 32) : Dev → Dev := onPort p fun q => { q with cableV := 20, cableI := 3000 }

/-- A source attach (03 R109 to R112, 04 R151, R153): orientation, VCONN, first hand, fence and soft start; then the division of the hands. -/
def attachSource (p : Fin 32) (d : Dev) : Dev :=
  let pin := pinRd d p true
  let d1 := stopTimers (tcTimers p) d
  let d2 := onPort p (fun q => { q with tc := .attachedSrc, orient := pin, source := true, dfp := true, capsSent := 0 }) d1
  let d3 := onlyIf (wantsVconn d2 p) (vconnOnPin p) (noCable p d2)
  let d4 := restartFence p 5000 (onPd p (fun x => { x with leaving := false, discoverTries := 0, lastCapsTb := 0 }) d3)
  divide (journalContract p (portEvent p 0 (startPort p (firstHand p d4))))

/-- Attach of a debug accessory as source (03 R128): 5 V, no PD, no VCONN. -/
def attachDebugSource (p : Fin 32) (d : Dev) : Dev :=
  let d1 := onPort p (fun q => { q with tc := .debugSrc, source := true, dfp := false, servicePresent := true }) (stopTimers (tcTimers p) d)
  let d2 := restartFence p 5000 (firstHand p (noCable p d1))
  let d3 := portEvent p 0 (startPort p d2)
  divide (journalEvent 11 (0x8000 + 0x400 * p.val) (tcStat d3 p) p.val d3)

/-- Attach as sink (03 R107, R109): the fence only watches (04 R164), and the cable limits are those without an answer (03 R119). -/
def attachSink (p : Fin 32) (d : Dev) : Dev :=
  let pin := pinRp d p true
  let d1 := onPort p (fun q => { q with tc := .attachedSnk, orient := pin, source := false, dfp := false }) (presentRd p (stopTimers (tcTimers p) d))
  journalContract p (portEvent p 0 (noCable p (resetFence p 5000 d1)))

/-- Attach of a debug accessory as sink (03 R128). -/
def attachDebugSink (p : Fin 32) (d : Dev) : Dev :=
  let d1 := onPort p (fun q => { q with tc := .debugSnk, source := false, dfp := false, servicePresent := true }) (stopTimers (tcTimers p) d)
  let d2 := portEvent p 0 d1
  journalEvent 11 (0x8000 + 0x400 * p.val) (tcStat d2 p) p.val d2

/-! ### Minimal mode -/

/-- The output of a port in minimal mode stands at 5 V (03 R124): VCONN opens, and the fence is to fall to FENCE(5 V). -/
def minimalAtFive (p : Fin 32) (d : Dev) : Dev := setFence p 5000 (vconnOff p d)

/-- One port as its edge die enters minimal mode (03 R123, R124): every port with a PORT section presents Rp 1.5 A, but one with a
PORT_START_FAIL latch or in the course of a disable (log entry 36); without a minimal record the legs stay at mid and the guard open
(05 R226). -/
def portEnterMinimal (p : Fin 32) (d : Dev) : Dev :=
  let q := d.ports[p]
  if !hasPort d p then d
  else
    let d0 := onPort p (fun q => { q with minimal := true }) d
    if (d.pd[p]).disabling || q.startFail then d0
    else
      let keep := isSrcAttached q.tc && !(d.pd[p]).leaving && (d.guards[p]).state != .latched
      let d1 := stopTimers (tcTimers p) (endContract p (pdAbandon p (onlyIf (isAttached q && !keep && !(d.pd[p]).leaving) (portEvent p 1) d0)))
      let d2 := stopTimer (.pendingHandEffective p) (onPort p (fun q => { q with
        tc := .minimal, minAtt := keep, source := keep, dfp := keep, hand := 0, pend := none, servicePresent := false }) d1)
      let d3 := present p .a15 false (onPd p (fun x => { x with leaving := false }) d2)
      if !keep then vconnOff p (stopPort p 5 d3)
      else if (d.sys.dieRec[edgeOf p]).isNone then vconnOff p (stopPort p 5 d3)
      else if (d.loops[p]).hiccup then vconnOff p d3
      else if refNow d (d.loops[p]) = refCode 5000 then minimalAtFive p d3
      else startRamp p (refCode 5000) (diePort d p).slewDn .minimal d3

/-- Phases of an edge die. -/
def diePhases (e : Fin 4) : List (Fin 64) := (indices 64).filter fun n => edgeOfPhase n == e

/-- An edge die enters minimal mode (01 R23, 03 R123, R124): it runs under its minimal record (05 R226). -/
def dieEnterMinimal (e : Fin 4) (d : Dev) : Dev :=
  if d.sys.edgeMin[e] then d
  else
    let d1 := onSys (fun s => { s with
      edgeMin := s.edgeMin.set e true, held := s.held.set (linkOf e) (s.dieRec[e] <|> s.held[linkOf e]) }) d
    let d2 := forEach (diePhases e) (fun n => onPhase n fun f => { f with minimal := f.state != .unused }) d1
    forEach (diePorts e) portEnterMinimal d2

/-- The port core starts an attached port afresh at 5 V (11 R454): hand, Rp, VCONN and discovery. -/
def handBackAttached (p : Fin 32) (d : Dev) : Dev :=
  let pin := pinRd d p true
  let d1 := onPort p (fun q => { q with tc := .attachedSrc, minAtt := false, orient := pin, source := true, dfp := true, capsSent := 0 }) d
  let d2 := resetFence p 5000 (presentRp p (firstHand p (noCable p d1)))
  let d3 := onPd p (fun x => { x with discoverTries := 0 }) d2
  if wantsVconn d3 p then vconnOnPin p d3 else firstOffer p d3

/-- One port handed back at the exit from minimal mode (11 R454); a SHADOW presents nothing (09 R369). -/
def portExitMinimal (p : Fin 32) (d : Dev) : Dev :=
  let q := d.ports[p]
  let d1 := onPort p (fun q => { q with minimal := false }) d
  if isShadow d then
    onPort p (fun q => { q with
      tc := if !hasPort d p || !q.enabled then .disabled else if rolesOf d p = 1 then .unattachedSnk else .unattachedSrc
      minAtt := false, source := false, dfp := false, rp := .none, rd := false }) d1
  else if !hasPort d p then presentOpen p (setTc p .disabled (onlyIf q.minAtt (stopPort p 5) (onPort p (fun q => { q with minAtt := false, source := false, dfp := false }) d1)))
  else if (d.pd[p]).disabling then d1
  else if q.tc != .minimal then
    if q.tc == .disabled && q.enabled && !q.startFail then toUnattached p d1 else d1
  else if q.startFail || (!q.enabled && !q.minAtt) then presentOpen p (setTc p .disabled d1)
  else if q.minAtt then handBackAttached p d1
  else toUnattached p d1

/-- An edge die leaves minimal mode (11 R454) for the parameters of the hub; the ports come back in port order. -/
def dieExitMinimal (e : Fin 4) (d : Dev) : Dev :=
  if !d.sys.edgeMin[e] then d
  else
    let d1 := onSys (fun s => { s with edgeMin := s.edgeMin.set e false, held := s.held.set (linkOf e) none }) d
    let d2 := forEach (diePhases e) (fun n => onPhase n fun f => { f with minimal := false }) d1
    forEach (diePorts e) portExitMinimal d2

/-! ### Modes -/

/-- BOOT-class record of a mode change, or of a BOOT with the seven identity records (15 R578, R586). -/
def bootRecord (d : Dev) (new old : Nat) (ids : Bool) : List Byte :=
  toLe 1 new ++ toLe 1 old ++ toLe 1 d.sys.wake ++ toLe 1 d.coll.resetWhy ++ toLe 4 d.sys.ret.bootCount ++ toLe 6 d.sys.aon ++ toLe 2 0
    ++ (if ids then (indices 7).flatMap fun i => bytesAt (idBytes d.sys.ids[i]) 0 20 else [])

/-- The device changes its mode (15 R562, R586); a change into RECOVERY writes no record. -/
def setMode (m : Mode) (d : Dev) : Dev :=
  if d.sys.mode = m then d
  else journal 0 (bootRecord d (modeCode m) (modeCode d.sys.mode) false) (onSys (fun s => { s with mode := m, prev := d.sys.mode }) d)

/-- The minimal record in the calibration partition follows the configuration once every unretired phase has passed its census (05 R226,
15 R571), and each edge die whose link is up is loaded with it. -/
def keepRecord (d : Dev) : Dev :=
  let l := (indices 64).filter fun n => (d.cfg.phases[n]).isSome && (d.phases[n]).state != .retired
  let r := dieParams d.cfg
  onlyIf (!l.isEmpty && l.all fun n => (d.phases[n]).census == 1) (onSys fun s => { s with
    minRecord := s.minRecord.put minRecBytes r, dieRec := Vector.ofFn fun e => if s.edgeUp[linkOf e] then some r else s.dieRec[e] }) d

/-- No census runs, and none that may run is due. -/
def censusIdle (d : Dev) : Bool := !(indices 64).any fun n => (d.phases[n]).state == .census || ((d.phases[n]).due && censusMay d n)

/-- The interval timers at the release (10 R412): run flag and hold flag of their records. -/
def releaseTimers (d : Dev) : Dev :=
  { d with itms := updAll d.itms fun t x => match d.cfg.itms[t] with
      | some c =>
        if !c.flags.getLsbD 0 then { x with state := .stopped } else if c.flags.getLsbD 3 then { x with state := .held } else { x with state := .running, load := true }
      | none => { x with state := .stopped } }

/-- Step 9 of BOOT (15 R568 to R570): the edge dies leave minimal mode, the hold clears, the device is in SERVICE. -/
def bootRelease (d : Dev) : Dev :=
  let d1 := onSys (fun s => { s with attachHold := false, bootStep := 15, ret := { s.ret with failedBoots := 0 } }) d
  keepRecord (forEach (indices 4) dieExitMinimal (stopTimer .bootTimeout (releaseTimers (setMode .service d1))))

/-- The device leaves STANDBY for SERVICE (15 R564, R565): feeds whose enable is 1 insert; no census runs. -/
def leaveStandby (d : Dev) : Dev :=
  if d.sys.mode == .standby && !d.sys.deadcar then forEach (indices 4) feedTryDelay (setMode .service d) else d

/-- The device enters MINIMAL (11 R451); as a twin ACTIVE its heartbeat stops for causes 1, 2 and 4. -/
def enterMinimal (cause : Nat) (d : Dev) : Dev :=
  if d.sys.mode == .minimal then d
  else
    let d1 := forEach (indices 4) dieEnterMinimal d
    let d2 := collEvent 5 (onColl (fun c => { c with minimal := true, minCause := cause }) (setMode .minimal d1))
    onlyIf (d.twin.role == 1 && cause != 3) (onTwin fun t => { t with heartbeatStopped := true }) d2

/-- A port counts as the reset of the hub leaves it: its edge die holds it in minimal mode (11 R436). -/
def portAfterReset (q : Port) : Port :=
  { tc := if q.tc == .disabled then .disabled else .minimal, minAtt := q.tc == .minimal && q.minAtt, source := q.tc == .minimal && q.minAtt
    dfp := q.tc == .minimal && q.minAtt, rp := q.rp, rd := q.rd, startFail := q.startFail, minimal := true, fence := q.fence
    fencePend := q.fencePend, fenceReg := q.fence, capWatts := q.capWatts, capMa := q.capMa }

/-- Timers that run on the edge dies and the feed die. -/
def dieTimer (i : Instr) : Bool :=
  match i with
  | .guardFaultTimerExpiry _ | .hiccupOffTimeExpiry _ | .hiccupAgeOut _ | .insDelayExpiry _ | .insTimeoutExpiry _ | .feedFaultTimerExpiry _
  | .minimalAttachDebounce _ | .minimalDetachDebounce _ | .terrorrecoveryExpiry _ | .channelHoldEnd _ _ _ => true
  | _ => false

/-- A fault timer seen from a time base that restarts at 0. -/
def rebase (d : Dev) (t : FaultTimer) : FaultTimer := { t with count := faultCount d t, since := 0 }

/-- The firmware slots, keys and floors of the store survive; sessions and activations do not (14 R537, 15 R559). A slot whose trial has
begun stays marked TRIAL for BOOT to reject (14 R551). -/
def updAfterReset (u : Update) : Update :=
  { slots := if u.trial.isSome then upd u.slots u.trialSlot fun x => { x with state := .trial } else u.slots, floors := u.floors, keyRevoked := u.keyRevoked, uzKeys := u.uzKeys }

/-- The image slots, keys and floors of the store survive; staging and checks do not (02 R96). -/
def storeAfterReset (s : CfgStore) : CfgStore :=
  { slots := s.slots.map fun x => if x.state == .writing then { x with state := .invalid } else x, activeSlot := s.activeSlot, keys := s.keys
    floors := s.floors }

/-- The hub die resets (11 R436 DEVICE_RESET, 15 R562): its registers and queues take their reset values, TB restarts at 0, the stores
keep their contents; the edge dies run on in minimal mode (log entry 47) and the feed die holds its limits. -/
def hubReset (why src wake : Nat) (d0 : Dev) : Dev :=
  let d := forEach (indices 4) dieEnterMinimal d0
  { d with
    ports := d.ports.map portAfterReset
    pd := Vector.replicate 32 {}
    guards := d.guards.map fun g => { g with timer := rebase d g.timer, event := 0, irqen := 0 }
    loops := d.loops.map fun l => { l with ref := refNow d l, refTb := 0 }
    phases := d.phases.map fun f => { f with event := 0, irqen := 0, fault := 0, limited := 0, truncs := 0, hiccups := 0 }
    chans := d.chans.map fun x => { x with event := 0, irqen := 0, holdEnd := x.holdEnd - d.tmr.tb }
    convs := d.convs.map fun c => { c with event := 0, irqen := 0 }
    feeds := d.feeds.map fun f => { f with timer := rebase d f.timer, hubLost := true, event := 0, irqen := 0, fault := 0 }
    posts := Vector.replicate 3 {}
    ledger := { roll := d.ledger.roll, rollDigest := d.ledger.rollDigest, orders := d.ledger.orders.filter fun o => o.whole && !o.applied }
    twin := { prole := d.twin.prole, partnerHb := d.twin.partnerHb, slot := d.twin.slot }
    tmr := {}
    alarms := Vector.replicate 32 {}
    itms := Vector.replicate 16 {}
    sources := Vector.ofFn srcReset
    coll := { resetWhy := why, resetSrc := src }
    host := {}
    net := {}
    upd := updAfterReset d.upd
    store := storeAfterReset d.store
    jrn := { written := d.jrn.written, pos := d.jrn.pos, sqno := d.jrn.sqno, wstart := d.jrn.wstart }
    loss := {}
    ringMem := []
    parcel := []
    timers := (d.timers.filter fun t => dieTimer t.2).map fun t => (t.1 - d.tmr.tb, t.2)
    sys := { d.sys with
      mode := .boot, prev := .boot, former := d.sys.mode, deadcar := false, bootStep := 1, wake := wake, attachHold := true, unheld := Vector.replicate 4 false
      edgeUp := Vector.replicate 5 false, retraining := Vector.replicate 5 false
      monCtl := 0x14, bootDue := none
      held := d.sys.held.set elf (d.sys.held[elf] <|> some (dieParams d.cfg)) } }

end Sys2Proof.Machine
end

