-- ==== Sys2Proof/Machine/Faults.lean ====
section
/-! DEFINITION. The fault collector (11): raise, latch, escalation, grace, actions, reports, clear. -/

namespace Sys2Proof.Machine

/-- Report kinds (11 R447). -/
inductive Report where
  | raised | recurred | action | cleared | escalated | relaxed
  deriving DecidableEq, Repr

/-- The number of a report kind (11 R447). -/
def reportCode : Report → Nat
  | .raised => 1 | .recurred => 2 | .action => 3 | .cleared => 4 | .escalated => 5 | .relaxed => 6

/-- A source is of type L (11 R431, R432). -/
def srcLevel (n : Fin 768) : Bool := (srcRow n.val).any (·.level)

/-- A source is protective. -/
def srcProtective (n : Fin 768) : Bool := (srcRow n.val).any (·.protective)

/-- Remaining grace of a source in us (11 R447). -/
def graceUs (d : Dev) (n : Fin 768) : Nat :=
  match d.coll.graces.find? fun g => g.1 == n with
  | some g => (g.2 - d.tmr.tb) / 50
  | none => 0

/-- Snapshot of a port (11 R448). -/
def snapPort (d : Dev) (p : Fin 32) : List Byte :=
  let q := d.ports[p]
  toLe 2 (d.chans[vbusCh p]).result.toNat ++ toLe 2 (d.chans[iportCh p]).result.toNat ++ toLe 2 (q.fence / 10) ++ toLe 1 (tcCode q.tc)
    ++ toLe 1 (kindCode q.kind) ++ toLe 4 q.rdo.toNat ++ toLe 2 q.hand ++ toLe 1 (bits (guardStat (d.guards[p])) 0 8) ++ toLe 1 (d.pd[p]).hrTx

/-- Bus voltage in 10 mV: the reading of the first of the bus's feeds with power-good (06 R232). -/
def busVolt (d : Dev) (busB : Bool) : Nat :=
  let f : Fin 4 := if busB then (if (d.feeds[2]).pg then 2 else 3) else (if (d.feeds[0]).pg then 0 else 1)
  (d.chans[feedCh f 0]).result.toNat

/-- Snapshot of a phase (11 R448). -/
def snapPhase (d : Dev) (n : Fin 64) : List Byte :=
  let f := d.phases[n]
  match portOfPhase d n with
  | none => []
  | some p =>
    let l := d.loops[p]
    toLe 1 p.val ++ toLe 1 (regionCode l.region) ++ toLe 2 f.imonPeak ++ toLe 2 (twos 16 f.imonAvg) ++ toLe 2 (d.chans[iportCh p]).result.toNat
      ++ toLe 2 (busVolt d ((d.cfg.phases[n]).getD {}).busB) ++ toLe 2 l.lc ++ toLe 1 l.hc ++ toLe 1 (bits (phaseStat d n) 0 8)

/-- Snapshot of a feed (11 R448). -/
def snapFeed (d : Dev) (f : Fin 4) : List Byte :=
  let x := d.feeds[f]
  let t := if (feedCfg d f).tsrc = 1 then twos 16 x.temp else (d.chans[feedCh f 2]).result.toNat
  toLe 2 (Config.feedVin d.freeCtr f) ++ toLe 2 (Config.feedVds d.freeCtr f) ++ toLe 2 (d.chans[feedCh f 1]).result.toNat ++ toLe 2 t ++ toLe 1 (feedCode x.state)
    ++ toLe 1 x.latchWhy ++ toLe 1 x.trips

/-- Snapshot of a system source (11 R448): its index, a detail code, a measured value and a limit. -/
def snapSystem (index detail value limit : Nat) : List Byte := toLe 1 index ++ toLe 1 detail ++ toLe 2 0 ++ toLe 4 value ++ toLe 4 limit

/-- Index a system source names: die, link, core (11 R448). -/
def srcIndex (n : Nat) : Nat :=
  if n ≤ 0x223 then n - 0x220
  else if 0x228 ≤ n ∧ n ≤ 0x22A then n - 0x228
  else if 0x231 ≤ n ∧ n ≤ 0x234 then n - 0x231
  else if 0x235 ≤ n ∧ n ≤ 0x238 then n - 0x235
  else if 0x23A ≤ n ∧ n ≤ 0x23D then n - 0x23A
  else if 0x241 ≤ n ∧ n ≤ 0x246 then n - 0x241
  else if 0x247 ≤ n ∧ n ≤ 0x24C then n - 0x247
  else if 0x24D ≤ n ∧ n ≤ 0x252 then n - 0x24D
  else if 0x259 ≤ n ∧ n ≤ 0x25C then n - 0x259
  else 0

/-- Limit of a temperature source in 0.125 degrees (11 R433, R448). -/
def tempLimit (d : Dev) (n : Nat) : Nat :=
  if 0x241 ≤ n ∧ n ≤ 0x246 then 8 * d.cfg.device.twarn
  else if 0x247 ≤ n ∧ n ≤ 0x24C then 8 * d.cfg.device.tact
  else if 0x24D ≤ n ∧ n ≤ 0x252 then 1120
  else 0

/-- Reading of the die of a temperature source (log entry 5). -/
def tempValue (d : Dev) (n : Nat) : Nat :=
  if 0x241 ≤ n ∧ n ≤ 0x252 then twos 32 (Config.dieTemp d.freeCtr (Fin.ofNat 6 ((n - 0x241) % 6))) else 0

/-- Snapshot of a source (11 R448); `index` is the port of a PORT_START_FAIL, the class of a JOURNAL_SHED
or the detail code of a HEALTH_TIMEOUT. -/
def snapshot (d : Dev) (n : Fin 768) (index : Nat) : List Byte :=
  match srcGroup n with
  | .port p => snapPort d p
  | .phase i => snapPhase d i
  | .feed f => snapFeed d f
  | .system => snapSystem (if n.val == 0x254 || n.val == 0x25D then index else srcIndex n.val) (if n.val == 0x253 then index else 0) (tempValue d n.val) (tempLimit d n.val)

/-- The device or the die of a source is in minimal mode (11 R447). -/
def srcMinimal (d : Dev) (n : Fin 768) : Bool :=
  match srcGroup n with
  | .port p => portMinimal d p
  | .phase i => dieMinimal d (edgeOfPhase i)
  | _ => d.sys.mode == .minimal

/-- A coded message as a ring entry (11 R447). -/
def msgBytes (m : FaultMsg) (gap : Bool) : List Byte :=
  bytesAt (toLe 4 (putBit m.word0 27 gap).toNat ++ toLe 4 m.status.toNat ++ toLe 8 m.stamp ++ toLe 1 m.action ++ toLe 1 m.cfgSev
    ++ toLe 1 m.count ++ toLe 1 m.master ++ toLe 4 m.graceLeft ++ bytesAt m.snapshot 0 40) 0 64

/-- The effective severity a message carries. -/
def msgSev (m : FaultMsg) : Nat := bits m.word0 20 2

/-- A message joins the backlog (11 R449): a full backlog gives up its oldest message of lower severity, else the new one is dropped. -/
def backlogPut (m : FaultMsg) (d : Dev) : Dev :=
  let b := d.coll.backlog
  if b.length < 64 then onColl (fun c => { c with backlog := b ++ [m] }) d
  else
    let b' := match (b.zipIdx).find? fun x => decide (msgSev x.1 < msgSev m) with
      | some x => b.eraseIdx x.2 ++ [m]
      | none => b
    collEvent 4 (onColl (fun c => { c with backlog := b', lost := sat 0xFFFF (c.lost + 1), gap := true }) d)

/-- Held messages go into the fault-message ring while it has room (11 R449). -/
def backlogDrain : Nat → Dev → Dev
  | 0, d => d
  | k + 1, d =>
    match d.coll.backlog, (ringsOfKind d 2).head? with
    | m :: rest, some r =>
      match d.cfg.host.rings[r] with
      | some c =>
        if ringRoom d r then
          backlogDrain k (onColl (fun x => { x with backlog := rest, gap := false }) (ringPut r c (msgBytes m d.coll.gap) d))
        else d
      | none => d
    | _, _ => d

/-- A coded message leaves for the fault-message ring (11 R449). -/
def sendMsg (m : FaultMsg) (d : Dev) : Dev := backlogDrain 64 (backlogPut m d)

/-- The bit of a source in its block's FAULT register (11 R440, R446). -/
def faultBit (n : Fin 768) (b : Bool) (d : Dev) : Dev :=
  match srcGroup n with
  | .port p => onPd p (fun x => { x with fault := putBit x.fault (n.val % 8) b }) d
  | .phase i => onPhase i (fun x => { x with fault := putBit x.fault (n.val % 4) b }) d
  | .feed f => onFeed f (fun x => { x with fault := putBit x.fault (n.val % 8) b }) d
  | .system =>
    let k := n.val - 0x220
    let d1 := onColl (fun c => { c with sys := upd c.sys (Fin.ofNat 7 (k / 32)) fun w => putBit w (k % 32) b }) d
    onlyIf (b && decide (k / 32 < 7)) (collEvent 8) d1

/-- The group of a source reports by coded messages (11 R444, R446). -/
def codedOn (d : Dev) (n : Fin 768) : Bool := d.coll.codedOn && d.cfg.device.coded.getLsbD (codedGroup n)

/-- The coded message of a report (11 R447, R448). `index` is the port or class of a raise; any other report holds those of the raise that set
the latch, and its snapshot. -/
def msgOf (n : Fin 768) (k : Report) (subsumed grace : Bool) (stamp master index : Nat) (d : Dev) : FaultMsg :=
  let s := d.sources[n]
  let now := k == .raised || k == .recurred
  let ix := if now then index else s.index
  { word0 := pack [(0, 12, n.val), (12, 8, reportCode k), (20, 2, s.eff), (22, 1, b2n s.forced), (23, 1, b2n (decide (s.sev < s.eff))),
      (24, 1, b2n (isShadow d)), (25, 1, b2n (srcMinimal d n)), (26, 1, b2n subsumed), (28, 1, b2n grace)]
    status := w32 (srcStatus n ix), stamp := stamp, action := s.action, cfgSev := s.sev, count := s.count, master := master
    graceLeft := graceUs d n, snapshot := if now then snapshot d n ix else s.snap }

/-- One report of a source (11 R446, R447): journalled, and written as a coded message or, for a latch set or cleared, as a bit of the
block's FAULT register. -/
def report (n : Fin 768) (k : Report) (subsumed grace : Bool) (stamp master index : Nat) (d : Dev) : Dev :=
  let m := msgOf n k subsumed grace stamp master index d
  let d1 := journal 1 (msgBytes m false) d
  if codedOn d n then sendMsg m d1
  else match k with
    | .raised | .recurred => faultBit n true d1
    | .cleared => faultBit n false d1
    | _ => d1

/-- The highest action code in effect on a port (11 R437). -/
def portInEffect (d : Dev) (p : Fin 32) : Nat :=
  if (d.pd[p]).disabling || ((d.ports[p]).tc == .disabled && !(d.ports[p]).enabled) then 4
  else if (d.loops[p]).hiccup then 4
  else if (d.ports[p]).tc == .errorRecovery then 2
  else 0

/-- The highest action code in effect where a source acts (11 R437); 0 for none. -/
def inEffect (d : Dev) (n : Fin 768) (index : Nat) : Nat :=
  let wide := if d.sys.mode == .boot && d.coll.resetWhy == 2 then 8 else if d.sys.mode == .minimal && d.coll.minCause == 1 then 7 else 0
  let here := match srcGroup n with
    | .port p => portInEffect d p
    | .phase i => max (if (d.phases[i]).state == .retired && (d.phases[i]).why == 4 then 1 else 0)
        (match portOfPhase d i with | some p => portInEffect d p | none => 0)
    | .feed f => if (d.feeds[f]).state == .latched && (d.feeds[f]).latchWhy == 6 then 5 else 0
    | .system => if n.val == 0x254 then portInEffect d (Fin.ofNat 32 index) else 0
  max wide here

/-- The port an action of a source acts on. -/
def actionPort (d : Dev) (n : Fin 768) (index : Nat) : Option (Fin 32) :=
  match srcGroup n with
  | .port p => some p
  | .phase i => portOfPhase d i
  | .feed _ => none
  | .system => if n.val == 0x254 then some (Fin.ofNat 32 index) else none

/-- A system source's RESET_BLOCK names a block on the hub (11 R432, R438). -/
def hubBlock (n : Fin 768) : Bool :=
  match srcGroup n with
  | .system => !(0x235 ≤ n.val && n.val ≤ 0x238) && !(0x23A ≤ n.val && n.val ≤ 0x23E)
  | _ => false

/-- An action of a source is SUBSUMED (11 R436, R437, R438). -/
def subsumed (d : Dev) (n : Fin 768) (index : Nat) : Bool :=
  let a := (d.sources[n]).action
  decide (a ≤ inEffect d n index)
    || (a == 4 && (actionPort d n index).all (notSwitching d))
    || (isShadow d && a != 8 && !(a == 6 && hubBlock n))

/-- The port, or the port of the phase, that owns a channel (02 R91). -/
def chanOwner (d : Dev) (ch : Fin 204) : Option (Fin 32) :=
  match chanRole ch with
  | .cc1 p => some p
  | .cc2 p => some p
  | .vbus p => some p
  | .iport p => some p
  | .phase n => portOfPhase d n
  | _ => none

/-- The channel of a MONITOR section (02 R60). -/
def monitorChan (inst : Nat) : Fin 204 := if inst < 192 then Fin.ofNat 204 inst else Fin.ofNat 204 (inst - 64)

/-- A section of an amendment changes a port, its loop, one of its phases or one of its channels (02 R92): a PHASE_MAP section through its
new entries and through those it leaves out. -/
def sectHitsPort (d : Dev) (p : Fin 32) (s : Sect) : Bool :=
  match s.typ with
  | 0x20 | 0x22 => s.inst == p.val
  | 0x21 => (indices 64).any fun n =>
      let new := (s.recs.find? fun r => r.get 0 1 == n.val).map phaseOfRec
      new != d.cfg.phases[n] && (new.any (fun x => x.port == p) || (d.cfg.phases[n]).any fun x => x.port == p)
  | 0x40 => decide (s.inst < 192) && chanOwner d (monitorChan s.inst) == some p
  | _ => false

/-- A section changes a feed or one of its channels, or an edge die: one of its ports, or its scan plan (02 R92). -/
def sectHitsFeed (f : Fin 4) (s : Sect) : Bool :=
  (s.typ == 0x10 && s.inst == f.val) || (s.typ == 0x40 && decide (256 ≤ s.inst) && decide (s.inst ≤ 267) && (s.inst - 256) / 3 == f.val)
def sectHitsDie (d : Dev) (e : Nat) (s : Sect) : Bool :=
  ((indices 32).any fun p => (edgeOf p).val == e && sectHitsPort d p s) || (s.typ == 0x40 && s.inst == 512 + e)

/-- The staged amendment of an accepted AMEND_APPLY has a section that a predicate picks (02 R92). -/
def amendHits (d : Dev) (j : Job) (f : Sect → Bool) : Bool :=
  j.opcode == 0x0203 && (walkBody (Memory.readBytes d.store.stage 0 (min d.store.stageLen 262144))).sects.any f

/-- Commands that an action of RESET_BLOCK or above discards (11 R450; 02 R92 for an amendment). -/
def discardFor (d : Dev) (n : Fin 768) (a : Nat) (j : Job) : Bool :=
  let port (p : Fin 32) : Bool := j.port == some p || amendHits d j (sectHitsPort d p)
  let die (e : Nat) : Bool := (j.port.any fun p => (edgeOf p).val == e) || amendHits d j (sectHitsDie d e)
  if a = 8 then true
  else if a = 7 then j.opcode / 256 == 1 || j.opcode == 0x0203
  else match srcGroup n with
    | .port p => port p
    | .phase i => (portOfPhase d i).any port
    | .feed f => amendHits d j (sectHitsFeed f)
    | .system =>
      if n.val ≤ 0x223 then die (n.val - 0x220)
      else if n.val = 0x224 then amendHits d j fun s => (indices 4).any fun f => sectHitsFeed f s
      else if n.val ≤ 0x227 then j.opcode / 256 == 2 || j.opcode / 256 == 5
      else if n.val ≤ 0x22A || n.val == 0x22C then j.opcode / 256 == 3
      else if n.val == 0x230 then j.opcode / 256 != 1
      else if 0x231 ≤ n.val ∧ n.val ≤ 0x234 then die (n.val - 0x231) || (j.opcode == 0x0503 && j.arg == n.val - 0x230)
      else if 0x235 ≤ n.val ∧ n.val ≤ 0x238 then die (n.val - 0x235)
      else if 0x23A ≤ n.val ∧ n.val ≤ 0x23D then die (n.val - 0x23A)
      else if n.val = 0x23E then amendHits d j fun s => (indices 4).any fun f => sectHitsFeed f s
      else false

/-- A post link goes DOWN; leaving UP it starts its hold-off (08 R313, R314). -/
def postDown (l : Fin 3) (d : Dev) : Dev :=
  let x := d.posts[l]
  let d1 := stopTimers [.postFrameTimeout l, .postTrainTimeout l, .helloTimer l] d
  if x.state == .up then
    startTimer (.postHoldoffEnd l) (ticksOfMs 20)
      (onPost l (fun x => { x with state := .down, lock := false, holdoff := true, hellos := 0, event := setBit x.event 1 }) d1)
  else onPost l (fun x => { x with state := .down, lock := false, hellos := 0 }) d1

/-- The mirror link goes DOWN; leaving UP counts as a mirror loss (09 R375, R401, R402). -/
def mirrorDown (d : Dev) : Dev :=
  let up := d.twin.link == .up
  let d1 := stopTimers [.mirrorFrameTimeout, .mhelloTimer, .msyncTimer] (onTmr (fun t => { t with shadowSync := false }) d)
  onTwin (fun t => { t with
    link := .down, lock0 := false, lock1 := false, tbLock := false, mhellos := 0, crcErrs := []
    losses := if up then inc8 t.losses else t.losses, event := if up then setBit t.event 6 else t.event }) d1

/-- MIRROR_LOSS (11 R432). -/
def srcMirror : Fin 768 := srcOf 0x22B

/-- The registers of a die's guards and the EVENT bits that the hub has of it stand as its link is lost (01 R631, 07 R309). -/
def freezeEvents (l : Fin 5) (d : Dev) : Dev :=
  { d with
    loss := { d.loss with
      guards := updAll d.loss.guards fun p g => if linkOf (edgeOf p) = l then d.guards[p] else g
      feeds := updAll d.loss.feeds fun f x => if elf = l then d.feeds[f] else x
      freeCtr := d.loss.freeCtr.set l d.freeCtr }
    guards := updAll d.guards fun p g => if linkOf (edgeOf p) = l then { g with evSeen := g.event } else g
    phases := updAll d.phases fun n f => if linkOf (edgeOfPhase n) = l then { f with evSeen := f.event } else f
    chans := updAll d.chans fun c x => if dieOf c = l then { x with evSeen := x.event } else x
    feeds := updAll d.feeds fun _ x => if elf = l then { x with evSeen := x.event, enHeld := x.en && x.fen, hubLost := true } else x }

/-- What follows 2 ms without a valid frame: the edge die's own minimal mode, or the feed die's hold (01 R23, R24). -/
def lossTimer (l : Fin 5) : Instr := if h : l.val < 4 then .edgeDieMinimalTimeout ⟨l.val, h⟩ else .feedLinkHold

/-- The edge link of a die is lost and retrains (01 R22); the die keeps the parameters it has (01 R24, R29), the feed die also its enables
(07 R292). `left` ticks remain of the 2 ms without a valid frame (01 R23). -/
def linkRetrain (l : Fin 5) (left : Nat) (d : Dev) : Dev :=
  if !d.sys.edgeUp[l] then d
  else
    let d1 := onSys (fun s => { s with
      edgeUp := s.edgeUp.set l false, retraining := s.retraining.set l true, held := s.held.set l (s.held[l] <|> some (dieParams d.cfg)) }) (freezeEvents l d)
    startTimer (lossTimer l) left d1

/-- Every edge die is in minimal mode: so is the device (01 R34, 11 R451 cause 2; log entry 48). -/
def minimalIfAll (d : Dev) : Dev :=
  if d.sys.mode == .service && (indices 4).all (fun e => d.sys.edgeMin[e]) then
    forEach (indices 4) (fun e => onSource (srcOf (0x259 + e.val)) fun s => { s with cond := false }) (enterMinimal 2 d)
  else d

/-- EDGE_MINIMALe (11 R432). -/
def srcEdgeMinimal (e : Fin 4) : Fin 768 := srcOf (0x259 + e.val)

/-- A post link goes DOWN by an action (08 R313, R314); leaving UP is itself a raise of POST_DOWN. -/
def postReset (again : Fin 768 → Dev → Dev) (l : Fin 3) (d : Dev) : Dev :=
  let d1 := postDown l d
  if (d.posts[l]).state == .up then again (srcOf (0x228 + l.val)) (onPost l (fun p => { p with foreign := false, crcErrs := [] }) d1) else d1

/-- A port core starts again from the ACTIVE port-firmware slot (11 R432); a pause of it ends (14 R551). -/
def coreReset (k : Fin 4) (d : Dev) : Dev :=
  let s := if (d.upd.slots[3]).state == .active then true else if (d.upd.slots[2]).state == .active then false else d.upd.coreSlots[k]
  let d1 := onUpd (fun u => { u with coreRun := u.coreRun ||| BitVec.ofNat 4 (2 ^ k.val), coreSlots := u.coreSlots.set k s }) d
  match d.upd.paused with
  | some (.core j _) => if j = k then onUpd (fun u => { u with paused := none }) (stopTimer (.activationDone false) d1) else d1
  | _ => d1

/-- The block a RESET_BLOCK of a system source resets (11 R432); `again` raises a source that follows from it. -/
def resetSystem (again : Fin 768 → Dev → Dev) (n : Nat) (d : Dev) : Dev :=
  if n ≤ 0x223 then linkRetrain (Fin.ofNat 5 (n - 0x220)) (ticksOfMs 2) d
  else if n = 0x224 then linkRetrain elf (ticksOfMs 2) d
  else if n ≤ 0x227 then onJrn (fun j => { j with busy := false }) d
  else if n ≤ 0x22A then postReset again (Fin.ofNat 3 (n - 0x228)) d
  else if n = 0x22B then (if d.twin.link == .up then again srcMirror (mirrorDown d) else mirrorDown d)
  else if n = 0x22C then onLedger (fun l => { l with offs := 0, onOffs := 0, syncsMissed := 0 }) d
  else if n = 0x230 then onUpd (fun u => { u with svRun := true }) d
  else if 0x231 ≤ n ∧ n ≤ 0x234 then coreReset (Fin.ofNat 4 (n - 0x231)) d
  else if (0x235 ≤ n ∧ n ≤ 0x238) ∨ (0x23A ≤ n ∧ n ≤ 0x23D) then
    let e : Fin 4 := if n ≤ 0x238 then Fin.ofNat 4 (n - 0x235) else Fin.ofNat 4 (n - 0x23A)
    let d1 := startTimer (.minimalAutoExit e) (ticksOfMs 100) (dieEnterMinimal e d)
    minimalIfAll (if d.sys.edgeMin[e] || d.sys.mode == .minimal then d1 else again (srcEdgeMinimal e) d1)
  else d

/-- An action is carried out (11 R436, R450). -/
def carryOut (again : Fin 768 → Dev → Dev) (n : Fin 768) (index : Nat) (d : Dev) : Dev :=
  let a := (d.sources[n]).action
  let d1 := if 6 ≤ a then discardJobs (discardFor d n a) d else d
  match a, actionPort d n index, srcGroup n with
  | 1, _, .phase i => retire i 4 d1
  | 2, some p, _ => errorRecovery p 5 d1
  | 3, some p, _ => startDisable p d1
  | 4, some p, _ => startHiccup p 5 d1
  | 5, _, .feed f =>
    if (d.feeds[f]).state == .latched then d1
    else
      let d2 := latchFeed f 6 d1
      if (d.feeds[f]).pg then again (feedSrc f 6) (onFeed f (fun x => { x with pgLosses := inc8 x.pgLosses }) d2) else d2
  | 6, some p, .port _ => errorRecovery p 5 (pdAbandon p d1)
  | 6, some p, .phase _ => errorRecovery p 5 (onLoop p (fun _ => { hc := (d.loops[p]).hc }) (phasesMid p d1))
  | 6, _, .system => resetSystem again n.val d1
  | 7, _, _ => enterMinimal 1 d1
  | 8, _, _ => hubReset 2 n.val 4 d1
  | _, _, _ => d1

/-- An action falls due (11 R435, R437): it is carried out or recorded SUBSUMED, and reported. -/
def actionDue (again : Fin 768 → Dev → Dev) (n : Fin 768) (index : Nat) (grace : Bool) (d : Dev) : Dev :=
  if (d.sources[n]).action = 0 then d
  else
    let sub := subsumed d n index
    let d1 := report n .action sub grace d.tmr.tb 0xFF index (onSource n (fun s => { s with acted := !sub }) d)
    if sub then d1 else carryOut again n index (collEvent 1 d1)

/-- A grace stops (11 R440, R442). -/
def stopGrace (n : Fin 768) (d : Dev) : Dev :=
  stopTimer (.graceExpiry n) (onColl (fun c => { c with graces := c.graces.filter fun g => g.1 != n }) (onSource n (fun s => { s with graceRun := false }) d))

/-- Raises of a source in the 60 s that end with a raise (11 R442). -/
def recentRaises (s : Source) (stamp : Nat) : List Nat := (s.raises.filter fun t => decide (stamp < t + ticksOfS 60)) ++ [stamp]

/-- The settings an amendment left for the next event of a source (02 R91); a severity raised by escalation stays raised. -/
def takeLater (s : Source) : Source :=
  match s.later with
  | some (sev, action, grace) =>
    { s with sev := sev, action := action, grace := grace, later := none, eff := if s.sev < s.eff then max s.eff sev else sev }
  | none => s

/-- The latch, count and severity a raise leaves (11 R439, R442): the source, and whether its effective severity rose. -/
def raiseSource (d : Dev) (n : Fin 768) (stamp index : Nat) (forced : Option (Fin 5)) : Source × Bool :=
  let s := takeLater d.sources[n]
  let l := recentRaises s stamp
  let up := !srcProtective n && d.coll.escN != 0 && decide (d.coll.escN ≤ l.length) && decide (s.eff < 3)
  ({ s with
      latch := true, cond := s.cond || (srcLevel n && forced.isNone), eff := if up then s.eff + 1 else s.eff, raises := if up then [] else l
      count := inc8 s.count, forced := if s.latch then s.forced else forced.isSome
      index := if s.latch then s.index else index, snap := if s.latch then s.snap else snapshot d n index
      realRaise := (s.latch && s.realRaise) || forced.isNone, acted := s.latch && s.acted }, up)

/-- What follows a latch that was just set, or a rise of severity during a grace (11 R435, R441, R442). -/
def applySeverity (again : Fin 768 → Dev → Dev) (n : Fin 768) (stamp index master : Nat) (act fresh : Bool) (d : Dev) : Dev :=
  let s := d.sources[n]
  if fresh then
    if !act || s.action = 0 then report n .raised false false stamp master index d
    else if s.eff = 3 then actionDue again n index false (report n .raised false false stamp master index d)
    else if s.eff = 2 then
      if d.coll.graces.length < 64 then
        let due := stamp + 50 * s.grace
        let d1 := onColl (fun c => { c with graces := c.graces ++ [(n, due)], graceMost := max c.graceMost (c.graces.length + 1) }) d
        report n .raised false true stamp master index
          (startTimerAt (.graceExpiry n) due (onSource n (fun s => { s with graceRun := true }) d1))
      else
        let d1 := collEvent 7 (onColl (fun c => { c with graceShort := inc8 c.graceShort }) d)
        actionDue again n index true (report n .raised false true stamp master index d1)
    else report n .raised false false stamp master index d
  else if s.eff = 3 && s.graceRun then actionDue again n s.index true (stopGrace n d)
  else d

/-- A raise of a source (11 R439 to R443): latch, count, escalation, report, grace or action. A reserved number raises nothing. -/
def raiseWith (again : Fin 768 → Dev → Dev) (n : Fin 768) (stamp index : Nat) (forced : Option (Fin 5)) (act : Bool) (d : Dev) : Dev :=
  if (srcRow n.val).isNone then d
  else
    let master := (forced.map (·.val)).getD 0xFF
    let was := (d.sources[n]).latch
    let r := raiseSource d n stamp index forced
    let d1 := onColl (fun c => { c with lastSrc := n.val, lastSev := r.1.eff, lastTb := stamp }) { d with sources := d.sources.set n r.1 }
    let d2 := onlyIf r.2 (fun x => report n .escalated false false x.tmr.tb 0xFF index (collEvent 2 x)) d1
    let d3 := onlyIf (decide (r.1.sev < r.1.eff)) (startTimerAt (.severityRelax n) (stamp + ticksOfS 60)) d2
    if was then
      let recent := r.1.lastRecur.any fun t => decide (stamp < t + ticksOfMs 10)
      let d4 := if recent then onColl (fun c => { c with recurSupp := sat 0xFFFF (c.recurSupp + 1) }) d3
        else report n .recurred false false stamp master index (onSource n (fun s => { s with lastRecur := some stamp }) d3)
      applySeverity again n stamp index master act false d4
    else applySeverity again n stamp index master act true (collEvent 0 d3)

/-- A raise that follows from an action of another raise; two deep at most. -/
def raiseInner (n : Fin 768) (d : Dev) : Dev :=
  raiseWith (fun m x => raiseWith (fun _ y => y) m x.tmr.tb 0 none true x) n d.tmr.tb 0 none true d

/-- A SAFE action inside the scope of one die, which that die carries out by itself (01 R31, 11 R452). -/
def dieSafe (n : Fin 768) (d : Dev) : Dev :=
  let s := takeLater d.sources[n]
  if s.eff != 3 || subsumed (onSource n takeLater d) n 0 then d
  else match s.action, actionPort d n 0, srcGroup n with
    | 1, _, .phase i => retire i 4 d
    | 2, some p, _ => stopPort p 5 (vconnOff p d)
    | 3, some p, _ => stopPort p 5 (vconnOff p d)
    | 4, some p, _ => startHiccup p 5 d
    | 5, _, .feed f => if (d.feeds[f]).state == .latched then d else latchFeed f 6 d
    | 6, some p, _ => stopPort p 5 (vconnOff p d)
    | _, _, _ => d

/-- A raise with its stamp: the collector takes it, or, while the link of its die is lost, the die acts and keeps it (01 R31, R631). -/
def raiseStamped (n : Fin 768) (stamp : Nat) (d : Dev) : Dev :=
  match lostLink d n with
  | some l => dieSafe n (lossPut l (.report (.faultRaise n stamp)) d)
  | none => raiseWith raiseInner n stamp 0 none true d

/-- A die or a block raises a source now, stamped by its die (01 R28). -/
def raise (n : Fin 768) (d : Dev) : Dev := raiseStamped n (dieTb d n) d

/-- The same with the port or class of the snapshot. -/
def raiseAt (n : Fin 768) (index : Nat) (d : Dev) : Dev := raiseWith raiseInner n d.tmr.tb index none true d

/-- A raise by FAULT_FORCE of a master (11 R443). -/
def raiseForced (n : Fin 768) (m : Fin 5) (act : Bool) (d : Dev) : Dev := raiseWith raiseInner n d.tmr.tb 0 (some m) act d

/-- The condition of an L source ends (11 R433). -/
def condEnd (n : Fin 768) : Dev → Dev := onSource n fun s => { s with cond := false }

/-- A grace runs out (11 R435, 01 R32). -/
def graceOut (n : Fin 768) (d : Dev) : Dev :=
  if (d.sources[n]).graceRun then actionDue raiseInner n (d.sources[n]).index true (stopGrace n d) else d

/-- The grace of a source is over (01 R32). -/
def graceOver (d : Dev) (n : Fin 768) : Bool := d.coll.graces.any fun g => g.1 == n && decide (g.2 ≤ d.tmr.tb)

/-- A clear of a latch by a master (11 R440, R443): refused while the condition of an L source is present, unless only forced. -/
def clearLatch (n : Fin 768) (m : Fin 5) (d : Dev) : Dev :=
  let s := d.sources[n]
  if !s.latch then d
  else if srcLevel n && s.cond && !(s.forced && !s.realRaise) then collEvent 3 d
  else
    stopGrace n (onSource n (fun s => { s with
      latch := false, count := 0, forced := false, realRaise := false, acted := false, lastRecur := none })
      (report n .cleared false s.graceRun d.tmr.tb m.val 0 d))

/-- A clear; a grace that is over acts before it (01 R32). -/
def clearSource (n : Fin 768) (m : Fin 5) (d : Dev) : Dev := clearLatch n m (onlyIf (graceOver d n) (graceOut n) d)

/-- The effective severity returns 60 s after the last raise (11 R442). -/
def relax (n : Fin 768) (d : Dev) : Dev :=
  let s := d.sources[n]
  if s.sev < s.eff then
    report n .relaxed false false d.tmr.tb 0xFF 0 (onSource n (fun s => { s with eff := s.sev, raises := [] }) d)
  else d

/-- Power-good of a feed falls with its gate for any reason but the enable (07 R291): PG_LOSS. -/
def gateOffLoss (f : Fin 4) (after : Dev → Dev) (d : Dev) : Dev :=
  if (d.feeds[f]).pg then raise (feedSrc f 6) (after (onFeed f (fun x => { x with pgLosses := inc8 x.pgLosses }) d)) else after d

end Sys2Proof.Machine
end

