-- ==== Sys2Proof/Machine/Admission.lean ====
section
/-! DEFINITION. Admission (02 R74 to R80), the checks of a whole image or amendment, and the admission report (02 R82). -/

namespace Sys2Proof.Machine

/-- The value a report shows for a rate without bound or a cycle (02 R76, R80). -/
def noBound : Nat := 0xFFFFFFFF

/-- An entry of an admission rule: a breach is a value above its limit (02 R74). A value or limit above 32 bits is reported as
0xFFFFFFFF (DESIGN CHOICE, log entry 33). -/
def ruleEntry (code scope index unit value limit : Nat) : Entry :=
  { code := code, scope := scope, fail := decide (limit < value), index := index, unit := unit, value := min value noBound, limit := min limit noBound }

/-! ### Ports -/

/-- Cost of a port (02 R75). -/
def portCost (c : PortCfg) (twin : Bool) : Nat :=
  (match c.cls with | 0 => if c.pflags.getLsbD 3 then 12 else 8 | 1 => 8 | _ => 10) + (if c.roles = 2 then 2 else 0) + b2n twin

/-- Cost of port p: the greater of its new cost and that of its former record while a switch may defer it (02 R86); TWIN_EN is the new
one, since a TWIN section is not deferred. -/
def costOf (c : ImageCfg) (old : Option ImageCfg) (p : Fin 32) : Nat :=
  let now := match c.ports[p] with | some x => portCost x c.twin.en | none => 0
  match old with
  | some o => match o.ports[p] with | some x => max now (portCost x c.twin.en) | none => now
  | none => now

/-- The ports a mixture of former and new records may hold (02 R86): the new record of each, else its former one. -/
def mixture (c : ImageCfg) (old : Option ImageCfg) : ImageCfg :=
  match old with
  | some o => { c with ports := Vector.ofFn fun p => (c.ports[p]).or o.ports[p] }
  | none => c

/-- CORE_LOAD of the four port cores (02 R74, R75). -/
def coreLoad (c : ImageCfg) (old : Option ImageCfg) : List Entry :=
  (indices 4).map fun k => ruleEntry 1 1 k.val 1 (((indices 32).filter fun p => edgeOf p == k).foldl (fun a p => a + costOf c old p) 0) 100

/-! ### Scans -/

/-- The scan plan of a converter of a configuration (06 R258). The default plan of FC counts FM(3f+2) of each feed with a FEEDS section,
as R258 words it, though 06 R236 leaves it out of every scan where TSRC is 1 (DESIGN CHOICE, log entry 33). -/
def planOf (c : ImageCfg) (cv : Fin 5) : ScanPlan :=
  match c.scans[cv] with
  | some p => p
  | none =>
    if cv.val < 4 then
      { scans := ((indices 32).filter fun p => (edgeOf p).val == cv.val && (c.ports[p]).isSome).flatMap fun p =>
          [{ chan := vbusCh p, rate := 10000 }, { chan := iportCh p, rate := 10000 }] }
    else
      { scans := ((indices 4).filter fun f => (c.feeds[f]).isSome).flatMap fun f =>
          [{ chan := feedCh f 0, rate := 20000 }, { chan := feedCh f 1, rate := 20000 }, { chan := feedCh f 2, rate := 1000 }] }

/-- Trigger period of a sequence in ns; 0 for none (02 R76). -/
def trigPeriod (c : ImageCfg) (t : TrigCfg) : Nat :=
  if t.tkind = 0 then (match c.itms[Fin.ofNat 16 t.tindex] with | some i => 20 * i.period | none => 0) else 1000 * t.tmin

/-- Total OVS of the members of a sequence. -/
def seqOvs (p : ScanPlan) (q : Fin 16) : Nat := (p.scans.filter fun s => s.sq == q).foldl (fun a s => a + s.ovs) 0

/-- A sum of fractions as numerator and denominator. -/
def addFrac (a : Nat × Nat) (n k : Nat) : Nat × Nat := (a.1 * k + n * a.2, a.2 * k)

/-- Scan load of a converter, rounded up (02 R74, R76). -/
def scanLoad (c : ImageCfg) (cv : Fin 5) : Nat :=
  let p := planOf c cv
  let cont := (p.scans.filter fun s => s.sq == 0).foldl (fun a s => a + s.rate * s.ovs) 0
  let ts := p.trigs.filter fun t => seqOvs p t.sq != 0
  if ts.any fun t => trigPeriod c t == 0 then noBound
  else
    let f := ts.foldl (fun a t => addFrac a (seqOvs p t.sq * 1000000000) (trigPeriod c t)) (cont, 1)
    ceilDiv f.1 f.2

/-- EC_SCAN and FC_SCAN (02 R74). -/
def scanEntries (c : ImageCfg) : List Entry :=
  ((indices 4).map fun e => ruleEntry 2 2 e.val 2 (scanLoad c ⟨e.val, by omega⟩) 3200000) ++ [ruleEntry 3 3 0 2 (scanLoad c 4) 200000]

/-- SEQ_DEADLINE of every sequence (02 R77). -/
def seqEntries (c : ImageCfg) : List Entry :=
  (indices 5).flatMap fun cv =>
    let p := planOf c cv
    ((indices 16).filter fun q => q.val != 0 && seqOvs p q != 0).filterMap fun q =>
      (p.trigs.find? fun t => t.sq == q).map fun t =>
        ruleEntry 6 5 (16 * cv.val + q.val) 6 (seqOvs p q * (if cv.val < 4 then 250 else 4000) + 600) (trigPeriod c t)

/-! ### Mirror and ledger -/

/-- Mirror traffic in kbit/s (02 R78); a port whose records a switch may defer counts. -/
def mirrorKbps (c : ImageCfg) (old : Option ImageCfg) : Nat :=
  if !c.twin.en then 0
  else
    let n := countWhere fun p : Fin 32 => ((mixture c old).ports[p]).isSome
    let f1 := addFrac (0, 1) (8 * (16 * n + 12 * ((n + 7) / 8)) * 1000000) c.twin.lsPeriod
    let f2 := addFrac f1 (n * c.adm.pdRate * 512 + 8 * c.adm.jmirror) 1
    let f3 := addFrac f2 2048000 c.ledger.dealMs
    ceilDiv f3.1 (f3.2 * 1000)

/-! ### Trigger chains -/

/-- Triggers in a chain of interval timers from one on; none for a cycle (02 R80). -/
def chainLen (c : ImageCfg) : Nat → Nat → Option Nat
  | 0, _ => none
  | k + 1, i =>
    match c.itms[Fin.ofNat 16 i] with
    | none => some 0
    | some t => if t.tkind = 0 then some 0 else if t.tkind = 3 then (chainLen c k t.tindex).map (· + 1) else some 1

/-- The timers a chain passes. -/
def chainSeen (c : ImageCfg) : Nat → Nat → List Nat
  | 0, _ => []
  | k + 1, i =>
    match c.itms[Fin.ofNat 16 i] with
    | none => []
    | some t => i :: (if t.tkind = 3 then chainSeen c k t.tindex else [])

/-- Triggers in the chain of an alarm. -/
def alarmChain (c : ImageCfg) (a : AlmCfg) : Option Nat :=
  if a.tkind = 0 then some 0 else if a.tkind = 3 then (chainLen c 17 a.tindex).map (· + 1) else some 1

/-- TRIGGER_CHAIN of every chain head, and of every cycle no head reaches (02 R80). -/
def chainEntries (c : ImageCfg) : List Entry :=
  let timers := (indices 16).filter fun i => (c.itms[i]).isSome
  let alarms := (indices 32).filter fun i => (c.alms[i]).isSome
  let started (n : Nat) : Bool := timers.any (fun i => (c.itms[i]).any fun t => t.tkind == 3 && t.tindex == n)
    || alarms.any fun i => (c.alms[i]).any fun t => t.tkind == 3 && t.tindex == n
  let heads := timers.filter fun i => !started i.val
  let reached := heads.flatMap (fun i => chainSeen c 17 i.val)
    ++ alarms.flatMap fun i => ((c.alms[i]).map fun t => if t.tkind = 3 then chainSeen c 17 t.tindex else []).getD []
  let loops := timers.filter fun i => !reached.contains i.val && (chainSeen c 17 i.val).all fun j => decide (i.val ≤ j)
  ((timers.filter fun i => heads.contains i || loops.contains i).map fun i => ruleEntry 7 6 i.val 8 ((chainLen c 17 i.val).getD noBound) 8)
    ++ alarms.map fun i => ruleEntry 7 6 (16 + i.val) 8 (((c.alms[i]).bind (alarmChain c)).getD noBound) 8

/-! ### Ramps -/

/-- A ramp in us as a fraction, with its budget (02 R79). -/
abbrev Ramp := Nat × Nat × Nat

/-- The ratio of a ramp to its budget is higher. -/
def rampWorse (a b : Ramp) : Bool := decide (b.1 * (a.2.1 * a.2.2) < a.1 * (b.2.1 * b.2.2))

/-- The cases of R79 in their order, and the worst of them. -/
def rampCases (x : PortCfg) (o : OfferCfg) : List Ramp :=
  let slow := max 1 (min x.slewUp x.slewDn)
  let fixed := (o.pdos.filter fun p => p.ptype == 0 || p.ptype == 2).map (·.vmin)
  let spans := (o.pdos.filter fun p => p.ptype == 1 || p.ptype == 3).map fun p => p.vmax - p.vmin
  let diff := fixed.foldl max 0 - fixed.foldl min 0xFFFFF
  let span := spans.foldl max 0
  [(diff * 1000, slow, 240000)] ++ (if spans.isEmpty then [] else [(span * 1000, slow, if 500 < span then 240000 else 25000)]) ++ [(500000, slow, 25000)]

def worstRamp (l : List Ramp) : Ramp := l.foldl (fun a b => if rampWorse b a then b else a) (l.headD (0, 1, 240000))

/-- The offers of a port; those of a Sink port are ignored (02 R55, R79). -/
def rampOffers (c : ImageCfg) (x : PortCfg) : OfferCfg := if x.roles = 1 then {} else (c.offers[x.offerSet]).getD {}

/-- RAMP_TRANSITION, RAMP_OFF and RAMP_ON of a PORT record with the offers of a configuration (02 R74, R79). -/
def rampRows (c : ImageCfg) (p : Fin 32) (x : PortCfg) : List Entry :=
  let o := rampOffers c x
  let w := if x.roles = 1 then (0, 1, 240000) else worstRamp (rampCases x o)
  let top := o.pdos.foldl (fun a q => max a (if q.ptype == 1 || q.ptype == 3 then q.vmax else q.vmin)) 5000
  [ruleEntry 8 7 p.val 4 (ceilDiv w.1 w.2.1) w.2.2, ruleEntry 9 7 p.val 5 (ceilDiv top x.slewOff) 650, ruleEntry 10 7 p.val 5 (ceilDiv 5000 x.slewSs) 100]

/-- The worse of two entries of one rule. -/
def worseEntry (a b : Entry) : Entry := if a.value * b.limit < b.value * a.limit then b else a

/-- The ramp entries of every port (02 R79, R86), rule by rule. -/
def rampEntries (c : ImageCfg) (old : Option ImageCfg) : List Entry :=
  let rows := ((indices 32).filterMap fun p => ((mixture c old).ports[p]).map fun x =>
    match old.bind fun o => o.ports[p] with
    | some y => List.zipWith worseEntry (rampRows c p x) (rampRows c p y)
    | none => rampRows c p x)
  (List.range 3).flatMap fun i => rows.filterMap fun r => r[i]?

/-- Every admission rule on every object it covers, in the order of the rule table (02 R74); `old` is the running configuration, whose
PORT records a switch may defer (02 R86). -/
def admissionOf (c : ImageCfg) (old : Option ImageCfg) : List Entry :=
  coreLoad c old ++ scanEntries (mixture c old) ++ [ruleEntry 4 4 0 3 (mirrorKbps c old) 1400000, ruleEntry 5 0 0 4 (2 * c.adm.depth * 25) (400 * c.ledger.dealMs)]
    ++ seqEntries c ++ chainEntries c ++ rampEntries c old

/-! ### The check of an image -/

/-- What a check finds: RESULT of the report (02 R82), its entries, the sections and the configuration. -/
structure Verdict where
  result : Nat := 0
  entries : List Entry := []
  sects : List Sect := []
  cfg : ImageCfg := {}
  deriving Repr

/-- SERIAL and DIGEST of an image (02 R38, R45): DIGEST as the number of its SHA-256. -/
def serialOf (b : List Byte) : Nat := fieldAt b 16 4
def digestOf (b : List Byte) : Nat := beNat (bytesAt b (b.length - 96) 32)

/-- A character of a lot code: 0 to 9 or A to Z. -/
def lotChar (b : Byte) : Bool := (decide (0x30 ≤ b.toNat) && decide (b.toNat ≤ 0x39)) || (decide (0x41 ≤ b.toNat) && decide (b.toNat ≤ 0x5A))

/-- The header field rules of R632 in their order: the offending value and the limit it breaks, 0 where none applies (R82), of the
first that is broken. -/
def headerBad (b : List Byte) : Option (Nat × Nat) :=
  let f := fieldAt b
  let rule (broken : Bool) (value limit : Nat) : List (Nat × Nat) := if broken then [(value, limit)] else []
  let range (v lo hi : Nat) : List (Nat × Nat) := rule (decide (v < lo)) v lo ++ rule (decide (hi < v)) v hi
  let bound := f 11 1 % 2 == 1
  (rule (f 33 1 != 0) (f 33 1) 0 ++ rule (f 36 4 != 0) (f 36 4) 0
    ++ ((List.range 5).flatMap fun i => rule (f (44 + 4 * i) 4 != 0) (f (44 + 4 * i) 4) 0)
    ++ range (f 8 1) 0 3 ++ range (f 11 1) 0 1 ++ range (f 9 1) 0 1 ++ range (f 16 4) 1 0xFFFFFFFE
    ++ rule (f 9 1 == 0 && f 20 4 != 0) (f 20 4) 0 ++ range (f 34 2) 1 0xFFFF ++ range (f 31 1) 0 63 ++ range (f 32 1) 0 63
    ++ (if bound then ((bytesAt b 24 6).filter fun c => !lotChar c).flatMap (fun c => rule true c.toNat 0) ++ range (f 30 1) 1 25
        else rule (f 24 6 != 0) (f 24 4 ||| f 26 4) 0 ++ rule (f 30 1 != 0) (f 30 1) 0)).head?

/-- MAGIC "NFCI" (02 R38). -/
def imageMagic : Nat := 0x4943464E

/-- The format step on an image of n bytes (02 R37, R39, R632): the first check that fails. -/
def formatStep (d : Dev) (n : Nat) (b : List Byte) : Option Entry :=
  let f := fieldAt b
  let bad (code value limit unit : Nat) : Option Entry := some { code := code, unit := unit, value := value, limit := limit }
  if n < 172 then bad 0x0104 n 172 9
  else if 262144 < n then bad 0x0104 n 262144 9
  else if n % 4 != 0 then bad 0x0104 n 0 9
  else if f 0 4 != imageMagic then bad 0x0101 (f 0 4) imageMagic 0
  else if f 12 4 != n then bad 0x0104 (f 12 4) n 9
  else if f 4 2 != 1 then bad 0x0102 (f 4 2) 1 0
  else match headerBad b with
    | some x => bad 0x0102 x.1 x.2 0
    | none =>
      if f 6 2 != 0x3264 then bad 0x0103 (f 6 2) 0x3264 0
      else if !(f 8 1).testBit (d.sys.stepping - 1) then bad 0x010C (f 8 1) (2 ^ (d.sys.stepping - 1)) 0
      else if f 40 2 != d.store.schemaMajor || decide (d.store.schemaMinor < f 42 2) then
        bad 0x0105 (65536 * f 40 2 + f 42 2) (65536 * d.store.schemaMajor + d.store.schemaMinor) 0
      else none

/-- A stored public key as its two coordinates (02 R46). -/
def keyX (k : List Byte) : Nat := leNat (bytesAt k 0 32)
def keyY (k : List Byte) : Nat := leNat (bytesAt k 32 32)

/-- SHA-256 of a stored key agrees with the OTP (02 R47). -/
def keyIntact (k : KeySlot) : Bool := sha256 k.key == k.hash

/-- A key slot holds a key that may verify: enrolled, not revoked, its hash intact (02 R46, R47). -/
def keyUsable (d : Dev) (n : Nat) : Option KeySlot :=
  if n < 4 then
    let k := d.store.keys[Fin.ofNat 4 n]
    if k.hash != 0 && !k.revoked && keyIntact k then some k else none
  else none

/-- The digest and signature step (02 R46). -/
def signStep (d : Dev) (b : List Byte) : Option Entry :=
  let body := b.take (b.length - 96)
  let h := sha256 body
  let slot := byteAt b 10
  if digestOf b != h then some { code := 0x0201, value := fieldAt b (b.length - 96) 4, limit := fieldAt (toBe 32 h) 0 4 }
  else match keyUsable d slot with
    | none => some { code := 0x0203, value := slot }
    | some k =>
      if ecdsaVerify (keyX k.key) (keyY k.key) h (leNat (bytesAt b (b.length - 64) 32)) (leNat (bytesAt b (b.length - 32) 32)) then none
      else some { code := 0x0202, value := slot }

/-- A key slot named by an image holds a key whose hash disagrees: STORE_INTEGRITY (02 R47). -/
def keyBroken (d : Dev) (n : Nat) : Bool :=
  decide (n < 4) && (d.store.keys[Fin.ofNat 4 n]).hash != 0 && !keyIntact (d.store.keys[Fin.ofNat 4 n])

/-- The amendment is the last one applied (02 R88). -/
def sameAmend (d : Dev) (b : List Byte) : Bool := byteAt b 9 == 1 && d.store.lastAmend == some (serialOf b, digestOf b)

/-- The binding, serial-floor and base step over an effective serial (02 R40, R50, R88). -/
def bindStep (d : Dev) (serial : Nat) (b : List Byte) : Option Entry :=
  let i := unitId d
  if byteAt b 11 = 1 && bytesAt b 24 9 != idBytes i then some { code := 0x0204, value := byteAt b 30, limit := i.wafer }
  else if serialOf b < floorOf d.store then some { code := 0x0205, value := serialOf b, limit := floorOf d.store }
  else if byteAt b 9 = 1 && (fieldAt b 20 4 != serial || decide (serialOf b ≤ serial)) then
    some { code := 0x0206, value := fieldAt b 20 4, limit := serial }
  else none

/-- Structure and admission of an image or, with its amendment, of an effective image (02 R633, R74). `base` are the sections of the
effective image it amends. -/
def contentCheck (b : List Byte) (base : List Sect) (old : Option ImageCfg) : Verdict :=
  let w := walkBody b
  let all := if byteAt b 9 = 1 then mergeSects base w.sects else w.sects
  let miss := if byteAt b 9 = 1 then missingSects all else []
  let errs := w.errs ++ (if w.ok then miss else []) ++ (if w.ok then crossBreaches all else [])
  if !errs.isEmpty then { result := 4, entries := errs, sects := all }
  else
    let c := cfgOf all
    let es := admissionOf c old
    let bad := es.filter (·.fail)
    { result := if bad.isEmpty then 0 else 5, entries := bad ++ es.filter fun e => !e.fail, sects := all, cfg := c }

/-- A check of an image of n bytes in the order of R633: format, digest and signature, binding and floor, structure, admission. -/
def checkBytes (d : Dev) (serial n : Nat) (b : List Byte) (base : List Sect) (old : Option ImageCfg) : Verdict :=
  match formatStep d n b with
  | some e => { result := 1, entries := [e] }
  | none => match signStep d b with
    | some e => { result := 2, entries := [e] }
    | none => match bindStep d serial b with
      | some e => { result := 3, entries := [e] }
      | none => contentCheck b base old

/-- The sections of an image with its amendments, in order (02, Amendments). -/
def slotSects (s : ImgSlot) : List Sect := s.amends.foldl (fun a b => mergeSects a (walkBody b).sects) (walkBody s.image).sects

/-- The sections in force. -/
def runSects (d : Dev) : List Sect := slotSects d.store.slots[d.store.activeSlot]

/-- The staged image, as long as CONFIG_STAGE_LEN says; the window holds 256 KiB. -/
def stagedBytes (d : Dev) : List Byte := Memory.readBytes d.store.stage 0 (min d.store.stageLen 262144)

/-- The check of the staged image or amendment (02 R82, R86, R88): an amendment equal to the last one is accepted without change. -/
def checkStaged (d : Dev) (store : Bool) : Verdict :=
  let b := stagedBytes d
  if sameAmend d b && (formatStep d d.store.stageLen b).isNone then { result := 0, cfg := d.cfg }
  else checkBytes d d.store.serial d.store.stageLen b (runSects d) (if store then some d.cfg else none)

/-! ### The report -/

/-- An entry as 16 bytes (02 R82). -/
def entryBytes (e : Entry) : List Byte :=
  toLe 2 e.code ++ toLe 1 e.scope ++ toLe 1 (b2n e.fail) ++ toLe 2 e.index ++ toLe 1 e.unit ++ toLe 1 0 ++ toLe 4 e.value ++ toLe 4 e.limit

/-- The admission report (02 R82): at most 254 entries. -/
def reportBytes (b : List Byte) (result : Nat) (es : List Entry) (stamp us : Nat) : List Byte :=
  toLe 4 0x5241464E ++ toLe 4 (serialOf b) ++ toLe 1 result ++ toLe 1 (byteAt b 9) ++ toLe 2 (min 254 es.length) ++ toLe 8 stamp ++ toLe 4 us
    ++ (if 96 ≤ b.length then bytesAt b (b.length - 96) 6 else toLe 6 0) ++ toLe 1 (b2n (decide (254 < es.length))) ++ toLe 1 0
    ++ (es.take 254).flatMap entryBytes

/-- The report replaces the previous one. -/
def putReport (b : List Byte) (result : Nat) (es : List Entry) (us : Nat) (d : Dev) : Dev :=
  onStore (fun s => { s with report := Memory.writeBytes [] 0 (reportBytes b result es d.tmr.tb us) }) d

/-- RESULT of IMAGE_CHECK, IMAGE_STORE and AMEND_APPLY, from byte 24 on (12 R483). -/
def checkResult (b : List Byte) (result : Nat) (es : List Entry) : List Byte :=
  toLe 1 result ++ toLe 1 0 ++ toLe 2 (min 254 es.length) ++ toLe 2 (((es.find? (·.fail)).map (·.code)).getD 0) ++ toLe 2 0 ++ toLe 4 (serialOf b)

end Sys2Proof.Machine
end

