-- ==== Sys2Proof/Machine/PdFlow.lean ====
section
/-! DEFINITION. Courses of the protocol that several messages and timers call for: Hard Reset, Soft_Reset, evaluation of a request, a voltage transition, a new contract, swaps. -/

namespace Sys2Proof.Machine

/-- A port core runs PD on this port: attached, not a debug accessory, not in minimal mode (03 R128, 11 R452). -/
def pdLive (d : Dev) (p : Fin 32) : Bool :=
  let q := d.ports[p]
  (q.tc == .attachedSrc || q.tc == .attachedSnk) && !q.minimal && !(d.pd[p]).disabling && !(d.pd[p]).leaving && !isShadow d
    && (!d.sys.deadcar || (q.deadcar && hasPort d p && (portCfg d p).cls == 3 && rolesOf d p != 0))

/-- The port is source, or sink, in a live exchange. -/
def pdSource (d : Dev) (p : Fin 32) : Bool := pdLive d p && (d.ports[p]).tc == .attachedSrc
def pdSink (d : Dev) (p : Fin 32) : Bool := pdLive d p && (d.ports[p]).tc == .attachedSnk

/-- The port core hears its partner: in BIST Test Data mode it discards every message (04 R143), and while it is paused what the protocol engine
received stays queued (14 R545; log entry 49). -/
def hears (d : Dev) (p : Fin 32) : Bool := pdLive d p && !(d.pd[p]).bistData && !corePaused d p

/-- No message sequence is open with the partner: a message that begins one is in its place (04 R176). -/
def ready (d : Dev) (p : Fin 32) : Bool := (d.pd[p]).ams == .none

/-- An explicit contract exists (04 R160). -/
def explicit (d : Dev) (p : Fin 32) : Bool := (d.ports[p]).kind != .none

/-- The opcode of PORT_HARD_RESET (12 R482). -/
def opPortHardReset : Nat := 0x0102

/-- Hard Reset sent or received (04 R174): exchanges end, VCONN opens as source, the explicit contract ends, EPR mode is left; the
off-ramp is due after tPSHardReset. -/
def hardReset (p : Fin 32) (d : Dev) : Dev :=
  let d1 := stopTimers [.tsourceeprkeepaliveExpiry p, .tppstimeoutExpiry p] (pdAbandon p d)
  let d2 := onPd p (fun x => { x with rxId := none, txId := 0, txId1 := 0, hrDischarge := true, inWindow := false, newKind := .none }) d1
  let d3 := journalContract p (onPort p (fun q => { q with kind := .none, position := 0, rev := 0, mismatch := false, capsSent := 0 }) (leaveEpr p d2))
  if isSrcAttached (d.ports[p]).tc then
    startTimer (.tpshardresetExpiry p) (ticksOfMs 30) (presentRp p (onlyIf ((d.loops[p]).ramping && !lostPort d p) (stopRamp p) (vconnEnd p d3)))
  else d3

/-- The device sends Hard Reset (04 R175): the third without a contract in between is ErrorRecovery instead; each raises PD_PROTOCOL. -/
def sendHardReset (p : Fin 32) (d : Dev) : Dev :=
  if !pdLive d p then d
  else if 2 ≤ (d.pd[p]).hardResets then errorRecovery p 5 (raise (portSrc p 6) d)
  else
    let d1 := onPd p (fun x => { x with hardResets := x.hardResets + 1, hrTx := inc8 x.hrTx }) (portEvent p 3 d)
    let d2 := hardReset p d1
    let d3 := forEach (d2.host.jobs.filter fun j => j.opcode == opPortHardReset && j.port == some p) (fun j x => complete j.ref j.opcode .done [] x) d2
    raise (portSrc p 6) d3

/-- The device sends Soft_Reset (04 R176): MessageID and the open exchange are reset, contract and fence stay. -/
def sendSoftReset (p : Fin 32) (d : Dev) : Dev :=
  if !pdLive d p then d
  else
    let d1 := stopTimers [.tcrcreceiveExpiry p, .tsenderresponseExpiry p, .tsinktxExpiry p, .tsrctransitionExpiry p, .tchunksenderrequestExpiry p,
      .ttypecsendsourcecapExpiry p] d
    let d2 := onPort p (fun q => { q with transition := false, swap := false }) d1
    let d3 := onPd p (fun x => { x with
      txQueue := [], rxQueue := [], chunks := none, ams := .softReset, rxId := none, txId := 0, softs := inc8 x.softs, inWindow := false
      newKind := .none, sinkTxNg := false, discDue := false }) d2
    pdSend p 0 .softReset [] (portEvent p 5 d3)

/-- A message arrived: in EPR mode tSourceEPRKeepAlive starts again (04 R166, R168). -/
def heard (p : Fin 32) (d : Dev) : Dev :=
  onlyIf ((d.ports[p]).eprMode && pdSource d p) (startTimer (.tsourceeprkeepaliveExpiry p) (ticksOfMs 900))
    (onPd p (fun x => { x with rxTb := d.tmr.tb }) d)

/-- A received message that the port core takes leaves the queue of the protocol engine (01 R18, 04 R140); one that the queue does not
hold is heard now. -/
def takeMsg (p : Fin 32) (k : PdKind) (d : Dev) : Dev :=
  match (d.pd[p]).rxQueue.find? fun m => m.kind == k with
  | some m => onPd p (fun x => { x with rxQueue := x.rxQueue.erase m }) d
  | none => heard p d

/-! ### Requests -/

/-- A request read from its RDO (04 R159; log entry 9): the contract it asks for. -/
structure Ask where
  kind : ContractKind
  position : Nat
  mv : Nat
  ma : Nat
  mismatch : Bool
  eprCapable : Bool
  deriving DecidableEq, Repr

/-- Type of a PDO word: 0 fixed, 1 PPS, 2 EPR AVS, 3 other. -/
def pdoType (w : Word) : Nat := if bits w 30 2 = 0 then 0 else if bits w 30 2 = 3 then (if bits w 28 2 = 0 then 1 else if bits w 28 2 = 1 then 2 else 3) else 3

/-- The request against the capabilities last sent; none when its position names no offer. -/
def askOf (d : Dev) (p : Fin 32) (rdo : Word) : Option Ask :=
  let pos := bits rdo 28 4
  if pos = 0 ∨ 11 < pos then none
  else
    let w := (d.pd[p]).sentPdos[Fin.ofNat 11 (pos - 1)]
    if w = 0 then none
    else
      match pdoType w with
      | 0 => some ⟨if 8 ≤ pos then .eprFixed else .sprFixed, pos, 50 * bits w 10 10, 10 * bits rdo 10 10, bit rdo 26, bit rdo 22⟩
      | 1 => some ⟨.pps, pos, 20 * bits rdo 9 12, 50 * bits rdo 0 7, bit rdo 26, bit rdo 22⟩
      | 2 => some ⟨.avs, pos, 25 * bits rdo 9 12, 50 * bits rdo 0 7, bit rdo 26, bit rdo 22⟩
      | _ => none

/-- The limits of the offer asked for hold (04 R159). -/
def askFits (d : Dev) (p : Fin 32) (a : Ask) : Bool :=
  let q := d.ports[p]
  let w := (d.pd[p]).sentPdos[Fin.ofNat 11 (a.position - 1)]
  let v := (d.pd[p]).sentLims[Fin.ofNat 11 (a.position - 1)]
  match a.kind with
  | .pps => decide (v.1 ≤ a.mv) && decide (a.mv ≤ v.2) && decide (a.ma ≤ 50 * bits w 0 7)
  | .avs => decide (15000 ≤ a.mv) && decide (a.mv ≤ v.2) && a.mv % 100 == 0
      && decide (a.ma ≤ min (min q.capMa q.cableI) (1000000 * bits w 0 8 / a.mv))
  | _ => decide (a.ma ≤ 10 * bits w 0 10)

/-- Every condition of 04 R159 and R155 holds; `epr` is an EPR_Request with its PDO copy, which an EPR position compares. -/
def askGood (d : Dev) (p : Fin 32) (a : Ask) (epr : Option Word) : Bool :=
  let q := d.ports[p]
  askFits d p a && decide (a.mv * a.ma ≤ handUw (cutHand q)) && !q.transition
    && (match epr with
      | some copy => q.eprMode && a.eprCapable && (decide (a.position < 8) || copy == (d.pd[p]).sentPdos[Fin.ofNat 11 (a.position - 1)])
      | none => !q.eprMode && decide (a.position < 8))

/-- Reject (04 R160): a contract stays; before the first one the capabilities are due again after tTypeCSendSourceCap. -/
def rejectAsk (p : Fin 32) (d : Dev) : Dev :=
  let d1 := amsEnd p (portEvent p 12 (pdSend p 0 .reject [] d))
  if explicit d p then d1 else startTimer (.ttypecsendsourcecapExpiry p) (ticksOfMs 150) d1

/-- Accept (04 R162, 01 R19): the fence takes the voltage, the transition begins, and a PPS contract's timeout starts again. -/
def acceptAsk (p : Fin 32) (a : Ask) (rdo : Word) (d : Dev) : Dev :=
  let d1 := stopTimers [.tsenderresponseExpiry p, .tppstimeoutExpiry p] (onlyIf (!explicit d p) (stopTimer (.ttypecsendsourcecapExpiry p)) d)
  let d2 := onPd p (fun x => { x with
    ams := .transition, newVolt := a.mv, newCurr := a.ma, newRdo := rdo, newKind := a.kind, newPos := a.position, lastRdoEpr := a.eprCapable
    inWindow := false }) d1
  let d3 := toDie p (.fence (fenceOf a.mv)) (setFence p a.mv) (onPort p (fun q => { q with transition := true, mismatch := a.mismatch }) d2)
  let d4 := onlyIf (a.kind == .pps) (startTimer (.tppstimeoutExpiry p) (ticksOfS 14)) d3
  pdSend p 0 .accept [] (onlyIf a.mismatch (journalContract p) d4)

/-- A Request, or an EPR_Request with its PDO copy, evaluated (04 R159, R160): during a transition, or in a sequence it does not belong to, it is a
protocol error (04 R176); one with Capability Mismatch is journalled. -/
def evaluate (p : Fin 32) (rdo : Word) (epr : Option Word) (d : Dev) : Dev :=
  let refuse (x : Dev) : Dev := onlyIf (bit rdo 26) (journalContract p) (rejectAsk p x)
  if (d.ports[p]).transition || !(ready d p || (d.pd[p]).ams == .offer) then sendSoftReset p d
  else match askOf d p rdo with
    | none => refuse d
    | some a => if askGood d p a epr then acceptAsk p a rdo d else refuse d

/-! ### Contracts -/

/-- The registers of the new contract change together (04 R187), and what a first contract starts follows (03 R118, 04 R175). -/
def establish (p : Fin 32) (d : Dev) : Dev :=
  let x := d.pd[p]
  let d1 := onPort p (fun q => { q with
    kind := x.newKind, position := x.newPos, volt := x.newVolt, curr := x.newCurr, rdo := x.newRdo, fenceReg := q.fence, transition := false }) d
  let d2 := onPd p (fun x => { x with
    pdos := x.sentPdos, sinkPdp := x.sentSink, sprRating := x.sentSpr, eprRating := x.sentEpr, hardResets := 0, newKind := .none, inWindow := false }) d1
  let d3 := journalContract p (portEvent p 2 (onlyIf (!explicit d p) (stopTimer (.ttypecsendsourcecapExpiry p)) d2))
  let q := d3.ports[p]
  onlyIf (q.vconnOn && !q.cableDone && decide (x.discoverTries < 20) && !timerRuns d3 (.discoverIdentityRetry p))
    (startTimer (.discoverIdentityRetry p) (ticksOfMs 50)) d3

/-- The transition is complete (04 R165): PS_RDY goes out once VBUS is in the new window and a lowering fence is down (04 R162). -/
def tryPsRdy (p : Fin 32) (d : Dev) : Dev :=
  let x := d.pd[p]
  if x.ams == .transition && x.inWindow && (d.ports[p]).fencePend.isNone && x.newKind != .none then pdSend p 0 .psRdy [] (establish p d)
  else d

/-- The reference takes the new voltage at the end of tSrcTransition (04 R165). -/
def moveReference (p : Fin 32) (d : Dev) : Dev :=
  let x := d.pd[p]
  let l := d.loops[p]
  let code := refCode x.newVolt
  let now := refNow d l
  let step := if now ≤ code then code - now else now - code
  if lostPort d p then
    toDie p (.reference x.newVolt (if now ≤ code then .up else .down)) id (onlyIf (x.newKind == .pps) (toDie p (.currentLimit x.newCurr) id) d)
  else
  let d1 := onLoop p (fun l => { l with limitMa := if x.newKind == .pps then some x.newCurr else none, cl := l.cl && x.newKind == .pps }) d
  if step = 0 then tryPsRdy p (onPd p (fun x => { x with inWindow := true }) d1)
  else if (x.newKind == .pps || x.newKind == .avs) && decide (step ≤ 125) then
    onLoop p (fun l => { l with ref := code, refTb := d.tmr.tb, target := code, ramping := false }) d1
  else startRamp p code (if now ≤ code then (diePort d p).slewUp else (diePort d p).slewDn) .transition d1

/-! ### Discovery and swaps -/

/-- A Discover Identity on SOP' goes out (03 R118). -/
def discover (p : Fin 32) (d : Dev) : Dev :=
  pdSend p 1 .discoverIdentity [] (onPd p (fun x => { x with discoverTries := x.discoverTries + 1 }) d)

/-- One try of cable discovery (03 R118): at once, or as source under a contract behind SinkTxNG for tSinkTx (04 R141); while another exchange
is open, it is left to the next try. -/
def discoverTry (p : Fin 32) (d : Dev) : Dev :=
  let x := d.pd[p]
  if !(pdSource d p && explicit d p) then discover p d
  else if !ready d p || (d.ports[p]).transition || !x.txQueue.isEmpty || x.sinkTxNg then d
  else startTimer (.tsinktxExpiry p) (ticksOfMs 18) (presentTx p (onPd p (fun x => { x with sinkTxNg := true, discDue := true }) d))

/-- A Discover Identity under SinkTxNG is over: SinkTxOk returns (04 R141). -/
def discoverEnd (p : Fin 32) (d : Dev) : Dev :=
  if (d.pd[p]).sinkTxNg && ready d p && !timerRuns d (.tsinktxExpiry p) && !(d.pd[p]).txQueue.any (·.kind == .discoverIdentity) then amsEnd p d else d

/-- The next try of cable discovery, or the first offer once three tries went unanswered (03 R118): 4 ms apart before the first
offer, 50 ms apart under a contract, twenty in all. -/
def discoverNext (p : Fin 32) (d0 : Dev) : Dev :=
  let d := discoverEnd p d0
  let q := d.ports[p]; let n := (d.pd[p]).discoverTries
  if !pdLive d p || !q.vconnOn || q.cableDone then d
  else if explicit d p && n < 20 then startTimer (.discoverIdentityRetry p) (ticksOfMs 50) (discoverTry p d)
  else if n < 3 then startTimer (.discoverIdentityRetry p) (ticksOfMs 4) (discover p d)
  else if !explicit d p then firstOffer p d
  else portEvent p 16 (onPort p (fun q => { q with cableDone := true }) d)

/-- The old source of a PR_Swap stands at vSafe0V (04 R171 step 3): guard open, Rd, PS_RDY, the hand returns. -/
def swapSrcOff (p : Fin 32) (d : Dev) : Dev :=
  let d1 := endContract p (stopByHub p 0 d)
  let d2 := presentRd p (onPort p (fun q => { q with tc := .attachedSnk, source := false, hand := 0, pend := none }) d1)
  let d3 := restartFence p 5000 (stopTimer (.pendingHandEffective p) d2)
  pdSend p 0 .psRdy [] (divide d3)

/-- The old sink of a PR_Swap takes the source role at the partner's PS_RDY (04 R171 step 3): Rp, FENCE(5 V), soft start. -/
def swapSnkOn (p : Fin 32) (d : Dev) : Dev :=
  let d1 := onPort p (fun q => { q with tc := .attachedSrc, source := true, kind := .none, position := 0, capsSent := 0 }) d
  startPort p (restartFence p 5000 (presentRp p (clearContract p d1)))

/-- VBUS of a port in Hard Reset is below vSafe0V (04 R174, R187): the guard opens, the contract registers clear, tSrcRecover starts. -/
def hrAtZero (p : Fin 32) (d : Dev) : Dev :=
  startTimer (.tsrcrecoverExpiry p) (ticksOfMs 700) (clearContract p (stopByHub p 0 d))

end Sys2Proof.Machine
end

