-- ==== Sys2Proof/Machine/TypeC.lean ====
section
/-! DEFINITION. The Type-C state machine (03): what a change of zone, a timer and a cable answer do, ports in minimal mode, service readout. -/

namespace Sys2Proof.Machine

/-- A source attach waits (05 R194, R225, 07 R280, R300, 15 R565, R569): no power-good on the bus, the hold of BOOT, no live phase, a
phase PENDING or in its census, a latched guard. -/
def attachHeld (d : Dev) (p : Fin 32) : Bool :=
  !portPg d p || dieHolds d p || (d.ports[p]).capWatts == 0 || (d.guards[p]).state == .latched || (d.pd[p]).attachCensus || lostPort d p
    || censusOpen d p

/-- Unattached.SNK (03 R107); a DRP port starts the sink fraction of tDRP. -/
def toUnattachedSnk (p : Fin 32) (d : Dev) : Dev :=
  let d1 := presentRd p (setTc p .unattachedSnk (stopTimers (tcTimers p) d))
  ccSee p (if isDrp d p && anyPg d then startTimer (.tdrpExpiry p) 1875000 d1 else d1)

/-- Try.SRC (03 R107, R111). -/
def enterTrySrc (p : Fin 32) (d : Dev) : Dev :=
  startTimer (.tdrptryExpiry p) (ticksOfMs 110)
    (presentRp p (onPd p (fun x => { x with deb := false }) (setTc p .trySrc (stopTimers (tcTimers p) d))))

/-- A debounced attach condition in minimal mode and what it still waits for (03 R123, 05 R194, R226, 15 R569): the edge die soft-starts the
port to 5 V. -/
def minimalAttach (p : Fin 32) (d : Dev) : Dev :=
  let q := d.ports[p]
  if q.tc = .minimal && !q.minAtt && rdOne d p && vbusLow d p && (d.guards[p]).state != .latched && !q.startFail && !dieHolds d p
      && (d.sys.dieRec[edgeOf p]).isSome && portPg d p && !(livePhases d p).isEmpty && !censusOpen d p && !timerRuns d (.terrorrecoveryExpiry p)
      && !timerRuns d (.minimalAttachDebounce p) then
    let d2 := onPort p (fun q => { q with minAtt := true, source := true, dfp := true, orient := pinRd d p true }) d
    portEvent p 0 (softStart p 1000 (resetFence p 5000 d2))
  else d

/-- A debounced attach condition and what it still waits for (03 R107, R111): the port attaches when nothing is missing. -/
def tryAttach (p : Fin 32) (d : Dev) : Dev :=
  if timerRuns d (.tccdebounceExpiry p) || !(d.pd[p]).deb then d
  else match (d.ports[p]).tc with
  | .attachWaitSrc =>
    if (d.pd[p]).attachCensus && portPg d p && !dieHolds d p then
      censusStart (livePhases d p) (onPd p (fun x => { x with attachCensus := false }) d)
    else if attachHeld d p || !vbusLow d p then d
    else if rdOne d p then attachSource p d
    else if rdBoth d p && debugOn d p then attachDebugSource p d
    else d
  | .minimal => minimalAttach p d
  | .attachWaitSnk =>
    if rpOne d p && trySrcOn d p then enterTrySrc p d
    else if !vbusHigh4 d p then d
    else if rpOne d p then attachSink p d
    else if rpBoth d p && debugOn d p then attachDebugSink p d
    else d
  | .tryWaitSnk => if rpOne d p && vbusHigh4 d p then attachSink p d else d
  | _ => d

/-- Every port that waits for something other than its CC pins is looked at again. -/
def tryAttachAll (d : Dev) : Dev := forEach (indices 32) tryAttach d

/-- A sink's VBUS fell below 3.67 V (03 R107). -/
def sinkDetach (p : Fin 32) (d : Dev) : Dev := toUnattachedSnk p (dropAttach p d)

/-- What a port makes of a change of its VBUS zone (03 R107, R114, R125; 04 R171, R174; 06 R235). -/
def vbusEval (p : Fin 32) (old new : Zone) (d : Dev) : Dev :=
  let q := d.ports[p]; let x := d.pd[p]
  if x.disabling then (if new == .below then post (.portDisableDone p) d else d)
  else if x.leaving then (if new == .below then finishDetach p d else d)
  else if isSrcAttached q.tc && x.hrDischarge && new == .below then hrAtZero p d
  else if x.ams == .prSwapSrc && q.swap && new == .below && isSrcAttached q.tc then swapSrcOff p d
  else if isSnkAttached q.tc then
    if new == .above then onPd p (fun x => { x with hrDischarge := false }) d
    else if x.hrDischarge then (if new == .below then clearContract p d else d)
    else if old == .above && !q.swap then sinkDetach p d
    else d
  else tryAttach p d

/-- A change of zone on a port channel reaches the port (03 R107, 06 R235). A SHADOW takes its ports from the mirror link (09 R381),
and in STANDBY the port cores are halted (15 R564). -/
def portZone (c : Fin 204) (old new : Zone) (stamp : Nat) (d : Dev) : Dev :=
  if isShadow d || (d.sys.mode == .standby && !d.sys.deadcar) then d
  else match chanRole c with
  | .cc1 p => ccEval p stamp d
  | .cc2 p => ccEval p stamp d
  | .vbus p => vbusEval p old new d
  | _ => d

/-- In STANDBY the edge die keeps the stamp of a change of a CC zone (15 R565). -/
def standbyStamp (c : Fin 204) (stamp : Nat) (d : Dev) : Dev :=
  if d.sys.mode == .standby then
    match chanRole c with
    | .cc1 p => onPd p (fun x => { x with ccStamp := some stamp }) d
    | .cc2 p => onPd p (fun x => { x with ccStamp := some stamp }) d
    | _ => d
  else d

/-- A wake from STANDBY (15 R564, R565): the ports start from the unattached state of their ROLES and see their sinks, from the stamps of
their edge dies. -/
def wakeUp (d : Dev) : Dev :=
  let d1 := leaveStandby d
  if d1.sys.mode == d.sys.mode then d
  else forEach (indices 32) (fun p x => if (x.ports[p]).tc == .disabled then x else ccEval p (((x.pd[p]).ccStamp).getD x.tmr.tb) (toUnattached p (onPd p (fun y => { y with ccStamp := none }) x))) d1

/-! ### Timers -/

def fxTccdebounceExpiry (p : Fin 32) (d : Dev) : Dev := tryAttach p (stopTimer (.tccdebounceExpiry p) d)
/-- 03 R107. -/
def execTccdebounceExpiry (p : Fin 32) (s : State) : Host.Outcome State Fault Refusal := act (fxTccdebounceExpiry p) s

def fxTpddebounceExpiry (p : Fin 32) (d : Dev) : Dev :=
  let d1 := stopTimer (.tpddebounceExpiry p) d
  match (d.ports[p]).tc with
  | .attachWaitSrc => if isDrp d p then toUnattachedSnk p (tryRearm p d1) else toUnattached p (tryRearm p d1)
  | .attachWaitSnk => if isDrp d p then toUnattached p d1 else toUnattachedSnk p d1
  | .tryWaitSnk => toUnattachedSnk p d1
  | .attachedSrc => if (d.pd[p]).leaving then d1 else startDetach p d1
  | .debugSrc =>
    if (d.pd[p]).leaving then d1 else startDetach p (journalEvent 11 (0x8000 + 0x400 * p.val) (tcStat d p) p.val d1)
  | _ => d1
/-- 03 R107, R114. -/
def execTpddebounceExpiry (p : Fin 32) (s : State) : Host.Outcome State Fault Refusal := act (fxTpddebounceExpiry p) s

def fxTdrpExpiry (p : Fin 32) (d : Dev) : Dev :=
  let d1 := stopTimer (.tdrpExpiry p) d
  match (d.ports[p]).tc with
  | .unattachedSrc => if isDrp d p then toUnattachedSnk p d1 else d1
  | .unattachedSnk => if isDrp d p then toUnattached p d1 else d1
  | _ => d1
/-- 03 R107, R108. -/
def execTdrpExpiry (p : Fin 32) (s : State) : Host.Outcome State Fault Refusal := act (fxTdrpExpiry p) s

def fxTdrptryExpiry (p : Fin 32) (d : Dev) : Dev :=
  let d1 := stopTimer (.tdrptryExpiry p) d
  if (d.ports[p]).tc = .trySrc then
    startTimer (.tdrptrywaitExpiry p) (ticksOfMs 600)
      (presentRd p (onPd p (fun x => { x with deb := false }) (setTc p .tryWaitSnk (stopTimers (tcTimers p) d1))))
  else d1
/-- 03 R107. -/
def execTdrptryExpiry (p : Fin 32) (s : State) : Host.Outcome State Fault Refusal := act (fxTdrptryExpiry p) s

def fxTtryccdebounceExpiry (p : Fin 32) (d : Dev) : Dev :=
  let d1 := stopTimer (.ttryccdebounceExpiry p) d
  if (d.ports[p]).tc = .trySrc && rdOne d p then attachSource p d1 else d1
/-- 03 R107. -/
def execTtryccdebounceExpiry (p : Fin 32) (s : State) : Host.Outcome State Fault Refusal := act (fxTtryccdebounceExpiry p) s

def fxTdrptrywaitExpiry (p : Fin 32) (d : Dev) : Dev :=
  let d1 := stopTimer (.tdrptrywaitExpiry p) d
  if (d.ports[p]).tc = .tryWaitSnk && !vbusHigh4 d p then toUnattachedSnk p d1 else d1
/-- 03 R107. -/
def execTdrptrywaitExpiry (p : Fin 32) (s : State) : Host.Outcome State Fault Refusal := act (fxTdrptrywaitExpiry p) s

/-- TEMP_TRIP of an edge die is present (11 R434): entry 1 + e. -/
def dieTripped (d : Dev) (e : Fin 4) : Bool := d.sys.tempTrip[Fin.ofNat 6 (e.val + 1)]

def fxTerrorrecoveryExpiry (p : Fin 32) (d : Dev) : Dev :=
  let d1 := stopTimer (.terrorrecoveryExpiry p) d
  match (d.ports[p]).tc with
  | .errorRecovery => if dieTripped d (edgeOf p) then d1 else toUnattached p d1
  | .minimal => if (d.ports[p]).minAtt then d1 else present p .a15 false d1
  | _ => d1
/-- 03 R107, R123, 11 R434. -/
def execTerrorrecoveryExpiry (p : Fin 32) (s : State) : Host.Outcome State Fault Refusal := act (fxTerrorrecoveryExpiry p) s

/-! ### CC faults, VCONN and the cable -/

/-- The pin's termination and VCONN switch open; the port enters ErrorRecovery no later than the action of CC_FAULT (03 R104, R107). -/
def fxCcOvervoltage (p : Fin 32) (pin : Bool) (d : Dev) : Dev :=
  raise (portSrc p 4) (errorRecovery p 5 (vconnOff p (onPort p (fun q => { q with ccCut := q.ccCut ||| (if pin then 2 else 1) }) d)))
/-- 03 R104. -/
def execCcOvervoltage (p : Fin 32) (pin : Bool) (s : State) : Host.Outcome State Fault Refusal := act (fxCcOvervoltage p pin) s

def fxVconnOvercurrent (p : Fin 32) (d : Dev) : Dev :=
  if (d.ports[p]).vconnOn then
    let d1 := onPort p (fun q => { q with
      vconnOc := true, cableFinding := 0, cableEpr := false, cableActive := false, cableV := 20, cableI := 3000 }) (vconnOff p d)
    let d2 := raise (portSrc p 5) d1
    if explicit d2 p || (d2.ports[p]).capsSent != 0 then offerCaps p d2 else firstOffer p d2
  else d
/-- 03 R116. -/
def execVconnOvercurrent (p : Fin 32) (s : State) : Host.Outcome State Fault Refusal := act (fxVconnOvercurrent p) s

/-- A reverse block opens the switch and ends a discovery that ran; the first capabilities wait for it no longer (03 R113, R115, R119). -/
def fxVconnReverseBlock (p : Fin 32) (d : Dev) : Dev :=
  if (cableTimers p).any (timerRuns d) then firstOffer p (vconnOff p d) else vconnOff p d
/-- 03 R113, R115. -/
def execVconnReverseBlock (p : Fin 32) (s : State) : Host.Outcome State Fault Refusal := act (fxVconnReverseBlock p) s

def fxTvconnstableExpiry (p : Fin 32) (d : Dev) : Dev :=
  let d1 := stopTimer (.tvconnstableExpiry p) d
  if pdLive d p && (d.ports[p]).vconnOn && !(d.ports[p]).cableDone then
    startTimer (.discoverIdentityRetry p) (ticksOfMs (if explicit d p then 50 else 4)) (discoverTry p d1)
  else d1
/-- 03 R118, 04 R141. -/
def execTvconnstableExpiry (p : Fin 32) (s : State) : Host.Outcome State Fault Refusal := act (fxTvconnstableExpiry p) s

def fxDiscoverIdentityRetry (p : Fin 32) (d : Dev) : Dev := discoverNext p (stopTimer (.discoverIdentityRetry p) d)
/-- 03 R118. -/
def execDiscoverIdentityRetry (p : Fin 32) (s : State) : Host.Outcome State Fault Refusal := act (fxDiscoverIdentityRetry p) s

/-- Cable limits from an answer (03 R119): finding, current, voltage, EPR allowed, active. -/
def cableLimits (a : CableAnswer) : Nat × Nat × Nat × Bool × Bool :=
  if !a.ack || !a.isCable then (3, 3000, 20, false, false)
  else (if a.fiveA then 2 else 1, if a.fiveA then 5000 else 3000, if a.maxV.val = 3 then 50 else 20, a.epr && a.maxV.val == 3, a.active)

/-- The head of the transmit queue leaves it, and the next message goes out. -/
def pdPop (p : Fin 32) (d : Dev) : Dev :=
  let d1 := stopTimer (.tcrcreceiveExpiry p) (onPd p (fun x => { x with txQueue := x.txQueue.drop 1 }) d)
  if (d1.pd[p]).txQueue.isEmpty then d1 else startTimer (.tcrcreceiveExpiry p) (ticksOfMs 1) d1

/-- Cable answer of the journal (15 R578 class 3). -/
def cableRecord (p : Fin 32) (sop2 : Bool) (a : CableAnswer) : List Byte :=
  toLe 1 p.val ++ toLe 1 (b2n sop2) ++ toLe 1 (a.vdos.take 7).length ++ toLe 1 0 ++ bytesAt ((a.vdos.take 7).flatMap fun w => toLe 4 w.toNat) 0 28

def fxCableIdentityAnswer (p : Fin 32) (sop2 : Bool) (a : CableAnswer) (d : Dev) : Dev :=
  let q := d.ports[p]
  if !pdLive d p || !q.vconnOn || !(if sop2 then (d.pd[p]).sopSecond else (d.pd[p]).discoverTries != 0) then d
  else
    let d1 := journal 3 (cableRecord p sop2 a) d
    if sop2 || q.cableDone then discoverEnd p d1
    else
      let l := cableLimits a
      let d2 := onPort p (fun q => { q with
        cableFinding := l.1, cableI := l.2.1, cableV := l.2.2.1, cableEpr := l.2.2.2.1, cableActive := l.2.2.2.2, cableDone := true
        cableVid := a.vid, cablePid := a.pid }) (stopTimers (cableTimers p) d1)
      let d3 := if ((d2.pd[p]).txQueue.head?.map (·.kind)) == some .discoverIdentity then pdPop p d2 else d2
      let d4 := portEvent p 16 d3
      let d5 := if l.2.2.2.1 && l.2.2.2.2 && !(d4.pd[p]).sopSecond then
          pdSend p 2 .discoverIdentity [] (onPd p (fun x => { x with sopSecond := true }) d4)
        else d4
      discoverEnd p (firstOffer p d5)
/-- 03 R118 to R120. -/
def execCableIdentityAnswer (p : Fin 32) (sop2 : Bool) (a : CableAnswer) (s : State) : Host.Outcome State Fault Refusal :=
  act (fxCableIdentityAnswer p sop2 a) s

/-! ### Minimal mode -/

def fxMinimalAttachDebounce (p : Fin 32) (d : Dev) : Dev := tryAttach p (stopTimer (.minimalAttachDebounce p) d)
/-- 03 R123, 15 R569. -/
def execMinimalAttachDebounce (p : Fin 32) (s : State) : Host.Outcome State Fault Refusal := act (fxMinimalAttachDebounce p) s

def fxMinimalDetachDebounce (p : Fin 32) (d : Dev) : Dev :=
  let d1 := stopTimer (.minimalDetachDebounce p) d
  if (d.ports[p]).tc = .minimal && (d.ports[p]).minAtt then
    takeDeferred p (offRamp p (portEvent p 1 (onPort p (fun q => { q with minAtt := false, source := false, dfp := false })
      (onPd p (fun x => { x with deb := false }) d1))))
  else d1
/-- 03 R123. -/
def execMinimalDetachDebounce (p : Fin 32) (s : State) : Host.Outcome State Fault Refusal := act (fxMinimalDetachDebounce p) s

/-! ### Service readout -/

/-- A port answers service readout: a SERVICE port under an explicit contract (03 R134, R136). -/
def servicePort (d : Dev) (p : Fin 32) : Bool :=
  (portCfg d p).cls == 3 && explicit d p && isAttached (d.ports[p])

/-- Bytes as words, least byte first. -/
def wordsOfBytes (l : List Byte) : List Word := (List.range ((l.length + 3) / 4)).map fun i => w32 (fieldAt l (4 * i) 4)

/-- Header of a response (03 R136): the vendor identity, the protocol number, the command, the response bit and the tag. -/
def answerHeader (d : Dev) (cmd : Nat) (tag : Fin 128) : Word :=
  pack [(16, 16, d.sys.vid.toNat), (12, 3, 5), (8, 4, cmd), (7, 1, 1), (0, 7, tag.val)]

/-- One response (03 R136, R137): header, status, payload. -/
def serviceAnswer (p : Fin 32) (cmd : Nat) (tag : Fin 128) (status : Nat) (payload : List Byte) (d : Dev) : Dev :=
  portEvent p 17 (pdSend p 0 .vendorDefined (answerHeader d cmd tag :: w32 status :: wordsOfBytes payload) d)

/-- A request that a port does not accept gets Not_Supported (04 R147); one inside another sequence violates it (04 R176). -/
def serviceRequest (p : Fin 32) (f : Dev → Dev) (d : Dev) : Dev :=
  let d1 := takeMsg p .vendorDefined d
  if !hears d p then d1 else if !ready d p then sendSoftReset p d1 else if servicePort d p then f d1 else notSupported p false d1

def fxIdent (p : Fin 32) (tag : Fin 128) (d : Dev) : Dev :=
  serviceRequest p (fun x => serviceAnswer p 1 tag 0 (bytesAt (idBytes (unitId x) ++ toLe 1 x.sys.stepping ++ toLe 2 x.sys.date) 0 20) x) d
/-- 03 R137. -/
def execIdent (p : Fin 32) (tag : Fin 128) (s : State) : Host.Outcome State Fault Refusal := act (fxIdent p tag) s

def fxServiceState (p : Fin 32) (tag : Fin 128) (d : Dev) : Dev :=
  serviceRequest p (fun x =>
    serviceAnswer p 2 tag 0 (bytesAt (toLe 1 (modeCode x.sys.mode + 8 * b2n x.sys.deadcar) ++ toLe 1 x.coll.resetWhy ++ toLe 2 (latched x).length
      ++ toLe 8 x.store.postmark) 0 20) x) d
/-- 03 R137; the layout of the payload is log entry 18. -/
def execServiceState (p : Fin 32) (tag : Fin 128) (s : State) : Host.Outcome State Fault Refusal := act (fxServiceState p tag) s

def fxJtail (p : Fin 32) (tag : Fin 128) (arg : Nat) (d : Dev) : Dev :=
  serviceRequest p (fun x =>
    if !x.sys.storeOk then serviceAnswer p 3 tag 3 [] x
    else if x.jrn.busy then serviceAnswer p 3 tag 4 [] x
    else match x.jrn.written.reverse[arg]? with
      | some r => serviceAnswer p 3 tag 0 (toLe 4 r.1 ++ bytesAt r.2.bytes 0 16) x
      | none => serviceAnswer p 3 tag 2 [] x) d
/-- 03 R137. -/
def execJtail (p : Fin 32) (tag : Fin 128) (arg : Nat) (s : State) : Host.Outcome State Fault Refusal := act (fxJtail p tag arg) s

/-- An offset lies in the written part of the journal (03 R137). -/
def journalWritten (d : Dev) (ofs : Nat) : Bool := d.jrn.written.any fun r => decide (r.1 ≤ ofs) && decide (ofs < r.1 + r.2.bytes.length)

def fxJread (p : Fin 32) (tag : Fin 128) (arg : Nat) (d : Dev) : Dev :=
  serviceRequest p (fun x =>
    if !x.sys.storeOk then serviceAnswer p 4 tag 3 [] x
    else if x.jrn.busy then serviceAnswer p 4 tag 4 [] x
    else if arg % 4 = 0 && journalWritten x arg then serviceAnswer p 4 tag 0 ((List.range 20).map fun i => journalByte x (arg + i)) x
    else serviceAnswer p 4 tag 2 [] x) d
/-- 03 R137. -/
def execJread (p : Fin 32) (tag : Fin 128) (arg : Nat) (s : State) : Host.Outcome State Fault Refusal := act (fxJread p tag arg) s

def fxServiceFaults (p : Fin 32) (tag : Fin 128) (arg : Nat) (d : Dev) : Dev :=
  serviceRequest p (fun x =>
    let l := latched x
    if arg < l.length || arg = 0 then
      serviceAnswer p 5 tag 0 (((l.drop arg).take 5).flatMap fun n =>
        toLe 4 (pack [(0, 12, n.val), (12, 2, (x.sources[n]).eff), (16, 16, (x.sources[n]).count)]).toNat) x
    else serviceAnswer p 5 tag 2 [] x) d
/-- 03 R137. -/
def execServiceFaults (p : Fin 32) (tag : Fin 128) (arg : Nat) (s : State) : Host.Outcome State Fault Refusal := act (fxServiceFaults p tag arg) s

def fxServiceUnknownCmd (p : Fin 32) (tag : Fin 128) (cmd : Fin 16) (d : Dev) : Dev := serviceRequest p (serviceAnswer p cmd.val tag 1 []) d
/-- 03 R137. -/
def execServiceUnknownCmd (p : Fin 32) (tag : Fin 128) (cmd : Fin 16) (s : State) : Host.Outcome State Fault Refusal :=
  act (fxServiceUnknownCmd p tag cmd) s

end Sys2Proof.Machine
end

