-- ==== Sys2Proof/Machine/Phase.lean ====
section
/-! DEFINITION. Phases and loops (05): ramps, regions, truncation, hiccups, stage faults, retirement, the census, a bus below its range. -/

namespace Sys2Proof.Machine

/-! ### The loop -/

def fxReferenceRampEnd (p : Fin 32) (d : Dev) : Dev :=
  let l := d.loops[p]
  if !l.ramping then d
  else
    let d1 := onLoop p (fun l => { l with
      ref := l.target, refTb := d.tmr.tb, ramping := false, rampFor := .none, softStart := false, deForced := false, lc := 0
      uvFrom := d.tmr.tb + ticksOfMs 15 }) d
    if portMinimal d p && (l.rampFor = .minimal || l.rampFor = .softStart) then minimalAtFive p d1 else d1
/-- 05 R211, R215, R216; 03 R124: in minimal mode VCONN opens once the output stands at 5 V. For 5 ms the undervoltage comparison stays
suspended, and it lasts 10 ms before it raises VBUS_UV (05 R215). -/
def execReferenceRampEnd (p : Fin 32) (s : State) : Host.Outcome State Fault Refusal := act (fxReferenceRampEnd p) s

def fxOffRampEnd (p : Fin 32) (d : Dev) : Dev :=
  if (d.loops[p]).ramping && (d.loops[p]).rampFor == .offRamp then
    let d1 := discharge p true (phasesMid p d)
    if (d.pd[p]).disabling && vbusLow d p then post (.portDisableDone p) d1 else d1
  else d
/-- 05 R213, 07 R302. -/
def execOffRampEnd (p : Fin 32) (s : State) : Host.Outcome State Fault Refusal := act (fxOffRampEnd p) s

/-- The regions that stand side by side (05 R207). -/
def regionNext (a b : Region) : Bool := (a == .transition) != (b == .transition)

def fxRegionChange (p : Fin 32) (region : Region) (d : Dev) : Dev :=
  if (d.loops[p]).switching && regionNext (d.loops[p]).region region then
    markPhases p 9 id (onLoop p (fun l => { l with region := region }) d)
  else d
/-- 05 R207. -/
def execRegionChange (p : Fin 32) (region : Region) (s : State) : Host.Outcome State Fault Refusal := act (fxRegionChange p region) s

def fxTruncationStart (p : Fin 32) (d : Dev) : Dev :=
  if (d.loops[p]).switching && !(d.loops[p]).trunc then
    markPhases p 7 (fun f => { f with truncs := inc8 f.truncs }) (onLoop p (fun l => { l with trunc := true }) d)
  else d
/-- 05 R214. -/
def execTruncationStart (p : Fin 32) (s : State) : Host.Outcome State Fault Refusal := act (fxTruncationStart p) s

def fxTruncationEnd (p : Fin 32) (d : Dev) : Dev := onLoop p (fun l => { l with trunc := false }) d
/-- 05 R214. -/
def execTruncationEnd (p : Fin 32) (s : State) : Host.Outcome State Fault Refusal := act (fxTruncationEnd p) s

/-- PORT_START_FAIL (11 R432). -/
def srcStartFail : Fin 768 := srcOf 0x254

/-- A port latches off and PORT_START_FAIL is raised with the port (05 R218). -/
def latchPort (p : Fin 32) (d : Dev) : Dev := raiseAt srcStartFail p.val (latchOff p d)

def fxLimitAllowanceExceeded (p : Fin 32) (ph : Fin 64) (d : Dev) : Dev :=
  if !(d.loops[p]).switching || portOfPhase d ph != some p then d
  else if (loopCfg d p).mHiccup ≤ (d.loops[p]).hc then latchPort p d
  else raise (phaseSrc ph 0) (startHiccup p 0 d)
/-- 05 R216 to R218. -/
def execLimitAllowanceExceeded (p : Fin 32) (ph : Fin 64) (s : State) : Host.Outcome State Fault Refusal :=
  act (fxLimitAllowanceExceeded p ph) s

/-- SF of a port reads its fault level (05 R220). -/
def sfFault (d : Dev) (p : Fin 32) : Bool := (phasesOf d p).any fun n => (d.phases[n]).sf

/-- The port is to be supplied after a hiccup: attached as source, or in minimal mode. -/
def hiccupLive (q : Port) : Bool := isSrcAttached q.tc || (q.tc == .minimal && q.minAtt)

def fxHiccupOffTimeExpiry (p : Fin 32) (d : Dev) : Dev :=
  let d1 := stopTimer (.hiccupOffTimeExpiry p) d
  if !(d.loops[p]).hiccup then d1
  else if sfFault d p then startHiccup p 5 d1
  else if !hiccupLive (d.ports[p]) then onLoop p (fun l => { l with hiccup := false }) d1
  else
    let d2 := onPd p (fun x => { x with hiccupRestart := true }) (onLoop p (fun l => { l with hiccup := false }) d1)
    softStart p (diePort d p).slewSs (resetFence p 5000 d2)
/-- 05 R217, R220. -/
def execHiccupOffTimeExpiry (p : Fin 32) (s : State) : Host.Outcome State Fault Refusal := act (fxHiccupOffTimeExpiry p) s

def fxHiccupAgeOut (p : Fin 32) (d : Dev) : Dev := onLoop p (fun l => { l with hc := l.hc - 1 }) d
/-- 05 R216. -/
def execHiccupAgeOut (p : Fin 32) (s : State) : Host.Outcome State Fault Refusal := act (fxHiccupAgeOut p) s

def fxStageFault (p : Fin 32) (d : Dev) : Dev :=
  let l := phasesOf d p
  if l.isEmpty then d
  else
    let d1 := setPhases p .idle (markPhases p 8 (fun f => { f with sf := true }) d)
    let d2 := forEach l (fun n x => raise (phaseSrc n 3) x) d1
    if (d2.loops[p]).switching then stopPort p 5 d2 else d2
/-- 05 R220. -/
def execStageFault (p : Fin 32) (s : State) : Host.Outcome State Fault Refusal := act (fxStageFault p) s

def fxVbusUv (p : Fin 32) (d : Dev) : Dev :=
  let l := d.loops[p]
  let g := (d.guards[p]).state
  if (g == .closed || g == .limiting) && !l.ramping && decide (l.uvFrom ≤ d.tmr.tb) then
    sendHardReset p (raise (portSrc p 1) (markPhases p 10 id (onLoop p (fun l => { l with uv := true }) d)))
  else d
/-- 05 R215, 04 R180. -/
def execVbusUv (p : Fin 32) (s : State) : Host.Outcome State Fault Refusal := act (fxVbusUv p) s

/-! ### Retirement -/

/-- A cycle of a phase counts for its retirement (05 R221): it switches and the guard of its port is closed. -/
def silentCounts (d : Dev) (ph : Fin 64) : Bool :=
  (d.phases[ph]).state == .switching && (portOfPhase d ph).any fun p => guardOn (d.guards[p])

def fxPhaseSilent (ph : Fin 64) (d : Dev) : Dev :=
  if silentCounts d ph then raise (phaseSrc ph 1) (retire ph 1 d) else d
/-- 05 R221, R223. -/
def execPhaseSilent (ph : Fin 64) (s : State) : Host.Outcome State Fault Refusal := act (fxPhaseSilent ph) s

def fxSenseImplausible (ph : Fin 64) (d : Dev) : Dev :=
  match portOfPhase d ph with
  | some p =>
    if (d.phases[ph]).state == .switching && (d.guards[p]).state == .closed && !(d.loops[p]).ramping then
      raise (phaseSrc ph 2) (retire ph 2 d)
    else d
  | none => d
/-- 05 R222, R223. -/
def execSenseImplausible (ph : Fin 64) (s : State) : Host.Outcome State Fault Refusal := act (fxSenseImplausible ph) s

/-! ### The census -/

/-- A census passes (05 R196). -/
def censusPass (d : Dev) (n : Fin 64) (r : CensusResult) : Bool :=
  decide (200 ≤ r.zeroMv) && decide (r.zeroMv ≤ 400) && decide (ipeakOf d n ≤ 20 * r.peakMa) && decide (50 ≤ r.ownRise) && decide (r.foreignRise ≤ 20)

/-- Neither IMON nor any VOUT moved (05 R197). -/
def censusStill (d : Dev) (n : Fin 64) (r : CensusResult) : Bool :=
  decide (20 * r.peakMa < ipeakOf d n) && decide (r.ownRise < 50) && decide (r.foreignRise ≤ 20)

/-- The opcode of RESTORE_PHASE (12 R482). -/
def opRestorePhase : Nat := 0x0103

/-- The jobs of RESTORE_PHASE for a phase complete. -/
def restoreDone (n : Fin 64) (k : Code) (d : Dev) : Dev :=
  forEach (d.host.jobs.filter fun j => j.opcode == opRestorePhase && j.arg == n.val) (fun j x => complete j.ref j.opcode k (toLe 4 (censusReg (x.phases[n])).toNat) x) d

/-- A retired phase rejoins its port (05 R224, R225). -/
def restoreIn (n : Fin 64) (d : Dev) : Dev :=
  let d1 := setRetired (d.sys.retired &&& ~~~ BitVec.ofNat 64 (2 ^ n.val)) (phaseEvent n 1 d)
  let d2 := journalEvent 10 (0x10018 + 0x400 * n.val) 2 n.val (onPhase n (fun f => { f with why := 0, retire := false }) d1)
  match portOfPhase d n with
  | some p =>
    let d3 := updateCap p d2
    if (d3.ports[p]).tc == .disabled && (d3.ports[p]).enabled then toUnattached p d3 else d3
  | none => d2

/-- What the census of one phase gave (05 R196, R197, R224). -/
def censusResult (n : Fin 64) (r : CensusResult) (d : Dev) : Dev :=
  let again := d.sys.retired.getLsbD n.val
  let pass := censusPass d n r
  let d1 := onPhase n (fun f => { f with
    zeroMv := r.zeroMv, ownRise := r.ownRise, foreignPort := r.foreignPort, foreignRise := r.foreignRise, census := if pass then 1 else 2
    state := if pass || !again then .idle else .retired }) (phaseEvent n (if pass then 2 else 3) d)
  let d2 := journalEvent 10 (0x10018 + 0x400 * n.val) (if pass then 4 else 8) n.val d1
  if pass then
    if again then restoreDone n .done (restoreIn n d2)
    else match portOfPhase d n with
      | some p => updateCap p d2
      | none => d2
  else
    let d3 := if again then d2 else retire n 3 d2
    restoreDone n .censusFail (raise (phaseSrc n (if censusStill d n r then 1 else 2)) d3)

def fxCensusComplete (ph : Fin 64) (res : CensusResult) (d : Dev) : Dev :=
  if (d.phases[ph]).state != .census then d
  else
    let d1 := censusNext (edgeOfPhase ph) (censusResult ph res d)
    if !censusIdle d1 then tryAttachAll d1
    else if d1.sys.mode == .boot && d1.sys.bootStep == 8 then bootRelease d1
    else tryAttachAll (keepRecord d1)
/-- 05 R195 to R198, R224, R226; 15 R568, R571. -/
def execCensusComplete (ph : Fin 64) (res : CensusResult) (s : State) : Host.Outcome State Fault Refusal := act (fxCensusComplete ph res) s

def fxPendingCensus (busB : Bool) (d : Dev) : Dev :=
  if busPg d busB then
    censusStart ((indices 64).filter fun n => ((d.phases[n]).state == .pending || (d.phases[n]).due) && ((d.cfg.phases[n]).getD {}).busB == busB) d
  else d
/-- 05 R194. -/
def execPendingCensus (busB : Bool) (s : State) : Host.Outcome State Fault Refusal := act (fxPendingCensus busB) s

/-! ### The bus -/

/-- The ports of an edge die on a bus. -/
def busPorts (d : Dev) (e : Fin 4) (busB : Bool) : List (Fin 32) :=
  (diePorts e).filter fun p => !(phasesOf d p).isEmpty && portBus d p == busB

def fxBusVinLow (e : Fin 4) (busB : Bool) (d : Dev) : Dev :=
  forEach (busPorts d e busB) (fun p x => setPhases p .idle (onLoop p (fun l => { l with vinLow := true }) x)) d
/-- 05 R225. -/
def execBusVinLow (e : Fin 4) (busB : Bool) (s : State) : Host.Outcome State Fault Refusal := act (fxBusVinLow e busB) s

def fxBusVinRecover (e : Fin 4) (busB : Bool) (d : Dev) : Dev :=
  forEach (busPorts d e busB) (fun p x =>
    let y := onLoop p (fun l => { l with vinLow := false }) x
    if (y.loops[p]).switching then setPhases p .switching y else y) d
/-- 05 R225. -/
def execBusVinRecover (e : Fin 4) (busB : Bool) (s : State) : Host.Outcome State Fault Refusal := act (fxBusVinRecover e busB) s

end Sys2Proof.Machine
end

