-- ==== Sys2Proof/Machine/Guard.lean ====
section
/-! DEFINITION. Feed guards and port guards (07). -/

namespace Sys2Proof.Machine

/-! ### Feeds -/

/-- ELF is lost (07 R292). -/
def elfLost (d : Dev) : Bool := d.sys.retraining[elf]

/-- The enable of a feed (07 R275); under a lost link its own part is the one the feed die holds, and a feed whose enable was 0 then stays off
(07 R292). -/
def feedEnabled (d : Dev) (f : Fin 4) : Bool := (if elfLost d then (d.feeds[f]).enHeld else (d.feeds[f]).en) && (d.feeds[f]).fen

/-- The enable of a feed is 1: from OFF the feed enters WAIT (07 R275, R277), its channels at the levels of its section (02 R91). -/
def feedTryEnable (f : Fin 4) (d : Dev) : Dev :=
  if feedEnabled d f && (d.feeds[f]).state == .off && (d.cfg.feeds[f]).isSome then
    feedTryDelay f (onFeed f (fun x => { x with state := .wait }) (feedChans f d))
  else d

/-- The enable of a feed is 0 (07 R276): gate off, no PG_LOSS, the latch clears. -/
def feedOff (f : Fin 4) (d : Dev) : Dev := onFeed f (fun x => { x with state := .off, latchWhy := 0 }) (gateOff f d)

def fxFeedEnableRise (f : Fin 4) (d : Dev) : Dev := feedTryEnable f (onFeed f (fun x => { x with fen := true }) d)
/-- 07 R275, R277, R292. -/
def execFeedEnableRise (f : Fin 4) (s : State) : Host.Outcome State Fault Refusal := act (fxFeedEnableRise f) s

def fxFeedEnableFall (f : Fin 4) (d : Dev) : Dev := feedOff f (onFeed f (fun x => { x with fen := false }) d)
/-- 07 R276. -/
def execFeedEnableFall (f : Fin 4) (s : State) : Host.Outcome State Fault Refusal := act (fxFeedEnableFall f) s

def fxFeedWindowEnter (f : Fin 4) (d : Dev) : Dev :=
  feedTryDelay f (condEnd (feedSrc f 1) (condEnd (feedSrc f 0) (onFeed f (fun x => { x with inWindow := true, inUv := false, inOv := false }) d)))
/-- 07 R277, R278. -/
def execFeedWindowEnter (f : Fin 4) (s : State) : Host.Outcome State Fault Refusal := act (fxFeedWindowEnter f) s

/-- A feed enters RAMP (07 R277, R279): its gate charges; without ideal-diode control the diode FET goes on with it (07 R289). -/
def feedRamp (f : Fin 4) (d : Dev) : Dev :=
  onFeed f (fun x => { x with state := .ramp, diodeOn := x.diodeOn || !(feedCfg d f).fflags.getLsbD 0 }) d

def fxInsDelayExpiry (f : Fin 4) (d : Dev) : Dev :=
  let d1 := stopTimer (.insDelayExpiry f) d
  if (d.feeds[f]).state == .delay then
    let d2 := startTimer (.insTimeoutExpiry f) (ticksOfMs (feedCfg d f).insTimeout) d1
    if (d.feeds[f]).hot then onFeed f (fun x => { x with state := .cooling }) d2 else feedRamp f d2
  else d1
/-- 07 R277, R286. -/
def execInsDelayExpiry (f : Fin 4) (s : State) : Host.Outcome State Fault Refusal := act (fxInsDelayExpiry f) s

def fxInsTimeoutExpiry (f : Fin 4) (d : Dev) : Dev :=
  let d1 := stopTimer (.insTimeoutExpiry f) d
  let st := (d.feeds[f]).state
  if st == .ramp || st == .cooling then raise (feedSrc f 5) (latchFeed f 5 d1) else d1
/-- 07 R277. -/
def execInsTimeoutExpiry (f : Fin 4) (s : State) : Host.Outcome State Fault Refusal := act (fxInsTimeoutExpiry f) s

/-- The feed has left WAIT for an insertion (07 R278). -/
def feedInserting (x : Feed) : Bool := x.state == .delay || x.state == .ramp || x.state == .on || x.state == .cooling

/-- A window breach (07 R278): the feed returns to WAIT and its source is raised. -/
def feedBreach (f : Fin 4) (k ev : Nat) (d : Dev) : Dev :=
  if feedInserting (d.feeds[f]) then raise (feedSrc f k) (feedEvent f ev (gateOffLoss f (feedToWait f) d)) else d

def fxFeedUvBreach (f : Fin 4) (d : Dev) : Dev :=
  feedBreach f 0 6 (onFeed f (fun x => { x with inWindow := false, inUv := true, inOv := false }) d)
/-- 07 R278. -/
def execFeedUvBreach (f : Fin 4) (s : State) : Host.Outcome State Fault Refusal := act (fxFeedUvBreach f) s

def fxFeedOvBreach (f : Fin 4) (d : Dev) : Dev :=
  feedBreach f 1 7 (onFeed f (fun x => { x with inWindow := false, inUv := false, inOv := true }) d)
/-- 07 R278. -/
def execFeedOvBreach (f : Fin 4) (s : State) : Host.Outcome State Fault Refusal := act (fxFeedOvBreach f) s

/-- The gate of a feed is driven. -/
def gateDriven (x : Feed) : Bool := x.state == .ramp || x.state == .on

/-- A fault timer that starts to count up, and one that starts to count down (07 R274). -/
def timerUp (d : Dev) (t : FaultTimer) : FaultTimer := { count := faultCount d t, since := d.tmr.tb, up := true }
def timerDown (d : Dev) (t : FaultTimer) : FaultTimer := { count := faultCount d t, since := d.tmr.tb, up := false }

def fxFeedLimitStart (f : Fin 4) (foldback : Bool) (d : Dev) : Dev :=
  let x := d.feeds[f]
  if !gateDriven x then d
  else if x.limiting then onFeed f (fun x => { x with foldback := foldback }) d
  else
    let d1 := onFeed f (fun x => { x with limiting := true, foldback := foldback, timer := timerUp d x.timer, pgWarn := x.pgWarn || x.pg }) d
    let d2 := feedEvent f 3 (onlyIf (x.pg && !x.pgWarn) (feedEvent f 2) d1)
    startTimer (.feedFaultTimerExpiry f) (50 * (feedCfg d f).ftimer - faultCount d x.timer) d2
/-- 07 R281, R274, R291. -/
def execFeedLimitStart (f : Fin 4) (foldback : Bool) (s : State) : Host.Outcome State Fault Refusal := act (fxFeedLimitStart f foldback) s

def fxFeedLimitEnd (f : Fin 4) (d : Dev) : Dev :=
  if (d.feeds[f]).limiting then
    stopTimer (.feedFaultTimerExpiry f) (onFeed f (fun x => { x with
      limiting := false, foldback := false, timer := timerDown d x.timer, pgWarn := x.pg && decide ((feedCfg d f).pgVds < 10 * Config.feedVds d.freeCtr f) }) d)
  else d
/-- 07 R274, R291. -/
def execFeedLimitEnd (f : Fin 4) (s : State) : Host.Outcome State Fault Refusal := act (fxFeedLimitEnd f) s

def fxFeedFaultTimerExpiry (f : Fin 4) (d : Dev) : Dev :=
  let x := d.feeds[f]
  let d1 := stopTimer (.feedFaultTimerExpiry f) d
  if x.limiting then raise (feedSrc f (if x.foldback then 7 else 2)) (gateOffLoss f (latchFeed f (if x.foldback then 3 else 1)) d1) else d1
/-- 07 R282. -/
def execFeedFaultTimerExpiry (f : Fin 4) (s : State) : Host.Outcome State Fault Refusal := act (fxFeedFaultTimerExpiry f) s

def fxFeedOvercurrentTrip (f : Fin 4) (d : Dev) : Dev :=
  if gateDriven (d.feeds[f]) then raise (feedSrc f 2) (gateOffLoss f (latchFeed f 2) d) else d
/-- 07 R283. -/
def execFeedOvercurrentTrip (f : Fin 4) (s : State) : Host.Outcome State Fault Refusal := act (fxFeedOvercurrentTrip f) s

/-- A temperature trip of the hot-swap FET (07 R286). -/
def fetTrip (f : Fin 4) (d : Dev) : Dev :=
  let d1 := onFeed f (fun x => { x with hot := true }) d
  raise (feedSrc f 3) (if gateDriven (d.feeds[f]) then gateOffLoss f (latchFeed f 4) d1 else d1)

/-- The FET has cooled below its release level (07 R277, R286). -/
def fetCooled (f : Fin 4) (d : Dev) : Dev :=
  let d1 := condEnd (feedSrc f 3) (onFeed f (fun x => { x with hot := false }) d)
  if (d.feeds[f]).state == .cooling then feedRamp f (feedEvent f 9 d1) else d1

def fxFetTempTrip (f : Fin 4) (d : Dev) : Dev := fetTrip f d
/-- 07 R284 to R286. -/
def execFetTempTrip (f : Fin 4) (s : State) : Host.Outcome State Fault Refusal := act (fxFetTempTrip f) s

def fxFetTempRelease (f : Fin 4) (d : Dev) : Dev := fetCooled f d
/-- 07 R277. -/
def execFetTempRelease (f : Fin 4) (s : State) : Host.Outcome State Fault Refusal := act (fxFetTempRelease f) s

/-- One step of the thermal model (07 R285), which starts at Tdie, kept in units of 10^-9 degrees: tdie in 0.125 degrees, power in 0.1 W (log entry 12). -/
def modelStep (d : Dev) (f : Fin 4) (tdie power : Int) : Int :=
  let c := feedCfg d f
  let t := if (d.feeds[f]).modelOn then (d.feeds[f]).model else tdie * 125000000
  let p := if gateDriven (d.feeds[f]) then power else 0
  t + (tdie * 125000000 + p * (c.rth : Int) * 1000000 - t) / (100 * (c.tau : Int))

def fxFeedModelStep (f : Fin 4) (tdie power : Int) (d : Dev) : Dev :=
  let c := feedCfg d f
  if c.tsrc != 1 || c.tau == 0 then d
  else
    let t := modelStep d f tdie power
    let d1 := onFeed f (fun x => { x with model := t, modelOn := true, temp := t / 125000000 }) d
    if !(d.feeds[f]).hot && decide ((c.tfet : Int) * 1000000000 ≤ t) then fetTrip f d1
    else if (d.feeds[f]).hot && decide (t < ((c.tfet : Int) - 10) * 1000000000) then fetCooled f d1
    else d1
/-- 07 R285, R286. -/
def execFeedModelStep (f : Fin 4) (tdie power : Int) (s : State) : Host.Outcome State Fault Refusal := act (fxFeedModelStep f tdie power) s

/-- The bus of a feed. -/
def feedBusB (f : Fin 4) : Bool := decide (2 ≤ f.val)

/-- A DRP port that behaved as a Sink port for want of power-good alternates again (03 R107, R112). -/
def resumeDrp (p : Fin 32) (d : Dev) : Dev :=
  if (d.ports[p]).tc == .unattachedSnk && isDrp d p && anyPg d && !timerRuns d (.tdrpExpiry p) && !isShadow d && d.sys.mode != .standby then
    startTimer (.tdrpExpiry p) 1875000 d
  else d

/-- What a bus that regains power-good brings (05 R194, 07 R280): the census of its PENDING phases, the soft starts and attaches that
waited. -/
def busGood (busB : Bool) (d : Dev) : Dev :=
  let d1 := onlyIf ((indices 64).any fun n => ((d.phases[n]).state == .pending || (d.phases[n]).due) && ((d.cfg.phases[n]).getD {}).busB == busB)
    (post (.pendingCensus busB)) d
  let d2 := forEach ((indices 32).filter fun p => (d1.pd[p]).ssDue && portBus d1 p == busB) startPort d1
  tryAttachAll (forEach (indices 32) resumeDrp d2)

def fxFeedPowerGood (f : Fin 4) (d : Dev) : Dev :=
  let x := d.feeds[f]
  if gateDriven x && !x.pg && !x.timer.up then
    let d1 := stopTimer (.insTimeoutExpiry f) (onFeed f (fun x => { x with pg := true, state := .on }) d)
    let d2 := feedEvent f 0 (onlyIf (x.state == .ramp) (fun y => feedEvent f 8 (onFeed f (fun z => { z with inserts := inc8 z.inserts }) y)) d1)
    if busPg d (feedBusB f) then d2 else busGood (feedBusB f) d2
  else d
/-- 07 R290, 05 R194. -/
def execFeedPowerGood (f : Fin 4) (s : State) : Host.Outcome State Fault Refusal := act (fxFeedPowerGood f) s

def fxFeedReverseTurnOff (f : Fin 4) (d : Dev) : Dev :=
  if !(feedCfg d f).fflags.getLsbD 0 then d
  else if (d.feeds[f]).diodeOn then
    raise (feedSrc f 4) (feedEvent f 5 (onFeed f (fun x => { x with diodeOn := false, blocking := true, reverses := inc8 x.reverses }) d))
  else onFeed f (fun x => { x with blocking := true }) d
/-- 07 R287 to R289. -/
def execFeedReverseTurnOff (f : Fin 4) (s : State) : Host.Outcome State Fault Refusal := act (fxFeedReverseTurnOff f) s

def fxDiodeRedrive (f : Fin 4) (d : Dev) : Dev :=
  if (feedCfg d f).fflags.getLsbD 0 && d.sys.vgdKeep then onFeed f (fun x => { x with diodeOn := true, blocking := false }) d else d
/-- 07 R287; below 9.0 V of VGD every gate driver pulls its gate off (07 R272). -/
def execDiodeRedrive (f : Fin 4) (s : State) : Host.Outcome State Fault Refusal := act (fxDiodeRedrive f) s

/-! ### VGD -/

/-- VGD_UV and VCONN_IN_UV (11 R432). -/
def srcVgdUv : Fin 768 := srcOf 0x255
def srcVconnUv : Fin 768 := srcOf 0x256

/-- VGD is below 10.5 V (07 R272): feeds that wait to insert return to WAIT, VGD_UV is raised while a feed or a port is enabled. -/
def vgdBelow (d : Dev) : Dev :=
  let d1 := onSys (fun s => { s with vgdStart := false }) d
  let d2 := forEach ((indices 4).filter fun f => (d.feeds[f]).state == .delay || (d.feeds[f]).state == .cooling) feedToWait d1
  let used := (indices 4).any (feedEnabled d) || (indices 32).any fun p => (d.ports[p]).enabled
  if used && d.sys.vgdStart then raise srcVgdUv d2 else d2

def fxVgdBelowStartLevel (d : Dev) : Dev := vgdBelow d
/-- 07 R272, 11 R433. -/
def execVgdBelowStartLevel (s : State) : Host.Outcome State Fault Refusal := act fxVgdBelowStartLevel s

/-- Every gate is pulled off without a latch (07 R272), those of the diode FETs too; power-good falls with PG_LOSS (07 R291). -/
def gatesOff (d : Dev) : Dev :=
  let d0 := forEach ((indices 4).filter fun f => gateDriven (d.feeds[f])) (fun f x => gateOffLoss f (feedToWait f) x) d
  let d1 := { d0 with feeds := d0.feeds.map fun x => { x with diodeOn := false } }
  forEach (indices 32) (fun p x => onGuard p (fun g => { g with discharge := false }) (openGuard p 6 x)) d1

def fxVgdLow (d : Dev) : Dev := gatesOff (onSys (fun s => { s with vgdKeep := false }) (vgdBelow d))
/-- 07 R272, R291. -/
def execVgdLow (s : State) : Host.Outcome State Fault Refusal := act fxVgdLow s

def fxVgdRecover (d : Dev) : Dev :=
  forEach (indices 4) feedTryDelay (condEnd srcVgdUv (onSys (fun s => { s with vgdStart := true, vgdKeep := true }) d))
/-- 07 R272, 11 R433. -/
def execVgdRecover (s : State) : Host.Outcome State Fault Refusal := act fxVgdRecover s

/-! ### Port guards -/

/-- A port whose guard is to close once VOUT stands at 5 V (05 R213). -/
def guardWanted (d : Dev) (p : Fin 32) : Bool :=
  let q := d.ports[p]; let l := d.loops[p]
  (isSrcAttached q.tc || (q.tc == .minimal && q.minAtt)) && l.switching && l.rampFor != .offRamp && ccSettled d p && !(d.pd[p]).leaving && !(d.pd[p]).disabling

def fxGuardCloseStart (p : Fin 32) (d : Dev) : Dev :=
  if guardWanted d p && (d.guards[p]).state == .openG && d.sys.vgdStart && !extest d then
    onGuard p (fun g => { g with state := .closing, discharge := false, reached := false }) d
  else d
/-- 05 R213; 07 R272, R294, R302. -/
def execGuardCloseStart (p : Fin 32) (s : State) : Host.Outcome State Fault Refusal := act (fxGuardCloseStart p) s

/-- What the port core does at GUARD_CLOSED (03 R113, 04 R171, 05 R217): the first offer, or PS_RDY of a swap. -/
def onClosed (p : Fin 32) (d : Dev) : Dev :=
  let x := d.pd[p]
  if !pdSource d p then d
  else if x.ams == .prSwapSnk then pdSend p 0 .psRdy [] d
  else if x.hiccupRestart then
    firstOffer p (onPd p (fun x => { x with hiccupRestart := false, rxId := none, txId := 0 }) (onPort p (fun q => { q with capsSent := 0 }) d))
  else firstOffer p d

def fxGuardClosed (p : Fin 32) (d : Dev) : Dev :=
  let g := d.guards[p]
  if g.state == .closing || (g.state == .limiting && !g.reached) then
    fromDie (linkOf (edgeOf p)) (.guardClosed p) (onClosed p) (guardEvent p 0 (onGuard p (fun g => { g with state := .closed, reached := true }) d))
  else d
/-- 07 R294, 03 R113, 01 R631. -/
def execGuardClosed (p : Fin 32) (s : State) : Host.Outcome State Fault Refusal := act (fxGuardClosed p) s

def fxGuardLimitStart (p : Fin 32) (foldback : Bool) (d : Dev) : Dev :=
  let g := d.guards[p]
  if g.state == .limiting then onGuard p (fun g => { g with foldback := foldback }) d
  else if g.state == .closing || g.state == .closed then
    let d1 := onGuard p (fun g => { g with
      state := .limiting, foldback := foldback, timer := timerUp d g.timer, limits := inc8 g.limits, event := setBit g.event 2 }) d
    startTimer (.guardFaultTimerExpiry p) (50 * (diePort d p).gtimer - faultCount d g.timer) d1
  else d
/-- 07 R296, R274. -/
def execGuardLimitStart (p : Fin 32) (foldback : Bool) (s : State) : Host.Outcome State Fault Refusal := act (fxGuardLimitStart p foldback) s

def fxGuardLimitEnd (p : Fin 32) (d : Dev) : Dev :=
  if (d.guards[p]).state == .limiting then
    stopTimer (.guardFaultTimerExpiry p) (onGuard p (fun g => { g with
      state := if g.reached then .closed else .closing, foldback := false, timer := timerDown d g.timer }) d)
  else d
/-- 07 R296, R274. -/
def execGuardLimitEnd (p : Fin 32) (s : State) : Host.Outcome State Fault Refusal := act (fxGuardLimitEnd p) s

/-- A guard trip (07 R297, R300): latch, GUARD_TRIP, ErrorRecovery. -/
def guardTrip (p : Fin 32) (why : Nat) (d : Dev) : Dev :=
  errorRecovery p why (raise (portSrc p 2) (latchGuard p why why (onPd p (fun x => { x with guardTripTb := some d.tmr.tb }) d)))

def fxGuardFaultTimerExpiry (p : Fin 32) (d : Dev) : Dev :=
  let d1 := stopTimer (.guardFaultTimerExpiry p) d
  if (d.guards[p]).state == .limiting then
    guardTrip p 2 (onGuard p (fun g => { g with timerTrips := inc8 g.timerTrips, event := setBit g.event 4 }) d1)
  else d1
/-- 07 R297, R300. -/
def execGuardFaultTimerExpiry (p : Fin 32) (s : State) : Host.Outcome State Fault Refusal := act (fxGuardFaultTimerExpiry p) s

def fxGuardShortTrip (p : Fin 32) (d : Dev) : Dev :=
  if guardOn (d.guards[p]) then
    guardTrip p 1 (onGuard p (fun g => { g with shortTrips := inc8 g.shortTrips, event := setBit g.event 3 }) d)
  else d
/-- 07 R297, R300. -/
def execGuardShortTrip (p : Fin 32) (s : State) : Host.Outcome State Fault Refusal := act (fxGuardShortTrip p) s

def fxGuardTemp (p : Fin 32) (byVds : Bool) (d : Dev) : Dev :=
  let g := d.guards[p]
  if if byVds then g.state == .closed else guardOn g then
    let d1 := onGuard p (fun g => { g with event := setBit g.event 6, therm := if byVds then g.therm else max g.therm ((diePort d p).pguard / 4) }) d
    errorRecovery p 4 (raise (portSrc p 3) (latchGuard p (if byVds then 4 else 3) 4 d1))
  else d
/-- 07 R299, R300. -/
def execGuardTemp (p : Fin 32) (byVds : Bool) (s : State) : Host.Outcome State Fault Refusal := act (fxGuardTemp p byVds) s

def fxDeferredRearm (p : Fin 32) (d : Dev) : Dev :=
  let d1 := onGuard p (fun g => { g with therm := min g.therm ((diePort d p).pguard / 16) }) d
  let g := d.guards[p]
  if g.rearmDue && g.state == .latched && decide (g.rearms60 < 3) then tryAttach p (doRearm p d1) else d1
/-- 07 R301. -/
def execDeferredRearm (p : Fin 32) (s : State) : Host.Outcome State Fault Refusal := act (fxDeferredRearm p) s

def fxRearmAgeOut (p : Fin 32) (d : Dev) : Dev :=
  onGuard p (fun g => { g with rearms60 := g.rearms60 - 1, rearmSpent := decide (3 ≤ g.rearms60 - 1) }) d
/-- 07 R301. -/
def execRearmAgeOut (p : Fin 32) (s : State) : Host.Outcome State Fault Refusal := act (fxRearmAgeOut p) s

def fxDischargeDone (p : Fin 32) (d : Dev) : Dev :=
  if (d.guards[p]).discharge then
    guardEvent p 8 (onGuard p (fun g => { g with discharge := (d.ports[p]).tc == .disabled }) d)
  else d
/-- 07 R302. -/
def execDischargeDone (p : Fin 32) (s : State) : Host.Outcome State Fault Refusal := act (fxDischargeDone p) s

end Sys2Proof.Machine
end

