-- ==== Sys2Proof/Machine/Access.lean ====
section
/-! DEFINITION. Who may write what (00 R7, R8; 12 R459, R460): the owner's writes, bound writes, refusals. -/

namespace Sys2Proof.Machine

/-- A master is the owner (12 R491). -/
def isOwner (d : Dev) (m : Fin 5) : Bool := d.host.owner == some m

/-- A write is refused (12 R460): counted, and REFUSED stands in the status byte of the transaction. -/
def refuse (m : Fin 5) : Dev → Dev := onMaster m fun x => { x with refused := inc8 x.refused, status := x.status ||| 2 }

/-- A read of an unmapped word (12 R461): 0, with UNMAPPED. -/
def unmappedRead (m : Fin 5) : Dev → Dev := onMaster m fun x => { x with reply := [0], status := x.status ||| 4 }

/-- A write that only the owner may make (00 R7 RW, W1C, W1S, WO). -/
def ownerWrite (m : Fin 5) (f : Dev → Dev) (d : Dev) : Dev := if isOwner d m then f d else refuse m d

/-- A write bound to one master (12 R459). -/
def boundWrite (b : Option (Fin 5)) (m : Fin 5) (f : Dev → Dev) (d : Dev) : Dev := if b == some m then f d else refuse m d

/-- A write of an RWD register (00 R7): the owner's, while its block is disabled. -/
def disabledWrite (m : Fin 5) (off : Bool) (f : Dev → Dev) (d : Dev) : Dev := if isOwner d m && off then f d else refuse m d

/-- W1C and W1S (00 R7). -/
def w1c (old v : Word) : Word := old &&& ~~~ v
def w1s (old v : Word) : Word := old ||| v

end Sys2Proof.Machine
end

