-- ==== Sys2Proof/Machine/Monitor.lean ====
section
/-! DEFINITION. Monitor channels, live calibration and converters (06). -/

namespace Sys2Proof.Machine

/-! ### Converters -/

/-- The members of a sequence in SCAN order (02 R62). -/
def seqMembers (d : Dev) (cv : Fin 5) (sq : Fin 16) : List ScanCfg := (scanPlan d cv).scans.filter fun s => s.sq == sq && sq != 0

/-- The TRIGGER record of a sequence. -/
def trigOf (d : Dev) (cv : Fin 5) (sq : Fin 16) : Option TrigCfg := (scanPlan d cv).trigs.find? fun t => t.sq == sq

/-- A sequence changed. -/
def onSeq (cv : Fin 5) (sq : Fin 16) (f : Sequence → Sequence) : Dev → Dev := onConv cv fun c => { c with seqs := upd c.seqs sq f }

/-- A trigger of an enabled sequence (06 R261, R262; 02 R62): dropped within TMIN, dropped while the sequence runs or waits, else it
starts or waits in order of arrival. -/
def trigSeq (cv : Fin 5) (sq : Fin 16) (stamp : Nat) (d : Dev) : Dev :=
  let c := d.convs[cv]
  let q := c.seqs[sq]
  let tmin := match trigOf d cv sq with | some t => if t.tkind = 0 then 0 else t.tmin | none => 0
  if sq = 0 || !c.seqEn.getLsbD sq.val || (seqMembers d cv sq).isEmpty then d
  else if q.lastTrig.any fun t => decide (stamp < t + 50 * tmin) then
    convEvent cv 16 (onSeq cv sq (fun q => { q with drops := inc8 q.drops }) d)
  else if (c.running.map Prod.fst) == some sq || q.waiting.isSome then
    convEvent cv 17 (onSeq cv sq (fun q => { q with overruns := sat 15 (q.overruns + 1) }) d)
  else
    let d1 := onSeq cv sq (fun q => { q with lastTrig := some stamp }) d
    if c.running.isSome then onConv cv (fun c => { c with order := c.order ++ [sq] }) (onSeq cv sq (fun q => { q with waiting := some stamp }) d1)
    else onConv cv (fun c => { c with running := some (sq, stamp), startTb := d.tmr.tb }) d1

/-- The next waiting sequence starts (06 R262). -/
def seqNext (cv : Fin 5) (d : Dev) : Dev :=
  let c := d.convs[cv]
  match c.order with
  | [] => onConv cv (fun c => { c with running := none }) d
  | sq :: rest =>
    onSeq cv sq (fun q => { q with waiting := none })
      (onConv cv (fun c => { c with running := some (sq, ((c.seqs[sq]).waiting).getD 0), order := rest, startTb := d.tmr.tb }) d)

/-- A result reaches MONc_RESULT (06 R260, R266). -/
def putResult (ch : Fin 204) (v : BitVec 16) (d : Dev) : Dev :=
  onChan ch (fun x => { x with result := v, results := wrapInc 16 x.results, resultTb := d.tmr.tb }) d

/-- Results dealt to the enabled members of a sequence in order; a disabled member is skipped and invalid. -/
def dealResults (d : Dev) : List ScanCfg → List (BitVec 16) → List (Option (Fin 204 × BitVec 16))
  | [], _ => []
  | m :: ms, rs =>
    if (d.chans[m.chan]).enabled then
      match rs with
      | r :: rest => some (m.chan, r) :: dealResults d ms rest
      | [] => none :: dealResults d ms []
    else none :: dealResults d ms rs

/-- A result that a member has reaches its channel. -/
def putGot (g : Option (Fin 204 × BitVec 16)) (d : Dev) : Dev :=
  match g with
  | some (ch, v) => putResult ch v d
  | none => d

/-- The result block of a sequence that ends (06 R263, R264). -/
def writeBlock (cv : Fin 5) (sq : Fin 16) (stamp : Nat) (results : List (BitVec 16)) (incomplete : Bool) (d : Dev) : Dev :=
  let ms := seqMembers d cv sq
  let got := dealResults d ms results
  let d1 := forEach got putGot d
  onSeq cv sq (fun q =>
    let k := if incomplete then q.completions else wrapInc 16 q.completions
    { q with
      completions := k, incomplete := incomplete
      block := {
        stamp := stamp, number := k, members := ms.length, incomplete := incomplete
        valid := BitVec.ofNat 16 ((got.zipIdx).foldl (fun a g => if g.1.isSome then a + 2 ^ g.2 else a) 0)
        data := Vector.ofFn fun i => match got[i.val]? with | some (some g) => g.2 | _ => 0 } }) d1

def fxConverterTrigger (cv : Fin 5) (sq : Fin 16) (stamp : Nat) (d : Dev) : Dev := trigSeq cv sq stamp d
/-- 06 R261, R262, 02 R62. -/
def execConverterTrigger (cv : Fin 5) (sq : Fin 16) (stamp : Nat) (s : State) : Host.Outcome State Fault Refusal :=
  act (fxConverterTrigger cv sq stamp) s

/-- The block of a sequence that has run reaches the hub, with DONE (06 R263, R269). -/
def takeBlock (cv : Fin 5) (sq : Fin 16) (stamp : Nat) (results : List (BitVec 16)) (d : Dev) : Dev :=
  convEvent cv sq.val (writeBlock cv sq stamp results false d)

def fxSequenceComplete (cv : Fin 5) (results : List (BitVec 16)) (d : Dev) : Dev :=
  match (d.convs[cv]).running with
  | some (sq, stamp) =>
    seqNext cv (if d.sys.retraining[cv] then lossPut cv (.block cv sq stamp results) d else takeBlock cv sq stamp results d)
  | none => d
/-- 06 R263, R262; over a lost link the block waits on the die and the next sequence starts there (01 R631). -/
def execSequenceComplete (cv : Fin 5) (results : List (BitVec 16)) (s : State) : Host.Outcome State Fault Refusal :=
  act (fxSequenceComplete cv results) s

def fxContinuousResult (ch : Fin 204) (res : BitVec 16) (d : Dev) : Dev :=
  if (d.chans[ch]).enabled then fromDie (dieOf ch) (.continuousResult ch res) (putResult ch res) d else d
/-- 06 R260, R264; 01 R631. -/
def execContinuousResult (ch : Fin 204) (res : BitVec 16) (s : State) : Host.Outcome State Fault Refusal := act (fxContinuousResult ch res) s

/-- Triggers by CVx_TRIG (06 R265). -/
def trigMany (cv : Fin 5) (v : Word) (d : Dev) : Dev :=
  forEach ((indices 16).filter fun s => s.val != 0 && bit v s.val) (fun s x => trigSeq cv s x.tmr.tb x) d

def fxCvxTrig (m : Fin 5) (cv : Fin 5) (v : Word) (d : Dev) : Dev := ownerWrite m (onlyIf (!d.sys.retraining[cv]) (trigMany cv v)) d
/-- 06 R265; a write that a lost link discards never reaches the converter and is not sent again (01 R630). -/
def execCvxTrig (m : Fin 5) (cv : Fin 5) (v : Word) (s : State) : Host.Outcome State Fault Refusal := act (fxCvxTrig m cv v) s

/-- Members that a sequence has converted, the one in progress among them, after some time (06 R256, R261): a sample takes 12.5 ticks
on an edge converter and 200 ticks on FC. -/
def membersDone (cv : Fin 5) (ticks : Nat) : List ScanCfg → Nat
  | [] => 0
  | m :: ms =>
    let t := m.ovs * (if cv.val < 4 then 25 else 400)
    if 2 * ticks < t then 1 else 1 + membersDone cv (ticks - (t + 1) / 2) ms

/-- A sequence is disabled (06 R264): its partial block is written with the members converted, whose results are free values (log
entry 5); a waiting trigger goes. -/
def seqStop (cv : Fin 5) (sq : Fin 16) (d : Dev) : Dev :=
  let c := d.convs[cv]
  let d1 := onConv cv (fun c => { c with seqEn := c.seqEn &&& ~~~ BitVec.ofNat 16 (2 ^ sq.val), order := c.order.filter (· != sq) })
    (onSeq cv sq (fun q => { q with waiting := none }) d)
  match c.running with
  | some (r, stamp) =>
    if r = sq then
      let n := min (membersDone cv (d.tmr.tb - c.startTb) (seqMembers d cv sq)) (seqMembers d cv sq).length
      let vals := (List.range n).map fun i => (Config.freeWord (d.freeCtr + i)).setWidth 16
      seqNext cv (convEvent cv 18 (writeBlock cv sq stamp vals true { d1 with freeCtr := d1.freeCtr + n }))
    else d1
  | none => d1

def fxSeqEnDisable (m : Fin 5) (cv : Fin 5) (sq : Fin 16) (d : Dev) : Dev := ownerWrite m (seqStop cv sq) d
/-- 06 R264. -/
def execSeqEnDisable (m : Fin 5) (cv : Fin 5) (sq : Fin 16) (s : State) : Host.Outcome State Fault Refusal := act (fxSeqEnDisable m cv sq) s

def fxContEnClear (m : Fin 5) (cv : Fin 5) (d : Dev) : Dev := ownerWrite m (onConv cv fun c => { c with contEn := false }) d
/-- 06 R264. -/
def execContEnClear (m : Fin 5) (cv : Fin 5) (s : State) : Host.Outcome State Fault Refusal := act (fxContEnClear m cv) s

/-- A read of RESs_STAMP_LO (06 R263): the whole block goes into the reader's buffer. -/
def loadBuffer (b : Fin 21) (cv : Fin 5) (sq : Fin 16) : Dev → Dev :=
  onConv cv fun c => { c with buffers := upd c.buffers b fun b => b.set sq (some (c.seqs[sq]).block) }

def fxRessStampLoRead (m : Fin 5) (cv : Fin 5) (sq : Fin 16) (d : Dev) : Dev :=
  if d.sys.mode == .recovery then unmappedRead m d
  else onMaster m (fun x => { x with reply := [wordOf ((d.convs[cv]).seqs[sq]).block.stamp 0] }) (loadBuffer (bufOf m) cv sq d)
/-- 06 R263; in RECOVERY the word is unmapped (14 R553). -/
def execRessStampLoRead (m : Fin 5) (cv : Fin 5) (sq : Fin 16) (s : State) : Host.Outcome State Fault Refusal := act (fxRessStampLoRead m cv sq) s

/-! ### Zones -/

/-- The capture of a change of zone by an interval timer (10 R423, 06 R246). -/
def capture (t : Fin 16) (ch : Fin 204) (z : Zone) (stamp : Nat) (d : Dev) : Dev :=
  let x := d.itms[t]
  if x.captures.length < 16 then
    onTmr (fun y => { y with summary := setBit y.summary (16 + t.val) }) (onItm t (fun x => { x with captures := x.captures ++ [⟨stamp, ch, z, x.count⟩] }) d)
  else onItm t (fun x => { x with capOvf := true, drops := inc8 x.drops }) d

/-- The converter of a die. -/
def convOf (ch : Fin 204) : Fin 5 := dieOf ch

/-- Sequences that a channel triggers (06 R248). -/
def chanTriggers (d : Dev) (ch : Fin 204) : List (Fin 16) :=
  ((scanPlan d (convOf ch)).trigs.filter fun t => t.tkind = 2 && t.tindex = ch.val).map (·.sq)

/-- The event bit of a zone (06 R267). -/
def zoneEvent : Zone → Nat
  | .inWin => 0 | .above => 1 | .below => 2 | .unsettled => 3

/-- The sequences that a change of zone triggers, on the die itself (06 R248). -/
def zoneTriggers (ch : Fin 204) (stamp : Nat) (d : Dev) : Dev := forEach (chanTriggers d ch) (fun s y => trigSeq (convOf ch) s stamp y) d

/-- One change of zone (06 R238, R245 to R247) that the filters let pass, at the hub: event, count, capture, wake, and the port behind the
channel. -/
def zoneHub (ch : Fin 204) (z : Zone) (stamp : Nat) (d : Dev) : Dev :=
  let x := d.chans[ch]
  let old := x.zone
  let d1 := chanEvent ch (zoneEvent z) (onChan ch (fun x => { chanFilter ch z x with changes := wrapInc 16 x.changes }) d)
  let d2 := onlyIf (x.route.getLsbD 1) (capture x.capt ch z stamp) d1
  let d3 := onlyIf (x.route.getLsbD 2 && (d.sys.mode == .standby) && isWindow ch) wakeUp (standbyStamp ch stamp d2)
  portZone ch old z stamp d3

/-- One change of zone, at the die and at the hub (06 R245 to R248). -/
def zoneTo (ch : Fin 204) (z : Zone) (stamp : Nat) (d : Dev) : Dev := zoneHub ch z stamp (zoneTriggers ch stamp d)

/-- A change of zone that a die reports (06 R237, R240): of a channel that is settled, holds no zone and enters another. -/
def zoneMoves (d : Dev) (ch : Fin 204) (z : Zone) : Bool :=
  let x := d.chans[ch]
  x.enabled && !x.frozen && z != .unsettled && x.zone != .unsettled && !(isWindow ch && x.zone == z)

/-- A change of zone that waited on its die. -/
def takeZone (ch : Fin 204) (z : Zone) (stamp : Nat) (d : Dev) : Dev := onlyIf (zoneMoves d ch z) (zoneHub ch z stamp) d

def fxMonitorZoneChange (ch : Fin 204) (z : Zone) (stamp : Nat) (d : Dev) : Dev :=
  let x := d.chans[ch]
  if !chanRuns d ch then d
  else if d.sys.retraining[dieOf ch] then
    onlyIf (x.enabled && z != .unsettled) (fun y => lossPut (dieOf ch) (.report (.monitorZoneChange ch z stamp)) (zoneTriggers ch stamp y)) d
  else onlyIf (zoneMoves d ch z) (zoneTo ch z stamp) d
/-- 06 R237, R240, R245 to R248; over a lost link the die triggers its sequences and keeps the event (01 R631). -/
def execMonitorZoneChange (ch : Fin 204) (z : Zone) (stamp : Nat) (s : State) : Host.Outcome State Fault Refusal :=
  act (fxMonitorZoneChange ch z stamp) s

/-- A channel's thresholds have settled (06 R243). -/
def settled (ch : Fin 204) (d : Dev) : Dev := chanEvent ch 3 (onChan ch (fun x => { x with unsetHi := false, unsetLo := false }) d)

/-- A channel leaves UNSETTLED (06 R243): SETTLED, and entry into its zone as a change of zone. -/
def leaveUnsettled (ch : Fin 204) (z : Zone) (stamp : Nat) (d : Dev) : Dev := zoneTo ch z stamp (settled ch d)

/-- A channel that is UNSETTLED and may enter a zone. -/
def zoneOpens (d : Dev) (ch : Fin 204) (z : Zone) : Bool :=
  (d.chans[ch]).enabled && isWindow ch && (d.chans[ch]).zone == .unsettled && z != .unsettled

/-- A settled channel that waited on its die. -/
def takeSettle (ch : Fin 204) (z : Zone) (stamp : Nat) (d : Dev) : Dev := onlyIf (zoneOpens d ch z) (fun y => zoneHub ch z stamp (settled ch y)) d

def fxChannelSettle (ch : Fin 204) (z : Zone) (stamp : Nat) (d : Dev) : Dev :=
  if !chanRuns d ch || !zoneOpens d ch z then d
  else if d.sys.retraining[dieOf ch] then lossPut (dieOf ch) (.report (.channelSettle ch z stamp)) (zoneTriggers ch stamp d)
  else leaveUnsettled ch z stamp d
/-- 06 R243; 01 R631. -/
def execChannelSettle (ch : Fin 204) (z : Zone) (stamp : Nat) (s : State) : Host.Outcome State Fault Refusal := act (fxChannelSettle ch z stamp) s

/-- MONc_CMD.SETTLE (06 R244): each unsettled threshold takes the side of the middle of its band, the settled ones keep their state. A write
that a lost link discards never reaches the channel (01 R630). -/
def settleForce (m : Fin 5) (ch : Fin 204) (aboveHi aboveLo : Bool) (d : Dev) : Dev :=
  let x := d.chans[ch]
  if chanRuns d ch && !d.sys.retraining[dieOf ch] && x.enabled && isWindow ch && x.zone == .unsettled then
    let hi := if x.unsetHi then aboveHi else x.tripHi
    let lo := if x.unsetLo then !aboveLo else x.tripLo
    let z : Zone := if hi then .above else if lo then .below else .inWin
    let a := if ch.val < 192 then 0x20018 + 0x40 * ch.val else 0x23018 + 0x40 * (ch.val - 192)
    leaveUnsettled ch z d.tmr.tb (onChan ch (fun x => { x with forced := true }) (journalWrite 7 a 1 m ch.val d))
  else d

def fxSettle (m : Fin 5) (ch : Fin 204) (aboveHi aboveLo : Bool) (d : Dev) : Dev := ownerWrite m (settleForce m ch aboveHi aboveLo) d
/-- 06 R244, 15 R578. -/
def execSettle (m : Fin 5) (ch : Fin 204) (aboveHi aboveLo : Bool) (s : State) : Host.Outcome State Fault Refusal :=
  act (fxSettle m ch aboveHi aboveLo) s

def fxChannelHoldEnd (ch : Fin 204) (z : Zone) (stamp : Nat) (d : Dev) : Dev :=
  let x := d.chans[ch]
  if !x.frozen || decide (d.tmr.tb < x.holdEnd) then d
  else
    let d1 := stopTimersIf (isHoldEnd ch) (onChan ch (fun x => { x with frozen := false }) d)
    if x.enabled && isWindow ch && x.zone != .unsettled && z != .unsettled && x.zone != z then zoneTo ch z stamp d1
    else portZone ch x.zone x.zone stamp d1
/-- 06 R240, 03 R101: the hold ends 100 us after it began; the port looks at its pins again. -/
def execChannelHoldEnd (ch : Fin 204) (z : Zone) (stamp : Nat) (s : State) : Host.Outcome State Fault Refusal := act (fxChannelHoldEnd ch z stamp) s

/-! ### Live calibration -/

/-- PAUSE and STEP_MS (06 R268). -/
def calPaused (d : Dev) : Bool := d.sys.monCtl % 2 == 1

/-- A channel takes part in the rotation: it runs and is not UNSETTLED (06 R251). -/
def calTakes (d : Dev) (c : Fin 204) : Bool := (d.chans[c]).enabled && (d.chans[c]).zone != .unsettled

/-- The rounds a die has completed: the least of its groups (06 R268). -/
def dieRounds (d : Dev) (die : Fin 5) : Nat :=
  let gs := (indices 25).filter fun g => if die.val = 4 then g.val == 24 else g.val / 6 == die.val && g.val != 24
  gs.foldl (fun a g => min a (d.groups[g]).rounds) ((d.groups[gs.headD 0]).rounds)

/-- The die of a calibration group. -/
def groupDie (g : Fin 25) : Fin 5 := Fin.ofNat 5 (if g.val = 24 then 4 else g.val / 6)

/-- The position of the next channel to take, from a position on, in the group's order; whether the order wrapped. -/
def calFrom (d : Dev) (l : List (Fin 204)) (turn : Nat) : Option (Fin 204 × Bool) :=
  match (l.drop turn).find? (calTakes d) with
  | some c => some (c, false)
  | none => (l.find? (calTakes d)).map fun c => (c, true)

/-- The rotation moves on after a channel; at the end of the order a round is complete (06 R249, R268). -/
def calAdvance (g : Fin 25) (c : Fin 204) (d : Dev) : Dev :=
  let l := groupChans g
  let i := l.findIdx (· == c)
  let wrap := decide (l.length ≤ i + 1)
  let d1 := onGroup g (fun x => { x with
    now := none, stage := 0, retries := 0, useB := !x.useB, turn := if wrap then 0 else i + 1
    rounds := if wrap then x.rounds + 1 else x.rounds, lastSkips := if wrap then x.skips else x.lastSkips, skips := if wrap then 0 else x.skips }) d
  onSys (fun s => { s with monRounds := s.monRounds.set (groupDie g) (dieRounds d1 (groupDie g) % 256) }) d1

/-- CAL_STOP (11 R432). -/
def srcCalStop : Fin 768 := srcOf 0x25E

/-- The spare of a step cannot be trimmed (06 R254): it is marked failed; a group without a spare stops. -/
def spareFail (g : Fin 25) (d : Dev) : Dev :=
  let x := d.groups[g]
  let b := if x.failedA then true else if x.failedB then false else x.useB
  let d1 := onGroup g (fun x => { x with
    failedA := x.failedA || !b, failedB := x.failedB || b, stopped := (x.failedA || !b) && (x.failedB || b), useB := !b }) d
  let s := spareA g + b2n b
  let d2 := journalEvent 8 (if s < 32 then 0x23C0C else 0x23C10) (BitVec.ofNat 32 (2 ^ (s % 32))) g.val d1
  if (d2.groups[g]).stopped then raise srcCalStop (journalEvent 8 0x23C00 0 g.val d2) else d2

def fxCalStep (g : Fin 25) (spareOk : Bool) (d : Dev) : Dev :=
  let x := d.groups[g]
  if calPaused d || x.stopped || x.now.isSome then d
  else
    let l := groupChans g
    let pick : Option (Fin 204) :=
      match l.find? fun c => (d.chans[c]).waiting.isSome && calTakes d c with
      | some c => some c
      | none => match x.next with
        | some c => if calTakes d c then some c else (calFrom d l x.turn).map Prod.fst
        | none => (calFrom d l x.turn).map Prod.fst
    match pick with
    | none => d
    | some c =>
      if !spareOk then spareFail g d
      else onGroup g (fun x => { x with now := some c, next := none, stage := 4, retries := 0 }) d
/-- 06 R249, R250, R254, R255. -/
def execCalStep (g : Fin 25) (spareOk : Bool) (s : State) : Host.Outcome State Fault Refusal := act (fxCalStep g spareOk) s

/-- The trim after a readback error in 1/16 LSB, in quarter LSB: the offset moves against the error (06 R252); beyond 32 LSB it is a
drift and the last trim stays. -/
def trimNew (x : Chan) (err : Int) : Option Int :=
  let t := x.trimOfs - err / 4
  if -128 ≤ t ∧ t ≤ 127 then some t else none

/-- A channel takes its output back (06 R250 step 6, R252): trim, waiting levels, events, drift. The readback error that the command carries
moves the offset trim; the gain trim that the device finds with it is free (log entry 5). -/
def calFinish (c : Fin 204) (err : Int) (d : Dev) : Dev :=
  let x := d.chans[c]
  let d1 := onChan c (fun x =>
    let y := { x with spare := false, trimErr := err, calTb := d.tmr.tb, cals := wrapInc 16 x.cals, drift := (trimNew x err).isNone
                      trimOfs := (trimNew x err).getD x.trimOfs, event := setBit x.event 4
                      trimGain := if (trimNew x err).isSome then ((Config.freeWord d.freeCtr).setWidth 8).toInt else x.trimGain }
    match x.waiting with
    | some (a, b, u, v) => { y with thrHi := a, relHi := b, thrLo := u, relLo := v, waiting := none, event := setBit y.event 7 }
    | none => y) { d with freeCtr := d.freeCtr + 1 }
  if (trimNew x err).isSome then onlyIf (!timerRuns d .trimWrite) (startTimer .trimWrite (ticksOfS 86400)) (onSys (fun s => { s with trimDue := true }) d1)
  else
    let a := if c.val < 192 then 0x20010 + 0x40 * c.val else 0x23010 + 0x40 * (c.val - 192)
    post .trimWrite (onSys (fun s => { s with trimDue := true }) (journalEvent 8 a 0x40 c.val (chanEvent c 6 d1)))

def fxCalAgreement (g : Fin 25) (err : Int) (d : Dev) : Dev :=
  let x := d.groups[g]
  match x.now with
  | none => d
  | some c =>
    if x.stage = 4 then onGroup g (fun x => { x with stage := 6, retries := 0 }) (onChan c (fun x => { x with spare := true }) d)
    else calAdvance g c (calFinish c err d)
/-- 06 R250, R252. -/
def execCalAgreement (g : Fin 25) (err : Int) (s : State) : Host.Outcome State Fault Refusal := act (fxCalAgreement g err) s

def fxCalRetry (g : Fin 25) (d : Dev) : Dev :=
  let x := d.groups[g]
  match x.now with
  | none => d
  | some c =>
    if x.retries < 4 then onGroup g (fun x => { x with retries := x.retries + 1 }) d
    else
      calAdvance g c (onGroup g (fun x => { x with skips := x.skips + 1 }) (chanEvent c 5 (onChan c (fun x => { x with spare := false }) d)))
/-- 06 R251. -/
def execCalRetry (g : Fin 25) (s : State) : Host.Outcome State Fault Refusal := act (fxCalRetry g) s

def fxTrimWrite (d : Dev) : Dev :=
  let d1 := stopTimer .trimWrite d
  if d.sys.trimDue then
    startTimer .trimWrite (ticksOfS 86400) (journalEvent 8 0x23C00 (BitVec.ofNat 32 d.sys.monCtl) 0
      (onSys (fun s => { s with trimDue := false, trimTb := d.tmr.tb }) d1))
  else startTimer .trimWrite (ticksOfS 86400) d1
/-- 06 R252, 15 R578: trim writes are journalled. -/
def execTrimWrite (s : State) : Host.Outcome State Fault Refusal := act fxTrimWrite s

def fxCalNext (m : Fin 5) (ch : Fin 204) (d : Dev) : Dev := ownerWrite m (onGroup (groupOf ch) fun x => { x with next := some ch }) d
/-- 06 R255. -/
def execCalNext (m : Fin 5) (ch : Fin 204) (s : State) : Host.Outcome State Fault Refusal := act (fxCalNext m ch) s

/-- MON_CAL_CTL (06 R268): PAUSE and STEP_MS, clamped to 1 to 100. -/
def calCtl (v : Word) (d : Dev) : Dev := onSys (fun s => { s with monCtl := bits v 0 1 + 2 * max 1 (min 100 (bits v 1 7)) }) d

def fxMonCalCtlWrite (m : Fin 5) (v : Word) (d : Dev) : Dev := ownerWrite m (calCtl v) d
/-- 06 R268. -/
def execMonCalCtlWrite (m : Fin 5) (v : Word) (s : State) : Host.Outcome State Fault Refusal := act (fxMonCalCtlWrite m v) s

end Sys2Proof.Machine
end

