-- ==== Sys2Proof/Machine/Timers.lean ====
section
/-! DEFINITION. Timers and alarms (10): the reads with side effects, ring doorbells, triggers, alarms, interval timers, TMR_GO, steps of the time base. -/

namespace Sys2Proof.Machine

/-! ### Reads with side effects -/

/-- What a read of one word does besides returning it (00 R7; 06 R263, 10 R405, 07 R303, 09 R401): through a master's or a telemetry
ring's buffers. -/
def readEffect (b : Fin 21) (a : Nat) (d : Dev) : Dev :=
  match locIn d a with
  | .timer 0 => onTmr (fun t => { t with tbHi := t.tbHi.set b (t.tb / 2 ^ 32 % 2 ^ 32) }) d
  | .conv c o =>
    if 0x100 ≤ o ∧ o < 0x4C0 ∧ (o - 0x100) % 0x40 = 0 then loadBuffer b c (Fin.ofNat 16 ((o - 0x100) / 0x40 + 1)) d else d
  | .feed f 0x04 => onFeed f (fun x => { x with hubLost := x.hubLost && !d.sys.edgeUp[elf] }) d
  | .twin 0x1C => onTwin (fun t => { t with lsAgeMax := 0 }) d
  | _ => d

/-- One word read (12 R466): its value, then its side effect; none outside every window (12 R461). -/
def readOne (m : Fin 5) (b : Fin 21) (a : Nat) (d : Dev) : Option Word × Dev := (peekVia d m b a, readEffect b a d)

/-- Words read in address order (12 R466). -/
def readMany (m : Fin 5) (b : Fin 21) : List Nat → Dev → List (Option Word) × Dev
  | [], d => ([], d)
  | a :: r, d =>
    let x := readOne m b a d
    let y := readMany m b r x.2
    (x.1 :: y.1, y.2)

/-! ### Ring doorbells -/

/-- A fetch from a command ring is due. -/
def refetch (r : Fin 16) (d : Dev) : Dev := if timerRuns d (.commandFetch r) then d else post (.commandFetch r) d

/-- The doorbell of a command ring (12 R473): new entries are to be fetched; in STANDBY it is a wake source (15 R564). -/
def wantFetch (r : Fin 16) (d : Dev) : Dev := refetch r (wakeUp d)

/-- TAIL of a command ring takes a value that fits (12 R471, R472). -/
def moveTail (c : RingCfg) (v : BitVec 16) (g : Ring) : Ring :=
  let full := g.tail != v && decide ((v - g.head).toNat = c.entries)
  { g with tail := v, event := putBit g.event 1 (g.event.getLsbD 1 || full) }

/-- The 64 bytes of a telemetry entry (12 R488). -/
def telemetryBytes (stamp seq : Nat) (vals : List Word) (gap : Bool) : List Byte :=
  bytesAt (toLe 8 stamp ++ toLe 4 seq ++ toLe 1 vals.length ++ toLe 1 (b2n gap) ++ toLe 2 0 ++ vals.flatMap fun w => toLe 4 w.toNat) 0 64

/-- A telemetry doorbell (12 R488): the named registers read in order, one entry written. -/
def telemetry (r : Fin 16) (c : RingCfg) (d : Dev) : Dev :=
  let g := d.host.rings[r]
  let x := readMany c.master (bufOfRing r) (g.addrs.getD []) d
  ringOffer r (telemetryBytes d.tmr.tb g.telSeq (x.1.map (·.getD 0))) (onRing r (fun g => { g with telSeq := wrapInc 32 g.telSeq }) x.2)

/-- An index write of a ring respects 12 R472: ahead of the old index by no more than the ring has room for. -/
def tailFits (c : RingCfg) (g : Ring) (v : BitVec 16) : Bool := decide ((v - g.tail).toNat ≤ c.entries - ringHeld g)

/-- A timer doorbell (12 R474). -/
def doorbell (r : Fin 16) (d : Dev) : Dev :=
  match d.cfg.host.rings[r] with
  | none => d
  | some c =>
    let g := d.host.rings[r]
    if c.kind = 0 then
      if g.arm != g.tail && tailFits c g g.arm then wantFetch r (onRing r (moveTail c g.arm) d)
      else onRing r (fun g => { g with event := setBit g.event 4 }) d
    else if c.kind = 4 then telemetry r c d
    else onRing r (fun g => { g with event := putBit g.event 0 (g.event.getLsbD 0 || (g.coalesce && decide (0 < ringHeld g))) }) d

/-! ### Triggers -/

/-- A trigger is launched (10 R418): a converter sequence unless its die's link is lost (10 R420), a ring, or an interval timer, which
starts at the next tick. -/
def launch (kind index sub : Nat) (d : Dev) : Dev :=
  if kind = 1 then
    let cv : Fin 5 := Fin.ofNat 5 index
    if index < 5 && d.sys.edgeUp[cv] then trigSeq cv (Fin.ofNat 16 sub) d.tmr.tb d else d
  else if kind = 2 then (if index < 16 then doorbell (Fin.ofNat 16 index) d else d)
  else if kind = 3 then (if index < 16 then onItm (Fin.ofNat 16 index) (fun x => { x with startDue := true }) d else d)
  else d

/-! ### Alarms -/

/-- A compare value lies ahead of TB (10 R407): 1 to 2^63 - 1 ticks, modulo 2^64. -/
def isAhead (d : Dev) (c : Nat) : Bool :=
  let k := (c + 2 ^ 64 - d.tmr.tb % 2 ^ 64) % 2 ^ 64
  decide (1 ≤ k) && decide (k < 2 ^ 63)

/-- An alarm fires (10 R408, R409, R425). -/
def fireAlarm (a : Fin 32) (late stepped : Bool) (d : Dev) : Dev :=
  let x := d.alarms[a]
  let d1 := onAlarm a (fun x => { x with
    armed := false, wasLate := late, stepped := stepped, fireTb := d.tmr.tb, fires := sat 0xFFFF (x.fires + 1)
    lates := if late then inc8 x.lates else x.lates }) d
  launch x.tkind x.tindex x.tsub (onTmr (fun t => { t with fired := setBit t.fired a.val }) d1)

def fxAlmCmpLoWrite (m : Fin 5) (a : Fin 32) (v : Word) (d : Dev) : Dev := ownerWrite m (onAlarm a fun x => { x with staged := v.toNat }) d
/-- 10 R407. -/
def execAlmCmpLoWrite (m : Fin 5) (a : Fin 32) (v : Word) (s : State) : Host.Outcome State Fault Refusal := act (fxAlmCmpLoWrite m a v) s

/-- ALMn_CMP_HI (10 R407): the staged low word and the high word are committed two ticks later. -/
def cmpHi (a : Fin 32) (v : Word) (d : Dev) : Dev := startTimer (.alarmCommit a) 2 (onAlarm a (fun x => { x with commitHi := some v.toNat, commitLo := x.staged }) d)

def fxAlmCmpHiWrite (m : Fin 5) (a : Fin 32) (v : Word) (d : Dev) : Dev := ownerWrite m (cmpHi a v) d
/-- 10 R407. -/
def execAlmCmpHiWrite (m : Fin 5) (a : Fin 32) (v : Word) (s : State) : Host.Outcome State Fault Refusal := act (fxAlmCmpHiWrite m a v) s

def fxAlarmCommit (a : Fin 32) (d : Dev) : Dev :=
  let x := d.alarms[a]
  match x.commitHi with
  | none => d
  | some h =>
    let c := x.commitLo + h * 2 ^ 32
    let d1 := stopTimer (.alarmCommit a) (onAlarm a (fun x => { x with cmp := c, commitHi := none, missed := false }) d)
    if isAhead d c then onAlarm a (fun x => { x with armed := true }) d1
    else if x.late then fireAlarm a true false d1
    else
      onTmr (fun t => { t with missed := setBit t.missed a.val })
        (onAlarm a (fun x => { x with armed := false, missed := true, misses := inc8 x.misses }) d1)
/-- 10 R407, R408. -/
def execAlarmCommit (a : Fin 32) (s : State) : Host.Outcome State Fault Refusal := act (fxAlarmCommit a) s

/-- The compare value of an alarm has been reached (10 R409). -/
def alarmDue (d : Dev) (a : Fin 32) : Bool := (d.alarms[a]).armed && !isAhead d (d.alarms[a]).cmp

def fxAlarmFire (a : Fin 32) (stepped : Bool) (d : Dev) : Dev := if alarmDue d a then fireAlarm a false stepped d else d
/-- 10 R409, R425. -/
def execAlarmFire (a : Fin 32) (stepped : Bool) (s : State) : Host.Outcome State Fault Refusal := act (fxAlarmFire a stepped) s

/-- ALMn_CMD.CANCEL (10 R411): the alarm is IDLE two ticks later. -/
def cancelAlarm (a : Fin 32) : Dev → Dev := onAlarm a fun x => { x with cancelIn := 2 }

def fxCancel (m : Fin 5) (a : Fin 32) (d : Dev) : Dev := ownerWrite m (cancelAlarm a) d
/-- 10 R411. -/
def execCancel (m : Fin 5) (a : Fin 32) (s : State) : Host.Outcome State Fault Refusal := act (fxCancel m a) s

/-! ### Interval timers -/

/-- An interval timer starts, or starts again; several starts in one tick count as one (10 R416). -/
def startNow (x : Itm) : Itm :=
  match x.state with
  | .running =>
    if x.started then { x with load := true } else { x with load := true, started := true, restart := true, restarts := inc8 x.restarts }
  | _ => { x with state := .running, load := true, started := true, restart := false }

/-- A start of an interval timer (10 R415, R416): HELD ignores it; the count loads at the next tick. -/
def startItm (t : Fin 16) : Dev → Dev :=
  onItm t fun x => match x.state with
    | .held => x
    | .stopped => startNow x
    | .running => startNow x

/-- A release by TMR_GO (10 R421): STOPPED, HELD and RUNNING alike. -/
def releaseItm (t : Fin 16) : Dev → Dev := onItm t startNow

def fxItmZero (t : Fin 16) (d : Dev) : Dev :=
  let x := d.itms[t]
  if x.state != .running then d
  else
    let d1 := onItm t (fun x => { x with
      count := 0, zero := true, zeroTb := d.tmr.tb, zeros := wrapInc 16 x.zeros, load := !x.oneShot
      state := if x.oneShot then .stopped else .running }) d
    launch x.tkind x.tindex x.tsub (onTmr (fun y => { y with summary := setBit y.summary t.val }) d1)
/-- 10 R413. -/
def execItmZero (t : Fin 16) (s : State) : Host.Outcome State Fault Refusal := act (fxItmZero t) s

/-- ITMn_RELOAD (10 R414): into the buffer two ticks later, a value below 2 as 2. -/
def reloadItm (t : Fin 16) (v : Word) : Dev → Dev := onItm t fun x => { x with newReload := some (max 2 v.toNat, 2) }

def fxItmReloadWrite (m : Fin 5) (t : Fin 16) (v : Word) (d : Dev) : Dev := ownerWrite m (reloadItm t v) d
/-- 10 R414. -/
def execItmReloadWrite (m : Fin 5) (t : Fin 16) (v : Word) (s : State) : Host.Outcome State Fault Refusal := act (fxItmReloadWrite m t v) s

def fxItmStart (m : Fin 5) (t : Fin 16) (d : Dev) : Dev := ownerWrite m (startItm t) d
/-- 10 R415, R416. -/
def execItmStart (m : Fin 5) (t : Fin 16) (s : State) : Host.Outcome State Fault Refusal := act (fxItmStart m t) s

/-- ITMn_CMD.STOP (10 R417): it takes effect two ticks later. -/
def stopItm (t : Fin 16) : Dev → Dev := onItm t fun x => { x with stopIn := 2 }

def fxItmStop (m : Fin 5) (t : Fin 16) (d : Dev) : Dev := ownerWrite m (stopItm t) d
/-- 10 R417. -/
def execItmStop (m : Fin 5) (t : Fin 16) (s : State) : Host.Outcome State Fault Refusal := act (fxItmStop m t) s

/-- The oldest capture goes (10 R424); CAP_OVF clears when the queue empties (10 R427). -/
def popCapture (t : Fin 16) : Dev → Dev := onItm t fun x => { x with captures := x.captures.tail, capOvf := x.capOvf && !x.captures.tail.isEmpty }

def fxCapPop (m : Fin 5) (t : Fin 16) (d : Dev) : Dev := ownerWrite m (popCapture t) d
/-- 10 R424. -/
def execCapPop (m : Fin 5) (t : Fin 16) (s : State) : Host.Outcome State Fault Refusal := act (fxCapPop m t) s

/-! ### TMR_GO -/

/-- The timers of a mask. -/
def goTimers (mask : Nat) : List (Fin 16) := (indices 16).filter fun t => mask.testBit t.val

/-- A release takes place (10 R421, R422). -/
def goRelease (mask : Nat) (d : Dev) : Dev := tmrEvent 1 (forEach (goTimers mask) releaseItm d)

/-- A write of TMR_GO (10 R421, R422): its effect comes two ticks later; it replaces a pending dated release. -/
def goWrite (v : Word) (d : Dev) : Dev :=
  let d1 := stopTimer .tmrGoDatedRelease (onTmr (fun t => { t with goMask := bits v 0 16, goPending := bit v 16, goEffect := 2 }) d)
  d1

def fxTmrGo (m : Fin 5) (v : Word) (d : Dev) : Dev := ownerWrite m (goWrite v) d
/-- 10 R421, R422. -/
def execTmrGo (m : Fin 5) (v : Word) (s : State) : Host.Outcome State Fault Refusal := act (fxTmrGo m v) s

def fxTmrGoDatedRelease (d : Dev) : Dev :=
  if d.tmr.goPending && d.tmr.goEffect = 0 && !isAhead d d.tmr.goArmed then
    goRelease d.tmr.goMask (stopTimer .tmrGoDatedRelease (onTmr (fun t => { t with goPending := false }) d))
  else d
/-- 10 R422. -/
def execTmrGoDatedRelease (s : State) : Host.Outcome State Fault Refusal := act fxTmrGoDatedRelease s

def fxTbLoRead (m : Fin 5) (d : Dev) : Dev :=
  if d.sys.mode == .recovery then unmappedRead m d
  else onMaster m (fun x => { x with reply := [wordOf d.tmr.tb 0] }) (readEffect (bufOf m) 0x4000 d)
/-- 10 R405; in RECOVERY the word is unmapped (14 R553). -/
def execTbLoRead (m : Fin 5) (s : State) : Host.Outcome State Fault Refusal := act (fxTbLoRead m) s

/-! ### Steps of the time base -/

/-- An instant of TB that a step moves along: every duration that runs, but no dated instant (10 R425, 08 R347). -/
def isDated (e : Instr) : Bool :=
  match e with
  | .pendingHandEffective _ | .switchEffective | .orderEffective | .dealPeriodBoundary | .bidSlot | .dealerDealSlot | .dealMissCheck
  | .syncSlot | .handoverInstant | .trdpPublish _ => true
  | _ => false

/-- TB steps (10 R425): ARMED alarms of the span fire with STEPPED, or are shifted where `shift` says so; running durations keep
their length (15 R578 class 13). -/
def tbStep (k : Nat) (shift : Bool) (d : Dev) : Dev :=
  if k = 0 then d
  else
    let d1 := if shift then
        { d with alarms := d.alarms.map fun a => if a.armed && a.shift then { a with cmp := (a.cmp + k) % 2 ^ 64 } else a
                 tmr := { d.tmr with goArmed := if d.tmr.goPending then (d.tmr.goArmed + k) % 2 ^ 64 else d.tmr.goArmed } }
      else d
    let d2 := { d1 with
      tmr := { d1.tmr with tb := (d1.tmr.tb + k) % 2 ^ 64, stepSize := k }
      timers := d1.timers.map fun t => if isDated t.2 then t else (t.1 + k, t.2) }
    let d3 := forEach ((indices 32).filter (alarmDue d2)) (fun a x => post (.alarmFire a true) x) (tmrEvent 0 d2)
    journal 13 (toLe 8 d.tmr.tb ++ toLe 8 d3.tmr.tb ++ toLe 6 d.sys.aon ++ toLe 2 0) d3

end Sys2Proof.Machine
end

