-- ==== Sys2Proof/Machine/CommandCheck.lean ====
section
/-! DEFINITION. The checks of a fetched command (12 R480), and the commands of ports and phases (12 R482). -/

namespace Sys2Proof.Machine

/-- The commands of a group: CONFIG (0x02xx and LEDGER_ORDER) or UPDATE (0x05xx); others have none (12 R480). -/
def cmdGroup (op : Nat) : Nat := if op / 256 = 2 || op = 0x0300 then 1 else if op / 256 = 5 then 2 else 0

/-- A command of the same group is accepted and uncompleted (12 R480). -/
def groupBusy (d : Dev) (op : Nat) : Bool := cmdGroup op != 0 && d.host.jobs.any fun j => cmdGroup j.opcode == cmdGroup op

/-- The first code of 12 R480 that applies to a fetched command with a known opcode; none lets it run. `ok` says that its parameters
are in range, `e` is the edge die of its port or phase. -/
def checkCode480 (d : Dev) (c : CmdRef) (op : Nat) (ok : Bool) (e : Option (Fin 4)) : Option Code :=
  if d.host.owner.isNone || ringMaster d c.ring != d.host.owner then some .notOwner
  else if isShadow d && (op / 256 == 1 || op / 256 == 3) then some .role
  else if op / 256 = 1 && op != 0x0101 && e.any (dieMinimal d) then some .minimal
  else if !ok then some .badParam
  else if groupBusy d op then some .busy
  else none

/-- A fetched command: completed at its check, or carried on (12 R479, R480). -/
def checked (c : CmdRef) (op : Nat) (ok : Bool) (e : Option (Fin 4)) (f : Dev → Dev) (d : Dev) : Dev :=
  match checkCode480 d c op ok e with
  | some k => complete c op k [] d
  | none => f d

def fxNop (c : CmdRef) (d : Dev) : Dev := checked c 0x0001 true none (complete c 0x0001 .done []) d
/-- 12 R482. -/
def execNop (c : CmdRef) (s : State) : Host.Outcome State Fault Refusal := act (fxNop c) s

/-! ### Ports -/

/-- PORT_ENABLE: the latches and counts of 03 R127 and 04 R184 clear, the port goes to the unattached state of its ROLES. -/
def enablePort (p : Fin 32) (d : Dev) : Dev :=
  let d1 := onPd p (fun x => { x with hrTx := 0, hrRx := 0, softs := 0, retries := 0 }) (clearGuard p d)
  let d2 := onLoop p (fun l => { l with hc := 0, latched := false }) d1
  let d3 := forEach (phasesOf d2 p) (fun n => onPhase n fun f => { f with limited := 0, truncs := 0, hiccups := 0 }) d2
  toUnattached p (discharge p false (onPort p (fun q => { q with enabled := true, startFail := false }) d3))

/-- The opcode of PORT_ENABLE. -/
def opPortEnable : Nat := 0x0100

/-- PORT_ENABLE once checked (12 R482, 03 R127). -/
def cmdPortEnable (c : CmdRef) (p : Fin 32) (d : Dev) : Dev :=
  if !hasPort d p || (d.ports[p]).tc != .disabled then complete c opPortEnable .state [] d
  else complete c opPortEnable .done [] (enablePort p d)

def fxPortEnable (c : CmdRef) (p : Fin 32) (d : Dev) : Dev := checked c opPortEnable true (some (edgeOf p)) (cmdPortEnable c p) d
/-- 12 R482, 03 R107, R127. -/
def execPortEnable (c : CmdRef) (p : Fin 32) (s : State) : Host.Outcome State Fault Refusal := act (fxPortEnable c p) s

/-- PORT_DISABLE once checked (12 R482, 03 R125). -/
def cmdPortDisable (c : CmdRef) (p : Fin 32) (d : Dev) : Dev :=
  if !hasPort d p then complete c opPortDisable .state [] d
  else startDisable p (addJob { ref := c, opcode := opPortDisable, port := some p } d)

def fxPortDisable (c : CmdRef) (p : Fin 32) (d : Dev) : Dev := checked c opPortDisable true (some (edgeOf p)) (cmdPortDisable c p) d
/-- 03 R125. -/
def execPortDisable (c : CmdRef) (p : Fin 32) (s : State) : Host.Outcome State Fault Refusal := act (fxPortDisable c p) s

def fxPortDisableDone (p : Fin 32) (d : Dev) : Dev := if (d.pd[p]).disabling then enterDisabled p false d else d
/-- 03 R125 step 5. -/
def execPortDisableDone (p : Fin 32) (s : State) : Host.Outcome State Fault Refusal := act (fxPortDisableDone p) s

def fxPortDisableTimeout (p : Fin 32) (d : Dev) : Dev := if (d.pd[p]).disabling then enterDisabled p (!vbusLow d p) d else d
/-- 03 R125: VBUS_HIGH. -/
def execPortDisableTimeout (p : Fin 32) (s : State) : Host.Outcome State Fault Refusal := act (fxPortDisableTimeout p) s

/-- PORT_HARD_RESET once checked (12 R482): it completes when the signalling ends. -/
def cmdPortHardReset (c : CmdRef) (p : Fin 32) (d : Dev) : Dev :=
  if !explicit d p then complete c opPortHardReset .state [] d
  else sendHardReset p (addJob { ref := c, opcode := opPortHardReset, port := some p } d)

def fxPortHardReset (c : CmdRef) (p : Fin 32) (d : Dev) : Dev := checked c opPortHardReset true (some (edgeOf p)) (cmdPortHardReset c p) d
/-- 12 R482, 04 R174, R175. -/
def execPortHardReset (c : CmdRef) (p : Fin 32) (s : State) : Host.Outcome State Fault Refusal := act (fxPortHardReset c p) s

/-- RESTORE_PHASE may run (12 R482, 05 R224): the phase is retired, its port unattached, its bus has power-good. -/
def mayRestore (d : Dev) (n : Fin 64) : Bool :=
  (d.phases[n]).state == .retired && phasePg d n && (match portOfPhase d n with | some p => !isAttached (d.ports[p]) | none => false)

/-- RESTORE_PHASE once checked: the census of the phase falls due (05 R224). -/
def cmdRestorePhase (c : CmdRef) (n : Fin 64) (d : Dev) : Dev :=
  if !mayRestore d n then complete c opRestorePhase .state [] d
  else
    let d1 := addJob { ref := c, opcode := opRestorePhase, arg := n.val, port := portOfPhase d n } d
    censusNext (edgeOfPhase n) (onPhase n (fun f => { f with due := true }) d1)

def fxRestorePhase (c : CmdRef) (n : Fin 64) (d : Dev) : Dev := checked c opRestorePhase true (some (edgeOfPhase n)) (cmdRestorePhase c n) d
/-- 05 R224, 12 R482. -/
def execRestorePhase (c : CmdRef) (n : Fin 64) (s : State) : Host.Outcome State Fault Refusal := act (fxRestorePhase c n) s

end Sys2Proof.Machine
end

