-- ==== Sys2Proof/Machine/Ledger.lean ====
section
/-! DEFINITION. Post links, the ledger's frames and topology, election, standing hands (08). -/

namespace Sys2Proof.Machine

/-- The device's seat key (02 R69). -/
def seatKey (d : Dev) : Nat := d.cfg.ledger.seatKey

/-- The links that are UP, in the order PA, PB, PC. -/
def upLinks (d : Dev) : List (Fin 3) := (indices 3).filter fun l => (d.posts[l]).state == .up

/-- A bit of LEDGER_EVENT (08 R364), journalled except DEAL (15 R578 class 4). -/
def ledgerEvent (i : Nat) (d : Dev) : Dev :=
  onlyIf (i != 0) (journalEvent 4 0x38004 (BitVec.ofNat 32 (2 ^ i)) 0) (onLedger (fun l => { l with event := setBit l.event i }) d)

/-- The condition of an L source becomes what a predicate says (11 R433). -/
def levelSource (n : Fin 768) (b : Bool) (d : Dev) : Dev :=
  if b && !(d.sources[n]).cond then raise n d else if !b && (d.sources[n]).cond then condEnd n d else d

/-- POST_DOWN of a link, TSYNC_LOSS and CONCORD_MISMATCH (11 R432). -/
def srcPostDown (l : Fin 3) : Fin 768 := srcOf (0x228 + l.val)
def srcTsync : Fin 768 := srcOf 0x22C
def srcConcord : Fin 768 := srcOf 0x22D

/-- The first 16 bytes of a SHA-256, byte 0 least. -/
def digest16 (l : List Byte) : Nat := leNat ((toBe 32 (sha256 l)).take 16)

/-- A roll entry as 20 bytes (08 R325), and the digest of a roll (08 R353). -/
def rollBytes (l : List (Nat × Nat)) : List Byte := l.flatMap fun e => toLe 4 e.1 ++ toLe 16 e.2
def rollDigestOf (l : List (Nat × Nat)) : Nat :=
  if l.isEmpty then 0 else digest16 (rollBytes (sortBy (fun a b => decide (a.1 ≤ b.1)) l))

/-! ### Sending -/

/-- A frame leaves on a link (08 R312): any frame while UP, only HELLO in TRAIN; a SHADOW sends none (08 R342). -/
def postPut (l : Fin 3) (h : PostHdr) (o : PostOut) (d : Dev) : Dev :=
  let go := match (d.posts[l]).state, o with
    | .up, _ => true
    | .train, .hello _ => true
    | _, _ => false
  if isShadow d || !go then d
  else onLedger (fun x => { x with sent := ((l, h, o) :: x.sent).take 64 }) (onPost l (fun x => { x with txFrames := wrapInc 16 x.txFrames }) d)

/-- A frame of this device on some links, one SEQ for all (08 R316). -/
def postSend (ls : List (Fin 3)) (o : PostOut) (d : Dev) : Dev :=
  let h : PostHdr := ⟨d.ledger.seq, 0, seatKey d, d.ledger.discordant, d.store.postmark⟩
  forEach ls (fun l x => postPut l h o x) (onLedger (fun x => { x with seq := x.seq + 1 }) d)

/-- A frame forwarded (08 R316, R327): HOPS and POSTMARK rewritten. -/
def postForward (ls : List (Fin 3)) (h : PostHdr) (o : PostOut) (d : Dev) : Dev :=
  forEach ls (fun l x => postPut l { h with hops := h.hops + 1, postmark := d.store.postmark } o x) d

/-- The HELLO of a link (08 R319). -/
def helloOf (d : Dev) (l : Fin 3) : Hello :=
  { key := seatKey d, id := unitId d, rxOk := decide (0 < (d.posts[l]).hellos) || (d.posts[l]).state == .up, isDealer := d.ledger.role == .dealer
    branch := l == 2 && d.cfg.ledger.pcRole == 2, uplink := l == 2 && d.cfg.ledger.pcRole == 1, epoch := d.ledger.epoch
    dealer := d.ledger.dealer, dhops := d.ledger.hops, link := l }

/-! ### CARDs -/

/-- The CARD of this device now (08 R322). -/
def cardNow (d : Dev) : Card :=
  let l := d.ledger
  { key := seatKey d, id := unitId d, formerDealer := l.formerDealer, twin := d.cfg.twin.en, depthExc := l.depthExceeded, busA := busPg d false
    busB := busPg d true, floor := d.cfg.ledger.floor, kitty := d.cfg.ledger.kitty, cap := ledgerCap d, held := if l.joining then l.held else l.allot
    dhops := l.hops, dealMs := d.cfg.ledger.dealMs, depth := d.cfg.adm.depth, orderHeld := l.orderHeld, orderApplied := l.orderApplied
    postmark := d.store.postmark, roll := l.rollDigest, ledgerBudget := if l.formerDealer then l.budgetInForce else 0
    foreignOfs := if (indices 3).any fun i => (d.posts[i]).foreign then l.foreignOfs else 0 }

/-- A CARD goes towards the dealer (08 R322). -/
def sendCard (d : Dev) : Dev :=
  match d.ledger.role, d.ledger.parent with
  | .member, some p =>
    postSend [p] (.card (cardNow d)) (onLedger (fun l => { l with lastCard := some (cardNow d), lastCardDeal := l.dealNo }) d)
  | _, _ => d

/-- A CARD goes when a field has changed, and every 100 deal periods (08 R322). -/
def cardCheck (d : Dev) : Dev :=
  if d.ledger.lastCard != some (cardNow d) || decide (d.ledger.lastCardDeal + 100 ≤ d.ledger.dealNo) then sendCard d else d

/-! ### Election -/

/-- An identity as one number: LOT as ASCII, then WAFER, DIE_X, DIE_Y (08 R333). -/
def idNum (i : DieId) : Nat := beNat (idBytes i)

/-- A key with its identity comes before another (08 R333). -/
def keyLess (k1 : Nat) (i1 : DieId) (k2 : Nat) (i2 : DieId) : Bool := decide (k1 < k2) || (k1 == k2 && decide (idNum i1 < idNum i2))

/-- The dealer is live (08 R333): its deal was received in the current or the last period. -/
def liveDealer (d : Dev) : Bool :=
  d.ledger.role == .dealer || (d.ledger.role == .member && d.ledger.last.isSome && decide (d.tmr.tb / dealTicks d ≤ d.ledger.liveNo + 1))

/-- A device starts an election as a candidate (08 R332). -/
def startElection (d : Dev) : Dev :=
  if isShadow d || d.ledger.role == .alone || d.ledger.candidate then d
  else
    let had := d.ledger.dealer != 0xFFFFFFFF
    let d1 := onLedger (fun l => { l with
      role := .none, candidate := true, bestKey := seatKey d, bestId := unitId d, candSince := d.tmr.tb, dealer := 0xFFFFFFFF, hops := 0xFF, slot := 0xFF
      parent := none, elections := inc8 l.elections }) d
    let d2 := if had then ledgerEvent 6 (ledgerEvent 8 d1) else d1
    postSend (upLinks d2) (.elect ⟨seatKey d, unitId d, (d.ledger.epochSeen + 1) % 2 ^ 16⟩) d2

/-! ### Concordance -/

/-- The expected postmark of a seat key (08 R353, R354). -/
def rollOf (d : Dev) (key : Nat) : Option Nat := (d.ledger.roll.find? fun e => e.1 == key).map Prod.snd

/-- The device finds itself or its neighbours out of concord (08 R354). -/
def concordCheck (d : Dev) : Dev :=
  let l := d.ledger
  let own := match l.last with
    | some x => if x.emptyRoll then some x.expect else rollOf d (seatKey d)
    | none => rollOf d (seatKey d)
  let neigh := l.roll.isEmpty && (upLinks d).any fun i => (d.posts[i]).peer.isSome && (d.posts[i]).peerPm != d.store.postmark
  let d1 := forEach (indices 3) (fun i x =>
    let p := x.posts[i]
    let bad := p.state == .up && !l.roll.isEmpty && (p.peer.any fun h => (rollOf d h.key).any fun m => m != p.peerPm)
    onlyIf (bad && !p.peerDiscord) (postEvent i 3) (onPost i (fun p => { p with peerDiscord := bad }) x)) d
  levelSource srcConcord ((own.any fun m => m != d.store.postmark) || neigh || l.discordant) d1

/-! ### Links -/

/-- A link leaves UP (08 R313): hold-off, POST_DOWN; a link in TRAIN or DOWN just goes DOWN. -/
def linkDown (l : Fin 3) (d : Dev) : Dev :=
  if (d.posts[l]).state == .up then
    let d1 := onPost l (fun p => { p with foreign := false, crcErrs := [] }) (postDown l d)
    concordCheck (levelSource (srcPostDown l) true d1)
  else postDown l d

def fxPostSymbolLock (l : Fin 3) (d : Dev) : Dev :=
  let p := d.posts[l]
  if !p.en || p.state != .down || p.holdoff then d
  else
    startTimer (.postTrainTimeout l) (ticksOfMs 50) (startTimer (.helloTimer l) (ticksOfMs 1)
      (onPost l (fun p => { p with state := .train, lock := true, hellos := 0, rxOk := false }) d))
/-- 08 R312. -/
def execPostSymbolLock (l : Fin 3) (s : State) : Host.Outcome State Fault Refusal := act (fxPostSymbolLock l) s

/-- Invalid code groups seen at a loss of symbol lock (08 R313, 09 R375): four at least, the rest free (log entry 5). -/
def badGroups (d : Dev) (n : Nat) : Nat := sat 0xFFFF (n + 4 + (freeValue d).toNat)

def fxPostLockLoss (l : Fin 3) (d : Dev) : Dev := bumpFree (onPost l (fun x => { x with invalid := badGroups d x.invalid }) (linkDown l d))
/-- 08 R312, R313, R365. -/
def execPostLockLoss (l : Fin 3) (s : State) : Host.Outcome State Fault Refusal := act (fxPostLockLoss l) s

def fxPostFrameTimeout (l : Fin 3) (d : Dev) : Dev := if (d.posts[l]).state == .up then linkDown l d else d
/-- 08 R313. -/
def execPostFrameTimeout (l : Fin 3) (s : State) : Host.Outcome State Fault Refusal := act (fxPostFrameTimeout l) s

def fxPostTrainTimeout (l : Fin 3) (d : Dev) : Dev := if (d.posts[l]).state == .train then linkDown l d else d
/-- 08 R312. -/
def execPostTrainTimeout (l : Fin 3) (s : State) : Host.Outcome State Fault Refusal := act (fxPostTrainTimeout l) s

def fxPostHoldoffEnd (l : Fin 3) (d : Dev) : Dev := stopTimer (.postHoldoffEnd l) (onPost l (fun p => { p with holdoff := false }) d)
/-- 08 R314. -/
def execPostHoldoffEnd (l : Fin 3) (s : State) : Host.Outcome State Fault Refusal := act (fxPostHoldoffEnd l) s

def fxPostBadFrame (l : Fin 3) (crc : Bool) (d : Dev) : Dev :=
  let p := d.posts[l]
  let errs := if crc then (p.crcErrs.filter fun t => decide (d.tmr.tb < t + ticksOfMs 100)) ++ [d.tmr.tb] else p.crcErrs
  let d1 := postEvent l 4 (onPost l (fun p => { p with errors := sat 0xFFFF (p.errors + 1), hellos := 0, crcErrs := errs }) d)
  if p.state == .up && decide (16 ≤ errs.length) then linkDown l d1 else d1
/-- 08 R313, R318. -/
def execPostBadFrame (l : Fin 3) (crc : Bool) (s : State) : Host.Outcome State Fault Refusal := act (fxPostBadFrame l crc) s

/-- POSTx_CTL.EN (08 R315). -/
def postEnable (l : Fin 3) (v : Word) (d : Dev) : Dev :=
  let d1 := onPost l (fun p => { p with en := bit v 0 }) d
  if bit v 0 then d1 else linkDown l d1

def fxPostEnableWrite (m : Fin 5) (l : Fin 3) (v : Word) (d : Dev) : Dev := ownerWrite m (postEnable l v) d
/-- 08 R315. -/
def execPostEnableWrite (m : Fin 5) (l : Fin 3) (v : Word) (s : State) : Host.Outcome State Fault Refusal := act (fxPostEnableWrite m l v) s

def fxHelloTimer (l : Fin 3) (d : Dev) : Dev :=
  if (d.posts[l]).state == .down then stopTimer (.helloTimer l) d
  else cardCheck (startTimer (.helloTimer l) (ticksOfMs 1) (postSend [l] (.hello (helloOf d l)) d))
/-- 08 R312, R317, R322. -/
def execHelloTimer (l : Fin 3) (s : State) : Host.Outcome State Fault Refusal := act (fxHelloTimer l) s

/-- A valid frame arrives on a link that is UP (08 R313, R354): counted, the silence timer starts again, the neighbour's postmark is
checked. A SHADOW takes no part. -/
def rxFrame (l : Fin 3) (h : PostHdr) (f : Dev → Dev) (d : Dev) : Dev :=
  if (d.posts[l]).state != .up then d
  else
    let d1 := startTimer (.postFrameTimeout l) (ticksOfMs 3)
      (onPost l (fun p => { p with rxFrames := wrapInc 16 p.rxFrames, peerPm := h.postmark }) d)
    if isShadow d then d1 else concordCheck (f d1)

/-- A flooded frame is taken the first time only (08 R327). -/
def firstTime (d : Dev) (h : PostHdr) : Bool := h.origin != seatKey d && !d.ledger.seen.contains (h.origin, h.seq)
def markSeen (h : PostHdr) : Dev → Dev := onLedger fun l => { l with seen := ((h.origin, h.seq) :: l.seen).take 1024 }

/-- A HELLO on a link that is UP (08 R357): a neighbour with another dealer or epoch is foreign. -/
def helloUp (l : Fin 3) (x : Hello) (d : Dev) : Dev :=
  let g := d.ledger
  let f := x.dealer != 0xFFFFFFFF && g.dealer != 0xFFFFFFFF && (x.dealer != g.dealer || x.epoch != g.epoch)
  onlyIf (f && !(d.posts[l]).foreign) (postEvent l 2) (onPost l (fun p => { p with foreign := f }) d)

/-- A link comes UP (08 R312); at BOOT that starts an election (08 R332). -/
def linkUp (l : Fin 3) (d : Dev) : Dev :=
  let d1 := postEvent l 0 (onPost l (fun p => { p with state := .up, crcErrs := [] }) (stopTimer (.postTrainTimeout l) d))
  let d2 := levelSource (srcPostDown l) false (startTimer (.postFrameTimeout l) (ticksOfMs 3) d1)
  if d2.ledger.role == .none && !d2.ledger.candidate then startElection d2 else d2

def fxHello (l : Fin 3) (hdr : PostHdr) (h : Hello) (d : Dev) : Dev :=
  let p := d.posts[l]
  let take (x : Dev) : Dev := onLedger (fun g => { g with epochSeen := max g.epochSeen h.epoch })
    (onPost l (fun p => { p with peer := some h, peerPm := hdr.postmark, rxOk := h.rxOk }) x)
  match p.state with
  | .down => d
  | .train =>
    let d1 := take (onPost l (fun p => { p with hellos := p.hellos + 1, rxFrames := wrapInc 16 p.rxFrames }) d)
    if 3 ≤ p.hellos + 1 && h.rxOk then helloUp l h (linkUp l d1) else d1
  | .up => rxFrame l hdr (fun x => helloUp l h (take x)) d
/-- 08 R312, R319, R354, R357. -/
def execHello (l : Fin 3) (hdr : PostHdr) (h : Hello) (s : State) : Host.Outcome State Fault Refusal := act (fxHello l hdr h) s

/-- An ELECT (08 R333, R334); a dealer whose SV is paused answers none (14 R548). -/
def takeElect (l : Fin 3) (h : PostHdr) (x : Elect) (d : Dev) : Dev :=
  let g := d.ledger
  let d0 := onLedger (fun g => { g with
    epochSeen := max g.epochSeen (x.epoch - 1), dupKey := g.dupKey || (x.cand == seatKey d && x.id != unitId d) }) d
  if g.role == .alone then d
  else if liveDealer d then
    if g.dealer < x.cand && !(g.role == .dealer && svPaused d) then postSend [l] (.elect ⟨g.dealer, if g.role == .dealer then unitId d else g.bestId, g.epoch⟩) d0 else d0
  else if !firstTime d h then d0
  else
    let d1 := markSeen h d0
    if keyLess x.cand x.id g.bestKey g.bestId then
      postForward ((upLinks d).filter (· != l)) h (.elect x) (onLedger (fun g => { g with bestKey := x.cand, bestId := x.id }) d1)
    else d1

def fxElect (l : Fin 3) (hdr : PostHdr) (x : Elect) (d : Dev) : Dev := rxFrame l hdr (takeElect l hdr x) d
/-- 08 R333. -/
def execElect (l : Fin 3) (hdr : PostHdr) (x : Elect) (s : State) : Host.Outcome State Fault Refusal := act (fxElect l hdr x) s

/-! ### The time base -/

/-- The programme of the period is planned anew from TB (08 R328, R358): no event of a period cut short. -/
def planBoundary (d : Dev) : Dev :=
  let d1 := stopTimers [.bidSlot, .dealerDealSlot, .dealMissCheck, .syncSlot] d
  startTimerAt .dealPeriodBoundary ((d.tmr.tb / dealTicks d + 1) * dealTicks d) d1

/-- A step ordered by STEP or the first step after a join moves the instants the ledger holds (08 R347, R360): held orders by the step,
pending cuts, the deals that announced them and the pending hands they gave by the step rounded up to whole periods. -/
def shiftInstants (k : Nat) (cuts : Bool) (d : Dev) : Dev :=
  let up := ceilDiv k (dealTicks d) * dealTicks d
  let d1 := onLedger (fun l => { l with
    orders := l.orders.map fun o => if o.applied then o else { o with order := { o.order with tOrder := o.order.tOrder + k } }
    cuts := if cuts then l.cuts.map fun c => (c.1 + up, c.2) else l.cuts
    deals := if cuts then l.deals.map fun x => { x with tEff := x.tEff + up } else l.deals }) d
  let d2 := { d1 with timers := d1.timers.map fun t => if t.2 == .orderEffective then (t.1 + k, t.2) else t }
  if !cuts then d2
  else forEach (indices 32) (fun p x =>
    match (x.ports[p]).pend with
    | some (h, w) =>
      if d.ledger.cuts.any fun c => c.1 == w then startTimerAt (.pendingHandEffective p) (w + up) (onPort p (fun q => { q with pend := some (h, w + up) }) x)
      else x
    | none => x) d2

/-- TB steps by the ledger (08 R344, R358): LEDGER_EVENT.TB_STEP, and the boundaries counted on the stepped TB. -/
def ledgerStep (k : Nat) (shift cuts : Bool) (d : Dev) : Dev :=
  planBoundary (ledgerEvent 14 (tbStep k shift (if shift then shiftInstants k cuts d else d)))

/-- The rate of TB follows an offset (08 R344, 10 R404): its sign, and a size up to 200 ppm that the spec leaves open (log entry 5). -/
def steerBy (neg zero : Bool) (d : Dev) : Dev :=
  let r : Int := (((freeValue d).toNat % 20001 : Nat) : Int)
  let s : Int := if zero then 0 else if neg then -r else r
  onLedger (fun l => { l with trate := s }) (onTmr (fun t => { t with steer := s, disc := 1 }) (bumpFree d))

/-- A dealer and an ALONE device run TB unsteered (10 R404). -/
def unsteered (d : Dev) : Dev := onLedger (fun l => { l with trate := 0 }) (onTmr (fun t => { t with steer := 0, disc := 0 }) d)

/-- An offset of the parent, in ns (08 R344, R346). -/
def takeOffset (ns : Int) (d : Dev) : Dev :=
  let l := d.ledger
  let far := decide (10000 < ns.natAbs)
  let d1 := onLedger (fun g => { g with
    tofs := ns, syncsMissed := 0, offs := if far then g.offs + 1 else 0, onOffs := if far then 0 else g.onOffs + 1 }) d
  let lost := (l.tsyncLost && (far || decide (l.onOffs + 1 < 3))) || (far && decide (3 ≤ l.offs + 1))
  let d2 := levelSource srcTsync lost (onLedger (fun g => { g with tsyncLost := lost }) d1)
  if ns.natAbs ≤ 50000 then steerBy (decide (ns < 0)) (decide (ns = 0)) (onLedger (fun g => { g with joinStep := false }) d2)
  else if 0 < ns then
    ledgerStep (ns.toNat / 20) l.joinStep false (onLedger (fun g => { g with joinStep := false }) d2)
  else onLedger (fun g => { g with trate := -20000 }) (onTmr (fun t => { t with steer := -20000, disc := 2 }) d2)

def fxSync (l : Fin 3) (hdr : PostHdr) (t1 t2 t3 : Nat) (d : Dev) : Dev := rxFrame l hdr (postSend [l] (.syncReply t1 t2 t3)) d
/-- 08 R321, R343, R357. -/
def execSync (l : Fin 3) (hdr : PostHdr) (t1 t2 t3 : Nat) (s : State) : Host.Outcome State Fault Refusal := act (fxSync l hdr t1 t2 t3) s

/-- A SYNC_REPLY (08 R343, R357): delay and offset of the parent, or the offset across a foreign link. -/
def takeReply (l : Fin 3) (t1 t2 t3 t4 : Nat) (d : Dev) : Dev :=
  let o2 : Int := ((t2 : Int) - t1) + ((t3 : Int) - t4)
  let d2 : Int := ((t4 : Int) - t1) - ((t3 : Int) - t2)
  let d1 := onPost l (fun p => { p with delay := (10 * d2).toNat }) d
  if d.ledger.parent == some l then takeOffset (10 * o2) d1
  else if (d.posts[l]).foreign then cardCheck (onLedger (fun g => { g with foreignOfs := o2 / 2 }) d1)
  else d1

def fxSyncReply (l : Fin 3) (hdr : PostHdr) (t1 t2 t3 t4 : Nat) (d : Dev) : Dev := rxFrame l hdr (takeReply l t1 t2 t3 t4) d
/-- 08 R343 to R346, R357. -/
def execSyncReply (l : Fin 3) (hdr : PostHdr) (t1 t2 t3 t4 : Nat) (s : State) : Host.Outcome State Fault Refusal :=
  act (fxSyncReply l hdr t1 t2 t3 t4) s

def fxSyncSlot (d : Dev) : Dev :=
  let d1 := stopTimer .syncSlot d
  let foreign := (upLinks d).filter fun l => (d.posts[l]).foreign
  let dests := match d.ledger.role, d.ledger.parent with
    | .member, some p => if (d.posts[p]).state == .up then p :: foreign.filter (· != p) else foreign
    | _, _ => foreign
  let up : Bool := match d.ledger.parent with | some p => d.ledger.role == .member && (d.posts[p]).state == .up | none => false
  let missed := d.ledger.syncsMissed + 1
  let d2 := if up then
      let lost := d.ledger.tsyncLost || decide (10 < missed)
      levelSource srcTsync lost (onLedger (fun l => { l with syncsMissed := missed, tsyncLost := lost }) d1)
    else d1
  forEach dests (fun l x => postSend [l] (.sync x.tmr.tb) x) d2
/-- 08 R328 step 6, R343, R346, R357. -/
def execSyncSlot (s : State) : Host.Outcome State Fault Refusal := act fxSyncSlot s

def fxLedgerCmdCard (m : Fin 5) (d : Dev) : Dev := ownerWrite m sendCard d
/-- 08 R322. -/
def execLedgerCmdCard (m : Fin 5) (s : State) : Host.Outcome State Fault Refusal := act (fxLedgerCmdCard m) s

end Sys2Proof.Machine
end

