-- ==== Sys2Proof/Machine/Deals.lean ====
section
/-! DEFINITION. Deals, bids, the dealer's computation, dated orders, merging and splitting (08 R326 to R362). -/

namespace Sys2Proof.Machine

/-- The opcode of LEDGER_ORDER (12 R482). -/
def opLedgerOrder : Nat := 0x0300

/-! ### Allotments of this device -/

/-- An allotment takes effect (08 R339, 04 R151): events, and a division into hands. -/
def applyAllot (w : Nat) (d : Dev) : Dev :=
  let old := d.ledger.allot
  let d1 := onLedger (fun l => { l with allot := w }) d
  divide (if w < old then ledgerEvent 3 d1 else if old < w then ledgerEvent 4 d1 else d1)

/-- Own entry of a deal. -/
def ownEntry (d : Dev) (x : Deal) : Option DealEntry := x.entries.find? fun e => e.key == seatKey d

/-- A deal takes effect (08 R328 step 7, R339, R358): allotment, kitty, registers, a STEP of TB, which a foreign offset loses and which leaves
the dealer live in the period it cuts short. -/
def applyDeal (x : Deal) (d : Dev) : Dev :=
  let l := d.ledger
  let w := if l.depthExceeded then d.cfg.ledger.floor else match ownEntry d x with
    | some e => e.allot
    | none => if l.joining then l.held else d.cfg.ledger.floor
  let d1 := onLedger (fun l => { l with
    pendingDeal := none, standing := false, passed := none, kittyHeld := 10 * d.cfg.ledger.kitty, budget := x.budget, shown := some x }) d
  let d2 := ledgerEvent 0 (applyAllot w d1)
  if x.step = 0 then d2
  else
    let d3 := ledgerStep x.step true true d2
    onLedger (fun l => { l with
      liveNo := d3.tmr.tb / dealTicks d3, foreignOfs := if l.foreignOfs = 0 then 0 else l.foreignOfs - (x.step : Int) }) d3

/-- The standing hand of m missed deals (08 R340). -/
def standingHand (floor a0 : Nat) (c : Option Nat) (m : Nat) : Nat :=
  if 3 ≤ m then floor else max floor (min (min a0 (c.getD a0)) (floor + (a0 - floor) * (3 - m) / 3))

/-- The device runs on its standing hand from a boundary on (08 R340). -/
def applyStanding (d : Dev) : Dev :=
  let l := d.ledger
  applyAllot (standingHand d.cfg.ledger.floor l.prevAllot l.passed l.missed) (onLedger (fun l => { l with standing := true }) d)

/-- The budget in force before it is taken conservatively (08 R335). -/
def budgetBase (d : Dev) (ms : List Member) : Nat :=
  let l := d.ledger
  if l.role == .alone && !l.budgetSet then d.cfg.ledger.busA + d.cfg.ledger.busB
  else if l.defaultBudget then ms.foldl (fun a m => a + m.card.floor + m.card.kitty) 0
  else l.budgetInForce

/-! ### Orders -/

/-- The DIGEST of an order (08 R325). -/
def orderDigest (o : Order) : Nat := digest16 (toLe 1 o.kind ++ toLe 8 o.tOrder ++ toLe 8 o.param ++ rollBytes o.roll)

/-- The frames of an order, eight roll entries each (08 R325). -/
def orderParts (o : Order) : List Order :=
  let n := max 1 (ceilDiv o.roll.length 8)
  (List.range n).map fun i => { o with part := i, parts := n, roll := (o.roll.drop (8 * i)).take 8 }

/-- The caps of a MODE order (08 R348). -/
def orderCaps (o : Order) : Vector Nat 4 := Vector.ofFn fun i => o.param / 2 ^ (16 * i.val) % 2 ^ 16

/-- A cap is lower than another; 0xFFFF is none. -/
def capsFall (old new : Vector Nat 4) : Bool := (indices 4).any fun i => decide (new[i] < old[i])

/-- An order is lowering (08 R348), seen from the budget and the caps in force. -/
def lowering (d : Dev) (o : Order) : Bool :=
  match o.kind with
  | 1 => decide (o.param % 2 ^ 32 < d.ledger.budgetInForce)
  | 2 => capsFall d.ledger.caps (orderCaps o)
  | 3 | 5 => true
  | _ => false

/-- From the moment a lowering MODE order is held, each affected port's pending hand is dated at T_ORDER and the port core renegotiates
(08 R351). -/
def dateHands (o : Order) (d : Dev) : Dev :=
  let later := targets (onLedger (fun l => { l with caps := orderCaps o }) d)
  forEach later (fun t x =>
    let q := x.ports[t.1]
    if t.2 < q.hand && (q.pend.all fun h => decide (t.2 < h.1)) then
      let old := sprOffers x t.1 ++ eprOffers x t.1
      handFollow q old t.1 true
        (portEvent t.1 13 (startTimerAt (.pendingHandEffective t.1) o.tOrder (onPort t.1 (fun q => { q with pend := some (t.2, o.tOrder) }) x)))
    else x) d

/-- The effect of an order at T_ORDER (08 R351). A SWITCH goes to IMAGE_SWITCH when the slot is STORED; a LEDGER order commits the staged
amendment, checked there. -/
def orderEffect (o : Order) (d : Dev) : Dev :=
  let roll (x : Dev) : Dev := onLedger (fun l => { l with roll := o.roll, rollDigest := rollDigestOf o.roll }) x
  match o.kind with
  | 1 => onLedger (fun l => { l with budgetOld := some l.budgetInForce, budgetInForce := o.param % 2 ^ 32, budgetSet := true, defaultBudget := false }) d
  | 2 => divide (onLedger (fun l => { l with caps := orderCaps o }) d)
  | 3 =>
    let k : Fin 4 := Fin.ofNat 4 (o.param % 256)
    roll (if (d.store.slots[k]).state == .stored then post .switchEffective (onStore (fun s => { s with switchAt := some (k, d.tmr.tb) }) d) else d)
  | 4 => roll d
  | 5 => roll (if orderLocks d then post .amendCommit (onStore (fun s => { s with commitDue := true }) d) else d)
  | _ => d

/-- A held order is applied (08 R351). -/
def applyOrder (n : Nat) (d : Dev) : Dev :=
  match d.ledger.orders.find? fun o => o.order.no == n && o.whole && !o.applied with
  | none => d
  | some h =>
    let d1 := orderEffect h.order d
    cardCheck (concordCheck (ledgerEvent 10 (onLedger (fun l => { l with
      orderApplied := max l.orderApplied n, orders := l.orders.map fun o => if o.order.no == n then { o with applied := true } else o }) d1)))

/-- Every held order whose T_ORDER has come is applied. -/
def applyDueOrders (d : Dev) : Dev :=
  forEach ((d.ledger.orders.filter fun o => o.whole && !o.applied && decide (o.order.tOrder ≤ d.tmr.tb)).map (·.order.no)) applyOrder d

/-- The timer of the earliest held order. -/
def planOrders (d : Dev) : Dev :=
  let ts := (d.ledger.orders.filter fun o => o.whole && !o.applied).map (·.order.tOrder)
  match ts with
  | [] => stopTimer .orderEffective d
  | t :: r => startTimerAt .orderEffective (r.foldl min t) d

/-- The command of the owner that issued an order completes (12 R486). -/
def orderDone (n : Nat) (k : Code) (tEff : Nat) (d : Dev) : Dev :=
  let js := d.host.jobs.filter fun j => j.opcode == opLedgerOrder && j.arg == n
  if js.isEmpty then d
  else
    forEach js (fun j x => complete j.ref j.opcode k (toLe 4 n ++ toLe 8 tEff) x) (stopTimer .ledgerOrderTimeout (onStore (fun s => { s with stageLock := false }) d))

/-- An order is held whole (08 R350, R351): ORDER_HELD; applied at once when its instant has passed. -/
def heldWhole (o : Order) (d : Dev) : Dev :=
  let d1 := ledgerEvent 9 (onLedger (fun l => { l with orderHeld := max l.orderHeld o.no }) d)
  let d2 := if o.kind = 2 && capsFall d.ledger.caps (orderCaps o) then dateHands o d1 else d1
  let d3 := if o.tOrder ≤ d2.tmr.tb then applyOrder o.no (ledgerEvent 15 (onLedger (fun l => { l with lates := inc8 l.lates }) d2)) else d2
  cardCheck (planOrders d3)

/-- A part is among those held; a part joins them, and the roll is that of the parts in order (08 R325). -/
def hasPart (h : HeldOrder) (n : Nat) : Bool := h.pieces.any fun x => x.1 == n
def addPart (h : HeldOrder) (o : Order) : HeldOrder :=
  let ps := if hasPart h o.part then h.pieces else insertBy (fun a b => decide (a.1 ≤ b.1)) (o.part, o.roll) h.pieces
  { h with pieces := ps, order := { h.order with part := 0, roll := ps.flatMap Prod.snd } }

/-- One part of an order joins the parts held (08 R350). -/
def keepPart (o : Order) (d : Dev) : Dev :=
  let l := d.ledger
  let h := (l.orders.find? fun x => x.order.no == o.no && x.order.digest == o.digest).getD { order := { o with roll := [] } }
  if h.whole || hasPart h o.part then d
  else
    let n0 := addPart h o
    let w := decide (n0.pieces.length = o.parts) && orderDigest n0.order == o.digest
    let n : HeldOrder := { n0 with whole := w }
    let d1 := onLedger (fun l => { l with orders := l.orders.filter (fun x => x.order.no != o.no || x.order.digest != o.digest) ++ [n] }) d
    if w then heldWhole n.order d1 else d1

/-- T_EFF of the next deal this dealer sends (08 R349). -/
def nextTeff (d : Dev) : Nat :=
  let k := d.tmr.tb / dealTicks d
  (if d.ledger.dealNo = k && d.ledger.last.isSome then k + 2 else k + 1) * dealTicks d

/-- The dealer refuses an order (08 R349). -/
def refusesOrder (d : Dev) (o : Order) : Bool :=
  let P := dealTicks d
  decide (o.no < d.ledger.orderNo) || (d.ledger.orders.any fun x => x.order.no == o.no && x.order.digest != o.digest)
    || decide (o.tOrder < nextTeff d + 3 * P) || (lowering d o && decide (o.tOrder < nextTeff d + 5 * P))

/-- Every part of an order leaves on every link that is UP (08 R350). -/
def floodOrder (o : Order) (d : Dev) : Dev := forEach (orderParts o) (fun p y => postSend (upLinks y) (.order p) y) d

/-- An order held whole by the dealer that accepts it, and flooded (08 R350). -/
def acceptOrder (o : Order) (d : Dev) : Dev :=
  let h : HeldOrder := { order := o, pieces := (orderParts o).map fun p => (p.part, p.roll), whole := true }
  floodOrder o (heldWhole o (onLedger (fun l => { l with orders := l.orders ++ [h], orderNo := o.no }) d))

/-- The dealer's decision on an order whose parts are all here (08 R349, R350): accepted and flooded, flooded again, or refused. -/
def decideOrder (o : Order) (d : Dev) : Dev :=
  if d.ledger.orders.any fun x => x.order.no == o.no && x.order.digest == o.digest then floodOrder o d
  else if refusesOrder d o then onLedger (fun l => { l with refusedNo := o.no }) d
  else acceptOrder o d

/-- One frame of an issued order at the dealer: parts are gathered until the digest matches (08 R349). -/
def dealerPart (o : Order) (d : Dev) : Dev :=
  let l := d.ledger
  match l.orders.find? fun x => x.order.no == o.no && x.order.digest == o.digest && x.whole with
  | some h => decideOrder h.order d
  | none =>
    let g := addPart ((l.inbox.find? fun x => x.order.no == o.no && x.order.digest == o.digest).getD { order := { o with roll := [] } }) o
    let rest := l.inbox.filter fun x => x.order.no != o.no || x.order.digest != o.digest
    if g.pieces.length = o.parts && orderDigest g.order == o.digest then decideOrder g.order (onLedger (fun l => { l with inbox := rest }) d)
    else onLedger (fun l => { l with inbox := (rest ++ [g]).drop (rest.length - 7) }) d

/-- This device issues an order towards the dealer (08, dated orders). -/
def issueOrder (o : Order) (d : Dev) : Dev :=
  let o' := { o with digest := orderDigest o, parts := max 1 (ceilDiv o.roll.length 8) }
  match d.ledger.role, d.ledger.parent with
  | .dealer, _ => decideOrder o' d
  | .alone, _ => decideOrder o' d
  | .member, some p => forEach (orderParts o') (fun x y => postSend [p] (.order x) y) d
  | _, _ => d

/-- An ORDER frame (08 R327, R350): the dealer decides; a member keeps what its dealer floods and forwards the rest to its parent. -/
def takeOrder (l : Fin 3) (h : PostHdr) (o : Order) (d : Dev) : Dev :=
  if !firstTime d h then d
  else
    let d1 := markSeen h d
    match d.ledger.role with
    | .dealer => if (d.posts[l]).foreign then d1 else dealerPart o d1
    | .member =>
      if (d.posts[l]).foreign then d1
      else if h.origin = d.ledger.dealer then
        keepPart o (postForward ((upLinks d1).filter fun k => k != l && !(d1.posts[k]).foreign) h (.order o) d1)
      else match d.ledger.parent with
        | some p => if p = l then d1 else postForward [p] h (.order o) d1
        | none => d1
    | _ => d1

def fxOrder (l : Fin 3) (hdr : PostHdr) (o : Order) (d : Dev) : Dev := rxFrame l hdr (takeOrder l hdr o) d
/-- 08 R325, R349, R350. -/
def execOrder (l : Fin 3) (hdr : PostHdr) (o : Order) (s : State) : Host.Outcome State Fault Refusal := act (fxOrder l hdr o) s

def fxOrderEffective (d : Dev) : Dev := planOrders (applyDueOrders d)
/-- 08 R351. -/
def execOrderEffective (s : State) : Host.Outcome State Fault Refusal := act fxOrderEffective s

/-! ### Holding a deal -/

/-- Each MODE cap becomes the lower of the two ledgers' at the first merged deal (08 R361); no frame carries the other ledger's caps to a
device, so they are free values (log entries 5, 32). -/
def lowerCaps (d : Dev) : Dev :=
  let cap (i : Nat) : Nat := (Config.freeWord (d.freeCtr + i)).toNat % 2 ^ 16
  divide (onLedger (fun l => { l with caps := Vector.ofFn fun i => min l.caps[i] (cap i.val) }) { d with freeCtr := d.freeCtr + 4 })

/-- A deal is held (08 R339, R354, R356, 12 R486): numbers, flags, pending allotment, discord, orders named in it. -/
def holdDeal (x : Deal) (d : Dev) : Dev :=
  let l := d.ledger
  let e := ownEntry d x
  let slot := x.entries.findIdx fun e => e.key == seatKey d
  let bad := e.isSome && x.discord.getLsbD slot
  let P := ticksOfMs x.dealMs
  let merged := l.joining && e.isSome
  let joins := if l.joining && e.isNone then l.joinDeals + 1 else 0
  let d1 := onLedger (fun l => { l with
    last := some x, deals := (x :: l.deals).take 6, dealNo := x.dealNo, slot := if e.isSome then slot else 0xFF, dealer := x.dealer, epoch := x.epoch
    epochSeen := max l.epochSeen x.epoch, candidate := false, bestKey := 0xFFFFFFFF, liveNo := x.dealNo, role := if l.role == .none then .member else l.role, merging := x.merging
    conservative := x.conservative, defaultBudget := x.defaultBudget, outsider := e.isNone && !l.joining, joining := l.joining && e.isNone
    formerDealer := l.formerDealer && !merged, joinDeals := joins, missed := if 3 < joins then sat 3 (joins - 3) else 0
    prevAllot := if 3 < joins then l.held else l.prevAllot, discordant := bad, merges := if merged then inc8 l.merges else l.merges
    cuts := match e with | some e => l.cuts ++ [(x.tEff + 5 * P, e.cut)] | none => l.cuts
    depthExceeded := l.role != .dealer && l.role != .alone && decide (x.depth < l.hops) }) d
  let d2 := if l.dealer != x.dealer || l.epoch != x.epoch then ledgerEvent 6 d1 else d1
  let d3 := if (match e with | some e => decide (e.cut < min l.allot (allotMin d)) | none => false) then ledgerEvent 2 d2 else d2
  let d4 := if bad && !l.discordant then ledgerEvent 12 d3 else if !bad && l.discordant then ledgerEvent 13 d3 else d3
  let d5 := if merged then lowerCaps (ledgerEvent 7 d4) else d4
  let d6 := if x.refusedNo != 0 && (d5.host.jobs.any fun j => j.opcode == opLedgerOrder && j.arg == x.refusedNo) then
      orderDone x.refusedNo .refused x.tEff (ledgerEvent 11 d5) else d5
  let d7 := forEach ((d6.ledger.orders.filter fun o => o.whole && decide (o.order.no ≤ x.orderNo)).map (·.order.no))
    (fun n y => orderDone n .done x.tEff y) d6
  let late := decide (x.tEff ≤ d.tmr.tb)
  if late then
    ledgerEvent 15 (onLedger (fun l => { l with lates := inc8 l.lates, late := true }) (applyDeal x d7))
  else onLedger (fun l => { l with pendingDeal := some x }) d7

/-- The parent follows the lowest HOPS of the current deal (08 R326). -/
def mayBeParent (d : Dev) (l : Fin 3) : Bool :=
  !(l == 2 && d.cfg.ledger.pcRole == 2) && !((d.posts[l]).peer.any (·.uplink))

/-- The parent is taken from one arrival of the current deal (08 R326): `fresh` says that it is the first, which forgets the path of the last
deal. -/
def takeParent (l : Fin 3) (h : PostHdr) (fresh : Bool) (d : Dev) : Dev :=
  let better := fresh || decide (h.hops + 1 < d.ledger.hops) || (h.hops + 1 == d.ledger.hops && (d.ledger.parent.all fun p => decide (l.val < p.val)))
  if mayBeParent d l then
    onlyIf better (onLedger fun g => { g with parent := some l, hops := h.hops + 1, depthExceeded := g.last.any fun x => decide (x.depth < h.hops + 1) }) d
  else onlyIf fresh (onLedger fun g => { g with parent := none, hops := 0xFF }) d

/-- A losing device joins the winning ledger (08 R359, R360). -/
def joinLedger (l : Fin 3) (h : PostHdr) (x : Deal) (d : Dev) : Dev :=
  let g := d.ledger
  let held := allotMin d
  let was := g.role == .dealer
  let d1 := onLedger (fun g => { g with
    role := .member, candidate := false, held := held, joining := true, joinDeals := 0, joinStep := true, cuts := [], pendingDeal := none, winDeals := 0
    formerDealer := was, budgetInForce := if was then budgetBase d g.members else g.budgetInForce, members := [], dups := [], parent := some l, hops := h.hops + 1, slot := 0xFF }) d
  let d2 := applyAllot held (onPost l (fun p => { p with foreign := false }) d1)
  sendCard (holdDeal x (if was then stopTimer .dealerDealSlot d2 else d2))

/-- A deal of another ledger (08 R327, R359): a lower dealer wins, is forwarded, and after three deals with STEP 0 is joined,
by a dealer not while its SV is paused (14 R548). -/
def foreignDeal (l : Fin 3) (h : PostHdr) (x : Deal) (d : Dev) : Dev :=
  let g := d.ledger
  if g.dealer ≤ x.dealer then d
  else
    let n := if x.step != 0 then 0 else if g.winKey == x.dealer && x.dealNo == g.winNo + 1 then g.winDeals + 1 else 1
    let d1 := onLedger (fun g => { g with winDeals := n, winKey := x.dealer, winNo := x.dealNo, winTb := some d.tmr.tb }) d
    let d2 := postForward ((upLinks d1).filter fun k => k != l && (!(d1.posts[k]).foreign || (d1.posts[k]).peer.any fun p => decide (x.dealer < p.dealer)))
      h (.deal x) d1
    if 3 ≤ n && !(g.role == .dealer && svPaused d) then joinLedger l h x d2 else d2

/-- A DEAL (08 R326, R327, R334, R339, R359). -/
def takeDeal (l : Fin 3) (h : PostHdr) (x : Deal) (d : Dev) : Dev :=
  let g := d.ledger
  let fresh := firstTime d h
  let d1 := if fresh then markSeen h d else d
  if g.role == .alone || x.dealer == seatKey d then d1
  else if liveDealer d && (x.dealer != g.dealer || x.epoch != g.epoch) then (if fresh then foreignDeal l h x d1 else d1)
  else if !fresh then (if g.dealNo == x.dealNo then takeParent l h false d1 else d1)
  else
    let d2 := postForward ((upLinks d1).filter fun k => k != l && (!(d1.posts[k]).foreign || (d1.posts[k]).peer.any fun p => decide (x.dealer < p.dealer)))
      h (.deal x) d1
    let d3 := holdDeal x (takeParent l h true d2)
    if g.role == .none then sendCard d3 else cardCheck d3

def fxDeal (l : Fin 3) (hdr : PostHdr) (x : Deal) (d : Dev) : Dev := rxFrame l hdr (takeDeal l hdr x) d
/-- 08 R324, R326, R327, R339. -/
def execDeal (l : Fin 3) (hdr : PostHdr) (x : Deal) (s : State) : Host.Outcome State Fault Refusal := act (fxDeal l hdr x) s

/-! ### Bids -/

/-- CONTRACT of a bid in W (08 R323): contract powers of the source ports, and 7.5 W for each attached port in minimal mode. -/
def bidContract (d : Dev) : Nat :=
  if d.sys.mode == .standby then 0
  else
    let mw := sumOver fun p : Fin 32 =>
      let q := d.ports[p]
      if q.tc == .minimal then (if q.minAtt then 7500 else 0) else if isSrcAttached q.tc then contractMw q else 0
    ceilDiv mw 1000

/-- TRUMP of a bid in W (08 R323): the bases of the attached source ports. -/
def bidTrump (d : Dev) : Nat :=
  if d.sys.mode == .standby then 0 else ceilDiv (sumOver fun p : Fin 32 => if takesHand d p then baseOf d p else 0) 10

/-- Own entry of a BID (08 R323). -/
def ownBid (d : Dev) : BidEntry :=
  let l := d.ledger
  let no := (l.last.map (·.orderNo)).getD 0
  { slot := l.slot, selfDiscord := l.discordant, neighDiscord := (indices 3).any fun i => (d.posts[i]).peerDiscord, standing := l.standing
    minimal := (indices 4).any (dieMinimal d), late := l.late
    orderOk := l.orders.any (fun o => o.order.no == no && o.whole) || decide (no ≤ l.orderHeld)
    applied := decide (no ≤ l.orderApplied), contract := l.snapContract, trump := l.snapTrump, kitty := d.cfg.ledger.kitty }

/-- The links on which the device bids: to its parent, unless it is an outsider or too deep (08 R328, R331). -/
def bidLink (d : Dev) : Option (Fin 3) :=
  if d.ledger.role == .member && !d.ledger.outsider && !d.ledger.depthExceeded then d.ledger.parent else none

def fxBidSlot (d : Dev) : Dev :=
  let d1 := stopTimer .bidSlot d
  match bidLink d with
  | none => d1
  | some p =>
    let b : Bid := ⟨d.ledger.dealNo, (ownBid d :: d.ledger.childBids).take 23⟩
    onLedger (fun l => { l with bidContract := l.snapContract, bidTrump := l.snapTrump, late := false }) (postSend [p] (.bid b) d1)
/-- 08 R328 step 2, R329. -/
def execBidSlot (s : State) : Host.Outcome State Fault Refusal := act fxBidSlot s

/-- A BID of a child (08 R323, R329): its entries wait for this device's own bid, or for the dealer's computation. -/
def takeBid (l : Fin 3) (b : Bid) (d : Dev) : Dev :=
  if (d.posts[l]).foreign || b.dealNo != d.ledger.dealNo then d
  else onLedger (fun g => { g with childBids := (g.childBids.filter fun e => !b.entries.any fun x => x.slot == e.slot) ++ b.entries }) d

def fxBid (l : Fin 3) (hdr : PostHdr) (b : Bid) (d : Dev) : Dev := rxFrame l hdr (takeBid l b) d
/-- 08 R323, R329. -/
def execBid (l : Fin 3) (hdr : PostHdr) (b : Bid) (s : State) : Host.Outcome State Fault Refusal := act (fxBid l hdr b) s

/-! ### The dealer -/

/-- Greater of a device's CUT in the last two deals held (08 R362). -/
def splitCut (d : Dev) (key : Nat) : Nat :=
  d.ledger.splitDeals.foldl (fun a x => match x.entries.find? fun e => e.key == key with | some e => max a e.cut | none => a) 0

/-- A CARD entered by the dealer (08 R322, R355, R361, R362): a second device of a seat key is listed beside the first, and a former dealer
adds its ledger's budget. -/
def enterCard (k : Card) (d : Dev) : Dev :=
  let l := d.ledger
  match l.members.find? fun m => m.card.key == k.key with
  | some m =>
    if m.card.id != k.id then
      let twin : Member := { card := k, dup := true, kinds := 0x20, since := d.tmr.tb }
      let known := l.dups.any fun x => x.card.id == k.id
      onlyIf (!known) (journalEvent 4 0x38200 (BitVec.ofNat 32 k.key) 0) (onLedger (fun l => { l with
        dupKey := l.dupKey || k.key == seatKey d
        dups := if known then l.dups.map fun x => if x.card.id == k.id then { x with card := k } else x else l.dups ++ [twin]
        members := l.members.map fun x => if x.card.key == k.key then { x with dup := true } else x }) d)
    else onLedger (fun l => { l with members := l.members.map fun x => if x.card.key == k.key then { x with card := k } else x }) d
  | none =>
    let m : Member := { card := k, allot := k.held, cut := k.held, bidCut0 := k.held, bidCut1 := k.held, orderBase := k.orderApplied, joining := true }
    let more := if k.formerDealer then k.ledgerBudget else if l.splitSide then splitCut d k.key else 0
    let base := if k.formerDealer then budgetBase d (l.members.filter fun x => !x.joining) else l.budgetInForce
    onLedger (fun l => { l with
      members := l.members ++ [m], budgetInForce := base + more, defaultBudget := l.defaultBudget && !k.formerDealer, mergeDue := l.mergeDue || k.formerDealer
      orderNo := max l.orderNo k.orderHeld, orderHeld := max l.orderHeld k.orderHeld }) d

/-- A CARD (08 R322, R327). -/
def takeCard (l : Fin 3) (h : PostHdr) (k : Card) (d : Dev) : Dev :=
  match d.ledger.role, d.ledger.parent with
  | .dealer, _ => if (d.posts[l]).foreign then d else enterCard k d
  | .member, some p => if p = l || (d.posts[l]).foreign then d else postForward [p] h (.card k) d
  | _, _ => d

def fxCard (l : Fin 3) (hdr : PostHdr) (k : Card) (d : Dev) : Dev := rxFrame l hdr (takeCard l hdr k) d
/-- 08 R322. -/
def execCard (l : Fin 3) (hdr : PostHdr) (k : Card) (s : State) : Host.Outcome State Fault Refusal := act (fxCard l hdr k) s

/-- This device as a member of its own ledger. -/
def ownMember (d : Dev) : Member :=
  let c := cardNow d
  let m := (d.ledger.members.find? fun m => m.card.key == seatKey d).getD { card := c, allot := d.ledger.allot, cut := d.ledger.allot }
  { m with card := c, contract := d.ledger.snapContract, trump := d.ledger.snapTrump, kitty := d.cfg.ledger.kitty, missing := 0, joining := false
           bidFlags := some (ownBid d) }

/-- The other members with the bids of this period (08 R341); a device that by rule sends none, an outsider or one beyond DEPTH, misses none
(08 R328, R331; log entry 49). -/
def ingest (d : Dev) : List Member :=
  let l := d.ledger
  let slotKey (i : Nat) : Option Nat := l.last.bind fun x => (x.entries[i]?).map (·.key)
  (l.members.filter fun m => m.card.key != seatKey d).map fun m =>
    match l.childBids.find? fun e => slotKey e.slot == some m.card.key with
    | some e => { m with
        contract := e.contract, trump := e.trump, kitty := e.kitty, bidFlags := some e, missing := 0
        card := if e.applied then { m.card with orderApplied := max m.card.orderApplied ((l.last.map (·.orderNo)).getD 0) } else m.card }
    | none => if m.card.depthExc || m.kinds.getLsbD 6 then { m with bidFlags := none } else { m with missing := m.missing + 1 }

/-- Members in order of seat key, this device first (08 R324, R328). -/
def ledgerOrder24 (d : Dev) : List Member :=
  ownMember d :: sortBy (fun a b => decide (a.card.key ≤ b.card.key)) ((ingest d).filter fun m => decide (m.missing < 100))

/-- The kinds of discord that hold for a member (08 R355), one bit each. -/
def kindsOf (d : Dev) (outside : Bool) (m : Member) : BitVec 8 :=
  let l := d.ledger
  let c := m.card
  let b (k : Nat) (x : Bool) : Nat := if x then 2 ^ (k - 1) else 0
  let orders := l.orders.any fun o => o.whole && decide (o.order.tOrder ≤ d.tmr.tb) && decide (c.orderApplied < o.order.no) && decide (m.orderBase < o.order.no)
  BitVec.ofNat 8 (b 1 (if l.roll.isEmpty then c.postmark != d.store.postmark else (rollOf d c.key).any fun x => x != c.postmark) + b 2 orders
    + b 3 (c.roll != l.rollDigest) + b 4 (c.dealMs != d.cfg.ledger.dealMs || c.depth != d.cfg.adm.depth) + b 5 c.depthExc + b 6 m.dup + b 7 outside
    + b 8 (!l.roll.isEmpty && (rollOf d c.key).isNone))

/-- Kinds and SINCE of a member renewed. -/
def markKinds (d : Dev) (outside : Bool) (m : Member) : Member :=
  let k := kindsOf d outside m
  { m with kinds := k, since := if m.kinds = 0 && k != 0 then d.tmr.tb else m.since }

/-- Every member has applied an order (08 R352). -/
def allApplied (ms : List Member) (n : Nat) : Bool := ms.all fun m => decide (n ≤ m.card.orderApplied) || decide (n ≤ m.orderBase)

/-- The budget in force at the next T_EFF, taken conservatively (08 R335, R352). -/
def budgetNow (d : Dev) (ms : List Member) : Nat :=
  let l := d.ledger
  let base := budgetBase d ms
  let held := (l.orders.filter fun o => o.whole && !o.applied && o.order.kind == 1).foldl (fun a o => min a (o.order.param % 2 ^ 32)) base
  match l.budgetOld with
  | some b => min b held
  | none => held

/-- A member whose entry a missing bid leaves as it is (08 R341), and one held to FLOOR. -/
def keepsEntry (m : Member) : Bool := m.missing == 1 || m.missing == 2
def floorOnly (m : Member) : Bool := m.kinds != 0 || decide (3 ≤ m.missing)

/-- lo, hi and dem of an entry (08 R336). -/
def entryLo (m : Member) : Nat := if floorOnly m then m.card.floor else max m.card.floor m.trump
def entryHi (m : Member) : Nat := if floorOnly m then m.card.floor else max (entryLo m) m.card.cap
def entryDem (m : Member) : Nat := min (entryHi m) (max (entryLo m) (m.contract + m.kitty))

/-- The targets of the entries (08 R336): water-fill to demand first, then up to the caps. -/
def dealTargets (b outside : Nat) (ms : List Member) : List (Nat × Nat) :=
  let fs := ms.filter fun m => !keepsEntry m
  let used := fs.foldl (fun a m => a + entryLo m) 0 + outside + (ms.filter keepsEntry).foldl (fun a m => a + m.card.floor) 0
  let room := b - used
  let l1 := fillLevel (fs.map fun m => entryDem m - entryLo m) room 17 0
  let x (m : Member) : Nat := entryLo m + min l1 (entryDem m - entryLo m)
  let left := room - fs.foldl (fun a m => a + (x m - entryLo m)) 0
  let l2 := fillLevel (fs.map fun m => entryHi m - x m) left 17 0
  fs.map fun m => (m.card.key, x m + min l2 (entryHi m - x m))

/-- The lowest ALLOT an entry may take (08 R337): its last one, or the lowest CUT the last five deals announced for T_EFF. -/
def allotBase (d : Dev) (tEff : Nat) (m : Member) : Nat :=
  (d.ledger.deals.take 5).foldl (fun a x =>
    if x.tEff + 5 * ticksOfMs x.dealMs ≤ tEff then (match x.entries.find? fun e => e.key == m.card.key with | some e => min a e.cut | none => a) else a) m.allot

/-- ALLOT and CUT of every entry (08 R337, R338, R341, R361). -/
def dealAllots (d : Dev) (b outside tEff : Nat) (merging : Bool) (ms : List Member) : List Member :=
  let ts := dealTargets b outside ms
  let tgt (m : Member) : Nat := ((ts.find? fun t => t.1 == m.card.key).map Prod.snd).getD m.cut
  let low (m : Member) : Nat := if keepsEntry m || m.joining then m.allot else allotBase d tEff m
  let want (m : Member) : Nat := if keepsEntry m || m.joining then 0 else tgt m - low m
  let room := b - (outside + ms.foldl (fun a m => a + low m) 0)
  let sum := ms.foldl (fun a m => a + want m) 0
  let rise (m : Member) : Nat := if merging then 0 else if sum ≤ room then want m else want m * room / sum
  ms.map fun m =>
    let a := low m + rise m
    let c := if keepsEntry m || m.joining then m.cut else min (tgt m) a
    { m with allot := a, cut := c, joining := false, bidCut1 := if m.missing = 0 then m.bidCut0 else m.bidCut1, bidCut0 := if m.missing = 0 then c else m.bidCut0 }

/-- A member is discordant newly, or no more (08 R356): journalled. -/
def journalMap (old new : List Member) (d : Dev) : Dev :=
  let was (k : Nat) : Bool := old.any fun m => m.card.key == k && m.kinds != 0
  let isNow (k : Nat) : Bool := new.any fun m => m.card.key == k && m.kinds != 0
  forEach (((new ++ old).map (·.card.key)).eraseDups.filter fun k => was k != isNow k)
    (fun k x => journalEvent 4 0x38200 (BitVec.ofNat 32 k) 0 x) d

/-- A number of a deal's flags of state for this dealer. -/
def dealOf (d : Dev) (ms outs : List Member) (b step : Nat) (merging : Bool) : Deal :=
  let l := d.ledger
  let k := d.tmr.tb / dealTicks d
  { dealNo := k, dealer := seatKey d, epoch := l.epoch, conservative := l.orders.any fun o => o.whole && !allApplied ms o.order.no, merging := merging
    defaultBudget := l.defaultBudget, overflow := !outs.isEmpty, emptyRoll := l.roll.isEmpty, tEff := (k + 1) * dealTicks d, dealMs := d.cfg.ledger.dealMs
    depth := d.cfg.adm.depth, budget := b, orderNo := l.orderNo, refusedNo := l.refusedNo
    expect := if l.roll.isEmpty then d.store.postmark else l.rollDigest
    discord := BitVec.ofNat 32 ((ms.zipIdx).foldl (fun a m => if m.1.kinds != 0 then a + 2 ^ m.2 else a) 0), step := step
    entries := ms.map fun m => ⟨m.card.key, m.allot, m.cut⟩ }

/-- The roll of the ledger that has joined: no frame carries its entries to the dealer, so they are free values (log entries 5, 32). -/
def otherRoll (d : Dev) : List (Nat × Nat) :=
  let w (i : Nat) : Nat := (Config.freeWord (d.freeCtr + i)).toNat
  (List.range (w 0 % 33)).map fun i => (w (5 * i + 1), w (5 * i + 2) + 2 ^ 32 * w (5 * i + 3) + 2 ^ 64 * w (5 * i + 4) + 2 ^ 96 * w (5 * i + 5))

/-- Two rolls joined (08 R353, R361): a key that both list with different postmarks is left out. -/
def joinRolls (a b : List (Nat × Nat)) : List (Nat × Nat) :=
  ((a.filter fun e => b.all fun x => x.1 != e.1 || x.2 == e.2) ++ b.filter fun e => a.all fun x => x.1 != e.1).take 32

/-- The dealer of a merged ledger issues the joining ROLL order, dated three periods ahead (08 R361). -/
def joinOrder (d : Dev) : Dev :=
  let t := (d.tmr.tb / dealTicks d + 3) * dealTicks d
  let roll := joinRolls d.ledger.roll (otherRoll d)
  let o : Order := ⟨d.ledger.orderNo + 1, 4, 0, max 1 (ceilDiv roll.length 8), t, 0, 0, roll⟩
  acceptOrder { o with digest := orderDigest o } { d with freeCtr := d.freeCtr + 166 }

/-- The dealer sends its deal, floods again the orders that wait, and holds the deal itself (08 R328, R350, R361). -/
def sendDeal (x : Deal) (joined : Bool) (d : Dev) : Dev :=
  let d1 := postSend ((upLinks d).filter fun k => !(d.posts[k]).foreign || (d.posts[k]).peer.any fun p => decide (seatKey d < p.dealer)) (.deal x) d
  let d2 := forEach (d1.ledger.orders.filter fun o => o.whole && !o.applied)
    (fun o y => forEach (orderParts o.order) (fun p z => postSend (upLinks z) (.order p) z) y) d1
  concordCheck (onlyIf joined (fun y => joinOrder (lowerCaps y)) (holdDeal x d2))

/-- The dealer computes and sends its deal (08 R328 step 4, R336 to R342, R352, R358, R361). Only the winning dealer steps: one that receives the
deals of a lower dealer does not. Merging waits while SV is paused (14 R548). -/
def dealNow (d : Dev) : Dev :=
  let all := ledgerOrder24 d
  let gone := (ingest d).filter fun m => decide (100 ≤ m.missing)
  let ms := (all.take 24).map (markKinds d false)
  let outs := (all.drop 24).map (markKinds d true)
  let d1 := if gone.isEmpty then d else
    ledgerEvent 8 (onLedger (fun l => { l with budgetInForce := l.budgetInForce - gone.foldl (fun a m => a + max m.bidCut0 m.bidCut1) 0 }) d)
  let ofs := ms.foldl (fun (a : Int) m => max a m.card.foreignOfs) 0
  let loses := decide (d.ledger.winKey < seatKey d) && d.ledger.winTb.any fun t => decide (d.tmr.tb < t + 3 * dealTicks d)
  let step := if 50 < ofs && !loses && !svPaused d then ofs.toNat else 0
  let joined := d1.ledger.mergeDue && !svPaused d
  let waits := d1.ledger.mergeDeals + 1
  let merging := step != 0 || (d1.ledger.merging && !joined && decide (waits ≤ 3))
  let b := budgetNow d1 (ms ++ outs)
  let outside := (outs ++ d.ledger.dups).foldl (fun a m => a + m.card.floor) 0
  let tEff := (d.tmr.tb / dealTicks d + 1) * dealTicks d
  let ms2 := dealAllots d1 b outside tEff (merging || joined) ms
  let floors := (ms ++ outs).foldl (fun a m => a + m.card.floor) 0
  let x := dealOf d1 ms2 outs b step merging
  let clear (m : Member) : Member := { m with card := { m.card with foreignOfs := 0 } }
  let d2 := journalMap d.ledger.members (ms2 ++ outs) (onLedger (fun l => { l with
    members := if step = 0 then ms2 ++ outs else (ms2 ++ outs).map clear, mergeDeals := if step != 0 then 0 else waits
    mergeDue := l.mergeDue && !joined, budgetShort := decide (b < floors), refusedNo := 0
    merges := if joined then inc8 l.merges else l.merges, foreignOfs := if step = 0 then l.foreignOfs else 0
    budgetOld := if l.orders.all fun o => !o.whole || allApplied ms2 o.order.no then none else l.budgetOld
    orders := l.orders.filter fun o => !(o.whole && o.applied && o.order.no != l.orderNo && allApplied ms2 o.order.no) }) d1)
  let d3 := if joined then ledgerEvent 7 d2 else d2
  sendDeal x joined d3

def fxDealerDealSlot (d : Dev) : Dev :=
  let d1 := stopTimer .dealerDealSlot d
  if (d.ledger.role == .dealer || d.ledger.role == .alone) && !isShadow d then dealNow d1 else d1
/-- 08 R328 steps 3 and 4, R336 to R342. -/
def execDealerDealSlot (s : State) : Host.Outcome State Fault Refusal := act fxDealerDealSlot s

/-! ### The period -/

/-- The events of the period that begins (08 R328). -/
def planPeriod (d : Dev) : Dev :=
  let P := dealTicks d
  let t := d.tmr.tb / P * P
  let l := d.ledger
  let depth := (l.last.map (·.depth)).getD d.cfg.adm.depth
  let d1 := startTimerAt .dealPeriodBoundary (t + P) d
  if isShadow d then d1
  else match l.role with
    | .dealer | .alone => startTimerAt .syncSlot (t + 6 * P / 10) (startTimerAt .dealerDealSlot (t + 1250 * d.cfg.adm.depth) d1)
    | .member =>
      startTimerAt .syncSlot (t + 6 * P / 10) (startTimerAt .dealMissCheck (t + P / 2) (startTimerAt .bidSlot (t + 1250 * (depth - l.hops)) d1))
    | .none => if l.deals.isEmpty then d1 else startTimerAt .dealMissCheck (t + P / 2) d1

def fxDealPeriodBoundary (d : Dev) : Dev :=
  let l := d.ledger
  let P := dealTicks d
  let past := l.cuts.filter fun c => decide (c.1 ≤ d.tmr.tb)
  let d1 := onLedger (fun l => { l with
    snapContract := bidContract d, snapTrump := bidTrump d, childBids := [], cuts := l.cuts.filter fun c => !decide (c.1 ≤ d.tmr.tb)
    passed := past.foldl (fun a c => some (match a with | some b => min b c.2 | none => c.2)) l.passed }) d
  let d2 := match l.pendingDeal with
    | some x => if x.tEff ≤ d.tmr.tb then applyDeal x d1 else d1
    | none => d1
  let d3 := if d2.ledger.missed != 0 && d2.ledger.role != .dealer && d2.ledger.role != .alone && !isShadow d2 then applyStanding d2 else d2
  let d4 := if l.candidate && l.bestKey == seatKey d && l.bestId == unitId d && decide (l.candSince + P ≤ d.tmr.tb) then post .dealerAccession d3 else d3
  cardCheck (planPeriod d4)
/-- 08 R328 steps 1 and 7, R334, R339, R340. -/
def execDealPeriodBoundary (s : State) : Host.Outcome State Fault Refusal := act fxDealPeriodBoundary s

def fxDealMissCheck (d : Dev) : Dev :=
  let d1 := stopTimer .dealMissCheck d
  let l := d.ledger
  if isShadow d || l.role == .dealer || l.role == .alone || decide (d.tmr.tb / dealTicks d ≤ l.dealNo) then d1
  else
    let d2 := ledgerEvent 1 (onLedger (fun l => { l with
      missed := l.missed + 1, misses := inc8 l.misses, prevAllot := if l.missed = 0 then l.allot else l.prevAllot, winDeals := 0 }) d1)
    let noParent := l.parent.all fun p => (d.posts[p]).state != .up
    if l.role == .member && (noParent || decide (2 ≤ l.missed + 1)) then startElection d2 else d2
/-- 08 R332, R340. -/
def execDealMissCheck (s : State) : Host.Outcome State Fault Refusal := act fxDealMissCheck s

def fxDealerAccession (d : Dev) : Dev :=
  let l := d.ledger
  if !l.candidate || l.bestKey != seatKey d || l.bestId != unitId d || isShadow d || svPaused d then d
  else
    let split := !l.deals.isEmpty || l.joining
    let d0 := onLedger (fun l => { l with splitDeals := l.deals.take 2, deals := [] }) d
    let own := if l.joining then l.held else splitCut d0 (seatKey d)
    let d1 := onLedger (fun l => { l with
      role := .dealer, candidate := false, epoch := (l.epochSeen + 1) % 2 ^ 16, epochSeen := l.epochSeen + 1, dealer := seatKey d, hops := 0, slot := 0
      parent := none, missed := 0, standing := false, splitSide := split, budgetInForce := if split then own else l.budgetInForce
      defaultBudget := !split && !l.budgetSet, members := [], dups := [], joining := false, merging := false, mergeDue := false, pendingDeal := none }) d0
    let d2 := ledgerEvent 6 (ledgerEvent 5 d1)
    let P := dealTicks d2
    let d3 := stopTimers [.dealMissCheck, .bidSlot] d2
    startTimerAt .syncSlot (d.tmr.tb / P * P + 6 * P / 10) (startTimerAt .dealerDealSlot (d.tmr.tb / P * P + 1250 * d.cfg.adm.depth) (unsteered d3))
/-- 08 R334, R335, R362; 14 R548. -/
def execDealerAccession (s : State) : Host.Outcome State Fault Refusal := act fxDealerAccession s

/-- The ledger starts with a configuration (08 R331, R363): ALONE without links, FLOOR as allotment, the whole kitty held. -/
def ledgerStart (d : Dev) : Dev :=
  let c := d.cfg.ledger
  let d1 := onLedger (fun l => { l with
    started := true, role := if c.links = 0 then .alone else .none, allot := c.floor, kittyHeld := 10 * c.kitty, dealer := if c.links = 0 then c.seatKey else 0xFFFFFFFF
    hops := if c.links = 0 then 0 else 0xFF, slot := if c.links = 0 then 0 else 0xFF }) d
  planBoundary (forEach (indices 3) (fun i => onPost i fun p => { p with en := c.links.getLsbD i.val }) d1)

/-! ### LEDGER_ORDER -/

/-- The roll entries staged for an order (12 R485): from CONFIG_STAGE_LEN rounded up, 20 bytes each. -/
def stagedRoll (d : Dev) (n : Nat) : List (Nat × Nat) :=
  let at0 := ceilDiv d.store.stageLen 4 * 4
  (List.range n).map fun i =>
    let b := Memory.readBytes d.store.stage (at0 + 20 * i) 20
    (fieldAt b 0 4, fieldAt b 4 16)

/-- The parameters of a LEDGER_ORDER are in range (08 R325, R348; 12 R482, R485). -/
def orderParamsOk (d : Dev) (no kind rcount : Nat) : Bool :=
  decide (1 ≤ no) && decide (1 ≤ kind) && decide (kind ≤ 5) && decide (rcount ≤ 32) && decide (ceilDiv d.store.stageLen 4 * 4 + 20 * rcount ≤ 262144)

/-- LEDGER_ORDER once checked (12 R485, R486). -/
def cmdLedgerOrder (c : CmdRef) (no kind rcount tOrder param : Nat) (d : Dev) : Dev :=
  let o : Order := ⟨no, kind, 0, 1, tOrder, param, 0, stagedRoll d rcount⟩
  let d1 := addJob { ref := c, opcode := opLedgerOrder, arg := no } (onStore (fun s => { s with stageLock := true }) d)
  issueOrder o (startTimer .ledgerOrderTimeout (10 * dealTicks d) d1)

def fxLedgerOrder (c : CmdRef) (no kind rcount tOrder param : Nat) (d : Dev) : Dev :=
  checked c opLedgerOrder (orderParamsOk d no kind rcount) none (cmdLedgerOrder c no kind rcount tOrder param) d
/-- 12 R482, R485, R486, 08 R348. -/
def execLedgerOrder (c : CmdRef) (no kind rcount tOrder param : Nat) (s : State) : Host.Outcome State Fault Refusal :=
  act (fxLedgerOrder c no kind rcount tOrder param) s

def fxLedgerOrderTimeout (d : Dev) : Dev :=
  match jobOf d opLedgerOrder with
  | some j => complete j.ref j.opcode .timeout (toLe 4 j.arg) (stopTimer .ledgerOrderTimeout (onStore (fun s => { s with stageLock := false }) d))
  | none => d
/-- 12 R486. -/
def execLedgerOrderTimeout (s : State) : Host.Outcome State Fault Refusal := act fxLedgerOrderTimeout s

end Sys2Proof.Machine
end

