-- ==== Sys2Proof/Machine/Network.lean ====
section
/-! DEFINITION. The MAC and the network stacks (13). Frames are their fields, not byte strings (log entry 10). -/

namespace Sys2Proof.Machine

/-- The NETWORK section in force. -/
def netCfg (d : Dev) : NetCfg := d.cfg.net.getD {}

/-- The MAC runs: a NETWORK section and MAC_OFF at 0 (13 R503, R526). -/
def macOn (d : Dev) : Bool := d.cfg.net.isSome && !d.net.macOff

/-- A destination can be reached: in the subnet, multicast, or through a gateway (13 R507). -/
def routable (d : Dev) (ip : Nat) : Bool :=
  let c := netCfg d
  (ip &&& c.mask) == (c.ip &&& c.mask) || ip / 2 ^ 28 == 14 || c.gw != 0

/-- A frame leaves the MAC (13 R503, R522 SHADOW): none while the link is down, the MAC stopped, or the device SHADOW. -/
def netSend (o : NetOut) (d : Dev) : Dev :=
  if isShadow d || !d.net.link || !d.net.running then d
  else onNet (fun n => { n with tx := wrapInc 32 n.tx, sent := (o :: n.sent).take 64 }) d

/-- A datagram to a destination: dropped and counted when no way leads there (13 R507). -/
def netSendTo (ip : Nat) (o : NetOut) (d : Dev) : Dev :=
  if routable d ip then netSend o d else onNet (fun n => { n with rxDrop := sat 0xFFFF (n.rxDrop + 1) }) d

/-- Frames received in the present second of TB. -/
def rxNow (d : Dev) : Nat := if d.net.rxSecond = d.tmr.tb / ticksOfS 1 then d.net.rxInSecond else 0

/-- A received frame counts (13 R505). -/
def rxCount (d : Dev) : Dev :=
  onNet (fun n => { n with rx := wrapInc 32 n.rx, rxSecond := d.tmr.tb / ticksOfS 1, rxInSecond := rxNow d + 1 }) d

/-- The receive FIFO overflows (13 R506): the frame is dropped and counted. -/
def rxOverflow (d : Dev) : Dev := netEvent 6 (onNet (fun n => { n with rxDrop := sat 0xFFFF (n.rxDrop + 1), overflows := sat 0xFFFF (n.overflows + 1) }) d)

/-- A frame is received (13 R505, R506), while the MAC runs and the link is up: SV processes 20,000 in a second; whether a further one still fits
into the FIFO is a free value (log entry 44). -/
def netRx (f : Dev → Dev) (d : Dev) : Dev :=
  if !(d.net.running && d.net.link) then d
  else if rxNow d < 20000 then f (rxCount d)
  else if (freeValue d).getLsbD 0 then rxOverflow (bumpFree d)
  else f (rxCount (bumpFree d))

/-- The announcements of a rise of the link, of a restart and of a takeover (13 R508, R510, 09 R394). -/
def announce (d : Dev) : Dev := forEach d.net.groups (fun g => netSend (.igmpReport g)) (netSend .arpAnnounce d)

/-! ### MAC and PHY -/

/-- The negotiation result of the PHY (13 R503): half duplex gives no link. -/
def takePhy (r : PhyResult) (d : Dev) : Dev :=
  if !d.net.running then d
  else
    let up := r.link && !r.half
    let d1 := onNet (fun n => { n with link := up, half := r.link && r.half, speed := r.speed.val }) d
    if up && !d.net.link then announce (netEvent 0 d1) else if !up && d.net.link then netEvent 1 d1 else d1

def fxMdioPoll (res : PhyResult) (d : Dev) : Dev := takePhy res d
/-- 13 R503. -/
def execMdioPoll (res : PhyResult) (s : State) : Host.Outcome State Fault Refusal := act (fxMdioPoll res) s

def fxPhyLinkRise (res : PhyResult) (d : Dev) : Dev := takePhy res d
/-- 13 R503, R508, R510. -/
def execPhyLinkRise (res : PhyResult) (s : State) : Host.Outcome State Fault Refusal := act (fxPhyLinkRise res) s

/-- A write of NET_MDIO (13 R504, R526): with GO set an MDIO transaction starts. -/
def mdioWrite (v : Word) : Dev → Dev := onNet fun n => { n with mdio := v &&& 0x0FFFFFFF }

def fxNetMdioGo (m : Fin 5) (v : Word) (d : Dev) : Dev := if d.cfg.net.isSome then ownerWrite m (mdioWrite v) d else d
/-- 13 R504. -/
def execNetMdioGo (m : Fin 5) (v : Word) (s : State) : Host.Outcome State Fault Refusal := act (fxNetMdioGo m v) s

def fxMdioComplete (data : BitVec 16) (d : Dev) : Dev :=
  let w := d.net.mdio
  if !bit w 27 then d
  else onNet (fun n => { n with mdio := clrBit (if bit w 26 then w else (w &&& 0xFFFF0000) ||| data.setWidth 32) 27 }) d
/-- 13 R504. -/
def execMdioComplete (data : BitVec 16) (s : State) : Host.Outcome State Fault Refusal := act (fxMdioComplete data) s

/-! ### ARP, ICMP, IGMP, PTP -/

/-- An ARP request (13 R508): answered when it asks for the device's address; its sender enters the cache. -/
def takeArp (ip mac target : Nat) (d : Dev) : Dev :=
  if target != (netCfg d).ip then d
  else
    let kept := d.net.arp.filter fun e => e.1 != ip
    let d1 := onNet (fun n => { n with arp := (kept ++ [(ip, mac)]).drop (kept.length - 15) }) d
    netSend (.arpReply ip mac) (startTimer (.arpAgeOut ip) (ticksOfS 300) d1)

def fxArpRequest (ip mac target : Nat) (d : Dev) : Dev := netRx (takeArp ip mac target) d
/-- 13 R508. -/
def execArpRequest (ip mac target : Nat) (s : State) : Host.Outcome State Fault Refusal := act (fxArpRequest ip mac target) s

def fxArpAgeOut (ip : Nat) (d : Dev) : Dev := stopTimer (.arpAgeOut ip) (onNet (fun n => { n with arp := n.arp.filter fun e => e.1 != ip }) d)
/-- 13 R508. -/
def execArpAgeOut (ip : Nat) (s : State) : Host.Outcome State Fault Refusal := act (fxArpAgeOut ip) s

def fxIcmpEchoRequest (src len : Nat) (d : Dev) : Dev := netRx (fun x => if len ≤ 576 then netSendTo src (.echoReply src len) x else x) d
/-- 13 R507, R509. -/
def execIcmpEchoRequest (src len : Nat) (s : State) : Host.Outcome State Fault Refusal := act (fxIcmpEchoRequest src len) s

def fxIgmpQuery (group : Nat) (d : Dev) : Dev :=
  netRx (fun x => forEach (x.net.groups.filter fun g => group == 0 || g == group) (fun g => netSend (.igmpReport g)) x) d
/-- 13 R510. -/
def execIgmpQuery (group : Nat) (s : State) : Host.Outcome State Fault Refusal := act (fxIgmpQuery group) s

def fxPtpEventMessage (tx : Bool) (kind : Fin 16) (sqid : BitVec 16) (stamp : Nat) (d : Dev) : Dev :=
  let put (x : Dev) : Dev :=
    if x.net.ptp.length < 16 then netEvent 4 (onNet (fun n => { n with ptp := n.ptp ++ [⟨tx, kind, sqid, stamp⟩] }) x) else netEvent 5 x
  if !tx then netRx put d
  else if !d.net.running || !d.net.link || isShadow d then d
  else put (onNet (fun n => { n with tx := wrapInc 32 n.tx }) d)
/-- 13 R506, R512. -/
def execPtpEventMessage (tx : Bool) (kind : Fin 16) (sqid : BitVec 16) (stamp : Nat) (s : State) : Host.Outcome State Fault Refusal :=
  act (fxPtpEventMessage tx kind sqid stamp) s

/-- NET_PTP_POP (13 R512). -/
def ptpPop : Dev → Dev := onNet fun n => { n with ptp := n.ptp.tail }

def fxNetPtpPop (m : Fin 5) (d : Dev) : Dev := if d.cfg.net.isSome then ownerWrite m ptpPop d else d
/-- 13 R512. -/
def execNetPtpPop (m : Fin 5) (s : State) : Host.Outcome State Fault Refusal := act (fxNetPtpPop m) s

/-! ### TRDP -/

/-- Telegram i: the i-th TRDP record (13 R514). -/
def trdpCfg (d : Dev) (i : Nat) : Option TrdpCfg := (netCfg d).trdp[i]?

/-- Length of a dataset in bytes (13 R517). -/
def datasetLen : Nat → Nat
  | 1 => 56 | 2 => 256 | 3 => 32 | 4 => 16 | _ => 24

/-- DEV_STATUS (13 R518), in network byte order. -/
def devStatus (d : Dev) : List Byte :=
  let l := d.ledger
  let sevs := (latched d).map fun i => (d.sources[i]).eff
  let flags := b2n (errPinLow d) + 2 * b2n (isShadow d) + 4 * b2n l.discordant + 8 * b2n l.standing + 16 * b2n l.conservative
  toBe 4 (seatKey d) ++ idBytes (unitId d) ++ toBe 1 (modeCode d.sys.mode) ++ toBe 1 flags ++ toBe 1 (roleCode l.role) ++ toBe 2 l.allot
    ++ toBe 2 (if allotMin d < l.allot then allotMin d else 0xFFFF) ++ toBe 2 l.bidContract ++ toBe 2 (ledgerCap d)
    ++ toBe 1 (countWhere fun p : Fin 32 => isAttached (d.ports[p])) ++ toBe 1 (countWhere fun p : Fin 32 => (d.ports[p]).minimal)
    ++ toBe 1 (countWhere fun n : Fin 64 => (d.phases[n]).state == .retired) ++ toBe 1 (if sevs.isEmpty then 0xFF else sevs.foldl max 0)
    ++ toBe 2 sevs.length ++ toBe 2 0 ++ toLe 16 d.store.postmark ++ toBe 8 d.tmr.tb

/-- PORT_STATUS (13 R519). -/
def portStatusSet (d : Dev) : List Byte :=
  (indices 32).flatMap fun p =>
    let q := d.ports[p]
    if !hasPort d p then toBe 8 0
    else
      let f := b2n q.source + 2 * b2n q.eprMode + 4 * b2n ((d.guards[p]).state == .latched) + 8 * b2n q.startFail + 16 * b2n q.minimal
        + 32 * b2n ((q.capWatts, q.capMa) != capOf d (phasesOf d p)) + 64 * b2n q.pend.isSome
      toBe 1 (tcCode q.tc) ++ toBe 1 f ++ toBe 2 (q.volt / 10) ++ toBe 2 (d.chans[iportCh p]).result.toNat ++ toBe 2 q.hand

/-- FEED_STATUS (13 R520). -/
def feedStatusSet (d : Dev) : List Byte :=
  (indices 4).flatMap fun f =>
    let x := d.feeds[f]
    toBe 1 (feedCode x.state) ++ toBe 1 (b2n x.pg + 2 * b2n x.pgWarn + 4 * b2n x.blocking + 8 * b2n x.limiting) ++ toBe 2 (Config.feedVin d.freeCtr f)
      ++ toBe 2 (d.chans[feedCh f 1]).result.toNat
      ++ toBe 2 (if (feedCfg d f).tsrc = 1 then twos 16 x.temp else (d.chans[feedCh f 2]).result.toNat)

/-- A dataset, sampled now (13 R517). -/
def datasetNow (d : Dev) : Nat → List Byte
  | 1 => devStatus d
  | 2 => portStatusSet d
  | _ => feedStatusSet d

/-- The next publish instant of telegram i after now (13 R514). -/
def publishAt (d : Dev) (i cycle : Nat) : Nat :=
  let c := ticksOfMs cycle
  let o := 5000 * i
  if d.tmr.tb < o then o else ((d.tmr.tb - o) / c + 1) * c + o

/-- A telegram's state changed. -/
def onTg (i : Fin 16) (f : Telegram → Telegram) : Dev → Dev := onNet fun n => { n with tgs := upd n.tgs i f }

/-- An order from the train (13 R522): issued once under a number above those held and sent. -/
def trainOrder (dataset : Nat) (x : TrdpIn) (d : Dev) : Dev :=
  if isShadow d || decide (x.orderNo ≤ d.ledger.orderHeld) || decide (x.orderNo ≤ d.net.lastOrder) then d
  else
    let param := if dataset = 4 then x.budget else leNat ((x.caps.take 4).flatMap fun c => toLe 2 c)
    netEvent 3 (issueOrder ⟨x.orderNo, dataset - 3, 0, 1, x.tOrder, param, 0, []⟩ (onNet (fun n => { n with lastOrder := x.orderNo }) d))

/-- A process-data telegram at one subscription (13 R513, R515). -/
def takeTelegram (i : Fin 16) (c : TrdpCfg) (x : TrdpIn) (d : Dev) : Dev :=
  if !x.fcsOk || x.length != datasetLen c.dataset then onTg i (fun t => { t with discard := inc8 t.discard }) d
  else
    let d1 := onTg i (fun t => { t with timeout := false, count := wrapInc 8 t.count, lastTb := d.tmr.tb, seqNo := x.seqNo, stored := some x }) d
    trainOrder c.dataset x (startTimer (.trdpTimeout i) (3 * ticksOfMs c.cycle) d1)

/-- The subscriptions of a ComId. -/
def subsOf (d : Dev) (comId : Nat) : List (Fin 16 × TrdpCfg) :=
  (indices 16).filterMap fun i => match trdpCfg d i.val with | some c => if c.subscribe && c.comId == comId then some (i, c) else none | none => none

def fxTrdpPdReceive (x : TrdpIn) (d : Dev) : Dev :=
  netRx (fun y => if x.msgPd then forEach (subsOf y x.comId) (fun s z => takeTelegram s.1 s.2 x z) y else y) d
/-- 13 R513, R515, R521, R522. -/
def execTrdpPdReceive (x : TrdpIn) (s : State) : Host.Outcome State Fault Refusal := act (fxTrdpPdReceive x) s

def fxTrdpPublish (i : Fin 16) (d : Dev) : Dev :=
  match trdpCfg d i.val with
  | none => stopTimer (.trdpPublish i) d
  | some c =>
    if c.subscribe then stopTimer (.trdpPublish i) d
    else
      let d1 := startTimerAt (.trdpPublish i) (publishAt d i.val c.cycle) d
      if isShadow d || !d.net.link || !d.net.running then d1
      else if !routable d c.dest then onNet (fun n => { n with rxDrop := sat 0xFFFF (n.rxDrop + 1) }) d1
      else
        let n := wrapInc 32 (d.net.tgs[i]).seqNo
        netSend (.trdp i n d.tmr.tb (datasetNow d c.dataset)) (onTg i (fun t => { t with seqNo := n, count := wrapInc 8 t.count, lastTb := d.tmr.tb }) d1)
/-- 13 R507, R514, R517 to R520. -/
def execTrdpPublish (i : Fin 16) (s : State) : Host.Outcome State Fault Refusal := act (fxTrdpPublish i) s

def fxTrdpTimeout (i : Fin 16) (d : Dev) : Dev :=
  match trdpCfg d i.val with
  | some c => if c.subscribe then netEvent 2 (onTg i (fun t => { t with timeout := true }) (stopTimer (.trdpTimeout i) d)) else d
  | none => d
/-- 13 R515. -/
def execTrdpTimeout (i : Fin 16) (s : State) : Host.Outcome State Fault Refusal := act (fxTrdpTimeout i) s

def fxMdNotification (x : TrdpIn) (d : Dev) : Dev :=
  netRx (fun y => match (subsOf y x.comId).find? fun s => (s.2.dataset == 4 || s.2.dataset == 5) && x.length == datasetLen s.2.dataset with
    | some s => if x.fcsOk then trainOrder s.2.dataset x y else y
    | none => y) d
/-- 13 R516, R522. -/
def execMdNotification (x : TrdpIn) (s : State) : Host.Outcome State Fault Refusal := act (fxMdNotification x) s

def fxMdRequest (comId : Nat) (d : Dev) : Dev :=
  netRx (fun y => match (netCfg y).trdp.find? fun c => !c.subscribe && c.comId == comId with
    | some c => netSend (.mdReply comId (datasetNow y c.dataset)) y
    | none => netSend (.mdError comId) y) d
/-- 13 R516. -/
def execMdRequest (comId : Nat) (s : State) : Host.Outcome State Fault Refusal := act (fxMdRequest comId) s

/-! ### Start and restart -/

/-- The multicast groups of the subscribe records (13 R510). -/
def groupsOf (c : NetCfg) : List Nat := ((c.trdp.filter fun t => t.subscribe && t.dest / 2 ^ 28 == 14).map (·.dest)).eraseDups

/-- The MAC stops (13 R526 MAC_OFF, 15 R565). -/
def netStop (d : Dev) : Dev :=
  let d1 := stopTimersIf (fun e => match e with | .trdpPublish _ => true | .trdpTimeout _ => true | _ => false) d
  onlyIf d.net.link (netEvent 1) (onNet (fun n => { n with running := false, link := false }) d1)

/-- The MAC starts or restarts with the NETWORK section in force (13 R508, R510, R514, R522): groups, telegrams, announcements. -/
def netStart (d : Dev) : Dev :=
  if !macOn d then netStop d
  else
    let c := netCfg d
    let gone := d.net.groups.filter fun g => !(groupsOf c).contains g
    let d1 := forEach gone (fun g => netSend (.igmpLeave g)) d
    let d2 := stopTimersIf (fun e => match e with | .trdpPublish _ => true | .trdpTimeout _ => true | _ => false) d1
    let d3 := onNet (fun n => { n with running := true, groups := groupsOf c, tgs := n.tgs.map fun t => { t with timeout := false } }) d2
    let d4 := forEach (indices 16) (fun i x => match trdpCfg x i.val with
      | some t =>
        if t.subscribe then startTimer (.trdpTimeout i) (3 * ticksOfMs t.cycle) x else startTimerAt (.trdpPublish i) (publishAt x i.val t.cycle) x
      | none => x) d3
    if d4.net.link then announce d4 else d4

/-- A write of NET_CTL (13 R526). -/
def netCtl (v : Word) (d : Dev) : Dev :=
  let off := bit v 3
  let d1 := onNet (fun n => { n with pcp := bits v 0 3, macOff := off }) d
  if off && !d.net.macOff then netStop d1 else if !off && d.net.macOff then netStart d1 else d1

end Sys2Proof.Machine
end

