-- ==== Sys2Proof/Machine/Update.lean ====
section
/-! DEFINITION. Firmware update (14): sessions, parcels, verification, activation, trial, fallback, floors, ROM recovery. -/

namespace Sys2Proof.Machine

/-! ### Opcodes and records -/

/-- Opcodes of the UPDATE group (12 R482). -/
def opUpdateOpen : Nat := 0x0500
def opParcelWrite : Nat := 0x0501
def opUpdateVerify : Nat := 0x0502
def opUpdateActivate : Nat := 0x0503
def opUpdateConfirm : Nat := 0x0504
def opUpdateAbort : Nat := 0x0505
def opUpdateFloor : Nat := 0x0506

/-- STORE_WRITE, STORE_INTEGRITY and HEALTH_TIMEOUT (11 R432). -/
def srcStoreWrite : Fin 768 := srcOf 0x226
def srcStoreIntegrity : Fin 768 := srcOf 0x227
def srcHealth : Fin 768 := srcOf 0x253

/-- The store controller maps a block that failed out onto a spare block; without one left it raises STORE_INTEGRITY (15 R575). -/
def mapOut (d : Dev) : Dev :=
  if d.sys.spareBlocks = 0 then raise srcStoreIntegrity d else onSys (fun s => { s with spareBlocks := s.spareBlocks - 1 }) d

/-- An erase or a program of a block fails (15 R575). -/
def blockFails (d : Dev) : Dev := mapOut (raise srcStoreWrite d)

/-- The index of the master whose command of an opcode is accepted; 0xFF for none. -/
def jobMaster (d : Dev) (op : Nat) : Nat := ((jobOf d op).bind fun j => ringMaster d j.ref.ring).elim 0xFF (·.val)

/-- A firmware event journalled with VERSION and the master (14 R552): the register is UPD_SLOTs_VER. -/
def journalFw (s : Fin 4) (m : Nat) (d : Dev) : Dev :=
  journal 6 (eventPayload d (0x90030 + 4 * s.val) (w32 (d.upd.slots[s]).version) m 0 s.val) d

/-- A slot takes a state, journalled (14 R552). -/
def setFw (s : Fin 4) (st : FwState) (m : Nat) (d : Dev) : Dev := journalFw s m (onFw s (fun x => { x with state := st }) d)

/-- The accepted command of an opcode completes. -/
def completeOp (op : Nat) (k : Code) (result : List Byte) (d : Dev) : Dev :=
  match jobOf d op with
  | some j => complete j.ref op k result d
  | none => d

/-- The device is in RECOVERY (14 R553). -/
def inRecovery (d : Dev) : Bool := d.sys.mode == .recovery

/-- The recovery command ends with a result (14 R554). -/
def recEnd (result : Nat) : Dev → Dev := onUpd fun u => { u with recBusy := false, recResult := result % 256 }

/-! ### Slots -/

/-- The component of a slot (14 R529). -/
def compOf (s : Fin 4) : Fin 2 := if s.val < 2 then 0 else 1

/-- The other slot of the component. -/
def otherSlot (s : Fin 4) : Fin 4 := if s.val % 2 = 0 then Fin.ofNat 4 (s.val + 1) else Fin.ofNat 4 (s.val - 1)

/-- A port core runs a slot (14 R529). -/
def coreRuns (d : Dev) (s : Fin 4) : Bool := (indices 4).any fun k => d.upd.coreRun.getLsbD k.val && coreSlot d k == s

/-- A slot that R529 leaves free. -/
def fwFree (d : Dev) (s : Fin 4) : Bool :=
  let x := (d.upd.slots[s]).state
  x != .active && x != .trial && x != .previous && !coreRuns d s

/-- The slots of a component, the lower-numbered first. -/
def compSlots (comp : Fin 2) : List (Fin 4) := [fwSlot comp 0, fwSlot comp 1]

/-- A slot of a component in a state. -/
def slotIn (d : Dev) (comp : Fin 2) (st : FwState) : Option (Fin 4) := (compSlots comp).find? fun s => (d.upd.slots[s]).state == st

/-- The target of an UPDATE_OPEN (14 R537). -/
def openTarget (d : Dev) (comp : Fin 2) : Option (Fin 4) :=
  match (compSlots comp).find? (fwFree d) with
  | some s => some s
  | none =>
    match slotIn d comp .active, slotIn d comp .previous with
    | some _, some s => if coreRuns d s then none else some s
    | _, _ => none

/-- A session ends; its slot is EMPTY and is erased at the next open (14 R540). -/
def abortSession (m : Nat) (d : Dev) : Dev :=
  match d.upd.session with
  | none => d
  | some (_, s, _) =>
    updEvent 7 (journalFw s m (onUpd (fun u => { u with session := none, programming := none, parcelLock := false })
      (onFw s (fun _ => {}) d)))

/-! ### Opening a session -/

/-- Parcel counts of a component (14 R537). -/
def countOk (comp : Fin 2) (count : Nat) : Bool := decide (2 ≤ count) && decide (count ≤ if comp = 0 then 1024 else 256)

/-- A session opens on a slot, whose erase starts (14 R537). -/
def openSession (comp : Fin 2) (s : Fin 4) (count m : Nat) (d : Dev) : Dev :=
  updEvent 0 (journalFw s m (onUpd (fun u => { u with session := some (comp, s, count) }) (onFw s (fun _ => { state := .erasing }) d)))

/-- UPDATE_OPEN once checked (14 R537). -/
def cmdUpdateOpen (c : CmdRef) (comp : Fin 2) (count : Nat) (d : Dev) : Dev :=
  if d.upd.session.isSome || d.upd.trial.isSome || d.upd.quietWait.isSome || d.upd.paused.isSome then complete c opUpdateOpen .state [] d
  else match openTarget d comp with
    | none => complete c opUpdateOpen .state [] d
    | some s =>
      let d1 := addJob { ref := c, opcode := opUpdateOpen, arg := comp.val, arg2 := count } d
      openSession comp s count (jobMaster d1 opUpdateOpen) d1

def fxUpdateOpen (c : CmdRef) (comp : Fin 2) (count : Nat) (d : Dev) : Dev :=
  checked c opUpdateOpen (countOk comp count) none (cmdUpdateOpen c comp count) d
/-- 14 R537. -/
def execUpdateOpen (c : CmdRef) (comp : Fin 2) (count : Nat) (s : State) : Host.Outcome State Fault Refusal := act (fxUpdateOpen c comp count) s

/-- The erase of the target ends (14 R537, R554); a failed erase ends the session, and the slot holds nothing that passes. -/
def fxSlotEraseDone (ok : Bool) (d : Dev) : Dev :=
  match d.upd.session with
  | some (comp, s, count) =>
    if (d.upd.slots[s]).state != .erasing then d
    else if ok then
      let d1 := setFw s .writing (jobMaster d opUpdateOpen) d
      if inRecovery d then recEnd 0 d1
      else completeOp opUpdateOpen .done (toLe 1 s.val ++ toLe 1 comp.val ++ toLe 2 count) d1
    else
      let d1 := blockFails (onUpd (fun u => { u with session := none }) (setFw s .invalid (jobMaster d opUpdateOpen) d))
      if inRecovery d then recEnd Code.storeError.toNat d1 else completeOp opUpdateOpen .storeError [] d1
  | none => d
/-- 14 R537. -/
def execSlotEraseDone (ok : Bool) (s : State) : Host.Outcome State Fault Refusal := act (fxSlotEraseDone ok) s

/-! ### Parcels -/

/-- The parcel buffer (14 R538). -/
def parcelBytes (d : Dev) : List Byte := Memory.readBytes d.parcel 0 4096

/-- What a parcel write comes to (14 R538, R539). -/
inductive ParcelFate where
  | state | badParam | refused (crc : Nat) | already | program (slot : Fin 4)
  deriving DecidableEq, Repr

/-- The fate of a parcel (14 R538, R539). -/
def parcelFate (d : Dev) (ofs crc : Nat) : ParcelFate :=
  match d.upd.session with
  | none => .state
  | some (_, s, count) =>
    if (d.upd.slots[s]).state != .writing then .state
    else if count * 4096 ≤ ofs then .badParam
    else
      let c := crc32c (parcelBytes d)
      if c != crc then .refused c
      else match (d.upd.slots[s]).parcels.find? fun x => x.1 == ofs with
        | some x => if crc32c x.2 == c then .already else .refused c
        | none => .program s

/-- Programming starts (14 R538). -/
def startParcel (ofs : Nat) (d : Dev) : Dev := onUpd (fun u => { u with programming := some (ofs, parcelBytes d), parcelLock := true }) d

/-- PARCEL_WRITE once checked (14 R538, R539). -/
def cmdParcelWrite (c : CmdRef) (ofs crc : Nat) (d : Dev) : Dev :=
  match parcelFate d ofs crc with
  | .state => complete c opParcelWrite .state [] d
  | .badParam => complete c opParcelWrite .badParam [] d
  | .refused x => complete c opParcelWrite .refused (toLe 4 x) d
  | .already => complete c opParcelWrite .done [] d
  | .program _ => startParcel ofs (addJob { ref := c, opcode := opParcelWrite, arg := ofs } d)

def fxParcelWrite (c : CmdRef) (ofs crc : Nat) (d : Dev) : Dev :=
  checked c opParcelWrite (decide (ofs % 4096 = 0)) none (cmdParcelWrite c ofs crc) d
/-- 14 R538, R539. -/
def execParcelWrite (c : CmdRef) (ofs crc : Nat) (s : State) : Host.Outcome State Fault Refusal := act (fxParcelWrite c ofs crc) s

/-- The programming of a parcel ends (14 R538). -/
def fxParcelProgrammed (ok : Bool) (d : Dev) : Dev :=
  match d.upd.programming, d.upd.session with
  | some (ofs, b), some (_, s, _) =>
    let d1 := onUpd (fun u => { u with programming := none, parcelLock := false }) d
    if ok then
      let d2 := onFw s (fun x => { x with parcels := x.parcels ++ [(ofs, b)] }) d1
      if inRecovery d then recEnd 0 d2 else completeOp opParcelWrite .done [] d2
    else
      let d2 := blockFails d1
      if inRecovery d then recEnd Code.storeError.toNat d2 else completeOp opParcelWrite .storeError [] d2
  | _, _ => d
/-- 14 R538. -/
def execParcelProgrammed (ok : Bool) (s : State) : Host.Outcome State Fault Refusal := act (fxParcelProgrammed ok) s

/-! ### Verification -/

/-- The written package as one string (14 R531). -/
def packageBytes (x : FwSlot) (count : Nat) : List Byte :=
  (List.range count).flatMap fun i => bytesAt (((x.parcels.find? fun y => y.1 == 4096 * i).map Prod.snd).getD []) 0 4096

/-- Every parcel below COUNT is written (14 R541 MISSING). -/
def parcelsWhole (x : FwSlot) (count : Nat) : Bool := (List.range count).all fun i => x.parcels.any fun y => y.1 == 4096 * i

/-- MAGIC of a component (14 R531): "NFWB" or "NFPF". -/
def fwMagic (comp : Fin 2) : Nat := if comp = 0 then 0x4257464E else 0x4650464E

/-- Component i of a header: TYPE, OFFSET, CLEN and CDIGEST (14 R531). -/
def compType (b : List Byte) (i : Nat) : Nat := fieldAt b (64 + 48 * i) 2
def compOfs (b : List Byte) (i : Nat) : Nat := fieldAt b (68 + 48 * i) 4
def compLen (b : List Byte) (i : Nat) : Nat := fieldAt b (72 + 48 * i) 4
def compDigest (b : List Byte) (i : Nat) : Nat := beNat (bytesAt b (80 + 48 * i) 32)

/-- Components a header lists, at most the four it has room for. -/
def compList (b : List Byte) : List Nat := List.range (min 4 (fieldAt b 42 2))

/-- A firmware key may verify (14 R533): it agrees with the ROM and is not revoked. -/
def fwKeyOk (d : Dev) (k : Nat) : Bool :=
  decide (k < 2) && sha256 d.upd.uzKeys[Fin.ofNat 2 k] == Config.romKeyHash (Fin.ofNat 2 k) && !d.upd.keyRevoked.getLsbD k

/-- A key whose hash differs raises STORE_INTEGRITY (14 R533). -/
def fwKeyBroken (d : Dev) (k : Nat) : Bool := decide (k < 2) && sha256 d.upd.uzKeys[Fin.ofNat 2 k] != Config.romKeyHash (Fin.ofNat 2 k)

/-- SIG over bytes 0 to 255 (14 R531). -/
def fwSigned (d : Dev) (b : List Byte) (k : Nat) : Bool :=
  let key := d.upd.uzKeys[Fin.ofNat 2 k]
  ecdsaVerify (keyX key) (keyY key) (sha256 (b.take 256)) (leNat (bytesAt b 256 32)) (leNat (bytesAt b 288 32))

/-- COUNT and TYPE fit the KIND, and every CDIGEST agrees (14 R541 DIGEST). -/
def fwDigestsOk (b : List Byte) (comp : Fin 2) : Bool :=
  let types := sortBy (fun a c => decide (a ≤ c)) ((compList b).map (compType b))
  byteAt b 9 == comp.val && fieldAt b 42 2 == (if comp = 0 then 4 else 1) && types == (if comp = 0 then [1, 2, 3, 4] else [5])
    && (compList b).all fun i => compDigest b i == sha256 (bytesAt b (compOfs b i) (compLen b i))

/-- The active configuration image and its amendments fit a schema (02 R39). -/
def imageFits (d : Dev) (major minor : Nat) : Bool :=
  let s := d.store.slots[d.store.activeSlot]
  s.state != .active || (s.image :: s.amends).all fun b => fieldAt b 40 2 == major && decide (fieldAt b 42 2 ≤ minor)

/-- Port firmware and platform set are compatible (14 R542). -/
def pfiFits (pfMajor pfMinor psMajor psMinor : Nat) : Bool := pfMajor == psMajor && decide (pfMinor ≤ psMinor)

/-- The compatibility rule for a package (14 R542). -/
def interfaceOk (d : Dev) (b : List Byte) (comp : Fin 2) : Bool :=
  if comp = 0 then (indices 4).all fun k =>
    let x := d.upd.slots[coreSlot d k]
    !d.upd.coreRun.getLsbD k.val || pfiFits x.pfiMajor x.pfiMinor (fieldAt b 38 2) (fieldAt b 40 2)
  else match runningPs d with
    | some s => pfiFits (fieldAt b 38 2) (fieldAt b 40 2) (d.upd.slots[s]).pfiMajor (d.upd.slots[s]).pfiMinor
    | none => false

/-- The first code of R541 that applies to a package, 0 for none; `rec` is ROM recovery (14 R554). -/
def verifyCode (d : Dev) (comp : Fin 2) (s : Fin 4) (count : Nat) (recov : Bool) : Nat :=
  let x := d.upd.slots[s]
  if !parcelsWhole x count then 0x0401
  else
    let b := packageBytes x count
    let key := byteAt b 10
    if fieldAt b 0 4 != fwMagic comp then 0x0402
    else if fieldAt b 4 2 != 1 || fieldAt b 6 2 != 0x3264 || !(byteAt b 8).testBit (d.sys.stepping - 1) then 0x0403
    else if fieldAt b 12 4 != count * 4096 || (compList b).any (fun i => decide (count * 4096 < compOfs b i + compLen b i)) then 0x0404
    else if !fwKeyOk d key then 0x0405
    else if !fwSigned d b key then 0x0406
    else if (byteAt b 11).testBit 0 && bytesAt b 24 9 != idBytes (unitId d) then 0x0407
    else if byteAt b 20 < d.upd.floors[comp] then 0x0408
    else if !fwDigestsOk b comp then 0x0409
    else if comp = 0 && !imageFits d (fieldAt b 34 2) (fieldAt b 36 2) then 0x040A
    else if !recov && !interfaceOk d b comp then 0x040B
    else 0

/-- What a verified slot shows of its header (14 R531, R556, R532). -/
def fwOfHeader (x : FwSlot) (b : List Byte) : FwSlot :=
  { x with
    security := byteAt b 20, bound := (byteAt b 11).testBit 0, keyId := byteAt b 10, pfiMinor := fieldAt b 40 2, pfiMajor := fieldAt b 38 2
    version := fieldAt b 16 4, stateFormat := byteAt b 33, schemaMajor := fieldAt b 34 2, schemaMinor := fieldAt b 36 2
    revokeOther := (byteAt b 11).testBit 1, waybill := sha256 (b.take 256) }

/-- UPDATE_VERIFY once checked (14 R541). -/
def cmdUpdateVerify (c : CmdRef) (d : Dev) : Dev :=
  if d.upd.session.isNone then complete c opUpdateVerify .state [] d
  else addJob { ref := c, opcode := opUpdateVerify } d

def fxUpdateVerify (c : CmdRef) (d : Dev) : Dev := checked c opUpdateVerify true none (cmdUpdateVerify c) d
/-- 14 R541. -/
def execUpdateVerify (c : CmdRef) (s : State) : Host.Outcome State Fault Refusal := act (fxUpdateVerify c) s

/-- A verification runs: UPDATE_VERIFY is accepted, or VERIFY of ROM recovery is busy. -/
def verifying (d : Dev) : Bool := (jobOf d opUpdateVerify).isSome || (inRecovery d && d.upd.recBusy && d.upd.recCmd == 3)

def fxPackageVerifyDone (d : Dev) : Dev :=
  match d.upd.session with
  | some (comp, s, count) =>
    if !verifying d then d
    else
      let code := verifyCode d comp s count (inRecovery d)
      let b := packageBytes (d.upd.slots[s]) count
      let m := jobMaster d opUpdateVerify
      let result := toLe 1 code ++ toLe 1 0 ++ toLe 2 code ++ toLe 4 (fieldAt b 16 4)
      let d1 := onUpd (fun u => { u with session := none, lastCode := code }) d
      let d2 := onlyIf (code == 0x0405 && fwKeyBroken d (byteAt b 10)) (raise srcStoreIntegrity) d1
      if code = 0 then
        let d3 := updEvent 1 (setFw s .verified m (onFw s (fun x => fwOfHeader x b) d2))
        if inRecovery d then recEnd 0 d3 else completeOp opUpdateVerify .done result d3
      else
        let d3 := updEvent 2 (onUpd (fun u => { u with failures := inc8 u.failures }) (setFw s .invalid m d2))
        if inRecovery d then recEnd code d3 else completeOp opUpdateVerify .refused result d3
  | none => d
/-- 14 R541. -/
def execPackageVerifyDone (s : State) : Host.Outcome State Fault Refusal := act fxPackageVerifyDone s

/-! ### Quiet moments -/

/-- A port is quiet (14 R543). -/
def portQuiet (d : Dev) (p : Fin 32) : Bool :=
  let q := d.ports[p]; let x := d.pd[p]
  (q.tc == .disabled || q.tc == .unattachedSrc || q.tc == .unattachedSnk || (q.tc == .minimal && !q.minAtt) || (isAttached q && explicit d p))
    && x.rxQueue.isEmpty && x.txQueue.isEmpty && x.ams == .none && !q.transition
    && !d.timers.any fun t => ((tcTimers p).contains t.2 || (pdTimers p).contains t.2 || (cableTimers p).contains t.2)
      && decide (t.1 < d.tmr.tb + ticksOfMs 15)

/-- A port core is quiet (14 R543). -/
def coreQuiet (d : Dev) (k : Fin 4) : Bool := (diePorts k).all (portQuiet d)

/-- The device is quiet for a platform set (14 R543). -/
def deviceQuiet (d : Dev) : Bool :=
  (indices 4).all (coreQuiet d) && !d.host.jobs.any (fun j => cmdGroup j.opcode == 1) && censusIdle d
    && !d.store.switchAt.any (fun x => decide (x.2 < d.tmr.tb + ticksOfS 1))
    && !d.ledger.orders.any fun o => o.whole && !o.applied && decide (o.order.tOrder < d.tmr.tb + ticksOfS 1)

/-- Cores that run the TRIAL slot. -/
def trialCores (d : Dev) : List (Fin 4) := (indices 4).filter fun k => coreSlot d k == d.upd.trialSlot

/-- What an activation waits for is quiet. -/
def quietFor (d : Dev) (a : Activation) : Bool :=
  match a with
  | .core k _ => coreQuiet d k
  | .platform _ => deviceQuiet d
  | .fallback comp => if comp = 0 then deviceQuiet d else (trialCores d).all (coreQuiet d)

/-- An activation or a fallback waits up to 2 s for a quiet moment, which may be now (14 R543, R551). -/
def awaitQuiet (a : Activation) (d : Dev) : Dev :=
  let d1 := startTimer .quietWaitTimeout (ticksOfS 2) (onUpd (fun u => { u with quietWait := some a }) d)
  if quietFor d1 a then post .updateQuietMoment d1 else d1

/-! ### Trials -/

/-- A trial starts: the health timer runs for HEALTH_S (14 R549). -/
def startTrial (comp : Fin 2) (s : Fin 4) (d : Dev) : Dev :=
  if d.upd.trial.isSome then d
  else
    let n := ticksOfS d.cfg.device.healthS
    startTimer .healthTimerExpiry n
      (onUpd (fun u => { u with trial := some comp, trialSlot := s, trialBad := 0, healthEnd := d.tmr.tb + n }) d)

/-- A trial ends. -/
def endTrial (d : Dev) : Dev := stopTimer .healthTimerExpiry (onUpd (fun u => { u with trial := none, trialBad := 0, healthEnd := 0 }) d)

/-- The sources of R550 (14 R550): WDT_SV, WDT_PCk, WDT_EDGEe, SRAM_ECC_UNCORR. -/
def healthSource (n : Fin 768) : Bool := (decide (0x230 ≤ n.val) && decide (n.val ≤ 0x238)) || n.val == 0x258

/-- A fallback begins (14 R551); cause 1 to 3 raise HEALTH_TIMEOUT with their number. -/
def startFallback (why : Nat) (d : Dev) : Dev :=
  match d.upd.trial with
  | none => d
  | some comp =>
    if d.upd.trialBad != 0 then d
    else
      let d1 := stopTimer .healthTimerExpiry (onUpd (fun u => { u with trialBad := why }) d)
      let d2 := onlyIf (decide (why ≤ 3)) (raiseAt srcHealth why) d1
      match d2.upd.quietWait with
      | some _ => awaitQuiet (.fallback comp) (completeOp opUpdateActivate .timeout [] d2)
      | none => if d2.upd.paused.isSome then d2 else awaitQuiet (.fallback comp) d2

/-- A raise of a source of R550 falls a trial back (14 R551 case 2). -/
def healthWatch (n : Fin 768) (d : Dev) : Dev := if healthSource n then startFallback 2 d else d

def fxHealthTimerExpiry (d : Dev) : Dev := if d.upd.trial.isSome && decide (d.upd.healthEnd ≤ d.tmr.tb) then startFallback 1 d else d
/-- 14 R551 case 1. -/
def execHealthTimerExpiry (s : State) : Host.Outcome State Fault Refusal := act fxHealthTimerExpiry s

/-! ### Activation -/

/-- A part pauses: a port core stops for at most 12 ms, or SV stops for a platform set (14 R544 to R546). -/
def pauseFor (a : Activation) (d : Dev) : Dev :=
  let d1 := stopTimer .quietWaitTimeout (onUpd (fun u => { u with quietWait := none, paused := some a }) d)
  match a with
  | .core k _ => startTimer (.activationDone false) (ticksOfMs 12 + 1) (onUpd (fun u => { u with coreRun := u.coreRun &&& ~~~ BitVec.ofNat 4 (2 ^ k.val) }) d1)
  | _ => onUpd (fun u => { u with svRun := false }) d1

/-- The next part of a fallback pauses (14 R551): each core that runs the TRIAL slot in turn, or the platform set. -/
def pauseFallback (comp : Fin 2) (d : Dev) : Dev :=
  if comp = 0 then pauseFor (.fallback 0) d
  else match trialCores d with
    | k :: _ => pauseFor (.core k (otherSlot d.upd.trialSlot)) d
    | [] => pauseFor (.fallback 1) d

/-- The activation that waits begins (14 R544, R546, R551). -/
def beginActivation (a : Activation) (d : Dev) : Dev :=
  let d1 := onHost (fun h => { h with jobs := h.jobs.map fun j => if j.opcode == opUpdateActivate then { j with begun := true } else j }) d
  match a with
  | .core _ s =>
    let m := jobMaster d opUpdateActivate
    pauseFor a (startTrial 1 s (if (d.upd.slots[s]).state == .verified then setFw s .trial m d1 else d1))
  | .platform s => pauseFor a (startTrial 0 s d1)
  | .fallback comp => pauseFallback comp d1

def fxUpdateQuietMoment (d : Dev) : Dev :=
  match d.upd.quietWait with
  | some a => if quietFor d a then beginActivation a d else d
  | none => d
/-- 14 R544, R546, R551. -/
def execUpdateQuietMoment (s : State) : Host.Outcome State Fault Refusal := act fxUpdateQuietMoment s

def fxQuietWaitTimeout (d : Dev) : Dev :=
  match d.upd.quietWait with
  | some (.fallback comp) => beginActivation (.fallback comp) d
  | some _ => completeOp opUpdateActivate .timeout [] (onUpd (fun u => { u with quietWait := none }) d)
  | none => d
/-- 14 R543: TIMEOUT; a fallback pauses regardless (R551). -/
def execQuietWaitTimeout (s : State) : Host.Outcome State Fault Refusal := act fxQuietWaitTimeout s

/-- The device runs BOOT within 10 ms, with a WAKE cause (14 R552, R554). -/
def bootSoon (wake : Nat) (d : Dev) : Dev := startTimer .bootTimeout (ticksOfMs 10) (onSys (fun s => { s with bootDue := some wake }) d)

/-- In MINIMAL for want of port firmware, the VERIFIED slot becomes ACTIVE and BOOT runs (14 R552); the WAKE cause of that BOOT is a
free value (log entry 5). -/
def activateAtOnce (c : CmdRef) (s : Fin 4) (d : Dev) : Dev :=
  let m := (ringMaster d c.ring).elim 0xFF (·.val)
  bootSoon ((freeValue d).toNat % 8) (bumpFree (complete c opUpdateActivate .done [] (updEvent 3 (setFw s .active m
    (onUpd (fun u => { u with activations := inc8 u.activations }) d)))))

/-- UPDATE_ACTIVATE of a port core (14 R544). -/
def activateCore (c : CmdRef) (k : Fin 4) (d : Dev) : Dev :=
  match (slotIn d 1 .trial).or (slotIn d 1 .verified) with
  | none => complete c opUpdateActivate .state [] d
  | some s =>
    let attached := (diePorts k).any fun p => isAttached (d.ports[p])
    if coreSlot d k == s || (attached && (d.upd.slots[s]).stateFormat != (d.upd.slots[coreSlot d k]).stateFormat) || d.upd.trial == some 0 then
      complete c opUpdateActivate .state [] d
    else awaitQuiet (.core k s) (addJob { ref := c, opcode := opUpdateActivate, arg := k.val + 1 } d)

/-- UPDATE_ACTIVATE of the platform set (14 R546). -/
def activatePlatform (c : CmdRef) (d : Dev) : Dev :=
  match slotIn d 0 .verified with
  | none => complete c opUpdateActivate .state [] d
  | some s =>
    if (coreRuns d 2 && coreRuns d 3) || d.upd.trial.isSome then complete c opUpdateActivate .state [] d
    else awaitQuiet (.platform s) (addJob { ref := c, opcode := opUpdateActivate } d)

/-- UPDATE_ACTIVATE once checked (14 R543, R544, R546, R552). -/
def cmdUpdateActivate (c : CmdRef) (which : Fin 5) (d : Dev) : Dev :=
  if d.upd.quietWait.isSome || d.upd.paused.isSome then complete c opUpdateActivate .state [] d
  else if d.sys.mode == .minimal && d.coll.minCause == 3 && (slotIn d 1 .active).isNone then
    match slotIn d (if which = 0 then 0 else 1) .verified with
    | some s => activateAtOnce c s d
    | none => complete c opUpdateActivate .state [] d
  else if which = 0 then activatePlatform c d
  else activateCore c (Fin.ofNat 4 (which.val - 1)) d

def fxUpdateActivate (c : CmdRef) (which : Fin 5) (d : Dev) : Dev := checked c opUpdateActivate true none (cmdUpdateActivate c which) d
/-- 14 R543, R544, R546. -/
def execUpdateActivate (c : CmdRef) (which : Fin 5) (s : State) : Host.Outcome State Fault Refusal := act (fxUpdateActivate c which) s

/-- The postmark from D and the waybill of the running platform set (02 R52). -/
def newPostmark (d : Dev) : Dev :=
  let w := ((runningPs d).map fun s => (d.upd.slots[s]).waybill).getD 0
  onStore (fun s => { s with postmark := digest16 (toBe 32 s.digest ++ toBe 32 w) }) d

/-- A slot of a component takes a state in place of another. -/
def swapFw (comp : Fin 2) (old new : FwState) (m : Nat) (d : Dev) : Dev :=
  match slotIn d comp old with
  | some s => setFw s new m d
  | none => d

/-- A fallback is complete (14 R551): the TRIAL slot is REJECTED, PREVIOUS runs; an UPDATE_ABORT completes. -/
def endFallback (comp : Fin 2) (d : Dev) : Dev :=
  let d1 := setFw d.upd.trialSlot .rejected (jobMaster d opUpdateAbort) d
  let d2 := onlyIf (slotIn d1 comp .active).isNone (swapFw comp .previous .active (jobMaster d opUpdateAbort)) d1
  let d3 := updEvent 5 (onUpd (fun u => { u with fallbacks := inc8 u.fallbacks, paused := none, svRun := true }) d2)
  completeOp opUpdateAbort .done [] (newPostmark (endTrial d3))

/-- After a pause that leaves a fallback due, its next part pauses (14 R551). -/
def continueFallback (d : Dev) : Dev :=
  match d.upd.trial with
  | some comp =>
    if d.upd.trialBad = 0 then d
    else if comp = 0 then pauseFor (.fallback 0) d
    else if (trialCores d).isEmpty then endFallback 1 d
    else pauseFallback 1 d
  | none => d

/-- A port core resumes on a slot (14 R544, R545). -/
def coreResumed (k s : Fin 4) (d : Dev) : Dev :=
  let d1 := stopTimer (.activationDone false) (onUpd (fun u => { u with
    paused := none, coreSlots := u.coreSlots.set k (decide (s = 3)), coreRun := u.coreRun ||| BitVec.ofNat 4 (2 ^ k.val) }) d)
  if d.upd.trialBad != 0 && decide (s ≠ d.upd.trialSlot) then d1
  else
    completeOp opUpdateActivate .done []
      (updEvent 3 (journalFw s (jobMaster d opUpdateActivate) (onUpd (fun u => { u with activations := inc8 u.activations }) d1)))

/-- A platform set reaches step 5 (14 R546). -/
def platformDone (s : Fin 4) (d : Dev) : Dev :=
  let m := jobMaster d opUpdateActivate
  let d1 := setFw s .trial m (swapFw 0 .active .previous m (onUpd (fun u => { u with paused := none, svRun := true, activations := inc8 u.activations }) d))
  let x := d1.upd.slots[s]
  let d2 := onStore (fun c => { c with schemaMajor := x.schemaMajor, schemaMinor := x.schemaMinor }) d1
  completeOp opUpdateActivate .done [] (updEvent 3 (newPostmark d2))

/-- A platform-set activation fails at step 2 or 3 (14 R547); which step and which die are free values (log entry 5). -/
def platformFailed (s : Fin 4) (d : Dev) : Dev :=
  let v := freeValue d
  let step := 1 + bits v 0 1
  let d1 := endTrial (setFw s .rejected (jobMaster d opUpdateActivate) (onUpd (fun u => { u with paused := none, svRun := true }) (bumpFree d)))
  completeOp opUpdateActivate .refused (toLe 1 step ++ toLe 1 (bits v 1 2)) d1

/-- The platform set falls back (14 R551): the schema of PREVIOUS is in force again. -/
def platformBack (d : Dev) : Dev :=
  let d1 := endFallback 0 d
  match runningPs d1 with
  | some s => onStore (fun c => { c with schemaMajor := (d1.upd.slots[s]).schemaMajor, schemaMinor := (d1.upd.slots[s]).schemaMinor }) d1
  | none => d1

/-- A raise that a die or a block reports (11 R439 to R443, 01 R631); a fallback follows it where 14 R551 names the source, once the collector has
it. -/
def takeRaise (n : Fin 768) (stamp : Nat) (d : Dev) : Dev := onlyIf (lostLink d n).isNone (healthWatch n) (raiseStamped n stamp d)

/-- The watchdog source of a core: 0 SV, 1 to 4 the port cores, 5 to 8 the edge microcodes (11 R432). -/
def srcWdt (core : Fin 9) : Fin 768 := srcOf (0x230 + core.val)

/-- A core that hardware restarted does not report running within its bound (11 R433): it raises its source, and while an SV or port-core
source carries out RESET_BLOCK or above an ACTIVE's heartbeat stops (09 R390). A core whose pause that ends leaves a running fallback to its
next part (14 R551). -/
def coreDead (core : Fin 9) (d : Dev) : Dev :=
  let n := srcWdt core
  let stopped := if core.val = 0 then onUpd (fun u => { u with svRun := false }) d
    else if core.val ≤ 4 then onUpd (fun u => { u with coreRun := u.coreRun &&& ~~~ BitVec.ofNat 4 (2 ^ (core.val - 1)) }) d
    else d
  let beat := d.twin.role == 1 && decide (core.val ≤ 4) && decide (6 ≤ (d.sources[n]).action)
  let d1 := takeRaise n d.tmr.tb stopped
  let d2 := onlyIf (beat && (d1.sources[n]).acted) (onTwin fun t => { t with heartbeatStopped := true }) d1
  onlyIf (d.upd.trialBad != 0 && d.upd.paused.isSome && d1.upd.paused.isNone) continueFallback d2

/-- The index of a port core among the watchdogs (11 R432). -/
def watchOf (k : Fin 4) : Fin 9 := ⟨1 + k.val, by omega⟩

def fxActivationDone (ok : Bool) (d : Dev) : Dev :=
  match d.upd.paused with
  | some (.core k s) => if ok then continueFallback (coreResumed k s d) else coreDead (watchOf k) d
  | some (.platform s) => if ok then continueFallback (platformDone s d) else platformFailed s d
  | some (.fallback 0) => if ok then platformBack d else d
  | some (.fallback _) => if ok then endFallback 1 d else d
  | none => d
/-- 14 R544 to R547, R551: a core whose pause exceeds 12 ms raises its watchdog. -/
def execActivationDone (ok : Bool) (s : State) : Host.Outcome State Fault Refusal := act (fxActivationDone ok) s

/-! ### Confirmation, abort and floors -/

/-- The first failing condition of R550, 0 for none (14 R550). -/
def confirmWhy (d : Dev) (comp : Fin 2) : Nat :=
  if !d.upd.svRun || coresUp d != 0xF then 1
  else if !(indices 5).all fun l => d.sys.edgeUp[l] then 2
  else if d.upd.trialBad = 2 then 3
  else if comp = 1 && (trialCores d).length != 4 then 4
  else 0

/-- A trial is confirmed (14 R550, R534). -/
def confirmTrial (comp : Fin 2) (m : Nat) (d : Dev) : Dev :=
  let s := d.upd.trialSlot
  let d1 := setFw s .active m (swapFw comp .active .previous m d)
  let x := d1.upd.slots[s]
  let d2 := onlyIf (comp = 0 && x.revokeOther) (onUpd fun u => { u with keyRevoked := u.keyRevoked ||| BitVec.ofNat 2 (2 ^ (1 - x.keyId)) }) d1
  updEvent 4 (endTrial (onUpd (fun u => { u with confirms := inc8 u.confirms }) d2))

/-- UPDATE_CONFIRM once checked (14 R550). -/
def cmdUpdateConfirm (c : CmdRef) (d : Dev) : Dev :=
  match d.upd.trial with
  | none => complete c opUpdateConfirm .state [] d
  | some comp =>
    let why := confirmWhy d comp
    if why != 0 || d.upd.trialBad != 0 || d.upd.quietWait.isSome || d.upd.paused.isSome || decide (d.upd.healthEnd ≤ d.tmr.tb) then
      complete c opUpdateConfirm .state (toLe 1 why) d
    else complete c opUpdateConfirm .done [] (confirmTrial comp ((ringMaster d c.ring).elim 0xFF (·.val)) d)

def fxUpdateConfirm (c : CmdRef) (d : Dev) : Dev := checked c opUpdateConfirm true none (cmdUpdateConfirm c) d
/-- 14 R550. -/
def execUpdateConfirm (c : CmdRef) (s : State) : Host.Outcome State Fault Refusal := act (fxUpdateConfirm c) s

/-- UPDATE_ABORT once checked (14 R540, R551). -/
def cmdUpdateAbort (c : CmdRef) (d : Dev) : Dev :=
  let m := (ringMaster d c.ring).elim 0xFF (·.val)
  if d.upd.trial.isSome then
    startFallback 4 (addJob { ref := c, opcode := opUpdateAbort } d)
  else if d.upd.session.isSome then complete c opUpdateAbort .done [] (abortSession m d)
  else complete c opUpdateAbort .state [] d

def fxUpdateAbort (c : CmdRef) (d : Dev) : Dev := checked c opUpdateAbort true none (cmdUpdateAbort c) d
/-- 14 R540, R551. -/
def execUpdateAbort (c : CmdRef) (s : State) : Host.Outcome State Fault Refusal := act (fxUpdateAbort c) s

/-- UPDATE_FLOOR once checked (14 R536). -/
def cmdUpdateFloor (c : CmdRef) (comp : Fin 2) (d : Dev) : Dev :=
  match slotIn d comp .active with
  | none => complete c opUpdateFloor .state [] d
  | some s =>
    let sec := (d.upd.slots[s]).security
    if d.upd.trial == some comp || decide (sec ≤ d.upd.floors[comp]) || decide (64 ≤ d.upd.floors[comp]) then complete c opUpdateFloor .state [] d
    else
      let m := (ringMaster d c.ring).elim 0xFF (·.val)
      let d1 := journalFw s m (onUpd (fun u => { u with floors := u.floors.set comp sec }) d)
      let d2 := match slotIn d1 comp .previous with
        | some p => if (d1.upd.slots[p]).security < sec then setFw p .invalid m d1 else d1
        | none => d1
      complete c opUpdateFloor .done [] (updEvent 6 d2)

def fxUpdateFloor (c : CmdRef) (comp : Fin 2) (d : Dev) : Dev := checked c opUpdateFloor true none (cmdUpdateFloor c comp) d
/-- 14 R536. -/
def execUpdateFloor (c : CmdRef) (comp : Fin 2) (s : State) : Host.Outcome State Fault Refusal := act (fxUpdateFloor c comp) s

/-! ### ROM recovery -/

/-- A recovery command starts: CMD and BUSY show it (14 R554, R555). -/
def recStart (cmd : Nat) : Dev → Dev := onUpd fun u => { u with recCmd := cmd, recCtl := cmd, recBusy := true, recResult := 0 }

/-- A recovery command ends at once. -/
def recAtOnce (cmd result : Nat) (d : Dev) : Dev := recEnd result (recStart cmd d)

/-- A write of UPD_REC_CTL that the binding allows (14 R554, 12 R459): it takes effect in RECOVERY while no command is busy. -/
def recWrite (m : Fin 5) (f : Dev → Dev) (d : Dev) : Dev :=
  if !inRecovery d then d
  else if d.upd.recBound != some m then refuse m d
  else if d.upd.recBusy then d
  else f d

/-- The target of OPEN (14 R554): the platform-set slot that is not ACTIVE, PS0 when neither is. -/
def recTarget (d : Dev) : Fin 4 := if (d.upd.slots[0]).state == .active then 1 else 0

/-- OPEN (14 R554). -/
def recOpenNow (m : Fin 5) (d : Dev) : Dev :=
  let n := d.upd.recArg.toNat
  let d1 := onUpd (fun u => { u with recBound := some m }) d
  if d.upd.session.isSome then recAtOnce 1 Code.state.toNat d1
  else if !countOk 0 n then recAtOnce 1 Code.badParam.toNat d1
  else openSession 0 (recTarget d) n m.val (recStart 1 (onUpd (fun u => { u with recSlot := some (recTarget d) }) d1))

def fxRecOpen (m : Fin 5) (d : Dev) : Dev :=
  if inRecovery d && d.upd.recBound.isNone && (m.val == 0 || m.val == 4) then recOpenNow m d else recWrite m (recOpenNow m) d
/-- 14 R554. -/
def execRecOpen (m : Fin 5) (s : State) : Host.Outcome State Fault Refusal := act (fxRecOpen m) s

/-- PARCEL (14 R554). -/
def recParcelNow (d : Dev) : Dev :=
  let ofs := d.upd.recArg.toNat
  if ofs % 4096 != 0 then recAtOnce 2 Code.badParam.toNat d
  else match parcelFate d ofs d.upd.recCrc.toNat with
    | .state => recAtOnce 2 Code.state.toNat d
    | .badParam => recAtOnce 2 Code.badParam.toNat d
    | .refused _ => recAtOnce 2 Code.refused.toNat d
    | .already => recAtOnce 2 0 d
    | .program _ => startParcel ofs (recStart 2 d)

def fxRecParcel (m : Fin 5) (d : Dev) : Dev := recWrite m recParcelNow d
/-- 14 R554. -/
def execRecParcel (m : Fin 5) (s : State) : Host.Outcome State Fault Refusal := act (fxRecParcel m) s

/-- VERIFY (14 R554). -/
def recVerifyNow (d : Dev) : Dev := if d.upd.session.isNone then recAtOnce 3 Code.state.toNat d else recStart 3 d

def fxRecVerify (m : Fin 5) (d : Dev) : Dev := recWrite m recVerifyNow d
/-- 14 R554. -/
def execRecVerify (m : Fin 5) (s : State) : Host.Outcome State Fault Refusal := act (fxRecVerify m) s

/-- INSTALL (14 R554): the VERIFIED slot becomes ACTIVE, and BOOT runs. -/
def recInstallNow (m : Fin 5) (d : Dev) : Dev :=
  match d.upd.recSlot with
  | some s =>
    if (d.upd.slots[s]).state != .verified then recAtOnce 4 Code.state.toNat d
    else
      let d1 := setFw s .active m.val (swapFw 0 .active .previous m.val d)
      bootSoon 5 (recAtOnce 4 0 (onUpd (fun u => { u with recSlot := none }) d1))
  | none => recAtOnce 4 Code.state.toNat d

def fxRecInstall (m : Fin 5) (d : Dev) : Dev := recWrite m (recInstallNow m) d
/-- 14 R554. -/
def execRecInstall (m : Fin 5) (s : State) : Host.Outcome State Fault Refusal := act (fxRecInstall m) s

/-- CLOSE (14 R554): the slot is EMPTY unless it was installed, and the binding ends. -/
def recCloseNow (m : Fin 5) (d : Dev) : Dev :=
  let d1 := match d.upd.recSlot with
    | some s => journalFw s m.val (onFw s (fun _ => {}) d)
    | none => d
  recAtOnce 5 0 (onUpd (fun u => { u with session := none, recSlot := none, recBound := none }) d1)

def fxRecClose (m : Fin 5) (d : Dev) : Dev := recWrite m (recCloseNow m) d
/-- 14 R554. -/
def execRecClose (m : Fin 5) (s : State) : Host.Outcome State Fault Refusal := act (fxRecClose m) s

end Sys2Proof.Machine
end

