-- ==== Sys2Proof/Machine/Apply.lean ====
section
/-! DEFINITION. A configuration comes into force (02 R85, R86, R91; 06 R235, R236, R241; 11 R444): at BOOT, at a switch, at an amendment. -/

namespace Sys2Proof.Machine

/-! ### Sources, timers, rings -/

/-- The settings of a source: its SOURCE record, else its defaults (02 R64, 11 R444). -/
def sourceCfg (c : ImageCfg) (n : Fin 768) : SourceCfg :=
  match c.faults.sources.find? fun s => s.src == n.val with
  | some s => s
  | none => { src := n.val, sev := (srcReset n).sev, action := (srcReset n).action, grace := (srcReset n).grace }

/-- A source takes its settings (11 R444): a raised severity stays raised. -/
def sourceTake (c : SourceCfg) (s : Source) : Source :=
  { s with sev := c.sev, action := c.action, grace := c.grace, later := none,
           eff := if s.latch || decide (s.sev < s.eff) then max s.eff c.sev else c.sev }

/-- An amendment of FAULTS reaches a source at its next event (02 R91): a latched source, or one whose severity stands raised, keeps its
settings until then. -/
def amendSource (old new : ImageCfg) (n : Fin 768) (s : Source) : Source :=
  if sourceCfg old n = sourceCfg new n then s
  else if s.latch || decide (s.sev < s.eff) then
    { s with later := some ((sourceCfg new n).sev, (sourceCfg new n).action, (sourceCfg new n).grace) }
  else sourceTake (sourceCfg new n) s

/-- The sources and ERRLVL at an amendment. -/
def amendFaults (old : ImageCfg) (d : Dev) : Dev :=
  onColl (fun c => { c with errlvl := d.cfg.faults.errlvl }) { d with sources := updAll d.sources (amendSource old d.cfg) }

/-- The sources and ERRLVL under the configuration in force, at BOOT and at a switch (11 R444). -/
def applyFaults (d : Dev) : Dev :=
  let d1 := { d with sources := updAll d.sources fun n s => sourceTake (sourceCfg d.cfg n) s }
  onColl (fun c => { c with errlvl := d.cfg.faults.errlvl, codedOn := true }) d1

/-- An interval timer takes its ITM record (02 R63, 10 R412); without one it is stopped. Its run flag acts at BOOT only. -/
def itmApply (r : Option ItmCfg) (x : Itm) : Itm :=
  match r with
  | some c => { x with
      clamp := c.flags.getLsbD 1, oneShot := c.flags.getLsbD 2, hold := c.flags.getLsbD 3, reload := max 2 c.period, newReload := none
      tkind := c.tkind, tindex := c.tindex, tsub := c.tsub }
  | none => { x with state := .stopped, load := false, startDue := false, tkind := 0, tindex := 0, tsub := 0 }

/-- An alarm takes its ALM record (02 R63). -/
def almApply (r : Option AlmCfg) (x : Alarm) : Alarm :=
  match r with
  | some c => { x with late := c.late, tkind := c.tkind, tindex := c.tindex, tsub := c.tsub }
  | none => { x with late := false, tkind := 0, tindex := 0, tsub := 0 }

/-- The admitted load of each converter (06 R269 CVx_LOAD). -/
def applyLoads (d : Dev) : Dev := { d with convs := updAll d.convs fun c x => { x with load := scanLoad d.cfg c } }

/-- CVx_CTL at BOOT (06 R269): CONT_EN, and SEQ_EN of each sequence with a TRIGGER record. -/
def bootConvs (d : Dev) : Dev :=
  { d with convs := updAll d.convs fun c x => { x with
      contEn := true
      seqEn := BitVec.ofNat 16 (maskOf (n := 16) fun q => q.val != 0 && (planOf d.cfg c).trigs.any fun t => t.sq == q).toNat } }

/-- Interval timers and alarms whose records changed. -/
def applyTimers (boot : Bool) (old : ImageCfg) (d : Dev) : Dev :=
  { d with
    itms := updAll d.itms fun t x =>
      if boot || old.itms[t] != d.cfg.itms[t] then
        let y := itmApply d.cfg.itms[t] x
        if boot then { y with count := y.reload - 1 } else y
      else x
    alarms := updAll d.alarms fun a x => if boot || old.alms[a] != d.cfg.alms[a] then almApply d.cfg.alms[a] x else x }

/-- A changed ring takes its reset values: EN 1 when the image defines it (12 R475, 02 R91). -/
def applyRings (old : ImageCfg) (d : Dev) : Dev :=
  onHost (fun h => { h with rings := updAll h.rings fun r g => if old.host.rings[r] != d.cfg.host.rings[r] then { en := (d.cfg.host.rings[r]).isSome } else g }) d

/-! ### Ports -/

/-- A port in AttachWait whose new ROLES keep its role: its debounce runs on through a commit (02 R92). -/
def waitStays (d : Dev) (p : Fin 32) : Bool :=
  match (d.ports[p]).tc with
  | .attachWaitSrc => rolesOf d p != 1
  | .attachWaitSnk => rolesOf d p != 0
  | _ => false

/-- A port whose PORT record changed while it is detached (02 R86, R91): without a record it is Disabled; an enabled one starts from
the unattached state of its new ROLES, but for one that waits for an attach under a role it keeps. -/
def portApply (p : Fin 32) (d : Dev) : Dev :=
  if !hasPort d p then (if (d.ports[p]).tc == .disabled then d else enterDisabled p false d)
  else if (d.ports[p]).tc == .disabled || (d.ports[p]).tc == .errorRecovery || isAttached (d.ports[p]) || portMinimal d p then d
  else if waitStays d p then (if (d.ports[p]).tc == .attachWaitSrc then presentRp p d else d)
  else toUnattached p d

/-- Attached ports that use an offer set which changed send their capabilities (02 R91). -/
def offersApply (old : ImageCfg) (d : Dev) : Dev :=
  let l := (indices 32).filter fun p =>
    isAttached (d.ports[p]) && old.offers[(portCfg d p).offerSet] != d.cfg.offers[(portCfg d p).offerSet] && !portMinimal d p
  forEach l offerCaps d

/-- A feed whose section is gone keeps its guard off (02 R54). -/
def feedsApply (d : Dev) : Dev :=
  forEach ((indices 4).filter fun f => (d.cfg.feeds[f]).isNone && (d.feeds[f]).state != .off) feedOff d

/-! ### The whole configuration -/

/-- What a port runs differs from a new configuration: PORT, LOOP or a PHASE_MAP entry that touches it (02 R86). -/
def portDiffers (old new : ImageCfg) (p : Fin 32) : Bool :=
  old.ports[p] != new.ports[p] || old.loops[p] != new.loops[p]
    || (indices 64).any fun n => old.phases[n] != new.phases[n] && (entryOf old n p || entryOf new n p)

/-- Ports that keep their former records (02 R86): attached ones that differ, at a switch, or that a switch left so. -/
def keptPorts (switch : Bool) (new : ImageCfg) (d : Dev) : Word :=
  maskOf (n := 32) fun p => isAttached (d.ports[p]) && portDiffers d.cfg new p && (switch || bit d.store.pendPorts p.val)

/-- A configuration comes into force on the running device (02 R85, R86, R91). -/
def applyCfg (switch : Bool) (new : ImageCfg) (d : Dev) : Dev :=
  let old := d.cfg
  let kept := keptPorts switch new d
  let held (n : Fin 64) : Bool := (indices 32).any fun q => bit kept q.val && (entryOf old n q || entryOf new n q)
  let now : ImageCfg := { new with
    ports := Vector.ofFn fun p => if bit kept p.val then old.ports[p] else new.ports[p]
    loops := Vector.ofFn fun p => if bit kept p.val then old.loops[p] else new.loops[p]
    phases := old.phases }
  let d1 := onStore (fun s => { s with pendPorts := kept }) { d with cfg := now, cfgNew := new }
  let d2 := takePhases (fun n => !held n) new d1
  let d3 := forEach ((indices 32).filter fun p => portDiffers old d2.cfg p) updateCap d2
  let d4 := feedsApply (forEach ((indices 32).filter fun p => old.ports[p] != d3.cfg.ports[p]) portApply d3)
  let d5 := applyLoads (applyRings old (applyTimers false old (applyChans false switch old d4)))
  let d6 := onlyIf (old.faults != new.faults) (if switch then applyFaults else amendFaults old) d5
  let d7 := onlyIf (old.net != new.net) netStart d6
  let d8 := onlyIf (old.ledger != new.ledger) (fun x => divide (forEach ((indices 3).filter fun l => old.ledger.links.getLsbD l.val != new.ledger.links.getLsbD l.val)
    (fun l y => postEnable l (if new.ledger.links.getLsbD l.val then 1 else 0) y) x)) d7
  offersApply old d8

/-- The configuration that BOOT admits (15 R568 step 6): every section loads; each phase is IDLE, retired or unused. -/
def applyBoot (new : ImageCfg) (d : Dev) : Dev :=
  let d1 := onStore (fun s => { s with pendPorts := 0 }) { d with cfg := new, cfgNew := new }
  let d2 := { d1 with
    phases := updAll d1.phases fun n f => { f with
      state := if (new.phases[n]).isNone then .unused else if d1.sys.retired.getLsbD n.val then .retired else if f.state == .switching then .switching else .idle
      retire := d1.sys.retired.getLsbD n.val, census := 0, due := false }
    ports := updAll d1.ports fun p q =>
      let on := match new.ports[p] with | some c => c.pflags.getLsbD 0 | none => false
      { q with enabled := isAttached q || (on && !q.startFail) } }
  let d3 := forEach (indices 32) updateCap d2
  let d4 := bootConvs (applyLoads (applyRings {} (applyTimers true {} (applyFaults (applyChans true true {} d3)))))
  netStart (ledgerStart (onHost (fun h => { h with hostLoaded := true }) d4))

end Sys2Proof.Machine
end

