-- ==== Sys2Proof/Machine/Store.lean ====
section
/-! DEFINITION. The configuration store (02 R81 to R96, R47 to R52; 12 R483, R485): checks, slots, switches, amendments, floors, keys. -/

namespace Sys2Proof.Machine

/-! ### Opcodes and sources -/

/-- Opcodes of the CONFIG group (12 R482). -/
def opImageCheck : Nat := 0x0200
def opImageStore : Nat := 0x0201
def opImageSwitch : Nat := 0x0202
def opAmendApply : Nat := 0x0203
def opImageFloor : Nat := 0x0204
def opKeyEnrol : Nat := 0x0205
def opKeyRevoke : Nat := 0x0206

/-! ### Checks -/

/-- A check command is accepted (02 R81, R83): CHECK is RUNNING and the staging window locked. -/
def startCheck (j : Job) (d : Dev) : Dev := onStore (fun s => { s with check := .running, stageLock := true }) (addJob j d)

/-- IMAGE_CHECK once checked (02 R81). -/
def cmdImageCheck (c : CmdRef) (d : Dev) : Dev := startCheck { ref := c, opcode := opImageCheck } d

def fxImageCheck (c : CmdRef) (d : Dev) : Dev := checked c opImageCheck true none (cmdImageCheck c) d
/-- 02 R81, R83. -/
def execImageCheck (c : CmdRef) (s : State) : Host.Outcome State Fault Refusal := act (fxImageCheck c) s

/-- IMAGE_STORE once checked (02 R84). -/
def cmdImageStore (c : CmdRef) (slot : Fin 4) (d : Dev) : Dev :=
  if (d.store.slots[slot]).state == .active || d.store.switchAt.any (fun x => x.1 == slot) then complete c opImageStore .switchPending [] d
  else startCheck { ref := c, opcode := opImageStore, arg := slot.val } d

def fxImageStore (c : CmdRef) (slot : Fin 4) (d : Dev) : Dev := checked c opImageStore true none (cmdImageStore c slot) d
/-- 02 R83, R84. -/
def execImageStore (c : CmdRef) (slot : Fin 4) (s : State) : Host.Outcome State Fault Refusal := act (fxImageStore c slot) s

/-- AMEND_APPLY once checked (02 R88, R92). -/
def cmdAmendApply (c : CmdRef) (d : Dev) : Dev :=
  if d.store.switchAt.isSome then complete c opAmendApply .switchPending [] d
  else startCheck { ref := c, opcode := opAmendApply } d

def fxAmendApply (c : CmdRef) (d : Dev) : Dev := checked c opAmendApply true none (cmdAmendApply c) d
/-- 02 R88, R92. -/
def execAmendApply (c : CmdRef) (s : State) : Host.Outcome State Fault Refusal := act (fxAmendApply c) s

/-- The check command accepted and not yet complete. -/
def checkJob (d : Dev) : Option Job := d.host.jobs.find? fun j => j.opcode == opImageCheck || j.opcode == opImageStore || j.opcode == opAmendApply

/-- What the check of a command finds (02 R82): IMAGE_STORE takes a full image only and AMEND_APPLY an amendment only, with code FORMAT
otherwise (log entry 21). -/
def verdictFor (d : Dev) (op : Nat) : Verdict :=
  let v := checkStaged d (op == opImageStore)
  let kind := byteAt (stagedBytes d) 9
  if v.result != 1 && ((op == opImageStore && kind != 0) || (op == opAmendApply && kind != 1)) then
    { result := 1, entries := [{ code := 0x0102, value := kind, limit := b2n (op == opAmendApply) }] }
  else v

/-- The staged image names a key whose hash disagrees, and the check reaches the key (02 R46, R47). -/
def keyFault (d : Dev) : Bool :=
  let b := stagedBytes d
  (formatStep d d.store.stageLen b).isNone && digestOf b == sha256 (b.take (b.length - 96)) && keyBroken d (byteAt b 10)

/-- A check command completes with its verdict (12 R483); the staging window opens. -/
def endCheckJob (j : Job) (k : Code) (v : Verdict) (d : Dev) : Dev :=
  complete j.ref j.opcode k (checkResult (stagedBytes d) v.result v.entries) (onStore (fun s => { s with stageLock := false, commitDue := false, writing := none }) d)

/-- A slot write starts (02 R84). -/
def startSlotWrite (j : Job) (slot : Fin 4) (d : Dev) : Dev :=
  let b := stagedBytes d
  onHost (fun h => { h with jobs := h.jobs.map fun x => if x.ref == j.ref then { x with begun := true } else x })
    (onStore (fun s => { s with slots := s.slots.set slot { state := .writing, image := b }, writing := some slot }) d)

/-- The check of AMEND_APPLY ends with its scope check at the commit: CHECK stays RUNNING until then (02 R92, R96; log entry 34). -/
def fxAdmissionCheckEnd (us : Nat) (d : Dev) : Dev :=
  match checkJob d with
  | none => d
  | some j =>
    if d.store.check != .running then d
    else
      let v := verdictFor d j.opcode
      let d1 := onlyIf (keyFault d) (raise srcStoreIntegrity) (putReport (stagedBytes d) v.result v.entries us d)
      if v.result != 0 then endCheckJob j .refused v (onStore (fun s => { s with check := .refused }) d1)
      else
        let d2 := onStore (fun s => { s with check := .accepted }) d1
        if j.opcode = opImageStore then startSlotWrite j (Fin.ofNat 4 j.arg) d2
        else if j.opcode = opAmendApply && !sameAmend d (stagedBytes d) then post .amendCommit (onStore (fun s => { s with commitDue := true }) d1)
        else endCheckJob j .done v d2
/-- 02 R82, R84, R88, R89, R96; 12 R483. -/
def execAdmissionCheckEnd (us : Nat) (s : State) : Host.Outcome State Fault Refusal := act (fxAdmissionCheckEnd us) s

def fxImageSlotWritten (ok : Bool) (d : Dev) : Dev :=
  match d.store.writing with
  | none => d
  | some slot =>
    let v := verdictFor d opImageStore
    let d1 := onStore (fun s => { s with slots := upd s.slots slot fun x => { x with state := if ok then .stored else .invalid }, writing := none }) d
    let d2 := onlyIf (!ok) blockFails d1
    match jobOf d opImageStore with
    | some j => endCheckJob j (if ok then .done else .storeError) v d2
    | none => d2
/-- 02 R84. -/
def execImageSlotWritten (ok : Bool) (s : State) : Host.Outcome State Fault Refusal := act (fxImageSlotWritten ok) s

/-! ### Switching -/

/-- D of a slot (02 R51). -/
def slotDigest (s : ImgSlot) : Nat := s.amends.foldl (fun a b => sha256 (toBe 32 a ++ bytesAt b (b.length - 96) 32)) (digestOf s.image)

/-- The slot in force shows in the CONFIG registers (02 R93, R51, R52). -/
def showSlot (slot : Fin 4) (d : Dev) : Dev :=
  let x := d.store.slots[slot]
  newPostmark (onStore (fun s => { s with
    activeSlot := slot, admitted := true, serial := slotSerial x, baseSerial := serialOf x.image, amendCount := x.amends.length
    lastAmend := x.amends.getLast?.map fun b => (serialOf b, digestOf b), digest := slotDigest x }) d)

/-- A slot becomes ACTIVE and the former one PREVIOUS; an older PREVIOUS is STORED again (02 R85). -/
def swapSlots (slot : Fin 4) (d : Dev) : Dev :=
  onStore (fun s => { s with slots := updAll s.slots fun i x =>
    if i = slot then { x with state := .active }
    else match x.state with
      | .active => { x with state := .previous }
      | .previous => { x with state := .stored }
      | _ => x }) d

/-- IMAGE_SWITCH once checked (02 R85). -/
def cmdImageSwitch (c : CmdRef) (slot : Fin 4) (tb : Nat) (d : Dev) : Dev :=
  if d.store.switchAt.isSome then complete c opImageSwitch .switchPending [] d
  else if (d.store.slots[slot]).state != .stored then complete c opImageSwitch .state [] d
  else startTimerAt .switchEffective tb (complete c opImageSwitch .done [] (onStore (fun s => { s with switchAt := some (slot, tb) }) d))

/-- The effective time lies at least three deal periods ahead (02 R85). -/
def switchTimeOk (d : Dev) (tb : Nat) : Bool := decide (d.tmr.tb + 3 * dealTicks d ≤ tb)

def fxImageSwitch (c : CmdRef) (slot : Fin 4) (tb : Nat) (d : Dev) : Dev :=
  checked c opImageSwitch (switchTimeOk d tb) none (cmdImageSwitch c slot tb) d
/-- 02 R85. -/
def execImageSwitch (c : CmdRef) (slot : Fin 4) (tb : Nat) (s : State) : Host.Outcome State Fault Refusal := act (fxImageSwitch c slot tb) s

/-- A STORED slot comes into force (02 R85, R86). -/
def switchTo (slot : Fin 4) (d : Dev) : Dev :=
  applyCfg true (cfgOf (slotSects d.store.slots[slot])) (showSlot slot (swapSlots slot d))

def fxSwitchEffective (d : Dev) : Dev :=
  match d.store.switchAt with
  | none => d
  | some (slot, _) =>
    let d1 := stopTimer .switchEffective (onStore (fun s => { s with switchAt := none }) d)
    if (d1.store.slots[slot]).state == .stored then switchTo slot d1 else d1
/-- 02 R85, R86. -/
def execSwitchEffective (s : State) : Host.Outcome State Fault Refusal := act fxSwitchEffective s

/-! ### Amendments -/

/-- A port is detached or disabled (02 R91). -/
def detached (d : Dev) (p : Fin 32) : Bool := !isAttached (d.ports[p])

/-- PROTECT of a LOOP record (02 R57). -/
def sameProtect (a b : Option LoopCfg) : Bool :=
  let x := a.getD {}; let y := b.getD {}
  (x.nRun, x.nStart, x.tHiccup, x.mHiccup, x.iSilent, x.iSenseOfs) == (y.nRun, y.nStart, y.tHiccup, y.mHiccup, y.iSilent, y.iSenseOfs)

/-- MODE and SAFE of a channel are unchanged. -/
def sameModeSafe (a b : ImageCfg) (ch : Fin 204) : Bool :=
  (chanSettings a ch).mode == (chanSettings b ch).mode && (chanSettings a ch).safe == (chanSettings b ch).safe

/-- The scope rule of a section's type (02 R91); `order` says that a dated order applies the amendment. -/
def scopeOk (d : Dev) (new : ImageCfg) (order : Bool) (s : Sect) : Bool :=
  let old := d.cfg
  match s.typ with
  | 0x01 => new.device.coded == old.device.coded
  | 0x10 => !(d.feeds[Fin.ofNat 4 s.inst]).en
  | 0x20 => detached d (Fin.ofNat 32 s.inst)
  | 0x21 => (indices 64).all fun n => old.phases[n] == new.phases[n]
      || (indices 32).all fun p => !(entryOf old n p || entryOf new n p) || detached d p
  | 0x22 => sameProtect old.loops[Fin.ofNat 32 s.inst] new.loops[Fin.ofNat 32 s.inst] || detached d (Fin.ofNat 32 s.inst)
  | 0x40 =>
    if s.inst < 512 then sameModeSafe old new (monitorChan s.inst) || (chanOwner d (monitorChan s.inst)).all (detached d)
    else decide ((d.convs[Fin.ofNat 5 (s.inst - 512)]).seqEn = 0)
  | 0x50 => ((indices 16).all fun t => old.itms[t] == new.itms[t] || (d.itms[t]).state != .running)
      && (indices 32).all fun a => old.alms[a] == new.alms[a] || !(d.alarms[a]).armed
  | 0x70 => (indices 16).all fun r => old.host.rings[r] == new.host.rings[r] || !(d.host.rings[r]).en
  | 0x90 => order
  | 0xA0 => d.twin.link == .down || !old.twin.en
  | _ => true

/-- The scope check at the commit (02 R90 to R92): the first entry that refuses the amendment. -/
def scopeEntry (d : Dev) (b : List Byte) (v : Verdict) (order : Bool) : Option Entry :=
  let slot := d.store.slots[d.store.activeSlot]
  let size := slot.amends.foldl (fun a x => a + x.length) (slot.image.length + b.length)
  if d.store.switchAt.isSome then some { code := 0x0302 }
  else if 15 ≤ slot.amends.length then some { code := 0x0301, scope := 10, index := 19, value := slot.amends.length, limit := 15 }
  else if 262144 < size then some { code := 0x0301, scope := 10, index := 19, value := size, limit := 262144 }
  else ((walkBody b).sects.find? fun s => !scopeOk d v.cfg order s).map fun s => { code := 0x0301, scope := 9, index := s.ofs / 4 }

/-- The commit ends: the accepted AMEND_APPLY completes with its final CHECK. A commit that a dated order brings belongs to no check
command, and leaves CHECK as it is (02 R96). -/
def endAmend (k : Code) (v : Verdict) (d : Dev) : Dev :=
  match jobOf d opAmendApply with
  | some j => endCheckJob j k v (onStore (fun s => { s with check := if v.result = 0 then .accepted else .refused }) d)
  | none => onStore (fun s => { s with commitDue := false }) d

/-- A commit is refused, with its report; the duration is a free value (log entry 5). -/
def refuseAmend (v : Verdict) (d : Dev) : Dev :=
  endAmend .refused v (bumpFree (putReport (stagedBytes d) v.result v.entries (freeValue d).toNat d))

/-- An amendment comes into force whole (02 R88 to R91, R51). -/
def commitAmend (b : List Byte) (new : ImageCfg) (d : Dev) : Dev :=
  let d1 := onStore (fun s => { s with slots := upd s.slots s.activeSlot fun x => { x with amends := x.amends ++ [b] } }) d
  applyCfg false new (showSlot d.store.activeSlot d1)

/-- The commit of an amendment (02 R88 to R92); each use of a broken key raises STORE_INTEGRITY (02 R47). -/
def fxAmendCommit (d0 : Dev) : Dev :=
  if !d0.store.commitDue then d0
  else
    let d := onlyIf (keyFault d0) (raise srcStoreIntegrity) d0
    let b := stagedBytes d
    let v := verdictFor d opAmendApply
    if sameAmend d b then endAmend .done v d
    else if v.result != 0 then refuseAmend v d
    else match scopeEntry d b v (jobOf d opAmendApply).isNone with
      | some e => refuseAmend { result := 6, entries := [e] } d
      | none => endAmend .done v (commitAmend b v.cfg d)
/-- 02 R88 to R92. -/
def execAmendCommit (s : State) : Host.Outcome State Fault Refusal := act fxAmendCommit s

/-! ### Floors and keys -/

/-- An OTP write starts (02 R48 to R50): kind 0 floor, 1 enrol, 2 revoke; the command can no longer be undone (12 R495). -/
def startOtp (c : CmdRef) (op kind : Nat) (slot : Fin 4) (lock : Bool) (d : Dev) : Dev :=
  onStore (fun s => { s with otpWrite := some (kind, slot), stageLock := s.stageLock || lock }) (addJob { ref := c, opcode := op, arg := slot.val, begun := true } d)

/-- IMAGE_FLOOR once checked (02 R50). -/
def cmdImageFloor (c : CmdRef) (d : Dev) : Dev :=
  if 64 ≤ d.store.floors.length then complete c opImageFloor .state [] d else startOtp c opImageFloor 0 0 false d

def fxImageFloor (c : CmdRef) (d : Dev) : Dev := checked c opImageFloor true none (cmdImageFloor c) d
/-- 02 R50. -/
def execImageFloor (c : CmdRef) (s : State) : Host.Outcome State Fault Refusal := act (fxImageFloor c) s

/-- Enrolled, unrevoked key slots. -/
def enrolled (k : KeySlot) : Bool := k.hash != 0 && !k.revoked

/-- A signature in the staging window over its first bytes, under a key slot (02 R48, R49, 12 R485). -/
def stagedSigned (d : Dev) (signer : Fin 4) (len sig : Nat) : Bool :=
  let b := Memory.readBytes d.store.stage 0 128
  match keyUsable d signer.val with
  | some k => ecdsaVerify (keyX k.key) (keyY k.key) (sha256 (b.take len)) (leNat (bytesAt b sig 32)) (leNat (bytesAt b (sig + 32) 32))
  | none => false

/-- KEY_ENROL once checked (02 R48, 12 R485). A slot whose stored key no longer matches its OTP hash is not blank for the two tests of
blank slots here: the OTP holds a hash for it (DESIGN CHOICE, log entry 33). -/
def cmdKeyEnrol (c : CmdRef) (slot signer : Fin 4) (d : Dev) : Dev :=
  let blank := (indices 4).all fun i => keyState d.store.keys[i] == 0
  if keyState d.store.keys[slot] != 0 then complete c opKeyEnrol .state [] d
  else if blank then startOtp c opKeyEnrol 1 slot true d
  else
    let d1 := onlyIf (keyBroken d signer.val) (raise srcStoreIntegrity) d
    if stagedSigned d signer 64 64 then startOtp c opKeyEnrol 1 slot true d1 else complete c opKeyEnrol .refused [] d1

def fxKeyEnrol (c : CmdRef) (slot signer : Fin 4) (d : Dev) : Dev := checked c opKeyEnrol true none (cmdKeyEnrol c slot signer) d
/-- 02 R48, 12 R485. -/
def execKeyEnrol (c : CmdRef) (slot signer : Fin 4) (s : State) : Host.Outcome State Fault Refusal := act (fxKeyEnrol c slot signer) s

/-- "NFRV" and the slot of a staged revocation (12 R485). -/
def revokeHead (slot : Fin 4) : List Byte := toLe 4 0x5652464E ++ toLe 1 slot.val ++ toLe 3 0

/-- KEY_REVOKE once checked (02 R49, 12 R485). -/
def cmdKeyRevoke (c : CmdRef) (slot signer : Fin 4) (d : Dev) : Dev :=
  let live := (indices 4).filter fun i => enrolled d.store.keys[i]
  let d1 := onlyIf (keyBroken d signer.val) (raise srcStoreIntegrity) d
  if !live.contains slot || live.length ≤ 1 || signer == slot || (keyUsable d signer.val).isNone then complete c opKeyRevoke .state [] d1
  else if Memory.readBytes d.store.stage 0 8 == revokeHead slot && stagedSigned d signer 8 8 then startOtp c opKeyRevoke 2 slot true d1
  else complete c opKeyRevoke .refused [] d1

def fxKeyRevoke (c : CmdRef) (slot signer : Fin 4) (d : Dev) : Dev := checked c opKeyRevoke true none (cmdKeyRevoke c slot signer) d
/-- 02 R49, 12 R485. -/
def execKeyRevoke (c : CmdRef) (slot signer : Fin 4) (s : State) : Host.Outcome State Fault Refusal := act (fxKeyRevoke c slot signer) s

def fxOtpWriteDone (d : Dev) : Dev :=
  match d.store.otpWrite with
  | none => d
  | some (kind, slot) =>
    let d1 := onStore (fun s => { s with otpWrite := none }) d
    if kind = 0 then
      completeOp opImageFloor .done (toLe 4 d.store.serial) (onStore (fun s => { s with floors := s.floors ++ [s.serial] }) d1)
    else if kind = 1 then
      let k := Memory.readBytes d.store.stage 0 64
      completeOp opKeyEnrol .done [] (onStore (fun s => { s with
        keys := s.keys.set slot { hash := sha256 k, revoked := false, key := k }, stageLock := false }) d1)
    else
      completeOp opKeyRevoke .done [] (onStore (fun s => { s with keys := upd s.keys slot fun k => { k with revoked := true }, stageLock := false }) d1)
/-- 02 R48 to R50. -/
def execOtpWriteDone (s : State) : Host.Outcome State Fault Refusal := act fxOtpWriteDone s

end Sys2Proof.Machine
end

