-- ==== Sys2Proof/Machine/Boot.lean ====
section
/-! DEFINITION. Modes, supplies and start-up (15, 17 R606, R607, 14 R552, R553, 09 R372): BOOT, resets, STANDBY, DORMANT, MINIMAL, the journal writer. -/

namespace Sys2Proof.Machine

/-! ### Resets -/

/-- The block as a reset of every die leaves it (15 R559, R574, R584): the store, the OTP, the retention and the pins stay. -/
def fullReset (why wake : Nat) (d : Dev) : Dev :=
  { chans := d.chans.map fun x => { trimOfs := x.trimOfs, trimGain := x.trimGain, trimErr := x.trimErr }
    feeds := d.feeds.map fun x => { fen := x.fen }
    ledger := { roll := d.ledger.roll, rollDigest := d.ledger.rollDigest, orders := d.ledger.orders.filter fun o => o.whole && !o.applied }
    twin := { prole := d.twin.prole, partnerHb := d.twin.partnerHb, slot := d.twin.slot }
    coll := { resetWhy := why }
    upd := updAfterReset d.upd
    store := storeAfterReset d.store
    jrn := { written := d.jrn.written, pos := d.jrn.pos, sqno := d.jrn.sqno, wstart := d.jrn.wstart }
    freeCtr := d.freeCtr
    tap := d.tap
    sys := {
      wake := wake, inReset := true, storeOk := d.sys.storeOk, aon := d.sys.aon, aonFrac := d.sys.aonFrac, ret := d.sys.ret
      edgeOn := d.sys.edgeOn, tempTrip := d.sys.tempTrip, supplyOk := d.sys.supplyOk, vgdStart := d.sys.vgdStart, vgdKeep := d.sys.vgdKeep, vconnIn := d.sys.vconnIn
      ids := d.sys.ids, idCopies := d.sys.idCopies, stepping := d.sys.stepping, date := d.sys.date, vid := d.sys.vid, minRecord := d.sys.minRecord
      retired := d.sys.retired, retiredRec := d.sys.retiredRec, spareBlocks := d.sys.spareBlocks, dben := d.sys.dben } }

/-- The ports of a device without VANA (03 R129): P(8e) of a strapped die presents the dead-battery Rd, every other pin is open. -/
def deadBattery (d : Dev) : Dev :=
  { d with ports := updAll d.ports fun p q => { q with rp := .none, rd := p.val % 8 == 0 && d.sys.dben.getLsbD (p.val / 8) } }

/-- VCORE, VIO and VANA are in range. -/
def railsOk (d : Dev) : Bool := d.sys.supplyOk[0] && d.sys.supplyOk[1] && d.sys.supplyOk[2]

def fxResetAssert (d : Dev) : Dev := fullReset 1 1 d
/-- 15 R559, R562, R567. -/
def execResetAssert (s : State) : Host.Outcome State Fault Refusal := act fxResetAssert s

def fxVaonLoss (d : Dev) : Dev := onSys (fun s => { s with ret := {}, aon := 0, aonFrac := 0 }) (deadBattery (fullReset 0 0 d))
/-- 15 R560, 17 R607, 03 R129. -/
def execVaonLoss (s : State) : Host.Outcome State Fault Refusal := act fxVaonLoss s

/-- A wake from DORMANT, latched in retention (15 R567): BOOT starts once the rails are in range. -/
def wakeFrom (cause : Nat) (d : Dev) : Dev :=
  let d1 := onSys (fun s => { s with ret := { s.ret with wakeLatched := true, wakeCause := cause } }) d
  if railsOk d then fullReset d.coll.resetWhy cause d1 else d1

def fxWakePin (d : Dev) : Dev :=
  match d.sys.mode with
  | .dormant => if d.sys.ret.wakeLatched then d else wakeFrom 2 d
  | .standby => wakeUp d
  | _ => d
/-- 15 R564, R567. -/
def execWakePin (s : State) : Host.Outcome State Fault Refusal := act fxWakePin s

def fxWakeTimerExpiry (d : Dev) : Dev :=
  if d.sys.mode == .dormant && d.sys.ret.wakeTimer != 0 && !d.sys.ret.wakeLatched then wakeFrom 3 d else d
/-- 15 R567. -/
def execWakeTimerExpiry (s : State) : Host.Outcome State Fault Refusal := act fxWakeTimerExpiry s

/-- BOOT starts again without a reset pin (14 R552, R554, 15 R570): the reason of the last hub reset stays. -/
def bootAgain (wake : Nat) (d : Dev) : Dev := hubReset d.coll.resetWhy d.coll.resetSrc wake d

def fxBootTimeout (d : Dev) : Dev :=
  match d.sys.bootDue with
  | some w => bootAgain w d
  | none => if d.sys.mode == .boot then bootAgain d.sys.wake d else d
/-- 15 R570. -/
def execBootTimeout (s : State) : Host.Outcome State Fault Refusal := act fxBootTimeout s

/-! ### Supplies -/

/-- An edge die without supply (17 R607, 06 R241, 03 R129): legs and gates high-impedance, the channels unsettled; P(8e) of a strapped die
presents its dead-battery Rd. -/
def edgeUnpowered (e : Fin 4) (d : Dev) : Dev :=
  let d1 := onSys (fun s => { s with edgeOn := s.edgeOn.set e false }) (dieEnterMinimal e d)
  let d2 := forEach (diePorts e) (fun p x =>
    let y := onPort p (fun q => { q with minAtt := false, source := false, dfp := false }) x
    stopPort p 5 (vconnOff p (if p.val % 8 = 0 && d.sys.dben.getLsbD e.val then presentRd p y else presentOpen p y))) d1
  let d3 := stopTimersIf (fun t => dieTimer t && (diePorts e).any fun p =>
    t == .hiccupOffTimeExpiry p || t == .minimalAttachDebounce p || t == .minimalDetachDebounce p || t == .terrorrecoveryExpiry p) d2
  { d3 with
    chans := updAll d3.chans fun c x =>
      if dieOf c == linkOf e && x.enabled && isWindow c then
        chanFresh (x.thrHi, x.relHi, x.thrLo, x.relLo) (Config.freeWord (d3.freeCtr + c.val)) x else x
    freeCtr := d3.freeCtr + 204 }

/-- A rail of the hub out of range (15 R559): every die in reset; a device that is DORMANT already is stopped. Without VANA the strapped
ports present their dead-battery Rd (03 R129). -/
def railOut (i : Fin 3) (d : Dev) : Dev :=
  let d1 := onSys (fun s => { s with supplyOk := s.supplyOk.set i false }) d
  let d2 := if d.sys.mode == .dormant then d1 else fullReset 1 1 d1
  if i = 2 then deadBattery d2 else d2

/-- A rail in range again: a latched wake that waited for the rails starts BOOT (15 R567). -/
def railIn (i : Fin 3) (d : Dev) : Dev :=
  let d1 := onSys (fun s => { s with supplyOk := s.supplyOk.set i true }) d
  if d1.sys.mode == .dormant && d1.sys.ret.wakeLatched && railsOk d1 then fullReset d1.coll.resetWhy d1.sys.ret.wakeCause d1 else d1

def fxSupplyOutOfRange (x : Supply) (d : Dev) : Dev :=
  match x with
  | .vcore => railOut 0 d
  | .vio => railOut 1 d
  | .vana => railOut 2 d
  | .edgeRail e => if d.sys.edgeOn[e] then minimalIfAll (edgeUnpowered e d) else d
  | .vgd => fxVgdLow d
  | .vconnIn => 
    let d1 := onSys (fun s => { s with vconnIn := false }) d
    if d.sys.vconnIn && (indices 32).any (fun p => (d.ports[p]).vconnOn) then raise srcVconnUv d1 else d1
/-- 17 R606, R607. -/
def execSupplyOutOfRange (x : Supply) (s : State) : Host.Outcome State Fault Refusal := act (fxSupplyOutOfRange x) s

def fxSupplyInRange (x : Supply) (d : Dev) : Dev :=
  match x with
  | .vcore => railIn 0 d
  | .vio => railIn 1 d
  | .vana => railIn 2 d
  | .edgeRail e => onSys (fun s => { s with edgeOn := s.edgeOn.set e true }) d
  | .vgd => fxVgdRecover d
  | .vconnIn => condEnd srcVconnUv (onSys (fun s => { s with vconnIn := true }) d)
/-- 17 R606, R607. -/
def execSupplyInRange (x : Supply) (s : State) : Host.Outcome State Fault Refusal := act (fxSupplyInRange x) s

/-! ### Step 2: the dies -/

/-- A port under ATTACH_HOLD (15 R569, 03 R123, 05 R218): each port of the minimal record presents Rp 1.5 A, but one latched off; another
is Disabled, or keeps the 5 V at which its edge die holds it. -/
def holdPort (p : Fin 32) (d : Dev) : Dev :=
  if hasPort d p && !(d.ports[p]).startFail then
    if (d.ports[p]).tc == .minimal then d
    else present p .a15 false (onPort p (fun q => { q with tc := .minimal, enabled := pflag d p 0, minimal := true }) d)
  else if (d.ports[p]).tc == .minimal && (d.ports[p]).minAtt then d
  else presentOpen p (onPort p (fun q => { q with tc := .disabled, minimal := true }) d)

/-- The calibration and identity partitions as HUB-BOOT reads them (15 R573, R575): the newer valid copy of each record; a die record whose
CRC fails is replaced by its copy. -/
def bootRecords (obs : BootObs) (d : Dev) : Dev :=
  onSys (fun s =>
    let m := s.minRecord.spoil (obs.calBad.extractLsb' 0 2)
    let r := s.retiredRec.spoil (obs.calBad.extractLsb' 2 2)
    { s with
      minRecord := m, retiredRec := r, retired := (r.get retiredBytes).getD (if obs.calBad = 0 then s.retired else 0)
      dieRec := Vector.replicate 4 (m.get minRecBytes)
      ids := Vector.ofFn fun i => if obs.dieCrcBad.getLsbD i.val then s.idCopies[i] else s.ids[i] }) d

/-- Edge links trained, the minimal record loaded, every edge die in minimal mode under ATTACH_HOLD (15 R568 steps 1 and 2); a CRC that fails
in a die record or in the calibration partition raises STORE_INTEGRITY (11 R433). -/
def bootDies (obs : BootObs) (d0 : Dev) : Dev :=
  let d := bootRecords obs d0
  let r := d.sys.dieRec[0]
  let c := r.getD {}
  let cfg : ImageCfg := { phases := c.phases, ports := c.ports, loops := c.loops, feeds := c.feeds, twin := { en := c.twinEn } }
  let d1 := { d with
    cfg := cfg, cfgNew := cfg
    sys := { d.sys with
      inReset := false, bootStep := 2, dben := obs.dben, storeOk := obs.storeOk, attachHold := true, unheld := Vector.replicate 4 false, edgeMin := Vector.replicate 4 true
      held := (Vector.replicate 5 r).set elf none
      edgeUp := Vector.ofFn fun l => if h : l.val < 4 then d.sys.edgeOn[l.val] else true, edgeUpSince := Vector.replicate 5 d.tmr.tb
      ret := { d.sys.ret with bootCount := wrapInc 32 d.sys.ret.bootCount, failedBoots := sat 7 (d.sys.ret.failedBoots + 1), wakeLatched := false } }
    phases := updAll d.phases fun n f =>
      { f with minimal := (c.phases[n]).isSome, state := if f.state == .switching then .switching else if (c.phases[n]).isNone then .unused
                 else if d.sys.retired.getLsbD n.val then .retired else .idle }
    jrn := { d.jrn with
      wstart := (d.jrn.written.getLast?.map fun r => r.1 / eraseBlock * eraseBlock).getD 0, credit := 262144, creditAt := d.tmr.tb } }
  let d2 := onlyIf (obs.calBad != 0) (raise srcStoreIntegrity) d1
  forEach ((indices 7).filter fun i => obs.dieCrcBad.getLsbD i.val) (fun _ x => raise srcStoreIntegrity x) d2

/-- The ports under ATTACH_HOLD (15 R569). -/
def bootHold (d : Dev) : Dev := forEach (indices 32) (fun p x => updateCap p (holdPort p x)) d

/-! ### Dead-car readout and RECOVERY -/

/-- Dead-car readout (03 R99, R109, R132 to R135): every port reads with the Rd levels, and the strapped ones keep their Rd; strapped ports that see Rp are Attached.SNK, the lowest is the readout port. -/
def enterDeadcar (obs : BootObs) (d : Dev) : Dev :=
  let strapped (p : Fin 32) : Bool := p.val % 8 == 0 && obs.deadcar.getLsbD (p.val / 8)
  let lowest := (indices 32).find? strapped
  let d1 := onSys (fun s => { s with
    mode := .standby, prev := .boot, deadcar := true, bootStep := 15, edgeMin := Vector.replicate 4 false, held := Vector.replicate 5 none }) (stopTimer .bootTimeout d)
  let one (p : Fin 32) (q : Port) : Port :=
    if strapped p then { q with
      tc := .attachedSnk, minimal := false, enabled := true, rp := .none, rd := true, orient := obs.deadcarPin.getLsbD (p.val / 8), deadcar := lowest == some p }
    else { q with tc := .disabled, minimal := false, rp := .none, rd := false }
  let d2 := { d1 with ports := updAll d1.ports one }
  forEach (indices 32) (fun p x => ccProgram (ccLevels .none true) (cc2 p) (ccProgram (ccLevels .none true) (cc1 p) x))
    (onUpd (fun u => { u with svRun := true }) d2)

/-- RECOVERY (14 R553): the edge dies stay in minimal mode, no ownership exists. -/
def enterRecovery (d : Dev) : Dev :=
  tryAttachAll (onUpd (fun u => { u with svRun := false }) (onHost (fun h => { h with owner := none, hostLoaded := false })
    (setMode .recovery (stopTimer .bootTimeout (onSys (fun s => { s with attachHold := false, bootStep := 15 }) d)))))

/-- The device leaves dead-car readout and runs BOOT (03 R134): the mode change is journalled. -/
def fxDeadcarFeedRise (f : Fin 4) (d : Dev) : Dev :=
  if !d.sys.deadcar then d
  else
    let d1 := bootAgain d.sys.wake d
    journal 0 (bootRecord d1 (modeCode .boot) (modeCode .standby) false)
      (forEach (indices 32) presentOpen
        { d1 with ports := d1.ports.map fun q => { q with tc := .disabled, minAtt := false }
                  feeds := upd d1.feeds f fun x => { x with inUv := false } })
/-- 03 R134, 15 R562. -/
def execDeadcarFeedRise (f : Fin 4) (s : State) : Host.Outcome State Fault Refusal := act (fxDeadcarFeedRise f) s

/-! ### Steps 4 and 5: firmware -/

/-- Slots at BOOT (14 R537, R540, R551): an open session leaves INVALID, a TRIAL slot is REJECTED with HEALTH_TIMEOUT, detail 3. -/
def bootSlots (d : Dev) : Dev :=
  forEach (indices 4) (fun s x =>
    match (x.upd.slots[s]).state with
    | .erasing => setFw s .invalid 0xFF x
    | .writing => setFw s .invalid 0xFF x
    | .trial => updEvent 5 (onUpd (fun u => { u with fallbacks := inc8 u.fallbacks }) (raiseAt srcHealth 3 (setFw s .rejected 0xFF x)))
    | _ => x) d

/-- The slot of a component that BOOT loads (14 R552): ACTIVE, or PREVIOUS when ACTIVE fails, which is then ACTIVE. -/
def bootComponent (comp : Fin 2) (ok : BitVec 4) (d : Dev) : Option (Fin 4) × Dev :=
  match slotIn d comp .active with
  | some s =>
    if ok.getLsbD s.val then (some s, d)
    else
      let d1 := setFw s .invalid 0xFF d
      match slotIn d1 comp .previous with
      | some t => if ok.getLsbD t.val then (some t, setFw t .active 0xFF d1) else (none, setFw t .invalid 0xFF d1)
      | none => (none, d1)
  | none =>
    match slotIn d comp .previous with
    | some t => if ok.getLsbD t.val then (some t, setFw t .active 0xFF d) else (none, setFw t .invalid 0xFF d)
    | none => (none, d)

/-! ### Step 6: the image -/

/-- One image of a slot checked again, over the effective serial and the sections before it (02 R87, R39 to R80; 15 R568 step 6): the full
image of a slot is of KIND 0, an amendment of KIND 1. Each SERIAL is held against the floor (R50; log entry 22). -/
def checkStored (d : Dev) (kind serial : Nat) (base : List Sect) (b : List Byte) : Verdict :=
  match formatStep d b.length b with
  | some e => { result := 1, entries := [e] }
  | none =>
    if byteAt b 9 != kind then { result := 1, entries := [{ code := 0x0102, value := byteAt b 9, limit := kind }] }
    else checkBytes d serial b.length b base none

/-- The checks of the amendments of a slot in order. -/
def checkAmends (d : Dev) : Nat → Verdict → List (List Byte) → Verdict
  | _, v, [] => v
  | serial, v, b :: r =>
    let w := checkStored d 1 serial v.sects b
    if w.result != 0 then w else checkAmends d (serialOf b) w r

/-- The check of a slot at BOOT (02 R87): the full image, then each amendment. -/
def checkSlot (d : Dev) (s : ImgSlot) : Verdict :=
  let v := checkStored d 0 0 [] s.image
  if v.result != 0 then v else checkAmends d (serialOf s.image) v s.amends

/-- A check of a stored image met a key whose hash disagrees (02 R47). -/
def metBrokenKey (d : Dev) (v : Verdict) : Bool := v.result == 2 && v.entries.any fun e => e.code == 0x0203 && keyBroken d e.value

/-- A slot is checked, with the report of the check (02 R82); its duration is a free value (log entry 5). -/
def tryImage (slot : Fin 4) (d : Dev) : Verdict × Dev :=
  let s := d.store.slots[slot]
  let v := checkSlot d s
  let d1 := onlyIf (metBrokenKey d v) (raise srcStoreIntegrity) d
  (v, bumpFree (putReport s.image v.result v.entries (freeValue d).toNat d1))

/-- An image slot in a state. -/
def imageIn (d : Dev) (st : SlotState) : Option (Fin 4) := (indices 4).find? fun i => (d.store.slots[i]).state == st

/-- ADMISSION_REFUSED (11 R432). -/
def srcAdmission : Fin 768 := srcOf 0x22E

/-- The image BOOT admits, and the block after the checks (02 R87). -/
def bootImage (d : Dev) : Option ImageCfg × Dev :=
  let bad (i : Fin 4) (x : Dev) : Dev := onStore (fun s => { s with slots := upd s.slots i fun y => { y with state := .invalid } }) x
  let second (x : Dev) : Option ImageCfg × Dev :=
    match imageIn x .previous with
    | none => (none, x)
    | some p =>
      let w := tryImage p x
      if w.1.result = 0 then (some w.1.cfg, showSlot p (onStore (fun s => { s with slots := upd s.slots p fun y => { y with state := .active } }) w.2))
      else (none, bad p w.2)
  match imageIn d .active with
  | none => second d
  | some a =>
    let v := tryImage a d
    if v.1.result = 0 then (some v.1.cfg, showSlot a v.2) else second (raise srcAdmission (bad a v.2))

/-! ### Steps 7 to 9 -/

/-- A strapped port that is not a SERVICE port with ROLES Sink or DRP (03 R130). -/
def dbenWrong (ports : Vector (Option PortCfg) 32) (d : Dev) (e : Fin 4) : Bool :=
  d.sys.dben.getLsbD e.val && !((ports[Fin.ofNat 32 (8 * e.val)]).any fun c => c.cls == 3 && c.roles != 0)

/-- DBEN mismatches are journalled (03 R130, 15 R578 class 11). -/
def dbenCheck (ports : Vector (Option PortCfg) 32) (d : Dev) : Dev :=
  let l := (indices 4).filter (dbenWrong ports d)
  forEach l (fun e x => journalEvent 11 (0x8000 + 0x2000 * e.val) (tcStat x (Fin.ofNat 32 (8 * e.val))) (8 * e.val) x)
    (onSys (fun s => { s with dbenMismatch := !l.isEmpty }) d)

/-- The census at BOOT of every mapped phase that is not retired, then the release (05 R194, 15 R568 steps 8 and 9); a phase whose port keeps
its 5 V through BOOT (15 R569) has its census once the port rests (log entry 41). A SHADOW runs no census (09 R373). -/
def bootCensus (d : Dev) : Dev :=
  if isShadow d then bootRelease (onSys (fun s => { s with bootStep := 9 }) d)
  else
    let l := (indices 64).filter fun n => (d.phases[n]).state == .idle || (d.phases[n]).state == .switching
    let d1 := censusStart l (onSys (fun s => { s with bootStep := 8 }) d)
    if censusIdle d1 then bootRelease (onSys (fun s => { s with bootStep := 9 }) d1) else d1

/-- The device takes the role ACTIVE or SHADOW and completes BOOT in it (09 R372, R373). -/
def bootRole (active : Bool) (d : Dev) : Dev :=
  let d1 := stopTimer .twinRoleHoldoff (onTwin (fun t => { t with role := if active then 1 else 2, roleOut := active, roleWaits := 0 }) d)
  bootCensus (if active then startTimer .loopSnapshot (50 * d.cfg.twin.lsPeriod) d1 else d1)

/-- The end of the hold-off: TWIN_PROLE is checked again (09 R372). -/
def roleCheck (d : Dev) : Dev := bootRole (!d.twin.prole) d

/-- A wait for the role: 1 the hold-off, 2 the partner's choice, 3 the further wait. -/
def roleWait (kind ms : Nat) (d : Dev) : Dev := startTimer .twinRoleHoldoff (ticksOfMs ms) (onTwin (fun t => { t with roleWaits := kind }) d)

/-- Step 7: the role of a twin (09 R372). -/
def bootTwin (d : Dev) : Dev :=
  if !d.cfg.twin.en then bootCensus d
  else
    let d1 := onTwin (fun t => { t with role := 3 }) (onSys (fun s => { s with bootStep := 7 }) d)
    if d1.twin.prole then bootRole false d1
    else if d1.twin.partnerHb && d1.cfg.twin.prefShadow then roleWait 2 100 d1
    else if d1.twin.slot then roleWait 1 2 d1
    else roleCheck d1

def fxTwinRoleHoldoff (d : Dev) : Dev :=
  if d.twin.role != 3 || d.twin.roleWaits = 0 then d
  else if d.twin.roleWaits = 2 && d.twin.slot && !d.twin.prole then roleWait 3 100 d
  else roleCheck d
/-- 09 R372. -/
def execTwinRoleHoldoff (s : State) : Host.Outcome State Fault Refusal := act fxTwinRoleHoldoff s

/-- BOOT ends in MINIMAL with cause 3 (15 R562, R569, R570); the hold ends, and the edge dies attach what waits (03 R123). -/
def bootMinimal (d : Dev) : Dev :=
  let d1 := onSys (fun s => { s with attachHold := false, bootStep := 15, ret := { s.ret with failedBoots := if d.upd.svRun then 0 else s.ret.failedBoots } }) d
  tryAttachAll (enterMinimal 3 (stopTimer .bootTimeout d1))

/-- Mode before this BOOT, as the BOOT record gives it (15 R578): DORMANT after a wake. -/
def formerMode (d : Dev) : Nat := if d.sys.wake = 2 || d.sys.wake = 3 then 7 else modeCode d.sys.former

/-- A feed whose enable is 1 at BOOT begins its insertion (15 R568 step 3, 07 R292); after a DEVICE_RESET the feed die has held it. -/
def bootFeed (f : Fin 4) (d : Dev) : Dev :=
  match d.cfg.feeds[f] with
  | some c => feedTryEnable f (onFeed f (fun y => { y with en := if d.coll.resetWhy = 2 then y.en else c.fflags.getLsbD 1 }) d)
  | none => d

/-- The feeds of the minimal record. -/
def bootFeeds (d : Dev) : Dev := forEach (indices 4) bootFeed d

/-- A port of the minimal record that the admitted image lacks is unused (02 R44): no Rp, its guard open; one it adds is held like the
others. -/
def admitPort (p : Fin 32) (d : Dev) : Dev :=
  if hasPort d p then holdPort p d
  else presentOpen p (onPort p (fun q => { q with tc := .disabled, minAtt := false, source := false, dfp := false }) (onlyIf (d.ports[p]).minAtt (stopPort p 5) d))

/-- The image BOOT admits comes into force (02 R44, R54): its ports and its feeds follow. -/
def useImage (new : ImageCfg) (d : Dev) : Dev :=
  let x := applyBoot new d
  forEach ((indices 4).filter fun f => (d.cfg.feeds[f]).isNone) bootFeed (feedsApply (forEach (indices 32) admitPort x))

/-- An image under which no census runs leaves the edge dies their minimal record (05 R226, 15 R571). -/
def underRecord (d : Dev) (c : ImageCfg) : ImageCfg := { c with phases := d.cfg.phases, ports := d.cfg.ports, loops := d.cfg.loops }

/-- Steps 4 to 7 of BOOT (15 R568). -/
def bootLoad (ok : BitVec 4) (d : Dev) : Dev :=
  let ps := bootComponent 0 ok d
  match ps.1 with
  | none => enterRecovery ps.2
  | some s =>
    let x := ps.2.upd.slots[s]
    let d1 := onStore (fun c => { c with schemaMajor := x.schemaMajor, schemaMinor := x.schemaMinor }) (onUpd (fun u => { u with svRun := true }) ps.2)
    let d2 := journal 0 (bootRecord d1 (modeCode .boot) (formerMode d1) true) d1
    let pf := bootComponent 1 ok d2
    let d3 := match pf.1 with
      | some k => onUpd (fun u => { u with coreSlots := Vector.replicate 4 (decide (k = 3)), coreRun := 0xF }) pf.2
      | none => pf.2
    let im := bootImage (onSys (fun s => { s with bootStep := 6 }) d3)
    match im.1, pf.1 with
    | none, _ => bootMinimal (dbenCheck im.2.cfg.ports im.2)
    | some c, none => bootMinimal (dbenCheck c.ports (useImage (underRecord im.2 c) im.2))
    | some c, some _ => bootTwin (dbenCheck c.ports (useImage c im.2))

/-- The BOOT programme up to its first wait (15 R568). -/
def fxBootStart (obs : BootObs) (d : Dev) : Dev :=
  if d.sys.mode != .boot || d.sys.bootStep != 1 || !railsOk d || d.sys.tempTrip[0] then d
  else
    let d0 := onTwin (fun t => { t with prole := obs.twinProle, partnerHb := obs.twinHb, slot := obs.twinSlot }) d
    let d1 := startTimer .bootTimeout (ticksOfS 10) (bootDies obs d0)
    if !obs.feedsUp && !obs.vgdAbove9 && obs.deadcar != 0 then enterDeadcar obs d1
    else if obs.bootsel0 || decide (3 ≤ d1.sys.ret.failedBoots) then enterRecovery (bootHold d1)
    else bootLoad obs.slotOk (bootSlots (bootFeeds (onSys (fun s => { s with bootStep := 3 }) (bootHold d1))))
/-- 15 R568 to R570, 03 R133, 14 R552, R553, 02 R87. -/
def execBootStart (obs : BootObs) (s : State) : Host.Outcome State Fault Refusal := act (fxBootStart obs) s

/-! ### MINIMAL by command -/

/-- Opcodes of the device commands (12 R482). -/
def opMinimalEnter : Nat := 0x0400
def opMinimalExit : Nat := 0x0401
def opEnterStandby : Nat := 0x0402
def opEnterDormant : Nat := 0x0403
def opDeviceReset : Nat := 0x0404
def opJournalMark : Nat := 0x0600
def opJournalWindow : Nat := 0x0601
def opTelemetrySet : Nat := 0x0700

/-- MINIMAL_ENTER once checked (11 R451 cause 4); from STANDBY no transition leads to MINIMAL (15 R562). -/
def cmdMinimalEnter (c : CmdRef) (d : Dev) : Dev :=
  if d.sys.mode == .standby then complete c opMinimalEnter .state [] d
  else
    let d1 := if d.sys.mode == .minimal then d else discardJobs (fun j => j.opcode / 256 == 1) (enterMinimal 4 d)
    complete c opMinimalEnter .done [] d1

def fxMinimalEnter (c : CmdRef) (d : Dev) : Dev := checked c opMinimalEnter true none (cmdMinimalEnter c) d
/-- 11 R451, 12 R482. -/
def execMinimalEnter (c : CmdRef) (s : State) : Host.Outcome State Fault Refusal := act (fxMinimalEnter c) s

/-- An edge link has been valid for 100 ms (11 R453). -/
def linkSteady (d : Dev) (l : Fin 5) : Bool := d.sys.edgeUp[l] && decide (d.sys.edgeUpSince[l] + ticksOfMs 100 ≤ d.tmr.tb)

/-- An admitted image is active, and no latch has the action DEVICE_MINIMAL (11 R453). -/
def mayExit (d : Dev) : Bool := d.store.admitted && !(indices 768).any fun n => (d.sources[n]).latch && (d.sources[n]).action == 7

/-- EDGE_MINIMALe ends with the minimal mode of its die (11 R432). -/
def leaveDie (e : Fin 4) (d : Dev) : Dev := condEnd (srcEdgeMinimal e) (dieExitMinimal e d)

/-- The device leaves MINIMAL (11 R453, R454). -/
def exitMinimal (d : Dev) : Dev :=
  let d1 := collEvent 6 (onColl (fun c => { c with minimal := false, minCause := 0 }) (setMode .service d))
  onTwin (fun t => { t with heartbeatStopped := false }) (forEach (indices 4) leaveDie d1)

/-- MINIMAL_EXIT once checked (11 R453). -/
def cmdMinimalExit (c : CmdRef) (d : Dev) : Dev :=
  let cause := d.coll.minCause
  if d.sys.mode != .minimal || (cause != 1 && cause != 4) || !mayExit d || !(indices 4).all (fun e => linkSteady d (linkOf e)) then
    complete c opMinimalExit .state [] d
  else complete c opMinimalExit .done [] (exitMinimal d)

def fxMinimalExit (c : CmdRef) (d : Dev) : Dev := checked c opMinimalExit true none (cmdMinimalExit c) d
/-- 11 R453, R454. -/
def execMinimalExit (c : CmdRef) (s : State) : Host.Outcome State Fault Refusal := act (fxMinimalExit c) s

/-! ### STANDBY and DORMANT -/

/-- The cases in which ENTER_STANDBY and ENTER_DORMANT complete STATE (15 R563); a SHADOW may always enter. -/
def sleepBlocked (d : Dev) : Bool :=
  !isShadow d && ((indices 32).any (fun p => isAttached (d.ports[p])) || d.upd.session.isSome || d.upd.trial.isSome
    || d.sys.mode == .minimal || (indices 4).any (fun e => d.sys.edgeMin[e]) || (d.twin.role == 1 && d.twin.partnerHb))

/-- A port in STANDBY (15 R564): unattached with the termination of its ROLES, guard open, legs at mid. -/
def standbyPort (p : Fin 32) (d : Dev) : Dev :=
  if !hasPort d p || (d.ports[p]).tc == .disabled then d
  else
    let d1 := stopTimers (tcTimers p) (stopPort p 0 d)
    if rolesOf d p = 1 then presentRd p (setTc p .unattachedSnk d1) else presentRp p (setTc p .unattachedSrc d1)

/-- A feed in STANDBY (15 R564): its gate off without a latch. -/
def standbyFeed (f : Fin 4) (d : Dev) : Dev :=
  let st := (d.feeds[f]).state
  if st == .ramp || st == .on || st == .delay || st == .cooling then gateOffLoss f (feedToWait f) d else d

/-- The device enters STANDBY (15 R564). -/
def enterStandbyNow (d : Dev) : Dev :=
  if isShadow d then setMode .standby (onTwin (fun t => { t with heartbeatStopped := true }) (forEach (indices 4) standbyFeed d))
  else setMode .standby (forEach (indices 4) standbyFeed (forEach (indices 32) standbyPort d))

/-- ENTER_STANDBY once checked (15 R563, R564). -/
def cmdEnterStandby (c : CmdRef) (d : Dev) : Dev :=
  if sleepBlocked d then complete c opEnterStandby .state [] d
  else complete c opEnterStandby .done [] (if d.sys.mode == .service then enterStandbyNow d else d)

def fxEnterStandby (c : CmdRef) (d : Dev) : Dev := checked c opEnterStandby true none (cmdEnterStandby c) d
/-- 15 R563, R564. -/
def execEnterStandby (c : CmdRef) (s : State) : Host.Outcome State Fault Refusal := act (fxEnterStandby c) s

/-! ### The journal writer -/

/-- The PAD record that fills the rest of an erase block (15 R577); its SEQ is a free value (log entry 5). A rest shorter than a record
holds the head of one. -/
def padBytes (d : Dev) (n : Nat) : List Byte :=
  if n < 20 then bytesAt (toLe 2 n ++ toLe 1 15 ++ toLe 1 0 ++ toLe 4 (freeValue d).toNat) 0 n
  else recordBytes 15 0 (freeValue d).toNat d.tmr.tb (List.replicate (n - 20) 0)

/-- A record stands at a position of the partition; the block after its own is erased (15 R577). -/
def putWritten (pos : Nat) (r : JRec) (d : Dev) : Dev :=
  let next := (pos / eraseBlock + 1) % (journalSize / eraseBlock)
  onJrn (fun j => { j with
    written := (j.written.filter fun x => x.1 / eraseBlock != next) ++ [(pos, r)], pos := (pos + r.bytes.length) % journalSize }) d

/-- The next held record is programmed (15 R576, R577, R579); without the throttle at the entry of DORMANT. -/
def programNext (free : Bool) (d : Dev) : Dev :=
  match d.jrn.buffer with
  | [] => d
  | r :: rest =>
    let n := r.bytes.length
    let at0 := d.jrn.pos
    let pos := placeAt at0 n
    let pad := if pos = at0 then 0 else eraseBlock - at0 % eraseBlock
    if !free && jrnCredit d < n + pad then d
    else
      let d1 := onJrn (fun j => { j with buffer := rest, credit := jrnCredit d - (n + pad), creditAt := d.tmr.tb }) d
      let d2 := if pad = 0 then d1 else bumpFree (putWritten at0 ⟨15, padBytes d pad⟩ d1)
      let d3 := putWritten pos r d2
      onJrn (fun j => { j with busy := jrnWrites d3 rest }) d3

/-- The writer may program (15 R580, R581). -/
def mayProgram (d : Dev) : Bool := d.sys.storeOk && jrnOpen d

def fxJournalProgram (d : Dev) : Dev := if mayProgram d then programNext false d else d
/-- 15 R576, R577, R579. -/
def execJournalProgram (s : State) : Host.Outcome State Fault Refusal := act fxJournalProgram s

/-- Every held record is programmed (15 R566 step 3). -/
def flushJournal : Nat → Dev → Dev
  | 0, d => d
  | k + 1, d => if d.jrn.buffer.isEmpty then d else flushJournal k (programNext true d)

/-- The SHED record (15 R578 class 14, R580). -/
def fxShedRecord (d : Dev) : Dev :=
  if d.jrn.shed.all (· == 0) then d
  else
    let p := ((indices 16).flatMap fun c => toLe 1 d.jrn.shed[c]) ++ toLe 8 (d.jrn.shedFirst.getD d.tmr.tb)
    journal 14 p (onJrn (fun j => { j with shed := Vector.replicate 16 0, shedFirst := none }) (stopTimer .shedRecord d))
/-- 15 R578, R580. -/
def execShedRecord (s : State) : Host.Outcome State Fault Refusal := act fxShedRecord s

/-- The device enters DORMANT (15 R566): ports Disabled, feeds off, the journal written, retention set; ownership ends (12 R496). -/
def enterDormantNow (secs : Nat) (d : Dev) : Dev :=
  let d1 := forEach ((indices 32).filter fun p => (d.ports[p]).tc != .disabled) (fun p x => enterDisabled p false x) (discardJobs (fun _ => true) d)
  let was := d.sys.mode
  let d2 := setMode .dormant (forEach (indices 4) gateOff d1)
  let d3 := onlyIf (mayProgram d2) (flushJournal d2.jrn.buffer.length) d2
  let d4 := onHost (fun h => { h with owner := none, successor := none, window := false }) d3
  let d5 := onSys (fun s => { s with
    ret := { s.ret with wakeTimer := secs, modeBefore := modeCode was, aonAtEntry := s.aon, wakeLatched := false } }) d4
  { d5 with timers := [] }

/-- ENTER_DORMANT once checked (15 R563, R566): the completion is written first. -/
def cmdEnterDormant (c : CmdRef) (secs : Nat) (d : Dev) : Dev :=
  if sleepBlocked d then complete c opEnterDormant .state [] d
  else enterDormantNow secs (complete c opEnterDormant .done [] d)

def fxEnterDormant (c : CmdRef) (secs : Nat) (d : Dev) : Dev := checked c opEnterDormant true none (cmdEnterDormant c secs) d
/-- 15 R563, R566. -/
def execEnterDormant (c : CmdRef) (secs : Nat) (s : State) : Host.Outcome State Fault Refusal := act (fxEnterDormant c secs) s

/-- DEVICE_RESET once checked (12 R482): no completion. -/
def cmdDeviceReset (d : Dev) : Dev := hubReset 2 0 4 (discardJobs (fun _ => true) d)

def fxDeviceReset (c : CmdRef) (key : Word) (d : Dev) : Dev := checked c opDeviceReset (key == 0x3264) none cmdDeviceReset d
/-- 12 R482, 15 R562. -/
def execDeviceReset (c : CmdRef) (key : Word) (s : State) : Host.Outcome State Fault Refusal := act (fxDeviceReset c key) s

/-! ### Journal and telemetry commands -/

/-- JOURNAL_MARK once checked (12 R482, 15 R578 class 12). -/
def cmdJournalMark (c : CmdRef) (note : List Byte) (d : Dev) : Dev :=
  if !d.sys.storeOk then complete c opJournalMark .storeError [] d
  else
    let m := (ringMaster d c.ring).elim 0xFF (·.val)
    complete c opJournalMark .done (toLe 4 (nextPos d 56)) (journal 12 (toLe 1 m ++ toLe 3 0 ++ bytesAt note 0 32) d)

def fxJournalMark (c : CmdRef) (note : List Byte) (d : Dev) : Dev := checked c opJournalMark true none (cmdJournalMark c note) d
/-- 12 R482. -/
def execJournalMark (c : CmdRef) (note : List Byte) (s : State) : Host.Outcome State Fault Refusal := act (fxJournalMark c note) s

/-- RESULT of JOURNAL_WINDOW (15 R582): WSTART, newest and oldest record, SEQ of the newest. -/
def windowResult (d : Dev) (start : Nat) : List Byte :=
  let new := d.jrn.written.getLast?
  toLe 4 start ++ toLe 4 ((new.map Prod.fst).getD 0) ++ toLe 4 ((d.jrn.written.head?.map Prod.fst).getD 0)
    ++ toLe 4 ((new.map fun x => fieldAt x.2.bytes 4 4).getD 0)

/-- JOURNAL_WINDOW once checked (15 R582). -/
def cmdJournalWindow (c : CmdRef) (start : Nat) (d : Dev) : Dev :=
  complete c opJournalWindow .done (windowResult d start) (onJrn (fun j => { j with wstart := start }) d)

def fxJournalWindow (c : CmdRef) (start : Nat) (d : Dev) : Dev :=
  checked c opJournalWindow (decide (start % 65536 = 0) && decide (start < journalSize)) none (cmdJournalWindow c start) d
/-- 15 R582. -/
def execJournalWindow (c : CmdRef) (start : Nat) (s : State) : Host.Outcome State Fault Refusal := act (fxJournalWindow c start) s

/-- The parameters of TELEMETRY_SET are in range (12 R482). -/
def telemetryOk (d : Dev) (ring : Fin 16) (addrs : List Nat) : Bool :=
  (d.cfg.host.rings[ring]).any (fun c => c.kind == 4) && decide (1 ≤ addrs.length) && decide (addrs.length ≤ 12)
    && addrs.all fun a => a % 4 == 0 && !(decide (0x100000 ≤ a) && decide (a < 0x500000))

/-- TELEMETRY_SET once checked (12 R482, R488). -/
def cmdTelemetrySet (c : CmdRef) (ring : Fin 16) (addrs : List Nat) (d : Dev) : Dev :=
  complete c opTelemetrySet .done [] (onRing ring (fun g => { g with addrs := some addrs }) d)

def fxTelemetrySet (c : CmdRef) (ring : Fin 16) (addrs : List Nat) (d : Dev) : Dev :=
  checked c opTelemetrySet (telemetryOk d ring addrs) none (cmdTelemetrySet c ring addrs) d
/-- 12 R482, R488. -/
def execTelemetrySet (c : CmdRef) (ring : Fin 16) (addrs : List Nat) (s : State) : Host.Outcome State Fault Refusal :=
  act (fxTelemetrySet c ring addrs) s

end Sys2Proof.Machine
end

