-- ==== Sys2Proof/Machine/Twin.lean ====
section
/-! DEFINITION. Twin operation (09): mirror link, shadow regulation, takeover, release, handover, cold takeover, replacement. -/

namespace Sys2Proof.Machine

/-! ### The mirror link -/

/-- A frame leaves on the mirror link (09 R377). -/
def mirrorSend (o : MirrorOut) (d : Dev) : Dev := onTwin (mirrorLog d.tmr.tb [o]) d

/-- A TWIN_EVENT bit (09 R402). -/
def twinEvent (i : Nat) (d : Dev) : Dev := onTwin (fun t => { t with event := setBit t.event i }) d

/-- The record of 09 R403 (15 R578 class 9): TWIN_EVENT with its bits, and the eight words from TWIN_LAST on, which hold the TWIN_LAST
values and the partner's identity (log entry 30). -/
def twinJournal (bitsSet : Nat) (d : Dev) : Dev :=
  journal 9 (toLe 4 0x3C004 ++ toLe 4 bitsSet ++ toLe 1 0xFF ++ toLe 1 0 ++ toLe 2 0
    ++ ((List.range 8).flatMap fun i => toLe 4 (readTwin d (0x24 + 4 * i)).toNat)) d

/-- The MHELLO of this device (09 R378). -/
def mhelloNow (d : Dev) : MHello :=
  { role := d.twin.role, mode := modeCode d.sys.mode, rxOk := decide (0 < d.twin.mhellos) || d.twin.link == .up, eligible := d.twin.eligible
    inhibit := d.twin.inhibit, replace := d.twin.replace, slot := d.twin.slot
    linksUp := ((upLinks d).map fun l => 2 ^ l.val).sum, id := unitId d, postmark := d.store.postmark, seatKey := seatKey d }

def fxMirrorLock (d : Dev) : Dev :=
  if !d.cfg.twin.en || d.twin.link != .down then d
  else
    startTimer .mhelloTimer (ticksOfUs 10)
      (bumpFree (onTwin (fun t => { t with link := .train, lock0 := true, lock1 := true, mhellos := 0, skew := bits (freeValue d) 0 8 }) d))
/-- 09 R375. -/
def execMirrorLock (s : State) : Host.Outcome State Fault Refusal := act fxMirrorLock s

/-- The link leaves UP (09 R375, R399): MIRROR_LOSS, or while an ACTIVE has REPLACE set a record alone. -/
def mirrorLost (d : Dev) : Dev :=
  if d.twin.link == .up then
    if d.twin.role == 1 && d.twin.replace then twinJournal (2 ^ 6) (mirrorDown d) else raise srcMirror (mirrorDown d)
  else mirrorDown d

def fxMirrorLinkDown (d : Dev) : Dev :=
  if d.cfg.twin.en then bumpFree (onTwin (fun t => { t with invalid := badGroups d t.invalid }) (mirrorLost d)) else d
/-- 09 R375, R399. -/
def execMirrorLinkDown (s : State) : Host.Outcome State Fault Refusal := act fxMirrorLinkDown s

def fxMirrorFrameTimeout (d : Dev) : Dev := if d.cfg.twin.en && d.twin.link == .up then mirrorLost d else d
/-- 09 R375. -/
def execMirrorFrameTimeout (s : State) : Host.Outcome State Fault Refusal := act fxMirrorFrameTimeout s

def fxMirrorBadFrame (crc : Bool) (d : Dev) : Dev :=
  if !d.cfg.twin.en || d.twin.link == .down then d
  else
    let errs := if crc then (d.twin.crcErrs.filter fun t => decide (d.tmr.tb < t + ticksOfMs 10)) ++ [d.tmr.tb] else d.twin.crcErrs
    let d1 := onTwin (fun t => { t with errors := sat 0xFFFF (t.errors + 1), mhellos := 0, crcErrs := errs }) d
    if d.twin.link == .up && decide (16 ≤ errs.length) then mirrorLost d1 else d1
/-- 09 R375, R376. -/
def execMirrorBadFrame (crc : Bool) (s : State) : Host.Outcome State Fault Refusal := act (fxMirrorBadFrame crc) s

/-- A valid frame arrives on the link in UP (09 R375): the frame bound starts again. -/
def mirrorRx (f : Dev → Dev) (d : Dev) : Dev :=
  if d.cfg.twin.en && d.twin.link == .up then f (startTimer .mirrorFrameTimeout (ticksOfUs 250) d) else d

/-- The ACTIVE forwards its active slot while REPLACE is 1 and the partner's postmark differs; a bound image is not forwarded (09 R399
and step 6). -/
def forwardSlot (d : Dev) : Dev :=
  match d.twin.peer with
  | none => d
  | some h =>
    let s := d.store.slots[d.store.activeSlot]
    if d.twin.role != 1 || !d.twin.replace || d.twin.link != .up || !d.store.admitted || h.postmark == d.store.postmark
        || d.twin.forwarded == some h.postmark || byteAt s.image 11 == 1 then d
    else
      let d1 := mirrorSend (.control (.image d.store.activeSlot s.image)) (onTwin (fun t => { t with forwarded := some h.postmark }) d)
      forEach s.amends (fun b x => mirrorSend (.control (.amendment b)) x) d1

/-- The link comes UP (09 R375, R377). -/
def mirrorUp (d : Dev) : Dev :=
  let d1 := condEnd srcMirror (twinEvent 7 (onTwin (fun t => { t with link := .up, crcErrs := [] }) d))
  startTimer .msyncTimer (ticksOfUs 100) (startTimer .mhelloTimer (ticksOfUs 100) (startTimer .mirrorFrameTimeout (ticksOfUs 250) d1))

def fxMhello (h : MHello) (d : Dev) : Dev :=
  if !d.cfg.twin.en then d
  else match d.twin.link with
    | .down => d
    | .train =>
      let d1 := onTwin (fun t => { t with mhellos := t.mhellos + 1, peer := some h }) d
      if 3 ≤ d.twin.mhellos + 1 && h.rxOk then forwardSlot (mirrorUp d1) else d1
    | .up => mirrorRx (fun x => forwardSlot (onTwin (fun t => { t with peer := some h }) x)) d
/-- 09 R375, R378, R399. -/
def execMhello (h : MHello) (s : State) : Host.Outcome State Fault Refusal := act (fxMhello h) s

def fxMhelloTimer (d : Dev) : Dev :=
  match d.twin.link with
  | .down => stopTimer .mhelloTimer d
  | .train => startTimer .mhelloTimer (ticksOfUs 10) (mirrorSend (.mhello (mhelloNow d)) d)
  | .up => startTimer .mhelloTimer (ticksOfUs 100) (mirrorSend (.mhello (mhelloNow d)) d)
/-- 09 R375, R377. -/
def execMhelloTimer (s : State) : Host.Outcome State Fault Refusal := act fxMhelloTimer s

def fxMsyncTimer (d : Dev) : Dev :=
  if d.twin.link == .up then startTimer .msyncTimer (ticksOfUs 100) (mirrorSend (.msync d.tmr.tb 0 0) d) else stopTimer .msyncTimer d
/-- 09 R377, R379. -/
def execMsyncTimer (s : State) : Host.Outcome State Fault Refusal := act fxMsyncTimer s

/-- The SHADOW follows the ACTIVE's TB (09 R379): a step forward beyond 1 us of lag, -200 ppm beyond 1 us of lead, else a rate that the
spec leaves open within 200 ppm. -/
def followTb (ns : Int) (d : Dev) : Dev :=
  let d1 := onTmr (fun t => { t with shadowSync := true }) d
  if 1000 < ns then tbStep (ns.toNat / 20) false d1
  else if ns < -1000 then onTmr (fun t => { t with steer := -20000, disc := 2 }) d1
  else steerBy (decide (ns < 0)) (decide (ns = 0)) d1

/-- An MSYNC exchange (09 R379, with the formulas of 08 R343): the offset of the partner in ns. -/
def takeMsync (t1 t2 t3 t4 : Nat) (d : Dev) : Dev :=
  let ns : Int := 10 * (((t2 : Int) - t1) + ((t3 : Int) - t4))
  let d1 := onTwin (fun t => { t with tofs := ns, tbLock := decide (ns.natAbs ≤ 40) }) d
  if isShadow d then followTb ns d1 else d1

def fxMsync (t1 t2 t3 t4 : Nat) (d : Dev) : Dev := mirrorRx (takeMsync t1 t2 t3 t4) d
/-- 09 R379. -/
def execMsync (t1 t2 t3 t4 : Nat) (s : State) : Host.Outcome State Fault Refusal := act (fxMsync t1 t2 t3 t4) s

/-! ### Loop state -/

/-- Hiccup off-time that is left to a port, in 0.1 ms (09 R380 HOFF). -/
def hoffOf (d : Dev) (p : Fin 32) : Nat :=
  match d.timers.find? fun t => t.2 == .hiccupOffTimeExpiry p with
  | some t => (t.1 - d.tmr.tb) / 5000
  | none => 0

/-- Bits of the unretired phases among the mapped phases of a port, in phase order (09 R380 HC). -/
def phaseMask (d : Dev) (p : Fin 32) : BitVec 4 :=
  BitVec.ofNat 4 (((phasesOf d p).zipIdx.map fun x => if (d.phases[x.1]).state == .retired then 0 else 2 ^ x.2).sum)

/-- The loop-state record of a port (09 R380). -/
def loopRecOf (d : Dev) (p : Fin 32) : LoopRec :=
  let l := d.loops[p]
  { port := p, sourcing := l.switching, softStart := l.softStart, ramping := l.ramping, trunc := l.trunc, cl := clActs d p, skipping := l.skipping
    hiccup := l.hiccup, latched := l.latched, ref := refNow d l, region := l.region, target := l.target, deForced := l.deForced
    minimal := portMinimal d p, vc := l.vc, lc := l.lc, hc := l.hc, mask := phaseMask d p, cycle := framePos d p d.tmr.tb % 256
    fence := (d.ports[p]).fence / 10, hoff := hoffOf d p }

/-- The next multiple of LS_PERIOD on TB (09 R380). -/
def nextSnapshot (d : Dev) : Nat := (d.tmr.tb / ticksOfUs d.cfg.twin.lsPeriod + 1) * ticksOfUs d.cfg.twin.lsPeriod

def fxLoopSnapshot (d : Dev) : Dev :=
  if d.twin.role != 1 then stopTimer .loopSnapshot d
  else
    let recs := ((indices 32).filter (hasPort d)).map (loopRecOf d)
    let d1 := startTimerAt .loopSnapshot (nextSnapshot d) (onTwin (fun t => { t with loopSeq := wrapInc 16 t.loopSeq }) d)
    if d.twin.link == .up then mirrorSend (.loop d.tmr.tb recs) d1 else d1
/-- 09 R380. -/
def execLoopSnapshot (s : State) : Host.Outcome State Fault Refusal := act fxLoopSnapshot s

/-- Slew of a mirrored ramp (05 R211), as the SHADOW advances it between records (09 R386). -/
def trackedSlew (d : Dev) (r : LoopRec) : Nat :=
  let c := diePort d r.port
  if r.softStart then c.slewSs else if r.target = 0 then c.slewOff else if r.ref ≤ r.target then c.slewUp else c.slewDn

/-- The offset of a port's frame that puts it at a mirrored position at a stamp (09 R380 CYCLE). -/
def cycleOfs (d : Dev) (r : LoopRec) (stamp : Nat) : Nat := (r.cycle + 256 - (framePos d r.port stamp - (d.loops[r.port]).cycle) % 256) % 256

/-- The SHADOW tracks one port's loop (09 R386): REF, TARGET, region, LC, HC, VC, CYCLE, HOFF, and the mask of unretired phases. -/
def trackLoop (stamp : Nat) (r : LoopRec) (d : Dev) : Dev :=
  let p := r.port
  let d1 := onTwin (fun t => { t with loops := t.loops.set p (some r) }) d
  let d2 := onLoop p (fun l => { l with
    ref := r.ref, refTb := stamp, target := r.target, ramping := r.ramping, slew := trackedSlew d r
    rampFor := if !r.ramping then .none else if r.softStart then .softStart else if r.target = 0 then .offRamp else .transition
    region := r.region, switching := r.sourcing, softStart := r.softStart, deForced := r.deForced, trunc := r.trunc, cl := r.cl, hiccup := r.hiccup
    latched := r.latched, skipping := r.skipping, lc := r.lc, hc := r.hc, vc := r.vc, cycle := cycleOfs d r stamp, hoff := r.hoff }) d1
  forEach ((phasesOf d p).zipIdx.filter fun x => decide (x.2 < 4))
    (fun x => onPhase x.1 fun f =>
      if !r.mask.getLsbD x.2 then { f with state := .retired }
      else if f.state == .retired || f.state == .idle || f.state == .switching then { f with state := if r.sourcing then .switching else .idle }
      else f) d2

/-- A LOOP frame at the SHADOW (09 R386, R388 condition 4, R389): tracking, freshness for 100 ms, and eligibility at this frame. -/
def takeLoop (stamp : Nat) (recs : List LoopRec) (d : Dev) : Dev :=
  if !isShadow d then d
  else
    let running := timerRuns d .loopFrameOverdue
    let since := if running then d.twin.lsFreshSince else d.tmr.tb
    let d1 := forEach recs (trackLoop stamp) (startTimer .loopFrameOverdue (ticksOfUs (d.cfg.twin.lsPeriod + 5)) d)
    let d2 := onTwin (fun t => { t with
      lsAgeMax := max t.lsAgeMax (lsAge d), lastLoop := some d.tmr.tb, lastStamp := stamp, lsFreshSince := since
      lsFresh := running && decide (since + ticksOfMs 100 ≤ d.tmr.tb) }) d1
    onTwin (fun t => { t with eligAtLoop := decide (whyNot d2 = 0) }) d2

def fxLoopState (stamp : Nat) (recs : List LoopRec) (d : Dev) : Dev := mirrorRx (takeLoop stamp recs) d
/-- 09 R386, R388. -/
def execLoopState (stamp : Nat) (recs : List LoopRec) (s : State) : Host.Outcome State Fault Refusal := act (fxLoopState stamp recs) s

def fxLoopFrameOverdue (d : Dev) : Dev := stopTimer .loopFrameOverdue (onTwin (fun t => { t with lsFresh := false }) d)
/-- 09 R388 condition 4; the eligibility and its event follow at once. -/
def execLoopFrameOverdue (s : State) : Host.Outcome State Fault Refusal := act fxLoopFrameOverdue s

/-! ### Protocol state -/

/-- The Type-C state of a code (03 R105). -/
def tcOfCode : Nat → TcState
  | 1 => .errorRecovery | 2 => .unattachedSrc | 3 => .attachWaitSrc | 4 => .attachedSrc | 5 => .trySrc | 6 => .tryWaitSnk | 7 => .unattachedSnk
  | 8 => .attachWaitSnk | 9 => .attachedSnk | 10 => .debugSrc | 11 => .debugSnk | 12 => .minimal | _ => .disabled

/-- The Rp of a code (04 R185 RPLVL). -/
def rpOfCode : Nat → RpLevel
  | 0 => .default | 1 => .a15 | 2 => .a30 | _ => .none

/-- A state in which a port presents Rd (03 R105). -/
def sinkState (t : TcState) : Bool := t == .tryWaitSnk || t == .unattachedSnk || t == .attachWaitSnk || isSnkAttached t

/-- The port state that a protocol record gives (09 R381). The record names no contract kind: it follows from the RDO and the offers
(log entry 31). -/
def trackPort (r : ProtoRec) (d : Dev) : Dev :=
  let p := r.port
  let tc := tcOfCode r.tcState
  let flag (i : Nat) : Bool := r.pflags.getLsbD i
  let moving := flag 4
  let d1 := onPort p (fun q => { q with
    tc := tc, enabled := decide (tc ≠ .disabled), orient := r.oflags.getLsbD 0, vconnPin := r.oflags.getLsbD 1, cableDone := r.oflags.getLsbD 2
    eprMode := flag 1, rev := if flag 2 then 1 else 2, swap := flag 3, transition := moving, source := flag 5, dfp := flag 6, vconnOn := flag 7
    rp := rpOfCode r.rpLvl, rd := sinkState tc, ccCut := 0, rdo := if moving then q.rdo else r.rdo, volt := if moving then q.volt else r.volt
    curr := if moving then q.curr else r.curr, hand := r.hand, pend := if r.pend = 0xFFFF then none else some (r.pend, r.pendTb)
    cableFinding := bits r.cable 0 2, cableEpr := bit r.cable 2, cableActive := bit r.cable 3, vconnOc := bit r.cable 4, cableV := bits r.cable 8 8
    cableI := bits r.cable 16 16 }) d
  let w := pdoVector (capsWords d1 p)
  let d2 := onPd p (fun x => { x with
    txId := Fin.ofNat 8 (r.txId % 8), txId1 := Fin.ofNat 8 (r.txId / 8 % 8), rxId := if 0x80 ≤ r.rxId then none else some (Fin.ofNat 8 (r.rxId % 8))
    rxTb := r.rxTb, sentPdos := w, pdos := w, newRdo := if moving then r.rdo else x.newRdo, newVolt := if moving then r.volt else x.newVolt
    newCurr := if moving then r.curr else x.newCurr }) d1
  let ask := askOf d2 p r.rdo
  let kind := if !flag 0 then .none else if isSnkAttached tc then .sink else (ask.map (·.kind)).getD .sprFixed
  let d3 := onPort p (fun q => { q with kind := kind, position := if flag 0 then bits r.rdo 28 4 else 0 }) d2
  let d4 := onPd p (fun x => { x with newKind := kind, newPos := bits r.rdo 28 4 }) d3
  let lv := ccLevels (rpOfCode r.rpLvl) (sinkState tc)
  if (d.ports[p]).rp == rpOfCode r.rpLvl && (d.ports[p]).rd == sinkState tc then d4 else ccProgram lv (cc2 p) (ccProgram lv (cc1 p) d4)

/-- A protocol record at the SHADOW (09 R381, 03 R99). -/
def takeProto (r : ProtoRec) (d : Dev) : Dev :=
  if isShadow d then trackPort r (onTwin (fun t => { t with protos := t.protos.set r.port (some r) }) d) else d

def fxProtocolRecord (rec : ProtoRec) (d : Dev) : Dev := mirrorRx (takeProto rec) d
/-- 09 R381. -/
def execProtocolRecord (rec : ProtoRec) (s : State) : Host.Outcome State Fault Refusal := act (fxProtocolRecord rec) s

/-- A fence value at the SHADOW (09 R382): a raise stands at once, a lowering waits for the card's own VBUS sense. -/
def trackFence (p : Fin 32) (mv : Nat) (d : Dev) : Dev :=
  onlyIf (isShadow d) (onPort p fun q =>
    if mv = 0 then { q with fence := 0, fencePend := none, fenceReg := 0 }
    else fenceTo mv q) d

def fxMirrorFence (p : Fin 32) (mv : Nat) (d : Dev) : Dev := mirrorRx (trackFence p mv) d
/-- 09 R382. -/
def execMirrorFence (p : Fin 32) (mv : Nat) (s : State) : Host.Outcome State Fault Refusal := act (fxMirrorFence p mv) s

/-- A DEAL payload at the SHADOW (09 R383). -/
def trackDeal (x : Deal) (d : Dev) : Dev := onlyIf (isShadow d) (fun y => holdDeal x (onTwin (fun t => { t with deal := some x }) y)) d

def fxMirrorLedger (x : Deal) (d : Dev) : Dev := mirrorRx (trackDeal x) d
/-- 09 R383. -/
def execMirrorLedger (x : Deal) (s : State) : Host.Outcome State Fault Refusal := act (fxMirrorLedger x) s

def fxMirrorJournal (cls : Fin 16) (payload : List Byte) (d : Dev) : Dev := mirrorRx (onlyIf (isShadow d) (journalM cls true payload)) d
/-- 09 R384. -/
def execMirrorJournal (cls : Fin 16) (payload : List Byte) (s : State) : Host.Outcome State Fault Refusal := act (fxMirrorJournal cls payload) s

/-! ### Takeover -/

/-- A message of a wire type and kind, as a port core rebuilds it (09 R392). -/
def rebuilt (d : Dev) (r : ProtoRec) : Option PdTx :=
  let all : List PdKind := [.accept, .reject, .ping, .psRdy, .getSourceCap, .getSinkCap, .drSwap, .prSwap, .vconnSwap, .softReset, .notSupported,
    .getSourceCapExtended, .getStatus, .getPpsStatus, .getSourceInfo, .getRevision, .sourceCapabilities, .request, .sinkCapabilities, .alert,
    .eprModeEnterAck, .sourceInfo, .revision, .vendorDefined, .sourceCapabilitiesExtended, .status, .ppsStatus, .eprKeepAliveAck,
    .eprSourceCapabilities]
  if r.outType = 0 then none
  else (all.find? fun k => wireType k == (r.outType, r.outKind % 4)).map fun k =>
    { sop := 0, kind := k, tries := r.outKind / 4
      data := if k == .sourceCapabilities || k == .eprSourceCapabilities then capsWords d r.port else if k == .request then [r.rdo] else [] }

/-- A port core resumes from its protocol record (09 R391 step 9, R392): its exchange, its policy timer at TIMER_TB, its message as a
retry, and the pending hand at its instant. -/
def resumePort (p : Fin 32) (d : Dev) : Dev :=
  let d0 := match (d.ports[p]).pend with
    | some (_, w) => startTimerAt (.pendingHandEffective p) w d
    | none => d
  match d.twin.protos[p] with
  | none => d0
  | some r =>
    let d1 := onPd p (fun x => { x with ams := amsOf r.ams, txQueue := (rebuilt d r).toList }) d0
    let d2 := match (policyTimers p).find? fun x => decide (r.timerId ≠ 0) && x.1 == r.timerId with
      | some x => startTimerAt x.2 r.timerTb d1
      | none => d1
    if (rebuilt d r).isSome then startTimer (.tcrcreceiveExpiry p) (ticksOfMs 1) d2 else d2

/-- The hiccups that a mirrored HC counts each leave it 10 s after the takeover at the latest: the record says nothing of their ages (05
R216, R227; log entry 43). -/
def resumeHc (p : Fin 32) (d : Dev) : Dev :=
  { d with timers := d.timers ++ List.replicate (d.loops[p]).hc (d.tmr.tb + ticksOfS 10, .hiccupAgeOut p) }

/-- A port's loop resumes (09 R391 step 7): a hiccup off-time ends at the tracked HOFF; a port of a die in minimal mode restarts through
attach from 5 V (01 R35). -/
def resumeLoop (p : Fin 32) (d0 : Dev) : Dev :=
  let d := resumeHc p d0
  match d.twin.loops[p] with
  | none => d
  | some r =>
    if r.minimal && isAttached (d.ports[p]) then errorRecovery p 5 d
    else if r.hiccup then startTimerAt (.hiccupOffTimeExpiry p) (d.twin.lastStamp + 5000 * r.hoff) d
    else d

/-- The ledger resumes from the last DEAL mirrored, with the same entry slot (09 R393), or on FLOOR after a cold takeover without one
(09 R398). -/
def resumeLedger (isCold : Bool) (d : Dev) : Dev :=
  let d1 := match d.twin.deal with
    | some x => onLedger (fun l => { l with role := if l.role == .alone then .alone else if x.dealer == seatKey d then .dealer else .member }) d
    | none => if isCold then applyAllot d.cfg.ledger.floor d else d
  planPeriod (planOrders (onlyIf (d1.ledger.role == .dealer || d1.ledger.role == .alone) unsteered d1))

/-- This device takes the outputs (09 R391, R394, R401 to R403); `why` is the CAUSE. -/
def takeOver (why : Nat) (d : Dev) : Dev :=
  let d1 := bumpFree (onTwin (fun t => { t with
    role := 1, roleOut := true, eligible := false, heartbeatStopped := false, takeovers := inc8 t.takeovers, lastCause := why, lastTook := true
    resume := if why = 4 then bits (freeValue d) 0 16 else (freeValue d).toNat % 201, lastTb := d.tmr.tb }) d)
  let d2 := startTimerAt .loopSnapshot (nextSnapshot d) (stopTimer .loopFrameOverdue (onTmr (fun t => { t with shadowSync := false }) d1))
  let d3 := twinEvent 0 (onlyIf (why = 3) (twinEvent 8) d2)
  let d4 := if why = 4 then d3 else forEach (indices 32) (fun p x => resumeLoop p (resumePort p x)) d3
  announce (resumeLedger (decide (why = 4)) (twinJournal (if why = 3 then 2 ^ 8 + 1 else 1) d4))

def fxHeartbeatLoss (d : Dev) : Dev :=
  if !d.cfg.twin.en then onTwin (fun t => { t with partnerHb := false }) d
  else
    let d1 := twinEvent 4 (onTwin (fun t => { t with partnerHb := false }) d)
    if !isShadow d then d1
    else if d.twin.eligAtLoop && decide (d.tmr.tb ≤ d.twin.lastStamp + ticksOfUs (d.cfg.twin.lsPeriod + 5)) then takeOver 1 d1
    else twinEvent 3 d1
/-- 09 R389, R391, R402. -/
def execHeartbeatLoss (s : State) : Host.Outcome State Fault Refusal := act fxHeartbeatLoss s

def fxHeartbeatFound (d : Dev) : Dev :=
  onlyIf (d.cfg.twin.en && !d.twin.partnerHb) (twinEvent 5) (onTwin (fun t => { t with partnerHb := true }) d)
/-- 09 R402. -/
def execHeartbeatFound (s : State) : Host.Outcome State Fault Refusal := act fxHeartbeatFound s

/-! ### Release -/

/-- A port of a device that releases: its core stops, its exchanges and timers end; its latches, counts and terminations stand for a later
takeover (09 R387). -/
def releasePort (p : Fin 32) (d : Dev) : Dev :=
  let d1 := stopTimers (.portDisableTimeout p :: .hiccupOffTimeExpiry p :: .pendingHandEffective p :: (tcTimers p ++ cableTimers p)) (pdAbandon p d)
  onPd p (fun x => { x with disabling := false }) d1

/-- This device releases the outputs and becomes SHADOW (09 R391 step 4, R395, R402, R403). Unless it handed over itself, it cannot tell
the partner's cause: a free value among heartbeat loss, TAKEOVER and COLD (log entry 5). -/
def releaseOutputs (d : Dev) : Dev :=
  let own := d.twin.cmd.getLsbD 0
  let v := bits (freeValue d) 0 2
  let why := if own then 3 else if v = 0 then 1 else if v = 1 then 2 else if v = 2 then 4 else 1
  let d0 := discardJobs (fun j => j.opcode / 256 == 1 || j.opcode / 256 == 3) d
  let d1 := bumpFree (bumpFree (onTwin (fun t => { t with
    role := 2, roleOut := false, heartbeatStopped := false, releases := inc8 t.releases, lastCause := why, lastTook := false
    resume := bits (Config.freeWord (d.freeCtr + 1)) 0 16, lastTb := d.tmr.tb, handoverAt := none, cmd := 0, lsFresh := false, eligAtLoop := false }) d0))
  let d2 := stopTimers [.loopSnapshot, .handoverInstant, .bidSlot, .dealerDealSlot, .dealMissCheck, .syncSlot] d1
  let d3 := onLedger (fun l => { l with role := if l.role == .dealer then .member else l.role, candidate := false }) (forEach (indices 32) releasePort d2)
  twinJournal (if own then 2 ^ 8 + 2 else 2) (twinEvent 1 (onlyIf own (twinEvent 8) d3))

def fxPartnerRoleAssert (d : Dev) : Dev :=
  let d1 := onTwin (fun t => { t with prole := true }) d
  if !d.cfg.twin.en then d1
  else if d.twin.role = 1 then releaseOutputs d1
  else if d.twin.role = 3 && d.twin.roleWaits != 0 then bootRole false d1
  else d1
/-- 09 R371, R372, R391 step 4, R395. -/
def execPartnerRoleAssert (s : State) : Host.Outcome State Fault Refusal := act fxPartnerRoleAssert s

def fxPartnerRoleDeassert (d : Dev) : Dev := onTwin (fun t => { t with prole := false }) d
/-- 09 R371, R398. -/
def execPartnerRoleDeassert (s : State) : Host.Outcome State Fault Refusal := act fxPartnerRoleDeassert s

/-! ### Commands -/

/-- A TWIN_CMD bit is refused (09 R396 to R398, R401). -/
def twinRefuse (d : Dev) : Dev := twinEvent 9 (onTwin (fun t => { t with refused := inc8 t.refused }) d)

/-- TWIN_CMD.HANDOVER (09 R396): with an eligible partner, an URGENT frame names an instant 100 us ahead. -/
def cmdHandover (d : Dev) : Dev :=
  if d.twin.role != 1 || d.twin.link != .up || !d.twin.peer.any (·.eligible) then twinRefuse d
  else if d.twin.handoverAt.isSome then d
  else
    let at0 := d.tmr.tb + ticksOfUs 100
    mirrorSend (.handover at0) (startTimerAt .handoverInstant at0 (onTwin (fun t => { t with handoverAt := some at0, cmd := setBit t.cmd 0 }) d))

/-- A TWIN register is written only with TWIN_EN 1. -/
def twinWrite (m : Fin 5) (f : Dev → Dev) (d : Dev) : Dev := if d.cfg.twin.en then ownerWrite m f d else d

def fxHandover (m : Fin 5) (d : Dev) : Dev := twinWrite m cmdHandover d
/-- 09 R396. -/
def execHandover (m : Fin 5) (s : State) : Host.Outcome State Fault Refusal := act (fxHandover m) s

def fxHandoverInstant (d : Dev) : Dev :=
  if !d.cfg.twin.en then d
  else if d.twin.role = 1 then
    match d.twin.handoverAt with
    | some _ => stopTimer .handoverInstant (onTwin (fun t => { t with heartbeatStopped := true, handoverAt := none }) d)
    | none => d
  else if isShadow d then takeOver 3 d
  else d
/-- 09 R390, R396. -/
def execHandoverInstant (s : State) : Host.Outcome State Fault Refusal := act fxHandoverInstant s

/-- TWIN_CMD.TAKEOVER (09 R397). -/
def cmdTakeover (d : Dev) : Dev := if isShadow d && d.twin.eligible then takeOver 2 d else twinRefuse d

def fxTwinCmdTakeover (m : Fin 5) (d : Dev) : Dev := twinWrite m cmdTakeover d
/-- 09 R397. -/
def execTwinCmdTakeover (m : Fin 5) (s : State) : Host.Outcome State Fault Refusal := act (fxTwinCmdTakeover m) s

/-- A port at a cold takeover (09 R398): ErrorRecovery, whatever it was. -/
def coldPort (p : Fin 32) (d : Dev) : Dev :=
  if !hasPort d p then d
  else
    let d1 := onPd p (fun x => { x with disabling := false }) d
    let was := (d.ports[p]).tc
    errorRecovery p 5 (onPort p (fun q => { q with
      enabled := true, startFail := false, tc := if was == .disabled || was == .errorRecovery then .unattachedSrc else was }) d1)

/-- TWIN_CMD.COLD (09 R398). -/
def cmdCold (d : Dev) : Dev :=
  if !isShadow d || (d.twin.prole && d.twin.partnerHb) then twinRefuse d else forEach (indices 32) coldPort (takeOver 4 d)

def fxCold (m : Fin 5) (d : Dev) : Dev := twinWrite m cmdCold d
/-- 09 R398. -/
def execCold (m : Fin 5) (s : State) : Host.Outcome State Fault Refusal := act (fxCold m) s

/-- TWIN_CTL (09 R399, R401): INHIBIT, and REPLACE with its 30 minutes. -/
def twinCtl (v : Word) (d : Dev) : Dev :=
  let was := d.twin.replace
  let d1 := onTwin (fun t => { t with inhibit := bit v 0, replace := bit v 1, forwarded := if bit v 1 then t.forwarded else none }) d
  if bit v 1 && !was then forwardSlot (startTimer .replaceTimeout (ticksOfS 1800) d1)
  else if bit v 1 then d1
  else stopTimer .replaceTimeout d1

def fxReplaceTimeout (d : Dev) : Dev := stopTimer .replaceTimeout (onTwin (fun t => { t with replace := false, forwarded := none }) d)
/-- 09 R399. -/
def execReplaceTimeout (s : State) : Host.Outcome State Fault Refusal := act fxReplaceTimeout s

end Sys2Proof.Machine
end

