-- ==== Sys2Proof/Machine/FaultCmd.lean ====
section
/-! DEFINITION. The fault collector's commands (11 R431 to R457): raises, graces, clears, forces, watchdogs, the ends of conditions, the hardware response of TEMP_TRIP, automatic exits from minimal mode. -/

namespace Sys2Proof.Machine

/-! ### TEMP_TRIP -/

/-- The die of a TEMP_TRIP source (11 R432): 0 hub, 1 to 4 the edge dies, 5 the feed die. -/
def tripDie (n : Fin 768) : Option (Fin 6) := if 0x24D ≤ n.val ∧ n.val ≤ 0x252 then some (Fin.ofNat 6 (n.val - 0x24D)) else none

/-- TEMP_TRIP_HUB: the hub is held in reset (11 R434); the WAKE cause of the BOOT that follows is open (log entry 5). -/
def tripHub (d : Dev) : Dev :=
  onSys (fun s => { s with inReset := true }) (hubReset 3 0 ((freeValue d).toNat % 6) (bumpFree d))

/-- TEMP_TRIP of an edge die: legs at mid, guards and VCONN open, every port in ErrorRecovery (11 R434). -/
def tripEdge (e : Fin 4) (d : Dev) : Dev := forEach (diePorts e) (fun p x => errorRecovery p 5 (vconnOff p (stopPort p 5 x))) d

/-- TEMP_TRIP of the feed die: every hot-swap gate turns off without latching (11 R434). -/
def tripFeed (d : Dev) : Dev := forEach (indices 4) standbyFeed d

/-- The hardware response of a TEMP_TRIP source begins (11 R434). -/
def tripStart (k : Fin 6) (d : Dev) : Dev :=
  let d1 := onSys (fun s => { s with tempTrip := s.tempTrip.set k true }) d
  if k.val = 0 then tripHub d1 else if h : k.val < 5 then tripEdge ⟨k.val - 1, by omega⟩ d1 else tripFeed d1

/-- A port whose tErrorRecovery has run out leaves ErrorRecovery once its die has cooled (11 R434, 03 R107). -/
def tripPortEnd (p : Fin 32) (d : Dev) : Dev :=
  if timerRuns d (.terrorrecoveryExpiry p) then d
  else match (d.ports[p]).tc with
    | .errorRecovery => toUnattached p d
    | _ => d

/-- The response ends with its condition (11 R433, R434): ports restart, insertion restarts, the hub's reset ends. -/
def tripEnd (k : Fin 6) (d : Dev) : Dev :=
  let d1 := onSys (fun s => { s with tempTrip := s.tempTrip.set k false }) d
  if k.val = 0 then onlyIf (railsOk d1) (onSys fun s => { s with inReset := false }) d1
  else if h : k.val < 5 then forEach (diePorts ⟨k.val - 1, by omega⟩) tripPortEnd d1
  else forEach (indices 4) feedTryDelay d1

/-! ### Raises -/

/-- CLK_ETH (11 R432). -/
def srcClkEth : Fin 768 := srcOf 0x23F

/-- What a RESET_BLOCK that the collector just carried out does in the ledger and the MAC: the MAC restarts (11 R432); the neighbours of a
link that went DOWN are held against the postmark anew (08 R354). `was` is the device before it. -/
def blockFollow (n : Fin 768) (was d : Dev) : Dev :=
  if (d.sources[n]).action != 6 || !(d.sources[n]).acted || (was.sources[n]).acted then d
  else if n == srcClkEth then netStart d
  else if 0x228 ≤ n.val ∧ n.val ≤ 0x22A then concordCheck d
  else d

/-- A raise; a TEMP_TRIP response is the die's own and waits for no link. -/
def fxFaultRaise (src : Fin 768) (stamp : Nat) (d : Dev) : Dev :=
  let d1 := onlyIf (src == srcStoreWrite) mapOut (blockFollow src d (takeRaise src stamp d))
  match tripDie src with
  | some k => if d.sys.tempTrip[k] then d1 else tripStart k d1
  | none => d1
/-- 11 R434, R439 to R443, 01 R631; 15 R575: the store controller reports a failed block. -/
def execFaultRaise (src : Fin 768) (stamp : Nat) (s : State) : Host.Outcome State Fault Refusal := act (fxFaultRaise src stamp) s

def fxGraceExpiry (src : Fin 768) (d : Dev) : Dev := blockFollow src d (graceOut src d)
/-- 01 R32, 11 R435, R437. -/
def execGraceExpiry (src : Fin 768) (s : State) : Host.Outcome State Fault Refusal := act (fxGraceExpiry src) s

def fxSeverityRelax (src : Fin 768) (d : Dev) : Dev := relax src (stopTimer (.severityRelax src) d)
/-- 11 R442. -/
def execSeverityRelax (src : Fin 768) (s : State) : Host.Outcome State Fault Refusal := act (fxSeverityRelax src) s

def fxFaultBacklogDrain (d : Dev) : Dev := backlogDrain 64 d
/-- 11 R449. -/
def execFaultBacklogDrain (s : State) : Host.Outcome State Fault Refusal := act fxFaultBacklogDrain s

/-! ### Automatic exits from minimal mode -/

/-- A single die leaves minimal mode by itself, and so does the device after cause 2 (11 R453). -/
def autoExit (e : Fin 4) (d : Dev) : Dev :=
  if !d.sys.edgeMin[e] || !mayExit d || !linkSteady d (linkOf e) then d
  else if d.sys.mode == .service then leaveDie e d
  else if d.sys.mode == .minimal && d.coll.minCause == 2 then
    let d1 := collEvent 6 (onColl (fun c => { c with minimal := false, minCause := 0 }) (setMode .service d))
    let d2 := onTwin (fun t => { t with heartbeatStopped := false }) (leaveDie e d1)
    forEach ((indices 4).filter fun i => d2.sys.edgeMin[i]) (fun i x => levelSource (srcEdgeMinimal i) true x) d2
  else d

def fxMinimalAutoExit (e : Fin 4) (d : Dev) : Dev := autoExit e (stopTimer (.minimalAutoExit e) d)
/-- 11 R453, R454, R432. -/
def execMinimalAutoExit (e : Fin 4) (s : State) : Host.Outcome State Fault Refusal := act (fxMinimalAutoExit e) s

/-! ### Clears and forces -/

/-- After a clear the exit conditions may hold for a die that waits (11 R453). -/
def clearBy (m : Fin 5) (n : Fin 768) (d : Dev) : Dev := forEach (indices 4) autoExit (clearSource n m d)

/-- FAULT_CLEAR (11 R440, R455). -/
def clearById (m : Fin 5) (v : Word) (d : Dev) : Dev :=
  if h : bits v 0 12 < 768 then clearBy m ⟨bits v 0 12, h⟩ d else d

def fxFaultClear (m : Fin 5) (v : Word) (d : Dev) : Dev := ownerWrite m (clearById m v) d
/-- 11 R440. -/
def execFaultClear (m : Fin 5) (v : Word) (s : State) : Host.Outcome State Fault Refusal := act (fxFaultClear m v) s

def fxFaultLatchBitClear (m : Fin 5) (src : Fin 768) (d : Dev) : Dev := ownerWrite m (clearBy m src) d
/-- 11 R440. -/
def execFaultLatchBitClear (m : Fin 5) (src : Fin 768) (s : State) : Host.Outcome State Fault Refusal := act (fxFaultLatchBitClear m src) s

/-- Port, phase or feed of a source, for a record of the journal. -/
def srcInstance (n : Fin 768) : Nat :=
  match srcGroup n with
  | .port p => p.val
  | .phase i => i.val
  | .feed f => f.val
  | .system => 0

/-- FAULT_FORCE (11 R443, R455), journalled in class OWNER (15 R578). -/
def forceById (m : Fin 5) (v : Word) (d : Dev) : Dev :=
  let d1 := journalWrite 7 0x2014 v m (if h : bits v 0 12 < 768 then srcInstance ⟨bits v 0 12, h⟩ else 0) d
  if h : bits v 0 12 < 768 then blockFollow ⟨bits v 0 12, h⟩ d (healthWatch ⟨bits v 0 12, h⟩ (raiseForced ⟨bits v 0 12, h⟩ m (bit v 12) d1)) else d1

def fxFaultForce (m : Fin 5) (v : Word) (d : Dev) : Dev := ownerWrite m (forceById m v) d
/-- 11 R443. -/
def execFaultForce (m : Fin 5) (v : Word) (s : State) : Host.Outcome State Fault Refusal := act (fxFaultForce m v) s

/-! ### Watchdogs -/

/-- A watchdog expires and hardware restarts the core (11 R433). -/
def fxWatchdogExpiry (core : Fin 9) (restarted : Bool) (d : Dev) : Dev := if restarted then d else coreDead core d
/-- 11 R432, R433, 09 R390, 14 R551. -/
def execWatchdogExpiry (core : Fin 9) (restarted : Bool) (s : State) : Host.Outcome State Fault Refusal := act (fxWatchdogExpiry core restarted) s

/-! ### The end of a condition -/

/-- What else ends with the condition of a source: STAGE_FAULT's SF level, the undervoltage flag of VBUS_UV, the response of TEMP_TRIP. -/
def condFollow (n : Fin 768) (d : Dev) : Dev :=
  match tripDie n with
  | some k => tripEnd k d
  | none =>
    match srcGroup n with
    | .phase i => if n.val % 4 = 3 then onPhase i (fun f => { f with sf := false }) d else d
    | .port p => if n.val % 8 = 1 then onLoop p (fun l => { l with uv := false }) d else d
    | _ => d

def fxFaultConditionEnd (src : Fin 768) (d : Dev) : Dev := if srcLevel src then condFollow src (condEnd src d) else d
/-- 11 R433, R434. -/
def execFaultConditionEnd (src : Fin 768) (s : State) : Host.Outcome State Fault Refusal := act (fxFaultConditionEnd src) s

end Sys2Proof.Machine
end

