-- ==== Sys2Proof/Machine/Pd.lean ====
section
/-! DEFINITION. Power Delivery (04): messages received, messages acknowledged, the protocol timers, the fence, the hands. -/

namespace Sys2Proof.Machine

/-! ### Frames on the wire -/

/-- A message with a good CRC at a protocol engine (04 R138 to R146). -/
def takeMessage (p : Fin 32) (msg : PdMsg) (d : Dev) : Dev :=
  let x := d.pd[p]
  if msg.sop != 0 then d
  else if x.bistData || msg.kind == .bistOther then heard p d
  else if 4 ≤ x.rxQueue.length then portEvent p 19 d
  else if x.rxId == some msg.msgId && msg.kind != .softReset then heard p d
  else
    let d1 := onPd p (fun x => { x with rxId := some msg.msgId, rxQueue := x.rxQueue ++ [msg] }) (heard p d)
    onPort p (fun q => { q with rev := if q.rev = 0 then (if msg.rev20 then 1 else 2) else q.rev }) d1

def fxPdMessageReceived (p : Fin 32) (msg : PdMsg) (d : Dev) : Dev :=
  if pdLive d p && !d.sys.retraining[linkOf (edgeOf p)] then takeMessage p msg (holdComm p d) else d
/-- 01 R18, R631: one that the die receives while its link is lost is discarded; 04 R138, R140, R143, R146; 06 R240: the channel of the pin holds its zone. -/
def execPdMessageReceived (p : Fin 32) (msg : PdMsg) (s : State) : Host.Outcome State Fault Refusal := act (fxPdMessageReceived p msg) s

/-- The extended messages the device sends: they go out in chunks of 26 bytes (04 R142). -/
def isExtended (k : PdKind) : Bool :=
  k == .eprSourceCapabilities || k == .sourceCapabilitiesExtended || k == .status || k == .ppsStatus

/-- Data bytes of an extended message: its data block may end inside a word (log entry 9). -/
def dataBytes (t : PdTx) : Nat :=
  match t.kind with
  | .sourceCapabilitiesExtended => 25
  | .status => 7
  | .ppsStatus => 4
  | _ => 4 * t.data.length

/-- More chunks of a message are to come (04 R142). -/
def moreChunks (t : PdTx) : Bool := isExtended t.kind && decide (26 * (t.chunk + 1) < dataBytes t)

/-- A chunk of a message joins the transmit queue. -/
def sendChunk (p : Fin 32) (t : PdTx) (d : Dev) : Dev :=
  let idle := (d.pd[p]).txQueue.isEmpty
  let d1 := onPd p (fun x => { x with txQueue := x.txQueue ++ [t], chunks := none }) d
  if idle then startTimer (.tcrcreceiveExpiry p) (ticksOfMs 1) d1 else d1

/-- The reason that keeps a sink out of EPR mode (04 R167): the first that applies, 0 for none. The numbers are those USB PD 3.2 gives the
reasons in the EPR_Mode data object (log entry 9). -/
def eprRefusal (d : Dev) (p : Fin 32) : Nat :=
  let q := d.ports[p]
  if !pflag d p 3 then 5
  else if !q.cableEpr then 1
  else if !q.vconnOn then 2
  else if !(d.pd[p]).lastRdoEpr then 3
  else if portMinimal d p || q.swap then 4
  else 0

/-- EPR mode is entered (04 R167): EPR_Source_Capabilities go out, and the hand is divided again. -/
def enterEpr (p : Fin 32) (d : Dev) : Dev :=
  let d1 := startTimer (.tsourceeprkeepaliveExpiry p) (ticksOfMs 900) (portEvent p 9 (onPort p (fun q => { q with eprMode := true }) d))
  divide (sendCapsNow p (onPd p (fun x => { x with ams := .none }) d1))

/-- What follows the GoodCRC of an Accept (04 R166, R171 to R173, R176). -/
def acceptSent (p : Fin 32) (d : Dev) : Dev :=
  match (d.pd[p]).ams with
  | .transition => startTimer (.tsrctransitionExpiry p) (ticksOfMs 28) d
  | .prSwapSrc => startTimer (.tsrctransitionExpiry p) (ticksOfMs 28) d
  | .prSwapSnk => startTimer (.tpssourceoffExpiry p) (ticksOfMs 835) d
  | .vconnGive => startTimer (.tvconnsourcetimeoutExpiry p) (ticksOfMs 150) d
  | .vconnTake => pdSend p 0 .psRdy [] (vconnOnPin p d)
  | .drSwap => amsEnd p (portEvent p 7 (onPort p (fun q => { q with dfp := !q.dfp, swap := false }) d))
  | .softAnswer =>
    let d1 := onPd p (fun x => { x with ams := .none }) d
    if pdSource d p then sendCapsNow p d1 else d1
  | _ => d

/-- What follows the GoodCRC of a PS_RDY (04 R165, R166, R171, R173). -/
def psRdySent (p : Fin 32) (d : Dev) : Dev :=
  match (d.pd[p]).ams with
  | .transition => amsEnd p d
  | .prSwapSrc => startTimer (.tpssourceonExpiry p) (ticksOfMs 435) d
  | .prSwapSnk =>
    startTimer (.tswapsourcestartExpiry p) (ticksOfMs 20)
      (portEvent p 6 (onPort p (fun q => { q with swap := false }) (onPd p (fun x => { x with ams := .none }) d)))
  | .vconnTake => amsEnd p (portEvent p 8 (onPort p (fun q => { q with swap := false }) d))
  | _ => d

/-- What follows the GoodCRC of a whole message (04 R166 to R173). -/
def messageSent (p : Fin 32) (t : PdTx) (d : Dev) : Dev :=
  let respond := startTimer (.tsenderresponseExpiry p) (ticksOfMs 30)
  match t.kind with
  | .sourceCapabilities => if (d.pd[p]).ams == .offer then respond d else d
  | .eprSourceCapabilities => if (d.pd[p]).ams == .offer then respond d else d
  | .request => respond d
  | .softReset => respond d
  | .accept => acceptSent p d
  | .psRdy => psRdySent p d
  | .eprModeEnterAck =>
    let why := eprRefusal d p
    if why = 0 then pdSend p 0 .eprModeEnterSucceeded [] d else pdSend p 0 .eprModeEnterFailed [w32 why] d
  | .eprModeEnterSucceeded => enterEpr p d
  | .eprModeEnterFailed => if (d.pd[p]).ams == .epr then amsEnd p d else d
  | _ => offerIdle p d

def fxPdGoodcrcReceived (p : Fin 32) (d : Dev) : Dev :=
  if d.sys.retraining[linkOf (edgeOf p)] then d
  else match (d.pd[p]).txQueue with
  | [] => d
  | t :: _ =>
    let d1 := onPd p (fun x => if t.sop = 0 then { x with txId := x.txId + 1 } else { x with txId1 := x.txId1 + 1 }) (pdPop p (holdComm p d))
    if t.sop ≠ 0 then d1
    else if moreChunks t then startTimer (.tchunksenderrequestExpiry p) (ticksOfMs 27) (onPd p (fun x => { x with chunks := some t }) d1)
    else messageSent p t d1
/-- 04 R139, R142, R165 to R173; 06 R240. -/
def execPdGoodcrcReceived (p : Fin 32) (s : State) : Host.Outcome State Fault Refusal := act (fxPdGoodcrcReceived p) s

/-- A message whose last try went unanswered, or a response that stayed out (04 R139, R142, R166): Soft_Reset, or Hard Reset after a
Soft_Reset or after capabilities under a contract. -/
def exchangeFailed (p : Fin 32) (k : PdKind) (d : Dev) : Dev :=
  if k == .softReset || ((k == .sourceCapabilities || k == .eprSourceCapabilities) && explicit d p) then sendHardReset p d
  else sendSoftReset p d

def fxTcrcreceiveExpiry (p : Fin 32) (d : Dev) : Dev :=
  match (d.pd[p]).txQueue with
  | [] => stopTimer (.tcrcreceiveExpiry p) d
  | t :: rest =>
    if d.sys.retraining[linkOf (edgeOf p)] then startTimer (.tcrcreceiveExpiry p) (ticksOfMs 1) d
    else if t.tries < 2 then
      startTimer (.tcrcreceiveExpiry p) (ticksOfMs 1) (onPd p (fun x => { x with txQueue := { t with tries := t.tries + 1 } :: rest }) (holdComm p d))
    else
      let d1 := pdPop p (onPd p (fun x => { x with retries := inc8 x.retries }) (holdComm p d))
      if t.sop ≠ 0 then discoverEnd p d1
      else if t.kind == .sourceCapabilities && !explicit d p && (d.pd[p]).ams == .offer then
        startTimer (.ttypecsendsourcecapExpiry p) (ticksOfMs 150) (onPd p (fun x => { x with ams := .none }) d1)
      else exchangeFailed p t.kind d1
/-- 04 R139, R166; 06 R240; 01 R630: over a lost link nothing went out, and nothing is counted. -/
def execTcrcreceiveExpiry (p : Fin 32) (s : State) : Host.Outcome State Fault Refusal := act (fxTcrcreceiveExpiry p) s

/-! ### Messages the port core takes -/

/-- A message that belongs to an open sequence, or that begins none: the port takes it when it hears it (04 R143). -/
def asAnswer (p : Fin 32) (k : PdKind) (f : Dev → Dev) (d : Dev) : Dev :=
  let d1 := takeMsg p k d
  if hears d p then f d1 else d1

/-- A message that begins a sequence, for either role: inside another one it violates that (04 R176). -/
def asEither (p : Fin 32) (k : PdKind) (f : Dev → Dev) : Dev → Dev :=
  asAnswer p k fun x => if ready x p then f x else sendSoftReset p x

/-- A message for the source role, or for the sink role: the other role answers Not_Supported (04 R144, R145). -/
def asSource (p : Fin 32) (k : PdKind) (control : Bool) (f : Dev → Dev) : Dev → Dev :=
  asEither p k fun x => if pdSource x p then f x else notSupported p control x
def asSink (p : Fin 32) (k : PdKind) (control : Bool) (f : Dev → Dev) : Dev → Dev :=
  asEither p k fun x => if pdSink x p then f x else notSupported p control x

def fxSourceCapabilities (p : Fin 32) (pdos : List Word) (d : Dev) : Dev :=
  asSink p .sourceCapabilities false (fun x =>
    let ma := min 1500 (10 * bits (pdos.headD 0) 0 10)
    let rdo := pack [(28, 4, 1), (10, 10, ma / 10), (0, 10, ma / 10)]
    pdSend p 0 .request [rdo] (onPd p (fun y => { y with ams := .sinkRequest, newVolt := 5000, newCurr := ma, newRdo := rdo }) x)) d
/-- 04 R144, R182. -/
def execSourceCapabilities (p : Fin 32) (pdos : List Word) (s : State) : Host.Outcome State Fault Refusal := act (fxSourceCapabilities p pdos) s

/-- A Request and its kind are for a source; a sink answers Not_Supported (04 R144, R145). -/
def asAsked (p : Fin 32) (k : PdKind) (f : Dev → Dev) : Dev → Dev :=
  asAnswer p k fun x => if pdSource x p then f x else if ready x p then notSupported p false x else sendSoftReset p x

def fxRequest (p : Fin 32) (rdo : Word) (d : Dev) : Dev := asAsked p .request (evaluate p rdo none) d
/-- 04 R159, R160. -/
def execRequest (p : Fin 32) (rdo : Word) (s : State) : Host.Outcome State Fault Refusal := act (fxRequest p rdo) s

def fxEprRequest (p : Fin 32) (rdo pdoCopy : Word) (d : Dev) : Dev :=
  asAsked p .eprRequest (fun x =>
    if (x.ports[p]).eprMode then evaluate p rdo (some pdoCopy) x else if ready x p then notSupported p false x else sendSoftReset p x) d
/-- 04 R144, R145, R159, R160. -/
def execEprRequest (p : Fin 32) (rdo pdoCopy : Word) (s : State) : Host.Outcome State Fault Refusal := act (fxEprRequest p rdo pdoCopy) s

/-- The fixed 5 V PDO at 1500 mA: what a DRP sink offers as source, and the one PDO of Sink_Capabilities (04 R144, R182). -/
def fiveVolt1500 (d : Dev) (p : Fin 32) : Word := pdoWord d p ⟨0, 5000, 5000, 1500, false⟩
def sinkPdo (d : Dev) (p : Fin 32) : Word := pack [(29, 1, b2n (isDrp d p)), (25, 1, b2n (pflag d p 5)), (10, 10, 100), (0, 10, 150)]

def fxGetSourceCap (p : Fin 32) (d : Dev) : Dev :=
  asEither p .getSourceCap (fun x =>
    if pdSource x p then sendCapsNow p x
    else if isDrp x p then portEvent p 11 (pdSend p 0 .sourceCapabilities [fiveVolt1500 x p] x)
    else notSupported p true x) d
/-- 04 R144. -/
def execGetSourceCap (p : Fin 32) (s : State) : Host.Outcome State Fault Refusal := act (fxGetSourceCap p) s

def fxGetSinkCap (p : Fin 32) (d : Dev) : Dev :=
  asEither p .getSinkCap (fun x => if canSink x p then pdSend p 0 .sinkCapabilities [sinkPdo x p] x else notSupported p true x) d
/-- 04 R144, R182. -/
def execGetSinkCap (p : Fin 32) (s : State) : Host.Outcome State Fault Refusal := act (fxGetSinkCap p) s

/-- Under PD 2.0 no extended message goes out and no EPR offer is made: the answer of R146. -/
def notRev2 (p : Fin 32) (control : Bool) (f : Dev → Dev) (d : Dev) : Dev := if (d.ports[p]).rev = 1 then notSupported p control d else f d

/-- Source_Capabilities_Extended: the two ratings stand at bytes 23 and 24; every other byte is a free value (log entries 5 and 9). -/
def extendedWords (d : Dev) (p : Fin 32) : List Word :=
  ((List.range 5).map fun i => Config.freeWord (d.freeCtr + i))
    ++ [w32 ((Config.freeWord (d.freeCtr + 5)).toNat % 2 ^ 24 + 2 ^ 24 * (sprRating d p % 256)), w32 (eprRating d p % 256)]

def fxGetSourceCapExtended (p : Fin 32) (d : Dev) : Dev :=
  asSource p .getSourceCapExtended true (notRev2 p true fun x =>
    let y := onPd p (fun z => { z with sentSpr := sprRating x p, sentEpr := eprRating x p }) (pdSend p 0 .sourceCapabilitiesExtended (extendedWords x p) x)
    { y with freeCtr := y.freeCtr + 6 }) d
/-- 04 R144, R158. -/
def execGetSourceCapExtended (p : Fin 32) (s : State) : Host.Outcome State Fault Refusal := act (fxGetSourceCapExtended p) s

def fxEprModeEnter (p : Fin 32) (pdp : Nat) (d : Dev) : Dev :=
  asAnswer p .eprModeEnter (fun x =>
    let q := x.ports[p]
    if !pdSource x p then (if ready x p then notSupported p false x else sendSoftReset p x)
    else notRev2 p false (fun x =>
      if !(q.kind == .sprFixed || q.kind == .pps) || q.eprMode then sendSoftReset p x
      else if ready x p then pdSend p 0 .eprModeEnterAck [] (onPd p (fun y => { y with ams := .epr, sentSink := pdp % 256 }) x)
      else if q.swap then pdSend p 0 .eprModeEnterAck [] x
      else sendSoftReset p x) x) d
/-- 04 R146, R167, R176; during a swap it is acknowledged and fails, and the swap goes on. -/
def execEprModeEnter (p : Fin 32) (pdp : Nat) (s : State) : Host.Outcome State Fault Refusal := act (fxEprModeEnter p pdp) s

def fxEprModeExit (p : Fin 32) (d : Dev) : Dev :=
  asSource p .eprModeExit false (fun x =>
    let q := x.ports[p]
    if !q.eprMode then sendSoftReset p x
    else
      let y := leaveEpr p (stopTimer (.tsourceeprkeepaliveExpiry p) x)
      if q.kind == .eprFixed || q.kind == .avs then sendHardReset p y else sendCapsNow p y) d
/-- 04 R168. -/
def execEprModeExit (p : Fin 32) (s : State) : Host.Outcome State Fault Refusal := act (fxEprModeExit p) s

/-- The eleven positions of EPR_Source_Capabilities outside EPR mode (04 R149). -/
def eprWords (d : Dev) (p : Fin 32) : List Word :=
  let spr := (sprOffers d p).map (pdoWord d p)
  spr ++ List.replicate (7 - spr.length) 0 ++ (eprOffers d p).map (pdoWord d p)

def fxEprGetSourceCap (p : Fin 32) (d : Dev) : Dev :=
  asSource p .eprGetSourceCap true (notRev2 p true fun x =>
    if !pflag x p 3 then notSupported p true x
    else if (x.ports[p]).eprMode then sendCapsNow p x
    else portEvent p 11 (pdSend p 0 .eprSourceCapabilities (eprWords x p) x)) d
/-- 04 R144, R149. -/
def execEprGetSourceCap (p : Fin 32) (s : State) : Host.Outcome State Fault Refusal := act (fxEprGetSourceCap p) s

def fxEprKeepalive (p : Fin 32) (d : Dev) : Dev :=
  asSource p .eprKeepAlive false (notRev2 p false fun x => if (x.ports[p]).eprMode then pdSend p 0 .eprKeepAliveAck [] x else notSupported p false x) d
/-- 04 R144, R168. -/
def execEprKeepalive (p : Fin 32) (s : State) : Host.Outcome State Fault Refusal := act (fxEprKeepalive p) s

/-- The temperature conditions of the die of a port: WARN from TWARN, ACT from TACT (11 R433). -/
def dieWarn (d : Dev) (p : Fin 32) : Bool := (d.sources[srcOf (0x242 + (edgeOf p).val)]).cond
def dieAct (d : Dev) (p : Fin 32) : Bool := (d.sources[srcOf (0x248 + (edgeOf p).val)]).cond

/-- GUARD_TEMP of a port is uncleared. -/
def guardHot (d : Dev) (p : Fin 32) : Bool := (d.sources[portSrc p 3]).latch

/-- A cut of an offer set by the cable, and by the hand (04 R183). -/
def cutByCable (d : Dev) (p : Fin 32) : Bool :=
  let q := d.ports[p]
  (offerSet d p).pdos.any fun o => cutOffer q o != cutOffer { q with cableV := 50, cableI := 5000, cableEpr := true } o
def cutByHand (d : Dev) (p : Fin 32) : Bool :=
  let q := d.ports[p]
  (offerSet d p).pdos.any fun o => cutOffer q o != cutOffer { q with hand := 2400, pend := none } o

/-- The Status message (04 R183; log entry 9): temperature, present input, event flags, temperature status, power status. -/
def statusWords (d : Dev) (p : Fin 32) : List Word :=
  let t := Config.dieTemp d.freeCtr (Fin.ofNat 6 ((edgeOf p).val + 1)) / 8
  let temp := if t < 2 then 1 else t.toNat
  let recent := (d.pd[p]).guardTripTb.any fun g => decide (d.tmr.tb ≤ g + ticksOfS 10)
  let flags := 2 * b2n recent + 4 * b2n (guardHot d p) + 8 * b2n (d.sources[portSrc p 0]).latch + 16 * b2n (clActs d p)
  let ts := if dieAct d p then 3 else if dieWarn d p then 2 else 1
  let power := 2 * b2n (cutByCable d p) + 8 * b2n (cutByHand d p) + 32 * b2n (guardHot d p || (d.sources[srcOf (0x248 + (edgeOf p).val)]).latch)
  [pack [(0, 8, temp), (8, 8, 2), (24, 8, flags)], pack [(1, 2, ts), (8, 8, power)]]

def fxGetStatus (p : Fin 32) (d : Dev) : Dev :=
  asEither p .getStatus (notRev2 p true fun x => bumpFree (pdSend p 0 .status (statusWords x p) x)) d
/-- 04 R144, R183. -/
def execGetStatus (p : Fin 32) (s : State) : Host.Outcome State Fault Refusal := act (fxGetStatus p) s

/-- The thermal estimate of the guard lies above PGUARD / 16 (07 R301). -/
def guardWarm (d : Dev) (p : Fin 32) : Bool := thermHigh d p

/-- PPS_Status (04 R169; log entry 9): PTF is the hotter of the edge die, by its WARN and ACT levels, and the guard, by the limit of its
thermal estimate and the level up to which it does not re-arm (log entry 38). -/
def ppsWord (d : Dev) (p : Fin 32) : Word :=
  let die := if dieAct d p then 3 else if dieWarn d p then 2 else 1
  let ptf := max die (if guardHot d p then 3 else if guardWarm d p then 2 else 1)
  pack [(0, 16, (d.chans[vbusCh p]).result.toNat / 20), (16, 8, sat 0xFF ((d.chans[iportCh p]).result.toInt.toNat / 50)), (25, 2, ptf), (27, 1, b2n (clActs d p))]

def fxGetPpsStatus (p : Fin 32) (d : Dev) : Dev :=
  asSource p .getPpsStatus true (fun x =>
    if (x.ports[p]).kind == .pps then notRev2 p true (pdSend p 0 .ppsStatus [ppsWord x p]) x else notSupported p true x) d
/-- 04 R144, R169. -/
def execGetPpsStatus (p : Fin 32) (s : State) : Host.Outcome State Fault Refusal := act (fxGetPpsStatus p) s

def fxGetRevision (p : Fin 32) (d : Dev) : Dev := asEither p .getRevision (pdSend p 0 .revision [0x32100000]) d
/-- 04 R144: revision 3.2, version 1.0. -/
def execGetRevision (p : Fin 32) (s : State) : Host.Outcome State Fault Refusal := act (fxGetRevision p) s

/-- Source_Info (04 R158; log entry 9). -/
def sourceInfoWord (d : Dev) (p : Fin 32) : Word :=
  let q := d.ports[p]
  let fixed := (portCfg d p).trump != 0 && q.hand == baseOf d p
  pack [(31, 1, b2n fixed), (16, 8, reachOf d p / 10), (8, 8, cutHand q / 10), (0, 8, if q.eprMode then eprRating d p else sprRating d p)]

def fxGetSourceInfo (p : Fin 32) (d : Dev) : Dev :=
  asSource p .getSourceInfo true (fun x =>
    onPd p (fun z => { z with sentSpr := sprRating x p, sentEpr := eprRating x p }) (pdSend p 0 .sourceInfo [sourceInfoWord x p] x)) d
/-- 04 R144, R158. -/
def execGetSourceInfo (p : Fin 32) (s : State) : Host.Outcome State Fault Refusal := act (fxGetSourceInfo p) s

/-! ### Swaps -/

/-- Reject, and its event (04 R186). -/
def rejectMsg (p : Fin 32) (d : Dev) : Dev := portEvent p 12 (pdSend p 0 .reject [] d)

/-- Accept of a swap: the exchange begins (04 R171 to R173). -/
def acceptSwap (p : Fin 32) (a : Ams) (d : Dev) : Dev :=
  pdSend p 0 .accept [] (onPort p (fun q => { q with swap := true }) (onPd p (fun x => { x with ams := a }) d))

def fxPrSwap (p : Fin 32) (d : Dev) : Dev :=
  asAnswer p .prSwap (fun x =>
    let q := x.ports[p]
    if !ready x p && !q.transition then sendSoftReset p x
    else if !isDrp x p then (if ready x p then notSupported p true x else sendSoftReset p x)
    else if !pflag x p 4 || q.eprMode || q.transition then rejectMsg p x
    else if pdSource x p then acceptSwap p .prSwapSrc x
    else acceptSwap p .prSwapSnk (firstHand p x)) d
/-- 04 R171, R176: during a voltage transition it is rejected, inside another sequence it violates that. -/
def execPrSwap (p : Fin 32) (s : State) : Host.Outcome State Fault Refusal := act (fxPrSwap p) s

def fxDrSwap (p : Fin 32) (d : Dev) : Dev :=
  asEither p .drSwap (fun x => if pflag x p 5 then acceptSwap p .drSwap x else rejectMsg p x) d
/-- 04 R172. -/
def execDrSwap (p : Fin 32) (s : State) : Host.Outcome State Fault Refusal := act (fxDrSwap p) s

/-- The port may take VCONN over: PFLAGS bit 2 (04 R173), no overcurrent trip in this attach (03 R116), no dead-car readout (03 R134). -/
def mayVconn (d : Dev) (p : Fin 32) : Bool := pflag d p 2 && !(d.ports[p]).vconnOc && !d.sys.deadcar

def fxVconnSwap (p : Fin 32) (d : Dev) : Dev :=
  asEither p .vconnSwap (fun x =>
    let q := x.ports[p]
    if !pflag x p 6 || q.eprMode then rejectMsg p x
    else if q.vconnOn then acceptSwap p .vconnGive x
    else if !mayVconn x p then rejectMsg p x
    else acceptSwap p .vconnTake x) d
/-- 04 R173, 03 R116, R134. -/
def execVconnSwap (p : Fin 32) (s : State) : Host.Outcome State Fault Refusal := act (fxVconnSwap p) s

/-! ### Answers of the partner -/

def fxAccept (p : Fin 32) (d : Dev) : Dev :=
  asAnswer p .accept (fun x =>
    match (x.pd[p]).ams with
    | .sinkRequest =>
      startTimer (.tpstransitionExpiry p) (ticksOfMs 500)
        (stopTimer (.tsenderresponseExpiry p) (onPd p (fun y => { y with ams := .sinkTransition }) x))
    | .softReset =>
      let y := stopTimer (.tsenderresponseExpiry p) (onPd p (fun y => { y with ams := .none }) x)
      if pdSource x p then sendCapsNow p y else y
    | _ => sendSoftReset p x) d
/-- 04 R171, R176, R182. -/
def execAccept (p : Fin 32) (s : State) : Host.Outcome State Fault Refusal := act (fxAccept p) s

def fxReject (p : Fin 32) (d : Dev) : Dev :=
  asAnswer p .reject (fun x => if (x.pd[p]).ams == .sinkRequest then amsEnd p x else sendSoftReset p x) d
/-- 04 R144, R160, R176. -/
def execReject (p : Fin 32) (s : State) : Host.Outcome State Fault Refusal := act (fxReject p) s

/-- The sink's contract at 5 V (04 R182, R185 KIND 5): it has no offers of the device (04 R187). -/
def sinkContract (p : Fin 32) (d : Dev) : Dev :=
  let x := d.pd[p]
  let d1 := onPort p (fun q => { q with kind := .sink, position := 1, volt := x.newVolt, curr := x.newCurr, rdo := x.newRdo, fenceReg := q.fence }) d
  let d2 := onPd p (fun x => { x with
    ams := .none, hardResets := 0, pdos := Vector.replicate 11 0, sinkPdp := 0, sprRating := 0, eprRating := 0 }) (stopTimer (.tpstransitionExpiry p) d1)
  journalContract p (portEvent p 2 d2)

def fxPsRdy (p : Fin 32) (d : Dev) : Dev :=
  asAnswer p .psRdy (fun x =>
    match (x.pd[p]).ams with
    | .sinkTransition => sinkContract p x
    | .prSwapSrc =>
      if pdSink x p then
        portEvent p 6 (stopTimer (.tpssourceonExpiry p) (onPort p (fun q => { q with swap := false }) (onPd p (fun y => { y with ams := .none }) x)))
      else sendSoftReset p x
    | .prSwapSnk => if pdSink x p then swapSnkOn p (stopTimer (.tpssourceoffExpiry p) x) else sendSoftReset p x
    | .vconnGive =>
      amsEnd p (portEvent p 8 (onPort p (fun q => { q with swap := false }) (toDie p .vconnOff (vconnOff p) (stopTimer (.tvconnsourcetimeoutExpiry p) x))))
    | _ => sendSoftReset p x) d
/-- 04 R171, R173, R182. -/
def execPsRdy (p : Fin 32) (s : State) : Host.Outcome State Fault Refusal := act (fxPsRdy p) s

def fxSoftReset (p : Fin 32) (d : Dev) : Dev :=
  asAnswer p .softReset (fun x =>
    let y := stopTimers [.tcrcreceiveExpiry p, .tsenderresponseExpiry p, .tsinktxExpiry p, .tsrctransitionExpiry p, .tchunksenderrequestExpiry p,
      .ttypecsendsourcecapExpiry p] x
    let z := onPd p (fun v => { v with
      txQueue := [], rxQueue := [], chunks := none, ams := .softAnswer, rxId := none, txId := 0, softs := inc8 v.softs, inWindow := false
      newKind := .none, sinkTxNg := false, discDue := false }) y
    pdSend p 0 .accept [] (portEvent p 5 (onPort p (fun q => { q with transition := false, swap := false }) z))) d
/-- 04 R176, R164. -/
def execSoftReset (p : Fin 32) (s : State) : Host.Outcome State Fault Refusal := act (fxSoftReset p) s

/-- A service readout request answered by its command (03 R136, R137). -/
def serviceDispatch (p : Fin 32) (header : Word) (body : List Word) (d : Dev) : Dev :=
  let tag : Fin 128 := Fin.ofNat 128 (bits header 0 7)
  let arg := (body.headD 0).toNat
  match bits header 8 4 with
  | 1 => fxIdent p tag d
  | 2 => fxServiceState p tag d
  | 3 => fxJtail p tag arg d
  | 4 => fxJread p tag arg d
  | 5 => fxServiceFaults p tag arg d
  | k => fxServiceUnknownCmd p tag (Fin.ofNat 16 k) d

/-- The header of a request that R136 accepts. -/
def serviceHeader (d : Dev) (h : Word) : Bool :=
  bits h 16 16 == d.sys.vid.toNat && !bit h 15 && bits h 12 3 == 5 && !bit h 7

def fxVendorDefined (p : Fin 32) (header : Word) (body : List Word) (d : Dev) : Dev :=
  if servicePort d p && serviceHeader d header then serviceDispatch p header body d
  else asEither p .vendorDefined (notSupported p false) d
/-- 04 R147, 03 R136, R137. -/
def execVendorDefined (p : Fin 32) (header : Word) (body : List Word) (s : State) : Host.Outcome State Fault Refusal :=
  act (fxVendorDefined p header body) s

def fxAlert (p : Fin 32) (d : Dev) : Dev := asAnswer p .alert (journalContract p) d
/-- 04 R144. -/
def execAlert (p : Fin 32) (s : State) : Host.Outcome State Fault Refusal := act (fxAlert p) s

def fxPing (p : Fin 32) (d : Dev) : Dev := takeMsg p .ping d
/-- 04 R144. -/
def execPing (p : Fin 32) (s : State) : Host.Outcome State Fault Refusal := act (fxPing p) s

/-- A contract at vSafe5V (04 R143). -/
def atFive (d : Dev) (p : Fin 32) : Bool := explicit d p && (d.ports[p]).volt == 5000

def fxBistCarrierMode (p : Fin 32) (d : Dev) : Dev :=
  asAnswer p .bistCarrier (fun x =>
    if atFive x p && (x.pd[p]).ams == .none then
      startTimer (.tbistcontmodeExpiry p) (ticksOfMs 45) (onPd p (fun y => { y with ams := .bist }) x)
    else x) d
/-- 04 R143. -/
def execBistCarrierMode (p : Fin 32) (s : State) : Host.Outcome State Fault Refusal := act (fxBistCarrierMode p) s

def fxBistTestData (p : Fin 32) (d : Dev) : Dev :=
  asAnswer p .bistTestData (fun x => onlyIf (atFive x p) (onPd p fun y => { y with bistData := true }) x) d
/-- 04 R143. -/
def execBistTestData (p : Fin 32) (s : State) : Host.Outcome State Fault Refusal := act (fxBistTestData p) s

def fxChunkRequest (p : Fin 32) (n : Nat) (d : Dev) : Dev :=
  asAnswer p .chunkRequest (fun x =>
    match (x.pd[p]).chunks with
    | some t =>
      if 26 * n < dataBytes t then sendChunk p { t with chunk := n, tries := 0 } (stopTimer (.tchunksenderrequestExpiry p) x)
      else sendSoftReset p x
    | none => sendSoftReset p x) d
/-- 04 R142, R176. -/
def execChunkRequest (p : Fin 32) (n : Nat) (s : State) : Host.Outcome State Fault Refusal := act (fxChunkRequest p n) s

def fxUnsupportedMessage (p : Fin 32) (control : Bool) (d : Dev) : Dev :=
  asEither p (if control then .otherControl else .otherData) (notSupported p control) d
/-- 04 R145, R146. -/
def execUnsupportedMessage (p : Fin 32) (control : Bool) (s : State) : Host.Outcome State Fault Refusal := act (fxUnsupportedMessage p control) s

def fxHardResetReceived (p : Fin 32) (d : Dev) : Dev :=
  if pdLive d p && !d.sys.retraining[linkOf (edgeOf p)] then hardReset p (onPd p (fun x => { x with hrRx := inc8 x.hrRx }) (portEvent p 4 d)) else d
/-- 04 R174; 01 R631: signalling that the die receives while its link is lost is discarded as a message is. -/
def execHardResetReceived (p : Fin 32) (s : State) : Host.Outcome State Fault Refusal := act (fxHardResetReceived p) s

/-! ### Protocol timers -/

def fxTsenderresponseExpiry (p : Fin 32) (d : Dev) : Dev :=
  let d1 := stopTimer (.tsenderresponseExpiry p) d
  match (d.pd[p]).ams with
  | .offer => exchangeFailed p .sourceCapabilities d1
  | .softReset => exchangeFailed p .softReset d1
  | .sinkRequest => exchangeFailed p .request d1
  | _ => d1
/-- 04 R139, R166. -/
def execTsenderresponseExpiry (p : Fin 32) (s : State) : Host.Outcome State Fault Refusal := act (fxTsenderresponseExpiry p) s

def fxTtypecsendsourcecapExpiry (p : Fin 32) (d : Dev) : Dev :=
  let d1 := stopTimer (.ttypecsendsourcecapExpiry p) d
  if !pdSource d p then d1
  else if explicit d p then (if (d.pd[p]).riseDue then offerCaps p (onPd p (fun x => { x with riseDue := false }) d1) else d1)
  else if (d.ports[p]).capsSent < 50 && (d.pd[p]).ams == .none then sendCapsNow p d1
  else d1
/-- 04 R160, R166, R179. -/
def execTtypecsendsourcecapExpiry (p : Fin 32) (s : State) : Host.Outcome State Fault Refusal := act (fxTtypecsendsourcecapExpiry p) s

def fxTsinktxExpiry (p : Fin 32) (d : Dev) : Dev :=
  let d1 := stopTimer (.tsinktxExpiry p) d
  let x := d.pd[p]
  if !(pdSource d p && x.sinkTxNg) then d1
  else if !ready d p then onPd p (fun x => { x with capsDue := x.capsDue || !x.discDue, discDue := false }) d1
  else if !x.discDue then sendCapsNow p d1
  else
    let d2 := onPd p (fun x => { x with discDue := false }) d1
    if (d.ports[p]).vconnOn && !(d.ports[p]).cableDone then discover p d2 else amsEnd p d2
/-- 04 R141, R148, R166: the announced exchange begins, unless one of the partner came first; an offer then follows that one. -/
def execTsinktxExpiry (p : Fin 32) (s : State) : Host.Outcome State Fault Refusal := act (fxTsinktxExpiry p) s

def fxTsrctransitionExpiry (p : Fin 32) (d : Dev) : Dev :=
  let d1 := stopTimer (.tsrctransitionExpiry p) d
  if !pdSource d p then d1
  else match (d.pd[p]).ams with
  | .transition => moveReference p d1
  | .prSwapSrc => if vbusLow d p then swapSrcOff p d1 else offRamp p d1
  | _ => d1
/-- 04 R165, R171. -/
def execTsrctransitionExpiry (p : Fin 32) (s : State) : Host.Outcome State Fault Refusal := act (fxTsrctransitionExpiry p) s

def fxTsourceeprkeepaliveExpiry (p : Fin 32) (d : Dev) : Dev :=
  let d1 := stopTimer (.tsourceeprkeepaliveExpiry p) d
  if pdSource d p && (d.ports[p]).eprMode then sendHardReset p d1 else d1
/-- 04 R168. -/
def execTsourceeprkeepaliveExpiry (p : Fin 32) (s : State) : Host.Outcome State Fault Refusal := act (fxTsourceeprkeepaliveExpiry p) s

def fxTppstimeoutExpiry (p : Fin 32) (d : Dev) : Dev :=
  let d1 := stopTimer (.tppstimeoutExpiry p) d
  if pdSource d p && (d.ports[p]).kind == .pps then sendHardReset p d1 else d1
/-- 04 R169. -/
def execTppstimeoutExpiry (p : Fin 32) (s : State) : Host.Outcome State Fault Refusal := act (fxTppstimeoutExpiry p) s

def fxTpshardresetExpiry (p : Fin 32) (d : Dev) : Dev :=
  let d1 := stopTimer (.tpshardresetExpiry p) d
  if !pdSource d p || !(d.pd[p]).hrDischarge then d1
  else if vbusLow d p then hrAtZero p d1
  else if (d.loops[p]).switching then offRamp p d1
  else stopByHub p 0 d1
/-- 04 R174. -/
def execTpshardresetExpiry (p : Fin 32) (s : State) : Host.Outcome State Fault Refusal := act (fxTpshardresetExpiry p) s

def fxTsrcrecoverExpiry (p : Fin 32) (d : Dev) : Dev :=
  let d1 := stopTimer (.tsrcrecoverExpiry p) d
  if !pdSource d p || !(d.pd[p]).hrDischarge then d1
  else
    let d2 := onPd p (fun x => { x with hrDischarge := false }) (restartFence p 5000 (presentRp p d1))
    startPort p (onlyIf (wantsVconn d2 p) (vconnOnPin p) d2)
/-- 04 R164, R174. -/
def execTsrcrecoverExpiry (p : Fin 32) (s : State) : Host.Outcome State Fault Refusal := act (fxTsrcrecoverExpiry p) s

def fxTpssourceoffExpiry (p : Fin 32) (d : Dev) : Dev :=
  let d1 := stopTimer (.tpssourceoffExpiry p) d
  if (d.pd[p]).ams == .prSwapSnk then errorRecovery p 0 d1 else d1
/-- 04 R166, R171. -/
def execTpssourceoffExpiry (p : Fin 32) (s : State) : Host.Outcome State Fault Refusal := act (fxTpssourceoffExpiry p) s

def fxTpssourceonExpiry (p : Fin 32) (d : Dev) : Dev :=
  let d1 := stopTimer (.tpssourceonExpiry p) d
  if (d.pd[p]).ams == .prSwapSrc then errorRecovery p 0 d1 else d1
/-- 04 R166, R171. -/
def execTpssourceonExpiry (p : Fin 32) (s : State) : Host.Outcome State Fault Refusal := act (fxTpssourceonExpiry p) s

def fxTswapsourcestartExpiry (p : Fin 32) (d : Dev) : Dev :=
  let d1 := stopTimer (.tswapsourcestartExpiry p) d
  if pdSource d p && !explicit d p && (d.pd[p]).ams == .none then sendCapsNow p d1 else d1
/-- 04 R171. -/
def execTswapsourcestartExpiry (p : Fin 32) (s : State) : Host.Outcome State Fault Refusal := act (fxTswapsourcestartExpiry p) s

def fxTvconnsourcetimeoutExpiry (p : Fin 32) (d : Dev) : Dev :=
  let d1 := stopTimer (.tvconnsourcetimeoutExpiry p) d
  if (d.pd[p]).ams == .vconnGive then sendHardReset p d1 else d1
/-- 04 R173. -/
def execTvconnsourcetimeoutExpiry (p : Fin 32) (s : State) : Host.Outcome State Fault Refusal := act (fxTvconnsourcetimeoutExpiry p) s

def fxTchunksenderrequestExpiry (p : Fin 32) (d : Dev) : Dev :=
  let d1 := stopTimer (.tchunksenderrequestExpiry p) d
  match (d.pd[p]).chunks with
  | some t => exchangeFailed p t.kind (onPd p (fun x => { x with chunks := none }) d1)
  | none => d1
/-- 04 R139, R142. -/
def execTchunksenderrequestExpiry (p : Fin 32) (s : State) : Host.Outcome State Fault Refusal := act (fxTchunksenderrequestExpiry p) s

def fxTbistcontmodeExpiry (p : Fin 32) (d : Dev) : Dev :=
  let d1 := stopTimer (.tbistcontmodeExpiry p) d
  if (d.pd[p]).ams == .bist then amsEnd p d1 else d1
/-- 04 R143. -/
def execTbistcontmodeExpiry (p : Fin 32) (s : State) : Host.Outcome State Fault Refusal := act (fxTbistcontmodeExpiry p) s

def fxTpstransitionExpiry (p : Fin 32) (d : Dev) : Dev :=
  let d1 := stopTimer (.tpstransitionExpiry p) d
  if (d.pd[p]).ams == .sinkTransition then sendHardReset p d1 else d1
/-- 04 R182. -/
def execTpstransitionExpiry (p : Fin 32) (s : State) : Host.Outcome State Fault Refusal := act (fxTpstransitionExpiry p) s

/-! ### Voltage, fence and hands -/

def fxVbusInWindow (p : Fin 32) (d : Dev) : Dev :=
  let x := d.pd[p]
  if x.ams == .transition && x.newKind != .none && !timerRuns d (.tsrctransitionExpiry p) then
    fromDie (linkOf (edgeOf p)) (.vbusInWindow p) (fun y => tryPsRdy p (onPd p (fun x => { x with inWindow := true }) y)) d
  else d
/-- 04 R165; 01 R631. -/
def execVbusInWindow (p : Fin 32) (s : State) : Host.Outcome State Fault Refusal := act (fxVbusInWindow p) s

def fxVbusOvFence (p : Fin 32) (d : Dev) : Dev :=
  if (d.ports[p]).fence = 0 then d
  else if isSnkAttached (d.ports[p]).tc then raise (portSrc p 0) (sendHardReset p d)
  else
    let d1 := onGuard p (fun g => if guardOn g then { g with event := setBit g.event 5 } else g) d
    errorRecovery p 3 (raise (portSrc p 0) (stopPort p 3 (onPort p (fun q => { q with fencePend := none }) d1)))
/-- 04 R163, R164; 07 R298. -/
def execVbusOvFence (p : Fin 32) (s : State) : Host.Outcome State Fault Refusal := act (fxVbusOvFence p) s

def fxFenceLower (p : Fin 32) (d : Dev) : Dev :=
  match (d.ports[p]).fencePend with
  | some f => tryPsRdy p (onPort p (fun q => { q with fence := f, fencePend := none, fenceReg := fenceShown q f }) d)
  | none => d
/-- 04 R162. -/
def execFenceLower (p : Fin 32) (s : State) : Host.Outcome State Fault Refusal := act (fxFenceLower p) s

def fxContractBreachOvercurrent (p : Fin 32) (d : Dev) : Dev :=
  let k := (d.ports[p]).kind
  if pdSource d p && (k == .sprFixed || k == .eprFixed || k == .avs) then
    let second := (d.pd[p]).breachTb.any fun t => decide (d.tmr.tb ≤ t + ticksOfS 10)
    let d1 := raise (portSrc p 7) (onPd p (fun x => { x with breachTb := some d.tmr.tb }) d)
    if second then sendHardReset p d1 else if explicit d1 p then offerCaps p d1 else d1
  else d
/-- 04 R177. -/
def execContractBreachOvercurrent (p : Fin 32) (s : State) : Host.Outcome State Fault Refusal := act (fxContractBreachOvercurrent p) s

def fxPendingHandEffective (p : Fin 32) (d : Dev) : Dev :=
  let d1 := stopTimer (.pendingHandEffective p) d
  match (d.ports[p]).pend with
  | none => d1
  | some (v, _) =>
    let d2 := portEvent p 14 (onPort p (fun q => { q with hand := v, pend := none }) d1)
    let d3 := if explicit d p && decide (handUw v < contractUw (d.ports[p])) then sendHardReset p (raise (portSrc p 7) d2) else d2
    raiseHands d3
/-- 04 R154, R177. -/
def execPendingHandEffective (p : Fin 32) (s : State) : Host.Outcome State Fault Refusal := act (fxPendingHandEffective p) s

end Sys2Proof.Machine
end

