-- ==== Sys2Proof/Machine/Links.lean ====
section
/-! DEFINITION. The edge links, the TB replicas and the clock checks (01 R18 to R36, R630, R631, 10 R406). -/

namespace Sys2Proof.Machine

/-- EDGE_LINK_LOSSe and FEED_LINK_LOSS (11 R432). -/
def srcLinkLoss (l : Fin 5) : Fin 768 := srcOf (0x220 + l.val)

def fxEdgeLinkCrcError (l : Fin 5) (d : Dev) : Dev :=
  onlyIf d.sys.edgeUp[l] (onSys fun s => { s with crcRetries := upd s.crcRetries l inc8 }) d
/-- 01 R21, R630: nothing of the frame is applied; the request for its retransmission is counted. -/
def execEdgeLinkCrcError (l : Fin 5) (s : State) : Host.Outcome State Fault Refusal := act (fxEdgeLinkCrcError l) s

/-- A link is declared lost 50 us after its last valid frame (01 R22, R23, R630): retraining starts, the source is raised. -/
def linkLost (l : Fin 5) (d : Dev) : Dev :=
  if !d.sys.edgeUp[l] then d
  else
    raise (srcLinkLoss l) (onSys (fun s => { s with crcRetries := s.crcRetries.set l 0 }) (linkRetrain l (ticksOfMs 2 - ticksOfUs 50) d))

def fxEdgeLinkLost (l : Fin 5) (d : Dev) : Dev := linkLost l d
/-- 01 R22, R630, 11 R433. -/
def execEdgeLinkLost (l : Fin 5) (s : State) : Host.Outcome State Fault Refusal := act (fxEdgeLinkLost l) s

def fxEdgeLinkRetrained (l : Fin 5) (d : Dev) : Dev :=
  if !d.sys.retraining[l] then d
  else
    let d1 := onSys (fun s => { s with edgeUp := s.edgeUp.set l true, edgeUpSince := s.edgeUpSince.set l d.tmr.tb, retraining := s.retraining.set l false }) d
    let d2 := condEnd (srcLinkLoss l) (stopTimer (lossTimer l) d1)
    let d3 := if h : l.val < 4 then startTimer (.minimalAutoExit ⟨l.val, h⟩) (ticksOfMs 100) d2
      else d2
    post (.lossQueueDrained l) d3
/-- 01 R630, R631, 11 R433, R453. -/
def execEdgeLinkRetrained (l : Fin 5) (s : State) : Host.Outcome State Fault Refusal := act (fxEdgeLinkRetrained l) s

/-- A fence value at the edge die (04 R162): a raise stands at once, a lowering waits for VBUS. -/
def dieFence (p : Fin 32) (mv : Nat) : Dev → Dev := onPort p fun q =>
  fenceTo mv q

/-- A reference command at the edge die (05 R211). -/
def dieReference (p : Fin 32) (mv : Nat) (k : SlewKind) (d : Dev) : Dev :=
  let c := diePort d p
  match k with
  | .softStart => if mv = 5000 then softStart p c.slewSs d else startRamp p (refCode mv) c.slewSs .softStart d
  | .up => startRamp p (refCode mv) c.slewUp .transition d
  | .down => startRamp p (refCode mv) c.slewDn .transition d
  | .off => if (d.loops[p]).switching then startRamp p (refCode mv) c.slewOff .offRamp d else d
  | .single => onLoop p (fun l => { l with ref := refCode mv, refTb := d.tmr.tb, target := refCode mv, ramping := false, rampFor := .none }) d

/-- A command of the hub applied by an edge die (01 R29): a port in minimal mode keeps its die's state (01 R36). -/
def edgeApply (p : Fin 32) (k : EdgeCmd) (d : Dev) : Dev :=
  if portMinimal d p then d
  else match k with
    | .fence mv => dieFence p mv d
    | .reference mv w => dieReference p mv w d
    | .guardOpen => openGuard p 0 d
    | .vconnOn pin => onPort p (fun q => { q with vconnOn := true, vconnPin := pin }) d
    | .vconnOff => vconnOff p d
    | .currentLimit ma => onLoop p (fun l => { l with limitMa := some ma }) d

def fxEdgeControlFrame (p : Fin 32) (k : EdgeCmd) (d : Dev) : Dev :=
  if d.sys.edgeUp[linkOf (edgeOf p)] && !d.loss.unconfirmed.any (fun x => x.1 == p) then edgeApply p k d
  else { d with loss := { d.loss with unconfirmed := d.loss.unconfirmed ++ [(p, k)] } }
/-- 01 R20, R29, R630: a frame that a lost link discards stays unconfirmed, and so does one behind an unconfirmed frame of its port. -/
def execEdgeControlFrame (p : Fin 32) (k : EdgeCmd) (s : State) : Host.Outcome State Fault Refusal := act (fxEdgeControlFrame p k) s

/-- A frame of a loss queue reaches the hub (01 R631). -/
def takeFrame (i : Frame) : Dev → Dev :=
  match i with
  | .report (.faultRaise n t) => takeRaise n t
  | .report (.monitorZoneChange c z t) => takeZone c z t
  | .report (.channelSettle c z t) => takeSettle c z t
  | .report (.continuousResult c v) => fxContinuousResult c v
  | .block c sq t v => takeBlock c sq t v
  | .report (.guardClosed p) => onClosed p
  | .report (.vbusInWindow p) => fxVbusInWindow p
  | .report _ => id

/-- A frame is of class URGENT: a fault raise, and the events (01, edge links). -/
def isUrgent (i : Frame) : Bool := (resultOf i).isNone

/-- A mark reaches the hub with the first occurrence; a raise of a source counts the others too (01 R631). -/
def takeMark (m : Fin 5 × Frame × Nat) (d : Dev) : Dev :=
  match m.2.1 with
  | .report (.faultRaise n t) => onSource n (fun s => { s with count := min 255 (s.count + (m.2.2 - 1)) }) (takeRaise n t d)
  | i => takeFrame i d

/-- The enables that the hub wrote in the loss reach the feed die (07 R275, R276, 01 R630). -/
def feedResync (f : Fin 4) (d : Dev) : Dev :=
  if feedEnabled d f then feedTryEnable f d else if (d.feeds[f]).state != .off then feedOff f d else d

/-- What the hub sends again once a link is back (01 R630): the parameters, which a die in minimal mode takes at its exit, the enables of the
feeds, and the commands of each port in their order. -/
def resend (l : Fin 5) (cmds : List (Fin 32 × EdgeCmd)) (d : Dev) : Dev :=
  let min := if h : l.val < 4 then dieMinimal d ⟨l.val, h⟩ else false
  let d1 := onlyIf (!min) (onSys fun s => { s with held := s.held.set l none }) d
  forEach cmds (fun x y => edgeApply x.1 x.2 y) (onlyIf (l == elf) (forEach (indices 4) feedResync) d1)

/-- The frames a die kept are taken up, URGENT ones first, then its marks; then the hub reads the state of the die back and sends again what
the die has not applied (01 R36, R630, R631). -/
def fxLossQueueDrained (l : Fin 5) (d : Dev) : Dev :=
  if !d.sys.edgeUp[l] then d
  else
    let q := d.loss.queue[l]
    let mine (x : Fin 32 × EdgeCmd) : Bool := linkOf (edgeOf x.1) == l
    let d1 := { d with loss := { d.loss with queue := d.loss.queue.set l [], marks := d.loss.marks.filter fun m => m.1 != l, unconfirmed := d.loss.unconfirmed.filter fun x => !mine x } }
    let d2 := forEach (d.loss.marks.filter fun m => m.1 == l) takeMark (forEach (q.filter isUrgent ++ q.filter fun i => !isUrgent i) takeFrame d1)
    resend l (d.loss.unconfirmed.filter mine) d2
/-- 01 R36, R630, R631. -/
def execLossQueueDrained (l : Fin 5) (s : State) : Host.Outcome State Fault Refusal := act (fxLossQueueDrained l) s

def fxEdgeDieMinimalTimeout (e : Fin 4) (d : Dev) : Dev :=
  if d.sys.inReset || !d.sys.edgeOn[e] then d
  else
    let d0 := onSys (fun s => { s with unheld := s.unheld.set e true }) (dieEnterMinimal e (stopTimer (.edgeDieMinimalTimeout e) d))
    let d1 := onlyIf d.sys.attachHold (forEach (diePorts e) tryAttach) d0
    minimalIfAll (onlyIf (d1.sys.mode == .service || d1.sys.mode == .standby) (levelSource (srcEdgeMinimal e) true) d1)
/-- 01 R23, R34, 11 R432, R451, 15 R569, R571. -/
def execEdgeDieMinimalTimeout (e : Fin 4) (s : State) : Host.Outcome State Fault Refusal := act (fxEdgeDieMinimalTimeout e) s

def fxFeedLinkHold (d : Dev) : Dev := forEach (indices 4) (fun f => onFeed f fun x => { x with hubLost := true }) (stopTimer .feedLinkHold d)
/-- 01 R24. -/
def execFeedLinkHold (s : State) : Host.Outcome State Fault Refusal := act fxFeedLinkHold s

def fxTbSyncFrame (die : Fin 5) (d : Dev) : Dev :=
  onlyIf d.sys.edgeUp[die] (onTmr fun t => { t with replicas := t.replicas.set die t.tb }) d
/-- 10 R406. -/
def execTbSyncFrame (die : Fin 5) (s : State) : Host.Outcome State Fault Refusal := act (fxTbSyncFrame die) s

/-- The source of a clock (11 R432). -/
def srcClock : ClockId → Fin 768
  | .hub => srcOf 0x239
  | .edge e => srcOf (0x23A + e.val)
  | .feed => srcOf 0x23E
  | .eth => srcOf 0x23F
  | .aon => srcOf 0x240

/-- A clock fails its check (01 R26, 11 R432, R433): an edge die without clock tri-states its legs, opens its guards and drops its link;
a failing CK_HUB stops an ACTIVE's heartbeat (09 R390). -/
def fxClockCheckFail (k : ClockId) (d : Dev) : Dev :=
  match k with
  | .edge e => linkLost (linkOf e) (raise (srcClock k) (forEach (diePorts e) (fun p => stopPort p 5) d))
  | .hub => raise (srcClock k) (onlyIf (d.twin.role == 1) (onTwin fun t => { t with heartbeatStopped := true }) d)
  | _ => raise (srcClock k) d
/-- 01 R26 and its table of dependencies, 09 R390, 11 R433. -/
def execClockCheckFail (k : ClockId) (s : State) : Host.Outcome State Fault Refusal := act (fxClockCheckFail k) s

end Sys2Proof.Machine
end

