-- ==== Sys2Proof/Machine/Owner.lean ====
section
/-! DEFINITION. Ownership of the block (12 R491 to R496): claims, the lease, handover and release. -/

namespace Sys2Proof.Machine

/-- A master may hold ownership: MFLAGS bit 0, read once BOOT has loaded the HOST section (02 R66, 12 R492). -/
def mayClaim (d : Dev) (m : Fin 5) : Bool := d.host.hostLoaded && (masterCfg d m).mayClaim

/-- An offer that stands ends without its acceptance (12 R494). -/
def endOffer (d : Dev) : Dev :=
  if d.host.successor.isSome then sysEvent 5 (stopTimer .handoverLapse (onHost (fun h => { h with successor := none }) d)) else d

/-- An accepted command that a change of owner discards (12 R495): those past the point of no return are carried through. -/
def ownerDiscards (d : Dev) (j : Job) : Bool :=
  !(j.opcode == 0x0101 || j.opcode == 0x0102 || j.begun || (j.opcode == 0x0103 && (d.phases[Fin.ofNat 64 j.arg]).state == .census))

/-- The lease runs from now (12 R493): 75 % of it to the warning, all of it to the expiry. -/
def leaseStart (d : Dev) : Dev :=
  let k := ticksOfMs d.cfg.host.lease
  startTimer .leaseExpiry k (startTimer .leaseWarn (3 * k / 4) (onHost (fun h => { h with leaseEnd := d.tmr.tb + k }) d))

/-- The lease no longer runs. -/
def leaseStop (d : Dev) : Dev := stopTimer .leaseExpiry (stopTimer .leaseWarn d)

/-- The owner changes (12 R495, R496, R502; 14 R540, 15 R578 class 7): uncompleted commands are discarded, an update session is aborted. -/
def ownerChange (new : Option (Fin 5)) (m : Nat) (d : Dev) : Dev :=
  let d1 := abortSession m (discardJobs (ownerDiscards d) d)
  let d2 := onHost (fun h => { h with owner := new, changes := wrapInc 16 h.changes }) d1
  let d3 := match new with
    | some _ => leaseStart d2
    | none => leaseStop d2
  journalEvent 7 0x18 1 0 (sysEvent 0 d3)

/-- A claim (12 R491, R492). -/
def claimBy (m : Fin 5) (d : Dev) : Dev :=
  if !mayClaim d m || d.host.owner.isSome || d.sys.deadcar || d.sys.mode == .recovery then sysEvent 6 d
  else if d.host.window then onMaster m (fun x => { x with claiming := true }) d
  else
    sysEvent 7 (startTimer .claimWindowClose (ticksOfMs 2)
      (onMaster m (fun x => { x with claiming := true }) (onHost (fun h => { h with window := true }) d)))

def fxClaim (m : Fin 5) (d : Dev) : Dev := claimBy m d
/-- 12 R491, R492. -/
def execClaim (m : Fin 5) (s : State) : Host.Outcome State Fault Refusal := act (fxClaim m) s

/-- The claimant that wins (12 R491): the highest PRIO, then the lowest index. -/
def winner (d : Dev) : Option (Fin 5) :=
  ((indices 5).filter fun m => (d.host.masters[m]).claiming).foldl (fun (a : Option (Fin 5)) m => match a with
    | none => some m
    | some b => if (masterCfg d b).prio < (masterCfg d m).prio then some m else some b) none

def fxClaimWindowClose (d : Dev) : Dev :=
  if !d.host.window then d
  else
    let d1 := stopTimer .claimWindowClose
      (onHost (fun h => { h with window := false, masters := h.masters.map fun x => { x with claiming := false } }) d)
    match winner d with
    | some m => ownerChange (some m) m.val d1
    | none => d1
/-- 12 R491, R493, R495. -/
def execClaimWindowClose (s : State) : Host.Outcome State Fault Refusal := act fxClaimWindowClose s

/-- A renewal takes effect before the expiry tick only (12 R493). -/
def renewLease (d : Dev) : Dev := if d.tmr.tb < d.host.leaseEnd then leaseStart d else d

def fxRenew (m : Fin 5) (d : Dev) : Dev := ownerWrite m renewLease d
/-- 12 R493. -/
def execRenew (m : Fin 5) (s : State) : Host.Outcome State Fault Refusal := act (fxRenew m) s

def fxLeaseWarn (d : Dev) : Dev := if d.host.owner.isSome then sysEvent 1 (stopTimer .leaseWarn d) else d
/-- 12 R493. -/
def execLeaseWarn (s : State) : Host.Outcome State Fault Refusal := act fxLeaseWarn s

def fxLeaseExpiry (d : Dev) : Dev :=
  if d.host.owner.isSome && decide (d.host.leaseEnd ≤ d.tmr.tb) then sysEvent 2 (ownerChange none 0xFF (endOffer d)) else d
/-- 12 R493, R494, R495. -/
def execLeaseExpiry (s : State) : Host.Outcome State Fault Refusal := act fxLeaseExpiry s

/-- SYS_HANDOVER written by the owner (12 R494): an offer, a withdrawal, or a refusal. -/
def handoverWrite (m : Fin 5) (v : Word) (d : Dev) : Dev :=
  if !bit v 3 then endOffer d
  else if h : bits v 0 3 < 5 then
    let k : Fin 5 := ⟨bits v 0 3, h⟩
    if k == m || !mayClaim d k then refuse m d
    else sysEvent 3 (startTimer .handoverLapse (ticksOfMs 100) (onHost (fun x => { x with successor := some k }) (endOffer d)))
  else refuse m d

def fxOwnerHandover (m : Fin 5) (v : Word) (d : Dev) : Dev := ownerWrite m (handoverWrite m v) d
/-- 12 R494. -/
def execOwnerHandover (m : Fin 5) (v : Word) (s : State) : Host.Outcome State Fault Refusal := act (fxOwnerHandover m v) s

/-- The successor accepts (12 R494); in the tick of the expiry the expiry stands. -/
def acceptOffer (m : Fin 5) (d : Dev) : Dev :=
  if d.tmr.tb < d.host.leaseEnd then
    sysEvent 4 (ownerChange (some m) m.val (stopTimer .handoverLapse (onHost (fun h => { h with successor := none }) d)))
  else d

def fxSysAccept (m : Fin 5) (d : Dev) : Dev := boundWrite d.host.successor m (acceptOffer m) d
/-- 12 R459, R494, R495. -/
def execSysAccept (m : Fin 5) (s : State) : Host.Outcome State Fault Refusal := act (fxSysAccept m) s

def fxSysRelease (m : Fin 5) (d : Dev) : Dev := ownerWrite m (fun x => ownerChange none m.val (endOffer x)) d
/-- 12 R494, R495. -/
def execSysRelease (m : Fin 5) (s : State) : Host.Outcome State Fault Refusal := act (fxSysRelease m) s

def fxHandoverLapse (d : Dev) : Dev := endOffer d
/-- 12 R494. -/
def execHandoverLapse (s : State) : Host.Outcome State Fault Refusal := act fxHandoverLapse s

end Sys2Proof.Machine
end

