-- ==== Sys2Proof/Machine/Fetch.lean ====
section
/-! DEFINITION. The rings as masters and the device use them (12 R471 to R482): index writes, control, the fetch of command entries, held completions. -/

namespace Sys2Proof.Machine

/-! ### Command entries -/

/-- The bytes of a command entry that carry parameters, as (first byte, count), for a known opcode (12 R482). -/
def paramBytes : Nat → Option (List (Nat × Nat))
  | 0x0001 => some []
  | 0x0100 | 0x0101 | 0x0102 | 0x0103 => some [(8, 1)]
  | 0x0200 | 0x0203 | 0x0204 => some []
  | 0x0201 => some [(8, 1)]
  | 0x0202 => some [(8, 1), (16, 8)]
  | 0x0205 | 0x0206 => some [(8, 2)]
  | 0x0300 => some [(8, 6), (16, 16)]
  | 0x0400 | 0x0401 | 0x0402 => some []
  | 0x0403 | 0x0404 => some [(8, 4)]
  | 0x0500 => some [(8, 1), (10, 2)]
  | 0x0501 => some [(8, 8)]
  | 0x0502 | 0x0504 | 0x0505 => some []
  | 0x0503 | 0x0506 => some [(8, 1)]
  | 0x0600 => some [(8, 32)]
  | 0x0601 => some [(8, 4)]
  | 0x0700 => some [(8, 2), (12, 48)]
  | _ => none

/-- A byte of an entry may be non-zero: the header of 12 R477, or a parameter. -/
def entryByteUsed (used : List (Nat × Nat)) (i : Nat) : Bool :=
  decide (i < 3) || (decide (4 ≤ i) && decide (i < 8)) || used.any fun u => decide (u.1 ≤ i) && decide (i < u.1 + u.2)

/-- Every reserved byte and bit of an entry is 0 (12 R480 item 5, R477). -/
def reservedZero (used : List (Nat × Nat)) (e : List Byte) : Bool :=
  decide (byteAt e 2 < 2) && (List.range 64).all fun i => entryByteUsed used i || byteAt e i == 0

/-- A parameter with an upper bound. -/
def finParam (n v : Nat) (f : Fin n → Instr) : Option Instr := if h : v < n then some (f ⟨v, h⟩) else none

/-- The addresses of a TELEMETRY_SET (12 R482). -/
def telAddrs (e : List Byte) (n : Nat) : List Nat := (List.range n).map fun i => fieldAt e (12 + 4 * i) 4

/-- The command of an opcode and the parameters of its entry (12 R482); none for a parameter outside its range. -/
def decodeParams (c : CmdRef) (op : Nat) (e : List Byte) : Option Instr :=
  match op with
  | 0x0001 => some (.nop c)
  | 0x0100 => finParam 32 (byteAt e 8) fun p => .portEnable c p
  | 0x0101 => finParam 32 (byteAt e 8) fun p => .portDisable c p
  | 0x0102 => finParam 32 (byteAt e 8) fun p => .portHardReset c p
  | 0x0103 => finParam 64 (byteAt e 8) fun n => .restorePhase c n
  | 0x0200 => some (.imageCheck c)
  | 0x0201 => finParam 4 (byteAt e 8) fun s => .imageStore c s
  | 0x0202 => finParam 4 (byteAt e 8) fun s => .imageSwitch c s (fieldAt e 16 8)
  | 0x0203 => some (.amendApply c)
  | 0x0204 => some (.imageFloor c)
  | 0x0205 => if h : byteAt e 9 < 4 then finParam 4 (byteAt e 8) fun s => .keyEnrol c s ⟨byteAt e 9, h⟩ else none
  | 0x0206 => if h : byteAt e 9 < 4 then finParam 4 (byteAt e 8) fun s => .keyRevoke c s ⟨byteAt e 9, h⟩ else none
  | 0x0300 => some (.ledgerOrder c (fieldAt e 8 4) (byteAt e 12) (byteAt e 13) (fieldAt e 16 8) (fieldAt e 24 8))
  | 0x0400 => some (.minimalEnter c)
  | 0x0401 => some (.minimalExit c)
  | 0x0402 => some (.enterStandby c)
  | 0x0403 => some (.enterDormant c (fieldAt e 8 4))
  | 0x0404 => some (.deviceReset c (BitVec.ofNat 32 (fieldAt e 8 4)))
  | 0x0500 => finParam 2 (byteAt e 8) fun k => .updateOpen c k (fieldAt e 10 2)
  | 0x0501 => some (.parcelWrite c (fieldAt e 8 4) (fieldAt e 12 4))
  | 0x0502 => some (.updateVerify c)
  | 0x0503 => finParam 5 (byteAt e 8) fun k => .updateActivate c k
  | 0x0504 => some (.updateConfirm c)
  | 0x0505 => some (.updateAbort c)
  | 0x0506 => finParam 2 (byteAt e 8) fun k => .updateFloor c k
  | 0x0600 => some (.journalMark c (bytesAt e 8 32))
  | 0x0601 => some (.journalWindow c (fieldAt e 8 4))
  | 0x0700 => if byteAt e 9 ≤ 12 then finParam 16 (byteAt e 8) fun r => .telemetrySet c r (telAddrs e (byteAt e 9)) else none
  | _ => none

/-- The opcode of an entry (12 R477). -/
def entryOp (e : List Byte) : Nat := fieldAt e 0 2

/-- The command a command entry spells (12 R477, R482); none where a reserved byte is not 0 or a parameter is out of range. -/
def decodeEntry (c : CmdRef) (e : List Byte) : Option Instr :=
  match paramBytes (entryOp e) with
  | none => none
  | some u => if reservedZero u e then decodeParams c (entryOp e) e else none

/-- A command entry: header and parameters, padded with 0 to 64 bytes (12 R477). -/
def cmdEntry (wait : Bool) (op : Nat) (c : CmdRef) (params : List Byte) : List Byte :=
  toLe 2 op ++ toLe 1 (b2n wait) ++ toLe 1 0 ++ toLe 4 c.tag.toNat ++ bytesAt params 0 56

/-- The entry that spells a ring command (12 R477, R482); none for a command of another kind. -/
def encodeEntry (wait : Bool) (i : Instr) : Option (List Byte) :=
  match i with
  | .nop c => some (cmdEntry wait 0x0001 c [])
  | .portEnable c p => some (cmdEntry wait 0x0100 c (toLe 1 p.val))
  | .portDisable c p => some (cmdEntry wait 0x0101 c (toLe 1 p.val))
  | .portHardReset c p => some (cmdEntry wait 0x0102 c (toLe 1 p.val))
  | .restorePhase c n => some (cmdEntry wait 0x0103 c (toLe 1 n.val))
  | .imageCheck c => some (cmdEntry wait 0x0200 c [])
  | .imageStore c s => some (cmdEntry wait 0x0201 c (toLe 1 s.val))
  | .imageSwitch c s tb => some (cmdEntry wait 0x0202 c (toLe 8 s.val ++ toLe 8 tb))
  | .amendApply c => some (cmdEntry wait 0x0203 c [])
  | .imageFloor c => some (cmdEntry wait 0x0204 c [])
  | .keyEnrol c s k => some (cmdEntry wait 0x0205 c (toLe 1 s.val ++ toLe 1 k.val))
  | .keyRevoke c s k => some (cmdEntry wait 0x0206 c (toLe 1 s.val ++ toLe 1 k.val))
  | .ledgerOrder c no kind n t x =>
    some (cmdEntry wait 0x0300 c (toLe 4 no ++ toLe 1 kind ++ toLe 1 n ++ toLe 2 0 ++ toLe 8 t ++ toLe 8 x))
  | .minimalEnter c => some (cmdEntry wait 0x0400 c [])
  | .minimalExit c => some (cmdEntry wait 0x0401 c [])
  | .enterStandby c => some (cmdEntry wait 0x0402 c [])
  | .enterDormant c secs => some (cmdEntry wait 0x0403 c (toLe 4 secs))
  | .deviceReset c key => some (cmdEntry wait 0x0404 c (toLe 4 key.toNat))
  | .updateOpen c k n => some (cmdEntry wait 0x0500 c (toLe 2 k.val ++ toLe 2 n))
  | .parcelWrite c ofs crc => some (cmdEntry wait 0x0501 c (toLe 4 ofs ++ toLe 4 crc))
  | .updateVerify c => some (cmdEntry wait 0x0502 c [])
  | .updateActivate c k => some (cmdEntry wait 0x0503 c (toLe 1 k.val))
  | .updateConfirm c => some (cmdEntry wait 0x0504 c [])
  | .updateAbort c => some (cmdEntry wait 0x0505 c [])
  | .updateFloor c k => some (cmdEntry wait 0x0506 c (toLe 1 k.val))
  | .journalMark c note => some (cmdEntry wait 0x0600 c note)
  | .journalWindow c start => some (cmdEntry wait 0x0601 c (toLe 4 start))
  | .telemetrySet c r l => some (cmdEntry wait 0x0700 c (toLe 1 r.val ++ toLe 1 l.length ++ toLe 2 0 ++ l.flatMap (toLe 4)))
  | _ => none

/-- The operands of a ring command fit the fields of its entry (12 R477, R482). -/
def entryFits (i : Instr) : Bool :=
  match i with
  | .imageSwitch _ _ tb => decide (tb < 2 ^ 64)
  | .ledgerOrder _ no kind n t x => decide (no < 2 ^ 32) && decide (kind < 256) && decide (n < 256) && decide (t < 2 ^ 64) && decide (x < 2 ^ 64)
  | .enterDormant _ secs => decide (secs < 2 ^ 32)
  | .updateOpen _ _ n => decide (n < 2 ^ 16)
  | .parcelWrite _ ofs crc => decide (ofs < 2 ^ 32) && decide (crc < 2 ^ 32)
  | .journalMark _ note => decide (note.length = 32)
  | .journalWindow _ start => decide (start < 2 ^ 32)
  | .telemetrySet _ _ l => decide (l.length ≤ 12) && l.all fun a => decide (a < 2 ^ 32)
  | _ => true

/-- A fetched command carried out (12 R479). -/
def runEntry (i : Instr) (d : Dev) : Dev :=
  match i with
  | .nop c => fxNop c d
  | .portEnable c p => fxPortEnable c p d
  | .portDisable c p => fxPortDisable c p d
  | .portHardReset c p => fxPortHardReset c p d
  | .restorePhase c n => fxRestorePhase c n d
  | .imageCheck c => fxImageCheck c d
  | .imageStore c s => fxImageStore c s d
  | .imageSwitch c s tb => fxImageSwitch c s tb d
  | .amendApply c => fxAmendApply c d
  | .imageFloor c => fxImageFloor c d
  | .keyEnrol c s k => fxKeyEnrol c s k d
  | .keyRevoke c s k => fxKeyRevoke c s k d
  | .ledgerOrder c no kind n t x => fxLedgerOrder c no kind n t x d
  | .minimalEnter c => fxMinimalEnter c d
  | .minimalExit c => fxMinimalExit c d
  | .enterStandby c => fxEnterStandby c d
  | .enterDormant c secs => fxEnterDormant c secs d
  | .deviceReset c key => fxDeviceReset c key d
  | .updateOpen c k n => fxUpdateOpen c k n d
  | .parcelWrite c ofs crc => fxParcelWrite c ofs crc d
  | .updateVerify c => fxUpdateVerify c d
  | .updateActivate c k => fxUpdateActivate c k d
  | .updateConfirm c => fxUpdateConfirm c d
  | .updateAbort c => fxUpdateAbort c d
  | .updateFloor c k => fxUpdateFloor c k d
  | .journalMark c note => fxJournalMark c note d
  | .journalWindow c start => fxJournalWindow c start d
  | .telemetrySet c r l => fxTelemetrySet c r l d
  | _ => d

/-- The edge die that the MINIMAL check of an entry asks (12 R480 item 4): that of its port or phase; with one out of range only the
device's own mode counts. -/
def entryDie (d : Dev) (e : List Byte) : Option (Fin 4) :=
  if entryOp e = 0x0103 then
    (if h : byteAt e 8 < 64 then some (edgeOfPhase ⟨byteAt e 8, h⟩) else if d.sys.mode == .minimal then some 0 else none)
  else if h : byteAt e 8 < 32 then some (edgeOf ⟨byteAt e 8, h⟩)
  else if d.sys.mode == .minimal then some 0
  else none

/-- A fetched entry (12 R479, R480): an unknown opcode and a parameter out of range complete at once. -/
def runFetched (c : CmdRef) (e : List Byte) (d : Dev) : Dev :=
  match decodeEntry c e with
  | some i => runEntry i d
  | none =>
    if (paramBytes (entryOp e)).isSome then checked c (entryOp e) false (entryDie d e) id d
    else complete c (entryOp e) .badOpcode [] d

/-! ### Fetching -/

/-- SV fetches at all (12 R473; 14 R547, 15 R561 to R570). -/
def fetchOn (d : Dev) : Bool :=
  d.host.hostLoaded && d.upd.svRun && !d.sys.inReset && !d.sys.deadcar && d.sys.mode != .dormant && d.sys.mode != .recovery

/-- A port whose PORT_DISABLE has not completed (03 R126, 12 R479). -/
def portBeingDisabled (d : Dev) (p : Nat) : Bool := d.host.jobs.any fun j => j.opcode == opPortDisable && (j.port.map (·.val)) == some p

/-- The paired completion ring is full (12 R476, R479). -/
def pairFull (d : Dev) (r : Fin 16) : Bool :=
  match pairOf d r with
  | none => false
  | some q => match d.cfg.host.rings[q] with | some k => decide (k.entries ≤ ringHeld (d.host.rings[q])) | none => false

/-- STALL_WHY for the next entry of a command ring (12 R479, R501). -/
def fetchWhy (d : Dev) (r : Fin 16) (e : List Byte) : Nat :=
  if byteAt e 2 % 2 = 1 && d.host.jobs.any (fun j => j.ref.ring == r) then 1
  else if 0x0100 ≤ entryOp e && entryOp e ≤ 0x0102 && portBeingDisabled d (byteAt e 8) then 2
  else if pairFull d r then 3
  else if 32 ≤ d.host.jobs.length then 4
  else 0

/-- The port core whose ports an activation keeps unserved (14 R546). -/
def pausedCore (d : Dev) : Option (Fin 4) :=
  match d.upd.paused with
  | some (.core k _) => some k
  | _ => none

/-- A port or phase command stays unfetched in STANDBY (15 R564) and while its port core is paused (14 R546). -/
def withheld (d : Dev) (e : List Byte) : Bool :=
  entryOp e / 256 == 1 && (d.sys.mode == .standby || ((pausedCore d).isSome && entryDie d e == pausedCore d))

/-- The next entry of a command ring, where the ring is enabled and holds one. -/
def nextEntry (d : Dev) (r : Fin 16) : Option (List Byte) :=
  match d.cfg.host.rings[r] with
  | none => none
  | some c =>
    let g := d.host.rings[r]
    if c.kind = 0 && g.en && g.head != g.tail && fetchOn d then some (ringEntry d c g.head) else none

/-- The next entry of a command ring may be fetched now. -/
def fetchReady (d : Dev) (r : Fin 16) : Bool :=
  match nextEntry d r with
  | none => false
  | some e => fetchWhy d r e == 0 && !withheld d e

/-- HEAD of a command ring passes a fetched entry (12 R472, R501). -/
def passEntry (g : Ring) : Ring :=
  { g with
    head := g.head + 1
    stallWhy := 0
    passed := wrapInc 16 g.passed
    event := putBit (setBit g.event 0) 5 (g.event.getLsbD 5 || g.head + 1 == g.tail) }

def fxCommandFetch (r : Fin 16) (d : Dev) : Dev :=
  match nextEntry d r with
  | none => onRing r (fun g => { g with stallWhy := 0 }) d
  | some e =>
    if fetchReady d r then
      let c : CmdRef := ⟨r, (d.host.rings[r]).head.toNat, BitVec.ofNat 32 (fieldAt e 4 4)⟩
      let d1 := runFetched c e (onRing r passEntry d)
      if fetchReady d1 r then refetch r d1 else onRing r (fun g => { g with stallWhy := ((nextEntry d1 r).map (fetchWhy d1 r)).getD 0 }) d1
    else onRing r (fun g => { g with stallWhy := fetchWhy d r e }) d
/-- 12 R473, R477 to R482. -/
def execCommandFetch (r : Fin 16) (s : State) : Host.Outcome State Fault Refusal := act (fxCommandFetch r) s

/-! ### Index and control writes -/

/-- An index write that breaks 12 R472. -/
def badIndex (m : Fin 5) (r : Fin 16) (d : Dev) : Dev :=
  refuse m (onRing r (fun g => { g with badIndex := inc8 g.badIndex, event := setBit g.event 3 }) d)

/-- TAIL written (12 R472, R473): the doorbell of a command ring; other kinds have it read-only. -/
def tailWrite (m : Fin 5) (r : Fin 16) (v : Word) (d : Dev) : Dev :=
  match d.cfg.host.rings[r] with
  | none => d
  | some c =>
    if c.kind != 0 then refuse m d
    else
      let t : BitVec 16 := v.setWidth 16
      boundWrite (some c.master) m
        (fun x => if tailFits c (x.host.rings[r]) t then wantFetch r (onRing r (moveTail c t) x) else badIndex m r x) d

def fxRingTailWrite (m : Fin 5) (r : Fin 16) (v : Word) (d : Dev) : Dev := tailWrite m r v d
/-- 12 R472, R473, R459. -/
def execRingTailWrite (m : Fin 5) (r : Fin 16) (v : Word) (s : State) : Host.Outcome State Fault Refusal := act (fxRingTailWrite m r v) s

/-- Room in a ring that the device writes: held completions and fault messages may follow (12 R476, 11 R449). -/
def ringRoomed (kind : Nat) (r : Fin 16) (d : Dev) : Dev :=
  if kind = 1 then post (.completionRingRoom r) d else if kind = 2 then post .faultBacklogDrain d else d

/-- HEAD written (12 R472): entries are freed; a command ring has it read-only. -/
def headWrite (m : Fin 5) (r : Fin 16) (v : Word) (d : Dev) : Dev :=
  match d.cfg.host.rings[r] with
  | none => d
  | some c =>
    if c.kind = 0 then refuse m d
    else
      let h : BitVec 16 := v.setWidth 16
      boundWrite (some c.master) m
        (fun x =>
          let g := x.host.rings[r]
          if (h - g.head).toNat ≤ ringHeld g then ringRoomed c.kind r (onRing r (fun y => { y with head := h }) x) else badIndex m r x) d

def fxRingHeadWrite (m : Fin 5) (r : Fin 16) (v : Word) (d : Dev) : Dev := headWrite m r v d
/-- 12 R472, R459. -/
def execRingHeadWrite (m : Fin 5) (r : Fin 16) (v : Word) (s : State) : Host.Outcome State Fault Refusal := act (fxRingHeadWrite m r v) s

/-- RINGr_CTL written (12 R474, R475). -/
def ctlWrite (m : Fin 5) (r : Fin 16) (v : Word) (d : Dev) : Dev :=
  match d.cfg.host.rings[r] with
  | none => d
  | some c => ownerWrite m (fun x => onlyIf (bit v 0) (ringRoomed c.kind r) (onRing r (fun g => { g with en := bit v 0, coalesce := bit v 1 }) x)) d

def fxRingCtlWrite (m : Fin 5) (r : Fin 16) (v : Word) (d : Dev) : Dev := ctlWrite m r v d
/-- 12 R474, R475. -/
def execRingCtlWrite (m : Fin 5) (r : Fin 16) (v : Word) (s : State) : Host.Outcome State Fault Refusal := act (fxRingCtlWrite m r v) s

/-- RINGr_CMD.RESET (12 R475): only while the ring is disabled. -/
def resetRing (r : Fin 16) : Dev → Dev := onRing r fun g => if g.en then g else { g with head := 0, tail := 0, arm := 0 }

def fxRingReset (m : Fin 5) (r : Fin 16) (d : Dev) : Dev := if (d.cfg.host.rings[r]).isSome then ownerWrite m (resetRing r) d else d
/-- 12 R475. -/
def execRingReset (m : Fin 5) (r : Fin 16) (s : State) : Host.Outcome State Fault Refusal := act (fxRingReset m r) s

def fxCompletionRingRoom (r : Fin 16) (d : Dev) : Dev :=
  let d1 := drainHeld (d.host.rings[r]).held.length r d
  forEach ((indices 16).filter fun q => pairOf d1 q == some r && fetchReady d1 q) refetch d1
/-- 12 R475, R476. -/
def execCompletionRingRoom (r : Fin 16) (s : State) : Host.Outcome State Fault Refusal := act (fxCompletionRingRoom r) s

end Sys2Proof.Machine
end

