-- ==== Sys2Proof/Machine/RegWrite.lean ====
section
/-! DEFINITION. The write of one register word under its access code (00 R7, R8, R11; 12 R459, R460; the register tables of each chapter). -/

namespace Sys2Proof.Machine

/-- The low bits of a written word; reserved bits read 0 (00 R11). -/
def low (n : Nat) (v : Word) : Word := BitVec.ofNat 32 (bits v 0 n)

/-- A write to an offset that takes none: refused where the tables name a read-only register there, without effect at a reserved offset
(00 R8, R11, 12 R460). -/
def roWrite (m : Fin 5) (named : Bool) (d : Dev) : Dev := if named then refuse m d else d

/-- An offset is within a closed range. -/
def within (lo hi o : Nat) : Bool := decide (lo ≤ o) && decide (o ≤ hi)

/-! ### SYS, HOSTIF and the rings -/

/-- SYS (12 R497). -/
def writeSys (m : Fin 5) (o : Nat) (v : Word) (d : Dev) : Dev :=
  match o with
  | 0x18 => ownerWrite m (onHost fun h => { h with event := w1c h.event v }) d
  | 0x1C => ownerWrite m (onHost fun h => { h with irqen := low 8 v }) d
  | 0x24 => onlyIf (bit v 0) (claimBy m) d
  | 0x2C => ownerWrite m (onlyIf (bit v 0) renewLease) d
  | 0x30 => ownerWrite m (handoverWrite m v) d
  | 0x34 => boundWrite d.host.successor m (onlyIf (bit v 0) (acceptOffer m)) d
  | 0x38 => ownerWrite m (onlyIf (bit v 0) fun x => ownerChange none m.val (endOffer x)) d
  | _ => roWrite m (within 0 0x14 o || o == 0x20 || o == 0x28 || within 0x3C 0x50 o) d

/-- DUMMY of an SPI interface (12 R466, R499): 8 to 32, other values taken as the nearest. -/
def dummyOf (v : Word) : Nat := max 8 (min 32 (bits v 0 6))

/-- HOSTIF_UART_CFG (12 R469): BAUD; what a value outside 1152 to 30,000 gives is open (log entry 5). -/
def baudWrite (v : Word) (d : Dev) : Dev :=
  let b := bits v 0 16
  if 1152 ≤ b && b ≤ 30000 then onHost (fun h => { h with baud := b }) d
  else bumpFree (onHost (fun h => { h with baud := bits (freeValue d) 0 16 }) d)

/-- A ring's registers (12 R459, R500); those of an undefined ring are reserved. -/
def writeRing (m : Fin 5) (r : Fin 16) (o : Nat) (v : Word) (d : Dev) : Dev :=
  match d.cfg.host.rings[r] with
  | none => d
  | some c =>
    match o with
    | 0x04 => ctlWrite m r v d
    | 0x08 => headWrite m r v d
    | 0x0C => tailWrite m r v d
    | 0x10 => if c.kind = 0 then boundWrite (some c.master) m (onRing r fun g => { g with arm := v.setWidth 16 }) d else d
    | 0x18 => boundWrite (some c.master) m (onRing r fun g => { g with event := w1c g.event v }) d
    | 0x1C => boundWrite (some c.master) m (onRing r fun g => { g with irqen := low 6 v }) d
    | 0x24 => ownerWrite m (onlyIf (bit v 0) (resetRing r)) d
    | _ => roWrite m (o == 0 || o == 0x14 || o == 0x20) d

/-- HOSTIF (12 R459, R499). -/
def writeHostif (m : Fin 5) (o : Nat) (v : Word) (d : Dev) : Dev :=
  if within 0x100 0x4FF o then writeRing m (Fin.ofNat 16 ((o - 0x100) / 0x40)) ((o - 0x100) % 0x40) v d
  else match o with
  | 0x08 => boundWrite (some 0) m (onHost fun h => { h with irqA := low 15 v }) d
  | 0x0C => boundWrite (some 1) m (onHost fun h => { h with irqB := low 15 v }) d
  | 0x10 => boundWrite (some 0) m (onHost fun h => { h with spiDummy := h.spiDummy.set 0 (dummyOf v) }) d
  | 0x18 => boundWrite (some 1) m (onHost fun h => { h with spiDummy := h.spiDummy.set 1 (dummyOf v) }) d
  | 0x20 => boundWrite (some 4) m (baudWrite v) d
  | _ => roWrite m (o == 0 || o == 4 || o == 0x14 || o == 0x1C || o == 0x24 || within 0x30 0x5C o) d

/-- A word of ring memory (12 R459, R471): bound to its ring's master, reserved outside every ring. -/
def writeRingMem (m : Fin 5) (o : Nat) (v : Word) (d : Dev) : Dev :=
  match (ringAt d o).bind fun r => d.cfg.host.rings[r] with
  | some c => boundWrite (some c.master) m (fun x => { x with ringMem := Memory.writeWord x.ringMem o v }) d
  | none => d

/-! ### FAULT -/

/-- A 1 written to a bit of a block's FAULT register (11 R440): the latch is cleared, and the bit with it. -/
def faultBitClear (m : Fin 5) (n : Fin 768) (d : Dev) : Dev :=
  let d1 := clearBy m n d
  if (d1.sources[n]).latch then d1 else faultBit n false d1

/-- The bits of a FAULT register whose first source and width are given (11 R440, R455). -/
def faultW1c (m : Fin 5) (first width : Nat) (v : Word) (d : Dev) : Dev :=
  forEach ((List.range width).filter fun k => bit v k) (fun k => faultBitClear m (srcOf (first + k))) d

/-- FAULT_CTL (11 R444, R455). -/
def faultCtl (v : Word) : Dev → Dev := onColl fun c => { c with errlvl := bits v 0 2, errTest := bit v 2, escN := bits v 8 4 }

/-- FAULT (11 R455). -/
def writeFault (m : Fin 5) (o : Nat) (v : Word) (d : Dev) : Dev :=
  if within 0x40 0x58 o then ownerWrite m (faultW1c m (0x220 + 8 * (o - 0x40)) 32 v) d
  else match o with
  | 0x04 => ownerWrite m (onColl fun c => { c with event := w1c c.event v }) d
  | 0x08 => ownerWrite m (onColl fun c => { c with irqen := low 9 v }) d
  | 0x0C => ownerWrite m (faultCtl v) d
  | 0x10 => ownerWrite m (clearById m v) d
  | 0x14 => ownerWrite m (forceById m v) d
  | _ => roWrite m (o == 0 || within 0x18 0x30 o || within 0x100 0x2FC o || within 0x1000 0x1BFC o) d

/-! ### TIMER -/

/-- ITM_SUMMARY (10 R426, R427): a bit written 1 also clears ZERO of its timer. -/
def summaryClear (v : Word) (d : Dev) : Dev :=
  onTmr (fun t => { t with summary := w1c t.summary v }) { d with itms := updAll d.itms fun t x => { x with zero := x.zero && !bit v t.val } }

/-- ITMn_CTL (10 R415, R427): CLAMP, ONE_SHOT, HOLD; HELD becomes STOPPED with the hold flag clear. -/
def itmCtl (t : Fin 16) (v : Word) : Dev → Dev :=
  onItm t fun x => { x with
    clamp := bit v 0, oneShot := bit v 1, hold := bit v 2, state := if x.state == .held && !bit v 2 then .stopped else x.state }

/-- ITMn_CMD (10 R416, R417, R429): START and STOP in one write act as STOP. -/
def itmCmd (t : Fin 16) (v : Word) (d : Dev) : Dev := if bit v 1 then stopItm t d else if bit v 0 then startItm t d else d

/-- An alarm's registers (10 R428). -/
def writeAlarm (m : Fin 5) (a : Fin 32) (o : Nat) (v : Word) (d : Dev) : Dev :=
  match o with
  | 0x00 => ownerWrite m (onAlarm a fun x => { x with staged := v.toNat }) d
  | 0x04 => ownerWrite m (cmpHi a v) d
  | 0x08 => ownerWrite m (onAlarm a fun x => { x with late := bit v 0, shift := bit v 1 }) d
  | 0x10 => ownerWrite m (onlyIf (bit v 0) (cancelAlarm a)) d
  | _ => roWrite m (o == 0x0C || o == 0x14 || o == 0x18 || o == 0x1C) d

/-- An interval timer's registers (10 R429); ITMn_CTL is written while the timer does not run (00 R7 RWD, 10 R417). -/
def writeItm (m : Fin 5) (t : Fin 16) (o : Nat) (v : Word) (d : Dev) : Dev :=
  match o with
  | 0x00 => disabledWrite m ((d.itms[t]).state != .running) (itmCtl t v) d
  | 0x04 => ownerWrite m (reloadItm t v) d
  | 0x10 => ownerWrite m (itmCmd t v) d
  | 0x20 => ownerWrite m (onlyIf (bit v 0) (popCapture t)) d
  | _ => roWrite m (o == 0x08 || o == 0x0C || within 0x14 0x1C o || within 0x24 0x2C o) d

/-- TIMER (10 R426). -/
def writeTimer (m : Fin 5) (o : Nat) (v : Word) (d : Dev) : Dev :=
  if within 0x100 0x4FC o then writeAlarm m (Fin.ofNat 32 ((o - 0x100) / 0x20)) ((o - 0x100) % 0x20) v d
  else if within 0x800 0xBFC o then writeItm m (Fin.ofNat 16 ((o - 0x800) / 0x40)) ((o - 0x800) % 0x40) v d
  else match o with
  | 0x0C => ownerWrite m (onTmr fun t => { t with event := w1c t.event v }) d
  | 0x10 => ownerWrite m (onTmr fun t => { t with irqen := low 3 v }) d
  | 0x14 => ownerWrite m (goWrite v) d
  | 0x1C => ownerWrite m (onTmr fun t => { t with goAt := t.goAt / 2 ^ 32 * 2 ^ 32 + v.toNat }) d
  | 0x20 => ownerWrite m (onTmr fun t => { t with goAt := t.goAt % 2 ^ 32 + v.toNat * 2 ^ 32 }) d
  | 0x2C => ownerWrite m (onTmr fun t => { t with fired := w1c t.fired v }) d
  | 0x30 => ownerWrite m (onTmr fun t => { t with missed := w1c t.missed v }) d
  | 0x34 => ownerWrite m (onTmr fun t => { t with almIrqen := v }) d
  | 0x38 => ownerWrite m (summaryClear v) d
  | _ => roWrite m (within 0 0x08 o || o == 0x18 || o == 0x24 || o == 0x28) d

/-! ### PORT, PHASE and GUARD -/

/-- PORTn_LIMIT (04 R181, R184): the cap on the reach; a division of the hands follows. -/
def limitWrite (p : Fin 32) (v : Word) (d : Dev) : Dev := divideFor p (onPd p (fun x => { x with limit := bits v 0 16 }) d)

def fxPortLimitWrite (m : Fin 5) (p : Fin 32) (v : Word) (d : Dev) : Dev := ownerWrite m (limitWrite p v) d
/-- 04 R181. -/
def execPortLimitWrite (m : Fin 5) (p : Fin 32) (v : Word) (s : State) : Host.Outcome State Fault Refusal := act (fxPortLimitWrite m p v) s

/-- PORT (04 R184). -/
def writePort (m : Fin 5) (p : Fin 32) (o : Nat) (v : Word) (d : Dev) : Dev :=
  match o with
  | 0x28 => ownerWrite m (limitWrite p v) d
  | 0x30 => ownerWrite m (onPd p fun x => { x with event := w1c x.event v }) d
  | 0x34 => ownerWrite m (onPd p fun x => { x with irqen := low 20 v }) d
  | 0x38 => ownerWrite m (faultW1c m (8 * p.val) 8 v) d
  | _ => roWrite m (within 0 0x24 o || o == 0x2C || within 0x3C 0x74 o) d

/-- PHASEn_CMD.RETIRE (05 R223, 15 R578 class 7): the phase is retired without a fault; an unmapped phase is not a phase of a port. A census
of it that ran has ended, and the next one due on its edge die starts (05 R195). -/
def retireByOwner (m : Fin 5) (n : Fin 64) (d : Dev) : Dev :=
  if (d.cfg.phases[n]).isNone || (d.phases[n]).state == .retired then d
  else censusNext (edgeOfPhase n) (retire n 5 (journalWrite 7 (0x10008 + 0x400 * n.val) 1 m n.val d))

def fxPhaseRetireCmd (m : Fin 5) (ph : Fin 64) (d : Dev) : Dev := ownerWrite m (retireByOwner m ph) d
/-- 05 R223. -/
def execPhaseRetireCmd (m : Fin 5) (ph : Fin 64) (s : State) : Host.Outcome State Fault Refusal := act (fxPhaseRetireCmd m ph) s

/-- PHASE (05 R228). -/
def writePhase (m : Fin 5) (n : Fin 64) (o : Nat) (v : Word) (d : Dev) : Dev :=
  match o with
  | 0x08 => ownerWrite m (onlyIf (bit v 0) (retireByOwner m n)) d
  | 0x18 => ownerWrite m (onPhase n fun f => { f with event := w1c f.event (shownEvent d (linkOf (edgeOfPhase n)) v f.evSeen), evSeen := w1c f.evSeen v }) d
  | 0x1C => ownerWrite m (onPhase n fun f => { f with irqen := low 11 v }) d
  | 0x20 => ownerWrite m (faultW1c m (0x100 + 4 * n.val) 4 v) d
  | _ => roWrite m (within 0 0x14 o || within 0x24 0x44 o) d

/-- GUARD (07 R307). -/
def writeGuard (m : Fin 5) (p : Fin 32) (o : Nat) (v : Word) (d : Dev) : Dev :=
  match o with
  | 0x04 => ownerWrite m (onGuard p fun g => { g with event := w1c g.event (shownEvent d (linkOf (edgeOf p)) v g.evSeen), evSeen := w1c g.evSeen v }) d
  | 0x08 => ownerWrite m (onGuard p fun g => { g with irqen := low 9 v }) d
  | _ => roWrite m (o == 0 || within 0x0C 0x1C o) d

/-! ### MONITOR, CONVERTERS and FEED -/

/-- MONc_CMD (06 R244, R255, R267): SETTLE finds the input on a side of each band that the spec leaves to the input (log entry 5). -/
def monCmd (m : Fin 5) (c : Fin 204) (v : Word) (d : Dev) : Dev :=
  let d1 := if bit v 0 then settleForce m c (bit (freeValue d) 0) (bit (freeValue d) 1) (bumpFree d) else d
  onlyIf (bit v 1) (onGroup (groupOf c) fun g => { g with next := some c }) d1

/-- A channel (06 R266). -/
def writeMon (m : Fin 5) (c : Fin 204) (o : Nat) (v : Word) (d : Dev) : Dev :=
  match o with
  | 0x10 => ownerWrite m (onChan c fun x => { x with event := w1c x.event (shownEvent d (dieOf c) v x.evSeen), evSeen := w1c x.evSeen v }) d
  | 0x14 => ownerWrite m (onChan c fun x => { x with irqen := low 8 v }) d
  | 0x18 => ownerWrite m (monCmd m c v) d
  | _ => roWrite m (within 0 0x0C o || within 0x1C 0x2C o) d

/-- The global monitor registers (06 R268). -/
def writeMonGlobal (m : Fin 5) (o : Nat) (v : Word) (d : Dev) : Dev :=
  if o = 0 then ownerWrite m (calCtl v) d
  else roWrite m (within 0x04 0x18 o || within 0x20 0x28 o || within 0x30 0x34 o) d

/-- CVx_CTL (06 R264, R269): cleared SEQ_EN bits disable their sequences, set ones enable them. -/
def convCtl (c : Fin 5) (v : Word) (d : Dev) : Dev :=
  let off := (indices 16).filter fun s => s.val != 0 && (d.convs[c]).seqEn.getLsbD s.val && !bit v s.val
  let d1 := forEach off (seqStop c) d
  onConv c (fun x => { x with contEn := bit v 0, seqEn := BitVec.ofNat 16 (2 * bits v 1 15) }) d1

/-- A converter (06 R269, R270). -/
def writeConv (m : Fin 5) (c : Fin 5) (o : Nat) (v : Word) (d : Dev) : Dev :=
  match o with
  | 0x00 => ownerWrite m (convCtl c v) d
  | 0x08 => ownerWrite m (onConv c fun x => { x with event := w1c x.event v }) d
  | 0x0C => ownerWrite m (onConv c fun x => { x with irqen := clrBit (low 19 v) 0 }) d
  | 0x10 => ownerWrite m (trigMany c v) d
  | _ => roWrite m (o == 4 || o == 0x14 || o == 0x18 || within 0x20 0x58 o || (within 0x100 0x4BC o && decide ((o - 0x100) % 0x40 < 0x30))) d

/-- FEEDn_CTL.EN (07 R275, R276); over a lost link it does not reach the feed die (01 R24, R630). -/
def feedCtl (f : Fin 4) (v : Word) (d : Dev) : Dev :=
  let d1 := onFeed f (fun x => { x with en := bit v 0 }) d
  if elfLost d then d1
  else if bit v 0 then feedTryEnable f d1 else if feedEnabled d f then feedOff f d1 else d1

/-- FEED (07 R304). -/
def writeFeed (m : Fin 5) (f : Fin 4) (o : Nat) (v : Word) (d : Dev) : Dev :=
  match o with
  | 0x00 => ownerWrite m (feedCtl f v) d
  | 0x08 => ownerWrite m (onFeed f fun x => { x with event := w1c x.event (shownEvent d elf v x.evSeen), evSeen := w1c x.evSeen v }) d
  | 0x0C => ownerWrite m (onFeed f fun x => { x with irqen := low 10 v }) d
  | 0x10 => ownerWrite m (faultW1c m (0x200 + 8 * f.val) 8 v) d
  | _ => roWrite m (o == 4 || within 0x14 0x3C o) d

/-! ### LEDGER, POST, TWIN and NETWORK -/

/-- LEDGER (08 R363). -/
def writeLedger (m : Fin 5) (o : Nat) (v : Word) (d : Dev) : Dev :=
  match o with
  | 0x04 => ownerWrite m (onLedger fun l => { l with event := w1c l.event v }) d
  | 0x08 => ownerWrite m (onLedger fun l => { l with irqen := low 16 v }) d
  | 0x6C => ownerWrite m (onlyIf (bit v 0) sendCard) d
  | _ => roWrite m (o == 0 || within 0x0C 0x68 o || within 0x100 0x1BC o || o == 0x200 || within 0x210 0x60C o) d

/-- POST (08 R365). -/
def writePost (m : Fin 5) (l : Fin 3) (o : Nat) (v : Word) (d : Dev) : Dev :=
  match o with
  | 0x04 => ownerWrite m (onPost l fun p => { p with event := w1c p.event v }) d
  | 0x08 => ownerWrite m (onPost l fun p => { p with irqen := low 5 v }) d
  | 0x0C => ownerWrite m (postEnable l v) d
  | _ => roWrite m (o == 0 || within 0x10 0x3C o) d

/-- TWIN (09 R401); with TWIN_EN 0 nothing is there to be written. -/
def writeTwin (m : Fin 5) (o : Nat) (v : Word) (d : Dev) : Dev :=
  if !d.cfg.twin.en then d
  else match o with
  | 0x04 => ownerWrite m (onTwin fun t => { t with event := w1c t.event v }) d
  | 0x08 => ownerWrite m (onTwin fun t => { t with irqen := low 11 v }) d
  | 0x0C => ownerWrite m (twinCtl v) d
  | 0x10 => ownerWrite m (fun x => onlyIf (bit v 2) cmdCold (onlyIf (bit v 1) cmdTakeover (onlyIf (bit v 0) cmdHandover x))) d
  | _ => roWrite m (o == 0 || within 0x14 0x50 o) d

/-- NETWORK (13 R526); without a NETWORK section nothing is there to be written. -/
def writeNet (m : Fin 5) (o : Nat) (v : Word) (d : Dev) : Dev :=
  if d.cfg.net.isNone then d
  else match o with
  | 0x04 => ownerWrite m (onNet fun n => { n with event := w1c n.event v }) d
  | 0x08 => ownerWrite m (onNet fun n => { n with irqen := low 7 v }) d
  | 0x0C => ownerWrite m (netCtl v) d
  | 0x10 => ownerWrite m (mdioWrite v) d
  | 0x38 => ownerWrite m (onlyIf (bit v 0) ptpPop) d
  | _ => roWrite m (o == 0 || within 0x14 0x34 o || o == 0x3C || within 0x100 0x17C o) d

/-! ### UPDATE and CONFIG -/

/-- A master may write the recovery registers (14 R554): the bound one, before the binding MA or MS. -/
def recMay (d : Dev) (m : Fin 5) : Bool := d.upd.recBound == some m || (d.upd.recBound.isNone && (m.val == 0 || m.val == 4))

/-- A recovery register written (14 R554, R556; 00 R7, R8): outside RECOVERY an owner's write has no effect, and any other is refused. -/
def recReg (m : Fin 5) (f : Dev → Dev) (d : Dev) : Dev :=
  if !inRecovery d then ownerWrite m id d else if recMay d m then f d else refuse m d

/-- UPD_REC_CTL (14 R554): CMD is stored, and with GO it is carried out; a write that is refused changes nothing (00 R8). -/
def recCtlWrite (m : Fin 5) (v : Word) (d : Dev) : Dev :=
  let open1 := d.upd.recBound.isSome || !bit v 3 || bits v 0 3 == 1
  let d1 := onlyIf (inRecovery d && recMay d m && open1) (onUpd fun u => { u with recCtl := bits v 0 3 }) d
  if !bit v 3 || !inRecovery d then recReg m id d1
  else match bits v 0 3 with
    | 1 => fxRecOpen m d1
    | 2 => fxRecParcel m d1
    | 3 => fxRecVerify m d1
    | 4 => fxRecInstall m d1
    | 5 => fxRecClose m d1
    | _ => recReg m id d1

/-- A word of UPD_PARCEL (14 R538, R554): locked while a parcel is programmed. -/
def parcelWord (m : Fin 5) (o : Nat) (v : Word) (d : Dev) : Dev :=
  if d.upd.parcelLock then refuse m d
  else
    let f (x : Dev) : Dev := { x with parcel := Memory.writeWord x.parcel o v }
    if inRecovery d then recReg m f d else ownerWrite m f d

/-- UPDATE (14 R555). -/
def writeUpd (m : Fin 5) (o : Nat) (v : Word) (d : Dev) : Dev :=
  if within 0x1000 0x1FFC o then parcelWord m (o - 0x1000) v d
  else match o with
  | 0x04 => ownerWrite m (onUpd fun u => { u with event := w1c u.event v }) d
  | 0x08 => ownerWrite m (onUpd fun u => { u with irqen := low 8 v }) d
  | 0x60 => recCtlWrite m v d
  | 0x64 => recReg m (onUpd fun u => { u with recArg := v }) d
  | 0x68 => recReg m (onUpd fun u => { u with recCrc := v }) d
  | _ => roWrite m (o == 0 || within 0x0C 0x5C o || within 0x6C 0x78 o) d

/-- CONFIG (02 R83, R93): the staging window and its length, refused under STAGE_LOCK. -/
def writeConfig (m : Fin 5) (o : Nat) (v : Word) (d : Dev) : Dev :=
  if within 0x10000 0x4FFFC o then
    if stageLocked d then refuse m d
    else ownerWrite m (onStore fun s => { s with stage := Memory.writeWord s.stage (o - 0x10000) v }) d
  else if o = 0x1C then
    if stageLocked d then refuse m d else ownerWrite m (onStore fun s => { s with stageLen := bits v 0 19 }) d
  else roWrite m (within 0 0x74 o || within 0x1000 0x1FFC o) d

/-! ### One word -/

/-- One word written by a master (12 R460, R461, R467): to its block, or outside every block window. -/
def regWrite (m : Fin 5) (a : Nat) (v : Word) (d : Dev) : Dev :=
  match locIn d a with
  | .sys o => writeSys m o v d
  | .hostif o => writeHostif m o v d
  | .fault o => writeFault m o v d
  | .timer o => writeTimer m o v d
  | .port p o => writePort m p o v d
  | .phase n o => writePhase m n o v d
  | .mon c o => writeMon m c o v d
  | .monGlobal o => writeMonGlobal m o v d
  | .conv c o => writeConv m c o v d
  | .feed f o => writeFeed m f o v d
  | .bus o => roWrite m (o == 0) d
  | .guard p o => writeGuard m p o v d
  | .ledger o => writeLedger m o v d
  | .post l o => writePost m l o v d
  | .twin o => writeTwin m o v d
  | .ring o => writeRingMem m o v d
  | .net o => writeNet m o v d
  | .upd o => writeUpd m o v d
  | .config o => writeConfig m o v d
  | .journal _ => refuse m d
  | .reserved => d
  | .unmapped => onMaster m (fun x => { x with status := x.status ||| 4 }) d

end Sys2Proof.Machine
end

