-- ==== Sys2Proof/Machine/Transport.lean ====
section
/-! DEFINITION. The transports of the five masters (12 R458 to R470, 13 R523 to R525, 09 R384, R385): transactions of words, their status byte and their reply. -/

namespace Sys2Proof.Machine

/-! ### Transactions -/

/-- Registers are reached at all: not while the hub is in reset or the device is DORMANT (12 R489, 15 R566). -/
def served (d : Dev) : Bool := !d.sys.inReset && d.sys.mode != .dormant

/-- One bit of the status byte (12 R461). -/
def statusBit (m : Fin 5) (i : Nat) : Dev → Dev := onMaster m fun x => { x with status := x.status ||| BitVec.ofNat 8 (2 ^ i) }

/-- A transaction begins (12 R461): CRC_OK as given, OWNER as the master stands now. -/
def beginTx (m : Fin 5) (crcOk : Bool) (d : Dev) : Dev :=
  onMaster m (fun x => { x with reply := [], status := BitVec.ofNat 8 (b2n crcOk + 16 * b2n (isOwner d m)) }) d

/-- A transaction ends (12 R461): IRQ is the pin of SPI-A and SPI-B, RESET stands until a STATUS request. -/
def endTx (m : Fin 5) (d : Dev) : Dev :=
  let irq : Bool := if m.val = 0 then irqPin d 0 == some true else if m.val = 1 then irqPin d 1 == some true else false
  onlyIf (d.host.masters[m]).sawReset (statusBit m 6) (onlyIf irq (statusBit m 5) d)

/-- The address is a multiple of 4 and the count at most 256 (12 R461 ALIGN). -/
def alignedTx (a count : Nat) : Bool := a % 4 == 0 && decide (count ≤ 256)

/-- Words applied in address order (12 R465, R467). -/
def writeWords (m : Fin 5) : Nat → List Word → Dev → Dev
  | _, [], d => d
  | a, w :: r, d => writeWords m ((a + 4) % 2 ^ 32) r (regWrite m a w d)

/-- The addresses of successive words (12 R467). -/
def wordAddrs : Nat → Nat → List Nat
  | _, 0 => []
  | a, k + 1 => a :: wordAddrs ((a + 4) % 2 ^ 32) k

/-- An address lies in the JOURNAL window as the device maps it. -/
def inJournal (d : Dev) (a : Nat) : Bool := match locIn d a with | .journal _ => true | _ => false

/-- Words read in address order into the reply (12 R461, R466, R467): an unmapped word reads 0 with UNMAPPED, a JOURNAL word that the
store cannot give reads 0 with NOT_READY. -/
def readWords (m : Fin 5) (a count : Nat) (d : Dev) : Dev :=
  let l := wordAddrs a count
  let x := readMany m (bufOf m) l d
  let d1 := onMaster m (fun y => { y with reply := x.1.map (·.getD 0) }) x.2
  let d2 := onlyIf (x.1.any Option.isNone) (statusBit m 2) d1
  onlyIf (!d.sys.storeOk && l.any (inJournal d)) (statusBit m 7) d2

/-- A transaction of a master whose CRC passed (12 R461). -/
def transact (m : Fin 5) (a count : Nat) (body : Dev → Dev) (d : Dev) : Dev :=
  let d1 := beginTx m true d
  endTx m (if alignedTx a count then body d1 else statusBit m 3 d1)

/-- A transaction whose CRC failed (12 R461, R465, R466): nothing is read or written; `words` data words are driven as 0. -/
def failTx (m : Fin 5) (words : Nat) (d : Dev) : Dev :=
  endTx m (onMaster m (fun x => { x with reply := List.replicate words 0, crcErr := inc8 x.crcErr }) (beginTx m false d))

/-- A STATUS request (12 R461, R468): RESET clears after the response. -/
def statusTx (m : Fin 5) (d : Dev) : Dev := onMaster m (fun x => { x with sawReset := false }) (endTx m (beginTx m true d))

def fxRegisterWrite (m : Fin 5) (addr : Nat) (v : Word) (d : Dev) : Dev :=
  if served d then transact m addr 1 (regWrite m addr v) d else d
/-- 00 R7, R8, 12 R459 to R461. -/
def execRegisterWrite (m : Fin 5) (addr : Nat) (v : Word) (s : State) : Host.Outcome State Fault Refusal := act (fxRegisterWrite m addr v) s

/-! ### SPI-A and SPI-B -/

/-- The master of an SPI interface (12 R458). -/
def spiMaster (b : Fin 2) : Fin 5 := ⟨b.val, by omega⟩

/-- A counter of an SPI interface (12 R499). -/
def spiCounted (b : Fin 2) : Dev → Dev := onHost fun h => { h with spiCount := upd h.spiCount b (wrapInc 16) }
def spiCrcFail (b : Fin 2) : Dev → Dev := onHost fun h => { h with spiCrc := upd h.spiCrc b inc8 }
def spiAborted (b : Fin 2) : Dev → Dev := onHost fun h => { h with spiAbort := upd h.spiAbort b inc8 }

/-- Command, address and count as sent (12 R463, R464). -/
def spiHeader (cmd a count : Nat) : List Byte := toLe 1 cmd ++ toLe 4 a ++ toLe 1 (count - 1)

/-- An SPI WRITE (12 R463 to R465); no CRC when CS# rose before the CRC field ended. -/
def spiWriteNow (b : Fin 2) (a : Nat) (words : List Word) (crc : Option Nat) (d : Dev) : Dev :=
  match crc with
  | none => spiAborted b d
  | some k =>
    let m := spiMaster b
    if crc16 (spiHeader 0xA2 a words.length ++ words.flatMap fun w => toLe 4 w.toNat) != k then spiCrcFail b (failTx m 0 d)
    else onlyIf (!alignedTx a words.length) (spiAborted b) (transact m a words.length (writeWords m a words) d)

def fxSpiWrite (b : Fin 2) (addr : Nat) (words : List Word) (crc : Option Nat) (d : Dev) : Dev :=
  if served d then spiWriteNow b addr words crc (spiCounted b d) else d
/-- 12 R462 to R465, R467. -/
def execSpiWrite (b : Fin 2) (addr : Nat) (words : List Word) (crc : Option Nat) (s : State) : Host.Outcome State Fault Refusal :=
  act (fxSpiWrite b addr words crc) s

/-- The first word of a read in the JOURNAL window with a DUMMY below 20 may not be ready (12 R466, 15 R583): whether it is follows from
the SPI clock, which the model leaves open (log entry 5). It then reads 0 with NOT_READY. -/
def journalWait (b : Fin 2) (a : Nat) (d : Dev) : Dev :=
  let m := spiMaster b
  if inJournal d a && decide ((d.host.spiDummy)[b] < 20) then
    let late := bit (freeValue d) 0
    onlyIf late (fun x => statusBit m 7 (onMaster m (fun y => { y with reply := y.reply.set 0 0 }) x)) (bumpFree d)
  else d

/-- An SPI READ (12 R463, R464, R466); no CRC when CS# rose before the header CRC ended. `read` words are read before CS# rises. -/
def spiReadNow (b : Fin 2) (a count : Nat) (crc : Option Nat) (read : Nat) (d : Dev) : Dev :=
  match crc with
  | none => spiAborted b d
  | some k =>
    let m := spiMaster b
    if crc16 (spiHeader 0xA3 a count) != k then spiCrcFail b (failTx m count d)
    else if !alignedTx a count then spiAborted b (transact m a count id d)
    else
      let n := min read count
      onlyIf (decide (n < count)) (spiAborted b) (transact m a count (fun x => onlyIf (decide (0 < n)) (journalWait b a) (readWords m a n x)) d)

def fxSpiRead (b : Fin 2) (addr count : Nat) (crc : Option Nat) (read : Nat) (d : Dev) : Dev :=
  if served d then spiReadNow b addr count crc read (spiCounted b d) else d
/-- 12 R462 to R464, R466, R467, 15 R583. -/
def execSpiRead (b : Fin 2) (addr count : Nat) (crc : Option Nat) (read : Nat) (s : State) : Host.Outcome State Fault Refusal :=
  act (fxSpiRead b addr count crc read) s

def fxSpiStatus (b : Fin 2) (d : Dev) : Dev := if served d then statusTx (spiMaster b) (spiCounted b d) else d
/-- 12 R463, R468. -/
def execSpiStatus (b : Fin 2) (s : State) : Host.Outcome State Fault Refusal := act (fxSpiStatus b) s

def fxSpiUnknownCommand (_b : Fin 2) (d : Dev) : Dev := d
/-- 12 R463: no line is driven and nothing happens. -/
def execSpiUnknownCommand (b : Fin 2) (s : State) : Host.Outcome State Fault Refusal := act (fxSpiUnknownCommand b) s

/-! ### The maintenance UART -/

/-- A UART frame is received (12 R470, R499). -/
def uartCounted : Dev → Dev := onHost fun h => { h with uartFrames := wrapInc 16 h.uartFrames }

def fxUartRead (addr count : Nat) (d : Dev) : Dev := if served d then transact 4 addr count (readWords 4 addr count) (uartCounted d) else d
/-- 12 R469, R470. -/
def execUartRead (addr count : Nat) (s : State) : Host.Outcome State Fault Refusal := act (fxUartRead addr count) s

def fxUartWrite (addr : Nat) (words : List Word) (d : Dev) : Dev :=
  if served d then transact 4 addr words.length (writeWords 4 addr words) (uartCounted d) else d
/-- 12 R469, R470. -/
def execUartWrite (addr : Nat) (words : List Word) (s : State) : Host.Outcome State Fault Refusal := act (fxUartWrite addr words) s

def fxUartStatus (d : Dev) : Dev := if served d then statusTx 4 (uartCounted d) else d
/-- 12 R468, R469. -/
def execUartStatus (s : State) : Host.Outcome State Fault Refusal := act fxUartStatus s

def fxUartFrameDrop (badCrc : Bool) (d : Dev) : Dev :=
  if !served d then d
  else if badCrc then onMaster 4 (fun x => { x with crcErr := inc8 x.crcErr }) (onHost (fun h => { h with uartCrc := inc8 h.uartCrc }) d)
  else onHost (fun h => { h with uartDrops := inc8 h.uartDrops }) d
/-- 12 R470. -/
def execUartFrameDrop (badCrc : Bool) (s : State) : Host.Outcome State Fault Refusal := act (fxUartFrameDrop badCrc) s

/-! ### The management protocol -/

/-- A reply leaves for the requester (13 R522 to R524): none from a SHADOW, whose MAC transmits nothing. -/
def mgmtSend (d : Dev) : Dev :=
  if isShadow d then d else onNet (fun n => { n with tx := wrapInc 32 n.tx, mgmt := wrapInc 16 n.mgmt }) d

/-- The reply of an endpoint is kept (13 R525): those of the four most recent endpoints, newest first. -/
def keepReply (ep sqn : Nat) (content : List Nat) (d : Dev) : Dev :=
  let x := d.host.masters[2]
  onHost (fun h => { h with kept := (⟨ep, sqn, content, x.status, x.reply⟩ :: h.kept.filter fun k => k.ep != ep).take 4 }) d

/-- The kept reply goes out again (13 R525): nothing is read or applied. -/
def resendReply (k : Kept) (d : Dev) : Dev :=
  let d1 := onMaster 2 (fun x => { x with reply := k.words, status := k.status }) (onHost (fun h => { h with kept := k :: h.kept.filter (· != k) }) d)
  if isShadow d then d1 else onNet (fun n => { n with tx := wrapInc 32 n.tx, resent := inc8 n.resent }) d1

/-- A management request (13 R524, R525): a bad CRC gets no reply; a repeat gets the kept one. -/
def mgmtRequest (crcOk : Bool) (ep sqn : Nat) (content : List Nat) (run : Dev → Dev) (d : Dev) : Dev :=
  if !crcOk then onNet (fun n => { n with mgmtCrc := inc8 n.mgmtCrc }) (onMaster 2 (fun x => { x with crcErr := inc8 x.crcErr }) d)
  else match d.host.kept.find? fun k => k.ep == ep && k.sqn == sqn && k.content == content with
    | some k => resendReply k d
    | none => mgmtSend (keepReply ep sqn content (run d))

/-- MN is served while the MAC runs and the link is up (13 R503, R523). -/
def mgmtRx (f : Dev → Dev) (d : Dev) : Dev := if served d then netRx f d else d

def fxMgmtRead (crcOk : Bool) (ep seq addr count : Nat) (d : Dev) : Dev :=
  mgmtRx (mgmtRequest crcOk ep seq [1, addr, count] (transact 2 addr count (readWords 2 addr count))) d
/-- 13 R523 to R525. -/
def execMgmtRead (crcOk : Bool) (ep seq addr count : Nat) (s : State) : Host.Outcome State Fault Refusal :=
  act (fxMgmtRead crcOk ep seq addr count) s

def fxMgmtWrite (crcOk : Bool) (ep seq addr : Nat) (words : List Word) (d : Dev) : Dev :=
  mgmtRx (mgmtRequest crcOk ep seq (2 :: addr :: words.map (·.toNat)) (transact 2 addr words.length (writeWords 2 addr words))) d
/-- 13 R523 to R525. -/
def execMgmtWrite (crcOk : Bool) (ep seq addr : Nat) (words : List Word) (s : State) : Host.Outcome State Fault Refusal :=
  act (fxMgmtWrite crcOk ep seq addr words) s

def fxMgmtStatus (crcOk : Bool) (ep seq : Nat) (d : Dev) : Dev := mgmtRx (mgmtRequest crcOk ep seq [3] (statusTx 2)) d
/-- 13 R524, 12 R468. -/
def execMgmtStatus (crcOk : Bool) (ep seq : Nat) (s : State) : Host.Outcome State Fault Refusal := act (fxMgmtStatus crcOk ep seq) s

def fxMgmtRetry (ep seq : Nat) (d : Dev) : Dev :=
  mgmtRx (fun x => match x.host.kept.find? fun k => k.ep == ep && k.sqn == seq with
    | some k => resendReply k x
    | none => x) d
/-- 13 R525: the repeat of the request that the endpoint sent last. -/
def execMgmtRetry (ep seq : Nat) (s : State) : Host.Outcome State Fault Refusal := act (fxMgmtRetry ep seq) s

/-! ### CONTROL frames of the mirror link -/

/-- A forwarded image or amendment is refused (09 R384). -/
def forwardFail (d : Dev) : Dev := twinEvent 10 d

/-- A forwarded image at the SHADOW (09 R384, R399): stored in the same slot; forwarded under REPLACE it comes into force. -/
def takeImage (slot : Fin 4) (b : List Byte) (d : Dev) : Dev :=
  let x : ImgSlot := { state := .stored, image := b }
  let mine := d.store.slots[slot]
  let force := d.twin.peer.any (·.replace)
  let v := checkSlot d x
  if v.result != 0 || (mine.state == .active && !force) || d.store.switchAt.any (fun w => w.1 == slot) then
    forwardFail (onlyIf (metBrokenKey d v) (raise srcStoreIntegrity) d)
  else
    let d1 := onStore (fun s => { s with slots := s.slots.set slot x }) d
    onlyIf force (switchTo slot) d1

/-- A forwarded amendment at the SHADOW (09 R384): committed under the rules of 02, or refused. -/
def takeAmendment (b : List Byte) (d : Dev) : Dev :=
  let v := checkStored d 1 d.store.serial (runSects d) b
  let force := d.twin.peer.any (·.replace)
  if sameAmend d b then d
  else if !d.store.admitted || v.result != 0 || (!force && (scopeEntry d b v true).isSome) then
    forwardFail (onlyIf (metBrokenKey d v) (raise srcStoreIntegrity) d)
  else commitAmend b v.cfg d

/-- A forwarded order held whole (09 R383, R384): applied at its T_ORDER. -/
def takeHeld (o : Order) (d : Dev) : Dev :=
  if d.ledger.orders.any fun x => x.whole && x.order.no == o.no && x.order.digest == o.digest then d
  else
    let rest := d.ledger.orders.filter fun x => x.order.no != o.no || x.order.digest != o.digest
    heldWhole o (onLedger (fun l => { l with orders := rest ++ [{ order := o, whole := true }] }) d)

/-- A forwarded census result (09 R383, 05 R197): a phase that failed is retired here too. -/
def takeCensus (n : Fin 64) (passed : Bool) (r : CensusResult) (d : Dev) : Dev :=
  let d1 := onPhase n (fun f => { f with
    zeroMv := r.zeroMv, ownRise := r.ownRise, foreignPort := r.foreignPort, foreignRise := r.foreignRise, census := if passed then 1 else 2 }) d
  keepRecord (if passed then d1 else retirePhase n 3 d1)

/-- A forwarded retired-phase list (09 R383). -/
def takeRetired (mask : BitVec 64) (d : Dev) : Dev :=
  let d1 := setRetired mask d
  let l := updAll d1.phases fun n f =>
    if mask.getLsbD n.val then { f with state := .retired, retire := true }
    else if f.state == .retired then { f with state := .idle, retire := false, why := 0 }
    else f
  forEach (indices 32) updateCap { d1 with phases := l }

/-- What a CONTROL frame does (09 R384, R385): a SHADOW takes what its ACTIVE forwards; register accesses are those of MT. -/
def takeControl (x : MirrorCtl) (d : Dev) : Dev :=
  let shadow := isShadow d
  match x with
  | .image slot b => onlyIf shadow (takeImage slot b) d
  | .amendment b => onlyIf shadow (takeAmendment b) d
  | .orderHeld o => onlyIf shadow (takeHeld o) d
  | .roll l => onlyIf shadow (onLedger fun y => { y with roll := l, rollDigest := rollDigestOf l }) d
  | .census n ok r => onlyIf shadow (takeCensus n ok r) d
  | .retired mask => onlyIf shadow (takeRetired mask) d
  | .card k => onlyIf shadow (enterCard k) d
  | .regRead a n => if served d then transact 3 a n (readWords 3 a n) d else d
  | .regWrite a l => if served d then transact 3 a l.length (writeWords 3 a l) d else d

def fxMirrorControl (x : MirrorCtl) (d : Dev) : Dev := mirrorRx (takeControl x) d
/-- 09 R383 to R385, R399. -/
def execMirrorControl (x : MirrorCtl) (s : State) : Host.Outcome State Fault Refusal := act (fxMirrorControl x) s

end Sys2Proof.Machine
end

