-- ==== Sys2Proof/Machine/Dispatch.lean ====
section
/-! DEFINITION. One arm for each command. -/

namespace Sys2Proof.Machine

/-- A command's effect on everything but the queue. -/
def exec (i : Instr) (s : State) : Host.Outcome State Fault Refusal :=
  match i with
  | .registerWrite m addr v => Sys2Proof.Machine.execRegisterWrite m addr v s
  | .edgeLinkCrcError l => Sys2Proof.Machine.execEdgeLinkCrcError l s
  | .edgeLinkLost l => Sys2Proof.Machine.execEdgeLinkLost l s
  | .edgeLinkRetrained l => Sys2Proof.Machine.execEdgeLinkRetrained l s
  | .lossQueueDrained l => Sys2Proof.Machine.execLossQueueDrained l s
  | .edgeDieMinimalTimeout e => Sys2Proof.Machine.execEdgeDieMinimalTimeout e s
  | .feedLinkHold => Sys2Proof.Machine.execFeedLinkHold s
  | .clockCheckFail k => Sys2Proof.Machine.execClockCheckFail k s
  | .edgeControlFrame p k => Sys2Proof.Machine.execEdgeControlFrame p k s
  | .tbSyncFrame die => Sys2Proof.Machine.execTbSyncFrame die s
  | .imageCheck c => Sys2Proof.Machine.execImageCheck c s
  | .admissionCheckEnd us => Sys2Proof.Machine.execAdmissionCheckEnd us s
  | .imageStore c slot => Sys2Proof.Machine.execImageStore c slot s
  | .imageSlotWritten ok => Sys2Proof.Machine.execImageSlotWritten ok s
  | .imageSwitch c slot tb => Sys2Proof.Machine.execImageSwitch c slot tb s
  | .switchEffective => Sys2Proof.Machine.execSwitchEffective s
  | .amendApply c => Sys2Proof.Machine.execAmendApply c s
  | .amendCommit => Sys2Proof.Machine.execAmendCommit s
  | .imageFloor c => Sys2Proof.Machine.execImageFloor c s
  | .keyEnrol c slot signer => Sys2Proof.Machine.execKeyEnrol c slot signer s
  | .keyRevoke c slot signer => Sys2Proof.Machine.execKeyRevoke c slot signer s
  | .monitorZoneChange ch z stamp => Sys2Proof.Machine.execMonitorZoneChange ch z stamp s
  | .tccdebounceExpiry p => Sys2Proof.Machine.execTccdebounceExpiry p s
  | .tpddebounceExpiry p => Sys2Proof.Machine.execTpddebounceExpiry p s
  | .tdrpExpiry p => Sys2Proof.Machine.execTdrpExpiry p s
  | .tdrptryExpiry p => Sys2Proof.Machine.execTdrptryExpiry p s
  | .ttryccdebounceExpiry p => Sys2Proof.Machine.execTtryccdebounceExpiry p s
  | .tdrptrywaitExpiry p => Sys2Proof.Machine.execTdrptrywaitExpiry p s
  | .terrorrecoveryExpiry p => Sys2Proof.Machine.execTerrorrecoveryExpiry p s
  | .ccOvervoltage p pin => Sys2Proof.Machine.execCcOvervoltage p pin s
  | .vconnOvercurrent p => Sys2Proof.Machine.execVconnOvercurrent p s
  | .vconnReverseBlock p => Sys2Proof.Machine.execVconnReverseBlock p s
  | .tvconnstableExpiry p => Sys2Proof.Machine.execTvconnstableExpiry p s
  | .discoverIdentityRetry p => Sys2Proof.Machine.execDiscoverIdentityRetry p s
  | .cableIdentityAnswer p sop2 a => Sys2Proof.Machine.execCableIdentityAnswer p sop2 a s
  | .minimalAttachDebounce p => Sys2Proof.Machine.execMinimalAttachDebounce p s
  | .minimalDetachDebounce p => Sys2Proof.Machine.execMinimalDetachDebounce p s
  | .ident p tag => Sys2Proof.Machine.execIdent p tag s
  | .serviceState p tag => Sys2Proof.Machine.execServiceState p tag s
  | .jtail p tag arg => Sys2Proof.Machine.execJtail p tag arg s
  | .jread p tag arg => Sys2Proof.Machine.execJread p tag arg s
  | .serviceFaults p tag arg => Sys2Proof.Machine.execServiceFaults p tag arg s
  | .serviceUnknownCmd p tag cmd => Sys2Proof.Machine.execServiceUnknownCmd p tag cmd s
  | .pdMessageReceived p msg => Sys2Proof.Machine.execPdMessageReceived p msg s
  | .pdGoodcrcReceived p => Sys2Proof.Machine.execPdGoodcrcReceived p s
  | .tcrcreceiveExpiry p => Sys2Proof.Machine.execTcrcreceiveExpiry p s
  | .sourceCapabilities p pdos => Sys2Proof.Machine.execSourceCapabilities p pdos s
  | .request p rdo => Sys2Proof.Machine.execRequest p rdo s
  | .eprRequest p rdo pdoCopy => Sys2Proof.Machine.execEprRequest p rdo pdoCopy s
  | .getSourceCap p => Sys2Proof.Machine.execGetSourceCap p s
  | .getSinkCap p => Sys2Proof.Machine.execGetSinkCap p s
  | .getSourceCapExtended p => Sys2Proof.Machine.execGetSourceCapExtended p s
  | .eprModeEnter p pdp => Sys2Proof.Machine.execEprModeEnter p pdp s
  | .eprModeExit p => Sys2Proof.Machine.execEprModeExit p s
  | .eprGetSourceCap p => Sys2Proof.Machine.execEprGetSourceCap p s
  | .eprKeepalive p => Sys2Proof.Machine.execEprKeepalive p s
  | .getStatus p => Sys2Proof.Machine.execGetStatus p s
  | .getPpsStatus p => Sys2Proof.Machine.execGetPpsStatus p s
  | .getRevision p => Sys2Proof.Machine.execGetRevision p s
  | .getSourceInfo p => Sys2Proof.Machine.execGetSourceInfo p s
  | .prSwap p => Sys2Proof.Machine.execPrSwap p s
  | .drSwap p => Sys2Proof.Machine.execDrSwap p s
  | .vconnSwap p => Sys2Proof.Machine.execVconnSwap p s
  | .accept p => Sys2Proof.Machine.execAccept p s
  | .reject p => Sys2Proof.Machine.execReject p s
  | .psRdy p => Sys2Proof.Machine.execPsRdy p s
  | .softReset p => Sys2Proof.Machine.execSoftReset p s
  | .vendorDefined p header body => Sys2Proof.Machine.execVendorDefined p header body s
  | .alert p => Sys2Proof.Machine.execAlert p s
  | .ping p => Sys2Proof.Machine.execPing p s
  | .bistCarrierMode p => Sys2Proof.Machine.execBistCarrierMode p s
  | .bistTestData p => Sys2Proof.Machine.execBistTestData p s
  | .chunkRequest p n => Sys2Proof.Machine.execChunkRequest p n s
  | .unsupportedMessage p control => Sys2Proof.Machine.execUnsupportedMessage p control s
  | .hardResetReceived p => Sys2Proof.Machine.execHardResetReceived p s
  | .portHardReset c p => Sys2Proof.Machine.execPortHardReset c p s
  | .tsenderresponseExpiry p => Sys2Proof.Machine.execTsenderresponseExpiry p s
  | .ttypecsendsourcecapExpiry p => Sys2Proof.Machine.execTtypecsendsourcecapExpiry p s
  | .tsinktxExpiry p => Sys2Proof.Machine.execTsinktxExpiry p s
  | .tsrctransitionExpiry p => Sys2Proof.Machine.execTsrctransitionExpiry p s
  | .tsourceeprkeepaliveExpiry p => Sys2Proof.Machine.execTsourceeprkeepaliveExpiry p s
  | .tppstimeoutExpiry p => Sys2Proof.Machine.execTppstimeoutExpiry p s
  | .tpshardresetExpiry p => Sys2Proof.Machine.execTpshardresetExpiry p s
  | .tsrcrecoverExpiry p => Sys2Proof.Machine.execTsrcrecoverExpiry p s
  | .tpssourceoffExpiry p => Sys2Proof.Machine.execTpssourceoffExpiry p s
  | .tpssourceonExpiry p => Sys2Proof.Machine.execTpssourceonExpiry p s
  | .tswapsourcestartExpiry p => Sys2Proof.Machine.execTswapsourcestartExpiry p s
  | .tvconnsourcetimeoutExpiry p => Sys2Proof.Machine.execTvconnsourcetimeoutExpiry p s
  | .tchunksenderrequestExpiry p => Sys2Proof.Machine.execTchunksenderrequestExpiry p s
  | .tbistcontmodeExpiry p => Sys2Proof.Machine.execTbistcontmodeExpiry p s
  | .tpstransitionExpiry p => Sys2Proof.Machine.execTpstransitionExpiry p s
  | .vbusInWindow p => Sys2Proof.Machine.execVbusInWindow p s
  | .vbusOvFence p => Sys2Proof.Machine.execVbusOvFence p s
  | .fenceLower p => Sys2Proof.Machine.execFenceLower p s
  | .contractBreachOvercurrent p => Sys2Proof.Machine.execContractBreachOvercurrent p s
  | .pendingHandEffective p => Sys2Proof.Machine.execPendingHandEffective p s
  | .portLimitWrite m p v => Sys2Proof.Machine.execPortLimitWrite m p v s
  | .guardCloseStart p => Sys2Proof.Machine.execGuardCloseStart p s
  | .guardClosed p => Sys2Proof.Machine.execGuardClosed p s
  | .offRampEnd p => Sys2Proof.Machine.execOffRampEnd p s
  | .regionChange p region => Sys2Proof.Machine.execRegionChange p region s
  | .truncationStart p => Sys2Proof.Machine.execTruncationStart p s
  | .truncationEnd p => Sys2Proof.Machine.execTruncationEnd p s
  | .limitAllowanceExceeded p ph => Sys2Proof.Machine.execLimitAllowanceExceeded p ph s
  | .hiccupOffTimeExpiry p => Sys2Proof.Machine.execHiccupOffTimeExpiry p s
  | .hiccupAgeOut p => Sys2Proof.Machine.execHiccupAgeOut p s
  | .stageFault p => Sys2Proof.Machine.execStageFault p s
  | .phaseSilent ph => Sys2Proof.Machine.execPhaseSilent ph s
  | .senseImplausible ph => Sys2Proof.Machine.execSenseImplausible ph s
  | .phaseRetireCmd m ph => Sys2Proof.Machine.execPhaseRetireCmd m ph s
  | .restorePhase c ph => Sys2Proof.Machine.execRestorePhase c ph s
  | .pendingCensus busB => Sys2Proof.Machine.execPendingCensus busB s
  | .censusComplete ph res => Sys2Proof.Machine.execCensusComplete ph res s
  | .busVinLow e busB => Sys2Proof.Machine.execBusVinLow e busB s
  | .busVinRecover e busB => Sys2Proof.Machine.execBusVinRecover e busB s
  | .vbusUv p => Sys2Proof.Machine.execVbusUv p s
  | .channelSettle ch z stamp => Sys2Proof.Machine.execChannelSettle ch z stamp s
  | .settle m ch aboveHi aboveLo => Sys2Proof.Machine.execSettle m ch aboveHi aboveLo s
  | .calNext m ch => Sys2Proof.Machine.execCalNext m ch s
  | .channelHoldEnd ch z stamp => Sys2Proof.Machine.execChannelHoldEnd ch z stamp s
  | .calStep g spareOk => Sys2Proof.Machine.execCalStep g spareOk s
  | .calAgreement g err => Sys2Proof.Machine.execCalAgreement g err s
  | .calRetry g => Sys2Proof.Machine.execCalRetry g s
  | .trimWrite => Sys2Proof.Machine.execTrimWrite s
  | .monCalCtlWrite m v => Sys2Proof.Machine.execMonCalCtlWrite m v s
  | .converterTrigger cv sq stamp => Sys2Proof.Machine.execConverterTrigger cv sq stamp s
  | .sequenceComplete cv results => Sys2Proof.Machine.execSequenceComplete cv results s
  | .continuousResult ch res => Sys2Proof.Machine.execContinuousResult ch res s
  | .cvxTrig m cv v => Sys2Proof.Machine.execCvxTrig m cv v s
  | .seqEnDisable m cv sq => Sys2Proof.Machine.execSeqEnDisable m cv sq s
  | .contEnClear m cv => Sys2Proof.Machine.execContEnClear m cv s
  | .ressStampLoRead m cv sq => Sys2Proof.Machine.execRessStampLoRead m cv sq s
  | .feedEnableRise f => Sys2Proof.Machine.execFeedEnableRise f s
  | .feedEnableFall f => Sys2Proof.Machine.execFeedEnableFall f s
  | .feedWindowEnter f => Sys2Proof.Machine.execFeedWindowEnter f s
  | .insDelayExpiry f => Sys2Proof.Machine.execInsDelayExpiry f s
  | .insTimeoutExpiry f => Sys2Proof.Machine.execInsTimeoutExpiry f s
  | .feedUvBreach f => Sys2Proof.Machine.execFeedUvBreach f s
  | .feedOvBreach f => Sys2Proof.Machine.execFeedOvBreach f s
  | .feedLimitStart f foldback => Sys2Proof.Machine.execFeedLimitStart f foldback s
  | .feedFaultTimerExpiry f => Sys2Proof.Machine.execFeedFaultTimerExpiry f s
  | .feedOvercurrentTrip f => Sys2Proof.Machine.execFeedOvercurrentTrip f s
  | .fetTempTrip f => Sys2Proof.Machine.execFetTempTrip f s
  | .fetTempRelease f => Sys2Proof.Machine.execFetTempRelease f s
  | .feedModelStep f tdie power => Sys2Proof.Machine.execFeedModelStep f tdie power s
  | .feedPowerGood f => Sys2Proof.Machine.execFeedPowerGood f s
  | .feedReverseTurnOff f => Sys2Proof.Machine.execFeedReverseTurnOff f s
  | .diodeRedrive f => Sys2Proof.Machine.execDiodeRedrive f s
  | .vgdLow => Sys2Proof.Machine.execVgdLow s
  | .vgdBelowStartLevel => Sys2Proof.Machine.execVgdBelowStartLevel s
  | .vgdRecover => Sys2Proof.Machine.execVgdRecover s
  | .guardLimitStart p foldback => Sys2Proof.Machine.execGuardLimitStart p foldback s
  | .guardFaultTimerExpiry p => Sys2Proof.Machine.execGuardFaultTimerExpiry p s
  | .guardShortTrip p => Sys2Proof.Machine.execGuardShortTrip p s
  | .guardTemp p byVds => Sys2Proof.Machine.execGuardTemp p byVds s
  | .deferredRearm p => Sys2Proof.Machine.execDeferredRearm p s
  | .dischargeDone p => Sys2Proof.Machine.execDischargeDone p s
  | .postSymbolLock l => Sys2Proof.Machine.execPostSymbolLock l s
  | .postLockLoss l => Sys2Proof.Machine.execPostLockLoss l s
  | .postFrameTimeout l => Sys2Proof.Machine.execPostFrameTimeout l s
  | .postTrainTimeout l => Sys2Proof.Machine.execPostTrainTimeout l s
  | .postHoldoffEnd l => Sys2Proof.Machine.execPostHoldoffEnd l s
  | .postBadFrame l crc => Sys2Proof.Machine.execPostBadFrame l crc s
  | .postEnableWrite m l v => Sys2Proof.Machine.execPostEnableWrite m l v s
  | .helloTimer l => Sys2Proof.Machine.execHelloTimer l s
  | .hello l hdr h => Sys2Proof.Machine.execHello l hdr h s
  | .bid l hdr b => Sys2Proof.Machine.execBid l hdr b s
  | .deal l hdr d => Sys2Proof.Machine.execDeal l hdr d s
  | .sync l hdr t1 t2 t3 => Sys2Proof.Machine.execSync l hdr t1 t2 t3 s
  | .syncReply l hdr t1 t2 t3 t4 => Sys2Proof.Machine.execSyncReply l hdr t1 t2 t3 t4 s
  | .elect l hdr x => Sys2Proof.Machine.execElect l hdr x s
  | .order l hdr o => Sys2Proof.Machine.execOrder l hdr o s
  | .card l hdr k => Sys2Proof.Machine.execCard l hdr k s
  | .ledgerCmdCard m => Sys2Proof.Machine.execLedgerCmdCard m s
  | .dealPeriodBoundary => Sys2Proof.Machine.execDealPeriodBoundary s
  | .bidSlot => Sys2Proof.Machine.execBidSlot s
  | .dealerDealSlot => Sys2Proof.Machine.execDealerDealSlot s
  | .dealMissCheck => Sys2Proof.Machine.execDealMissCheck s
  | .syncSlot => Sys2Proof.Machine.execSyncSlot s
  | .dealerAccession => Sys2Proof.Machine.execDealerAccession s
  | .orderEffective => Sys2Proof.Machine.execOrderEffective s
  | .mirrorLock => Sys2Proof.Machine.execMirrorLock s
  | .mirrorLinkDown => Sys2Proof.Machine.execMirrorLinkDown s
  | .mirrorFrameTimeout => Sys2Proof.Machine.execMirrorFrameTimeout s
  | .mirrorBadFrame crc => Sys2Proof.Machine.execMirrorBadFrame crc s
  | .mhello h => Sys2Proof.Machine.execMhello h s
  | .mirrorFence p mv => Sys2Proof.Machine.execMirrorFence p mv s
  | .loopSnapshot => Sys2Proof.Machine.execLoopSnapshot s
  | .loopState stamp recs => Sys2Proof.Machine.execLoopState stamp recs s
  | .msync t1 t2 t3 t4 => Sys2Proof.Machine.execMsync t1 t2 t3 t4 s
  | .protocolRecord rec => Sys2Proof.Machine.execProtocolRecord rec s
  | .mirrorLedger d => Sys2Proof.Machine.execMirrorLedger d s
  | .mirrorJournal cls payload => Sys2Proof.Machine.execMirrorJournal cls payload s
  | .mirrorControl x => Sys2Proof.Machine.execMirrorControl x s
  | .heartbeatLoss => Sys2Proof.Machine.execHeartbeatLoss s
  | .partnerRoleAssert => Sys2Proof.Machine.execPartnerRoleAssert s
  | .handover m => Sys2Proof.Machine.execHandover m s
  | .handoverInstant => Sys2Proof.Machine.execHandoverInstant s
  | .twinCmdTakeover m => Sys2Proof.Machine.execTwinCmdTakeover m s
  | .cold m => Sys2Proof.Machine.execCold m s
  | .replaceTimeout => Sys2Proof.Machine.execReplaceTimeout s
  | .twinRoleHoldoff => Sys2Proof.Machine.execTwinRoleHoldoff s
  | .almCmpLoWrite m a v => Sys2Proof.Machine.execAlmCmpLoWrite m a v s
  | .almCmpHiWrite m a v => Sys2Proof.Machine.execAlmCmpHiWrite m a v s
  | .alarmCommit a => Sys2Proof.Machine.execAlarmCommit a s
  | .alarmFire a stepped => Sys2Proof.Machine.execAlarmFire a stepped s
  | .cancel m a => Sys2Proof.Machine.execCancel m a s
  | .itmZero t => Sys2Proof.Machine.execItmZero t s
  | .itmReloadWrite m t v => Sys2Proof.Machine.execItmReloadWrite m t v s
  | .itmStart m t => Sys2Proof.Machine.execItmStart m t s
  | .itmStop m t => Sys2Proof.Machine.execItmStop m t s
  | .tmrGo m v => Sys2Proof.Machine.execTmrGo m v s
  | .tmrGoDatedRelease => Sys2Proof.Machine.execTmrGoDatedRelease s
  | .capPop m t => Sys2Proof.Machine.execCapPop m t s
  | .tbLoRead m => Sys2Proof.Machine.execTbLoRead m s
  | .faultRaise src stamp => Sys2Proof.Machine.execFaultRaise src stamp s
  | .graceExpiry src => Sys2Proof.Machine.execGraceExpiry src s
  | .faultClear m v => Sys2Proof.Machine.execFaultClear m v s
  | .faultLatchBitClear m src => Sys2Proof.Machine.execFaultLatchBitClear m src s
  | .faultForce m v => Sys2Proof.Machine.execFaultForce m v s
  | .severityRelax src => Sys2Proof.Machine.execSeverityRelax src s
  | .faultBacklogDrain => Sys2Proof.Machine.execFaultBacklogDrain s
  | .minimalAutoExit e => Sys2Proof.Machine.execMinimalAutoExit e s
  | .spiWrite b addr words crc => Sys2Proof.Machine.execSpiWrite b addr words crc s
  | .spiRead b addr count crc read => Sys2Proof.Machine.execSpiRead b addr count crc read s
  | .spiStatus b => Sys2Proof.Machine.execSpiStatus b s
  | .spiUnknownCommand b => Sys2Proof.Machine.execSpiUnknownCommand b s
  | .uartRead addr count => Sys2Proof.Machine.execUartRead addr count s
  | .uartWrite addr words => Sys2Proof.Machine.execUartWrite addr words s
  | .uartStatus => Sys2Proof.Machine.execUartStatus s
  | .uartFrameDrop badCrc => Sys2Proof.Machine.execUartFrameDrop badCrc s
  | .mgmtRead crcOk ep seq addr count => Sys2Proof.Machine.execMgmtRead crcOk ep seq addr count s
  | .mgmtWrite crcOk ep seq addr words => Sys2Proof.Machine.execMgmtWrite crcOk ep seq addr words s
  | .mgmtStatus crcOk ep seq => Sys2Proof.Machine.execMgmtStatus crcOk ep seq s
  | .mgmtRetry ep seq => Sys2Proof.Machine.execMgmtRetry ep seq s
  | .ringTailWrite m r v => Sys2Proof.Machine.execRingTailWrite m r v s
  | .ringHeadWrite m r v => Sys2Proof.Machine.execRingHeadWrite m r v s
  | .ringCtlWrite m r v => Sys2Proof.Machine.execRingCtlWrite m r v s
  | .ringReset m r => Sys2Proof.Machine.execRingReset m r s
  | .commandFetch r => Sys2Proof.Machine.execCommandFetch r s
  | .completionRingRoom r => Sys2Proof.Machine.execCompletionRingRoom r s
  | .nop c => Sys2Proof.Machine.execNop c s
  | .portEnable c p => Sys2Proof.Machine.execPortEnable c p s
  | .portDisable c p => Sys2Proof.Machine.execPortDisable c p s
  | .portDisableDone p => Sys2Proof.Machine.execPortDisableDone p s
  | .portDisableTimeout p => Sys2Proof.Machine.execPortDisableTimeout p s
  | .ledgerOrder c no kind rcount tOrder param => Sys2Proof.Machine.execLedgerOrder c no kind rcount tOrder param s
  | .ledgerOrderTimeout => Sys2Proof.Machine.execLedgerOrderTimeout s
  | .minimalEnter c => Sys2Proof.Machine.execMinimalEnter c s
  | .minimalExit c => Sys2Proof.Machine.execMinimalExit c s
  | .enterStandby c => Sys2Proof.Machine.execEnterStandby c s
  | .enterDormant c secs => Sys2Proof.Machine.execEnterDormant c secs s
  | .deviceReset c key => Sys2Proof.Machine.execDeviceReset c key s
  | .updateOpen c comp count => Sys2Proof.Machine.execUpdateOpen c comp count s
  | .parcelWrite c ofs crc => Sys2Proof.Machine.execParcelWrite c ofs crc s
  | .updateVerify c => Sys2Proof.Machine.execUpdateVerify c s
  | .updateActivate c which => Sys2Proof.Machine.execUpdateActivate c which s
  | .updateQuietMoment => Sys2Proof.Machine.execUpdateQuietMoment s
  | .quietWaitTimeout => Sys2Proof.Machine.execQuietWaitTimeout s
  | .updateConfirm c => Sys2Proof.Machine.execUpdateConfirm c s
  | .updateAbort c => Sys2Proof.Machine.execUpdateAbort c s
  | .updateFloor c comp => Sys2Proof.Machine.execUpdateFloor c comp s
  | .healthTimerExpiry => Sys2Proof.Machine.execHealthTimerExpiry s
  | .journalMark c note => Sys2Proof.Machine.execJournalMark c note s
  | .journalWindow c start => Sys2Proof.Machine.execJournalWindow c start s
  | .telemetrySet c ring addrs => Sys2Proof.Machine.execTelemetrySet c ring addrs s
  | .claim m => Sys2Proof.Machine.execClaim m s
  | .claimWindowClose => Sys2Proof.Machine.execClaimWindowClose s
  | .renew m => Sys2Proof.Machine.execRenew m s
  | .leaseWarn => Sys2Proof.Machine.execLeaseWarn s
  | .leaseExpiry => Sys2Proof.Machine.execLeaseExpiry s
  | .ownerHandover m v => Sys2Proof.Machine.execOwnerHandover m v s
  | .sysAccept m => Sys2Proof.Machine.execSysAccept m s
  | .sysRelease m => Sys2Proof.Machine.execSysRelease m s
  | .handoverLapse => Sys2Proof.Machine.execHandoverLapse s
  | .mdioPoll res => Sys2Proof.Machine.execMdioPoll res s
  | .phyLinkRise res => Sys2Proof.Machine.execPhyLinkRise res s
  | .netMdioGo m v => Sys2Proof.Machine.execNetMdioGo m v s
  | .mdioComplete data => Sys2Proof.Machine.execMdioComplete data s
  | .arpRequest ip mac target => Sys2Proof.Machine.execArpRequest ip mac target s
  | .arpAgeOut ip => Sys2Proof.Machine.execArpAgeOut ip s
  | .icmpEchoRequest src len => Sys2Proof.Machine.execIcmpEchoRequest src len s
  | .igmpQuery group => Sys2Proof.Machine.execIgmpQuery group s
  | .trdpPdReceive x => Sys2Proof.Machine.execTrdpPdReceive x s
  | .trdpPublish k => Sys2Proof.Machine.execTrdpPublish k s
  | .trdpTimeout k => Sys2Proof.Machine.execTrdpTimeout k s
  | .mdNotification x => Sys2Proof.Machine.execMdNotification x s
  | .mdRequest comId => Sys2Proof.Machine.execMdRequest comId s
  | .ptpEventMessage tx kind sqid stamp => Sys2Proof.Machine.execPtpEventMessage tx kind sqid stamp s
  | .netPtpPop m => Sys2Proof.Machine.execNetPtpPop m s
  | .recOpen m => Sys2Proof.Machine.execRecOpen m s
  | .recParcel m => Sys2Proof.Machine.execRecParcel m s
  | .recVerify m => Sys2Proof.Machine.execRecVerify m s
  | .recInstall m => Sys2Proof.Machine.execRecInstall m s
  | .recClose m => Sys2Proof.Machine.execRecClose m s
  | .resetAssert => Sys2Proof.Machine.execResetAssert s
  | .supplyOutOfRange x => Sys2Proof.Machine.execSupplyOutOfRange x s
  | .vaonLoss => Sys2Proof.Machine.execVaonLoss s
  | .bootStart obs => Sys2Proof.Machine.execBootStart obs s
  | .bootTimeout => Sys2Proof.Machine.execBootTimeout s
  | .wakePin => Sys2Proof.Machine.execWakePin s
  | .wakeTimerExpiry => Sys2Proof.Machine.execWakeTimerExpiry s
  | .deadcarFeedRise f => Sys2Proof.Machine.execDeadcarFeedRise f s
  | .journalProgram => Sys2Proof.Machine.execJournalProgram s
  | .shedRecord => Sys2Proof.Machine.execShedRecord s
  | .watchdogExpiry core restarted => Sys2Proof.Machine.execWatchdogExpiry core restarted s
  | .faultConditionEnd src => Sys2Proof.Machine.execFaultConditionEnd src s
  | .supplyInRange x => Sys2Proof.Machine.execSupplyInRange x s
  | .referenceRampEnd p => Sys2Proof.Machine.execReferenceRampEnd p s
  | .guardLimitEnd p => Sys2Proof.Machine.execGuardLimitEnd p s
  | .feedLimitEnd f => Sys2Proof.Machine.execFeedLimitEnd f s
  | .rearmAgeOut p => Sys2Proof.Machine.execRearmAgeOut p s
  | .mhelloTimer => Sys2Proof.Machine.execMhelloTimer s
  | .msyncTimer => Sys2Proof.Machine.execMsyncTimer s
  | .heartbeatFound => Sys2Proof.Machine.execHeartbeatFound s
  | .partnerRoleDeassert => Sys2Proof.Machine.execPartnerRoleDeassert s
  | .loopFrameOverdue => Sys2Proof.Machine.execLoopFrameOverdue s
  | .slotEraseDone ok => Sys2Proof.Machine.execSlotEraseDone ok s
  | .parcelProgrammed ok => Sys2Proof.Machine.execParcelProgrammed ok s
  | .packageVerifyDone => Sys2Proof.Machine.execPackageVerifyDone s
  | .otpWriteDone => Sys2Proof.Machine.execOtpWriteDone s
  | .activationDone ok => Sys2Proof.Machine.execActivationDone ok s

end Sys2Proof.Machine
end

