-- ==== Sys2Proof/Machine/Cycle.lean ====
section
/-! DEFINITION. The switching cycles of the ports (05 R190, R192, R201 to R216): what one cycle does, on analogue values that are free (log entries 5, 40). -/

namespace Sys2Proof.Machine

/-- The error-amplifier output VC is clamped between 0.30 V and 1.50 V; in 25 uV (05 R201, 09 R380). -/
def clampVc (v : Nat) : Nat := max 12000 (min 60000 v)

/-- The shared current threshold I_TH = 12.5 A/V x (VC - 0.30 V), in mA: 0 to 15 A (05 R201). -/
def ithOf (vc : Nat) : Nat := (vc - 12000) * 5 / 16

/-- A time in ns as a part of the cycle in T / 65,536, at a switching frequency in kHz. -/
def partOf (fsw ns : Nat) : Nat := ns * fsw * 65536 / 1000000

/-- The minimum on-time, BLANK x 10 ns + 40 ns, and the longest, T less the minimum off-time of 80 ns (05 R205). -/
def minOn (k : LoopCfg) : Nat := partOf k.fsw (10 * k.blank + 40)
def maxOn (k : LoopCfg) : Nat := 65536 - partOf k.fsw 80

/-- The fall of the threshold by the slope ramp after an on-time, in mA: 50 mA/us x SLOPE (05 R200, R203). -/
def slopeDrop (k : LoopCfg) (on : Nat) : Nat := 50 * k.slope * on * 1000 / (65536 * max 1 k.fsw)

/-- The IMON level of a phase at zero current in mV: 0.30 V until a census has measured it (05 R190). -/
def imonZero (f : Phase) : Nat := if f.census = 1 ∨ f.census = 2 then f.zeroMv else 300

/-- The current of an IMON level, in mA (05 R190). -/
def imonMa (c : PhaseCfg) (f : Phase) (mv : Nat) : Int := ((mv : Int) - imonZero f) * 1000 / c.imonGain

/-- What the loop and the sense inputs give in a cycle to all phases of a port. -/
structure CycleIn where
  cfg : LoopCfg
  region : Region
  /-- I_TH in mA. -/
  ith : Nat
  /-- Diode emulation runs (05 R209, R212). -/
  deOn : Bool
  /-- It is suspended, and the reverse current is clamped at -25 % of IPEAK. -/
  suspended : Bool

/-- What a phase made of a cycle: its registers, whether it gave a pulse, and whether the cycle was limited in it. -/
structure CycleOut where
  phase : Phase
  pulse : Bool := false
  limited : Bool := false

/-- The legs' duties in T / 65,536, with an on-time of the controlled leg (05 R208): PWMB is high for 10 % of T in TRANSITION, PWMA all of it
in BOOST. -/
def duties (r : Region) (on : Nat) : Nat × Nat :=
  match r with
  | .buck => (on, 0)
  | .transition => (on, 6553)
  | .boost => (65535, on)

/-- One cycle of one phase (05 R201, R203, R205, R209): the on-time that the loop asks for and the IMON levels are free. Below the minimum
on-time the phase gives that and then skips cycles until VC asks for a pulse again. The on-time ends at the peak crossing unless it reaches the
longest one; a cycle is limited where the crossing comes with the threshold clamped at IPEAK. -/
def phaseCycle (x : CycleIn) (c : PhaseCfg) (w v : Word) (f : Phase) : CycleOut :=
  let ask := bits w 0 16
  let lo := minOn x.cfg
  if f.skip && decide (ask < lo) then { phase := { f with dutyA := 0, dutyB := 0, de := false } }
  else
    let on := max lo (min ask (maxOn x.cfg))
    let crossed := decide (ask ≤ maxOn x.cfg)
    let thr := min x.ith c.ipeak
    let peak := thr - slopeDrop x.cfg on
    let low := imonMa c f (bits v 0 11)
    let mean := imonMa c f (bits w 16 11)
    let two := duties x.region on
    { phase := { f with
        skip := decide (ask < lo), dutyA := two.1, dutyB := two.2
        de := x.deOn && decide (50 * low < c.ipeak)
        imonPeak := if crossed && decide (lo ≤ ask) then peak else if crossed then bits v 16 16 else bits v 16 16 % (peak + 1)
        imonAvg := if x.suspended then max mean (-((c.ipeak : Int) / 4)) else mean }
      pulse := true, limited := crossed && decide (c.ipeak ≤ x.ith) }

/-- The phases of a port that switch. -/
def goingPhases (d : Dev) (p : Fin 32) : List (Fin 64) := (livePhases d p).filter fun n => (d.phases[n]).state == .switching

/-- The port skips pulses (05 R210): LFLAGS bit 1, IPORT below ISKIP and I_TH below 10 % of the lowest IPEAK of its phases. -/
def skipsPulses (d : Dev) (p : Fin 32) (k : LoopCfg) (ith : Nat) : Bool :=
  k.lflags.getLsbD 1 && decide ((d.chans[iportCh p]).result.toInt < k.iskip) && (goingPhases d p).all fun n => decide (10 * ith < ipeakOf d n)

/-- The counts of a cycle in which a phase of the port switched (05 R216): the limited phases in phase order. A limited cycle that follows 256
or more unlimited ones is an event of its phases; 256 unlimited ones in a row clear LC; an exceeded allowance falls due for the lowest
limited phase. -/
def countCycle (p : Fin 32) (lim : List (Fin 64)) (d : Dev) : Dev :=
  let l := d.loops[p]
  match lim with
  | [] =>
    let run := sat 256 (l.run + 1)
    onLoop p (fun l => { l with run := run, lc := if run = 256 then 0 else l.lc }) d
  | n :: _ =>
    let d1 := forEach lim (fun m x => onPhase m (fun f => { f with
      limited := sat 0xFFFF (f.limited + 1), event := if l.run = 256 then setBit f.event 4 else f.event }) x) d
    let d2 := onLoop p (fun l => { l with run := 0, lc := sat 8191 (l.lc + 1) }) d1
    let allowed := if l.ramping || l.softStart then (loopCfg d p).nStart else (loopCfg d p).nRun
    onlyIf (decide (allowed < l.lc + 1)) (post (.limitAllowanceExceeded p n)) d2

/-- One cycle of a port (05 R192 to R216; log entry 40). -/
def portCycle (p : Fin 32) (d : Dev) : Dev :=
  let l := d.loops[p]
  let k := loopCfg d p
  let ns := goingPhases d p
  let free (i : Nat) : Word := Config.freeWord (d.freeCtr + i)
  let vc := clampVc (bits (free 0) 0 16)
  let ith := ithOf vc
  let forced := l.deForced && decide (refNow d l ≤ bits (free 0) 16 14)
  let suspended := l.ramping && (l.rampFor == .offRamp || decide (l.target < l.ref))
  let skips := skipsPulses d p k ith
  let d1 := { onLoop p (fun l => { l with vc := vc, skipping := skips, deForced := forced }) d with freeCtr := d.freeCtr + 1 + 2 * ns.length }
  if ns.isEmpty then d1
  else if skips then forEach ns (fun n => onPhase n fun f => { f with dutyA := 0, dutyB := 0, de := false }) d1
  else
    let x : CycleIn := { cfg := k, region := l.region, ith := ith, deOn := forced || (k.lflags.getLsbD 0 && !suspended), suspended := suspended }
    let outs := ns.zipIdx.map fun a => (a.1, phaseCycle x ((d.cfg.phases[a.1]).getD {}) (free (1 + 2 * a.2)) (free (2 + 2 * a.2)) d.phases[a.1])
    let d2 := forEach outs (fun o => onPhase o.1 fun _ => o.2.phase) d1
    if outs.any fun o => o.2.pulse then countCycle p ((outs.filter fun o => o.2.limited).map Prod.fst) d2 else d2

/-- A port whose phases take cycles: it switches, its bus is in range and no truncation acts (05 R189, R214, R225). -/
def cycles (d : Dev) (p : Fin 32) : Bool := (d.loops[p]).switching && !(d.loops[p]).trunc && !(d.loops[p]).vinLow && !legsOpen d

/-- The frames of ports that begin between two instants of TB each take their cycle (05 R192). -/
def tickLoops (since : Nat) (d : Dev) : Dev :=
  forEach ((indices 32).filter fun p => cycles d p && framePos d p since / 256 != framePos d p d.tmr.tb / 256) portCycle d

end Sys2Proof.Machine
end

