-- ==== Sys2Proof/Machine/Tap.lean ====
section
/-! DEFINITION. The JTAG port (16 R599): boundary scan. No row of the command table drives it, and the board ties TRST# low in service, which
holds it in reset; these operations say what its pins do (log entry 45). -/

namespace Sys2Proof.Machine

/-- IDCODE: version 2 for stepping B, part 0x3264, no manufacturer code. -/
def tapIdcode : Nat := 0x23264001

/-- TRST# (16 R599): low holds the TAP in reset, and boundary scan ends. -/
def tapReset (low : Bool) (d : Dev) : Dev :=
  { d with tap := if low then {} else { d.tap with trstLow := false } }

/-- EXTEST turns the feeds and the guards off; their channels and states go on. -/
def tapOff (d : Dev) : Dev :=
  forEach (indices 32) (fun p x => onGuard p (fun g => { g with discharge := false }) (openGuard p 0 x))
    (forEach ((indices 4).filter fun f => gateDriven (d.feeds[f])) feedToWait d)

/-- An instruction takes effect; none does while TRST# is low. -/
def tapLoad (i : TapInstr) (d : Dev) : Dev :=
  if d.tap.trstLow then d
  else
    let d1 := { d with tap := { d.tap with instr := i } }
    if i = .extest then tapOff d1 else d1

/-- What TDO shifts out after a data register is captured: the identification under IDCODE, the single 0 of the bypass register under BYPASS; under
SAMPLE/PRELOAD and EXTEST the cells of the IO-class digital balls, whose order the spec does not give. -/
def tapCapture (d : Dev) : Option Nat :=
  match d.tap.instr with
  | .idcode => some tapIdcode
  | .bypass => some 0
  | .sample | .extest => none

end Sys2Proof.Machine
end

