-- ==== Sys2Proof/Machine/Tick.lean ====
section
/-! DEFINITION. What one tick of the time base does on an empty queue (log entry 1): TB, the always-on counter, alarms, interval timers, running timers, the journal writer, the command rings. -/

namespace Sys2Proof.Machine

/-- The increment of TB at a tick (10 R404): 1, with one extra or one omitted increment at evenly spread ticks under steering, in
hundredths of a ppm. -/
def tbIncrement (t : Timers) : Nat × Nat :=
  if t.steer = 0 then (1, 0)
  else if 100000000 / t.steer.natAbs ≤ t.sinceSteer + 1 then (if 0 < t.steer then (2, 0) else (0, 0))
  else (1, t.sinceSteer + 1)

/-- TB counts one tick (10 R404), and each die counts its replica (01 R28, 10 R406). -/
def tickTb (d : Dev) : Dev :=
  let k := tbIncrement d.tmr
  onTmr (fun t => { t with tb := (t.tb + k.1) % 2 ^ 64, sinceSteer := k.2, replicas := t.replicas.map fun r => (r + 1) % 2 ^ 64 }) d

/-- The always-on counter counts 32.768 kHz beside the ticks of 20 ns (01, always-on island; log entry 7). -/
def tickAon (d : Dev) : Dev :=
  let f := d.sys.aonFrac + 4096
  onSys (fun s => if 6250000 ≤ f then { s with aonFrac := f - 6250000, aon := wrapInc 48 s.aon } else { s with aonFrac := f }) d

/-- One alarm at a tick (10 R411): a cancel takes effect unless the alarm fires. -/
def tickAlarm (d : Dev) (i : Fin 32) (a : Alarm) : Alarm :=
  if a.cancelIn = 0 then a
  else if a.cancelIn = 1 then { a with cancelIn := 0, armed := a.armed && alarmDue d i }
  else { a with cancelIn := a.cancelIn - 1 }

/-- The reload buffer of an interval timer at a tick (10 R414). -/
def tickReload (x : Itm) : Itm :=
  match x.newReload with
  | none => x
  | some (v, k) => if k ≤ 1 then { x with reload := v, newReload := none, cut := x.clamp } else { x with newReload := some (v, k - 1) }

/-- The count of a RUNNING interval timer at a tick (10 R413, R414). -/
def tickCount (x : Itm) : Itm :=
  if x.state != .running then { x with cut := false }
  else if x.load || x.count = 0 then { x with count := x.reload - 1, load := false, cut := false }
  else { x with count := if x.cut then min (x.count - 1) (x.reload - 1) else x.count - 1, cut := false }

/-- A STOP takes effect (10 R415, R417). -/
def tickStop (x : Itm) : Itm := { x with stopIn := 0, startDue := false, load := false, state := if x.hold then .held else .stopped }

/-- A start trigger takes effect at the tick after its launch (10 R416). -/
def tickStart (x : Itm) : Itm :=
  if !x.startDue then x
  else match x.state with
    | .held => { x with startDue := false }
    | .stopped => startNow { x with startDue := false }
    | .running => startNow { x with startDue := false }

/-- One interval timer at a tick: whether it reaches 0, and what it becomes (10 R412 to R417). -/
def tickItm (x : Itm) : Bool × Itm :=
  let y := tickCount { x with started := false }
  if x.stopIn = 1 then (false, tickReload (tickStop y))
  else
    (x.state == .running && !x.load && x.count != 0 && y.count == 0,
      tickReload (tickStart { y with stopIn := y.stopIn - 1 }))

/-- A TMR_GO takes effect two ticks after its write (10 R421, R422). -/
def tickGo (d : Dev) : Dev :=
  let t := d.tmr
  if t.goEffect = 0 then (if t.goPending && !isAhead d t.goArmed then post .tmrGoDatedRelease d else d)
  else if t.goEffect = 1 then
    let d1 := onTmr (fun t => { t with goEffect := 0 }) d
    if !t.goPending then goRelease t.goMask d1
    else if isAhead d t.goAt then onTmr (fun t => { t with goArmed := t.goAt }) d1
    else tmrEvent 2 (onTmr (fun t => { t with goPending := false }) d1)
  else onTmr (fun t => { t with goEffect := t.goEffect - 1 }) d

/-- The writer takes up the next held record once the credit covers it (15 R579). -/
def tickJournal (d : Dev) : Dev :=
  match d.jrn.buffer with
  | [] => d
  | r :: _ =>
    if d.sys.storeOk && jrnOpen d && decide (r.bytes.length ≤ jrnCredit d) && !timerRuns d .journalProgram then post .journalProgram d else d

/-- A command ring whose next entry the device may fetch now is served, in ring order (12 R473, R479). -/
def tickFetch (d : Dev) : Dev := forEach ((indices 16).filter (fetchReady d)) refetch d

/-- The always-on island counts alone while the hub is in reset, without supply or DORMANT; the wake timer expires (15 R566, R567). -/
def tickAsleep (d : Dev) : Dev :=
  let d1 := tickAon d
  let r := d1.sys.ret
  if d.sys.mode == .dormant && r.wakeTimer != 0 && d1.sys.aon == (r.aonAtEntry + 32768 * r.wakeTimer) % 2 ^ 48 && d1.sys.aon != d.sys.aon then
    post .wakeTimerExpiry d1
  else d1

/-- Due events of the running timers join the queue. -/
def takeDue (s : State) : State :=
  let due := s.dev.timers.filter fun t => decide (t.1 ≤ s.dev.tmr.tb)
  if due.isEmpty then s
  else { dev := { s.dev with timers := s.dev.timers.filter fun t => !decide (t.1 ≤ s.dev.tmr.tb) }, pending := s.pending ++ due.map Prod.snd }

/-- Censuses that are due start as their buses and ports allow (05 R194, R198); a SHADOW runs none (09 R373). -/
def tickCensus (d : Dev) : Dev := onlyIf (!isShadow d && (indices 64).any fun n => (d.phases[n]).due) (forEach (indices 4) censusNext) d

/-- One tick while the hub runs. -/
def tickAwake (d : Dev) : Dev :=
  let d1 := tickCensus (tickLoops d.tmr.tb (tickAon (tickTb d)))
  let fires := (indices 32).filter fun a => alarmDue d1 a
  let d2 := { d1 with alarms := updAll d1.alarms (tickAlarm d1) }
  let zeros := (indices 16).filter fun t => (tickItm d1.itms[t]).1
  let d3 := tickGo { d2 with itms := updAll d2.itms fun _ x => (tickItm x).2 }
  tickFetch (tickJournal (forEach zeros (fun t x => post (.itmZero t) x) (forEach fires (fun a x => post (.alarmFire a false) x) d3)))

/-- One tick (10 R404; log entry 1). -/
def tick (s : State) : State :=
  if s.dev.sys.inReset || s.dev.sys.mode == .dormant then takeDue { s with dev := tickAsleep s.dev }
  else takeDue { s with dev := tickAwake s.dev }

end Sys2Proof.Machine
end

