-- ==== Sys2Proof/Safety.lean ====
section
/-! DEFINITION. What a claim says of a command and of a block: a command completes with an effect, and a block's memories are in their canonical form. -/

namespace Sys2Proof.Machine

/-- A command completes: it answers a next state, the queue is as it was, and the block it leaves has the property. -/
def Completes (c : Instr) (s : State) (P : Dev → Prop) : Prop := ∃ d, exec c s = .next { s with dev := d } ∧ P d

/-- A raise of a source now only latches, counts and reports: the action it has at its next event is NONE (11 R436, 02 R91), and the link of its
die, if it needs one, is up (01 R631). -/
def Quiet (d : Dev) (n : Fin 768) : Prop := (takeLater d.sources[n]).action = 0 ∧ lostLink d n = none

/-- The parts of a block. -/
inductive Part where
  | cfg | cfgNew | ports | pd | guards | loops | phases | chans | groups | convs | feeds | posts | ledger | twin | tmr | alarms | itms | sources
  | coll | host | net | upd | store | jrn | sys | loss | tap | ringMem | parcel | timers
  deriving DecidableEq, Repr

/-- The twin block but for what the mirror link notes of every command (09 R381 to R383, R388): frames sent, their load, eligibility and
the events of its change. -/
def Twin.core (t : Twin) : Twin := { t with sent := [], loadLog := [], eligible := false, event := 0 }

/-- A part of two blocks is the same. -/
def Part.same (a b : Dev) : Part → Prop
  | .cfg => b.cfg = a.cfg
  | .cfgNew => b.cfgNew = a.cfgNew
  | .ports => b.ports = a.ports
  | .pd => b.pd = a.pd
  | .guards => b.guards = a.guards
  | .loops => b.loops = a.loops
  | .phases => b.phases = a.phases
  | .chans => b.chans = a.chans
  | .groups => b.groups = a.groups
  | .convs => b.convs = a.convs
  | .feeds => b.feeds = a.feeds
  | .posts => b.posts = a.posts
  | .ledger => b.ledger = a.ledger
  | .twin => b.twin.core = a.twin.core
  | .tmr => b.tmr = a.tmr
  | .alarms => b.alarms = a.alarms
  | .itms => b.itms = a.itms
  | .sources => b.sources = a.sources
  | .coll => b.coll = a.coll
  | .host => b.host = a.host
  | .net => b.net = a.net
  | .upd => b.upd = a.upd
  | .store => b.store = a.store
  | .jrn => b.jrn = a.jrn
  | .sys => b.sys = a.sys
  | .loss => b.loss = a.loss
  | .tap => b.tap = a.tap
  | .ringMem => b.ringMem = a.ringMem
  | .parcel => b.parcel = a.parcel
  | .timers => b.timers = a.timers

/-- Nothing of a block changed but the parts of a list (and the model's own count of free values). -/
def SameBut (l : List Part) (a b : Dev) : Prop := ∀ x, x ∉ l → x.same a b

/-- Of the ports, their protocol engines, guards and loops, only those of port p changed. -/
def OnlyPort (p : Fin 32) (a b : Dev) : Prop :=
  ∀ q : Fin 32, q ≠ p → b.ports[q] = a.ports[q] ∧ b.pd[q] = a.pd[q] ∧ b.guards[q] = a.guards[q] ∧ b.loops[q] = a.loops[q]

/-- Of a port other than the one a division starts from, only its hand, the termination of SinkTxNG, the count and the marks of its offers and its
discharge driver changed (04 R141, R152 to R156). -/
def HandsOnly (p : Fin 32) (a b : Dev) : Prop :=
  ∀ q : Fin 32, q ≠ p → b.loops[q] = a.loops[q] ∧ b.guards[q] = { a.guards[q] with discharge := (b.guards[q]).discharge } ∧
    b.ports[q] = { a.ports[q] with
      hand := (b.ports[q]).hand, pend := (b.ports[q]).pend, rp := (b.ports[q]).rp, rd := (b.ports[q]).rd, ccCut := (b.ports[q]).ccCut
      capsSent := (b.ports[q]).capsSent, eprMode := (b.ports[q]).eprMode, ppsLimited := (b.ports[q]).ppsLimited }

/-- A message on SOP joined the transmit queue of a port (04 R139). -/
def Sends (p : Fin 32) (k : PdKind) (w : List Word) (a b : Dev) : Prop :=
  (b.pd[p]).txQueue = (a.pd[p]).txQueue ++ [{ sop := 0, kind := k, data := w, tries := 0 }]

/-- A command that a port answers with one message on SOP, and that changes nothing beside that port's protocol engine and its timers. -/
def AnswersWith (p : Fin 32) (k : PdKind) (w : List Word) (c : Instr) (s : State) : Prop :=
  Completes c s fun d => Sends p k w s.dev d ∧ SameBut [.pd, .timers] s.dev d ∧ OnlyPort p s.dev d

/-- The owner changed (12 R495, R496): it is counted and shown, and the uncompleted commands that the change discards are accepted no more. -/
def OwnerChanges (o : Option (Fin 5)) (a b : Dev) : Prop :=
  b.host.owner = o ∧ b.host.changes = wrapInc 16 a.host.changes ∧ b.host.event.getLsbD 0 = true ∧
  ∀ j, j ∈ a.host.jobs → ownerDiscards a j = true → ∀ k, k ∈ b.host.jobs → k.ref ≠ j.ref

/-- A full lease runs from now (12 R493). -/
def FullLease (a b : Dev) : Prop :=
  b.host.leaseEnd = a.tmr.tb + ticksOfMs a.cfg.host.lease ∧ (a.tmr.tb + ticksOfMs a.cfg.host.lease, Instr.leaseExpiry) ∈ b.timers ∧
  (a.tmr.tb + 3 * ticksOfMs a.cfg.host.lease / 4, Instr.leaseWarn) ∈ b.timers

/-- Of the host interface only what it keeps of one master changed (12 R461, R498). -/
def OnlyMaster (m : Fin 5) (a b : Dev) : Prop :=
  b.host = { a.host with masters := b.host.masters } ∧ ∀ k : Fin 5, k ≠ m → b.host.masters[k] = a.host.masters[k]

/-- A configuration is in force, but for the PORT, LOOP and PHASE_MAP records that attached ports keep (02 R85, R86). -/
def InForce (new : ImageCfg) (b : Dev) : Prop :=
  b.cfgNew = new ∧ b.cfg = { new with ports := b.cfg.ports, loops := b.cfg.loops, phases := b.cfg.phases }

/-- A frame of this device left on a link, under its own number and name (08 R316). -/
def SentOn (l : Fin 3) (o : PostOut) (a b : Dev) : Prop :=
  (l, (⟨a.ledger.seq, 0, seatKey a, a.ledger.discordant, a.store.postmark⟩ : PostHdr), o) ∈ b.ledger.sent

/-- What a command of the ledger leaves: ports, guards, loops and feeds, the configuration and its store. -/
def PowerStill (a b : Dev) : Prop :=
  b.ports = a.ports ∧ b.guards = a.guards ∧ b.loops = a.loops ∧ b.cfg = a.cfg ∧ b.cfgNew = a.cfgNew ∧ b.store = a.store ∧ b.sys = a.sys ∧
  b.net = a.net ∧ b.upd = a.upd

/-- A block whose four memories are in their canonical form: ring memory (12 R471), the parcel buffer (14 R555), the staging window and
the report window (02 R93). -/
def Dev.memWf (d : Dev) : Prop :=
  Memory.wf d.ringMem = true ∧ Memory.wf d.parcel = true ∧ Memory.wf d.store.stage = true ∧ Memory.wf d.store.report = true

/-- Inv of the block: its memories are canonical. -/
def State.inv (s : State) : Prop := s.dev.memWf

end Sys2Proof.Machine
end

