-- ==== Sys2Proof/Certificates/Slice0/Obligations.lean ====
section
/-! DEFINITION. The statements of this model: what the commands of each family do, what they leave, and the rules of the whole block.
What every statement about a time or an order of events rests on is the model's own: timers run their nominal time (log entry 7), commands take effect
in the order of the queue (entry 6), frames are records (entry 10), the operands of the commands are the model's (entry 11). -/

set_option linter.unusedVariables false

open Sys2Proof Sys2Proof.Machine

/-- The step takes the command at the front of the queue and runs it on the state with the rest of the queue. -/
def Obligations.StepRunsTheFrontCommand : Prop := ∀ (c : Instr) (rest : List Instr) (s : State), s.pending = c :: rest → step s = exec c { s with pending := rest }

/-- Every command answers a next state, and leaves the queue as it was. -/
def Obligations.EveryCommandAnswersAndKeepsTheQueue : Prop := ∀ (c : Instr) (s : State), ∃ d, exec c s = .next { s with dev := d }

/-- 10 R404 and log entry 1 (the model's choice): on an empty queue one step is one tick. Awake, TB counts by one without steering, the event of every
timer that is due joins the queue, and the others go on; in reset or DORMANT the time base and all it drives stand. -/
def Obligations.EmptyQueueCountsOneTick : Prop := ∀ (s : State), s.pending = [] →
  (s.dev.sys.inReset = false → s.dev.sys.mode ≠ .dormant → s.dev.host.hostLoaded = false → s.dev.tmr.steer = 0 → ∃ t, step s = .next t ∧
    t.dev.tmr.tb = (s.dev.tmr.tb + 1) % 2 ^ 64 ∧ (∀ x ∈ s.dev.timers, x.1 ≤ t.dev.tmr.tb → x.2 ∈ t.pending ∧ x ∉ t.dev.timers) ∧
    (∀ x ∈ s.dev.timers, t.dev.tmr.tb < x.1 → x ∈ t.dev.timers) ∧ t.dev.ports = s.dev.ports ∧ t.dev.guards = s.dev.guards ∧ t.dev.cfg = s.dev.cfg) ∧
  (s.dev.sys.inReset = true ∨ s.dev.sys.mode = .dormant → ∃ t, step s = .next t ∧ t.dev.tmr = s.dev.tmr ∧ t.dev.itms = s.dev.itms ∧
    t.dev.alarms = s.dev.alarms ∧ t.dev.sys.ret = s.dev.sys.ret ∧
    (s.dev.sys.aonFrac + 4096 < 6250000 → t.dev.sys.aon = s.dev.sys.aon ∧ t.dev.sys.aonFrac = s.dev.sys.aonFrac + 4096) ∧
    (6250000 ≤ s.dev.sys.aonFrac + 4096 → t.dev.sys.aon = wrapInc 48 s.dev.sys.aon))

/-- 12 R471, R501; 11 R442; 10 R404, 12 R498, 02 R93, 14 R555: what the machine is right after reset: BOOT before its first step,
TB at 0, no owner, no ring enabled or moved, no fault latched, no timer running, no command waiting, and four empty memories in canonical form. -/
def Obligations.ResetLeavesTheBlockInBoot : Prop :=
  State.reset.pending = [] ∧ State.reset.dev.sys.mode = .boot ∧ State.reset.dev.sys.bootStep = 1 ∧ State.reset.dev.tmr.tb = 0 ∧
  State.reset.dev.host.owner = none ∧ State.reset.dev.host.successor = none ∧ State.reset.dev.host.event = 0 ∧ State.reset.dev.timers = [] ∧
  (∀ r : Fin 16, (State.reset.dev.host.rings[r]).head = 0 ∧ (State.reset.dev.host.rings[r]).tail = 0 ∧ (State.reset.dev.host.rings[r]).en = false) ∧
  (∀ n : Fin 768, (State.reset.dev.sources[n]).latch = false ∧ (State.reset.dev.sources[n]).count = 0) ∧
  (∀ p : Fin 32, guardOn (State.reset.dev.guards[p]) = false) ∧ State.inv State.reset

/-- 12 R477, R482: every ring command whose operands fit its fields is read back from its own entry, whatever WAIT bit the entry carries. -/
def Obligations.RingEntriesDecodeAsEncoded : Prop := ∀ (i : Instr) (wait : Bool) (e : List Byte), encodeEntry wait i = some e → entryFits i = true →
  e.length = 64 ∧ byteAt e 2 = b2n wait ∧ ∃ c, c.tag.toNat = fieldAt e 4 4 ∧ decodeEntry c e = some i

/-- The model's canonical form of ring memory, parcel buffer, staging and report windows (12 R471, 14 R555, 02 R93) is kept by every step, of a
command or of the time base, from every state that has it. -/
def Obligations.MemoriesStayCanonical : Prop := ∀ (s t : State), s.inv → step s = .next t → t.inv

/-- 12 R492: the cases in which a claim has no effect and sets CLAIM_REFUSED, and the second claim of a master in an open window. Of SYS_EVENT bit 6
is CLAIM_REFUSED (12 R498); without the HOST section MFLAGS of no master is 1 to the block.
The command claim answers a next state here. -/
def Obligations.RefusedClaimsHaveNoEffect : Prop := ∀ (s : State) (m : Fin 5),
  ((masterCfg s.dev m).mayClaim = false ∨ s.dev.host.owner ≠ none ∨ s.dev.host.hostLoaded = false ∨ s.dev.sys.deadcar = true ∨ s.dev.sys.mode = .recovery →
    ∃ d, exec (.claim m) s = .next { s with dev := d } ∧ (d.host = { s.dev.host with event := setBit s.dev.host.event 6 } ∧ SameBut [.host] s.dev d)) ∧
  ((masterCfg s.dev m).mayClaim = true → s.dev.host.owner = none → s.dev.host.hostLoaded = true → s.dev.sys.deadcar = false → s.dev.sys.mode ≠ .recovery →
    s.dev.host.window = true → (s.dev.host.masters[m]).claiming = true → ∃ d, exec (.claim m) s = .next { s with dev := d } ∧ (SameBut [] s.dev d))

/-- 10 R408: a past compare value with LATE_FIRE at 0 sets MISSED, delivers no trigger and leaves the alarm IDLE; with LATE_FIRE at 1 the alarm fires
at E, the tick of the commit, with LATE set, and its trigger is launched; LATE_FIRE resets to AFLAGS bit 0 of the alarm's record, or to 0 without one.
The command alarmCommit answers a next state here. -/
def Obligations.PastCompareMissesOrFiresLate : Prop :=
  (∀ (s : State) (a : Fin 32) (h : Nat), (s.dev.alarms[a]).commitHi = some h → isAhead s.dev ((s.dev.alarms[a]).commitLo + h * 2 ^ 32) = false →
    ((s.dev.alarms[a]).late = false → ∃ d, exec (.alarmCommit a) s = .next { s with dev := d } ∧ ((d.alarms[a]).missed = true ∧ (d.alarms[a]).armed = false ∧
      (d.alarms[a]).fires = (s.dev.alarms[a]).fires ∧ d.tmr.fired = s.dev.tmr.fired ∧ SameBut [.alarms, .timers, .tmr] s.dev d)) ∧
    ((s.dev.alarms[a]).late = true → ∃ d, exec (.alarmCommit a) s = .next { s with dev := d } ∧ ((d.alarms[a]).wasLate = true ∧ (d.alarms[a]).armed = false ∧
      (d.alarms[a]).fireTb = s.dev.tmr.tb ∧ (d.alarms[a]).fires = sat 0xFFFF ((s.dev.alarms[a]).fires + 1) ∧ d.tmr.fired.getLsbD a.val = true ∧
      (∀ t : Fin 16, (s.dev.alarms[a]).tkind = 3 → (s.dev.alarms[a]).tindex = t.val → (d.itms[t]).startDue = true) ∧ d.cfg = s.dev.cfg))) ∧
  (∀ (new : ImageCfg) (d : Dev) (a : Fin 32), ((applyBoot new d).alarms[a]).late = (match new.alms[a] with | some c => c.late | none => false))

/-- 01 R21, R22, R24, R29, R34, R630, R631, 10 R406, 11 R433: what the edge links and the checks of the clocks do. A frame with a bad CRC changes
nothing but the count of retransmissions. A lost link retrains, raises its source and freezes the ports of its die; a retrained one is up
and its condition is over. The unconfirmed commands of a die are applied when its link is back.
Each of these commands answers a next state here: edgeLinkCrcError, edgeLinkLost, edgeLinkRetrained, lossQueueDrained, edgeDieMinimalTimeout,
feedLinkHold, clockCheckFail, tbSyncFrame. -/
def Obligations.EdgeLinksFreezeAndReturn : Prop := ∀ (s : State) (l : Fin 5) (e : Fin 4) (k : ClockId),
  (s.dev.sys.edgeUp[l] = true →
    ∃ d, exec (.edgeLinkCrcError l) s = .next { s with dev := d } ∧ (d.sys.crcRetries[l] = inc8 s.dev.sys.crcRetries[l] ∧ d.ports = s.dev.ports ∧
      d.loops = s.dev.loops ∧ d.guards = s.dev.guards ∧ d.phases = s.dev.phases ∧ d.sources = s.dev.sources ∧ d.timers = s.dev.timers)) ∧
  (s.dev.sys.edgeUp[l] = true → Quiet s.dev (srcLinkLoss l) →
    ∃ d, exec (.edgeLinkLost l) s = .next { s with dev := d } ∧ (d.sys.edgeUp[l] = false ∧ d.sys.retraining[l] = true ∧ (d.sources[srcLinkLoss l]).latch = true ∧
      d.ports = s.dev.ports ∧ d.loops = s.dev.loops ∧ ∀ p : Fin 32, ∃ v, d.guards[p] = { s.dev.guards[p] with evSeen := v })) ∧
  (s.dev.sys.retraining[l] = true →
    ∃ d, exec (.edgeLinkRetrained l) s = .next { s with dev := d } ∧ (d.sys.edgeUp[l] = true ∧ d.sys.retraining[l] = false ∧ (d.sources[srcLinkLoss l]).cond = false ∧
      (d.sources[srcLinkLoss l]).latch = (s.dev.sources[srcLinkLoss l]).latch ∧ d.ports = s.dev.ports)) ∧
  (∀ p ma, s.dev.sys.edgeUp[linkOf (edgeOf p)] = true → s.dev.loss.queue[linkOf (edgeOf p)] = [] → s.dev.loss.marks = [] →
    s.dev.loss.unconfirmed = [(p, .currentLimit ma)] → portMinimal s.dev p = false →
    ∃ d, exec (.lossQueueDrained (linkOf (edgeOf p))) s = .next { s with dev := d } ∧ ((d.loops[p]).limitMa = some ma ∧ d.loss.unconfirmed = [] ∧
      d.loss.queue[linkOf (edgeOf p)] = [])) ∧
  (s.dev.sys.inReset = false → s.dev.sys.edgeOn[e] = true → s.dev.sys.mode = .service → (∃ f, f ≠ e ∧ s.dev.sys.edgeMin[f] = false) →
    Quiet s.dev (srcEdgeMinimal e) →
    ∃ d, exec (.edgeDieMinimalTimeout e) s = .next { s with dev := d } ∧ (d.sys.edgeMin[e] = true ∧ d.sys.mode = .service)) ∧
  (∃ d, exec .feedLinkHold s = .next { s with dev := d } ∧ (∀ f : Fin 4, (d.feeds[f]).hubLost = true ∧ (d.feeds[f]).state = (s.dev.feeds[f]).state ∧
    (d.feeds[f]).diodeOn = (s.dev.feeds[f]).diodeOn ∧ (d.feeds[f]).pg = (s.dev.feeds[f]).pg)) ∧
  (Quiet s.dev (srcClock k) → (∀ c, k ≠ .edge c) →
    ∃ d, exec (.clockCheckFail k) s = .next { s with dev := d } ∧ ((d.sources[srcClock k]).latch = true ∧ d.ports = s.dev.ports)) ∧
  (Quiet s.dev (srcClock (.edge e)) → Quiet s.dev (srcLinkLoss (linkOf e)) →
    ∃ d, exec (.clockCheckFail (.edge e)) s = .next { s with dev := d } ∧ (d.sys.edgeUp[linkOf e] = false ∧
      ∀ p, edgeOf p = e → (d.guards[p]).state ≠ .closed ∧ (d.loops[p]).switching = false)) ∧
  (s.dev.sys.edgeUp[l] = true →
    ∃ d, exec (.tbSyncFrame l) s = .next { s with dev := d } ∧ (d.tmr = { s.dev.tmr with replicas := s.dev.tmr.replicas.set l s.dev.tmr.tb } ∧ d.ports = s.dev.ports))

/-- 01 R20, R29, R36, 04 R162: a command of the hub that reaches an edge die with its link up is applied at once, a fence raise at once and a
lowering when VBUS has come down; a port in minimal mode keeps its die's state; over a lost link, or behind an unconfirmed command of its port, the command waits
unconfirmed.
The command edgeControlFrame answers a next state here. -/
def Obligations.EdgeCommandsReachTheDie : Prop := ∀ (s : State) (p : Fin 32) (k : EdgeCmd),
  (s.dev.sys.edgeUp[linkOf (edgeOf p)] = true → (∀ x ∈ s.dev.loss.unconfirmed, x.1 ≠ p) → portMinimal s.dev p = false →
    (∀ mv, k = .fence mv → (s.dev.ports[p]).fence ≤ mv → ∃ d, exec (.edgeControlFrame p k) s = .next { s with dev := d } ∧ ((d.ports[p]).fence = mv ∧ (d.ports[p]).fencePend = none ∧ d.loops = s.dev.loops ∧ d.guards = s.dev.guards)) ∧
    (∀ mv, k = .fence mv → mv < (s.dev.ports[p]).fence → ∃ d, exec (.edgeControlFrame p k) s = .next { s with dev := d } ∧ ((d.ports[p]).fence = (s.dev.ports[p]).fence ∧ (d.ports[p]).fencePend = some mv ∧ d.loops = s.dev.loops)) ∧
    (∀ mv, k = .reference mv .down → ∃ d, exec (.edgeControlFrame p k) s = .next { s with dev := d } ∧ ((d.loops[p]).target = refCode mv ∧ (d.loops[p]).ramping = true ∧ (d.loops[p]).slew = (diePort s.dev p).slewDn ∧ d.ports = s.dev.ports)) ∧
    (∀ ma, k = .currentLimit ma → ∃ d, exec (.edgeControlFrame p k) s = .next { s with dev := d } ∧ ((d.loops[p]).limitMa = some ma ∧ d.ports = s.dev.ports ∧ d.guards = s.dev.guards)) ∧
    (∀ b, k = .vconnOn b → ∃ d, exec (.edgeControlFrame p k) s = .next { s with dev := d } ∧ ((d.ports[p]).vconnOn = true ∧ (d.ports[p]).vconnPin = b ∧ d.loops = s.dev.loops)) ∧
    (k = .vconnOff → ∃ d, exec (.edgeControlFrame p k) s = .next { s with dev := d } ∧ ((d.ports[p]).vconnOn = false ∧ d.loops = s.dev.loops)) ∧
    (k = .guardOpen → ∃ d, exec (.edgeControlFrame p k) s = .next { s with dev := d } ∧ (guardOn (d.guards[p]) = false ∧ d.ports = s.dev.ports))) ∧
  (s.dev.sys.edgeUp[linkOf (edgeOf p)] = true → (∀ x ∈ s.dev.loss.unconfirmed, x.1 ≠ p) → portMinimal s.dev p = true →
    ∃ d, exec (.edgeControlFrame p k) s = .next { s with dev := d } ∧ (d.ports = s.dev.ports ∧ d.loops = s.dev.loops ∧ d.guards = s.dev.guards)) ∧
  (s.dev.sys.edgeUp[linkOf (edgeOf p)] = false ∨ (∃ x ∈ s.dev.loss.unconfirmed, x.1 = p) →
    ∃ d, exec (.edgeControlFrame p k) s = .next { s with dev := d } ∧ (d.loss.unconfirmed = s.dev.loss.unconfirmed ++ [(p, k)] ∧ d.ports = s.dev.ports ∧
      d.loops = s.dev.loops ∧ d.guards = s.dev.guards))

/-- 02 R81 to R84, R96, 12 R482, R483: the store checks a staged image. IMAGE_CHECK, IMAGE_STORE and AMEND_APPLY lock the staging window and set
CHECK RUNNING; the end of the check writes the report and refuses, completes, starts the slot write or makes the commit due; the slot holds the
image once written.
Each of these commands answers a next state here: imageCheck, imageStore, amendApply, admissionCheckEnd, imageSlotWritten. -/
def Obligations.ImagesAreCheckedAndStored : Prop := ∀ (s : State) (c : CmdRef) (slot : Fin 4),
  (checkCode480 s.dev c opImageCheck true none = none → ∃ d, exec (.imageCheck c) s = .next { s with dev := d } ∧ (d.store.check = .running ∧ d.store.stageLock = true ∧
    d.host.jobs = s.dev.host.jobs ++ [{ ref := c, opcode := opImageCheck }] ∧ d.store.stage = s.dev.store.stage ∧ d.store.slots = s.dev.store.slots ∧
    SameBut [.host, .store] s.dev d)) ∧
  (checkCode480 s.dev c opImageStore true none = none →
    ((s.dev.store.slots[slot]).state ≠ .active → s.dev.store.switchAt = none → ∃ d, exec (.imageStore c slot) s = .next { s with dev := d } ∧ (d.store.check = .running ∧
      d.store.stageLock = true ∧ d.host.jobs = s.dev.host.jobs ++ [{ ref := c, opcode := opImageStore, arg := slot.val }] ∧
      d.store.slots = s.dev.store.slots ∧ SameBut [.host, .store] s.dev d)) ∧
    ((s.dev.store.slots[slot]).state = .active → ∃ d, exec (.imageStore c slot) s = .next { s with dev := d } ∧ (SameBut [] (complete c opImageStore .switchPending [] s.dev) d))) ∧
  (checkCode480 s.dev c opAmendApply true none = none →
    (s.dev.store.switchAt = none → ∃ d, exec (.amendApply c) s = .next { s with dev := d } ∧ (d.store.check = .running ∧ d.store.stageLock = true ∧
      d.host.jobs = s.dev.host.jobs ++ [{ ref := c, opcode := opAmendApply }] ∧ SameBut [.host, .store] s.dev d)) ∧
    (s.dev.store.switchAt ≠ none → ∃ d, exec (.amendApply c) s = .next { s with dev := d } ∧ (SameBut [] (complete c opAmendApply .switchPending [] s.dev) d))) ∧
  (∀ us j, checkJob s.dev = some j → s.dev.store.check = .running → keyFault s.dev = false →
    ((verdictFor s.dev j.opcode).result ≠ 0 → ∃ d, exec (.admissionCheckEnd us) s = .next { s with dev := d } ∧ (d.store.check = .refused ∧ d.store.stageLock = false ∧
      d.store.slots = s.dev.store.slots ∧ (∀ k, k ∈ d.host.jobs → k.ref ≠ j.ref) ∧
      d.store.report = Memory.writeBytes [] 0 (reportBytes (stagedBytes s.dev) (verdictFor s.dev j.opcode).result (verdictFor s.dev j.opcode).entries s.dev.tmr.tb us) ∧
      SameBut [.host, .store, .ringMem, .jrn, .timers] s.dev d)) ∧
    ((verdictFor s.dev j.opcode).result = 0 → j.opcode = opImageCheck → ∃ d, exec (.admissionCheckEnd us) s = .next { s with dev := d } ∧ (d.store.check = .accepted ∧
      d.store.stageLock = false ∧ d.store.slots = s.dev.store.slots ∧ (∀ k, k ∈ d.host.jobs → k.ref ≠ j.ref) ∧
      SameBut [.host, .store, .ringMem, .jrn, .timers] s.dev d)) ∧
    ((verdictFor s.dev j.opcode).result = 0 → j.opcode = opImageStore → j.arg = slot.val → ∃ d, exec (.admissionCheckEnd us) s = .next { s with dev := d } ∧ (d.store.check = .accepted ∧ d.store.writing = some slot ∧ (d.store.slots[slot]).state = .writing ∧ (d.store.slots[slot]).image = stagedBytes s.dev ∧
      (∀ k : Fin 4, k ≠ slot → d.store.slots[k] = s.dev.store.slots[k]) ∧ SameBut [.host, .store] s.dev d)) ∧
    ((verdictFor s.dev j.opcode).result = 0 → j.opcode = opAmendApply → sameAmend s.dev (stagedBytes s.dev) = false →
      ∃ d, exec (.admissionCheckEnd us) s = .next { s with dev := d } ∧ (d.store.check = .running ∧ d.store.commitDue = true ∧ d.store.stageLock = s.dev.store.stageLock ∧
        (s.dev.tmr.tb, .amendCommit) ∈ d.timers ∧ SameBut [.store, .timers] s.dev d))) ∧
  (s.dev.store.writing = some slot →
    (∀ j, jobOf s.dev opImageStore = some j → ∃ d, exec (.imageSlotWritten true) s = .next { s with dev := d } ∧ ((d.store.slots[slot]).state = .stored ∧
      (d.store.slots[slot]).image = (s.dev.store.slots[slot]).image ∧ d.store.writing = none ∧ d.store.stageLock = false ∧
      (∀ k, k ∈ d.host.jobs → k.ref ≠ j.ref) ∧ SameBut [.host, .store, .ringMem, .jrn, .timers] s.dev d)) ∧
    (jobOf s.dev opImageStore = none → ∃ d, exec (.imageSlotWritten true) s = .next { s with dev := d } ∧ ((d.store.slots[slot]).state = .stored ∧ d.store.writing = none ∧
      SameBut [.store] s.dev d)))

/-- 02 R85 to R92, R51: a switch and an amendment. IMAGE_SWITCH dates the change; at its time the slot is ACTIVE, the former one PREVIOUS and its
configuration in force; an amendment joins the active slot whole, or is refused by its scope.
Each of these commands answers a next state here: imageSwitch, switchEffective, amendCommit. -/
def Obligations.SwitchesAndAmendmentsComeIntoForce : Prop := ∀ (s : State) (c : CmdRef) (slot : Fin 4) (tb : Nat),
  (checkCode480 s.dev c opImageSwitch (switchTimeOk s.dev tb) none = none →
    (s.dev.store.switchAt = none → (s.dev.store.slots[slot]).state = .stored → ∃ d, exec (.imageSwitch c slot tb) s = .next { s with dev := d } ∧ (d.store.switchAt = some (slot, tb) ∧ d.store.slots = s.dev.store.slots ∧ (tb, .switchEffective) ∈ d.timers ∧ d.cfg = s.dev.cfg)) ∧
    (s.dev.store.switchAt = none → (s.dev.store.slots[slot]).state ≠ .stored → ∃ d, exec (.imageSwitch c slot tb) s = .next { s with dev := d } ∧ (SameBut [] (complete c opImageSwitch .state [] s.dev) d)) ∧
    (s.dev.store.switchAt ≠ none → ∃ d, exec (.imageSwitch c slot tb) s = .next { s with dev := d } ∧ (SameBut [] (complete c opImageSwitch .switchPending [] s.dev) d))) ∧
  (tb < s.dev.tmr.tb + 3 * dealTicks s.dev → checkCode480 s.dev c opImageSwitch false none = some .badParam →
    ∃ d, exec (.imageSwitch c slot tb) s = .next { s with dev := d } ∧ (SameBut [] (complete c opImageSwitch .badParam [] s.dev) d)) ∧
  (s.dev.store.switchAt = some (slot, tb) →
    ((s.dev.store.slots[slot]).state = .stored → s.dev.cfg.ledger = (cfgOf (slotSects s.dev.store.slots[slot])).ledger →
      ∃ d, exec .switchEffective s = .next { s with dev := d } ∧ (d.store.switchAt = none ∧ (d.store.slots[slot]).state = .active ∧ d.store.activeSlot = slot ∧
        (∀ k : Fin 4, k ≠ slot → (s.dev.store.slots[k]).state = .active → (d.store.slots[k]).state = .previous) ∧
        (∀ k : Fin 4, k ≠ slot → (s.dev.store.slots[k]).state = .previous → (d.store.slots[k]).state = .stored) ∧
        d.store.serial = slotSerial s.dev.store.slots[slot] ∧ d.store.admitted = true ∧ InForce (cfgOf (slotSects s.dev.store.slots[slot])) d)) ∧
    ((s.dev.store.slots[slot]).state ≠ .stored → ∃ d, exec .switchEffective s = .next { s with dev := d } ∧ (d.store.switchAt = none ∧ d.store.slots = s.dev.store.slots ∧
      SameBut [.store, .timers] s.dev d))) ∧
  (s.dev.store.commitDue = true → sameAmend s.dev (stagedBytes s.dev) = false → (verdictFor s.dev opAmendApply).result = 0 → keyFault s.dev = false →
    (∀ j e, jobOf s.dev opAmendApply = some j → scopeEntry s.dev (stagedBytes s.dev) (verdictFor s.dev opAmendApply) false = some e →
      ∃ d, exec .amendCommit s = .next { s with dev := d } ∧ (d.store.check = .refused ∧ d.store.commitDue = false ∧ d.store.stageLock = false ∧
        d.store.slots = s.dev.store.slots ∧ d.cfg = s.dev.cfg ∧ (∀ k, k ∈ d.host.jobs → k.ref ≠ j.ref))) ∧
    (jobOf s.dev opAmendApply = none → scopeEntry s.dev (stagedBytes s.dev) (verdictFor s.dev opAmendApply) true = none →
      s.dev.cfg.ledger = (verdictFor s.dev opAmendApply).cfg.ledger → ∃ d, exec .amendCommit s = .next { s with dev := d } ∧ ((d.store.slots[s.dev.store.activeSlot]).amends = (s.dev.store.slots[s.dev.store.activeSlot]).amends ++ [stagedBytes s.dev] ∧
        d.store.activeSlot = s.dev.store.activeSlot ∧ d.store.commitDue = false ∧ InForce (verdictFor s.dev opAmendApply).cfg d)))

/-- 02 R46 to R50, 12 R485: floors and keys in OTP. IMAGE_FLOOR, KEY_ENROL and KEY_REVOKE start a write that can no longer be undone; when it is done the
serial joins the floors, the key is enrolled with its hash, or it is revoked. A full floor list, a slot that is not blank and the last key are
refused with STATE.
Each of these commands answers a next state here: imageFloor, keyEnrol, keyRevoke, otpWriteDone. -/
def Obligations.FloorsAndKeysAreWritten : Prop := ∀ (s : State) (c : CmdRef) (slot signer : Fin 4),
  (checkCode480 s.dev c opImageFloor true none = none →
    (s.dev.store.floors.length < 64 → ∃ d, exec (.imageFloor c) s = .next { s with dev := d } ∧ (d.store.otpWrite = some (0, 0) ∧ d.store.floors = s.dev.store.floors ∧
      d.host.jobs = s.dev.host.jobs ++ [{ ref := c, opcode := opImageFloor, arg := 0, begun := true }] ∧ SameBut [.host, .store] s.dev d)) ∧
    (64 ≤ s.dev.store.floors.length → ∃ d, exec (.imageFloor c) s = .next { s with dev := d } ∧ (SameBut [] (complete c opImageFloor .state [] s.dev) d))) ∧
  (checkCode480 s.dev c opKeyEnrol true none = none →
    ((∀ i : Fin 4, keyState s.dev.store.keys[i] = 0) → ∃ d, exec (.keyEnrol c slot signer) s = .next { s with dev := d } ∧ (d.store.otpWrite = some (1, slot) ∧
      d.store.stageLock = true ∧ d.store.keys = s.dev.store.keys ∧ SameBut [.host, .store] s.dev d)) ∧
    (keyState s.dev.store.keys[slot] ≠ 0 → ∃ d, exec (.keyEnrol c slot signer) s = .next { s with dev := d } ∧ (SameBut [] (complete c opKeyEnrol .state [] s.dev) d)) ∧
    (keyState s.dev.store.keys[slot] = 0 → (∃ i : Fin 4, keyState s.dev.store.keys[i] ≠ 0) → keyBroken s.dev signer.val = false →
      stagedSigned s.dev signer 64 64 = false → ∃ d, exec (.keyEnrol c slot signer) s = .next { s with dev := d } ∧ (SameBut [] (complete c opKeyEnrol .refused [] s.dev) d))) ∧
  (checkCode480 s.dev c opKeyRevoke true none = none → keyBroken s.dev signer.val = false →
    (signer = slot → ∃ d, exec (.keyRevoke c slot signer) s = .next { s with dev := d } ∧ (SameBut [] (complete c opKeyRevoke .state [] s.dev) d)) ∧
    (enrolled s.dev.store.keys[slot] = true → signer ≠ slot → keyUsable s.dev signer.val ≠ none →
      Memory.readBytes s.dev.store.stage 0 8 = revokeHead slot → stagedSigned s.dev signer 8 8 = true →
      ∃ d, exec (.keyRevoke c slot signer) s = .next { s with dev := d } ∧ (d.store.otpWrite = some (2, slot) ∧ d.store.stageLock = true ∧ d.store.keys = s.dev.store.keys ∧
        SameBut [.host, .store] s.dev d))) ∧
  (s.dev.store.otpWrite = some (0, slot) → ∃ d, exec .otpWriteDone s = .next { s with dev := d } ∧ (d.store.floors = s.dev.store.floors ++ [s.dev.store.serial] ∧
    d.store.otpWrite = none ∧ d.store.keys = s.dev.store.keys ∧ SameBut [.host, .store, .ringMem, .jrn, .timers] s.dev d)) ∧
  (s.dev.store.otpWrite = some (1, slot) → ∃ d, exec .otpWriteDone s = .next { s with dev := d } ∧ (d.store.keys[slot] = { hash := sha256 (Memory.readBytes s.dev.store.stage 0 64), revoked := false, key := Memory.readBytes s.dev.store.stage 0 64 } ∧
    (∀ k : Fin 4, k ≠ slot → d.store.keys[k] = s.dev.store.keys[k]) ∧ d.store.stageLock = false ∧ d.store.otpWrite = none ∧
    SameBut [.host, .store, .ringMem, .jrn, .timers] s.dev d)) ∧
  (s.dev.store.otpWrite = some (2, slot) → ∃ d, exec .otpWriteDone s = .next { s with dev := d } ∧ ((d.store.keys[slot]).revoked = true ∧
    (d.store.keys[slot]).hash = (s.dev.store.keys[slot]).hash ∧ (∀ k : Fin 4, k ≠ slot → d.store.keys[k] = s.dev.store.keys[k]) ∧
    d.store.stageLock = false ∧ d.store.otpWrite = none ∧ SameBut [.host, .store, .ringMem, .jrn, .timers] s.dev d))

/-- 03 R105, R107 to R112: what the debounces and the toggle of a port do. A source that has debounced Rd on one pin attaches: it is source
and DFP, its orientation is the pin with Rd, its fence is FENCE(5 V), it draws its first hand. A sink attaches on Rp with VBUS above 4 V; with
Try.SRC it goes to Try.SRC first. A condition gone for tPDDebounce returns the port; tDRP turns the port over; Try.SRC ends in TryWait.SNK and
that in Unattached.SNK. A port that changes its termination sees its pins at the end of the hold, one that keeps it does at once.
Each of these commands answers a next state here: tccdebounceExpiry, tpddebounceExpiry, tdrpExpiry, tdrptryExpiry, ttryccdebounceExpiry,
tdrptrywaitExpiry, terrorrecoveryExpiry. -/
def Obligations.TypeCTimersMoveThePort : Prop := ∀ (s : State) (p : Fin 32),
  ((s.dev.ports[p]).tc = .attachWaitSrc → (s.dev.pd[p]).deb = true → attachHeld s.dev p = false → vbusLow s.dev p = true → rdOne s.dev p = true →
    ∃ d, exec (.tccdebounceExpiry p) s = .next { s with dev := d } ∧ ((d.ports[p]).tc = .attachedSrc ∧ (d.ports[p]).orient = pinRd s.dev p true ∧
      (d.ports[p]).source = true ∧ (d.ports[p]).dfp = true ∧ (d.ports[p]).fence = fenceOf 5000 ∧ (d.loops[p]).switching = true ∧
      (∃ h, 25 ≤ h ∧ h ≤ (d.ports[p]).hand ∧ d.ledger.kittyHeld = s.dev.ledger.kittyHeld - h) ∧
      SameBut [.ports, .pd, .loops, .phases, .guards, .chans, .loss, .ledger, .jrn, .timers, .host, .ringMem] s.dev d ∧ HandsOnly p s.dev d)) ∧
  ((s.dev.ports[p]).tc = .attachWaitSnk → (s.dev.pd[p]).deb = true → rpOne s.dev p = true → trySrcOn s.dev p = false → vbusHigh4 s.dev p = true →
    ∃ d, exec (.tccdebounceExpiry p) s = .next { s with dev := d } ∧ ((d.ports[p]).tc = .attachedSnk ∧ (d.ports[p]).orient = pinRp s.dev p true ∧
      (d.ports[p]).source = false ∧ (d.ports[p]).dfp = false ∧ (d.ports[p]).rd = true ∧
      SameBut [.ports, .pd, .guards, .chans, .jrn, .timers, .host, .ringMem] s.dev d ∧ OnlyPort p s.dev d)) ∧
  ((s.dev.ports[p]).tc = .attachWaitSnk → (s.dev.pd[p]).deb = true → rpOne s.dev p = true → trySrcOn s.dev p = true →
    ∃ d, exec (.tccdebounceExpiry p) s = .next { s with dev := d } ∧ ((d.ports[p]).tc = .trySrc ∧ (d.ports[p]).rd = false ∧ (d.ports[p]).rp = rpOf s.dev p ∧
      (s.dev.tmr.tb + ticksOfMs 110, .tdrptryExpiry p) ∈ d.timers ∧ SameBut [.ports, .pd, .guards, .chans, .timers] s.dev d ∧ OnlyPort p s.dev d)) ∧
  ((s.dev.ports[p]).tc = .attachWaitSnk → isDrp s.dev p = false → pinRp s.dev p false = false → pinRp s.dev p true = false →
    ∃ d, exec (.tpddebounceExpiry p) s = .next { s with dev := d } ∧ ((d.ports[p]).tc = .unattachedSnk ∧ (d.ports[p]).rd = true ∧ (d.ports[p]).rp = .none ∧
      SameBut [.ports, .guards, .chans, .timers] s.dev d ∧ OnlyPort p s.dev d)) ∧
  ((s.dev.ports[p]).tc = .unattachedSrc → isDrp s.dev p = true → (s.dev.ports[p]).rd = false → (s.dev.chans[cc1 p]).enabled = true →
    ∃ d, exec (.tdrpExpiry p) s = .next { s with dev := d } ∧ ((d.ports[p]).tc = .unattachedSnk ∧ (d.ports[p]).rd = true ∧ SameBut [.ports, .guards, .chans, .timers] s.dev d ∧ OnlyPort p s.dev d)) ∧
  ((s.dev.ports[p]).tc = .unattachedSnk → isDrp s.dev p = true → anyPg s.dev = true → livePhases s.dev p ≠ [] →
    (s.dev.ports[p]).rd = true → (s.dev.chans[cc1 p]).enabled = true →
    ∃ d, exec (.tdrpExpiry p) s = .next { s with dev := d } ∧ ((d.ports[p]).tc = .unattachedSrc ∧ (d.ports[p]).rd = false ∧ (d.ports[p]).rp = rpOf s.dev p ∧
      SameBut [.ports, .guards, .chans, .timers] s.dev d ∧ OnlyPort p s.dev d)) ∧
  ((s.dev.ports[p]).tc = .trySrc →
    ∃ d, exec (.tdrptryExpiry p) s = .next { s with dev := d } ∧ ((d.ports[p]).tc = .tryWaitSnk ∧ (d.ports[p]).rd = true ∧
      (s.dev.tmr.tb + ticksOfMs 600, .tdrptrywaitExpiry p) ∈ d.timers ∧ SameBut [.ports, .pd, .guards, .chans, .timers] s.dev d ∧ OnlyPort p s.dev d)) ∧
  ((s.dev.ports[p]).tc = .trySrc → rdOne s.dev p = true → lostPort s.dev p = false →
    ∃ d, exec (.ttryccdebounceExpiry p) s = .next { s with dev := d } ∧ ((d.ports[p]).tc = .attachedSrc ∧ (d.ports[p]).source = true ∧
      (d.ports[p]).orient = pinRd s.dev p true ∧ (d.ports[p]).fence = fenceOf 5000 ∧
      SameBut [.ports, .pd, .loops, .phases, .guards, .chans, .loss, .ledger, .jrn, .timers, .host, .ringMem] s.dev d ∧ HandsOnly p s.dev d)) ∧
  ((s.dev.ports[p]).tc = .tryWaitSnk → vbusHigh4 s.dev p = false → pinRp s.dev p false = false → pinRp s.dev p true = false →
    ∃ d, exec (.tdrptrywaitExpiry p) s = .next { s with dev := d } ∧ ((d.ports[p]).tc = .unattachedSnk ∧ (d.ports[p]).rd = true ∧
      SameBut [.ports, .guards, .chans, .timers] s.dev d ∧ OnlyPort p s.dev d)) ∧
  ((s.dev.ports[p]).tc = .errorRecovery → dieTripped s.dev (edgeOf p) = false → canSource s.dev p = true → isDrp s.dev p = false →
    livePhases s.dev p ≠ [] → (s.dev.ports[p]).rp = .none → (s.dev.chans[cc1 p]).enabled = true →
    ∃ d, exec (.terrorrecoveryExpiry p) s = .next { s with dev := d } ∧ ((d.ports[p]).tc = .unattachedSrc ∧ (d.ports[p]).rp = rpOf s.dev p ∧
      SameBut [.ports, .guards, .chans, .timers] s.dev d ∧ OnlyPort p s.dev d))

/-- 03 R104, R107, R110, R115, R116, R118 to R120, 04 R141: what VCONN and the cable do to a port. An overvoltage of a CC pin opens VCONN and sends the
port to ErrorRecovery; discovery runs on SOP' as long as VCONN is on, under a contract of a source behind SinkTxNG.
Each of these commands answers a next state here: ccOvervoltage, vconnOvercurrent, vconnReverseBlock, tvconnstableExpiry, discoverIdentityRetry,
cableIdentityAnswer. -/
def Obligations.CableAndVconnOfAPort : Prop := ∀ (s : State) (p : Fin 32),
  (∀ pin, Quiet s.dev (portSrc p 4) → ∃ d, exec (.ccOvervoltage p pin) s = .next { s with dev := d } ∧ ((d.ports[p]).vconnOn = false ∧ (d.sources[portSrc p 4]).latch = true ∧
    (hasPort s.dev p = true → (s.dev.ports[p]).tc ≠ .disabled → (s.dev.ports[p]).tc ≠ .errorRecovery → (s.dev.ports[p]).tc ≠ .minimal →
      (s.dev.pd[p]).disabling = false → lostPort s.dev p = false → (d.ports[p]).tc = .errorRecovery ∧ (d.loops[p]).switching = false ∧ guardOn (d.guards[p]) = false) ∧
    (hasPort s.dev p = false → (d.ports[p]).ccCut = (s.dev.ports[p]).ccCut ||| (if pin then 2 else 1) ∧ d.guards = s.dev.guards ∧ d.loops = s.dev.loops))) ∧
  ((s.dev.ports[p]).vconnOn = true → Quiet s.dev (portSrc p 5) → ∃ d, exec (.vconnOvercurrent p) s = .next { s with dev := d } ∧ ((d.ports[p]).vconnOn = false ∧ (d.ports[p]).vconnOc = true ∧ (d.ports[p]).cableEpr = false ∧ (d.ports[p]).cableV = 20 ∧
    (d.ports[p]).cableI = 3000 ∧ (d.sources[portSrc p 5]).latch = true)) ∧
  (∃ d, exec (.vconnReverseBlock p) s = .next { s with dev := d } ∧ ((d.ports[p]).vconnOn = false ∧ SameBut [.ports, .pd, .timers] s.dev d ∧ OnlyPort p s.dev d)) ∧
  (pdLive s.dev p = true → (s.dev.ports[p]).vconnOn = true → (s.dev.ports[p]).cableDone = false → explicit s.dev p = false →
    ∃ d, exec (.tvconnstableExpiry p) s = .next { s with dev := d } ∧ ((d.pd[p]).discoverTries = (s.dev.pd[p]).discoverTries + 1 ∧
      (s.dev.tmr.tb + ticksOfMs 4, .discoverIdentityRetry p) ∈ d.timers ∧
      (d.pd[p]).txQueue = (s.dev.pd[p]).txQueue ++ [{ sop := 1, kind := .discoverIdentity, data := [], tries := 0 }] ∧
      SameBut [.pd, .timers] s.dev d ∧ OnlyPort p s.dev d)) ∧
  (pdLive s.dev p = true → (s.dev.ports[p]).vconnOn = true → (s.dev.ports[p]).cableDone = false → explicit s.dev p = false →
    (s.dev.pd[p]).sinkTxNg = false → (s.dev.pd[p]).discoverTries < 3 →
    ∃ d, exec (.discoverIdentityRetry p) s = .next { s with dev := d } ∧ ((d.pd[p]).discoverTries = (s.dev.pd[p]).discoverTries + 1 ∧
      (s.dev.tmr.tb + ticksOfMs 4, .discoverIdentityRetry p) ∈ d.timers ∧
      (d.pd[p]).txQueue = (s.dev.pd[p]).txQueue ++ [{ sop := 1, kind := .discoverIdentity, data := [], tries := 0 }] ∧
      SameBut [.pd, .timers] s.dev d ∧ OnlyPort p s.dev d)) ∧
  (pdSource s.dev p = true → explicit s.dev p = true → (s.dev.ports[p]).vconnOn = true → (s.dev.ports[p]).cableDone = false →
    (s.dev.pd[p]).sinkTxNg = false → (s.dev.pd[p]).ams = .none → (s.dev.ports[p]).transition = false → (s.dev.pd[p]).txQueue = [] →
    (s.dev.pd[p]).discoverTries < 20 → ∃ d, exec (.discoverIdentityRetry p) s = .next { s with dev := d } ∧ ((d.ports[p]).rp = .a15 ∧ (d.pd[p]).sinkTxNg = true ∧ (d.pd[p]).discDue = true ∧ (s.dev.tmr.tb + ticksOfMs 18, .tsinktxExpiry p) ∈ d.timers ∧
      (s.dev.tmr.tb + ticksOfMs 50, .discoverIdentityRetry p) ∈ d.timers ∧
      SameBut [.ports, .pd, .guards, .chans, .timers] s.dev d ∧ OnlyPort p s.dev d)) ∧
  (pdLive s.dev p = true → (s.dev.ports[p]).vconnOn = true → (s.dev.ports[p]).cableDone = false → 20 ≤ (s.dev.pd[p]).discoverTries →
    explicit s.dev p = true → (s.dev.pd[p]).sinkTxNg = false → ∃ d, exec (.discoverIdentityRetry p) s = .next { s with dev := d } ∧ ((d.ports[p]).cableDone = true ∧
      SameBut [.ports, .pd, .timers] s.dev d ∧ OnlyPort p s.dev d)) ∧
  (∀ a, pdLive s.dev p = true → (s.dev.ports[p]).vconnOn = true → (s.dev.ports[p]).cableDone = false → (s.dev.pd[p]).discoverTries ≠ 0 →
    ∃ d, exec (.cableIdentityAnswer p false a) s = .next { s with dev := d } ∧ ((d.ports[p]).cableDone = true ∧ (d.ports[p]).cableI = (if a.ack = true ∧ a.isCable = true ∧ a.fiveA = true then 5000 else 3000) ∧
    (d.ports[p]).cableV = (if a.ack = true ∧ a.isCable = true ∧ a.maxV = 3 then 50 else 20) ∧
    (d.ports[p]).cableEpr = (a.ack && a.isCable && a.epr && a.maxV == 3) ∧
    d.loops = s.dev.loops ∧ d.phases = s.dev.phases ∧ d.sources = s.dev.sources))

/-- 03 R123, R124, 15 R569: a port in minimal mode attaches by itself, at 1000 mV/ms to 5 V with the fence at FENCE(5 V), once Rd on one pin
has stood for 150 ms; a detach of 15 ms runs its off-ramp.
Each of these commands answers a next state here: minimalAttachDebounce, minimalDetachDebounce. -/
def Obligations.MinimalPortAttachesAndDetaches : Prop := ∀ (s : State) (p : Fin 32), (s.dev.ports[p]).tc = .minimal →
  ((s.dev.ports[p]).minAtt = false → rdOne s.dev p = true → vbusLow s.dev p = true → (s.dev.guards[p]).state ≠ .latched →
    (s.dev.ports[p]).startFail = false → dieHolds s.dev p = false → (s.dev.sys.dieRec[edgeOf p]).isSome = true → portPg s.dev p = true →
    livePhases s.dev p ≠ [] → censusOpen s.dev p = false → (s.dev.pd[p]).deb = true →
    timerRuns s.dev (.terrorrecoveryExpiry p) = false → timerRuns s.dev (.tccdebounceExpiry p) = false →
    ∃ d, exec (.minimalAttachDebounce p) s = .next { s with dev := d } ∧ ((d.ports[p]).minAtt = true ∧ (d.ports[p]).source = true ∧ (d.ports[p]).dfp = true ∧
      (d.ports[p]).orient = pinRd s.dev p true ∧ (d.ports[p]).fence = fenceOf 5000 ∧ (d.loops[p]).switching = true ∧
      (d.loops[p]).target = refCode 5000 ∧ (d.loops[p]).slew = 1000 ∧ (d.pd[p]).event.getLsbD 0 = true ∧
      SameBut [.ports, .pd, .loops, .phases, .timers] s.dev d ∧ OnlyPort p s.dev d)) ∧
  ((s.dev.ports[p]).minAtt = true → lostPort s.dev p = false → bit s.dev.store.pendPorts p.val = false → ∃ d, exec (.minimalDetachDebounce p) s = .next { s with dev := d } ∧ ((d.ports[p]).minAtt = false ∧ (d.ports[p]).dfp = false ∧ (d.pd[p]).event.getLsbD 1 = true ∧
    ((s.dev.loops[p]).switching = true → (d.loops[p]).target = 0 ∧ (d.loops[p]).rampFor = .offRamp) ∧
    SameBut [.ports, .pd, .loops, .timers] s.dev d ∧ OnlyPort p s.dev d))

/-- 03 R134, R136, R137, 04 R147: a SERVICE port under an explicit contract answers a readout request with one vendor message: its header
names the command with the response bit and the tag, its first object the status. Readout changes nothing but the port's engine; on any
other port the request gets Not_Supported.
Each of these commands answers a next state here: ident, serviceState, jtail, jread, serviceFaults, serviceUnknownCmd. -/
def Obligations.ServiceReadoutAnswers : Prop := ∀ (s : State) (p : Fin 32) (tag : Fin 128), pdLive s.dev p = true → ((s.dev.pd[p]).bistData || corePaused s.dev p) = false →
    (s.dev.pd[p]).ams = .none → (s.dev.pd[p]).txQueue = [] →
  (servicePort s.dev p = false → (s.dev.ports[p]).rev ≠ 1 → ∀ c, (c = .ident p tag ∨ c = .serviceState p tag ∨ (∃ arg, c = .jtail p tag arg) ∨
      (∃ arg, c = .jread p tag arg) ∨ (∃ arg, c = .serviceFaults p tag arg) ∨ ∃ cmd, c = .serviceUnknownCmd p tag cmd) →
    ∃ d, exec c s = .next { s with dev := d } ∧ ((d.pd[p]).txQueue = [{ sop := 0, kind := .notSupported, data := [], tries := 0 }] ∧
      SameBut [.pd, .timers] s.dev d ∧ OnlyPort p s.dev d)) ∧
  (servicePort s.dev p = true →
  (∃ d, exec (.ident p tag) s = .next { s with dev := d } ∧ ((∃ w, (d.pd[p]).txQueue = [{ sop := 0, kind := .vendorDefined, data := answerHeader s.dev 1 tag :: 0 :: w, tries := 0 }]) ∧
    (d.pd[p]).event.getLsbD 17 = true ∧ SameBut [.pd, .timers] s.dev d ∧ OnlyPort p s.dev d)) ∧
  (∃ d, exec (.serviceState p tag) s = .next { s with dev := d } ∧ ((∃ w, (d.pd[p]).txQueue = [{ sop := 0, kind := .vendorDefined, data := answerHeader s.dev 2 tag :: 0 :: w, tries := 0 }]) ∧
    SameBut [.pd, .timers] s.dev d ∧ OnlyPort p s.dev d)) ∧
  (∀ arg, s.dev.sys.storeOk = true → s.dev.jrn.busy = false → arg < s.dev.jrn.written.length →
    ∃ d, exec (.jtail p tag arg) s = .next { s with dev := d } ∧ ((∃ w, (d.pd[p]).txQueue = [{ sop := 0, kind := .vendorDefined, data := answerHeader s.dev 3 tag :: 0 :: w, tries := 0 }]) ∧
    SameBut [.pd, .timers] s.dev d ∧ OnlyPort p s.dev d)) ∧
  (∀ arg, s.dev.sys.storeOk = true → s.dev.jrn.busy = false → s.dev.jrn.written.length ≤ arg →
    ∃ d, exec (.jtail p tag arg) s = .next { s with dev := d } ∧ ((d.pd[p]).txQueue = [{ sop := 0, kind := .vendorDefined, data := [answerHeader s.dev 3 tag, 2], tries := 0 }] ∧
    SameBut [.pd, .timers] s.dev d ∧ OnlyPort p s.dev d)) ∧
  (∀ arg, s.dev.sys.storeOk = true → s.dev.jrn.busy = false → arg % 4 = 0 → journalWritten s.dev arg = true →
    ∃ d, exec (.jread p tag arg) s = .next { s with dev := d } ∧ ((∃ w, (d.pd[p]).txQueue = [{ sop := 0, kind := .vendorDefined, data := answerHeader s.dev 4 tag :: 0 :: w, tries := 0 }]) ∧
    SameBut [.pd, .timers] s.dev d ∧ OnlyPort p s.dev d)) ∧
  (∀ arg, s.dev.sys.storeOk = true → s.dev.jrn.busy = true →
    ∃ d, exec (.jread p tag arg) s = .next { s with dev := d } ∧ ((d.pd[p]).txQueue = [{ sop := 0, kind := .vendorDefined, data := [answerHeader s.dev 4 tag, 4], tries := 0 }] ∧
    SameBut [.pd, .timers] s.dev d ∧ OnlyPort p s.dev d)) ∧
  (∃ d, exec (.serviceFaults p tag 0) s = .next { s with dev := d } ∧ ((∃ w, (d.pd[p]).txQueue = [{ sop := 0, kind := .vendorDefined, data := answerHeader s.dev 5 tag :: 0 :: w, tries := 0 }]) ∧
    SameBut [.pd, .timers] s.dev d ∧ OnlyPort p s.dev d)) ∧
  (∀ cmd : Fin 16, ∃ d, exec (.serviceUnknownCmd p tag cmd) s = .next { s with dev := d } ∧ ((d.pd[p]).txQueue = [{ sop := 0, kind := .vendorDefined, data := [answerHeader s.dev cmd.val tag, 1], tries := 0 }] ∧
    SameBut [.pd, .timers] s.dev d ∧ OnlyPort p s.dev d)))

/-- 04 R138, R144, R145, R147: what a live port answers to a question of its partner. Each answer joins the port's transmit queue and changes
nothing beside that port's engine, where no other sequence is open; the role that the table gives the message answers it, another answers Not_Supported.
Each of these commands answers a next state here: getSinkCap, getSourceCap, getRevision, getStatus, getSourceCapExtended, getSourceInfo, getPpsStatus,
eprGetSourceCap, eprKeepalive, unsupportedMessage, vendorDefined, ping, alert. -/
def Obligations.PdQuestionsAreAnswered : Prop := ∀ (s : State) (p : Fin 32), pdLive s.dev p = true → (s.dev.ports[p]).rev ≠ 1 →
    ((s.dev.pd[p]).bistData || corePaused s.dev p) = false → (s.dev.pd[p]).ams = .none →
  (canSink s.dev p = true → (∃ d, exec (.getSinkCap p) s = .next { s with dev := d } ∧ (Sends p .sinkCapabilities [sinkPdo s.dev p] s.dev d ∧ SameBut [.pd, .timers] s.dev d ∧ OnlyPort p s.dev d))) ∧
  (canSink s.dev p = false → (∃ d, exec (.getSinkCap p) s = .next { s with dev := d } ∧ (Sends p .notSupported [] s.dev d ∧ SameBut [.pd, .timers] s.dev d ∧ OnlyPort p s.dev d))) ∧
  (pdSource s.dev p = false → isDrp s.dev p = true → (∃ d, exec (.getSourceCap p) s = .next { s with dev := d } ∧ (Sends p .sourceCapabilities [fiveVolt1500 s.dev p] s.dev d ∧ SameBut [.pd, .timers] s.dev d ∧ OnlyPort p s.dev d))) ∧
  ((∃ d, exec (.getRevision p) s = .next { s with dev := d } ∧ (Sends p .revision [0x32100000] s.dev d ∧ SameBut [.pd, .timers] s.dev d ∧ OnlyPort p s.dev d))) ∧
  (∃ w, (∃ d, exec (.getStatus p) s = .next { s with dev := d } ∧ (Sends p .status w s.dev d ∧ SameBut [.pd, .timers] s.dev d ∧ OnlyPort p s.dev d))) ∧
  (pdSource s.dev p = true → ∃ w, (∃ d, exec (.getSourceCapExtended p) s = .next { s with dev := d } ∧ (Sends p .sourceCapabilitiesExtended w s.dev d ∧ SameBut [.pd, .timers] s.dev d ∧ OnlyPort p s.dev d))) ∧
  (pdSource s.dev p = true → (∃ d, exec (.getSourceInfo p) s = .next { s with dev := d } ∧ (Sends p .sourceInfo [sourceInfoWord s.dev p] s.dev d ∧ SameBut [.pd, .timers] s.dev d ∧ OnlyPort p s.dev d))) ∧
  (pdSource s.dev p = true → (s.dev.ports[p]).kind = .pps → (∃ d, exec (.getPpsStatus p) s = .next { s with dev := d } ∧ (Sends p .ppsStatus [ppsWord s.dev p] s.dev d ∧ SameBut [.pd, .timers] s.dev d ∧ OnlyPort p s.dev d))) ∧
  (pdSource s.dev p = true → (s.dev.ports[p]).kind ≠ .pps → (∃ d, exec (.getPpsStatus p) s = .next { s with dev := d } ∧ (Sends p .notSupported [] s.dev d ∧ SameBut [.pd, .timers] s.dev d ∧ OnlyPort p s.dev d))) ∧
  (pdSource s.dev p = true → pflag s.dev p 3 = true → (s.dev.ports[p]).eprMode = false →
    (∃ d, exec (.eprGetSourceCap p) s = .next { s with dev := d } ∧ (Sends p .eprSourceCapabilities (eprWords s.dev p) s.dev d ∧ SameBut [.pd, .timers] s.dev d ∧ OnlyPort p s.dev d))) ∧
  (pdSource s.dev p = true → pflag s.dev p 3 = false → (∃ d, exec (.eprGetSourceCap p) s = .next { s with dev := d } ∧ (Sends p .notSupported [] s.dev d ∧ SameBut [.pd, .timers] s.dev d ∧ OnlyPort p s.dev d))) ∧
  (pdSource s.dev p = true → (s.dev.ports[p]).eprMode = true → (∃ d, exec (.eprKeepalive p) s = .next { s with dev := d } ∧ (Sends p .eprKeepAliveAck [] s.dev d ∧ SameBut [.pd, .timers] s.dev d ∧ OnlyPort p s.dev d))) ∧
  (pdSink s.dev p = true → (∃ d, exec (.eprKeepalive p) s = .next { s with dev := d } ∧ (Sends p .notSupported [] s.dev d ∧ SameBut [.pd, .timers] s.dev d ∧ OnlyPort p s.dev d))) ∧
  (∀ control, (∃ d, exec (.unsupportedMessage p control) s = .next { s with dev := d } ∧ (Sends p .notSupported [] s.dev d ∧ SameBut [.pd, .timers] s.dev d ∧ OnlyPort p s.dev d))) ∧
  (∀ header body, servicePort s.dev p = false → (∃ d, exec (.vendorDefined p header body) s = .next { s with dev := d } ∧ (Sends p .notSupported [] s.dev d ∧ SameBut [.pd, .timers] s.dev d ∧ OnlyPort p s.dev d))) ∧
  (∃ d, exec (.ping p) s = .next { s with dev := d } ∧ ((d.pd[p]).txQueue = (s.dev.pd[p]).txQueue ∧ SameBut [.pd, .timers] s.dev d ∧ OnlyPort p s.dev d)) ∧
  (∃ d, exec (.alert p) s = .next { s with dev := d } ∧ ((d.pd[p]).txQueue = (s.dev.pd[p]).txQueue ∧ SameBut [.pd, .timers, .jrn, .host, .ringMem] s.dev d ∧ OnlyPort p s.dev d))

/-- 04 R144, R159, R160, R162, R165, R182: a request that fits is accepted, and the fence takes a higher voltage at once, a lower one when
VBUS has come down; one that names no offer or breaks a limit is rejected and the contract stays. As sink the port asks for 5 V up to 1500 mA, waits for
PS_RDY after Accept, and holds the contract after it.
Each of these commands answers a next state here: request, eprRequest, sourceCapabilities, accept, reject, psRdy. -/
def Obligations.RequestsAndContracts : Prop := ∀ (s : State) (p : Fin 32),
  (∀ rdo a, pdSource s.dev p = true → ((s.dev.pd[p]).bistData || corePaused s.dev p) = false → lostPort s.dev p = false → (s.dev.pd[p]).ams = .none ∨ (s.dev.pd[p]).ams = .offer →
    (s.dev.ports[p]).transition = false → askOf s.dev p rdo = some a → askGood s.dev p a none = true →
    ∃ d, exec (.request p rdo) s = .next { s with dev := d } ∧ (Sends p .accept [] s.dev d ∧ (d.ports[p]).transition = true ∧ (d.pd[p]).ams = .transition ∧
      (d.pd[p]).newVolt = a.mv ∧ (d.pd[p]).newCurr = a.ma ∧ (d.pd[p]).newRdo = rdo ∧
      (if (s.dev.ports[p]).fence ≤ fenceOf a.mv then (d.ports[p]).fence = fenceOf a.mv ∧ (d.ports[p]).fencePend = none
        else (d.ports[p]).fence = (s.dev.ports[p]).fence ∧ (d.ports[p]).fencePend = some (fenceOf a.mv)) ∧
      (d.ports[p]).volt = (s.dev.ports[p]).volt ∧ SameBut [.ports, .pd, .timers, .jrn, .host, .ringMem] s.dev d ∧ OnlyPort p s.dev d)) ∧
  (∀ rdo copy a, pdSource s.dev p = true → ((s.dev.pd[p]).bistData || corePaused s.dev p) = false → lostPort s.dev p = false → (s.dev.ports[p]).eprMode = true →
    (s.dev.pd[p]).ams = .none ∨ (s.dev.pd[p]).ams = .offer → (s.dev.ports[p]).transition = false → askOf s.dev p rdo = some a → askGood s.dev p a (some copy) = true →
    ∃ d, exec (.eprRequest p rdo copy) s = .next { s with dev := d } ∧ (Sends p .accept [] s.dev d ∧ (d.ports[p]).transition = true ∧
      (d.pd[p]).newVolt = a.mv ∧ (d.pd[p]).newCurr = a.ma ∧ SameBut [.ports, .pd, .timers, .jrn, .host, .ringMem] s.dev d ∧ OnlyPort p s.dev d)) ∧
  (∀ rdo, pdSource s.dev p = true → ((s.dev.pd[p]).bistData || corePaused s.dev p) = false → explicit s.dev p = true → (s.dev.pd[p]).ams = .none ∨ (s.dev.pd[p]).ams = .offer →
    (s.dev.ports[p]).transition = false → (∀ a, askOf s.dev p rdo = some a → askGood s.dev p a none = false) →
    (s.dev.pd[p]).capsDue = false →
    ∃ d, exec (.request p rdo) s = .next { s with dev := d } ∧ (Sends p .reject [] s.dev d ∧ (d.ports[p]).kind = (s.dev.ports[p]).kind ∧ (d.ports[p]).volt = (s.dev.ports[p]).volt ∧
      (d.ports[p]).curr = (s.dev.ports[p]).curr ∧ (d.ports[p]).fence = (s.dev.ports[p]).fence ∧
      SameBut [.ports, .pd, .guards, .chans, .timers, .jrn, .host, .ringMem] s.dev d ∧ OnlyPort p s.dev d)) ∧
  (∀ pdos, pdSink s.dev p = true → ((s.dev.pd[p]).bistData || corePaused s.dev p) = false → (s.dev.pd[p]).ams = .none → ∃ d, exec (.sourceCapabilities p pdos) s = .next { s with dev := d } ∧ ((∃ rdo, Sends p .request [rdo] s.dev d ∧ (d.pd[p]).newRdo = rdo) ∧ (d.pd[p]).ams = .sinkRequest ∧ (d.pd[p]).newVolt = 5000 ∧
    (d.pd[p]).newCurr ≤ 1500 ∧ SameBut [.pd, .timers] s.dev d ∧ OnlyPort p s.dev d)) ∧
  (pdLive s.dev p = true → ((s.dev.pd[p]).bistData || corePaused s.dev p) = false → (s.dev.pd[p]).ams = .sinkRequest → ∃ d, exec (.accept p) s = .next { s with dev := d } ∧ ((d.pd[p]).ams = .sinkTransition ∧
    (s.dev.tmr.tb + ticksOfMs 500, .tpstransitionExpiry p) ∈ d.timers ∧ SameBut [.pd, .timers] s.dev d ∧ OnlyPort p s.dev d)) ∧
  (pdLive s.dev p = true → ((s.dev.pd[p]).bistData || corePaused s.dev p) = false → (s.dev.pd[p]).ams = .sinkRequest → (s.dev.pd[p]).capsDue = false → ∃ d, exec (.reject p) s = .next { s with dev := d } ∧ ((d.pd[p]).ams = .none ∧
    (d.ports[p]).kind = (s.dev.ports[p]).kind ∧ (d.ports[p]).volt = (s.dev.ports[p]).volt ∧ SameBut [.ports, .pd, .guards, .chans, .timers] s.dev d ∧ OnlyPort p s.dev d)) ∧
  (pdLive s.dev p = true → ((s.dev.pd[p]).bistData || corePaused s.dev p) = false → (s.dev.pd[p]).ams = .sinkTransition → ∃ d, exec (.psRdy p) s = .next { s with dev := d } ∧ ((d.ports[p]).kind = .sink ∧
    (d.ports[p]).volt = (s.dev.pd[p]).newVolt ∧ (d.ports[p]).curr = (s.dev.pd[p]).newCurr ∧ (d.ports[p]).rdo = (s.dev.pd[p]).newRdo ∧ (d.pd[p]).ams = .none ∧
    SameBut [.ports, .pd, .timers, .jrn, .host, .ringMem] s.dev d ∧ OnlyPort p s.dev d)) ∧
  (pdLive s.dev p = true → ((s.dev.pd[p]).bistData || corePaused s.dev p) = false → (s.dev.pd[p]).ams = .none → ∀ c, c = .accept p ∨ c = .reject p ∨ c = .psRdy p → ∃ d, exec c s = .next { s with dev := d } ∧ ((d.pd[p]).txQueue = [{ sop := 0, kind := .softReset, data := [], tries := 0 }] ∧ (d.pd[p]).ams = .softReset ∧
    (d.ports[p]).kind = (s.dev.ports[p]).kind ∧ (d.ports[p]).volt = (s.dev.ports[p]).volt ∧ (d.ports[p]).fence = (s.dev.ports[p]).fence ∧
    SameBut [.ports, .pd, .timers] s.dev d ∧ OnlyPort p s.dev d))

/-- 04 R143, R167, R168, R171 to R173: EPR mode, swaps and BIST. Entry is acknowledged under an SPR contract; an exit under an SPR contract
keeps the contract; a swap that PFLAGS allows is accepted, another is rejected or not supported.
Each of these commands answers a next state here: eprModeEnter, eprModeExit, prSwap, drSwap, vconnSwap, bistCarrierMode, bistTestData, chunkRequest. -/
def Obligations.EprModeSwapsAndBist : Prop := ∀ (s : State) (p : Fin 32), ((s.dev.pd[p]).bistData || corePaused s.dev p) = false →
  (∀ pdp, pdSource s.dev p = true → (s.dev.ports[p]).rev ≠ 1 → (s.dev.pd[p]).ams = .none → (s.dev.ports[p]).kind = .sprFixed ∨ (s.dev.ports[p]).kind = .pps → (s.dev.ports[p]).eprMode = false →
    ∃ d, exec (.eprModeEnter p pdp) s = .next { s with dev := d } ∧ (Sends p .eprModeEnterAck [] s.dev d ∧ (d.pd[p]).ams = .epr ∧
      (d.pd[p]).sentSink = pdp % 256 ∧ SameBut [.pd, .timers] s.dev d ∧ OnlyPort p s.dev d)) ∧
  (pdSource s.dev p = true → (s.dev.pd[p]).ams = .none → (s.dev.ports[p]).kind = .sprFixed → (s.dev.ports[p]).eprMode = true →
    ∃ d, exec (.eprModeExit p) s = .next { s with dev := d } ∧ ((d.ports[p]).eprMode = false ∧ (d.ports[p]).kind = .sprFixed ∧ (d.ports[p]).volt = (s.dev.ports[p]).volt ∧
      (d.ports[p]).curr = (s.dev.ports[p]).curr ∧ (d.ports[p]).fence = (s.dev.ports[p]).fence ∧ (d.pd[p]).ams = .offer ∧
      SameBut [.ports, .pd, .timers] s.dev d ∧ OnlyPort p s.dev d)) ∧
  (pdLive s.dev p = true → (s.dev.pd[p]).ams = .none → isDrp s.dev p = true → pflag s.dev p 4 = true → (s.dev.ports[p]).eprMode = false → (s.dev.ports[p]).transition = false →
    (s.dev.ports[p]).swap = false → pdSource s.dev p = true →
    ∃ d, exec (.prSwap p) s = .next { s with dev := d } ∧ (Sends p .accept [] s.dev d ∧ (d.ports[p]).swap = true ∧ (d.pd[p]).ams = .prSwapSrc ∧
      (d.ports[p]).source = (s.dev.ports[p]).source ∧ SameBut [.ports, .pd, .timers] s.dev d ∧ OnlyPort p s.dev d)) ∧
  (pdLive s.dev p = true → (s.dev.pd[p]).ams = .none → isDrp s.dev p = true → pflag s.dev p 4 = false → ∃ d, exec (.prSwap p) s = .next { s with dev := d } ∧ (Sends p .reject [] s.dev d ∧
      SameBut [.pd, .timers] s.dev d ∧ OnlyPort p s.dev d)) ∧
  (pdLive s.dev p = true → (s.dev.pd[p]).ams = .none → pflag s.dev p 5 = true → ∃ d, exec (.drSwap p) s = .next { s with dev := d } ∧ (Sends p .accept [] s.dev d ∧ (d.pd[p]).ams = .drSwap ∧
      (d.ports[p]).dfp = (s.dev.ports[p]).dfp ∧ SameBut [.ports, .pd, .timers] s.dev d ∧ OnlyPort p s.dev d)) ∧
  (pdLive s.dev p = true → (s.dev.pd[p]).ams = .none → pflag s.dev p 5 = false → ∃ d, exec (.drSwap p) s = .next { s with dev := d } ∧ (Sends p .reject [] s.dev d ∧
      SameBut [.pd, .timers] s.dev d ∧ OnlyPort p s.dev d)) ∧
  (pdLive s.dev p = true → (s.dev.pd[p]).ams = .none → pflag s.dev p 6 = true → (s.dev.ports[p]).eprMode = false → (s.dev.ports[p]).vconnOn = true →
    ∃ d, exec (.vconnSwap p) s = .next { s with dev := d } ∧ (Sends p .accept [] s.dev d ∧ (d.pd[p]).ams = .vconnGive ∧ (d.ports[p]).vconnOn = true ∧
      SameBut [.ports, .pd, .timers] s.dev d ∧ OnlyPort p s.dev d)) ∧
  (pdLive s.dev p = true → (s.dev.pd[p]).ams = .none → (s.dev.ports[p]).eprMode = true → ∃ d, exec (.vconnSwap p) s = .next { s with dev := d } ∧ (Sends p .reject [] s.dev d ∧
      SameBut [.pd, .timers] s.dev d ∧ OnlyPort p s.dev d)) ∧
  (pdLive s.dev p = true → atFive s.dev p = true → (s.dev.pd[p]).ams = .none → ∃ d, exec (.bistCarrierMode p) s = .next { s with dev := d } ∧ ((d.pd[p]).ams = .bist ∧
      (s.dev.tmr.tb + ticksOfMs 45, .tbistcontmodeExpiry p) ∈ d.timers ∧ SameBut [.pd, .timers] s.dev d ∧ OnlyPort p s.dev d)) ∧
  (pdLive s.dev p = true → atFive s.dev p = true → ∃ d, exec (.bistTestData p) s = .next { s with dev := d } ∧ ((d.pd[p]).bistData = true ∧
      SameBut [.pd, .timers] s.dev d ∧ OnlyPort p s.dev d)) ∧
  (∀ t n, pdLive s.dev p = true → (s.dev.pd[p]).chunks = some t → 26 * n < dataBytes t → ∃ d, exec (.chunkRequest p n) s = .next { s with dev := d } ∧ ((d.pd[p]).txQueue = (s.dev.pd[p]).txQueue ++ [{ t with chunk := n, tries := 0 }] ∧ (d.pd[p]).chunks = none ∧
      SameBut [.pd, .timers] s.dev d ∧ OnlyPort p s.dev d))

/-- 04 R174 to R176, 12 R482: a Soft_Reset clears the exchange and keeps the contract and the fence; a Hard Reset, received or commanded, ends
the explicit contract and EPR mode, opens VCONN and starts tPSHardReset.
Each of these commands answers a next state here: softReset, hardResetReceived, portHardReset. -/
def Obligations.ResetsOfAPort : Prop := ∀ (s : State) (p : Fin 32),
  (pdLive s.dev p = true → ((s.dev.pd[p]).bistData || corePaused s.dev p) = false → ∃ d, exec (.softReset p) s = .next { s with dev := d } ∧ ((d.pd[p]).txQueue = [{ sop := 0, kind := .accept, data := [], tries := 0 }] ∧
    (d.pd[p]).rxQueue = [] ∧ (d.pd[p]).ams = .softAnswer ∧ (d.pd[p]).txId = 0 ∧ (d.ports[p]).kind = (s.dev.ports[p]).kind ∧
    (d.ports[p]).volt = (s.dev.ports[p]).volt ∧ (d.ports[p]).curr = (s.dev.ports[p]).curr ∧ (d.ports[p]).fence = (s.dev.ports[p]).fence ∧
    SameBut [.ports, .pd, .timers] s.dev d ∧ OnlyPort p s.dev d)) ∧
  (pdSource s.dev p = true → s.dev.sys.retraining[linkOf (edgeOf p)] = false → ∃ d, exec (.hardResetReceived p) s = .next { s with dev := d } ∧ ((d.ports[p]).kind = .none ∧ (d.ports[p]).eprMode = false ∧
    (d.ports[p]).vconnOn = false ∧ (d.pd[p]).txQueue = [] ∧ (d.pd[p]).ams = .none ∧ (d.pd[p]).hrRx = inc8 (s.dev.pd[p]).hrRx ∧
    (d.ports[p]).fence = (s.dev.ports[p]).fence ∧ (s.dev.tmr.tb + ticksOfMs 30, .tpshardresetExpiry p) ∈ d.timers ∧
    SameBut [.ports, .pd, .loops, .guards, .chans, .timers, .jrn, .host, .ringMem] s.dev d ∧ OnlyPort p s.dev d)) ∧
  (∀ c, checkCode480 s.dev c opPortHardReset true (some (edgeOf p)) = none → explicit s.dev p = true → pdSource s.dev p = true →
    (s.dev.pd[p]).hardResets < 2 → Quiet s.dev (portSrc p 6) → lostPort s.dev p = false → ∃ d, exec (.portHardReset c p) s = .next { s with dev := d } ∧ ((d.ports[p]).kind = .none ∧
      (d.ports[p]).vconnOn = false ∧ (d.pd[p]).hardResets = (s.dev.pd[p]).hardResets + 1 ∧ (d.pd[p]).hrTx = inc8 (s.dev.pd[p]).hrTx ∧
      (d.sources[portSrc p 6]).latch = true ∧ d.cfg = s.dev.cfg ∧ d.posts = s.dev.posts ∧ d.ledger = s.dev.ledger ∧
      ∀ q, q ≠ p → d.ports[q] = s.dev.ports[q]))

/-- 01 R18, 04 R138 to R143, R165, R166: messages on the wire. A received message joins the queue of four and fixes the revision; a repeat of a
MessageID is dropped; an acknowledged message leaves the transmit queue and its MessageID moves on, and the timer that the message calls for
starts; an unacknowledged one goes out again, at most twice. The channel of the communication pin holds its zone meanwhile (06 R240).
Each of these commands answers a next state here: pdMessageReceived, pdGoodcrcReceived, tcrcreceiveExpiry. -/
def Obligations.MessagesOnTheWire : Prop := ∀ (s : State) (p : Fin 32), s.dev.sys.retraining[linkOf (edgeOf p)] = false →
  (∀ msg, pdLive s.dev p = true → msg.sop = 0 → msg.kind ≠ .bistOther → (s.dev.pd[p]).bistData = false → (s.dev.pd[p]).rxQueue.length < 4 → (s.dev.pd[p]).rxId ≠ some msg.msgId →
    ∃ d, exec (.pdMessageReceived p msg) s = .next { s with dev := d } ∧ ((d.pd[p]).rxQueue = (s.dev.pd[p]).rxQueue ++ [msg] ∧ (d.pd[p]).rxId = some msg.msgId ∧
      (d.ports[p]).rev = (if (s.dev.ports[p]).rev = 0 then (if msg.rev20 then 1 else 2) else (s.dev.ports[p]).rev) ∧
      SameBut [.ports, .pd, .chans, .timers] s.dev d ∧ OnlyPort p s.dev d)) ∧
  (∀ msg, pdLive s.dev p = true → msg.sop = 0 → (s.dev.pd[p]).bistData = false → 4 ≤ (s.dev.pd[p]).rxQueue.length →
    ∃ d, exec (.pdMessageReceived p msg) s = .next { s with dev := d } ∧ ((d.pd[p]).rxQueue = (s.dev.pd[p]).rxQueue ∧ SameBut [.pd, .chans, .timers] s.dev d ∧ OnlyPort p s.dev d)) ∧
  (∀ msg, pdLive s.dev p = true → msg.sop = 0 → (s.dev.pd[p]).rxQueue.length < 4 → (s.dev.pd[p]).rxId = some msg.msgId → msg.kind ≠ .softReset →
    ∃ d, exec (.pdMessageReceived p msg) s = .next { s with dev := d } ∧ ((d.pd[p]).rxQueue = (s.dev.pd[p]).rxQueue ∧ SameBut [.pd, .chans, .timers] s.dev d ∧ OnlyPort p s.dev d)) ∧
  (∀ t, t.sop = 0 → t.kind = .accept → (s.dev.pd[p]).ams = .transition → (s.dev.pd[p]).txQueue = [t] → ∃ d, exec (.pdGoodcrcReceived p) s = .next { s with dev := d } ∧ ((d.pd[p]).txQueue = [] ∧ (d.pd[p]).txId = (s.dev.pd[p]).txId + 1 ∧ (s.dev.tmr.tb + ticksOfMs 28, .tsrctransitionExpiry p) ∈ d.timers ∧
    SameBut [.pd, .chans, .timers] s.dev d ∧ OnlyPort p s.dev d)) ∧
  (∀ t rest, t.sop = 0 → t.kind = .request → (s.dev.pd[p]).txQueue = t :: rest → ∃ d, exec (.pdGoodcrcReceived p) s = .next { s with dev := d } ∧ ((d.pd[p]).txQueue = rest ∧ (d.pd[p]).txId = (s.dev.pd[p]).txId + 1 ∧ (s.dev.tmr.tb + ticksOfMs 30, .tsenderresponseExpiry p) ∈ d.timers ∧
    SameBut [.pd, .chans, .timers] s.dev d ∧ OnlyPort p s.dev d)) ∧
  (∀ t rest, t.sop = 0 → moreChunks t = true → (s.dev.pd[p]).txQueue = t :: rest → ∃ d, exec (.pdGoodcrcReceived p) s = .next { s with dev := d } ∧ ((d.pd[p]).txQueue = rest ∧ (d.pd[p]).chunks = some t ∧ (s.dev.tmr.tb + ticksOfMs 27, .tchunksenderrequestExpiry p) ∈ d.timers ∧
    SameBut [.pd, .chans, .timers] s.dev d ∧ OnlyPort p s.dev d)) ∧
  (∀ t rest, t.tries < 2 → (s.dev.pd[p]).txQueue = t :: rest → ∃ d, exec (.tcrcreceiveExpiry p) s = .next { s with dev := d } ∧ ((d.pd[p]).txQueue = { t with tries := t.tries + 1 } :: rest ∧ (s.dev.tmr.tb + ticksOfMs 1, .tcrcreceiveExpiry p) ∈ d.timers ∧
    SameBut [.pd, .chans, .timers] s.dev d ∧ OnlyPort p s.dev d)) ∧
  (∀ t rest, 2 ≤ t.tries → t.sop ≠ 0 → (s.dev.pd[p]).sinkTxNg = false → (s.dev.pd[p]).txQueue = t :: rest → ∃ d, exec (.tcrcreceiveExpiry p) s = .next { s with dev := d } ∧ ((d.pd[p]).txQueue = rest ∧ (d.pd[p]).retries = inc8 (s.dev.pd[p]).retries ∧ SameBut [.pd, .chans, .timers] s.dev d ∧ OnlyPort p s.dev d))

/-- 04 R139 to R143, R160, R165, R166, R168, R169, R171, R173, R174, R182: what the protocol timers of a port do when they end. A response that
stays out is a Soft_Reset; a timer whose exchange is over changes nothing but the timer.
Each of these commands answers a next state here: tsenderresponseExpiry, ttypecsendsourcecapExpiry, tsinktxExpiry, tsrctransitionExpiry,
tsourceeprkeepaliveExpiry, tppstimeoutExpiry, tvconnsourcetimeoutExpiry, tpstransitionExpiry, tpshardresetExpiry, tsrcrecoverExpiry,
tswapsourcestartExpiry, tbistcontmodeExpiry, tchunksenderrequestExpiry. -/
def Obligations.ProtocolTimersEnd : Prop := ∀ (s : State) (p : Fin 32),
  (pdLive s.dev p = true → (s.dev.pd[p]).ams = .sinkRequest → ∃ d, exec (.tsenderresponseExpiry p) s = .next { s with dev := d } ∧ ((d.pd[p]).txQueue = [{ sop := 0, kind := .softReset, data := [], tries := 0 }] ∧ (d.pd[p]).ams = .softReset ∧
    (d.ports[p]).kind = (s.dev.ports[p]).kind ∧ (d.ports[p]).fence = (s.dev.ports[p]).fence ∧ SameBut [.ports, .pd, .timers] s.dev d ∧ OnlyPort p s.dev d)) ∧
  (pdSource s.dev p = true → explicit s.dev p = false → (s.dev.ports[p]).capsSent < 50 → (s.dev.pd[p]).ams = .none → (s.dev.ports[p]).eprMode = false →
    ∃ d, exec (.ttypecsendsourcecapExpiry p) s = .next { s with dev := d } ∧ (Sends p .sourceCapabilities (capsWords s.dev p) s.dev d ∧ (d.pd[p]).ams = .offer ∧
    (d.ports[p]).capsSent = sat 50 ((s.dev.ports[p]).capsSent + 1) ∧ SameBut [.ports, .pd, .timers] s.dev d ∧ OnlyPort p s.dev d)) ∧
  (pdSource s.dev p = true → (s.dev.pd[p]).sinkTxNg = true → (s.dev.pd[p]).discDue = false → (s.dev.pd[p]).ams = .none → (s.dev.ports[p]).eprMode = false →
    ∃ d, exec (.tsinktxExpiry p) s = .next { s with dev := d } ∧ (Sends p .sourceCapabilities (capsWords s.dev p) s.dev d ∧ (d.pd[p]).ams = .offer ∧
    SameBut [.ports, .pd, .timers] s.dev d ∧ OnlyPort p s.dev d)) ∧
  (pdSource s.dev p = true → lostPort s.dev p = false → (s.dev.pd[p]).ams = .transition → refNow s.dev s.dev.loops[p] < refCode (s.dev.pd[p]).newVolt → (s.dev.pd[p]).newKind = .sprFixed →
    ∃ d, exec (.tsrctransitionExpiry p) s = .next { s with dev := d } ∧ ((d.loops[p]).target = refCode (s.dev.pd[p]).newVolt ∧ (d.loops[p]).ramping = true ∧
    (d.loops[p]).slew = (diePort s.dev p).slewUp ∧ (d.loops[p]).limitMa = none ∧ SameBut [.loops, .timers] s.dev d ∧ OnlyPort p s.dev d)) ∧
  (pdSource s.dev p = true → (s.dev.ports[p]).eprMode = true → (s.dev.pd[p]).hardResets < 2 → Quiet s.dev (portSrc p 6) →
    ∃ d, exec (.tsourceeprkeepaliveExpiry p) s = .next { s with dev := d } ∧ ((d.ports[p]).eprMode = false ∧ (d.ports[p]).kind = .none ∧
    (d.pd[p]).hardResets = (s.dev.pd[p]).hardResets + 1 ∧ (d.sources[portSrc p 6]).latch = true ∧ ∀ q, q ≠ p → d.ports[q] = s.dev.ports[q])) ∧
  (pdSource s.dev p = true → (s.dev.ports[p]).kind = .pps → (s.dev.pd[p]).hardResets < 2 → Quiet s.dev (portSrc p 6) →
    ∃ d, exec (.tppstimeoutExpiry p) s = .next { s with dev := d } ∧ ((d.ports[p]).kind = .none ∧ (d.pd[p]).hardResets = (s.dev.pd[p]).hardResets + 1 ∧
    (d.sources[portSrc p 6]).latch = true ∧ ∀ q, q ≠ p → d.ports[q] = s.dev.ports[q])) ∧
  (pdSource s.dev p = true → (s.dev.pd[p]).ams = .vconnGive → (s.dev.pd[p]).hardResets < 2 → Quiet s.dev (portSrc p 6) →
    ∃ d, exec (.tvconnsourcetimeoutExpiry p) s = .next { s with dev := d } ∧ ((d.ports[p]).kind = .none ∧ (d.pd[p]).hardResets = (s.dev.pd[p]).hardResets + 1 ∧
    (d.sources[portSrc p 6]).latch = true ∧ ∀ q, q ≠ p → d.ports[q] = s.dev.ports[q])) ∧
  (pdSink s.dev p = true → (s.dev.pd[p]).ams = .sinkTransition → (s.dev.pd[p]).hardResets < 2 → Quiet s.dev (portSrc p 6) →
    ∃ d, exec (.tpstransitionExpiry p) s = .next { s with dev := d } ∧ ((d.ports[p]).kind = .none ∧ (d.pd[p]).hardResets = (s.dev.pd[p]).hardResets + 1 ∧
    (d.sources[portSrc p 6]).latch = true ∧ ∀ q, q ≠ p → d.ports[q] = s.dev.ports[q])) ∧
  (pdSource s.dev p = true → lostPort s.dev p = false → (s.dev.pd[p]).hrDischarge = true → vbusLow s.dev p = false → (s.dev.loops[p]).switching = true →
    ∃ d, exec (.tpshardresetExpiry p) s = .next { s with dev := d } ∧ ((d.loops[p]).target = 0 ∧ (d.loops[p]).rampFor = .offRamp ∧ (d.loops[p]).slew = (diePort s.dev p).slewOff ∧
    SameBut [.loops, .timers] s.dev d ∧ OnlyPort p s.dev d)) ∧
  (pdSource s.dev p = true → lostPort s.dev p = false → (s.dev.pd[p]).hrDischarge = true → wantsVconn s.dev p = false → portPg s.dev p = true →
    ∃ d, exec (.tsrcrecoverExpiry p) s = .next { s with dev := d } ∧ ((d.ports[p]).fence = fenceOf 5000 ∧ (d.loops[p]).target = refCode 5000 ∧ (d.loops[p]).switching = true ∧
    (d.pd[p]).hrDischarge = false ∧ SameBut [.ports, .pd, .guards, .loops, .chans, .phases, .timers] s.dev d ∧ OnlyPort p s.dev d)) ∧
  (pdSource s.dev p = true → explicit s.dev p = false → (s.dev.pd[p]).ams = .none → (s.dev.ports[p]).eprMode = false →
    ∃ d, exec (.tswapsourcestartExpiry p) s = .next { s with dev := d } ∧ (Sends p .sourceCapabilities (capsWords s.dev p) s.dev d ∧ (d.pd[p]).ams = .offer ∧
    SameBut [.ports, .pd, .timers] s.dev d ∧ OnlyPort p s.dev d)) ∧
  ((s.dev.pd[p]).ams = .bist → (s.dev.pd[p]).capsDue = false → ∃ d, exec (.tbistcontmodeExpiry p) s = .next { s with dev := d } ∧ ((d.pd[p]).ams = .none ∧
    (d.ports[p]).kind = (s.dev.ports[p]).kind ∧ SameBut [.ports, .pd, .guards, .chans, .timers] s.dev d ∧ OnlyPort p s.dev d)) ∧
  (∀ t, pdLive s.dev p = true → (s.dev.pd[p]).chunks = some t → t.kind = .status → ∃ d, exec (.tchunksenderrequestExpiry p) s = .next { s with dev := d } ∧ ((d.pd[p]).chunks = none ∧
    (d.pd[p]).txQueue = [{ sop := 0, kind := .softReset, data := [], tries := 0 }] ∧ SameBut [.ports, .pd, .timers] s.dev d ∧ OnlyPort p s.dev d))

/-- 04 R154, R162 to R166, R171, R177, R181: the voltage, the fence and the hand of a port. VBUS in the window with the fence down completes
a transition: the contract's registers change together and PS_RDY goes out. VBUS over the fence stops the port: ErrorRecovery, with VBUS_OV
latched. A pending hand takes effect; the owner alone writes PORTn_LIMIT.
Each of these commands answers a next state here: vbusInWindow, fenceLower, vbusOvFence, contractBreachOvercurrent, pendingHandEffective,
tpssourceoffExpiry, tpssourceonExpiry, portLimitWrite. -/
def Obligations.VoltageFenceAndHand : Prop := ∀ (s : State) (p : Fin 32),
  (s.dev.sys.retraining[linkOf (edgeOf p)] = false → (s.dev.pd[p]).ams = .transition → (s.dev.pd[p]).newKind ≠ .none → timerRuns s.dev (.tsrctransitionExpiry p) = false → (s.dev.ports[p]).fencePend = none →
    ∃ d, exec (.vbusInWindow p) s = .next { s with dev := d } ∧ ((d.ports[p]).kind = (s.dev.pd[p]).newKind ∧ (d.ports[p]).volt = (s.dev.pd[p]).newVolt ∧
      (d.ports[p]).curr = (s.dev.pd[p]).newCurr ∧ (d.ports[p]).rdo = (s.dev.pd[p]).newRdo ∧ (d.ports[p]).transition = false ∧
      Sends p .psRdy [] s.dev d ∧ (d.pd[p]).hardResets = 0 ∧ SameBut [.ports, .pd, .timers, .jrn, .host, .ringMem] s.dev d ∧ OnlyPort p s.dev d)) ∧
  (s.dev.sys.retraining[linkOf (edgeOf p)] = false → (s.dev.pd[p]).ams = .transition → (s.dev.pd[p]).newKind ≠ .none → timerRuns s.dev (.tsrctransitionExpiry p) = false → (s.dev.ports[p]).fencePend ≠ none →
    ∃ d, exec (.vbusInWindow p) s = .next { s with dev := d } ∧ ((d.pd[p]).inWindow = true ∧ SameBut [.pd] s.dev d ∧ OnlyPort p s.dev d)) ∧
  (∀ f, (s.dev.ports[p]).fencePend = some f → (s.dev.pd[p]).ams ≠ .transition →
    ∃ d, exec (.fenceLower p) s = .next { s with dev := d } ∧ ((d.ports[p]).fence = f ∧ (d.ports[p]).fencePend = none ∧ SameBut [.ports] s.dev d ∧ OnlyPort p s.dev d)) ∧
  ((s.dev.ports[p]).fence ≠ 0 → (s.dev.ports[p]).tc = .attachedSrc → hasPort s.dev p = true → (s.dev.pd[p]).disabling = false →
    Quiet s.dev (portSrc p 0) → lostPort s.dev p = false → ∃ d, exec (.vbusOvFence p) s = .next { s with dev := d } ∧ ((d.ports[p]).tc = .errorRecovery ∧
      (d.loops[p]).switching = false ∧ guardOn (d.guards[p]) = false ∧ (d.sources[portSrc p 0]).latch = true)) ∧
  (pdSource s.dev p = true → (s.dev.ports[p]).kind = .sprFixed → (s.dev.pd[p]).breachTb = none → Quiet s.dev (portSrc p 7) →
    ∃ d, exec (.contractBreachOvercurrent p) s = .next { s with dev := d } ∧ ((d.sources[portSrc p 7]).latch = true ∧ (d.ports[p]).kind = .sprFixed ∧
      (d.ports[p]).volt = (s.dev.ports[p]).volt ∧ d.loops = s.dev.loops ∧ ∀ q, q ≠ p → d.ports[q] = s.dev.ports[q])) ∧
  (∀ v w, (s.dev.ports[p]).pend = some (v, w) → explicit s.dev p = false → (s.dev.pd[p]).target ≤ v →
    ∃ d, exec (.pendingHandEffective p) s = .next { s with dev := d } ∧ ((d.ports[p]).hand = v ∧ (d.ports[p]).pend = none)) ∧
  ((s.dev.pd[p]).ams = .prSwapSnk → hasPort s.dev p = true → (s.dev.ports[p]).tc = .attachedSnk → (s.dev.pd[p]).disabling = false → lostPort s.dev p = false →
    ∃ d, exec (.tpssourceoffExpiry p) s = .next { s with dev := d } ∧ ((d.ports[p]).tc = .errorRecovery ∧ (d.loops[p]).switching = false ∧ guardOn (d.guards[p]) = false ∧
      d.sources = s.dev.sources)) ∧
  ((s.dev.pd[p]).ams = .prSwapSrc → hasPort s.dev p = true → (s.dev.ports[p]).tc = .attachedSnk → (s.dev.pd[p]).disabling = false → lostPort s.dev p = false →
    ∃ d, exec (.tpssourceonExpiry p) s = .next { s with dev := d } ∧ ((d.ports[p]).tc = .errorRecovery ∧ (d.loops[p]).switching = false ∧ guardOn (d.guards[p]) = false ∧
      d.sources = s.dev.sources)) ∧
  (∀ m v, isOwner s.dev m = true → ∃ d, exec (.portLimitWrite m p v) s = .next { s with dev := d } ∧ ((d.pd[p]).limit = bits v 0 16 ∧ d.loops = s.dev.loops ∧ d.phases = s.dev.phases ∧
      d.sources = s.dev.sources)) ∧
  (∀ m v, isOwner s.dev m = false → ∃ d, exec (.portLimitWrite m p v) s = .next { s with dev := d } ∧ (d.ports = s.dev.ports ∧ d.pd = s.dev.pd))

/-- 05 R207, R211, R213 to R220, 04 R180: the loop of a port. A ramp ends at its target; an off-ramp ends with the phases at mid and the
discharge on; regions change only to a neighbour; a limit held too long is a hiccup, counted for ten seconds, with the guard open and the
contract ended; a stage fault stops the port; VBUS below its range latches VBUS_UV and is a Hard Reset.
Each of these commands answers a next state here: referenceRampEnd, offRampEnd, regionChange, truncationStart, truncationEnd, limitAllowanceExceeded,
hiccupOffTimeExpiry, hiccupAgeOut, stageFault, vbusUv. -/
def Obligations.LoopsRampLimitAndStop : Prop := ∀ (s : State) (p : Fin 32),
  ((s.dev.loops[p]).ramping = true → portMinimal s.dev p = false → ∃ d, exec (.referenceRampEnd p) s = .next { s with dev := d } ∧ ((d.loops[p]).ref = (s.dev.loops[p]).target ∧ (d.loops[p]).ramping = false ∧ (d.loops[p]).softStart = false ∧ (d.loops[p]).deForced = false ∧
    (d.loops[p]).uvFrom = s.dev.tmr.tb + ticksOfMs 15 ∧
    SameBut [.loops] s.dev d ∧ OnlyPort p s.dev d)) ∧
  ((s.dev.loops[p]).ramping = true → (s.dev.loops[p]).rampFor = .offRamp → ∃ d, exec (.offRampEnd p) s = .next { s with dev := d } ∧ ((d.loops[p]).switching = false ∧ (d.loops[p]).ramping = false ∧ (d.guards[p]).discharge = !(s.dev.ports[p]).rd ∧
    SameBut [.pd, .guards, .loops, .phases, .timers] s.dev d ∧ OnlyPort p s.dev d)) ∧
  (∀ r, (s.dev.loops[p]).switching = true → regionNext (s.dev.loops[p]).region r = true → ∃ d, exec (.regionChange p r) s = .next { s with dev := d } ∧ (d.loops[p] = { s.dev.loops[p] with region := r } ∧ SameBut [.loops, .phases] s.dev d ∧ OnlyPort p s.dev d)) ∧
  ((s.dev.loops[p]).switching = true → (s.dev.loops[p]).trunc = false → ∃ d, exec (.truncationStart p) s = .next { s with dev := d } ∧ (d.loops[p] = { s.dev.loops[p] with trunc := true } ∧ SameBut [.loops, .phases] s.dev d ∧ OnlyPort p s.dev d)) ∧
  (∃ d, exec (.truncationEnd p) s = .next { s with dev := d } ∧ (d.loops[p] = { s.dev.loops[p] with trunc := false } ∧ SameBut [.loops] s.dev d ∧ OnlyPort p s.dev d)) ∧
  (∀ ph, (s.dev.loops[p]).switching = true → portOfPhase s.dev ph = some p → (s.dev.loops[p]).hc < (loopCfg s.dev p).mHiccup →
    Quiet s.dev (phaseSrc ph 0) → ∃ d, exec (.limitAllowanceExceeded p ph) s = .next { s with dev := d } ∧ ((d.loops[p]).hiccup = true ∧
      (d.loops[p]).hc = sat 15 ((s.dev.loops[p]).hc + 1) ∧ (d.loops[p]).switching = false ∧ guardOn (d.guards[p]) = false ∧ (d.ports[p]).kind = .none ∧
      (d.ports[p]).tc = (s.dev.ports[p]).tc ∧ (d.sources[phaseSrc ph 0]).latch = true ∧ ∀ q, q ≠ p → d.loops[q] = s.dev.loops[q] ∧ d.ports[q] = s.dev.ports[q])) ∧
  ((s.dev.loops[p]).hiccup = true → sfFault s.dev p = false → hiccupLive s.dev.ports[p] = true → portPg s.dev p = true →
    ∃ d, exec (.hiccupOffTimeExpiry p) s = .next { s with dev := d } ∧ ((d.loops[p]).hiccup = false ∧ (d.loops[p]).switching = true ∧ (d.loops[p]).target = refCode 5000 ∧
      (d.ports[p]).fence = fenceOf 5000 ∧ SameBut [.ports, .pd, .loops, .phases, .timers] s.dev d ∧ OnlyPort p s.dev d)) ∧
  ((s.dev.loops[p]).hiccup = true → sfFault s.dev p = false → hiccupLive s.dev.ports[p] = false →
    ∃ d, exec (.hiccupOffTimeExpiry p) s = .next { s with dev := d } ∧ ((d.loops[p]).hiccup = false ∧ SameBut [.loops, .timers] s.dev d ∧ OnlyPort p s.dev d)) ∧
  (∃ d, exec (.hiccupAgeOut p) s = .next { s with dev := d } ∧ (d.loops[p] = { s.dev.loops[p] with hc := (s.dev.loops[p]).hc - 1 } ∧ SameBut [.loops] s.dev d ∧ OnlyPort p s.dev d)) ∧
  (∀ n, phasesOf s.dev p = [n] → Quiet s.dev (phaseSrc n 3) → (s.dev.loops[p]).switching = true → ∃ d, exec (.stageFault p) s = .next { s with dev := d } ∧ ((d.phases[n]).sf = true ∧ (d.loops[p]).switching = false ∧ guardOn (d.guards[p]) = false ∧ (d.sources[phaseSrc n 3]).latch = true ∧ d.ports = s.dev.ports)) ∧
  ((s.dev.guards[p]).state = .closed → (s.dev.loops[p]).ramping = false → pdLive s.dev p = true → (s.dev.pd[p]).hardResets < 2 →
    (s.dev.loops[p]).uvFrom ≤ s.dev.tmr.tb →
    Quiet s.dev (portSrc p 1) → Quiet s.dev (portSrc p 6) → ∃ d, exec (.vbusUv p) s = .next { s with dev := d } ∧ ((d.loops[p]).uv = true ∧ (d.ports[p]).kind = .none ∧ (d.sources[portSrc p 1]).latch = true ∧ (d.sources[portSrc p 6]).latch = true))

/-- 05 R194 to R198, R221 to R226, 12 R482: phases retire and return. A silent or implausible phase, or one the owner retires, is RETIRED with
its cause and, but for the owner, its latch; a census that is due runs; its result stands in the registers of the phase, and a phase that fails
its first census retires; RESTORE_PHASE brings the census of a retired phase; a bus below 32 V idles the phases of its ports.
Each of these commands answers a next state here: phaseSilent, senseImplausible, phaseRetireCmd, pendingCensus, censusComplete, restorePhase,
busVinLow, busVinRecover. -/
def Obligations.PhasesRetireAndReturn : Prop := ∀ (s : State),
  (∀ n p, portOfPhase s.dev n = some p → (s.dev.phases[n]).state = .switching → guardOn (s.dev.guards[p]) = true → Quiet s.dev (phaseSrc n 1) → ∃ d, exec (.phaseSilent n) s = .next { s with dev := d } ∧ ((d.phases[n]).state = .retired ∧ (d.phases[n]).why = 1 ∧ (d.sources[phaseSrc n 1]).latch = true ∧ SameBut [.cfg, .ports, .pd, .guards, .loops, .phases, .chans, .feeds, .sources, .coll, .host, .store, .jrn, .sys, .ringMem, .timers, .loss] s.dev d)) ∧
  (∀ n p, portOfPhase s.dev n = some p → (s.dev.phases[n]).state = .switching → (s.dev.guards[p]).state = .closed →
    (s.dev.loops[p]).ramping = false → Quiet s.dev (phaseSrc n 2) → ∃ d, exec (.senseImplausible n) s = .next { s with dev := d } ∧ ((d.phases[n]).state = .retired ∧ (d.phases[n]).why = 2 ∧ (d.sources[phaseSrc n 2]).latch = true ∧ SameBut [.cfg, .ports, .pd, .guards, .loops, .phases, .chans, .feeds, .sources, .coll, .host, .store, .jrn, .sys, .ringMem, .timers, .loss] s.dev d)) ∧
  (∀ m n, isOwner s.dev m = true → (s.dev.cfg.phases[n]).isSome = true → (s.dev.phases[n]).state ≠ .retired →
    ∃ d, exec (.phaseRetireCmd m n) s = .next { s with dev := d } ∧ ((d.phases[n]).state = .retired ∧ (d.phases[n]).why = 5 ∧ d.sources = s.dev.sources)) ∧
  (∀ m n, isOwner s.dev m = false → ∃ d, exec (.phaseRetireCmd m n) s = .next { s with dev := d } ∧ (SameBut [.host] s.dev d)) ∧
  (∀ b, busPg s.dev b = true → ∃ d, exec (.pendingCensus b) s = .next { s with dev := d } ∧ (SameBut [.loops, .phases] s.dev d ∧
    ∀ n : Fin 64, (s.dev.phases[n]).state = .pending → ((s.dev.cfg.phases[n]).getD {}).busB = b → (d.phases[n]).due = true ∨ (d.phases[n]).state = .census)) ∧
  (∀ n p r, (s.dev.phases[n]).state = .census → (s.dev.phases[n]).due = false → s.dev.sys.retired.getLsbD n.val = false → s.dev.sys.mode ≠ .boot →
    (∀ q : Fin 32, (s.dev.pd[q]).deb = false) → portOfPhase s.dev n = some p → censusPass s.dev n r = true → ∃ d, exec (.censusComplete n r) s = .next { s with dev := d } ∧ ((d.phases[n]).state = .idle ∧ (d.phases[n]).census = 1 ∧ (d.phases[n]).zeroMv = r.zeroMv ∧ (d.phases[n]).ownRise = r.ownRise ∧
      (d.phases[n]).foreignPort = r.foreignPort ∧ (d.phases[n]).foreignRise = r.foreignRise ∧ d.sources = s.dev.sources)) ∧
  (∀ n p r, (s.dev.phases[n]).state = .census → (s.dev.phases[n]).due = false → s.dev.sys.retired.getLsbD n.val = false → s.dev.sys.mode ≠ .boot →
    (∀ q : Fin 32, (s.dev.pd[q]).deb = false) → portOfPhase s.dev n = some p → censusPass s.dev n r = false → s.dev.host.jobs = [] →
    Quiet s.dev (phaseSrc n (if censusStill s.dev n r then 1 else 2)) → ∃ d, exec (.censusComplete n r) s = .next { s with dev := d } ∧ ((d.phases[n]).state = .retired ∧ (d.phases[n]).why = 3 ∧ (d.phases[n]).census = 2 ∧
      (d.sources[phaseSrc n (if censusStill s.dev n r then 1 else 2)]).latch = true)) ∧
  (∀ c n, checkCode480 s.dev c 0x0103 true (some (edgeOfPhase n)) = none → mayRestore s.dev n = true → ∃ d, exec (.restorePhase c n) s = .next { s with dev := d } ∧ (((d.phases[n]).due = true ∨ (d.phases[n]).state = .census) ∧ (∃ j ∈ d.host.jobs, j.ref = c ∧ j.opcode = 0x0103 ∧ j.arg = n.val) ∧
    SameBut [.loops, .phases, .host] s.dev d)) ∧
  (∀ e b p n, busPorts s.dev e b = [p] → livePhases s.dev p = [n] → (s.dev.phases[n]).state = .switching → ∃ d, exec (.busVinLow e b) s = .next { s with dev := d } ∧ ((d.loops[p]).vinLow = true ∧ (d.phases[n]).state = .idle ∧ SameBut [.loops, .phases] s.dev d ∧ OnlyPort p s.dev d)) ∧
  (∀ e b p n, busPorts s.dev e b = [p] → livePhases s.dev p = [n] → (s.dev.phases[n]).state = .idle → (s.dev.loops[p]).switching = true →
    ∃ d, exec (.busVinRecover e b) s = .next { s with dev := d } ∧ ((d.loops[p]).vinLow = false ∧ (d.phases[n]).state = .switching ∧ SameBut [.loops, .phases] s.dev d ∧ OnlyPort p s.dev d))

/-- 06 R237, R240, R243 to R248, R267; 03 R107: monitor channels. A change of zone sets the zone, its trips and its count; a settled channel
enters its zone, by itself or at the owner's SETTLE; a frozen channel is released; a sink on one CC pin of a waiting source port starts its debounce.
Each of these commands answers a next state here: monitorZoneChange, channelSettle, settle, channelHoldEnd. -/
def Obligations.ChannelsChangeZone : Prop := ∀ (s : State) (ch : Fin 204),
  (¬(ch.val < 128 ∧ ch.val % 4 < 3) ∨ isShadow s.dev = true → ((s.dev.chans[ch]).route.getLsbD 2 = false ∧ ¬(ch.val < 128 ∧ ch.val % 4 < 3)) ∨ s.dev.sys.mode ≠ .standby →
    chanRuns s.dev ch = true → (s.dev.chans[ch]).enabled = true → s.dev.sys.retraining[dieOf ch] = false →
    (∀ z t, (s.dev.chans[ch]).frozen = false → z ≠ .unsettled → (s.dev.chans[ch]).zone ≠ .unsettled → isWindow ch = true →
      (s.dev.chans[ch]).zone ≠ z → ∃ d, exec (.monitorZoneChange ch z t) s = .next { s with dev := d } ∧ ((d.chans[ch]).zone = z ∧
        (d.chans[ch]).tripHi = (z == .above) ∧ (d.chans[ch]).tripLo = (z == .below) ∧
        (d.chans[ch]).changes = wrapInc 16 (s.dev.chans[ch]).changes ∧
        (∀ c, c ≠ ch → d.chans[c] = s.dev.chans[c]) ∧ SameBut [.chans, .convs, .itms, .tmr] s.dev d)) ∧
    (∀ z t, (s.dev.chans[ch]).zone = .unsettled → z ≠ .unsettled → isWindow ch = true → ∃ d, exec (.channelSettle ch z t) s = .next { s with dev := d } ∧ ((d.chans[ch]).zone = z ∧ (d.chans[ch]).unsetHi = false ∧ (d.chans[ch]).unsetLo = false ∧
      (∀ c, c ≠ ch → d.chans[c] = s.dev.chans[c]) ∧ SameBut [.chans, .convs, .itms, .tmr] s.dev d)) ∧
    (∀ m a b, isOwner s.dev m = true → (s.dev.chans[ch]).zone = .unsettled → (s.dev.chans[ch]).unsetHi = true → (s.dev.chans[ch]).unsetLo = true →
      isWindow ch = true → ∃ d, exec (.settle m ch a b) s = .next { s with dev := d } ∧ ((d.chans[ch]).zone = (if a then .above else if b then .inWin else .below) ∧
        (d.chans[ch]).forced = true ∧ (d.chans[ch]).unsetHi = false ∧ (d.chans[ch]).unsetLo = false ∧ d.ports = s.dev.ports))) ∧
  (∀ t, ¬(ch.val < 128 ∧ ch.val % 4 < 3) ∨ isShadow s.dev = true → (s.dev.chans[ch]).frozen = true → (s.dev.chans[ch]).holdEnd ≤ s.dev.tmr.tb →
    ∃ d, exec (.channelHoldEnd ch (s.dev.chans[ch]).zone t) s = .next { s with dev := d } ∧ (d.chans = s.dev.chans.set ch { s.dev.chans[ch] with frozen := false } ∧ SameBut [.chans, .timers] s.dev d)) ∧
  (∀ t z, (s.dev.chans[ch]).frozen = true → s.dev.tmr.tb < (s.dev.chans[ch]).holdEnd →
    (∃ dn, exec (.channelHoldEnd ch z t) s = .next { s with dev := dn } ∧ SameBut [] s.dev dn)) ∧
  (∀ t (p : Fin 32), ch = cc1 p → isShadow s.dev = false → s.dev.sys.mode ≠ .standby → s.dev.sys.mode ≠ .dormant → (s.dev.ports[p]).tc = .unattachedSrc →
    hasPort s.dev p = true → (s.dev.pd[p]).disabling = false → (s.dev.chans[ch]).enabled = true → (s.dev.chans[ch]).frozen = false →
    s.dev.sys.retraining[dieOf ch] = false → (s.dev.chans[cc2 p]).frozen = false →
    (s.dev.chans[ch]).zone = .above → (s.dev.chans[cc2 p]).zone = .above → ∃ d, exec (.monitorZoneChange ch .inWin t) s = .next { s with dev := d } ∧ ((d.ports[p]).tc = .attachWaitSrc ∧ (d.pd[p]).deb = true ∧ (d.chans[ch]).zone = .inWin ∧
      (t + ticksOfMs (portCfg s.dev p).debounce, .tccdebounceExpiry p) ∈ d.timers))

/-- 06 R249 to R255, R268: live calibration. A step takes a channel, in order, or the one the owner names; a channel is taken over at agreement,
given back at the next with its trim, and skipped after four retries; a spare that cannot be trimmed is marked; the trim memory is written.
Each of these commands answers a next state here: calStep, calAgreement, calRetry, trimWrite, calNext, monCalCtlWrite. -/
def Obligations.CalibrationTakesChannelsInTurn : Prop := ∀ (s : State) (g : Fin 25),
  (∀ c ok, calPaused s.dev = false → (s.dev.groups[g]).stopped = false → (s.dev.groups[g]).now = none → (s.dev.groups[g]).next = some c →
    calTakes s.dev c = true → (∀ c : Fin 204, (s.dev.chans[c]).waiting = none) →
    (ok = true → ∃ d, exec (.calStep g ok) s = .next { s with dev := d } ∧ (d.groups = s.dev.groups.set g { s.dev.groups[g] with now := some c, next := none, stage := 4, retries := 0 } ∧ SameBut [.groups] s.dev d)) ∧
    (ok = false → (s.dev.groups[g]).failedA = false → (s.dev.groups[g]).failedB = false → ∃ d, exec (.calStep g ok) s = .next { s with dev := d } ∧ ((d.groups[g]).failedA = !(s.dev.groups[g]).useB ∧ (d.groups[g]).failedB = (s.dev.groups[g]).useB ∧ (d.groups[g]).useB = !(s.dev.groups[g]).useB ∧
      (d.groups[g]).stopped = false ∧ d.chans = s.dev.chans))) ∧
  (∀ c err, (s.dev.groups[g]).now = some c →
    ((s.dev.groups[g]).stage = 4 → ∃ d, exec (.calAgreement g err) s = .next { s with dev := d } ∧ ((d.groups[g]).stage = 6 ∧ (d.groups[g]).now = some c ∧
      d.chans = s.dev.chans.set c { s.dev.chans[c] with spare := true } ∧ SameBut [.groups, .chans] s.dev d)) ∧
    ((s.dev.groups[g]).stage ≠ 4 → ∃ d, exec (.calAgreement g err) s = .next { s with dev := d } ∧ ((d.groups[g]).now = none ∧ (d.groups[g]).stage = 0 ∧
      (d.chans[c]).spare = false ∧ (d.chans[c]).trimErr = err ∧ (d.chans[c]).calTb = s.dev.tmr.tb ∧
      (d.chans[c]).trimOfs = (trimNew s.dev.chans[c] err).getD (s.dev.chans[c]).trimOfs ∧
      (d.chans[c]).drift = (trimNew s.dev.chans[c] err).isNone ∧ d.sys.trimDue = true)) ∧
    ((s.dev.groups[g]).retries < 4 → ∃ d, exec (.calRetry g) s = .next { s with dev := d } ∧ (d.groups = s.dev.groups.set g { s.dev.groups[g] with retries := (s.dev.groups[g]).retries + 1 } ∧ SameBut [.groups] s.dev d)) ∧
    (4 ≤ (s.dev.groups[g]).retries → ∃ d, exec (.calRetry g) s = .next { s with dev := d } ∧ ((d.groups[g]).now = none ∧ (d.chans[c]).spare = false ∧
      (d.chans[c]).trimOfs = (s.dev.chans[c]).trimOfs ∧ SameBut [.groups, .chans, .sys] s.dev d))) ∧
  (s.dev.sys.trimDue = true → ∃ d, exec .trimWrite s = .next { s with dev := d } ∧ (d.sys.trimDue = false ∧ d.sys.trimTb = s.dev.tmr.tb ∧ d.chans = s.dev.chans)) ∧
  (∀ m ch, isOwner s.dev m = true → ∃ d, exec (.calNext m ch) s = .next { s with dev := d } ∧ ((d.groups[groupOf ch]).next = some ch ∧ (d.groups[groupOf ch]).now = (s.dev.groups[groupOf ch]).now ∧ SameBut [.groups] s.dev d)) ∧
  (∀ m v, isOwner s.dev m = true → ∃ d, exec (.monCalCtlWrite m v) s = .next { s with dev := d } ∧ (d.sys = { s.dev.sys with monCtl := bits v 0 1 + 2 * max 1 (min 100 (bits v 1 7)) } ∧ SameBut [.sys] s.dev d)) ∧
  (∀ m v, isOwner s.dev m = false → ∃ d, exec (.monCalCtlWrite m v) s = .next { s with dev := d } ∧ (SameBut [.host] s.dev d))

/-- 06 R257, R260 to R266; 02 R62: converters. A trigger starts an idle converter's sequence, waits behind a running one, and is dropped within
TMIN; a sequence that ends writes its result block and the results of its channels and lets the next one start; disabling it ends it; the owner
may trigger sequences; a read of a result block loads the reader's buffer.
Each of these commands answers a next state here: converterTrigger, cvxTrig, sequenceComplete, continuousResult, seqEnDisable, contEnClear,
ressStampLoRead. -/
def Obligations.ConvertersRunSequences : Prop := ∀ (s : State) (cv : Fin 5),
  (∀ (sq : Fin 16) t, sq ≠ 0 → (s.dev.convs[cv]).seqEn.getLsbD sq.val = true → seqMembers s.dev cv sq ≠ [] →
    (((s.dev.convs[cv]).seqs[sq]).lastTrig = none → (s.dev.convs[cv]).running = none → ((s.dev.convs[cv]).seqs[sq]).waiting = none →
      ∃ d, exec (.converterTrigger cv sq t) s = .next { s with dev := d } ∧ ((d.convs[cv]).running = some (sq, t) ∧ (d.convs[cv]).startTb = s.dev.tmr.tb ∧
        ((d.convs[cv]).seqs[sq]).lastTrig = some t ∧ SameBut [.convs] s.dev d)) ∧
    (∀ r t', r ≠ sq → ((s.dev.convs[cv]).seqs[sq]).lastTrig = none → (s.dev.convs[cv]).running = some (r, t') →
      ((s.dev.convs[cv]).seqs[sq]).waiting = none → ∃ d, exec (.converterTrigger cv sq t) s = .next { s with dev := d } ∧ ((d.convs[cv]).running = some (r, t') ∧ ((d.convs[cv]).seqs[sq]).waiting = some t ∧
        (d.convs[cv]).order = (s.dev.convs[cv]).order ++ [sq] ∧ SameBut [.convs] s.dev d)) ∧
    (∀ t' g, ((s.dev.convs[cv]).seqs[sq]).lastTrig = some t' → trigOf s.dev cv sq = some g → g.tkind ≠ 0 → t < t' + 50 * g.tmin →
      ∃ d, exec (.converterTrigger cv sq t) s = .next { s with dev := d } ∧ (((d.convs[cv]).seqs[sq]).drops = inc8 ((s.dev.convs[cv]).seqs[sq]).drops ∧
        (d.convs[cv]).running = (s.dev.convs[cv]).running ∧ ((d.convs[cv]).seqs[sq]).lastTrig = some t' ∧ SameBut [.convs] s.dev d)) ∧
    (∀ m, isOwner s.dev m = true → s.dev.sys.retraining[cv] = false → ((s.dev.convs[cv]).seqs[sq]).lastTrig = none → (s.dev.convs[cv]).running = none →
      ((s.dev.convs[cv]).seqs[sq]).waiting = none → ∃ d, exec (.cvxTrig m cv (BitVec.ofNat 32 (2 ^ sq.val))) s = .next { s with dev := d } ∧ ((d.convs[cv]).running = some (sq, s.dev.tmr.tb) ∧ ((d.convs[cv]).seqs[sq]).lastTrig = some s.dev.tmr.tb ∧ SameBut [.convs] s.dev d))) ∧
  (∀ (sq : Fin 16) t rs, (s.dev.convs[cv]).running = some (sq, t) → (s.dev.convs[cv]).order = [] → s.dev.sys.retraining[cv] = false →
    ∃ d, exec (.sequenceComplete cv rs) s = .next { s with dev := d } ∧ ((d.convs[cv]).running = none ∧
      ((d.convs[cv]).seqs[sq]).completions = wrapInc 16 ((s.dev.convs[cv]).seqs[sq]).completions ∧
      (((d.convs[cv]).seqs[sq]).block).stamp = t ∧ (((d.convs[cv]).seqs[sq]).block).incomplete = false ∧
      (((d.convs[cv]).seqs[sq]).block).members = (seqMembers s.dev cv sq).length ∧ SameBut [.convs, .chans] s.dev d)) ∧
  (∀ (sq r : Fin 16) t rs rest, (s.dev.convs[cv]).running = some (sq, t) → (s.dev.convs[cv]).order = r :: rest → r ≠ sq → s.dev.sys.retraining[cv] = false →
    ∃ d, exec (.sequenceComplete cv rs) s = .next { s with dev := d } ∧ (((d.convs[cv]).running.map Prod.fst) = some r ∧ (d.convs[cv]).order = rest ∧
      (((d.convs[cv]).seqs[sq]).block).stamp = t ∧ ((d.convs[cv]).seqs[r]).waiting = none ∧ SameBut [.convs, .chans] s.dev d)) ∧
  (∀ ch v, (s.dev.chans[ch]).enabled = true → s.dev.sys.retraining[dieOf ch] = false → ∃ d, exec (.continuousResult ch v) s = .next { s with dev := d } ∧ (d.chans = s.dev.chans.set ch { s.dev.chans[ch] with
      result := v, results := wrapInc 16 (s.dev.chans[ch]).results, resultTb := s.dev.tmr.tb } ∧ SameBut [.chans] s.dev d)) ∧
  (∀ m (sq : Fin 16), isOwner s.dev m = true →
    ((s.dev.convs[cv]).running = none → ∃ d, exec (.seqEnDisable m cv sq) s = .next { s with dev := d } ∧ ((d.convs[cv]).seqEn.getLsbD sq.val = false ∧
      ((d.convs[cv]).seqs[sq]).waiting = none ∧ (d.convs[cv]).running = none ∧ SameBut [.convs] s.dev d)) ∧
    (∀ t, (s.dev.convs[cv]).running = some (sq, t) → (s.dev.convs[cv]).order = [] → ∃ d, exec (.seqEnDisable m cv sq) s = .next { s with dev := d } ∧ ((d.convs[cv]).seqEn.getLsbD sq.val = false ∧ (d.convs[cv]).running = none ∧ (((d.convs[cv]).seqs[sq]).block).incomplete = true ∧
      ((d.convs[cv]).seqs[sq]).completions = ((s.dev.convs[cv]).seqs[sq]).completions ∧ SameBut [.convs, .chans] s.dev d))) ∧
  (∀ m, isOwner s.dev m = true → ∃ d, exec (.contEnClear m cv) s = .next { s with dev := d } ∧ ((d.convs[cv]).contEn = false ∧
    (d.convs[cv]).seqEn = (s.dev.convs[cv]).seqEn ∧ SameBut [.convs] s.dev d)) ∧
  (∀ m (sq : Fin 16), s.dev.sys.mode ≠ .recovery → ∃ d, exec (.ressStampLoRead m cv sq) s = .next { s with dev := d } ∧ (((d.convs[cv]).buffers[bufOf m])[sq] = some ((s.dev.convs[cv]).seqs[sq]).block ∧
    (d.host.masters[m]).reply = [wordOf ((s.dev.convs[cv]).seqs[sq]).block.stamp 0] ∧ SameBut [.convs, .host] s.dev d))

/-- 07 R275 to R279, R282 to R291: a hot-swap feed. Its enable takes it from OFF to WAIT, and from there, in its window and with VGD up, to the
insertion delay; then RAMP, or COOLING while the FET is hot; power-good ends the ramp. A fall of the enable, a breach of the window, a time-out, a
limit held too long, a short, or a hot FET end it, with the cause in its registers and its source raised.
Each of these commands answers a next state here: feedEnableRise, feedEnableFall, feedWindowEnter, insDelayExpiry, insTimeoutExpiry, feedUvBreach,
feedOvBreach, feedLimitStart, feedLimitEnd, feedFaultTimerExpiry, feedOvercurrentTrip, fetTempTrip, fetTempRelease, feedModelStep, feedPowerGood,
feedReverseTurnOff, diodeRedrive. -/
def Obligations.FeedsInsertRunAndLatch : Prop := ∀ (s : State) (f : Fin 4),
  ((s.dev.feeds[f]).en = true → (s.dev.feeds[f]).state = .off → (s.dev.cfg.feeds[f]).isSome = true → elfLost s.dev = false → extest s.dev = false →
    ∃ d, exec (.feedEnableRise f) s = .next { s with dev := d } ∧ ((d.feeds[f]).fen = true ∧ SameBut [.feeds, .chans, .timers] s.dev d ∧ (d.feeds[f]).state =
      if (s.dev.feeds[f]).inWindow && s.dev.sys.vgdStart && s.dev.sys.mode != .standby && !s.dev.sys.tempTrip[5] then .delay else .wait)) ∧
  (∃ d, exec (.feedEnableFall f) s = .next { s with dev := d } ∧ ((d.feeds[f]).fen = false ∧ (d.feeds[f]).state = .off ∧ (d.feeds[f]).latchWhy = 0 ∧
    (d.feeds[f]).pg = false ∧ SameBut [.feeds, .timers] s.dev d)) ∧
  ((s.dev.feeds[f]).state = .wait → s.dev.sys.vgdStart = true → s.dev.sys.mode ≠ .standby → s.dev.sys.tempTrip[5] = false → extest s.dev = false →
    ∃ d, exec (.feedWindowEnter f) s = .next { s with dev := d } ∧ ((d.feeds[f]).state = .delay ∧ (d.feeds[f]).inWindow = true ∧
      (d.sources[feedSrc f 0]).cond = false ∧ (d.sources[feedSrc f 1]).cond = false ∧ SameBut [.feeds, .sources, .timers] s.dev d)) ∧
  ((s.dev.feeds[f]).state = .delay → ∃ d, exec (.insDelayExpiry f) s = .next { s with dev := d } ∧ ((d.feeds[f]).state = (if (s.dev.feeds[f]).hot then .cooling else .ramp) ∧ SameBut [.feeds, .timers] s.dev d)) ∧
  ((s.dev.feeds[f]).state = .ramp ∨ (s.dev.feeds[f]).state = .cooling → Quiet s.dev (feedSrc f 5) →
    ∃ d, exec (.insTimeoutExpiry f) s = .next { s with dev := d } ∧ ((d.feeds[f]).state = .latched ∧ (d.feeds[f]).latchWhy = 5 ∧
      (d.sources[feedSrc f 5]).latch = true ∧ d.ports = s.dev.ports ∧ d.sys = s.dev.sys)) ∧
  (feedInserting s.dev.feeds[f] = true → Quiet s.dev (feedSrc f 6) → Quiet s.dev (feedSrc f 0) →
    ∃ d, exec (.feedUvBreach f) s = .next { s with dev := d } ∧ ((d.feeds[f]).state = .wait ∧ (d.feeds[f]).inUv = true ∧ (d.sources[feedSrc f 0]).latch = true ∧
      ((s.dev.feeds[f]).pg = true → (d.sources[feedSrc f 6]).latch = true) ∧ d.ports = s.dev.ports ∧ d.sys = s.dev.sys)) ∧
  (feedInserting s.dev.feeds[f] = true → Quiet s.dev (feedSrc f 6) → Quiet s.dev (feedSrc f 1) →
    ∃ d, exec (.feedOvBreach f) s = .next { s with dev := d } ∧ ((d.feeds[f]).state = .wait ∧ (d.feeds[f]).inOv = true ∧ (d.sources[feedSrc f 1]).latch = true ∧
      ((s.dev.feeds[f]).pg = true → (d.sources[feedSrc f 6]).latch = true) ∧ d.ports = s.dev.ports ∧ d.sys = s.dev.sys)) ∧
  (∀ b, gateDriven s.dev.feeds[f] = true → (s.dev.feeds[f]).limiting = false → ∃ d, exec (.feedLimitStart f b) s = .next { s with dev := d } ∧ ((d.feeds[f]).limiting = true ∧ (d.feeds[f]).foldback = b ∧ (d.feeds[f]).timer = timerUp s.dev (s.dev.feeds[f]).timer ∧
    (d.feeds[f]).state = (s.dev.feeds[f]).state ∧ SameBut [.feeds, .timers] s.dev d)) ∧
  ((s.dev.feeds[f]).limiting = true → ∃ d, exec (.feedLimitEnd f) s = .next { s with dev := d } ∧ ((d.feeds[f]).limiting = false ∧
    (d.feeds[f]).timer = timerDown s.dev (s.dev.feeds[f]).timer ∧ (d.feeds[f]).state = (s.dev.feeds[f]).state ∧
    SameBut [.feeds, .timers] s.dev d)) ∧
  ((s.dev.feeds[f]).limiting = true → Quiet s.dev (feedSrc f 6) →
    Quiet s.dev (feedSrc f (if (s.dev.feeds[f]).foldback then 7 else 2)) → ∃ d, exec (.feedFaultTimerExpiry f) s = .next { s with dev := d } ∧ ((d.feeds[f]).state = .latched ∧ (d.feeds[f]).latchWhy = (if (s.dev.feeds[f]).foldback then 3 else 1) ∧
      (d.sources[feedSrc f (if (s.dev.feeds[f]).foldback then 7 else 2)]).latch = true ∧ d.ports = s.dev.ports ∧ d.sys = s.dev.sys)) ∧
  (gateDriven s.dev.feeds[f] = true → Quiet s.dev (feedSrc f 6) → Quiet s.dev (feedSrc f 2) →
    ∃ d, exec (.feedOvercurrentTrip f) s = .next { s with dev := d } ∧ ((d.feeds[f]).state = .latched ∧ (d.feeds[f]).latchWhy = 2 ∧
      (d.sources[feedSrc f 2]).latch = true ∧ d.ports = s.dev.ports ∧ d.sys = s.dev.sys)) ∧
  (gateDriven s.dev.feeds[f] = true → Quiet s.dev (feedSrc f 6) → Quiet s.dev (feedSrc f 3) →
    ∃ d, exec (.fetTempTrip f) s = .next { s with dev := d } ∧ ((d.feeds[f]).hot = true ∧ (d.feeds[f]).state = .latched ∧ (d.feeds[f]).latchWhy = 4 ∧
      (d.sources[feedSrc f 3]).latch = true ∧ d.ports = s.dev.ports ∧ d.sys = s.dev.sys)) ∧
  (∃ d, exec (.fetTempRelease f) s = .next { s with dev := d } ∧ ((d.feeds[f]).hot = false ∧
    (d.feeds[f]).state = (if (s.dev.feeds[f]).state = .cooling then .ramp else (s.dev.feeds[f]).state) ∧
    (d.sources[feedSrc f 3]).cond = false ∧ SameBut [.feeds, .sources] s.dev d)) ∧
  (∀ t w, (feedCfg s.dev f).tsrc = 1 → (feedCfg s.dev f).tau ≠ 0 → (s.dev.feeds[f]).hot = false →
    modelStep s.dev f t w < ((feedCfg s.dev f).tfet : Int) * 1000000000 → ∃ d, exec (.feedModelStep f t w) s = .next { s with dev := d } ∧ ((d.feeds[f]).model = modelStep s.dev f t w ∧ (d.feeds[f]).temp = modelStep s.dev f t w / 125000000 ∧
      (d.feeds[f]).state = (s.dev.feeds[f]).state ∧ SameBut [.feeds] s.dev d)) ∧
  (gateDriven s.dev.feeds[f] = true → (s.dev.feeds[f]).pg = false → (s.dev.feeds[f]).timer.up = false → ∃ d, exec (.feedPowerGood f) s = .next { s with dev := d } ∧ ((d.feeds[f]).pg = true ∧ (d.feeds[f]).state = .on ∧ d.sources = s.dev.sources ∧
    (busPg s.dev (feedBusB f) = true → SameBut [.feeds, .timers] s.dev d))) ∧
  ((feedCfg s.dev f).fflags.getLsbD 0 = true → (s.dev.feeds[f]).diodeOn = true → Quiet s.dev (feedSrc f 4) →
    ∃ d, exec (.feedReverseTurnOff f) s = .next { s with dev := d } ∧ ((d.feeds[f]).diodeOn = false ∧ (d.feeds[f]).blocking = true ∧
      (d.feeds[f]).reverses = inc8 (s.dev.feeds[f]).reverses ∧ (d.feeds[f]).state = (s.dev.feeds[f]).state ∧
      (d.sources[feedSrc f 4]).latch = true ∧ d.ports = s.dev.ports ∧ d.sys = s.dev.sys)) ∧
  ((feedCfg s.dev f).fflags.getLsbD 0 = true → s.dev.sys.vgdKeep = true → ∃ d, exec (.diodeRedrive f) s = .next { s with dev := d } ∧ (d.feeds = s.dev.feeds.set f { s.dev.feeds[f] with diodeOn := true, blocking := false } ∧ SameBut [.feeds] s.dev d))

/-- 07 R272, R291, R295; 11 R433: VGD. Below the start level no feed waits to insert and VGD_UV is raised; below the keep level every gate of the
block is off, without a latch; its recovery ends the condition.
Each of these commands answers a next state here: vgdBelowStartLevel, vgdLow, vgdRecover. -/
def Obligations.VgdHoldsEveryGate : Prop := ∀ (s : State),
  (s.dev.sys.vgdStart = true → (∃ p : Fin 32, (s.dev.ports[p]).enabled = true) → Quiet s.dev srcVgdUv →
    ∃ d, exec .vgdBelowStartLevel s = .next { s with dev := d } ∧ (d.sys.vgdStart = false ∧ (d.sources[srcVgdUv]).latch = true ∧
      (∀ f : Fin 4, (d.feeds[f]).state ≠ .delay ∧ (d.feeds[f]).state ≠ .cooling) ∧ d.guards = s.dev.guards ∧ d.ports = s.dev.ports)) ∧
  (Quiet s.dev srcVgdUv → (∀ f, Quiet s.dev (feedSrc f 6)) → ∃ d, exec .vgdLow s = .next { s with dev := d } ∧ (d.sys.vgdStart = false ∧ d.sys.vgdKeep = false ∧ (∀ f : Fin 4, gateDriven d.feeds[f] = false ∧ (d.feeds[f]).diodeOn = false) ∧ (∀ p : Fin 32, guardOn d.guards[p] = false) ∧
    d.cfg = s.dev.cfg)) ∧
  (∃ d, exec .vgdRecover s = .next { s with dev := d } ∧ (d.sys.vgdStart = true ∧ d.sys.vgdKeep = true ∧ (d.sources[srcVgdUv]).cond = false ∧
    SameBut [.feeds, .sources, .sys, .timers] s.dev d))

/-- 05 R213; 07 R274, R294 to R302: the guard of a port. It closes at 5 V, limits for at most its fault timer, and a short, the timer or its
temperature latch it open with the port in ErrorRecovery; a latched guard is armed again at most three times in 60 s; the discharge ends at
vSafe0V.
Each of these commands answers a next state here: guardCloseStart, guardClosed, guardLimitStart, guardLimitEnd, guardFaultTimerExpiry, guardShortTrip,
guardTemp, deferredRearm, rearmAgeOut, dischargeDone. -/
def Obligations.GuardsCloseLimitAndLatch : Prop := ∀ (s : State) (p : Fin 32),
  (guardWanted s.dev p = true → (s.dev.guards[p]).state = .openG → s.dev.sys.vgdStart = true → extest s.dev = false →
    ∃ d, exec (.guardCloseStart p) s = .next { s with dev := d } ∧ (d.guards[p] = { s.dev.guards[p] with state := .closing, discharge := false, reached := false } ∧ SameBut [.guards] s.dev d ∧ OnlyPort p s.dev d)) ∧
  ((s.dev.guards[p]).state = .closing → s.dev.sys.retraining[linkOf (edgeOf p)] = false → ∃ d, exec (.guardClosed p) s = .next { s with dev := d } ∧ ((d.guards[p]).state = .closed ∧
    (d.ports[p]).tc = (s.dev.ports[p]).tc ∧ (pdSource s.dev p = false → SameBut [.guards] s.dev d ∧ OnlyPort p s.dev d))) ∧
  (∀ b, (s.dev.guards[p]).state = .closed ∨ (s.dev.guards[p]).state = .closing → ∃ d, exec (.guardLimitStart p b) s = .next { s with dev := d } ∧ ((d.guards[p]).state = .limiting ∧ (d.guards[p]).foldback = b ∧ (d.guards[p]).timer = timerUp s.dev (s.dev.guards[p]).timer ∧
    (d.guards[p]).limits = inc8 (s.dev.guards[p]).limits ∧ SameBut [.guards, .timers] s.dev d ∧ OnlyPort p s.dev d)) ∧
  ((s.dev.guards[p]).state = .limiting → ∃ d, exec (.guardLimitEnd p) s = .next { s with dev := d } ∧ ((d.guards[p]).state = (if (s.dev.guards[p]).reached then .closed else .closing) ∧ (d.guards[p]).foldback = false ∧
    (d.guards[p]).timer = timerDown s.dev (s.dev.guards[p]).timer ∧ SameBut [.guards, .timers] s.dev d ∧ OnlyPort p s.dev d)) ∧
  (hasPort s.dev p = true → (s.dev.ports[p]).tc ≠ .disabled → (s.dev.ports[p]).tc ≠ .errorRecovery → (s.dev.ports[p]).tc ≠ .minimal →
    (s.dev.pd[p]).disabling = false → lostPort s.dev p = false →
    ((s.dev.guards[p]).state = .limiting → Quiet s.dev (portSrc p 2) → ∃ d, exec (.guardFaultTimerExpiry p) s = .next { s with dev := d } ∧ ((d.guards[p]).state = .latched ∧ (d.guards[p]).latchWhy = 2 ∧ (d.loops[p]).switching = false ∧ (d.ports[p]).tc = .errorRecovery ∧
      (d.sources[portSrc p 2]).latch = true)) ∧
    (guardOn s.dev.guards[p] = true → Quiet s.dev (portSrc p 2) → ∃ d, exec (.guardShortTrip p) s = .next { s with dev := d } ∧ ((d.guards[p]).state = .latched ∧ (d.guards[p]).latchWhy = 1 ∧ (d.loops[p]).switching = false ∧ (d.ports[p]).tc = .errorRecovery ∧
      (d.sources[portSrc p 2]).latch = true)) ∧
    (guardOn s.dev.guards[p] = true → Quiet s.dev (portSrc p 3) → ∃ d, exec (.guardTemp p false) s = .next { s with dev := d } ∧ ((d.guards[p]).state = .latched ∧ (d.guards[p]).latchWhy = 3 ∧ (d.loops[p]).switching = false ∧ (d.ports[p]).tc = .errorRecovery ∧
      (d.sources[portSrc p 3]).latch = true)) ∧
    ((s.dev.guards[p]).state = .closed → Quiet s.dev (portSrc p 3) → ∃ d, exec (.guardTemp p true) s = .next { s with dev := d } ∧ ((d.guards[p]).state = .latched ∧ (d.guards[p]).latchWhy = 4 ∧ (d.loops[p]).switching = false ∧ (d.ports[p]).tc = .errorRecovery ∧
      (d.sources[portSrc p 3]).latch = true))) ∧
  ((s.dev.guards[p]).rearmDue = true → (s.dev.guards[p]).state = .latched → (s.dev.guards[p]).rearms60 < 3 → (s.dev.pd[p]).deb = false →
    ∃ d, exec (.deferredRearm p) s = .next { s with dev := d } ∧ ((d.guards[p]).state = .openG ∧ (d.guards[p]).latchWhy = 0 ∧ (d.guards[p]).rearmDue = false ∧
      (d.guards[p]).rearms = inc8 (s.dev.guards[p]).rearms ∧ (d.guards[p]).rearms60 = (s.dev.guards[p]).rearms60 + 1 ∧
      SameBut [.guards, .timers] s.dev d ∧ OnlyPort p s.dev d)) ∧
  (∃ d, exec (.rearmAgeOut p) s = .next { s with dev := d } ∧ (d.guards[p] = { s.dev.guards[p] with
      rearms60 := (s.dev.guards[p]).rearms60 - 1, rearmSpent := decide (3 ≤ (s.dev.guards[p]).rearms60 - 1) } ∧
    SameBut [.guards] s.dev d ∧ OnlyPort p s.dev d)) ∧
  ((s.dev.guards[p]).discharge = true → ∃ d, exec (.dischargeDone p) s = .next { s with dev := d } ∧ ((d.guards[p]).discharge = decide ((s.dev.ports[p]).tc = .disabled) ∧
    (d.guards[p]).state = (s.dev.guards[p]).state ∧ SameBut [.guards] s.dev d ∧ OnlyPort p s.dev d))

/-- 08 R312 to R318, R357: a post link trains on symbol lock, comes UP at the third HELLO with RX_OK, goes DOWN on loss with a hold-off of 20 ms and its
fault, and counts what it discards. The clauses that raise a fault take a source whose action is NONE.
Each of these commands answers a next state here: postSymbolLock, postLockLoss, postFrameTimeout, postTrainTimeout, postHoldoffEnd, postBadFrame,
postEnableWrite, helloTimer, hello. -/
def Obligations.PostLinksTrainAndFall : Prop := ∀ (s : State) (l : Fin 3),
  let fell (d : Dev) : Prop := (d.posts[l]).state = .down ∧ (d.posts[l]).holdoff = true ∧ (d.posts[l]).lock = false ∧
    (∀ k : Fin 3, k ≠ l → (d.posts[k]).state = (s.dev.posts[k]).state) ∧ d.ledger = s.dev.ledger ∧ PowerStill s.dev d
  let failed (d : Dev) : Prop := (d.posts[l]).state = .down ∧ (d.posts[l]).holdoff = (s.dev.posts[l]).holdoff ∧ SameBut [.posts, .timers] s.dev d
  ((s.dev.posts[l]).en = true → (s.dev.posts[l]).state = .down →
    ((s.dev.posts[l]).holdoff = false → ∃ d, exec (.postSymbolLock l) s = .next { s with dev := d } ∧ ((d.posts[l]).state = .train ∧ (d.posts[l]).lock = true ∧
      (s.dev.tmr.tb + ticksOfMs 50, .postTrainTimeout l) ∈ d.timers ∧ (s.dev.tmr.tb + ticksOfMs 1, .helloTimer l) ∈ d.timers ∧
      (∀ k : Fin 3, k ≠ l → d.posts[k] = s.dev.posts[k]) ∧ SameBut [.posts, .timers] s.dev d)) ∧
    ((s.dev.posts[l]).holdoff = true → ∃ d, exec (.postSymbolLock l) s = .next { s with dev := d } ∧ (SameBut [] s.dev d))) ∧
  ((s.dev.posts[l]).state = .up → Quiet s.dev (srcPostDown l) → Quiet s.dev srcConcord →
    (∃ dn, exec (.postLockLoss l) s = .next { s with dev := dn } ∧ fell dn) ∧ (∃ dn, exec (.postFrameTimeout l) s = .next { s with dev := dn } ∧ fell dn)) ∧
  ((s.dev.posts[l]).state = .train → (∃ dn, exec (.postLockLoss l) s = .next { s with dev := dn } ∧ failed dn) ∧ (∃ dn, exec (.postTrainTimeout l) s = .next { s with dev := dn } ∧ failed dn)) ∧
  (∃ d, exec (.postHoldoffEnd l) s = .next { s with dev := d } ∧ ((d.posts[l]).holdoff = false ∧ (d.posts[l]).state = (s.dev.posts[l]).state ∧ SameBut [.posts, .timers] s.dev d)) ∧
  ((s.dev.posts[l]).state ≠ .up → ∀ crc, ∃ d, exec (.postBadFrame l crc) s = .next { s with dev := d } ∧ ((d.posts[l]).errors = sat 0xFFFF ((s.dev.posts[l]).errors + 1) ∧
    (d.posts[l]).hellos = 0 ∧ (d.posts[l]).event = setBit (s.dev.posts[l]).event 4 ∧ (d.posts[l]).state = (s.dev.posts[l]).state ∧
    SameBut [.posts] s.dev d)) ∧
  (∀ m v, isOwner s.dev m = true → bit v 0 = true → ∃ d, exec (.postEnableWrite m l v) s = .next { s with dev := d } ∧ ((d.posts[l]).en = true ∧
    (d.posts[l]).state = (s.dev.posts[l]).state ∧ SameBut [.posts] s.dev d)) ∧
  (∀ m v, isOwner s.dev m = true → bit v 0 = false → (s.dev.posts[l]).state ≠ .up → ∃ d, exec (.postEnableWrite m l v) s = .next { s with dev := d } ∧ ((d.posts[l]).en = false ∧ (d.posts[l]).state = .down ∧ SameBut [.posts, .timers] s.dev d)) ∧
  (∀ m v, isOwner s.dev m = false → ∃ d, exec (.postEnableWrite m l v) s = .next { s with dev := d } ∧ (d.posts = s.dev.posts ∧ OnlyMaster m s.dev d ∧ SameBut [.host] s.dev d)) ∧
  ((s.dev.posts[l]).state ≠ .down → isShadow s.dev = false → ∃ d, exec (.helloTimer l) s = .next { s with dev := d } ∧ (SentOn l (.hello (helloOf s.dev l)) s.dev d ∧
    (s.dev.tmr.tb + ticksOfMs 1, .helloTimer l) ∈ d.timers ∧ (d.posts[l]).state = (s.dev.posts[l]).state ∧ SameBut [.posts, .ledger, .timers] s.dev d)) ∧
  (∀ hdr h, (s.dev.posts[l]).state = .train → ((s.dev.posts[l]).hellos < 2 ∨ h.rxOk = false) → ∃ d, exec (.hello l hdr h) s = .next { s with dev := d } ∧ ((d.posts[l]).state = .train ∧ (d.posts[l]).hellos = (s.dev.posts[l]).hellos + 1 ∧ (d.posts[l]).peer = some h ∧ SameBut [.posts, .ledger] s.dev d)) ∧
  (∀ hdr h, (s.dev.posts[l]).state = .train → 2 ≤ (s.dev.posts[l]).hellos → h.rxOk = true → s.dev.ledger.role ≠ .none →
    (s.dev.sources[srcPostDown l]).cond = false → ∃ d, exec (.hello l hdr h) s = .next { s with dev := d } ∧ ((d.posts[l]).state = .up ∧ (d.posts[l]).peer = some h ∧
      (d.posts[l]).event.getLsbD 0 = true ∧ (s.dev.tmr.tb + ticksOfMs 3, .postFrameTimeout l) ∈ d.timers ∧ SameBut [.posts, .ledger, .timers] s.dev d)) ∧
  (∀ hdr h, (s.dev.posts[l]).state = .up → isShadow s.dev = false → Quiet s.dev srcConcord → ∃ d, exec (.hello l hdr h) s = .next { s with dev := d } ∧ ((d.posts[l]).state = .up ∧ (d.posts[l]).peer = some h ∧ (d.posts[l]).rxFrames = wrapInc 16 (s.dev.posts[l]).rxFrames ∧
    (d.posts[l]).foreign = (h.dealer != 0xFFFFFFFF && s.dev.ledger.dealer != 0xFFFFFFFF && (h.dealer != s.dev.ledger.dealer || h.epoch != s.dev.ledger.epoch)) ∧
    PowerStill s.dev d))

/-- 08 R322, R327, R332, R333, R343 to R346: the time base and elections. SYNC is answered; a reply gives the offset of the parent; the member steers
within 200 ppm, at a rate the spec leaves open (log entry 26), or steps forward; a lower candidate becomes the best and is forwarded, a higher one is answered by a
live dealer; CARDs go to the parent.
Each of these commands answers a next state here: sync, syncReply, elect, ledgerCmdCard, syncSlot. -/
def Obligations.LedgerTimeAndElections : Prop := ∀ (s : State) (l : Fin 3) (hdr : PostHdr), isShadow s.dev = false →
  Quiet s.dev srcConcord → Quiet s.dev srcTsync →
  ((s.dev.posts[l]).state ≠ .up → ∀ c, c ∈ [Instr.sync l hdr 0 0 0, .syncReply l hdr 0 0 0 0] → ∃ d, exec c s = .next { s with dev := d } ∧ (SameBut [] s.dev d)) ∧
  ((s.dev.posts[l]).state = .up →
    (∀ t1 t2 t3, ∃ d, exec (.sync l hdr t1 t2 t3) s = .next { s with dev := d } ∧ (SentOn l (.syncReply t1 t2 t3) s.dev d ∧ d.tmr = s.dev.tmr ∧ PowerStill s.dev d)) ∧
    (∀ t1 t2 t3 t4 : Nat, s.dev.ledger.parent = some l → (10 * (((t2 : Int) - t1) + ((t3 : Int) - t4))).natAbs ≤ 10000 →
      ∃ d, exec (.syncReply l hdr t1 t2 t3 t4) s = .next { s with dev := d } ∧ (d.ledger.tofs = 10 * (((t2 : Int) - t1) + ((t3 : Int) - t4)) ∧ d.ledger.syncsMissed = 0 ∧
        d.tmr.tb = s.dev.tmr.tb ∧ d.tmr.steer = d.ledger.trate ∧ d.ledger.trate.natAbs ≤ 20000 ∧
        (10 * (((t2 : Int) - t1) + ((t3 : Int) - t4)) = 0 → d.ledger.trate = 0) ∧ PowerStill s.dev d)) ∧
    (∀ t1 t2 t3 t4 : Nat, s.dev.ledger.parent = some l → 10 * (((t2 : Int) - t1) + ((t3 : Int) - t4)) < -50000 →
      ∃ d, exec (.syncReply l hdr t1 t2 t3 t4) s = .next { s with dev := d } ∧ (d.ledger.tofs = 10 * (((t2 : Int) - t1) + ((t3 : Int) - t4)) ∧ d.tmr.tb = s.dev.tmr.tb ∧
        d.tmr.steer = -20000 ∧ PowerStill s.dev d)) ∧
    (∀ x, s.dev.ledger.role ≠ .alone → svPaused s.dev = false → liveDealer s.dev = true → s.dev.ledger.dealer < x.cand → s.dev.ledger.role = .dealer →
      ∃ d, exec (.elect l hdr x) s = .next { s with dev := d } ∧ (SentOn l (.elect ⟨s.dev.ledger.dealer, unitId s.dev, s.dev.ledger.epoch⟩) s.dev d ∧
        d.ledger.role = .dealer ∧ PowerStill s.dev d)) ∧
    (∀ x, s.dev.ledger.role ≠ .alone → liveDealer s.dev = false → firstTime s.dev hdr = true →
      keyLess x.cand x.id s.dev.ledger.bestKey s.dev.ledger.bestId = true → ∃ d, exec (.elect l hdr x) s = .next { s with dev := d } ∧ (d.ledger.bestKey = x.cand ∧
        d.ledger.bestId = x.id ∧ d.ledger.role = s.dev.ledger.role ∧ (hdr.origin, hdr.seq) ∈ d.ledger.seen ∧ PowerStill s.dev d))) ∧
  (∀ m p, isOwner s.dev m = true → s.dev.ledger.role = .member → s.dev.ledger.parent = some p → (s.dev.posts[p]).state = .up →
    ∃ d, exec (.ledgerCmdCard m) s = .next { s with dev := d } ∧ (SentOn p (.card (cardNow s.dev)) s.dev d ∧ d.ledger.lastCard = some (cardNow s.dev) ∧
      SameBut [.ledger, .posts] s.dev d)) ∧
  (∀ m, isOwner s.dev m = false → ∃ d, exec (.ledgerCmdCard m) s = .next { s with dev := d } ∧ (OnlyMaster m s.dev d ∧ SameBut [.host] s.dev d)) ∧
  (∀ p, s.dev.ledger.role = .member → s.dev.ledger.parent = some p → (s.dev.posts[p]).state = .up →
    (∀ k : Fin 3, (s.dev.posts[k]).state = .up → (s.dev.posts[k]).foreign = false) → ∃ d, exec .syncSlot s = .next { s with dev := d } ∧ (SentOn p (.sync s.dev.tmr.tb) s.dev d ∧ d.ledger.syncsMissed = s.dev.ledger.syncsMissed + 1 ∧
      (10 < s.dev.ledger.syncsMissed + 1 → d.ledger.tsyncLost = true) ∧ PowerStill s.dev d))

/-- 08 R322, R323, R327 to R329, R361: a child's BID waits for this device's own; a CARD enters the dealer's list, with the budget of a former
dealer, and a member hands it on to its parent; the device's bid goes to its parent with its children's entries.
Each of these commands answers a next state here: bid, card, bidSlot. -/
def Obligations.BidsAndCardsReachTheDealer : Prop := ∀ (s : State) (l : Fin 3) (hdr : PostHdr), isShadow s.dev = false →
  Quiet s.dev srcConcord →
  ((s.dev.posts[l]).state ≠ .up → ∀ b k, (∃ d, exec (.bid l hdr b) s = .next { s with dev := d } ∧ (SameBut [] s.dev d)) ∧ ∃ d, exec (.card l hdr k) s = .next { s with dev := d } ∧ (SameBut [] s.dev d)) ∧
  ((s.dev.posts[l]).state = .up →
    (∀ b : Bid, (s.dev.posts[l]).foreign = false → b.dealNo = s.dev.ledger.dealNo → ∃ d, exec (.bid l hdr b) s = .next { s with dev := d } ∧ (d.ledger = { s.dev.ledger with childBids := (s.dev.ledger.childBids.filter fun e => !b.entries.any fun x => x.slot == e.slot) ++ b.entries } ∧
      PowerStill s.dev d)) ∧
    (∀ b : Bid, (s.dev.posts[l]).foreign = true ∨ b.dealNo ≠ s.dev.ledger.dealNo → ∃ d, exec (.bid l hdr b) s = .next { s with dev := d } ∧ (d.ledger = s.dev.ledger ∧ PowerStill s.dev d)) ∧
    (∀ k : Card, s.dev.ledger.role = .dealer → (s.dev.posts[l]).foreign = false → (∀ m ∈ s.dev.ledger.members, m.card.key ≠ k.key) →
      s.dev.ledger.splitSide = false → ∃ d, exec (.card l hdr k) s = .next { s with dev := d } ∧ ((∃ m, d.ledger.members = s.dev.ledger.members ++ [m] ∧ m.card = k ∧ m.allot = k.held ∧ m.cut = k.held ∧ m.joining = true) ∧
        d.ledger.budgetInForce = (if k.formerDealer then budgetBase s.dev (s.dev.ledger.members.filter fun m => !m.joining) + k.ledgerBudget
          else s.dev.ledger.budgetInForce) ∧ d.ledger.defaultBudget = (s.dev.ledger.defaultBudget && !k.formerDealer) ∧
        d.ledger.mergeDue = (s.dev.ledger.mergeDue || k.formerDealer) ∧ d.ledger.orderHeld = max s.dev.ledger.orderHeld k.orderHeld ∧
        d.ledger.allot = s.dev.ledger.allot ∧ PowerStill s.dev d)) ∧
    (∀ (k : Card) (p : Fin 3), s.dev.ledger.role = .member → s.dev.ledger.parent = some p → p ≠ l → (s.dev.posts[l]).foreign = false →
      (s.dev.posts[p]).state = .up → ∃ d, exec (.card l hdr k) s = .next { s with dev := d } ∧ ((p, { hdr with hops := hdr.hops + 1, postmark := s.dev.store.postmark }, .card k) ∈ d.ledger.sent ∧ d.ledger.members = s.dev.ledger.members ∧
        PowerStill s.dev d))) ∧
  (∀ p, bidLink s.dev = some p → (s.dev.posts[p]).state = .up → ∃ d, exec .bidSlot s = .next { s with dev := d } ∧ (SentOn p (.bid ⟨s.dev.ledger.dealNo, (ownBid s.dev :: s.dev.ledger.childBids).take 23⟩) s.dev d ∧ d.ledger.late = false ∧
    d.ledger.bidContract = s.dev.ledger.snapContract ∧ d.ledger.bidTrump = s.dev.ledger.snapTrump ∧ SameBut [.ledger, .posts, .timers] s.dev d)) ∧
  (bidLink s.dev = none → ∃ d, exec .bidSlot s = .next { s with dev := d } ∧ (SameBut [.timers] s.dev d))

/-- 08 R326, R328, R332, R334, R335, R339, R340: a deal in time waits for its T_EFF and changes no hand before it; at the boundary its ALLOT takes
effect; a deal missed counts, and without deals the device falls to its standing hand; a candidate accedes with the next epoch.
Each of these commands answers a next state here: deal, dealPeriodBoundary, dealMissCheck, dealerAccession, dealerDealSlot. -/
def Obligations.DealsTakeEffectAtTheBoundary : Prop := ∀ (s : State), isShadow s.dev = false →
  (∀ (l : Fin 3) (hdr : PostHdr) (x : Deal) (e : DealEntry), (s.dev.posts[l]).state = .up → Quiet s.dev srcConcord →
    s.dev.ledger.role = .member → x.dealer = s.dev.ledger.dealer → x.epoch = s.dev.ledger.epoch → x.dealer ≠ seatKey s.dev → firstTime s.dev hdr = true →
    s.dev.ledger.joining = false → ownEntry s.dev x = some e → x.discord = 0 → x.refusedNo = 0 → (∀ o ∈ s.dev.ledger.orders, x.orderNo < o.order.no) →
    s.dev.tmr.tb < x.tEff → ∃ d, exec (.deal l hdr x) s = .next { s with dev := d } ∧ (d.ledger.pendingDeal = some x ∧ d.ledger.last = some x ∧ d.ledger.dealNo = x.dealNo ∧
      d.ledger.missed = 0 ∧ d.ledger.allot = s.dev.ledger.allot ∧ d.ledger.role = .member ∧
      d.ledger.cuts = s.dev.ledger.cuts ++ [(x.tEff + 5 * ticksOfMs x.dealMs, e.cut)] ∧
      (mayBeParent s.dev l = true → d.ledger.parent = some l ∧ d.ledger.hops = hdr.hops + 1) ∧ PowerStill s.dev d)) ∧
  (∀ (l : Fin 3) (hdr : PostHdr) (x : Deal), (s.dev.posts[l]).state ≠ .up → ∃ d, exec (.deal l hdr x) s = .next { s with dev := d } ∧ (SameBut [] s.dev d)) ∧
  (∀ (x : Deal) (e : DealEntry), s.dev.ledger.pendingDeal = some x → x.tEff ≤ s.dev.tmr.tb → x.step = 0 → s.dev.ledger.missed = 0 →
    s.dev.ledger.candidate = false → s.dev.ledger.depthExceeded = false → ownEntry s.dev x = some e → ∃ d, exec .dealPeriodBoundary s = .next { s with dev := d } ∧ (d.ledger.allot = e.allot ∧ d.ledger.pendingDeal = none ∧ d.ledger.standing = false ∧ d.ledger.shown = some x ∧ d.ledger.budget = x.budget ∧
      d.ledger.kittyHeld = 10 * s.dev.cfg.ledger.kitty ∧ d.tmr = s.dev.tmr ∧ d.cfg = s.dev.cfg ∧ d.store = s.dev.store)) ∧
  (s.dev.ledger.pendingDeal = none → s.dev.ledger.missed ≠ 0 → s.dev.ledger.role = .member → s.dev.ledger.candidate = false → s.dev.ledger.cuts = [] →
    ∃ d, exec .dealPeriodBoundary s = .next { s with dev := d } ∧ (d.ledger.standing = true ∧ d.ledger.missed = s.dev.ledger.missed ∧
      d.ledger.allot = standingHand s.dev.cfg.ledger.floor s.dev.ledger.prevAllot s.dev.ledger.passed s.dev.ledger.missed ∧ d.tmr = s.dev.tmr)) ∧
  (s.dev.tmr.tb / dealTicks s.dev ≤ s.dev.ledger.dealNo → ∃ d, exec .dealMissCheck s = .next { s with dev := d } ∧ (SameBut [.timers] s.dev d)) ∧
  (∀ p, s.dev.ledger.role = .member → s.dev.ledger.dealNo < s.dev.tmr.tb / dealTicks s.dev → s.dev.ledger.parent = some p →
    (s.dev.posts[p]).state = .up → s.dev.ledger.missed = 0 → ∃ d, exec .dealMissCheck s = .next { s with dev := d } ∧ (d.ledger.missed = 1 ∧
      d.ledger.misses = inc8 s.dev.ledger.misses ∧ d.ledger.prevAllot = s.dev.ledger.allot ∧ d.ledger.role = .member ∧ PowerStill s.dev d)) ∧
  (s.dev.ledger.role = .member → s.dev.ledger.candidate = false → s.dev.ledger.dealNo < s.dev.tmr.tb / dealTicks s.dev → s.dev.ledger.missed = 1 →
    ∃ d, exec .dealMissCheck s = .next { s with dev := d } ∧ (d.ledger.missed = 2 ∧ d.ledger.candidate = true ∧ d.ledger.bestKey = seatKey s.dev ∧
      d.ledger.dealer = 0xFFFFFFFF ∧ d.ledger.elections = inc8 s.dev.ledger.elections ∧ PowerStill s.dev d)) ∧
  (s.dev.ledger.candidate = true → svPaused s.dev = false → s.dev.ledger.bestKey = seatKey s.dev → s.dev.ledger.bestId = unitId s.dev → ∃ d, exec .dealerAccession s = .next { s with dev := d } ∧ (d.ledger.role = .dealer ∧ d.ledger.candidate = false ∧ d.ledger.epoch = (s.dev.ledger.epochSeen + 1) % 2 ^ 16 ∧ d.ledger.dealer = seatKey s.dev ∧
    d.ledger.hops = 0 ∧ d.ledger.slot = 0 ∧ d.ledger.parent = none ∧ (s.dev.ledger.deals = [] → s.dev.ledger.joining = false →
      d.ledger.budgetInForce = s.dev.ledger.budgetInForce ∧ d.ledger.defaultBudget = !s.dev.ledger.budgetSet) ∧ d.ledger.allot = s.dev.ledger.allot ∧
    PowerStill s.dev d)) ∧
  (s.dev.ledger.candidate = false → ∃ d, exec .dealerAccession s = .next { s with dev := d } ∧ (SameBut [] s.dev d)) ∧
  (s.dev.ledger.role = .member → ∃ d, exec .dealerDealSlot s = .next { s with dev := d } ∧ (SameBut [.timers] s.dev d))

/-- 08 R336 to R338, R340, R341: the allotments of a deal. A member that joins or whose bid is missing keeps its entry; no allotment is below the one
its last entry and the cuts announced for the instant allow; with the cuts that fall due counted, the sum with FLOOR for the outsiders stays within
the budget whenever it was within it; while merging nothing rises; a CUT is never above the ALLOT it cuts, but in an entry kept as it was. The
standing hand lies between FLOOR and the allotment it replaces, falls with every miss and is FLOOR from the third. -/
def Obligations.AllotmentsFitTheBudget : Prop :=
  (∀ (d : Dev) (b outside tEff : Nat) (merging : Bool) (ms : List Member),
    let low (m : Member) : Nat := if keepsEntry m || m.joining then m.allot else allotBase d tEff m
    (outside + (ms.map low).sum ≤ b → outside + ((dealAllots d b outside tEff merging ms).map (·.allot)).sum ≤ b) ∧
    ((dealAllots d b outside tEff merging ms).map (·.card) = ms.map (·.card)) ∧
    (∀ p ∈ ms.zip (dealAllots d b outside tEff merging ms), low p.1 ≤ p.2.allot ∧ (keepsEntry p.1 = true ∨ p.1.joining = true → p.2.allot = p.1.allot ∧ p.2.cut = p.1.cut) ∧
      (keepsEntry p.1 = false → p.1.joining = false → p.2.cut ≤ p.2.allot) ∧ (merging = true → p.2.allot = low p.1))) ∧
  (∀ (f a0 : Nat) (c : Option Nat) (m : Nat), f ≤ standingHand f a0 c m ∧ standingHand f a0 c m ≤ max f a0 ∧
    standingHand f a0 c (m + 1) ≤ standingHand f a0 c m ∧ (3 ≤ m → standingHand f a0 c m = f) ∧ (∀ v, c = some v → standingHand f a0 c m ≤ max f v))

/-- 08 R328 step 4, R339: a dealer, or a device alone, computes and holds its deal once a period, dated at the next boundary, with its own entry at the
head, and sends it on every link that is UP and not foreign.
The command dealerDealSlot answers a next state here. -/
def Obligations.TheDealerDealsOncePerPeriod : Prop := ∀ (s : State), isShadow s.dev = false → Quiet s.dev srcConcord →
  s.dev.ledger.role = .dealer ∨ s.dev.ledger.role = .alone → s.dev.ledger.orders = [] → s.dev.ledger.joining = false → s.dev.ledger.mergeDue = false →
  s.dev.ledger.refusedNo = 0 → 0 < dealTicks s.dev → ∃ d, exec .dealerDealSlot s = .next { s with dev := d } ∧ (∃ x, d.ledger.last = some x ∧ d.ledger.pendingDeal = some x ∧ x.dealer = seatKey s.dev ∧ x.dealNo = s.dev.tmr.tb / dealTicks s.dev ∧
      x.tEff = (s.dev.tmr.tb / dealTicks s.dev + 1) * dealTicks s.dev ∧ (x.entries.head?.map (·.key)) = some (seatKey s.dev) ∧ x.entries.length ≤ 24 ∧
      (∀ l : Fin 3, (s.dev.posts[l]).state = .up → (s.dev.posts[l]).foreign = false → ∃ h : PostHdr, h.origin = seatKey s.dev ∧ (l, h, .deal x) ∈ d.ledger.sent) ∧
      d.ledger.allot = s.dev.ledger.allot ∧ PowerStill s.dev d)

/-- 08 R325, R327, R348 to R351; 12 R485, R486: dated orders. A frame taken before is not taken again; a member hands an order on to its parent; what its
dealer floods it holds until T_ORDER; the dealer accepts an order that is not too early, or remembers the number it refuses; at T_ORDER the order
takes effect; LEDGER_ORDER sends the order, locks the stage and times out.
Each of these commands answers a next state here: order, orderEffective, ledgerOrder, ledgerOrderTimeout. -/
def Obligations.OrdersAreHeldAndApplied : Prop := ∀ (s : State) (l : Fin 3) (hdr : PostHdr) (o : Order), isShadow s.dev = false →
  Quiet s.dev srcConcord →
  ((s.dev.posts[l]).state ≠ .up → ∃ d, exec (.order l hdr o) s = .next { s with dev := d } ∧ (SameBut [] s.dev d)) ∧
  ((s.dev.posts[l]).state = .up → firstTime s.dev hdr = false → ∃ d, exec (.order l hdr o) s = .next { s with dev := d } ∧ (d.ledger = s.dev.ledger ∧ PowerStill s.dev d)) ∧
  (∀ p, (s.dev.posts[l]).state = .up → firstTime s.dev hdr = true → s.dev.ledger.role = .member → (s.dev.posts[l]).foreign = false →
    hdr.origin ≠ s.dev.ledger.dealer → s.dev.ledger.parent = some p → p ≠ l → (s.dev.posts[p]).state = .up → ∃ d, exec (.order l hdr o) s = .next { s with dev := d } ∧ ((p, { hdr with hops := hdr.hops + 1, postmark := s.dev.store.postmark }, .order o) ∈ d.ledger.sent ∧ d.ledger.orders = s.dev.ledger.orders ∧
      PowerStill s.dev d)) ∧
  ((s.dev.posts[l]).state = .up → firstTime s.dev hdr = true → (s.dev.posts[l]).foreign = false → s.dev.ledger.orders = [] → s.dev.ledger.inbox = [] →
    o.part = 0 → o.parts = 1 → o.digest = orderDigest o → o.kind ≠ 2 →
    (s.dev.ledger.role = .member → hdr.origin = s.dev.ledger.dealer → s.dev.tmr.tb < o.tOrder → ∃ d, exec (.order l hdr o) s = .next { s with dev := d } ∧ ((∃ h, d.ledger.orders = [h] ∧ h.order = o ∧ h.whole = true ∧ h.applied = false) ∧ d.ledger.orderHeld = max s.dev.ledger.orderHeld o.no ∧
      PowerStill s.dev d)) ∧
    (s.dev.ledger.role = .dealer → refusesOrder s.dev o = true → ∃ d, exec (.order l hdr o) s = .next { s with dev := d } ∧ (d.ledger.refusedNo = o.no ∧ d.ledger.orders = [] ∧
      d.ledger.orderNo = s.dev.ledger.orderNo ∧ PowerStill s.dev d)) ∧
    (s.dev.ledger.role = .dealer → refusesOrder s.dev o = false → s.dev.tmr.tb < o.tOrder → ∃ d, exec (.order l hdr o) s = .next { s with dev := d } ∧ ((∃ h, d.ledger.orders = [h] ∧ h.order = o ∧ h.whole = true ∧ h.applied = false) ∧ d.ledger.orderNo = o.no ∧ PowerStill s.dev d))) ∧
  (∀ h : HeldOrder, s.dev.ledger.orders = [h] → s.dev.tmr.tb < h.order.tOrder → ∃ d, exec .orderEffective s = .next { s with dev := d } ∧ (SameBut [.timers] s.dev d)) ∧
  (∀ h : HeldOrder, s.dev.ledger.orders = [h] → h.order.tOrder ≤ s.dev.tmr.tb → h.whole = true → h.applied = false → ∃ d, exec .orderEffective s = .next { s with dev := d } ∧ (d.ledger.orders = [{ h with applied := true }] ∧ d.ledger.orderApplied = max s.dev.ledger.orderApplied h.order.no ∧
    (h.order.kind = 1 → d.ledger.budgetInForce = h.order.param % 2 ^ 32 ∧ PowerStill s.dev d) ∧
    (h.order.kind = 2 → d.ledger.caps = orderCaps h.order ∧ d.store = s.dev.store) ∧
    (h.order.kind = 3 → (s.dev.store.slots[(Fin.ofNat 4 (h.order.param % 256) : Fin 4)]).state = .stored →
      d.store.switchAt = some (Fin.ofNat 4 (h.order.param % 256), s.dev.tmr.tb) ∧ d.ledger.roll = h.order.roll) ∧
    (h.order.kind = 4 → d.ledger.roll = h.order.roll ∧ d.ledger.rollDigest = rollDigestOf h.order.roll ∧ PowerStill s.dev d))) ∧
  (∀ c no kind tOrder param p, checkCode480 s.dev c opLedgerOrder (orderParamsOk s.dev no kind 0) none = none → s.dev.ledger.role = .member →
    s.dev.ledger.parent = some p → (s.dev.posts[p]).state = .up → ∃ d, exec (.ledgerOrder c no kind 0 tOrder param) s = .next { s with dev := d } ∧ (SentOn p (.order ⟨no, kind, 0, 1, tOrder, param, orderDigest ⟨no, kind, 0, 1, tOrder, param, 0, []⟩, []⟩) s.dev d ∧
      d.host.jobs = s.dev.host.jobs ++ [{ ref := c, opcode := opLedgerOrder, arg := no }] ∧ d.store.stageLock = true ∧
      (s.dev.tmr.tb + 10 * dealTicks s.dev, .ledgerOrderTimeout) ∈ d.timers ∧ SameBut [.host, .store, .timers, .ledger, .posts] s.dev d)) ∧
  (∀ c no kind rcount tOrder param k, checkCode480 s.dev c opLedgerOrder (orderParamsOk s.dev no kind rcount) none = some k →
    ∃ d, exec (.ledgerOrder c no kind rcount tOrder param) s = .next { s with dev := d } ∧ (SameBut [] (complete c opLedgerOrder k [] s.dev) d)) ∧
  (∀ j, jobOf s.dev opLedgerOrder = some j → ∃ d, exec .ledgerOrderTimeout s = .next { s with dev := d } ∧ (d.store.stageLock = false ∧
    d.host.jobs = (s.dev.host.jobs.filter fun x => x.ref != j.ref) ∧ d.ledger = s.dev.ledger ∧ d.ports = s.dev.ports)) ∧
  (jobOf s.dev opLedgerOrder = none → ∃ d, exec .ledgerOrderTimeout s = .next { s with dev := d } ∧ (SameBut [] s.dev d))

/-- 09 R375 to R379, R399, R402: the mirror link trains on symbol lock, comes UP at the third MHELLO with RX_OK, goes DOWN on loss, counts bad frames,
sends its MHELLO and MSYNC frames; a SHADOW follows the ACTIVE's TB, which never moves backwards. The clauses in which the link falls take a source
MIRROR_LOSS whose action is NONE.
Each of these commands answers a next state here: mirrorLock, mirrorLinkDown, mirrorFrameTimeout, mirrorBadFrame, mhello, msync, mhelloTimer,
msyncTimer. -/
def Obligations.MirrorLinkTrainsAndFalls : Prop := ∀ (s : State),
  let fell (d : Dev) : Prop := d.twin.link = .down ∧ d.twin.lock0 = false ∧ d.twin.lock1 = false ∧ d.twin.losses = inc8 s.dev.twin.losses ∧ d.twin.role = s.dev.twin.role ∧
    ((s.dev.twin.role = 1 ∧ s.dev.twin.replace = true → d.sources = s.dev.sources) ∧
     (¬ (s.dev.twin.role = 1 ∧ s.dev.twin.replace = true) → (d.sources[srcMirror]).latch = true)) ∧ PowerStill s.dev d
  (s.dev.cfg.twin.en = false → ∀ h crc t1 t2 t3 t4, ∀ c ∈ [Instr.mirrorLock, .mirrorLinkDown, .mirrorFrameTimeout, .mirrorBadFrame crc, .mhello h, .msync t1 t2 t3 t4],
    ∃ d, exec c s = .next { s with dev := d } ∧ (SameBut [] s.dev d)) ∧
  (s.dev.cfg.twin.en = true →
    (s.dev.twin.link = .down → ∃ d, exec .mirrorLock s = .next { s with dev := d } ∧ (d.twin.link = .train ∧ d.twin.lock0 = true ∧ d.twin.lock1 = true ∧ d.twin.mhellos = 0 ∧
      (s.dev.tmr.tb + ticksOfUs 10, .mhelloTimer) ∈ d.timers ∧ SameBut [.twin, .timers] s.dev d)) ∧
    (s.dev.twin.link = .up → Quiet s.dev srcMirror → (∃ dn, exec .mirrorLinkDown s = .next { s with dev := dn } ∧ fell dn) ∧ (∃ dn, exec .mirrorFrameTimeout s = .next { s with dev := dn } ∧ fell dn)) ∧
    (s.dev.twin.link = .train → ∃ d, exec .mirrorLinkDown s = .next { s with dev := d } ∧ (d.twin.link = .down ∧ d.twin.losses = s.dev.twin.losses ∧
      SameBut [.twin, .timers, .tmr] s.dev d)) ∧
    (s.dev.twin.link ≠ .up → ∃ d, exec .mirrorFrameTimeout s = .next { s with dev := d } ∧ (SameBut [] s.dev d)) ∧
    (∀ crc, s.dev.twin.link ≠ .down → (s.dev.twin.link = .train ∨ crc = false ∧ s.dev.twin.crcErrs.length < 16) → ∃ d, exec (.mirrorBadFrame crc) s = .next { s with dev := d } ∧ (d.twin.link = s.dev.twin.link ∧ d.twin.errors = sat 0xFFFF (s.dev.twin.errors + 1) ∧ d.twin.mhellos = 0 ∧ SameBut [.twin] s.dev d)) ∧
    (s.dev.twin.link = .up → Quiet s.dev srcMirror → 15 ≤ (s.dev.twin.crcErrs.filter fun t => decide (s.dev.tmr.tb < t + ticksOfMs 10)).length →
      ∃ d, exec (.mirrorBadFrame true) s = .next { s with dev := d } ∧ (d.twin.link = .down ∧ d.twin.errors = sat 0xFFFF (s.dev.twin.errors + 1) ∧ PowerStill s.dev d)) ∧
    (∀ h, s.dev.twin.link = .train → (s.dev.twin.mhellos < 2 ∨ h.rxOk = false) → ∃ d, exec (.mhello h) s = .next { s with dev := d } ∧ (d.twin.link = .train ∧
      d.twin.mhellos = s.dev.twin.mhellos + 1 ∧ d.twin.peer = some h ∧ SameBut [.twin] s.dev d)) ∧
    (∀ h, s.dev.twin.link = .train → 2 ≤ s.dev.twin.mhellos → h.rxOk = true → s.dev.twin.role ≠ 1 → ∃ d, exec (.mhello h) s = .next { s with dev := d } ∧ (d.twin.link = .up ∧
      d.twin.peer = some h ∧ (s.dev.tmr.tb + ticksOfUs 250, .mirrorFrameTimeout) ∈ d.timers ∧ (s.dev.tmr.tb + ticksOfUs 100, .msyncTimer) ∈ d.timers ∧
      (d.sources[srcMirror]).cond = false ∧ SameBut [.twin, .timers, .sources] s.dev d)) ∧
    (∀ h, s.dev.twin.link = .up → ∃ d, exec (.mhello h) s = .next { s with dev := d } ∧ (d.twin.link = .up ∧ d.twin.peer = some h ∧
      (s.dev.tmr.tb + ticksOfUs 250, .mirrorFrameTimeout) ∈ d.timers ∧ SameBut [.twin, .timers] s.dev d)) ∧
    (s.dev.twin.link = .up → ∀ t1 t2 t3 t4 : Nat,
      (isShadow s.dev = false → ∃ d, exec (.msync t1 t2 t3 t4) s = .next { s with dev := d } ∧ (d.twin.tofs = 10 * (((t2 : Int) - t1) + ((t3 : Int) - t4)) ∧
        d.twin.tbLock = decide ((10 * (((t2 : Int) - t1) + ((t3 : Int) - t4))).natAbs ≤ 40) ∧ SameBut [.twin, .timers] s.dev d)) ∧
      (isShadow s.dev = true → 1000 < 10 * (((t2 : Int) - t1) + ((t3 : Int) - t4)) → ∃ d, exec (.msync t1 t2 t3 t4) s = .next { s with dev := d } ∧ (d.tmr.tb = (s.dev.tmr.tb + (10 * (((t2 : Int) - t1) + ((t3 : Int) - t4))).toNat / 20) % 2 ^ 64 ∧ d.ledger = s.dev.ledger ∧ PowerStill s.dev d)) ∧
      (isShadow s.dev = true → 10 * (((t2 : Int) - t1) + ((t3 : Int) - t4)) < -1000 → ∃ d, exec (.msync t1 t2 t3 t4) s = .next { s with dev := d } ∧ (d.tmr.tb = s.dev.tmr.tb ∧ d.tmr.steer = -20000 ∧ PowerStill s.dev d)) ∧
      (isShadow s.dev = true → (10 * (((t2 : Int) - t1) + ((t3 : Int) - t4))).natAbs ≤ 1000 → ∃ d, exec (.msync t1 t2 t3 t4) s = .next { s with dev := d } ∧ (d.tmr.tb = s.dev.tmr.tb ∧ d.tmr.steer.natAbs ≤ 20000 ∧ PowerStill s.dev d)))) ∧
  (s.dev.twin.link ≠ .down → ∃ d, exec .mhelloTimer s = .next { s with dev := d } ∧ (.mhello (mhelloNow s.dev) ∈ d.twin.sent ∧
    (s.dev.tmr.tb + ticksOfUs (if s.dev.twin.link = .up then 100 else 10), .mhelloTimer) ∈ d.timers ∧ SameBut [.twin, .timers] s.dev d)) ∧
  (s.dev.twin.link = .up → ∃ d, exec .msyncTimer s = .next { s with dev := d } ∧ (.msync s.dev.tmr.tb 0 0 ∈ d.twin.sent ∧ (s.dev.tmr.tb + ticksOfUs 100, .msyncTimer) ∈ d.timers ∧
    SameBut [.twin, .timers] s.dev d)) ∧
  (s.dev.twin.link = .down → ∀ c ∈ [Instr.mhelloTimer, .msyncTimer], ∃ d, exec c s = .next { s with dev := d } ∧ (SameBut [.timers] s.dev d))

/-- 09 R380 to R384, R386, R388: the ACTIVE sends its loop snapshot at every multiple of LS_PERIOD; a SHADOW whose mirror link is UP takes loop state,
protocol records, fences, deals and journal records from the ACTIVE, and an ACTIVE takes none.
Each of these commands answers a next state here: loopSnapshot, loopFrameOverdue, loopState, protocolRecord, mirrorFence, mirrorLedger, mirrorJournal. -/
def Obligations.TheShadowFollowsTheActive : Prop := ∀ (s : State),
  (s.dev.twin.role = 1 → s.dev.twin.link = .up → ∃ d, exec .loopSnapshot s = .next { s with dev := d } ∧ (.loop s.dev.tmr.tb (((indices 32).filter (hasPort s.dev)).map (loopRecOf s.dev)) ∈ d.twin.sent ∧ (nextSnapshot s.dev, .loopSnapshot) ∈ d.timers ∧
    d.twin.loopSeq = wrapInc 16 s.dev.twin.loopSeq ∧ SameBut [.twin, .timers] s.dev d)) ∧
  (s.dev.twin.role ≠ 1 → ∃ d, exec .loopSnapshot s = .next { s with dev := d } ∧ (SameBut [.timers] s.dev d)) ∧
  (∃ d, exec .loopFrameOverdue s = .next { s with dev := d } ∧ (d.twin.lsFresh = false ∧ SameBut [.twin, .timers] s.dev d)) ∧
  (s.dev.cfg.twin.en = true → s.dev.twin.link = .up →
    (isShadow s.dev = false → ∀ stamp recs r p mv x cls pl,
      ∀ c ∈ [Instr.loopState stamp recs, .protocolRecord r, .mirrorFence p mv, .mirrorLedger x, .mirrorJournal cls pl], ∃ d, exec c s = .next { s with dev := d } ∧ ((s.dev.tmr.tb + ticksOfUs 250, .mirrorFrameTimeout) ∈ d.timers ∧ SameBut [.timers] s.dev d)) ∧
    (isShadow s.dev = true →
      (∀ stamp r, ∃ d, exec (.loopState stamp [r]) s = .next { s with dev := d } ∧ ((d.loops[r.port]).ref = r.ref ∧ (d.loops[r.port]).target = r.target ∧
        (d.loops[r.port]).region = r.region ∧ (d.loops[r.port]).switching = r.sourcing ∧ (d.loops[r.port]).vc = r.vc ∧ (d.loops[r.port]).lc = r.lc ∧
        (d.loops[r.port]).hc = r.hc ∧ (d.loops[r.port]).cycle = cycleOfs s.dev r stamp ∧ (d.loops[r.port]).hoff = r.hoff ∧ (d.loops[r.port]).latched = r.latched ∧
        d.twin.lastStamp = stamp ∧ d.twin.lastLoop = some s.dev.tmr.tb ∧ (∀ q : Fin 32, q ≠ r.port → d.loops[q] = s.dev.loops[q]) ∧
        (s.dev.tmr.tb + ticksOfUs (s.dev.cfg.twin.lsPeriod + 5), .loopFrameOverdue) ∈ d.timers ∧ SameBut [.twin, .loops, .phases, .timers] s.dev d)) ∧
      (∀ r : ProtoRec, ∃ d, exec (.protocolRecord r) s = .next { s with dev := d } ∧ (d.twin.protos[r.port] = some r ∧ (d.ports[r.port]).tc = tcOfCode r.tcState ∧
        (d.ports[r.port]).hand = r.hand ∧ (d.ports[r.port]).rp = rpOfCode r.rpLvl ∧ (d.ports[r.port]).rd = sinkState (tcOfCode r.tcState) ∧
        (d.ports[r.port]).source = r.pflags.getLsbD 5 ∧ (d.ports[r.port]).dfp = r.pflags.getLsbD 6 ∧ (d.ports[r.port]).orient = r.oflags.getLsbD 0 ∧
        (r.pflags.getLsbD 4 = false → (d.ports[r.port]).rdo = r.rdo ∧ (d.ports[r.port]).volt = r.volt ∧ (d.ports[r.port]).curr = r.curr) ∧
        (∀ q : Fin 32, q ≠ r.port → d.ports[q] = s.dev.ports[q]) ∧ SameBut [.twin, .ports, .pd, .chans, .timers] s.dev d)) ∧
      (∀ p : Fin 32, ∃ d, exec (.mirrorFence p 0) s = .next { s with dev := d } ∧ ((d.ports[p]).fence = 0 ∧ (d.ports[p]).fencePend = none ∧ SameBut [.ports, .timers] s.dev d)) ∧
      (∀ (p : Fin 32) (mv : Nat), mv ≠ 0 → (s.dev.ports[p]).fence ≤ mv → ∃ d, exec (.mirrorFence p mv) s = .next { s with dev := d } ∧ ((d.ports[p]).fence = mv ∧
        (d.ports[p]).fencePend = none ∧ (∀ q : Fin 32, q ≠ p → d.ports[q] = s.dev.ports[q]) ∧ SameBut [.ports, .timers] s.dev d)) ∧
      (∀ (p : Fin 32) (mv : Nat), mv ≠ 0 → mv < (s.dev.ports[p]).fence → ∃ d, exec (.mirrorFence p mv) s = .next { s with dev := d } ∧ ((d.ports[p]).fence = (s.dev.ports[p]).fence ∧ (d.ports[p]).fencePend = some mv ∧ (∀ q : Fin 32, q ≠ p → d.ports[q] = s.dev.ports[q]) ∧
        SameBut [.ports, .timers] s.dev d)) ∧
      (∀ x : Deal, s.dev.ledger.joining = false → s.dev.ledger.orders = [] → x.refusedNo = 0 → s.dev.tmr.tb < x.tEff → ∃ d, exec (.mirrorLedger x) s = .next { s with dev := d } ∧ (d.twin.deal = some x ∧ d.ledger.last = some x ∧ d.ledger.pendingDeal = some x ∧ d.ledger.allot = s.dev.ledger.allot ∧ PowerStill s.dev d)) ∧
      (∀ (cls : Fin 16) (pl : List Byte), jrnOpen s.dev = true → (classCfg s.dev cls).on = true → ∃ d, exec (.mirrorJournal cls pl) s = .next { s with dev := d } ∧ (d.jrn.sqno = wrapInc 32 s.dev.jrn.sqno ∧
        (jrnHeld (s.dev.jrn.buffer ++ [⟨cls, recordBytes cls (3 + 4 * b2n s.dev.jrn.gap) s.dev.jrn.sqno s.dev.tmr.tb pl⟩]) ≤ jrnBufferSize →
          d.jrn.buffer = s.dev.jrn.buffer ++ [⟨cls, recordBytes cls (3 + 4 * b2n s.dev.jrn.gap) s.dev.jrn.sqno s.dev.tmr.tb pl⟩] ∧ d.jrn.shed = s.dev.jrn.shed) ∧
        d.ledger = s.dev.ledger ∧ PowerStill s.dev d))))

/-- 09 R371, R387, R389, R391, R395 to R399, R402, R403: an eligible SHADOW takes over when the heartbeat ends, at the instant of a handover and on
command; a refused command changes nothing else; COLD needs no eligibility; the ACTIVE releases when its partner asserts TWIN_ROLE.
Each of these commands answers a next state here: heartbeatLoss, handoverInstant, partnerRoleAssert, handover, twinCmdTakeover, cold, heartbeatFound,
partnerRoleDeassert, replaceTimeout. -/
def Obligations.TakeoverHandoverAndRelease : Prop := ∀ (s : State),
  let took (why : Nat) (d : Dev) : Prop := d.twin.role = 1 ∧ d.twin.roleOut = true ∧ d.twin.takeovers = inc8 s.dev.twin.takeovers ∧
    d.twin.lastCause = why ∧ d.twin.lastTook = true ∧ d.twin.lastTb = s.dev.tmr.tb ∧ d.tmr.tb = s.dev.tmr.tb ∧ d.cfgNew = s.dev.cfgNew ∧
    d.feeds = s.dev.feeds ∧ d.posts = s.dev.posts ∧ d.sys = s.dev.sys ∧ d.upd = s.dev.upd ∧ d.twin.peer = s.dev.twin.peer
  let refused (d : Dev) : Prop := d.twin.refused = inc8 s.dev.twin.refused ∧ d.twin.event.getLsbD 9 = true ∧ d.twin.role = s.dev.twin.role ∧ SameBut [.twin] s.dev d
  (s.dev.cfg.twin.en = false → (∃ d, exec .heartbeatLoss s = .next { s with dev := d } ∧ (d.twin.partnerHb = false ∧ d.twin.role = s.dev.twin.role ∧ SameBut [.twin] s.dev d)) ∧
    ∃ d, exec .handoverInstant s = .next { s with dev := d } ∧ (SameBut [] s.dev d)) ∧
  (s.dev.cfg.twin.en = true →
    (isShadow s.dev = true → s.dev.twin.eligAtLoop = true → s.dev.tmr.tb ≤ s.dev.twin.lastStamp + ticksOfUs (s.dev.cfg.twin.lsPeriod + 5) →
      ∃ d, exec .heartbeatLoss s = .next { s with dev := d } ∧ (took 1 d ∧ d.twin.partnerHb = false)) ∧
    (isShadow s.dev = true → (s.dev.twin.eligAtLoop = false ∨ s.dev.twin.lastStamp + ticksOfUs (s.dev.cfg.twin.lsPeriod + 5) < s.dev.tmr.tb) →
      ∃ d, exec .heartbeatLoss s = .next { s with dev := d } ∧ (d.twin.role = 2 ∧ d.twin.partnerHb = false ∧ d.twin.event.getLsbD 3 = true ∧ SameBut [.twin] s.dev d)) ∧
    (isShadow s.dev = false → ∃ d, exec .heartbeatLoss s = .next { s with dev := d } ∧ (d.twin.role = s.dev.twin.role ∧ d.twin.partnerHb = false ∧ d.twin.event.getLsbD 4 = true ∧
      SameBut [.twin] s.dev d)) ∧
    (s.dev.twin.role = 1 → s.dev.twin.handoverAt.isSome = true → ∃ d, exec .handoverInstant s = .next { s with dev := d } ∧ (d.twin.heartbeatStopped = true ∧
      d.twin.handoverAt = none ∧ d.twin.role = 1 ∧ SameBut [.twin, .timers] s.dev d)) ∧
    (isShadow s.dev = true → ∃ d, exec .handoverInstant s = .next { s with dev := d } ∧ (took 3 d)) ∧
    (s.dev.twin.role = 1 → ∃ d, exec .partnerRoleAssert s = .next { s with dev := d } ∧ (d.twin.role = 2 ∧ d.twin.roleOut = false ∧ d.twin.prole = true ∧
      d.twin.releases = inc8 s.dev.twin.releases ∧ d.twin.lastTook = false ∧ d.twin.handoverAt = none ∧ d.twin.cmd = 0 ∧
      (s.dev.twin.cmd.getLsbD 0 = true → d.twin.lastCause = 3) ∧ (∀ j ∈ d.host.jobs, j.opcode / 256 ≠ 1 ∧ j.opcode / 256 ≠ 3) ∧
      SameBut [.twin, .ports, .pd, .phases, .ledger, .timers, .host, .jrn, .ringMem, .store, .upd] s.dev d)) ∧
    (isShadow s.dev = true → ∃ d, exec .partnerRoleAssert s = .next { s with dev := d } ∧ (d.twin.prole = true ∧ d.twin.role = 2 ∧ SameBut [.twin] s.dev d)) ∧
    (∀ m, isOwner s.dev m = true →
      (s.dev.twin.role = 1 → s.dev.twin.link = .up → s.dev.twin.peer.any (·.eligible) = true → s.dev.twin.handoverAt = none → ∃ d, exec (.handover m) s = .next { s with dev := d } ∧ (d.twin.handoverAt = some (s.dev.tmr.tb + ticksOfUs 100) ∧ .handover (s.dev.tmr.tb + ticksOfUs 100) ∈ d.twin.sent ∧ d.twin.role = 1 ∧
        (s.dev.tmr.tb + ticksOfUs 100, .handoverInstant) ∈ d.timers ∧ SameBut [.twin, .timers] s.dev d)) ∧
      ((s.dev.twin.role ≠ 1 ∨ s.dev.twin.link ≠ .up ∨ s.dev.twin.peer.any (·.eligible) = false) → (∃ dn, exec (.handover m) s = .next { s with dev := dn } ∧ refused dn)) ∧
      (isShadow s.dev = true → s.dev.twin.eligible = true → ∃ d, exec (.twinCmdTakeover m) s = .next { s with dev := d } ∧ (took 2 d)) ∧
      ((isShadow s.dev = false ∨ s.dev.twin.eligible = false) → (∃ dn, exec (.twinCmdTakeover m) s = .next { s with dev := dn } ∧ refused dn)) ∧
      (isShadow s.dev = true → (s.dev.twin.prole = false ∨ s.dev.twin.partnerHb = false) → ∃ d, exec (.cold m) s = .next { s with dev := d } ∧ (took 4 d ∧
        (s.dev.store.pendPorts = 0 → ∀ p : Fin 32, hasPort s.dev p = true → (s.dev.ports[p]).tc ≠ .minimal → (d.ports[p]).tc = .errorRecovery))) ∧
      ((isShadow s.dev = false ∨ s.dev.twin.prole = true ∧ s.dev.twin.partnerHb = true) → (∃ dn, exec (.cold m) s = .next { s with dev := dn } ∧ refused dn))) ∧
    (∀ m, isOwner s.dev m = false → ∀ c ∈ [Instr.handover m, .twinCmdTakeover m, .cold m], ∃ d, exec c s = .next { s with dev := d } ∧ (OnlyMaster m s.dev d ∧
      SameBut [.host] s.dev d))) ∧
  (∃ d, exec .heartbeatFound s = .next { s with dev := d } ∧ (d.twin.partnerHb = true ∧ SameBut [.twin] s.dev d)) ∧
  (∃ d, exec .partnerRoleDeassert s = .next { s with dev := d } ∧ (d.twin.prole = false ∧ SameBut [.twin] s.dev d)) ∧
  (∃ d, exec .replaceTimeout s = .next { s with dev := d } ∧ (d.twin.replace = false ∧ d.twin.forwarded = none ∧ SameBut [.twin, .timers] s.dev d))

/-- 10 R405, R407 to R411, R413 to R417, R421 to R424: the timer block. A compare value is staged, committed two ticks later, and arms its alarm
when it lies ahead; otherwise the alarm is late or missed; an alarm that is due fires. An interval timer starts, reloads, reaches zero, stops; TMR_GO
releases the timers of its mask; a read of TB_LO latches TB_HI.
Each of these commands answers a next state here: almCmpLoWrite, almCmpHiWrite, cancel, itmReloadWrite, itmStart, itmStop, capPop, tmrGo, alarmCommit,
alarmFire, itmZero, tmrGoDatedRelease, tbLoRead. -/
def Obligations.AlarmsAndIntervalTimers : Prop := ∀ (s : State) (m : Fin 5),
  (isOwner s.dev m = true →
    (∀ a v, ∃ d, exec (.almCmpLoWrite m a v) s = .next { s with dev := d } ∧ (d.alarms = s.dev.alarms.set a { s.dev.alarms[a] with staged := v.toNat } ∧ SameBut [.alarms] s.dev d)) ∧
    (∀ a v, ∃ d, exec (.almCmpHiWrite m a v) s = .next { s with dev := d } ∧ ((d.alarms[a]).commitHi = some v.toNat ∧ (d.alarms[a]).commitLo = (s.dev.alarms[a]).staged ∧
      (s.dev.tmr.tb + 2, .alarmCommit a) ∈ d.timers ∧ SameBut [.alarms, .timers] s.dev d)) ∧
    (∀ a, ∃ d, exec (.cancel m a) s = .next { s with dev := d } ∧ (d.alarms = s.dev.alarms.set a { s.dev.alarms[a] with cancelIn := 2 } ∧ SameBut [.alarms] s.dev d)) ∧
    (∀ t v, ∃ d, exec (.itmReloadWrite m t v) s = .next { s with dev := d } ∧ ((d.itms[t]).newReload = some (max 2 v.toNat, 2) ∧
      (d.itms[t]).count = (s.dev.itms[t]).count ∧ SameBut [.itms] s.dev d)) ∧
    (∀ t, ∃ d, exec (.itmStart m t) s = .next { s with dev := d } ∧ ((d.itms[t]).state = (if (s.dev.itms[t]).state = .held then .held else .running) ∧
      ((s.dev.itms[t]).state = .held → d.itms = s.dev.itms) ∧ ((s.dev.itms[t]).state ≠ .held → (d.itms[t]).load = true) ∧
      SameBut [.itms] s.dev d)) ∧
    (∀ t, ∃ d, exec (.itmStop m t) s = .next { s with dev := d } ∧ ((d.itms[t]).stopIn = 2 ∧ (d.itms[t]).state = (s.dev.itms[t]).state ∧ SameBut [.itms] s.dev d)) ∧
    (∀ t, ∃ d, exec (.capPop m t) s = .next { s with dev := d } ∧ ((d.itms[t]).captures = (s.dev.itms[t]).captures.tail ∧ SameBut [.itms] s.dev d)) ∧
    (∀ v, ∃ d, exec (.tmrGo m v) s = .next { s with dev := d } ∧ (d.tmr.goMask = bits v 0 16 ∧ d.tmr.goPending = bit v 16 ∧ d.tmr.goEffect = 2 ∧
      d.itms = s.dev.itms ∧ SameBut [.tmr, .timers] s.dev d))) ∧
  (isOwner s.dev m = false → ∀ a v, ∃ d, exec (.almCmpLoWrite m a v) s = .next { s with dev := d } ∧ (SameBut [.host] s.dev d)) ∧
  (∀ a h, (s.dev.alarms[a]).commitHi = some h →
    (isAhead s.dev ((s.dev.alarms[a]).commitLo + h * 2 ^ 32) = true → ∃ d, exec (.alarmCommit a) s = .next { s with dev := d } ∧ ((d.alarms[a]).armed = true ∧
      (d.alarms[a]).cmp = (s.dev.alarms[a]).commitLo + h * 2 ^ 32 ∧ (d.alarms[a]).missed = false ∧ SameBut [.alarms, .timers] s.dev d)) ∧
    (isAhead s.dev ((s.dev.alarms[a]).commitLo + h * 2 ^ 32) = false → (s.dev.alarms[a]).late = false → ∃ d, exec (.alarmCommit a) s = .next { s with dev := d } ∧ ((d.alarms[a]).armed = false ∧ (d.alarms[a]).missed = true ∧ (d.alarms[a]).misses = inc8 (s.dev.alarms[a]).misses ∧
      d.tmr.missed = setBit s.dev.tmr.missed a.val ∧ SameBut [.alarms, .timers, .tmr] s.dev d)) ∧
    (isAhead s.dev ((s.dev.alarms[a]).commitLo + h * 2 ^ 32) = false → (s.dev.alarms[a]).late = true → (s.dev.alarms[a]).tkind = 0 →
      ∃ d, exec (.alarmCommit a) s = .next { s with dev := d } ∧ ((d.alarms[a]).armed = false ∧ (d.alarms[a]).wasLate = true ∧ (d.alarms[a]).fireTb = s.dev.tmr.tb ∧
        d.tmr.fired = setBit s.dev.tmr.fired a.val ∧ SameBut [.alarms, .timers, .tmr] s.dev d))) ∧
  (∀ a b, alarmDue s.dev a = true →
    ((s.dev.alarms[a]).tkind = 0 → ∃ d, exec (.alarmFire a b) s = .next { s with dev := d } ∧ ((d.alarms[a]).armed = false ∧ (d.alarms[a]).stepped = b ∧
      (d.alarms[a]).fireTb = s.dev.tmr.tb ∧ (d.alarms[a]).fires = sat 0xFFFF ((s.dev.alarms[a]).fires + 1) ∧
      d.tmr.fired = setBit s.dev.tmr.fired a.val ∧ SameBut [.alarms, .tmr] s.dev d)) ∧
    (∀ t : Fin 16, (s.dev.alarms[a]).tkind = 3 → (s.dev.alarms[a]).tindex = t.val → ∃ d, exec (.alarmFire a b) s = .next { s with dev := d } ∧ ((d.alarms[a]).armed = false ∧ d.itms = s.dev.itms.set t { s.dev.itms[t] with startDue := true } ∧
      SameBut [.alarms, .tmr, .itms] s.dev d))) ∧
  (∀ t, (s.dev.itms[t]).state = .running → (s.dev.itms[t]).tkind = 0 → ∃ d, exec (.itmZero t) s = .next { s with dev := d } ∧ ((d.itms[t]).count = 0 ∧
    (d.itms[t]).zero = true ∧ (d.itms[t]).zeroTb = s.dev.tmr.tb ∧ (d.itms[t]).zeros = wrapInc 16 (s.dev.itms[t]).zeros ∧
    (d.itms[t]).state = (if (s.dev.itms[t]).oneShot then .stopped else .running) ∧ (d.itms[t]).load = !(s.dev.itms[t]).oneShot ∧
    SameBut [.itms, .tmr] s.dev d)) ∧
  (s.dev.tmr.goPending = true → s.dev.tmr.goEffect = 0 → isAhead s.dev s.dev.tmr.goArmed = false → ∃ d, exec .tmrGoDatedRelease s = .next { s with dev := d } ∧ ((∀ t : Fin 16, s.dev.tmr.goMask.testBit t.val = true → (d.itms[t]).state = .running ∧ (d.itms[t]).load = true) ∧ d.tmr.goPending = false ∧
    SameBut [.itms, .tmr, .timers] s.dev d)) ∧
  (s.dev.sys.mode ≠ .recovery → ∃ d, exec (.tbLoRead m) s = .next { s with dev := d } ∧ ((d.host.masters[m]).reply = [wordOf s.dev.tmr.tb 0] ∧
    (d.tmr.tbHi[bufOf m]) = s.dev.tmr.tb / 2 ^ 32 % 2 ^ 32 ∧ d.tmr.tb = s.dev.tmr.tb ∧ SameBut [.tmr, .host] s.dev d))

/-- 11 R433 to R435, R439 to R443, R449, R453, R454; 01 R32, R631: the fault collector. A raise sets its latch and runs the grace of its action; a
raise behind a lost link waits with its stamp; a grace that runs out carries its action out; a latch clears only without its condition; a forced
raise is marked; the effective severity returns; held messages leave in order; a die leaves minimal mode by itself; a watchdog stops its core, and a core that stays paused raises its own (14 R545).
Each of these commands answers a next state here: faultRaise, graceExpiry, faultClear, faultLatchBitClear, faultForce, severityRelax,
faultBacklogDrain, minimalAutoExit, watchdogExpiry, activationDone, faultConditionEnd. -/
def Obligations.FaultsLatchGraceAndClear : Prop := ∀ (s : State) (src : Fin 768), (srcRow src.val).isSome = true → s.dev.upd.trial = none →
  (tripDie src = none → src ≠ srcStoreWrite →
    (∀ t, Quiet s.dev src → ∃ d, exec (.faultRaise src t) s = .next { s with dev := d } ∧ ((d.sources[src]).latch = true ∧
      d.ports = s.dev.ports ∧ d.sys = s.dev.sys ∧ ∀ n : Fin 768, n ≠ src → (d.sources[n]).latch = (s.dev.sources[n]).latch)) ∧
    (∀ t, lostLink s.dev src = none → (s.dev.sources[src]).later = none → (s.dev.sources[src]).action ≠ 0 → (s.dev.sources[src]).latch = false → (s.dev.sources[src]).eff = 2 → s.dev.coll.escN = 0 →
      s.dev.coll.graces.length < 64 → ∃ d, exec (.faultRaise src t) s = .next { s with dev := d } ∧ ((d.sources[src]).latch = true ∧ (d.sources[src]).graceRun = true ∧
        (src, t + 50 * (s.dev.sources[src]).grace) ∈ d.coll.graces ∧ d.ports = s.dev.ports ∧ d.sys = s.dev.sys))) ∧
  (∀ l t, tripDie src = none → src ≠ srcStoreWrite → lostLink s.dev src = some l → (s.dev.loss.queue[l]).length < lossFrames →
    (takeLater s.dev.sources[src]).eff ≠ 3 → ∃ d, exec (.faultRaise src t) s = .next { s with dev := d } ∧ (d.loss.queue[l] = s.dev.loss.queue[l] ++ [.report (.faultRaise src t)] ∧ SameBut [.loss] s.dev d)) ∧
  (∀ p, srcGroup src = .port p → (s.dev.sources[src]).graceRun = true → (s.dev.sources[src]).action = 2 → inEffect s.dev src 0 < 2 →
    isShadow s.dev = false → hasPort s.dev p = true → (s.dev.ports[p]).tc ≠ .disabled → (s.dev.ports[p]).tc ≠ .errorRecovery →
    (s.dev.ports[p]).tc ≠ .minimal → (s.dev.pd[p]).disabling = false → lostPort s.dev p = false → ∃ d, exec (.graceExpiry src) s = .next { s with dev := d } ∧ ((d.sources[src]).graceRun = false ∧ (d.sources[src]).acted = true ∧ (d.ports[p]).tc = .errorRecovery ∧ guardOn (d.guards[p]) = false)) ∧
  (∀ m, isOwner s.dev m = true → (s.dev.sources[src]).latch = true → graceOver s.dev src = false →
    (∀ e : Fin 4, s.dev.sys.edgeMin[e] = false) →
    ((s.dev.sources[src]).cond = false →
      (∃ d, exec (.faultClear m (BitVec.ofNat 32 src.val)) s = .next { s with dev := d } ∧ ((d.sources[src]).latch = false ∧ (d.sources[src]).count = 0 ∧
        (d.sources[src]).graceRun = false ∧ d.ports = s.dev.ports ∧ d.sys = s.dev.sys)) ∧
      (∃ d, exec (.faultLatchBitClear m src) s = .next { s with dev := d } ∧ ((d.sources[src]).latch = false ∧ (d.sources[src]).count = 0 ∧
        (d.sources[src]).graceRun = false ∧ d.ports = s.dev.ports ∧ d.sys = s.dev.sys))) ∧
    (srcLevel src = true → (s.dev.sources[src]).cond = true → (s.dev.sources[src]).realRaise = true →
      ∃ d, exec (.faultLatchBitClear m src) s = .next { s with dev := d } ∧ (d.sources = s.dev.sources ∧ SameBut [.coll] s.dev d))) ∧
  (∀ m, isOwner s.dev m = true → (s.dev.sources[src]).latch = false → Quiet s.dev src →
    ∃ d, exec (.faultForce m (BitVec.ofNat 32 src.val)) s = .next { s with dev := d } ∧ ((d.sources[src]).latch = true ∧ d.ports = s.dev.ports ∧ d.sys = s.dev.sys)) ∧
  ((s.dev.sources[src]).sev < (s.dev.sources[src]).eff → ∃ d, exec (.severityRelax src) s = .next { s with dev := d } ∧ ((d.sources[src]).eff = (s.dev.sources[src]).sev ∧ (d.sources[src]).raises = [] ∧ (d.sources[src]).latch = (s.dev.sources[src]).latch ∧
    d.ports = s.dev.ports ∧ d.sys = s.dev.sys)) ∧
  (∀ a r c, s.dev.coll.backlog = [a] → (ringsOfKind s.dev 2).head? = some r → s.dev.cfg.host.rings[r] = some c → ringRoom s.dev r = true →
    ∃ d, exec .faultBacklogDrain s = .next { s with dev := d } ∧ (d.coll.backlog = [] ∧ d.coll.gap = false ∧ d.sources = s.dev.sources ∧
      SameBut [.coll, .host, .ringMem] s.dev d)) ∧
  (∀ e, s.dev.sys.edgeMin[e] = true → mayExit s.dev = true → linkSteady s.dev (linkOf e) = true → s.dev.sys.mode = .service →
    ∃ d, exec (.minimalAutoExit e) s = .next { s with dev := d } ∧ (d.sys.edgeMin[e] = false ∧ (d.sources[srcEdgeMinimal e]).cond = false ∧
      d.sys.held[linkOf e] = none ∧ d.sys.mode = .service)) ∧
  (Quiet s.dev (srcWdt 0) → (s.dev.sources[srcWdt 0]).later = none → ∃ d, exec (.watchdogExpiry 0 false) s = .next { s with dev := d } ∧ (d.upd.svRun = false ∧
    (d.sources[srcWdt 0]).latch = true ∧ d.ports = s.dev.ports ∧ d.twin.core = s.dev.twin.core)) ∧
  (∀ k t, s.dev.upd.paused = some (.core k t) → src = srcWdt (watchOf k) → Quiet s.dev src → ∃ d, exec (.activationDone false) s = .next { s with dev := d } ∧ ((d.sources[src]).latch = true ∧ d.upd.coreRun.getLsbD k.val = false ∧ d.upd.paused = s.dev.upd.paused ∧ d.ports = s.dev.ports)) ∧
  (∀ core, ∃ d, exec (.watchdogExpiry core true) s = .next { s with dev := d } ∧ (SameBut [] s.dev d)) ∧
  (∀ n, src = phaseSrc n 3 → ∃ d, exec (.faultConditionEnd src) s = .next { s with dev := d } ∧ ((d.sources[src]).cond = false ∧ (d.phases[n]).sf = false ∧
    (d.sources[src]).latch = (s.dev.sources[src]).latch ∧ SameBut [.sources, .phases] s.dev d))

/-- 12 R471 to R480, R482; 03 R125 to R127: rings and the first commands. A master moves its index within the ring; a fetch passes the entry at
HEAD and runs it, or shows why it waits; RESET clears a disabled ring; room writes a held completion; NOP completes; a port is enabled and
disabled.
Each of these commands answers a next state here: ringTailWrite, ringHeadWrite, ringCtlWrite, ringReset, commandFetch, completionRingRoom. -/
def Obligations.RingsCarryCommands : Prop := ∀ (s : State) (r : Fin 16) (k : RingCfg), s.dev.cfg.host.rings[r] = some k →
  (∀ m v, k.kind = 0 → m = k.master → s.dev.sys.mode ≠ .standby →
    (tailFits k s.dev.host.rings[r] (v.setWidth 16) = true → ∃ d, exec (.ringTailWrite m r v) s = .next { s with dev := d } ∧ ((d.host.rings[r]).tail = v.setWidth 16 ∧ (d.host.rings[r]).head = (s.dev.host.rings[r]).head ∧ timerRuns d (.commandFetch r) = true ∧
      SameBut [.host, .timers] s.dev d)) ∧
    (tailFits k s.dev.host.rings[r] (v.setWidth 16) = false → ∃ d, exec (.ringTailWrite m r v) s = .next { s with dev := d } ∧ ((d.host.rings[r]).tail = (s.dev.host.rings[r]).tail ∧ (d.host.rings[r]).badIndex = inc8 (s.dev.host.rings[r]).badIndex ∧
      (d.host.masters[m]).refused = inc8 (s.dev.host.masters[m]).refused ∧ SameBut [.host] s.dev d))) ∧
  (∀ m v, k.kind = 0 → m ≠ k.master → ∃ d, exec (.ringTailWrite m r v) s = .next { s with dev := d } ∧ (d.host.rings = s.dev.host.rings ∧
    (d.host.masters[m]).refused = inc8 (s.dev.host.masters[m]).refused ∧ SameBut [.host] s.dev d)) ∧
  (∀ m v, k.kind ≠ 0 → m = k.master → (v.setWidth 16 - (s.dev.host.rings[r]).head).toNat ≤ ringHeld s.dev.host.rings[r] →
    ∃ d, exec (.ringHeadWrite m r v) s = .next { s with dev := d } ∧ ((d.host.rings[r]).head = v.setWidth 16 ∧ (d.host.rings[r]).tail = (s.dev.host.rings[r]).tail ∧
      SameBut [.host, .timers] s.dev d)) ∧
  (∀ m v, isOwner s.dev m = true → ∃ d, exec (.ringCtlWrite m r v) s = .next { s with dev := d } ∧ ((d.host.rings[r]).en = bit v 0 ∧
    (d.host.rings[r]).coalesce = bit v 1 ∧ (d.host.rings[r]).head = (s.dev.host.rings[r]).head ∧ SameBut [.host, .timers] s.dev d)) ∧
  (∀ m, isOwner s.dev m = true →
    ((s.dev.host.rings[r]).en = false → ∃ d, exec (.ringReset m r) s = .next { s with dev := d } ∧ (d.host.rings = s.dev.host.rings.set r { s.dev.host.rings[r] with head := 0, tail := 0, arm := 0 } ∧ SameBut [.host] s.dev d)) ∧
    ((s.dev.host.rings[r]).en = true → ∃ d, exec (.ringReset m r) s = .next { s with dev := d } ∧ (SameBut [] s.dev d))) ∧
  (∀ e, nextEntry s.dev r = some e →
    (∀ c, c = ⟨r, (s.dev.host.rings[r]).head.toNat, BitVec.ofNat 32 (fieldAt e 4 4)⟩ → fetchReady s.dev r = true →
      decodeEntry c e = some (.nop c) → checkCode480 s.dev c 0x0001 true none = none → pairOf s.dev r ≠ some r → ∃ d, exec (.commandFetch r) s = .next { s with dev := d } ∧ ((d.host.rings[r]).head = (s.dev.host.rings[r]).head + 1 ∧ (d.host.rings[r]).passed = wrapInc 16 (s.dev.host.rings[r]).passed ∧
        SameBut [.host, .ringMem, .timers] s.dev d)) ∧
    (fetchWhy s.dev r e ≠ 0 → ∃ d, exec (.commandFetch r) s = .next { s with dev := d } ∧ (d.host.rings = s.dev.host.rings.set r { s.dev.host.rings[r] with stallWhy := fetchWhy s.dev r e } ∧ SameBut [.host] s.dev d))) ∧
  (∀ b, (s.dev.host.rings[r]).held = [b] → ringRoom s.dev r = true → ∃ d, exec (.completionRingRoom r) s = .next { s with dev := d } ∧ ((d.host.rings[r]).held = [] ∧ (d.host.rings[r]).tail = (s.dev.host.rings[r]).tail + 1 ∧
    d.ringMem = Memory.writeBytes s.dev.ringMem (entryOfs k (s.dev.host.rings[r]).tail) (bytesAt b 0 64) ∧
    SameBut [.host, .ringMem, .timers] s.dev d))

/-- 12 R479 to R482; 03 R125 to R127: NOP, PORT_ENABLE and PORT_DISABLE. NOP completes DONE and changes nothing else; a Disabled port is enabled to
the unattached state of its ROLES; a disable switches the port off and completes when VBUS is low, or at its time-out.
Each of these commands answers a next state here: nop, portEnable, portDisable, portDisableDone, portDisableTimeout. -/
def Obligations.PortsAreEnabledAndDisabled : Prop := ∀ (s : State) (c : CmdRef) (p : Fin 32),
  (checkCode480 s.dev c 0x0001 true none = none → ∃ d, exec (.nop c) s = .next { s with dev := d } ∧ (SameBut [] (complete c 0x0001 .done [] s.dev) d)) ∧
  (checkCode480 s.dev c 0x0100 true (some (edgeOf p)) = none → hasPort s.dev p = true →
    ((s.dev.ports[p]).tc = .disabled → canSource s.dev p = true → isDrp s.dev p = false → livePhases s.dev p ≠ [] →
      (s.dev.ports[p]).rp = .none → (s.dev.chans[cc1 p]).enabled = true →
      ∃ d, exec (.portEnable c p) s = .next { s with dev := d } ∧ ((d.ports[p]).enabled = true ∧ (d.ports[p]).startFail = false ∧ (d.ports[p]).tc = .unattachedSrc ∧
        (d.pd[p]).hrTx = 0 ∧ (d.loops[p]).hc = 0 ∧ (d.loops[p]).latched = false ∧ (d.ports[p]).rp = rpOf s.dev p ∧ ∀ q : Fin 32, q ≠ p → d.ports[q] = s.dev.ports[q])) ∧
    ((s.dev.ports[p]).tc ≠ .disabled → ∃ d, exec (.portEnable c p) s = .next { s with dev := d } ∧ (SameBut [] (complete c 0x0100 .state [] s.dev) d))) ∧
  (checkCode480 s.dev c 0x0101 true (some (edgeOf p)) = none → hasPort s.dev p = true → (s.dev.pd[p]).disabling = false →
    lostPort s.dev p = false → ∃ d, exec (.portDisable c p) s = .next { s with dev := d } ∧ ((d.pd[p]).disabling = true ∧ (d.ports[p]).dfp = false ∧ (d.ports[p]).vconnOn = false ∧
      (d.ports[p]).rp = .none ∧ (d.ports[p]).rd = false)) ∧
  ((s.dev.pd[p]).disabling = true → lostPort s.dev p = false → ∃ d, exec (.portDisableDone p) s = .next { s with dev := d } ∧ ((d.pd[p]).disabling = false ∧ (d.ports[p]).tc = .disabled ∧
    (d.ports[p]).enabled = false ∧ (d.ports[p]).vbusHigh = false ∧ (d.loops[p]).switching = false ∧ guardOn d.guards[p] = false)) ∧
  ((s.dev.pd[p]).disabling = true → lostPort s.dev p = false → ∃ d, exec (.portDisableTimeout p) s = .next { s with dev := d } ∧ ((d.pd[p]).disabling = false ∧ (d.ports[p]).tc = .disabled ∧
    (d.ports[p]).enabled = false ∧ (d.ports[p]).vbusHigh = !vbusLow s.dev p ∧ (d.loops[p]).switching = false ∧ guardOn d.guards[p] = false))

/-- 12 R491 to R496: who owns the block. The first claim opens a window of 2 ms; at its close the claimant of the highest PRIO, and of equal PRIO the
lowest index, owns with a full lease; the owner renews, offers, releases; the successor accepts; the lease ends. At every change the uncompleted
commands that have not passed the point of no return are discarded.
Each of these commands answers a next state here: claim, claimWindowClose, renew, sysRelease, ownerHandover, leaseWarn, leaseExpiry, sysAccept,
handoverLapse. -/
def Obligations.OwnershipIsClaimedLeasedAndHandedOver : Prop := ∀ (s : State) (m : Fin 5),
  (mayClaim s.dev m = false ∨ s.dev.host.owner ≠ none ∨ s.dev.sys.deadcar = true ∨ s.dev.sys.mode = .recovery → ∃ d, exec (.claim m) s = .next { s with dev := d } ∧ (d.host.event = setBit s.dev.host.event 6 ∧ d.host.masters = s.dev.host.masters ∧ d.host.window = s.dev.host.window ∧ d.host.owner = s.dev.host.owner ∧
    SameBut [.host] s.dev d)) ∧
  (mayClaim s.dev m = true → s.dev.host.owner = none → s.dev.sys.deadcar = false → s.dev.sys.mode ≠ .recovery →
    (s.dev.host.window = false → ∃ d, exec (.claim m) s = .next { s with dev := d } ∧ (d.host.window = true ∧ (d.host.masters[m]).claiming = true ∧
      d.host.event = setBit s.dev.host.event 7 ∧ (s.dev.tmr.tb + ticksOfMs 2, .claimWindowClose) ∈ d.timers ∧ d.host.owner = none ∧
      SameBut [.host, .timers] s.dev d)) ∧
    (s.dev.host.window = true → ∃ d, exec (.claim m) s = .next { s with dev := d } ∧ (d.host.window = true ∧ (d.host.masters[m]).claiming = true ∧
      d.host.event = s.dev.host.event ∧ SameBut [.host] s.dev d))) ∧
  (s.dev.host.window = true → (s.dev.host.masters[m]).claiming = true →
    (∀ n : Fin 5, n ≠ m → (s.dev.host.masters[n]).claiming = true → (masterCfg s.dev n).prio < (masterCfg s.dev m).prio ∨
      ((masterCfg s.dev n).prio = (masterCfg s.dev m).prio ∧ m < n)) →
    ∃ d, exec .claimWindowClose s = .next { s with dev := d } ∧ (OwnerChanges (some m) s.dev d ∧ FullLease s.dev d ∧ d.host.window = false ∧
      (∀ n : Fin 5, (d.host.masters[n]).claiming = false) ∧ SameBut [.host, .phases, .upd, .store, .jrn, .ringMem, .timers] s.dev d)) ∧
  (s.dev.host.owner = some m →
    (s.dev.tmr.tb < s.dev.host.leaseEnd → ∃ d, exec (.renew m) s = .next { s with dev := d } ∧ (FullLease s.dev d ∧ d.host.owner = some m ∧ SameBut [.host, .timers] s.dev d)) ∧
    (s.dev.host.leaseEnd ≤ s.dev.tmr.tb → ∃ d, exec (.renew m) s = .next { s with dev := d } ∧ (SameBut [] s.dev d)) ∧
    (∃ d, exec (.sysRelease m) s = .next { s with dev := d } ∧ (OwnerChanges none s.dev d ∧ d.host.successor = none ∧
      SameBut [.host, .phases, .upd, .store, .jrn, .ringMem, .timers] s.dev d)) ∧
    (∀ v k, bit v 3 = true → bits v 0 3 = k.val → k ≠ m → mayClaim s.dev k = true → ∃ d, exec (.ownerHandover m v) s = .next { s with dev := d } ∧ (d.host.successor = some k ∧ d.host.event.getLsbD 3 = true ∧ (s.dev.tmr.tb + ticksOfMs 100, .handoverLapse) ∈ d.timers ∧ d.host.owner = some m ∧
      SameBut [.host, .timers] s.dev d)) ∧
    (∀ v, bit v 3 = false → ∃ d, exec (.ownerHandover m v) s = .next { s with dev := d } ∧ (d.host.successor = none ∧ d.host.owner = some m ∧ SameBut [.host, .timers] s.dev d)) ∧
    (∀ v, bit v 3 = true → bits v 0 3 = m.val → ∃ d, exec (.ownerHandover m v) s = .next { s with dev := d } ∧ (d.host.successor = s.dev.host.successor ∧
      (d.host.masters[m]).refused = inc8 (s.dev.host.masters[m]).refused ∧ SameBut [.host] s.dev d))) ∧
  (s.dev.host.owner ≠ some m → ∃ d, exec (.renew m) s = .next { s with dev := d } ∧ ((d.host.masters[m]).refused = inc8 (s.dev.host.masters[m]).refused ∧
    d.host.leaseEnd = s.dev.host.leaseEnd ∧ SameBut [.host] s.dev d)) ∧
  (s.dev.host.owner ≠ none → ∃ d, exec .leaseWarn s = .next { s with dev := d } ∧ (d.host.event = setBit s.dev.host.event 1 ∧ d.host.owner = s.dev.host.owner ∧
    SameBut [.host, .timers] s.dev d)) ∧
  (s.dev.host.owner ≠ none → s.dev.host.leaseEnd ≤ s.dev.tmr.tb → ∃ d, exec .leaseExpiry s = .next { s with dev := d } ∧ (OwnerChanges none s.dev d ∧
    d.host.event.getLsbD 2 = true ∧ d.host.successor = none ∧ (s.dev.host.successor ≠ none → d.host.event.getLsbD 5 = true) ∧
    SameBut [.host, .phases, .upd, .store, .jrn, .ringMem, .timers] s.dev d)) ∧
  (s.dev.host.successor = some m → s.dev.tmr.tb < s.dev.host.leaseEnd → ∃ d, exec (.sysAccept m) s = .next { s with dev := d } ∧ (OwnerChanges (some m) s.dev d ∧
    FullLease s.dev d ∧ d.host.successor = none ∧ d.host.event.getLsbD 4 = true ∧
    SameBut [.host, .phases, .upd, .store, .jrn, .ringMem, .timers] s.dev d)) ∧
  (s.dev.host.successor ≠ none → ∃ d, exec .handoverLapse s = .next { s with dev := d } ∧ (d.host.successor = none ∧ d.host.event = setBit s.dev.host.event 5 ∧
    d.host.owner = s.dev.host.owner ∧ SameBut [.host, .timers] s.dev d))

/-- 12 R460 to R470, 00 R7: transactions of words over SPI and the UART, and a single write on any transport. The owner writes SYS_IRQEN (0x1C), another
master is refused and counted; a misaligned transaction does nothing; a failed CRC reads and writes nothing; a transaction cut before its CRC is
counted; STATUS answers whether the hub has reset and clears it; words of one transaction are applied in address order.
Each of these commands answers a next state here: registerWrite, spiWrite, spiRead, spiStatus, spiUnknownCommand, uartRead, uartWrite, uartStatus,
uartFrameDrop. -/
def Obligations.TransactionsReadAndWriteWords : Prop := ∀ (s : State), served s.dev = true →
  (∀ m a v,
    (a % 4 ≠ 0 → ∃ d, exec (.registerWrite m a v) s = .next { s with dev := d } ∧ ((d.host.masters[m]).status.getLsbD 3 = true ∧ (d.host.masters[m]).status.getLsbD 0 = true ∧
      OnlyMaster m s.dev d ∧ SameBut [.host] s.dev d)) ∧
    (a % 4 = 0 → locIn s.dev a = .unmapped → ∃ d, exec (.registerWrite m a v) s = .next { s with dev := d } ∧ ((d.host.masters[m]).status.getLsbD 2 = true ∧
      (d.host.masters[m]).status.getLsbD 1 = false ∧ OnlyMaster m s.dev d ∧ SameBut [.host] s.dev d)) ∧
    (s.dev.sys.mode ≠ .recovery → isOwner s.dev m = true → ∃ d, exec (.registerWrite m 0x1C v) s = .next { s with dev := d } ∧ (d.host.irqen = low 8 v ∧
      (d.host.masters[m]).status.getLsbD 1 = false ∧ (d.host.masters[m]).status.getLsbD 4 = true ∧
      d.host = { s.dev.host with masters := d.host.masters, irqen := low 8 v } ∧ SameBut [.host] s.dev d)) ∧
    (s.dev.sys.mode ≠ .recovery → isOwner s.dev m = false → ∃ d, exec (.registerWrite m 0x1C v) s = .next { s with dev := d } ∧ (d.host.irqen = s.dev.host.irqen ∧
      (d.host.masters[m]).status.getLsbD 1 = true ∧ (d.host.masters[m]).status.getLsbD 4 = false ∧
      (d.host.masters[m]).refused = inc8 (s.dev.host.masters[m]).refused ∧ OnlyMaster m s.dev d ∧ SameBut [.host] s.dev d))) ∧
  (∀ (b : Fin 2) a ws k, alignedTx a ws.length = true → crc16 (spiHeader 0xA2 a ws.length ++ ws.flatMap fun w => toLe 4 w.toNat) = k →
    ∃ d, exec (.spiWrite b a ws (some k)) s = .next { s with dev := d } ∧ (SameBut [] (endTx (spiMaster b) (writeWords (spiMaster b) a ws (beginTx (spiMaster b) true (spiCounted b s.dev)))) d)) ∧
  (∀ (b : Fin 2) a ws k, crc16 (spiHeader 0xA2 a ws.length ++ ws.flatMap fun w => toLe 4 w.toNat) ≠ k →
    ∃ d, exec (.spiWrite b a ws (some k)) s = .next { s with dev := d } ∧ (d.host.spiCrc[b] = inc8 s.dev.host.spiCrc[b] ∧ d.host.spiCount[b] = wrapInc 16 s.dev.host.spiCount[b] ∧
      (d.host.masters[spiMaster b]).status.getLsbD 0 = false ∧ (d.host.masters[spiMaster b]).crcErr = inc8 (s.dev.host.masters[spiMaster b]).crcErr ∧
      d.host.irqen = s.dev.host.irqen ∧ d.host.rings = s.dev.host.rings ∧ SameBut [.host] s.dev d)) ∧
  (∀ (b : Fin 2) a ws, ∃ d, exec (.spiWrite b a ws none) s = .next { s with dev := d } ∧ (d.host.spiAbort[b] = inc8 s.dev.host.spiAbort[b] ∧ d.host.masters = s.dev.host.masters ∧
    d.host.irqen = s.dev.host.irqen ∧ d.host.rings = s.dev.host.rings ∧ SameBut [.host] s.dev d)) ∧
  (∀ (b : Fin 2), s.dev.sys.mode ≠ .recovery → ∃ d, exec (.spiRead b 0x1C 1 (some (crc16 (spiHeader 0xA3 0x1C 1))) 1) s = .next { s with dev := d } ∧ ((d.host.masters[spiMaster b]).reply = [s.dev.host.irqen] ∧ (d.host.masters[spiMaster b]).status.getLsbD 0 = true ∧
    (d.host.masters[spiMaster b]).status.getLsbD 2 = false ∧ d.host.irqen = s.dev.host.irqen ∧ SameBut [.host] s.dev d)) ∧
  (∀ (b : Fin 2) a n k r, crc16 (spiHeader 0xA3 a n) ≠ k → ∃ d, exec (.spiRead b a n (some k) r) s = .next { s with dev := d } ∧ ((d.host.masters[spiMaster b]).reply = List.replicate n 0 ∧ (d.host.masters[spiMaster b]).status.getLsbD 0 = false ∧
    d.host.spiCrc[b] = inc8 s.dev.host.spiCrc[b] ∧ SameBut [.host] s.dev d)) ∧
  (∀ (b : Fin 2) a n r, ∃ d, exec (.spiRead b a n none r) s = .next { s with dev := d } ∧ (d.host.spiAbort[b] = inc8 s.dev.host.spiAbort[b] ∧
    d.host.masters = s.dev.host.masters ∧ SameBut [.host] s.dev d)) ∧
  (∀ (b : Fin 2), ∃ d, exec (.spiStatus b) s = .next { s with dev := d } ∧ ((d.host.masters[spiMaster b]).sawReset = false ∧
    (d.host.masters[spiMaster b]).status.getLsbD 6 = (s.dev.host.masters[spiMaster b]).sawReset ∧ (d.host.masters[spiMaster b]).status.getLsbD 0 = true ∧
    d.host.spiCount[b] = wrapInc 16 s.dev.host.spiCount[b] ∧ d.host.irqen = s.dev.host.irqen ∧ SameBut [.host] s.dev d)) ∧
  (∀ b, ∃ d, exec (.spiUnknownCommand b) s = .next { s with dev := d } ∧ (SameBut [] s.dev d)) ∧
  (s.dev.sys.mode ≠ .recovery → ∃ d, exec (.uartRead 0x1C 1) s = .next { s with dev := d } ∧ ((d.host.masters[(4 : Fin 5)]).reply = [s.dev.host.irqen] ∧
    (d.host.masters[(4 : Fin 5)]).status.getLsbD 5 = false ∧ d.host.uartFrames = wrapInc 16 s.dev.host.uartFrames ∧ SameBut [.host] s.dev d)) ∧
  (∀ v, s.dev.sys.mode ≠ .recovery → isOwner s.dev 4 = true → ∃ d, exec (.uartWrite 0x1C [v]) s = .next { s with dev := d } ∧ (d.host.irqen = low 8 v ∧
    d.host.uartFrames = wrapInc 16 s.dev.host.uartFrames ∧ (d.host.masters[(4 : Fin 5)]).status.getLsbD 4 = true ∧ SameBut [.host] s.dev d)) ∧
  (∃ d, exec .uartStatus s = .next { s with dev := d } ∧ ((d.host.masters[(4 : Fin 5)]).sawReset = false ∧
    (d.host.masters[(4 : Fin 5)]).status.getLsbD 6 = (s.dev.host.masters[(4 : Fin 5)]).sawReset ∧ d.host.irqen = s.dev.host.irqen ∧ SameBut [.host] s.dev d)) ∧
  (∃ d, exec (.uartFrameDrop true) s = .next { s with dev := d } ∧ (d.host.uartCrc = inc8 s.dev.host.uartCrc ∧
    (d.host.masters[(4 : Fin 5)]).crcErr = inc8 (s.dev.host.masters[(4 : Fin 5)]).crcErr ∧ d.host.uartDrops = s.dev.host.uartDrops ∧ SameBut [.host] s.dev d)) ∧
  (∃ d, exec (.uartFrameDrop false) s = .next { s with dev := d } ∧ (d.host = { s.dev.host with uartDrops := inc8 s.dev.host.uartDrops } ∧ SameBut [.host] s.dev d))

/-- 13 R523 to R525, 09 R384, R385: transactions from the network and from the twin partner. A management request is read or applied and its reply kept; a
request with a bad CRC gets none; a repeat is answered by the kept reply, with nothing applied; a CONTROL frame accesses registers as MT, and a
SHADOW takes over the roll its ACTIVE forwards. The model keeps the replies of four endpoints (log entry 29, the model's choice).
Each of these commands answers a next state here: mgmtRead, mgmtWrite, mgmtStatus, mgmtRetry, mirrorControl. -/
def Obligations.RemoteTransactionsAndControlFrames : Prop := ∀ (s : State), served s.dev = true →
  (s.dev.net.running = true → s.dev.net.link = true → rxNow s.dev < 20000 →
    (∀ ep q a n, ∃ d, exec (.mgmtRead false ep q a n) s = .next { s with dev := d } ∧ (d.net.mgmtCrc = inc8 s.dev.net.mgmtCrc ∧ d.net.tx = s.dev.net.tx ∧
      OnlyMaster 2 s.dev d ∧ (d.host.masters[(2 : Fin 5)]).reply = (s.dev.host.masters[(2 : Fin 5)]).reply ∧
      SameBut [.host, .net] s.dev d)) ∧
    (∀ ep q, s.dev.sys.mode ≠ .recovery → (s.dev.host.kept.find? fun k => k.ep == ep && k.sqn == q && k.content == [1, 0x1C, 1]) = none →
      ∃ d, exec (.mgmtRead true ep q 0x1C 1) s = .next { s with dev := d } ∧ ((d.host.masters[(2 : Fin 5)]).reply = [s.dev.host.irqen] ∧
        (∃ k, d.host.kept.head? = some k ∧ k.ep = ep ∧ k.sqn = q ∧ k.words = [s.dev.host.irqen]) ∧ d.host.irqen = s.dev.host.irqen ∧
        SameBut [.host, .net] s.dev d)) ∧
    (∀ ep q v, s.dev.sys.mode ≠ .recovery → isOwner s.dev 2 = true → isShadow s.dev = false →
      (s.dev.host.kept.find? fun k => k.ep == ep && k.sqn == q && k.content == [2, 0x1C, v.toNat]) = none →
      ∃ d, exec (.mgmtWrite true ep q 0x1C [v]) s = .next { s with dev := d } ∧ (d.host.irqen = low 8 v ∧ d.net.tx = wrapInc 32 s.dev.net.tx ∧
        d.net.mgmt = wrapInc 16 s.dev.net.mgmt ∧ SameBut [.host, .net] s.dev d)) ∧
    (∀ ep q, (s.dev.host.kept.find? fun k => k.ep == ep && k.sqn == q && k.content == [3]) = none → ∃ d, exec (.mgmtStatus true ep q) s = .next { s with dev := d } ∧ ((d.host.masters[(2 : Fin 5)]).sawReset = false ∧
      (d.host.masters[(2 : Fin 5)]).status.getLsbD 6 = (s.dev.host.masters[(2 : Fin 5)]).sawReset ∧ SameBut [.host, .net] s.dev d)) ∧
    (∀ ep q k, (s.dev.host.kept.find? fun k => k.ep == ep && k.sqn == q) = some k → ∃ d, exec (.mgmtRetry ep q) s = .next { s with dev := d } ∧ ((d.host.masters[(2 : Fin 5)]).reply = k.words ∧ (d.host.masters[(2 : Fin 5)]).status = k.status ∧ d.host.irqen = s.dev.host.irqen ∧
      (isShadow s.dev = false → d.net.resent = inc8 s.dev.net.resent ∧ d.net.tx = wrapInc 32 s.dev.net.tx) ∧ SameBut [.host, .net] s.dev d))) ∧
  (s.dev.net.link = false → ∀ ep q a n, ∃ d, exec (.mgmtRead true ep q a n) s = .next { s with dev := d } ∧ (SameBut [] s.dev d)) ∧
  (s.dev.cfg.twin.en = true → s.dev.twin.link = .up →
    (s.dev.sys.mode ≠ .recovery → ∃ d, exec (.mirrorControl (.regRead 0x1C 1)) s = .next { s with dev := d } ∧ ((d.host.masters[(3 : Fin 5)]).reply = [s.dev.host.irqen] ∧
      d.host.irqen = s.dev.host.irqen ∧ SameBut [.host, .timers] s.dev d)) ∧
    (∀ v, s.dev.sys.mode ≠ .recovery → isOwner s.dev 3 = true → ∃ d, exec (.mirrorControl (.regWrite 0x1C [v])) s = .next { s with dev := d } ∧ (d.host.irqen = low 8 v ∧
      SameBut [.host, .timers] s.dev d)) ∧
    (∀ l, isShadow s.dev = true → ∃ d, exec (.mirrorControl (.roll l)) s = .next { s with dev := d } ∧ (d.ledger.roll = l ∧ d.ledger.rollDigest = rollDigestOf l ∧
      SameBut [.ledger, .timers] s.dev d)) ∧
    (∀ x, isShadow s.dev = true → ∃ d, exec (.mirrorControl (.retired x)) s = .next { s with dev := d } ∧ (d.sys.retired = x ∧
      (∀ n : Fin 64, x.getLsbD n.val = true → (d.phases[n]).state = .retired)))) ∧
  (s.dev.twin.link ≠ .up → ∀ x, ∃ d, exec (.mirrorControl x) s = .next { s with dev := d } ∧ (SameBut [] s.dev d))

/-- 13 R503, R504, R507 to R510, R512, 12 R498: the MAC follows the PHY's negotiation and announces itself at a rise; MDIO, ARP, ICMP and IGMP answer;
event messages of IEEE 1588 enter the stamp queue and the owner pops it. A SHADOW device sends nothing.
Each of these commands answers a next state here: mdioPoll, phyLinkRise, netMdioGo, netPtpPop, mdioComplete, arpRequest, arpAgeOut, icmpEchoRequest,
igmpQuery, ptpEventMessage. -/
def Obligations.MacAndStacksAnswer : Prop := ∀ (s : State),
  let n := s.dev.net
  let r := (rxCount s.dev).net
  let lost (c : Instr) : Prop := (n.running = false ∨ n.link = false → (∃ dn, exec c s = .next { s with dev := dn } ∧ SameBut [] s.dev dn)) ∧
    (n.running = true → n.link = true → 20000 ≤ rxNow s.dev → ∃ d, exec c s = .next { s with dev := d } ∧ ((freeValue s.dev).getLsbD 0 = true → d.net.rx = n.rx ∧
      d.net.rxDrop = sat 0xFFFF (n.rxDrop + 1) ∧ d.net.overflows = sat 0xFFFF (n.overflows + 1) ∧ d.net.event.getLsbD 6 = true ∧ SameBut [.net] s.dev d))
  let heard : Prop := n.running = true ∧ n.link = true ∧ rxNow s.dev < 20000
  let sends (o : NetOut) (d : Dev) : Prop := if isShadow s.dev = true then d.net.sent = n.sent ∧ d.net.tx = n.tx else
    o ∈ d.net.sent ∧ d.net.tx = wrapInc 32 n.tx
  (∀ (res : PhyResult), let phy (d : Dev) : Prop := d.net.link = (res.link && !res.half) ∧ d.net.half = (res.link && res.half) ∧ d.net.speed = res.speed.val ∧
      (d.net.link = true → n.link = false → d.net.event.getLsbD 0 = true) ∧ (d.net.link = false → n.link = true → d.net.event.getLsbD 1 = true) ∧
      (d.net.link = true → n.link = false → isShadow s.dev = false → n.groups.length ≤ 16 → NetOut.arpAnnounce ∈ d.net.sent ∧
        ∀ g ∈ n.groups, NetOut.igmpReport g ∈ d.net.sent) ∧
      d.net.tgs = n.tgs ∧ d.net.arp = n.arp ∧ d.net.rx = n.rx ∧ d.net.ptp = n.ptp ∧ SameBut [.net] s.dev d
    (n.running = false → (∃ dn, exec (.mdioPoll res) s = .next { s with dev := dn } ∧ SameBut [] s.dev dn) ∧ (∃ dn, exec (.phyLinkRise res) s = .next { s with dev := dn } ∧ SameBut [] s.dev dn)) ∧
    (n.running = true → (∃ dn, exec (.mdioPoll res) s = .next { s with dev := dn } ∧ phy dn) ∧ (∃ dn, exec (.phyLinkRise res) s = .next { s with dev := dn } ∧ phy dn))) ∧
  (∀ m v, (s.dev.cfg.net = none → (∃ dn, exec (.netMdioGo m v) s = .next { s with dev := dn } ∧ SameBut [] s.dev dn) ∧ (∃ dn, exec (.netPtpPop m) s = .next { s with dev := dn } ∧ SameBut [] s.dev dn)) ∧
    (s.dev.cfg.net ≠ none → isOwner s.dev m = false → ∀ c ∈ [Instr.netMdioGo m v, .netPtpPop m], ∃ d, exec c s = .next { s with dev := d } ∧ (OnlyMaster m s.dev d ∧ SameBut [.host] s.dev d)) ∧
    (s.dev.cfg.net ≠ none → isOwner s.dev m = true → (∃ d, exec (.netMdioGo m v) s = .next { s with dev := d } ∧ (d.net = { n with mdio := v &&& 0x0FFFFFFF } ∧ SameBut [.net] s.dev d)) ∧
      ∃ d, exec (.netPtpPop m) s = .next { s with dev := d } ∧ (d.net = { n with ptp := n.ptp.tail } ∧ SameBut [.net] s.dev d))) ∧
  (∀ data, (n.mdio.getLsbD 27 = true → ∃ d, exec (.mdioComplete data) s = .next { s with dev := d } ∧ (d.net.mdio.getLsbD 27 = false ∧
      (n.mdio.getLsbD 26 = false → d.net.mdio.setWidth 16 = data) ∧ (n.mdio.getLsbD 26 = true → d.net.mdio.setWidth 16 = n.mdio.setWidth 16) ∧
      d.net = { n with mdio := d.net.mdio } ∧ SameBut [.net] s.dev d)) ∧
    (n.mdio.getLsbD 27 = false → (∃ dn, exec (.mdioComplete data) s = .next { s with dev := dn } ∧ SameBut [] s.dev dn))) ∧
  (∀ ip mac target, lost (.arpRequest ip mac target) ∧ (heard → ∃ d, exec (.arpRequest ip mac target) s = .next { s with dev := d } ∧ (d.net.rx = wrapInc 32 n.rx ∧ SameBut [.net, .timers] s.dev d ∧
    (target = (netCfg s.dev).ip → sends (.arpReply ip mac) d ∧ (ip, mac) ∈ d.net.arp ∧ (s.dev.tmr.tb + ticksOfS 300, .arpAgeOut ip) ∈ d.timers ∧
      (∀ e ∈ d.net.arp, e.1 = ip → e.2 = mac) ∧ (n.arp.length ≤ 16 → d.net.arp.length ≤ 16)) ∧
    (target ≠ (netCfg s.dev).ip → d.net = r ∧ d.timers = s.dev.timers)))) ∧
  (∀ ip, ∃ d, exec (.arpAgeOut ip) s = .next { s with dev := d } ∧ (d.net = { n with arp := n.arp.filter fun e => e.1 != ip } ∧ SameBut [.net, .timers] s.dev d)) ∧
  (∀ src len, lost (.icmpEchoRequest src len) ∧ (heard → ∃ d, exec (.icmpEchoRequest src len) s = .next { s with dev := d } ∧ (d.net.rx = wrapInc 32 n.rx ∧ SameBut [.net] s.dev d ∧
    (576 < len → d.net = r) ∧ (len ≤ 576 → routable s.dev src = true → sends (.echoReply src len) d) ∧
    (len ≤ 576 → routable s.dev src = false → d.net = { r with rxDrop := sat 0xFFFF (n.rxDrop + 1) })))) ∧
  (∀ group, lost (.igmpQuery group) ∧ (heard → ∃ d, exec (.igmpQuery group) s = .next { s with dev := d } ∧ (d.net.rx = wrapInc 32 n.rx ∧ SameBut [.net] s.dev d ∧ d.net = { r with tx := d.net.tx, sent := d.net.sent } ∧
    (n.groups.length ≤ 16 → isShadow s.dev = false → ∀ g ∈ n.groups, (group = 0 ∨ g = group) → NetOut.igmpReport g ∈ d.net.sent)))) ∧
  (∀ (tx : Bool) kind sqid stamp, ((n.running = false ∨ n.link = false ∨ tx = true ∧ isShadow s.dev = true) → (∃ dn, exec (.ptpEventMessage tx kind sqid stamp) s = .next { s with dev := dn } ∧ SameBut [] s.dev dn)) ∧
    (n.running = true → n.link = true → (tx = false ∧ rxNow s.dev < 20000 ∨ tx = true ∧ isShadow s.dev = false) → ∃ d, exec (.ptpEventMessage tx kind sqid stamp) s = .next { s with dev := d } ∧ (d.net.tx = (if tx = true then wrapInc 32 n.tx else n.tx) ∧ d.net.rx = (if tx = true then n.rx else wrapInc 32 n.rx) ∧
      d.net.ptp = (if n.ptp.length < 16 then n.ptp ++ [⟨tx, kind, sqid, stamp⟩] else n.ptp) ∧
      d.net.event.getLsbD (if n.ptp.length < 16 then 4 else 5) = true ∧ SameBut [.net] s.dev d)))

/-- 13 R513 to R516, R521, R522: process data of a subscription is counted, kept and clears TIMEOUT, or is discarded; a new order number issues one dated
order; a publish record is sent at its instants under the next number; message data is answered.
Each of these commands answers a next state here: trdpPdReceive, mdNotification, mdRequest, trdpPublish, trdpTimeout. -/
def Obligations.TrdpPublishesAndSubscribes : Prop := ∀ (s : State),
  let n := s.dev.net
  let newOrder (x : TrdpIn) : Prop := isShadow s.dev = false ∧ s.dev.ledger.orderHeld < x.orderNo ∧ n.lastOrder < x.orderNo
  let ordered (ds : Nat) (x : TrdpIn) : Order := ⟨x.orderNo, ds - 3, 0, 1, x.tOrder,
    if ds = 4 then x.budget else leNat ((x.caps.take 4).flatMap fun c => toLe 2 c), 0, []⟩
  (∀ x, ((n.running = false ∨ n.link = false) → ∀ c ∈ [Instr.trdpPdReceive x, .mdNotification x], (∃ dn, exec c s = .next { s with dev := dn } ∧ SameBut [] s.dev dn)) ∧
    (n.running = true → n.link = true → rxNow s.dev < 20000 → (newOrder x → 0 < dealTicks s.dev) →
      (∃ d, exec (.trdpPdReceive x) s = .next { s with dev := d } ∧ (d.net.rx = wrapInc 32 n.rx ∧ d.net.sent = n.sent ∧ d.net.arp = n.arp ∧ d.net.ptp = n.ptp ∧
        d.feeds = s.dev.feeds ∧ d.sources = s.dev.sources ∧ d.tmr = s.dev.tmr ∧ d.cfg = s.dev.cfg ∧
        (∀ i : Fin 16, (x.msgPd = true ∧ ∃ c, trdpCfg s.dev i.val = some c ∧ c.subscribe = true ∧ c.comId = x.comId ∧ x.fcsOk = true ∧ x.length = datasetLen c.dataset) →
          d.net.tgs[i] = { n.tgs[i] with timeout := false, count := wrapInc 8 (n.tgs[i]).count, lastTb := s.dev.tmr.tb, seqNo := x.seqNo, stored := some x } ∧
          (newOrder x → d.net.lastOrder = x.orderNo ∧ d.net.event.getLsbD 3 = true)) ∧
        (∀ i : Fin 16, (x.msgPd = true ∧ ∃ c, trdpCfg s.dev i.val = some c ∧ c.subscribe = true ∧ c.comId = x.comId ∧ (x.fcsOk = false ∨ x.length ≠ datasetLen c.dataset)) →
          d.net.tgs[i] = { n.tgs[i] with discard := inc8 (n.tgs[i]).discard }) ∧
        (∀ i : Fin 16, (x.msgPd = false ∨ ∀ c, trdpCfg s.dev i.val = some c → c.subscribe = false ∨ c.comId ≠ x.comId) → d.net.tgs[i] = n.tgs[i]) ∧
        (¬ newOrder x → d.net.lastOrder = n.lastOrder ∧ SameBut [.net, .timers] s.dev d))) ∧
      (∀ i c, x.fcsOk = true → ((subsOf s.dev x.comId).find? fun s => (s.2.dataset == 4 || s.2.dataset == 5) && x.length == datasetLen s.2.dataset) = some (i, c) →
        newOrder x → ∃ d, exec (.mdNotification x) s = .next { s with dev := d } ∧ (d.net.rx = wrapInc 32 n.rx ∧ d.net.lastOrder = x.orderNo ∧ d.net.event.getLsbD 3 = true ∧
          d.ledger = (issueOrder (ordered c.dataset x) (onNet (fun k => { k with lastOrder := x.orderNo }) (rxCount s.dev))).ledger ∧ d.net.tgs = n.tgs ∧
          d.feeds = s.dev.feeds ∧ d.sources = s.dev.sources ∧ d.cfg = s.dev.cfg)) ∧
      ((x.fcsOk = false ∨ ¬ newOrder x ∨ ((subsOf s.dev x.comId).find? fun s => (s.2.dataset == 4 || s.2.dataset == 5) && x.length == datasetLen s.2.dataset) = none) →
        ∃ d, exec (.mdNotification x) s = .next { s with dev := d } ∧ (d.net = (rxCount s.dev).net ∧ SameBut [.net] s.dev d)))) ∧
  (∀ comId, ((n.running = false ∨ n.link = false) → (∃ dn, exec (.mdRequest comId) s = .next { s with dev := dn } ∧ SameBut [] s.dev dn)) ∧
    (n.running = true → n.link = true → rxNow s.dev < 20000 → isShadow s.dev = false → ∃ d, exec (.mdRequest comId) s = .next { s with dev := d } ∧ (SameBut [.net] s.dev d ∧ d.net.tgs = n.tgs ∧
      (∀ c, ((netCfg s.dev).trdp.find? fun c => !c.subscribe && c.comId == comId) = some c → ∃ b, NetOut.mdReply comId b ∈ d.net.sent ∧
        b = datasetNow (rxCount s.dev) c.dataset) ∧
      ((∀ c ∈ (netCfg s.dev).trdp, c.subscribe = true ∨ c.comId ≠ comId) → NetOut.mdError comId ∈ d.net.sent)))) ∧
  (∀ i c, trdpCfg s.dev i.val = some c → c.subscribe = false → ∃ d, exec (.trdpPublish i) s = .next { s with dev := d } ∧ (SameBut [.net, .timers] s.dev d ∧
      (publishAt s.dev i.val c.cycle, .trdpPublish i) ∈ d.timers ∧
      ((isShadow s.dev = true ∨ n.link = false ∨ n.running = false) → d.net = n) ∧
      (isShadow s.dev = false → n.link = true → n.running = true → routable s.dev c.dest = false → d.net = { n with rxDrop := sat 0xFFFF (n.rxDrop + 1) }) ∧
      (isShadow s.dev = false → n.link = true → n.running = true → routable s.dev c.dest = true →
        NetOut.trdp i (wrapInc 32 (n.tgs[i]).seqNo) s.dev.tmr.tb (datasetNow s.dev c.dataset) ∈ d.net.sent ∧ d.net.tx = wrapInc 32 n.tx ∧
        d.net.tgs = upd n.tgs i fun t => { t with seqNo := wrapInc 32 t.seqNo, count := wrapInc 8 t.count, lastTb := s.dev.tmr.tb }))) ∧
  (∀ i c, trdpCfg s.dev i.val = some c → c.subscribe = true → ∃ d, exec (.trdpTimeout i) s = .next { s with dev := d } ∧ (d.net.tgs = upd n.tgs i (fun t => { t with timeout := true }) ∧ d.net.event.getLsbD 2 = true ∧ SameBut [.net, .timers] s.dev d)) ∧
  (∀ d : Dev, (datasetNow d 1).length = 56 ∧ (datasetNow d 2).length = 256 ∧ (datasetNow d 3).length = 32)

/-- 14 R529, R536 to R541, R550, 12 R480, R486: a session opens on a free slot and takes every parcel once, under the CRC of the parcel buffer; a package is verified whole,
and the first failing check of R541 names the refusal; a session is aborted, a trial confirmed, a floor raised.
Each of these commands answers a next state here: updateOpen, slotEraseDone, parcelWrite, parcelProgrammed, updateVerify, packageVerifyDone,
updateAbort, updateConfirm, updateFloor. -/
def Obligations.FirmwareIsWrittenAndVerified : Prop := ∀ (s : State),
  let u := s.dev.upd
  let ends (c : CmdRef) (op : Nat) (k : Code) (r : List Byte) (P : Dev → Prop) (d : Dev) : Prop := ∃ b, SameBut [] (complete c op k r b) d ∧ P b
  let same (b : Dev) : Prop := SameBut [] s.dev b
  let quiet (l : List Part) (b : Dev) : Prop := SameBut (l ++ [.jrn, .ringMem, .timers, .host]) s.dev b
  let others (t : Fin 4) (b : Dev) : Prop := ∀ x : Fin 4, x ≠ t → b.upd.slots[x] = u.slots[x]
  (∀ c comp count, (checkCode480 s.dev c opUpdateOpen (countOk comp count) none = none →
      ((u.session.isSome = true ∨ u.trial.isSome = true ∨ u.quietWait.isSome = true ∨ u.paused.isSome = true ∨ openTarget s.dev comp = none) →
        (∃ dn, exec (.updateOpen c comp count) s = .next { s with dev := dn } ∧ ends c opUpdateOpen .state [] same dn)) ∧
      (∀ t, u.session = none → u.trial = none → u.quietWait = none → u.paused = none → openTarget s.dev comp = some t →
        ∃ d, exec (.updateOpen c comp count) s = .next { s with dev := d } ∧ (d.upd.session = some (comp, t, count) ∧ d.upd.slots[t] = { state := .erasing } ∧ others t d ∧
          d.upd.event.getLsbD 0 = true ∧ { ref := c, opcode := opUpdateOpen, arg := comp.val, arg2 := count } ∈ d.host.jobs ∧ quiet [.upd] d))) ∧
    (∀ k, checkCode480 s.dev c opUpdateOpen (countOk comp count) none = some k → (∃ dn, exec (.updateOpen c comp count) s = .next { s with dev := dn } ∧ ends c opUpdateOpen k [] same dn))) ∧
  (∀ comp t count j, u.session = some (comp, t, count) → (u.slots[t]).state = .erasing → inRecovery s.dev = false → jobOf s.dev opUpdateOpen = some j →
    (∃ dn, exec (.slotEraseDone true) s = .next { s with dev := dn } ∧ (ends j.ref opUpdateOpen .done (toLe 1 t.val ++ toLe 1 comp.val ++ toLe 2 count) fun b =>
      b.upd.slots[t] = { u.slots[t] with state := .writing } ∧ others t b ∧ b.upd.session = u.session ∧ quiet [.upd] b) dn)) ∧
  (∀ c ofs crc, checkCode480 s.dev c opParcelWrite (decide (ofs % 4096 = 0)) none = none →
    (u.session = none → (∃ dn, exec (.parcelWrite c ofs crc) s = .next { s with dev := dn } ∧ ends c opParcelWrite .state [] same dn)) ∧
    (∀ comp t count, u.session = some (comp, t, count) →
      let sum := crc32c (parcelBytes s.dev)
      let old := (u.slots[t]).parcels.find? fun x => x.1 == ofs
      ((u.slots[t]).state ≠ .writing → (∃ dn, exec (.parcelWrite c ofs crc) s = .next { s with dev := dn } ∧ ends c opParcelWrite .state [] same dn)) ∧
      ((u.slots[t]).state = .writing →
        (count * 4096 ≤ ofs → (∃ dn, exec (.parcelWrite c ofs crc) s = .next { s with dev := dn } ∧ ends c opParcelWrite .badParam [] same dn)) ∧
        (ofs < count * 4096 → sum ≠ crc → (∃ dn, exec (.parcelWrite c ofs crc) s = .next { s with dev := dn } ∧ ends c opParcelWrite .refused (toLe 4 sum) same dn)) ∧
        (ofs < count * 4096 → sum = crc → ∀ x, old = some x → crc32c x.2 = sum → (∃ dn, exec (.parcelWrite c ofs crc) s = .next { s with dev := dn } ∧ ends c opParcelWrite .done [] same dn)) ∧
        (ofs < count * 4096 → sum = crc → ∀ x, old = some x → crc32c x.2 ≠ sum → (∃ dn, exec (.parcelWrite c ofs crc) s = .next { s with dev := dn } ∧ ends c opParcelWrite .refused (toLe 4 sum) same dn)) ∧
        (ofs < count * 4096 → sum = crc → old = none → ∃ d, exec (.parcelWrite c ofs crc) s = .next { s with dev := d } ∧ (d.upd = { u with programming := some (ofs, parcelBytes s.dev), parcelLock := true } ∧ { ref := c, opcode := opParcelWrite, arg := ofs } ∈ d.host.jobs ∧
          SameBut [.upd, .host] s.dev d))))) ∧
  (∀ ofs b comp t count j, u.programming = some (ofs, b) → u.session = some (comp, t, count) → inRecovery s.dev = false → jobOf s.dev opParcelWrite = some j →
    (∃ dn, exec (.parcelProgrammed true) s = .next { s with dev := dn } ∧ (ends j.ref opParcelWrite .done [] fun d => (ofs, b) ∈ (d.upd.slots[t]).parcels ∧ d.upd.parcelLock = false ∧
      d.upd.programming = none ∧ others t d ∧ SameBut [.upd] s.dev d) dn)) ∧
  (∀ c, checkCode480 s.dev c opUpdateVerify true none = none →
    (u.session = none → (∃ dn, exec (.updateVerify c) s = .next { s with dev := dn } ∧ ends c opUpdateVerify .state [] same dn)) ∧
    (u.session ≠ none → ∃ d, exec (.updateVerify c) s = .next { s with dev := d } ∧ ({ ref := c, opcode := opUpdateVerify } ∈ d.host.jobs ∧ SameBut [.host] s.dev d))) ∧
  (∀ comp t count j, u.session = some (comp, t, count) → inRecovery s.dev = false → jobOf s.dev opUpdateVerify = some j →
    let code := verifyCode s.dev comp t count false
    let result := toLe 1 code ++ toLe 1 0 ++ toLe 2 code ++ toLe 4 (fieldAt (packageBytes (u.slots[t]) count) 16 4)
    (code = 0 → (∃ dn, exec .packageVerifyDone s = .next { s with dev := dn } ∧ (ends j.ref opUpdateVerify .done result fun d => d.upd.session = none ∧ d.upd.event.getLsbD 1 = true ∧
      d.upd.slots[t] = { fwOfHeader (u.slots[t]) (packageBytes (u.slots[t]) count) with state := .verified } ∧ others t d ∧ d.upd.lastCode = 0 ∧ quiet [.upd] d) dn)) ∧
    (code ≠ 0 → (code = 0x0405 → fwKeyBroken s.dev (byteAt (packageBytes (u.slots[t]) count) 10) = false) →
      (∃ dn, exec .packageVerifyDone s = .next { s with dev := dn } ∧ (ends j.ref opUpdateVerify .refused result fun d => d.upd.session = none ∧ d.upd.event.getLsbD 2 = true ∧
      d.upd.slots[t] = { u.slots[t] with state := .invalid } ∧ others t d ∧ d.upd.lastCode = code ∧ d.upd.failures = inc8 u.failures ∧ quiet [.upd] d) dn))) ∧
  (∀ comp t count r, verifyCode s.dev comp t count r = 0 →
    let b := packageBytes (u.slots[t]) count
    parcelsWhole (u.slots[t]) count = true ∧ fieldAt b 0 4 = fwMagic comp ∧ fieldAt b 6 2 = 0x3264 ∧ fieldAt b 12 4 = count * 4096 ∧ fwKeyOk s.dev (byteAt b 10) = true ∧
    fwSigned s.dev b (byteAt b 10) = true ∧ ((byteAt b 11).testBit 0 = true → bytesAt b 24 9 = idBytes (unitId s.dev)) ∧ u.floors[comp] ≤ byteAt b 20 ∧
    fwDigestsOk b comp = true ∧ (r = false → interfaceOk s.dev b comp = true)) ∧
  (∀ c, checkCode480 s.dev c opUpdateAbort true none = none → u.trial = none →
    (u.session = none → (∃ dn, exec (.updateAbort c) s = .next { s with dev := dn } ∧ ends c opUpdateAbort .state [] same dn)) ∧
    (∀ comp t count, u.session = some (comp, t, count) → (∃ dn, exec (.updateAbort c) s = .next { s with dev := dn } ∧ (ends c opUpdateAbort .done [] fun d => d.upd.session = none ∧
      d.upd.slots[t] = {} ∧ others t d ∧ d.upd.programming = none ∧ d.upd.parcelLock = false ∧ d.upd.event.getLsbD 7 = true ∧ quiet [.upd] d) dn))) ∧
  (∀ c, checkCode480 s.dev c opUpdateConfirm true none = none →
    (u.trial = none → (∃ dn, exec (.updateConfirm c) s = .next { s with dev := dn } ∧ ends c opUpdateConfirm .state [] same dn)) ∧
    (∀ comp, u.trial = some comp → (confirmWhy s.dev comp ≠ 0 ∨ u.healthEnd ≤ s.dev.tmr.tb) →
      (∃ dn, exec (.updateConfirm c) s = .next { s with dev := dn } ∧ ends c opUpdateConfirm .state (toLe 1 (confirmWhy s.dev comp)) same dn)) ∧
    (∀ comp, u.trial = some comp → confirmWhy s.dev comp = 0 → u.trialBad = 0 → u.quietWait = none → u.paused = none → s.dev.tmr.tb < u.healthEnd →
      (u.slots[u.trialSlot]).state = .trial →
      (∃ dn, exec (.updateConfirm c) s = .next { s with dev := dn } ∧ (ends c opUpdateConfirm .done [] fun d => d.upd.trial = none ∧ (d.upd.slots[u.trialSlot]).state = .active ∧
        (∀ x, slotIn s.dev comp .active = some x → (d.upd.slots[x]).state = .previous) ∧ d.upd.confirms = inc8 u.confirms ∧ d.upd.event.getLsbD 4 = true ∧
        (comp = 0 → (u.slots[u.trialSlot]).revokeOther = true → ∀ k : Fin 2, k.val = 1 - (u.slots[u.trialSlot]).keyId → d.upd.keyRevoked.getLsbD k.val = true) ∧
        quiet [.upd] d) dn))) ∧
  (∀ c comp, checkCode480 s.dev c opUpdateFloor true none = none → ∀ t, slotIn s.dev comp .active = some t →
    let sec := (u.slots[t]).security
    ((u.trial = some comp ∨ sec ≤ u.floors[comp] ∨ 64 ≤ u.floors[comp]) → (∃ dn, exec (.updateFloor c comp) s = .next { s with dev := dn } ∧ ends c opUpdateFloor .state [] same dn)) ∧
    (u.trial ≠ some comp → u.floors[comp] < sec → u.floors[comp] < 64 → (∃ dn, exec (.updateFloor c comp) s = .next { s with dev := dn } ∧ (ends c opUpdateFloor .done [] fun d =>
      d.upd.floors[comp] = sec ∧ (∀ k, k ≠ comp → d.upd.floors[k] = u.floors[k]) ∧ d.upd.event.getLsbD 6 = true ∧
      (∀ p, slotIn s.dev comp .previous = some p → (u.slots[p]).security < sec → (d.upd.slots[p]).state = .invalid) ∧ quiet [.upd] d) dn)))

/-- 14 R543 to R547, R549, R551, R552, 12 R480, R486: an activation waits for a quiet moment, pauses its part and starts the trial; at its end the part runs the new
slot, or a failed platform set is rejected; the end of the health timer and an abort fall the trial back to PREVIOUS. The clause of the health timer takes a HEALTH_TIMEOUT whose action is NONE.
Each of these commands answers a next state here: updateActivate, updateQuietMoment, quietWaitTimeout, activationDone, healthTimerExpiry, updateAbort. -/
def Obligations.ActivationTrialAndFallback : Prop := ∀ (s : State),
  let u := s.dev.upd
  let ends (c : CmdRef) (op : Nat) (k : Code) (r : List Byte) (P : Dev → Prop) (d : Dev) : Prop := ∃ b, SameBut [] (complete c op k r b) d ∧ P b
  let same (b : Dev) : Prop := SameBut [] s.dev b
  let quiet (l : List Part) (b : Dev) : Prop := SameBut (l ++ [.jrn, .ringMem, .timers, .host]) s.dev b
  let waits (a : Activation) (d : Dev) : Prop := d.upd.quietWait = some a ∧ (s.dev.tmr.tb + ticksOfS 2, .quietWaitTimeout) ∈ d.timers
  let portless : Prop := s.dev.sys.mode = .minimal ∧ s.dev.coll.minCause = 3 ∧ slotIn s.dev 1 .active = none
  let trialOf (comp : Fin 2) (t : Fin 4) (d : Dev) : Prop := d.upd.trial = some comp ∧ d.upd.trialSlot = t ∧ d.upd.trialBad = 0 ∧
    d.upd.healthEnd = s.dev.tmr.tb + ticksOfS s.dev.cfg.device.healthS ∧ (s.dev.tmr.tb + ticksOfS s.dev.cfg.device.healthS, .healthTimerExpiry) ∈ d.timers
  (∀ c which, checkCode480 s.dev c opUpdateActivate true none = none →
    ((u.quietWait ≠ none ∨ u.paused ≠ none) → (∃ dn, exec (.updateActivate c which) s = .next { s with dev := dn } ∧ ends c opUpdateActivate .state [] same dn)) ∧
    (u.quietWait = none → u.paused = none →
      (portless → (∀ t, slotIn s.dev (if which = 0 then 0 else 1) .verified = some t → ∃ d, exec (.updateActivate c which) s = .next { s with dev := d } ∧ ((d.upd.slots[t]).state = .active ∧ d.upd.activations = inc8 u.activations ∧ d.upd.event.getLsbD 3 = true ∧
          (s.dev.tmr.tb + ticksOfMs 10, .bootTimeout) ∈ d.timers ∧ quiet [.upd, .sys] d)) ∧
        (slotIn s.dev (if which = 0 then 0 else 1) .verified = none → (∃ dn, exec (.updateActivate c which) s = .next { s with dev := dn } ∧ ends c opUpdateActivate .state [] same dn))) ∧
      (¬ portless → which = 0 →
        (slotIn s.dev 0 .verified = none ∨ coreRuns s.dev 2 = true ∧ coreRuns s.dev 3 = true ∨ u.trial ≠ none →
          (∃ dn, exec (.updateActivate c which) s = .next { s with dev := dn } ∧ ends c opUpdateActivate .state [] same dn)) ∧
        (∀ t, slotIn s.dev 0 .verified = some t → (coreRuns s.dev 2 = false ∨ coreRuns s.dev 3 = false) → u.trial = none → ∃ d, exec (.updateActivate c which) s = .next { s with dev := d } ∧ (waits (.platform t) d ∧ { ref := c, opcode := opUpdateActivate } ∈ d.host.jobs ∧ d.upd = { u with quietWait := some (.platform t) } ∧
          SameBut [.upd, .host, .timers] s.dev d))) ∧
      (¬ portless → ∀ k : Fin 4, which.val = k.val + 1 →
        let next := (slotIn s.dev 1 .trial).or (slotIn s.dev 1 .verified)
        let attached := (diePorts k).any fun p => isAttached (s.dev.ports[p])
        ((next = none ∨ (∃ t, next = some t ∧ (coreSlot s.dev k = t ∨ attached = true ∧ (u.slots[t]).stateFormat ≠ (u.slots[coreSlot s.dev k]).stateFormat ∨ u.trial = some 0))) →
          (∃ dn, exec (.updateActivate c which) s = .next { s with dev := dn } ∧ ends c opUpdateActivate .state [] same dn)) ∧
        (∀ t, next = some t → coreSlot s.dev k ≠ t → (attached = false ∨ (u.slots[t]).stateFormat = (u.slots[coreSlot s.dev k]).stateFormat) → u.trial ≠ some 0 →
          ∃ d, exec (.updateActivate c which) s = .next { s with dev := d } ∧ (waits (.core k t) d ∧ { ref := c, opcode := opUpdateActivate, arg := k.val + 1 } ∈ d.host.jobs ∧
            d.upd = { u with quietWait := some (.core k t) } ∧ SameBut [.upd, .host, .timers] s.dev d))))) ∧
  (u.quietWait = none → (∃ dn, exec .updateQuietMoment s = .next { s with dev := dn } ∧ same dn) ∧ (∃ dn, exec .quietWaitTimeout s = .next { s with dev := dn } ∧ same dn)) ∧
  (∀ a, u.quietWait = some a → quietFor s.dev a = false → (∃ dn, exec .updateQuietMoment s = .next { s with dev := dn } ∧ same dn)) ∧
  (∀ k t, u.quietWait = some (.core k t) → quietFor s.dev (.core k t) = true → ∃ d, exec .updateQuietMoment s = .next { s with dev := d } ∧ (d.upd.quietWait = none ∧ d.upd.paused = some (.core k t) ∧ d.upd.coreRun.getLsbD k.val = false ∧ d.upd.svRun = u.svRun ∧
    ((u.slots[t]).state = .verified → (d.upd.slots[t]).state = .trial) ∧ (u.trial = none → trialOf 1 t d) ∧ (u.trial ≠ none → d.upd.trial = u.trial) ∧ quiet [.upd] d)) ∧
  (∀ t, u.quietWait = some (.platform t) → quietFor s.dev (.platform t) = true → ∃ d, exec .updateQuietMoment s = .next { s with dev := d } ∧ (d.upd.quietWait = none ∧ d.upd.paused = some (.platform t) ∧ d.upd.svRun = false ∧ d.upd.coreRun = u.coreRun ∧ (u.trial = none → trialOf 0 t d) ∧ quiet [.upd] d)) ∧
  (∀ a j, (∀ comp, a ≠ .fallback comp) → u.quietWait = some a → jobOf s.dev opUpdateActivate = some j →
    (∃ dn, exec .quietWaitTimeout s = .next { s with dev := dn } ∧ (ends j.ref opUpdateActivate .timeout [] fun d => d.upd = { u with quietWait := none } ∧ SameBut [.upd] s.dev d) dn)) ∧
  (u.quietWait = some (.fallback 0) → ∃ d, exec .quietWaitTimeout s = .next { s with dev := d } ∧ (d.upd.paused = some (.fallback 0) ∧ d.upd.quietWait = none ∧ d.upd.svRun = false ∧ quiet [.upd] d)) ∧
  (∀ k t j, u.paused = some (.core k t) → u.trialBad = 0 → jobOf s.dev opUpdateActivate = some j →
    (∃ dn, exec (.activationDone true) s = .next { s with dev := dn } ∧ (ends j.ref opUpdateActivate .done [] fun d => d.upd.paused = none ∧ d.upd.coreSlots[k] = decide (t = 3) ∧
      d.upd.coreRun.getLsbD k.val = true ∧ d.upd.activations = inc8 u.activations ∧ d.upd.event.getLsbD 3 = true ∧ d.upd.slots = u.slots ∧ quiet [.upd] d) dn)) ∧
  (∀ t j, u.paused = some (.platform t) → u.trialBad = 0 → jobOf s.dev opUpdateActivate = some j → slotIn s.dev 0 .active ≠ some t →
    (∃ dn, exec (.activationDone true) s = .next { s with dev := dn } ∧ (ends j.ref opUpdateActivate .done [] fun d => d.upd.paused = none ∧ d.upd.svRun = true ∧ (d.upd.slots[t]).state = .trial ∧
      (∀ x, slotIn s.dev 0 .active = some x → (d.upd.slots[x]).state = .previous) ∧ d.store.schemaMajor = (u.slots[t]).schemaMajor ∧
      d.store.schemaMinor = (u.slots[t]).schemaMinor ∧ d.upd.event.getLsbD 3 = true ∧ quiet [.upd, .store] d) dn)) ∧
  (∀ t j, u.paused = some (.platform t) → jobOf s.dev opUpdateActivate = some j → ∃ d, exec (.activationDone false) s = .next { s with dev := d } ∧ (∃ step die, step ∈ [1, 2] ∧
    ends j.ref opUpdateActivate .refused (toLe 1 step ++ toLe 1 die) (fun d => (d.upd.slots[t]).state = .rejected ∧ d.upd.trial = none ∧ d.upd.paused = none ∧
      d.upd.svRun = true ∧ d.store = s.dev.store ∧ quiet [.upd] d) d)) ∧
  (u.paused = some (.fallback 0) → (u.slots[u.trialSlot]).state = .trial → slotIn s.dev 0 .active = none → ∃ d, exec (.activationDone true) s = .next { s with dev := d } ∧ ((d.upd.slots[u.trialSlot]).state = .rejected ∧ (∀ x, slotIn s.dev 0 .previous = some x → (d.upd.slots[x]).state = .active) ∧ d.upd.trial = none ∧ d.upd.paused = none ∧
    d.upd.fallbacks = inc8 u.fallbacks ∧ d.upd.event.getLsbD 5 = true ∧ d.upd.svRun = true ∧ quiet [.upd, .store] d)) ∧
  (∀ comp, u.trial = some comp → u.healthEnd ≤ s.dev.tmr.tb → u.trialBad = 0 → u.quietWait = none → u.paused = none → Quiet s.dev srcHealth →
    ∃ d, exec .healthTimerExpiry s = .next { s with dev := d } ∧ (d.upd.trialBad = 1 ∧ waits (.fallback comp) d ∧ (d.sources[srcHealth]).latch = true ∧ d.upd.slots = u.slots ∧ PowerStill { s.dev with upd := d.upd } d)) ∧
  ((u.trial = none ∨ s.dev.tmr.tb < u.healthEnd) → (∃ dn, exec .healthTimerExpiry s = .next { s with dev := dn } ∧ same dn)) ∧
  (∀ c comp, checkCode480 s.dev c opUpdateAbort true none = none → u.trial = some comp → u.trialBad = 0 → u.quietWait = none → u.paused = none →
    ∃ d, exec (.updateAbort c) s = .next { s with dev := d } ∧ (d.upd.trialBad = 4 ∧ waits (.fallback comp) d ∧ { ref := c, opcode := opUpdateAbort } ∈ d.host.jobs ∧ d.upd.slots = u.slots ∧
      SameBut [.upd, .host, .timers] s.dev d))

/-- 14 R553, R554, 12 R459: in RECOVERY the first of MA and MS to open binds the recovery registers to itself; the bound master alone opens, writes, verifies,
installs and closes; outside RECOVERY nothing takes effect.
Each of these commands answers a next state here: recOpen, recParcel, recVerify, recInstall, recClose, packageVerifyDone. -/
def Obligations.RecoveryLoadsAPlatformSet : Prop := ∀ (s : State) (m : Fin 5),
  let u := s.dev.upd
  let rec' (cmd : Nat) (result : Nat) (d : Dev) : Prop := d.upd.recCmd = cmd ∧ d.upd.recBusy = false ∧ d.upd.recResult = result % 256 ∧ SameBut [.upd] s.dev d
  let busy (cmd : Nat) (d : Dev) : Prop := d.upd.recCmd = cmd ∧ d.upd.recBusy = true ∧ d.upd.recResult = 0
  let quiet (l : List Part) (b : Dev) : Prop := SameBut (l ++ [.jrn, .ringMem, .timers, .host]) s.dev b
  let mine : Prop := u.recBound = some m ∧ u.recBusy = false
  (inRecovery s.dev = false → ∀ c ∈ [Instr.recOpen m, .recParcel m, .recVerify m, .recInstall m, .recClose m], (∃ dn, exec c s = .next { s with dev := dn } ∧ SameBut [] s.dev dn)) ∧
  (inRecovery s.dev = true →
    (u.recBound ≠ some m → ∀ c ∈ [Instr.recParcel m, .recVerify m, .recInstall m, .recClose m], ∃ d, exec c s = .next { s with dev := d } ∧ (OnlyMaster m s.dev d ∧ SameBut [.host] s.dev d)) ∧
    (u.recBound ≠ some m → (u.recBound ≠ none ∨ m ≠ 0 ∧ m ≠ 4) → ∃ d, exec (.recOpen m) s = .next { s with dev := d } ∧ (OnlyMaster m s.dev d ∧ SameBut [.host] s.dev d)) ∧
    (u.recBound = some m → u.recBusy = true → ∀ c ∈ [Instr.recOpen m, .recParcel m, .recVerify m, .recInstall m, .recClose m], (∃ dn, exec c s = .next { s with dev := dn } ∧ SameBut [] s.dev dn)) ∧
    ((mine ∨ u.recBound = none ∧ (m = 0 ∨ m = 4)) →
      (u.session ≠ none → ∃ d, exec (.recOpen m) s = .next { s with dev := d } ∧ (rec' 1 Code.state.toNat d ∧ d.upd.recBound = some m ∧ d.upd.slots = u.slots)) ∧
      (u.session = none → (u.recArg.toNat < 2 ∨ 1024 < u.recArg.toNat) → ∃ d, exec (.recOpen m) s = .next { s with dev := d } ∧ (rec' 1 Code.badParam.toNat d ∧ d.upd.recBound = some m ∧ d.upd.slots = u.slots)) ∧
      (∀ t : Fin 4, t = (if (u.slots[(0 : Fin 4)]).state = .active then 1 else 0) → u.session = none → 2 ≤ u.recArg.toNat → u.recArg.toNat ≤ 1024 →
        ∃ d, exec (.recOpen m) s = .next { s with dev := d } ∧ (busy 1 d ∧ d.upd.recBound = some m ∧ d.upd.session = some (0, t, u.recArg.toNat) ∧
          d.upd.slots[t] = { state := .erasing } ∧ (∀ x : Fin 4, x ≠ t → d.upd.slots[x] = u.slots[x]) ∧ quiet [.upd] d))) ∧
    (mine →
      (let ofs := u.recArg.toNat
       (ofs % 4096 ≠ 0 → (∃ dn, exec (.recParcel m) s = .next { s with dev := dn } ∧ rec' 2 Code.badParam.toNat dn)) ∧
       (ofs % 4096 = 0 → (parcelFate s.dev ofs u.recCrc.toNat = .state → (∃ dn, exec (.recParcel m) s = .next { s with dev := dn } ∧ rec' 2 Code.state.toNat dn)) ∧
         (parcelFate s.dev ofs u.recCrc.toNat = .badParam → (∃ dn, exec (.recParcel m) s = .next { s with dev := dn } ∧ rec' 2 Code.badParam.toNat dn)) ∧
         (∀ x, parcelFate s.dev ofs u.recCrc.toNat = .refused x → (∃ dn, exec (.recParcel m) s = .next { s with dev := dn } ∧ rec' 2 Code.refused.toNat dn)) ∧
         (parcelFate s.dev ofs u.recCrc.toNat = .already → (∃ dn, exec (.recParcel m) s = .next { s with dev := dn } ∧ rec' 2 0 dn)) ∧
         (∀ t, parcelFate s.dev ofs u.recCrc.toNat = .program t → ∃ d, exec (.recParcel m) s = .next { s with dev := d } ∧ (busy 2 d ∧
           d.upd.programming = some (ofs, parcelBytes s.dev) ∧ d.upd.parcelLock = true ∧ SameBut [.upd] s.dev d)))) ∧
      (u.session = none → (∃ dn, exec (.recVerify m) s = .next { s with dev := dn } ∧ rec' 3 Code.state.toNat dn)) ∧
      (u.session ≠ none → ∃ d, exec (.recVerify m) s = .next { s with dev := d } ∧ (busy 3 d ∧ SameBut [.upd] s.dev d)) ∧
      (∀ t, u.recSlot = some t → (u.slots[t]).state = .verified → (t = 0 ∨ t = 1) → ∃ d, exec (.recInstall m) s = .next { s with dev := d } ∧ (d.upd.recCmd = 4 ∧ d.upd.recBusy = false ∧
        d.upd.recResult = 0 ∧ (d.upd.slots[t]).state = .active ∧ (∀ x, slotIn s.dev 0 .active = some x → (d.upd.slots[x]).state = .previous) ∧
        (s.dev.tmr.tb + ticksOfMs 10, .bootTimeout) ∈ d.timers ∧ d.sys.bootDue = some 5 ∧ quiet [.upd, .sys] d)) ∧
      ((∀ t, u.recSlot = some t → (u.slots[t]).state ≠ .verified) → (∃ dn, exec (.recInstall m) s = .next { s with dev := dn } ∧ rec' 4 Code.state.toNat dn)) ∧
      (∃ d, exec (.recClose m) s = .next { s with dev := d } ∧ (d.upd.recCmd = 5 ∧ d.upd.recBusy = false ∧ d.upd.recResult = 0 ∧ d.upd.recBound = none ∧ d.upd.session = none ∧
        (∀ t, u.recSlot = some t → d.upd.slots[t] = {}) ∧ (u.recSlot = none → d.upd.slots = u.slots) ∧ quiet [.upd] d)))) ∧
  (inRecovery s.dev = true → u.recBusy = true → u.recCmd = 3 → ∀ comp t count, u.session = some (comp, t, count) → verifyCode s.dev comp t count true = 0 →
    ∃ d, exec .packageVerifyDone s = .next { s with dev := d } ∧ (d.upd.recBusy = false ∧ d.upd.recResult = 0 ∧ d.upd.session = none ∧ (d.upd.slots[t]).state = .verified ∧ quiet [.upd] d))

/-- 15 R576 to R580, R582, 12 R480, R482, R486, R488: JOURNAL_MARK and the SHED record queue a record; the writer programs the oldest held record against its credit, and no
record crosses an erase block; JOURNAL_WINDOW moves the window, and TELEMETRY_SET the addresses of a ring.
Each of these commands answers a next state here: journalMark, journalWindow, telemetrySet, journalProgram, shedRecord. -/
def Obligations.JournalAndTelemetryCommands : Prop := ∀ (s : State),
  let j := s.dev.jrn
  let same (b : Dev) : Prop := SameBut [] s.dev b
  (∀ c note, checkCode480 s.dev c opJournalMark true none = none →
    (s.dev.sys.storeOk = false → ∃ d, exec (.journalMark c note) s = .next { s with dev := d } ∧ (SameBut [] (complete c opJournalMark .storeError [] s.dev) d)) ∧
    (s.dev.sys.storeOk = true → ∃ d, exec (.journalMark c note) s = .next { s with dev := d } ∧ (∃ b, SameBut [] (complete c opJournalMark .done (toLe 4 (nextPos s.dev 56)) b) d ∧
      b = journal 12 (toLe 1 ((ringMaster s.dev c.ring).elim 0xFF (·.val)) ++ toLe 3 0 ++ bytesAt note 0 32) s.dev ∧ SameBut [.jrn, .timers, .host, .ringMem] s.dev b))) ∧
  (∀ c start, checkCode480 s.dev c opJournalWindow (decide (start % 65536 = 0) && decide (start < journalSize)) none = none →
    ∃ d, exec (.journalWindow c start) s = .next { s with dev := d } ∧ (SameBut [] (complete c opJournalWindow .done (windowResult s.dev start) { s.dev with jrn := { j with wstart := start } }) d)) ∧
  (∀ c start, start % 65536 ≠ 0 ∨ 50331648 ≤ start → checkCode480 s.dev c opJournalWindow false none = some .badParam →
    ∃ d, exec (.journalWindow c start) s = .next { s with dev := d } ∧ (SameBut [] (complete c opJournalWindow .badParam [] s.dev) d)) ∧
  (∀ c ring addrs, checkCode480 s.dev c opTelemetrySet (telemetryOk s.dev ring addrs) none = none → ∃ d, exec (.telemetrySet c ring addrs) s = .next { s with dev := d } ∧ (∃ b,
    SameBut [] (complete c opTelemetrySet .done [] b) d ∧ (b.host.rings[ring]).addrs = some addrs ∧ (∀ r : Fin 16, r ≠ ring → b.host.rings[r] = s.dev.host.rings[r]) ∧ SameBut [.host] s.dev b)) ∧
  (mayProgram s.dev = false ∨ j.buffer = [] → (∃ dn, exec .journalProgram s = .next { s with dev := dn } ∧ same dn)) ∧
  (∀ r rest, mayProgram s.dev = true → j.buffer = r :: rest →
    let n := r.bytes.length
    let pos := placeAt j.pos n
    let pad := if pos = j.pos then 0 else eraseBlock - j.pos % eraseBlock
    (jrnCredit s.dev < n + pad → (∃ dn, exec .journalProgram s = .next { s with dev := dn } ∧ same dn)) ∧
    (n + pad ≤ jrnCredit s.dev → ∃ d, exec .journalProgram s = .next { s with dev := d } ∧ (d.jrn.buffer = rest ∧ (pos, r) ∈ d.jrn.written ∧ d.jrn.pos = (pos + n) % journalSize ∧
      d.jrn.credit = jrnCredit s.dev - (n + pad) ∧ SameBut [.jrn] s.dev d))) ∧
  (∀ at0 n, 0 < n → n ≤ 256 → placeAt at0 n / eraseBlock = (placeAt at0 n + n - 1) / eraseBlock) ∧
  ((j.shed.all (· == 0)) = true → (∃ dn, exec .shedRecord s = .next { s with dev := dn } ∧ same dn)) ∧
  ((j.shed.all (· == 0)) = false → ∃ d, exec .shedRecord s = .next { s with dev := d } ∧ (∃ b, SameBut [] (journal 14 (((indices 16).flatMap fun c => toLe 1 j.shed[c]) ++ toLe 8 (j.shedFirst.getD s.dev.tmr.tb)) b) d ∧
    b.jrn = { j with shed := Vector.replicate 16 0, shedFirst := none } ∧ SameBut [.jrn, .timers] s.dev b))

/-- 15 R561 to R567, R586, 11 R451, R453, R454, 09 R372, 12 R480, R482: the device enters and leaves MINIMAL and STANDBY by command and wake source, enters DORMANT, wakes from it,
and resets its hub; a twin takes its role at the end of a wait. The clause on the feeds of STANDBY takes PG_LOSS sources whose action in force is NONE, with the feed die's link up.
Each of these commands answers a next state here: minimalEnter, minimalExit, enterStandby, enterDormant, deviceReset, wakePin, wakeTimerExpiry,
twinRoleHoldoff. -/
def Obligations.ModesByCommandAndWake : Prop := ∀ (s : State),
  let ends (c : CmdRef) (op : Nat) (k : Code) (P : Dev → Prop) (d : Dev) : Prop := ∃ b, SameBut [] (complete c op k [] b) d ∧ P b
  let same (b : Dev) : Prop := SameBut [] s.dev b
  let mode := s.dev.sys.mode
  let booting (why wake : Nat) (d : Dev) : Prop := d.sys.mode = .boot ∧ d.sys.bootStep = 1 ∧ d.sys.wake = wake ∧ d.coll.resetWhy = why ∧ d.tmr.tb = 0 ∧ d.host.owner = none ∧
    d.host.jobs = [] ∧ d.ringMem = [] ∧ d.sys.attachHold = true ∧ d.jrn.written = s.dev.jrn.written ∧ d.sys.ids = s.dev.sys.ids
  let latches (cause : Nat) (d : Dev) : Prop := d.sys.ret.wakeLatched = true ∧ d.sys.ret.wakeCause = cause ∧ d.sys.mode = .dormant ∧ SameBut [.sys] s.dev d
  (∀ c, checkCode480 s.dev c opMinimalEnter true none = none →
    (mode = .standby → (∃ dn, exec (.minimalEnter c) s = .next { s with dev := dn } ∧ ends c opMinimalEnter .state same dn)) ∧
    (mode = .minimal → (∃ dn, exec (.minimalEnter c) s = .next { s with dev := dn } ∧ ends c opMinimalEnter .done same dn)) ∧
    (mode ≠ .standby → mode ≠ .minimal → (∃ dn, exec (.minimalEnter c) s = .next { s with dev := dn } ∧ (ends c opMinimalEnter .done fun b => b.sys.mode = .minimal ∧ b.sys.prev = mode ∧
      b.coll.minimal = true ∧ b.coll.minCause = 4 ∧ (∀ e : Fin 4, b.sys.edgeMin[e] = true) ∧ b.coll.event.getLsbD 5 = true ∧
      (∀ j ∈ b.host.jobs, j.opcode / 256 ≠ 1) ∧ b.cfg = s.dev.cfg ∧ b.feeds = s.dev.feeds ∧ b.ledger = s.dev.ledger) dn))) ∧
  (∀ c, checkCode480 s.dev c opMinimalExit true none = none →
    ((mode ≠ .minimal ∨ s.dev.coll.minCause ≠ 1 ∧ s.dev.coll.minCause ≠ 4 ∨ mayExit s.dev = false ∨ (∃ e : Fin 4, linkSteady s.dev (linkOf e) = false)) →
      (∃ dn, exec (.minimalExit c) s = .next { s with dev := dn } ∧ ends c opMinimalExit .state same dn)) ∧
    (mode = .minimal → (s.dev.coll.minCause = 1 ∨ s.dev.coll.minCause = 4) → mayExit s.dev = true → (∀ e : Fin 4, linkSteady s.dev (linkOf e) = true) →
      (∃ dn, exec (.minimalExit c) s = .next { s with dev := dn } ∧ (ends c opMinimalExit .done fun b => b.sys.mode = .service ∧ b.coll.minimal = false ∧ b.coll.minCause = 0 ∧
        b.coll.event.getLsbD 6 = true ∧ (∀ e : Fin 4, b.sys.edgeMin[e] = false) ∧ b.twin.heartbeatStopped = false ∧ b.cfg = s.dev.cfg ∧ b.feeds = s.dev.feeds) dn))) ∧
  (∀ c, checkCode480 s.dev c opEnterStandby true none = none →
    (sleepBlocked s.dev = true → (∃ dn, exec (.enterStandby c) s = .next { s with dev := dn } ∧ ends c opEnterStandby .state same dn)) ∧
    (sleepBlocked s.dev = false → mode ≠ .service → (∃ dn, exec (.enterStandby c) s = .next { s with dev := dn } ∧ ends c opEnterStandby .done same dn)) ∧
    (sleepBlocked s.dev = false → mode = .service → (∀ f, Quiet s.dev (feedSrc f 6)) → (∃ dn, exec (.enterStandby c) s = .next { s with dev := dn } ∧ (ends c opEnterStandby .done fun b =>
      b.sys.mode = .standby ∧ b.sys.prev = .service ∧ (isShadow s.dev = true → b.twin.heartbeatStopped = true) ∧
      (∀ f : Fin 4, (b.feeds[f]).state ≠ .ramp ∧ (b.feeds[f]).state ≠ .on ∧ (b.feeds[f]).state ≠ .delay ∧ (b.feeds[f]).state ≠ .cooling)) dn))) ∧
  (∀ c secs, checkCode480 s.dev c opEnterDormant true none = none →
    (sleepBlocked s.dev = true → (∃ dn, exec (.enterDormant c secs) s = .next { s with dev := dn } ∧ ends c opEnterDormant .state same dn)) ∧
    (sleepBlocked s.dev = false → ∃ d, exec (.enterDormant c secs) s = .next { s with dev := d } ∧ (d.sys.mode = .dormant ∧ d.sys.ret.wakeTimer = secs ∧ d.sys.ret.modeBefore = modeCode mode ∧
      d.sys.ret.aonAtEntry = s.dev.sys.aon ∧ d.sys.ret.wakeLatched = false ∧ d.host.owner = none ∧ d.timers = [] ∧ d.cfgNew = s.dev.cfgNew))) ∧
  (∀ c key, (key = 0x3264 → checkCode480 s.dev c opDeviceReset true none = none → (∃ dn, exec (.deviceReset c key) s = .next { s with dev := dn } ∧ booting 2 4 dn)) ∧
    (key ≠ 0x3264 → checkCode480 s.dev c opDeviceReset false none = some .badParam → ∃ d, exec (.deviceReset c key) s = .next { s with dev := d } ∧ (SameBut [] (complete c opDeviceReset .badParam [] s.dev) d))) ∧
  (mode = .dormant → s.dev.sys.ret.wakeLatched = true → (∃ dn, exec .wakePin s = .next { s with dev := dn } ∧ same dn) ∧ (∃ dn, exec .wakeTimerExpiry s = .next { s with dev := dn } ∧ same dn)) ∧
  (mode = .dormant → s.dev.sys.ret.wakeLatched = false → railsOk s.dev = false → (∃ dn, exec .wakePin s = .next { s with dev := dn } ∧ latches 2 dn) ∧
    (s.dev.sys.ret.wakeTimer ≠ 0 → (∃ dn, exec .wakeTimerExpiry s = .next { s with dev := dn } ∧ latches 3 dn))) ∧
  (mode = .dormant → s.dev.sys.ret.wakeLatched = false → railsOk s.dev = true → (∃ dn, exec .wakePin s = .next { s with dev := dn } ∧ booting s.dev.coll.resetWhy 2 dn) ∧
    (s.dev.sys.ret.wakeTimer ≠ 0 → (∃ dn, exec .wakeTimerExpiry s = .next { s with dev := dn } ∧ booting s.dev.coll.resetWhy 3 dn))) ∧
  (mode ≠ .dormant → mode ≠ .standby → (∃ dn, exec .wakePin s = .next { s with dev := dn } ∧ same dn)) ∧
  (mode = .standby → s.dev.sys.deadcar = true → (∃ dn, exec .wakePin s = .next { s with dev := dn } ∧ same dn)) ∧
  (mode = .standby → s.dev.sys.deadcar = false → ∃ d, exec .wakePin s = .next { s with dev := d } ∧ (d.sys.mode = .service ∧ d.sys.prev = .standby ∧ d.phases = s.dev.phases ∧ d.cfg = s.dev.cfg)) ∧
  ((mode ≠ .dormant ∨ s.dev.sys.ret.wakeTimer = 0) → (∃ dn, exec .wakeTimerExpiry s = .next { s with dev := dn } ∧ same dn)) ∧
  ((s.dev.twin.role ≠ 3 ∨ s.dev.twin.roleWaits = 0) → (∃ dn, exec .twinRoleHoldoff s = .next { s with dev := dn } ∧ same dn)) ∧
  (s.dev.twin.role = 3 → s.dev.twin.roleWaits = 2 → s.dev.twin.slot = true → s.dev.twin.prole = false → ∃ d, exec .twinRoleHoldoff s = .next { s with dev := d } ∧ (d.twin.roleWaits = 3 ∧ d.twin.role = 3 ∧
    (s.dev.tmr.tb + ticksOfMs 100, .twinRoleHoldoff) ∈ d.timers ∧ SameBut [.twin, .timers] s.dev d)) ∧
  (s.dev.twin.role = 3 → s.dev.twin.roleWaits ≠ 0 → (s.dev.twin.roleWaits ≠ 2 ∨ s.dev.twin.slot = false ∨ s.dev.twin.prole = true) → ∃ d, exec .twinRoleHoldoff s = .next { s with dev := d } ∧ (d.twin.role = (if s.dev.twin.prole = true then 2 else 1) ∧ d.twin.roleOut = !s.dev.twin.prole ∧ d.twin.roleWaits = 0 ∧ d.feeds = s.dev.feeds ∧ d.store = s.dev.store ∧ d.cfg = s.dev.cfg))

/-- 15 R559, R560, R562, R566 to R570, 17 R607, 03 R134, 14 R552, R553, 11 R436: a reset of every die, the loss of VAON, the supplies, the restart of BOOT, and the ends of the BOOT
programme in RECOVERY, in dead-car readout, in MINIMAL for want of an image, and at the release.
Each of these commands answers a next state here: resetAssert, vaonLoss, supplyOutOfRange, supplyInRange, bootTimeout, deadcarFeedRise, bootStart. -/
def Obligations.ResetsSuppliesAndBoot : Prop := ∀ (s : State),
  let same (b : Dev) : Prop := SameBut [] s.dev b
  let sys := s.dev.sys
  let cold (why wake : Nat) (dead : Bool) (d : Dev) : Prop := d.sys.mode = .boot ∧ d.sys.bootStep = 1 ∧ d.sys.inReset = true ∧ d.sys.wake = wake ∧ d.coll.resetWhy = why ∧ d.tmr = {} ∧
    d.host = {} ∧ d.ringMem = [] ∧ (∀ p : Fin 32, d.ports[p] = { rd := dead && p.val % 8 == 0 && sys.dben.getLsbD (p.val / 8) }) ∧ d.guards = Vector.replicate 32 {} ∧ d.loops = Vector.replicate 32 {} ∧ d.sources = Vector.ofFn srcReset ∧
    d.cfg = {} ∧ d.timers = [] ∧ d.jrn.written = s.dev.jrn.written ∧ d.jrn.buffer = [] ∧ d.store.keys = s.dev.store.keys ∧ d.store.floors = s.dev.store.floors ∧
    d.upd.floors = s.dev.upd.floors ∧ d.upd.keyRevoked = s.dev.upd.keyRevoked ∧ d.sys.ids = sys.ids
  let again (wake : Nat) (d : Dev) : Prop := d.sys.mode = .boot ∧ d.sys.bootStep = 1 ∧ d.sys.wake = wake ∧ d.coll.resetWhy = s.dev.coll.resetWhy ∧ d.host = {} ∧
    d.sys.attachHold = true ∧ (∀ e : Fin 4, d.sys.edgeMin[e] = true) ∧ d.jrn.written = s.dev.jrn.written ∧ d.sys.ret = sys.ret
  (∃ d, exec .resetAssert s = .next { s with dev := d } ∧ (cold 1 1 false d ∧ d.sys.ret = sys.ret ∧ d.sys.aon = sys.aon)) ∧
  (∃ d, exec .vaonLoss s = .next { s with dev := d } ∧ (cold 0 0 true d ∧ d.sys.ret = {} ∧ d.sys.aon = 0)) ∧
  (∀ x ∈ [(Supply.vcore, (0 : Fin 3)), (Supply.vio, 1), (Supply.vana, 2)],
    (sys.mode = .dormant → ∃ d, exec (.supplyOutOfRange x.1) s = .next { s with dev := d } ∧ (d.sys = { sys with supplyOk := sys.supplyOk.set x.2 false } ∧ SameBut (if x.2 = 2 then [.sys, .ports] else [.sys]) s.dev d ∧
      (x.2 = 2 → ∀ p : Fin 32, d.ports[p] = { s.dev.ports[p] with rp := .none, rd := p.val % 8 == 0 && sys.dben.getLsbD (p.val / 8) }))) ∧
    (sys.mode ≠ .dormant → ∃ d, exec (.supplyOutOfRange x.1) s = .next { s with dev := d } ∧ (cold 1 1 (x.2 == 2) d ∧ d.sys.supplyOk = sys.supplyOk.set x.2 false ∧ d.sys.ret = sys.ret)) ∧
    ((sys.mode ≠ .dormant ∨ sys.ret.wakeLatched = false) → ∃ d, exec (.supplyInRange x.1) s = .next { s with dev := d } ∧ (d.sys = { sys with supplyOk := sys.supplyOk.set x.2 true } ∧ SameBut [.sys] s.dev d)) ∧
    (sys.mode = .dormant → sys.ret.wakeLatched = true → (∀ k : Fin 3, k ≠ x.2 → sys.supplyOk[k] = true) → ∃ d, exec (.supplyInRange x.1) s = .next { s with dev := d } ∧ (cold s.dev.coll.resetWhy sys.ret.wakeCause false d ∧ d.sys.supplyOk = sys.supplyOk.set x.2 true))) ∧
  (∀ e : Fin 4, (sys.edgeOn[e] = false → (∃ dn, exec (.supplyOutOfRange (.edgeRail e)) s = .next { s with dev := dn } ∧ same dn)) ∧
    (sys.edgeOn[e] = true → (sys.mode ≠ .service ∨ ∃ k : Fin 4, k ≠ e ∧ sys.edgeMin[k] = false) → ∃ d, exec (.supplyOutOfRange (.edgeRail e)) s = .next { s with dev := d } ∧ (d.sys.edgeOn[e] = false ∧
      d.sys.edgeMin[e] = true ∧ d.sys.mode = sys.mode ∧ d.cfg = s.dev.cfg ∧ d.feeds = s.dev.feeds ∧ d.ledger = s.dev.ledger ∧ d.host = s.dev.host)) ∧
    (sys.edgeOn[e] = true → sys.mode = .service → (∀ k : Fin 4, k ≠ e → sys.edgeMin[k] = true) → ∃ d, exec (.supplyOutOfRange (.edgeRail e)) s = .next { s with dev := d } ∧ (d.sys.edgeOn[e] = false ∧
      (∀ k : Fin 4, d.sys.edgeMin[k] = true) ∧ d.sys.mode = .minimal ∧ d.coll.minimal = true ∧ d.coll.minCause = 2 ∧ d.cfg = s.dev.cfg ∧ d.feeds = s.dev.feeds ∧ d.ledger = s.dev.ledger)) ∧
    (∃ d, exec (.supplyInRange (.edgeRail e)) s = .next { s with dev := d } ∧ (d.sys = { sys with edgeOn := sys.edgeOn.set e true } ∧ SameBut [.sys] s.dev d))) ∧
  (sys.vconnIn = false ∨ (∀ p : Fin 32, (s.dev.ports[p]).vconnOn = false) → ∃ d, exec (.supplyOutOfRange .vconnIn) s = .next { s with dev := d } ∧ (d.sys = { sys with vconnIn := false } ∧ SameBut [.sys] s.dev d)) ∧
  (sys.vconnIn = true → (∃ p : Fin 32, (s.dev.ports[p]).vconnOn = true) → Quiet s.dev srcVconnUv → ∃ d, exec (.supplyOutOfRange .vconnIn) s = .next { s with dev := d } ∧ (d.sys.vconnIn = false ∧ (d.sources[srcVconnUv]).latch = true ∧ d.ports = s.dev.ports)) ∧
  (∃ d, exec (.supplyInRange .vconnIn) s = .next { s with dev := d } ∧ (d.sys.vconnIn = true ∧ (d.sources[srcVconnUv]).cond = false ∧ (d.sources[srcVconnUv]).latch = (s.dev.sources[srcVconnUv]).latch ∧
    SameBut [.sys, .sources] s.dev d)) ∧
  (∀ w, sys.bootDue = some w → (∃ dn, exec .bootTimeout s = .next { s with dev := dn } ∧ again w dn)) ∧
  (sys.bootDue = none → (sys.mode = .boot → (∃ dn, exec .bootTimeout s = .next { s with dev := dn } ∧ again sys.wake dn)) ∧ (sys.mode ≠ .boot → (∃ dn, exec .bootTimeout s = .next { s with dev := dn } ∧ same dn))) ∧
  (∀ f, (sys.deadcar = false → (∃ dn, exec (.deadcarFeedRise f) s = .next { s with dev := dn } ∧ same dn)) ∧ (sys.deadcar = true → ∃ d, exec (.deadcarFeedRise f) s = .next { s with dev := d } ∧ (d.sys.mode = .boot ∧ d.sys.bootStep = 1 ∧
    d.sys.deadcar = false ∧ (d.feeds[f]).inUv = false ∧ (∀ p : Fin 32, (d.ports[p]).tc = .disabled ∧ (d.ports[p]).rd = false)))) ∧
  (∀ obs, ((sys.mode ≠ .boot ∨ sys.bootStep ≠ 1 ∨ railsOk s.dev = false ∨ sys.tempTrip[(0 : Fin 7)] = true) → (∃ dn, exec (.bootStart obs) s = .next { s with dev := dn } ∧ same dn)) ∧
    (sys.mode = .boot → sys.bootStep = 1 → railsOk s.dev = true → sys.tempTrip[(0 : Fin 7)] = false → obs.dieCrcBad = 0 → obs.calBad = 0 →
      (obs.feedsUp = false → obs.vgdAbove9 = false → obs.deadcar ≠ 0 → ∃ d, exec (.bootStart obs) s = .next { s with dev := d } ∧ (d.sys.mode = .standby ∧ d.sys.deadcar = true ∧ d.sys.bootStep = 15 ∧
        (∀ p : Fin 32, (p.val % 8 = 0 ∧ obs.deadcar.getLsbD (p.val / 8) = true → (d.ports[p]).tc = .attachedSnk ∧ (d.ports[p]).rd = true ∧
            (d.ports[p]).orient = obs.deadcarPin.getLsbD (p.val / 8)) ∧
          (¬ (p.val % 8 = 0 ∧ obs.deadcar.getLsbD (p.val / 8) = true) → (d.ports[p]).tc = .disabled ∧ (d.ports[p]).rp = .none ∧ (d.ports[p]).rd = false)))) ∧
      ((obs.feedsUp = true ∨ obs.vgdAbove9 = true ∨ obs.deadcar = 0) → (obs.bootsel0 = true ∨ 2 ≤ sys.ret.failedBoots) → ∃ d, exec (.bootStart obs) s = .next { s with dev := d } ∧ (d.sys.mode = .recovery ∧ d.sys.bootStep = 15 ∧ d.host.owner = none ∧ d.upd.svRun = false ∧ d.sys.attachHold = false ∧ (∀ e : Fin 4, d.sys.edgeMin[e] = true) ∧
        d.sys.ret.failedBoots = sat 7 (sys.ret.failedBoots + 1) ∧ d.sys.ret.bootCount = wrapInc 32 sys.ret.bootCount)) ∧
      ((obs.feedsUp = true ∨ obs.vgdAbove9 = true ∨ obs.deadcar = 0) → obs.bootsel0 = false → sys.ret.failedBoots < 2 → sys.minRecord.get minRecBytes = none →
        (∀ t : Fin 4, (s.dev.upd.slots[t]).state ≠ .erasing ∧ (s.dev.upd.slots[t]).state ≠ .writing ∧ (s.dev.upd.slots[t]).state ≠ .trial) →
        (∀ t : Fin 4, (s.dev.store.slots[t]).state ≠ .active ∧ (s.dev.store.slots[t]).state ≠ .previous) →
        ∀ a b, slotIn s.dev 0 .active = some a → obs.slotOk.getLsbD a.val = true → slotIn s.dev 1 .active = some b → obs.slotOk.getLsbD b.val = true →
        ∃ d, exec (.bootStart obs) s = .next { s with dev := d } ∧ (d.sys.mode = .minimal ∧ d.coll.minCause = 3 ∧ d.sys.bootStep = 15 ∧ d.sys.attachHold = false ∧ d.sys.ret.failedBoots = 0 ∧
          d.upd.svRun = true ∧ d.upd.coreRun = 0xF ∧ d.upd.coreSlots = Vector.replicate 4 (decide (b = 3)) ∧ d.upd.slots = s.dev.upd.slots)))) ∧
  (∀ d : Dev, (bootRelease d).sys.mode = .service ∧ (bootRelease d).sys.bootStep = 15 ∧ (bootRelease d).sys.attachHold = false ∧ (bootRelease d).sys.ret.failedBoots = 0 ∧
    (∀ e : Fin 4, (bootRelease d).sys.edgeMin[e] = false))

/-- 15 R575: a record of the calibration partition stands there twice, each copy under its CRC-32C: it is read back after a write, and still while one of
its copies is bad; with both bad nothing is read. -/
def Obligations.RecordsOutliveOneBadCopy : Prop := ∀ (r : DieParams) (m : BitVec 64) (c : Copies DieParams) (k : Copies (BitVec 64)) (bad : BitVec 2),
  (bad ≠ 3 → ((c.put minRecBytes r).spoil bad).get minRecBytes = some r ∧ ((k.put retiredBytes m).spoil bad).get retiredBytes = some m) ∧
  ((c.put minRecBytes r).spoil 3).get minRecBytes = none ∧ ((k.put retiredBytes m).spoil 3).get retiredBytes = none

/-- 05 R201, R210, R216 and log entry 40 (the model's choice of what is free): in a cycle of a port VC stays between 0.30 V and 1.50 V and the threshold within
15 A, and the loop skips pulses only where its section lets it. A limited cycle adds 1 to LC and to the count of each limited phase, and posts the exceeded allowance of the lowest of them; a cycle without
one adds to the run, and 256 in a row clear LC. The port's contract and guard, the feeds and the ledger are left as they were. -/
def Obligations.CyclesClampAndCount : Prop := ∀ (d : Dev) (p : Fin 32),
  let e := portCycle p d
  (12000 ≤ (e.loops[p]).vc ∧ (e.loops[p]).vc ≤ 60000 ∧ ithOf (e.loops[p]).vc ≤ 15000) ∧
  ((e.loops[p]).skipping = true → (loopCfg d p).lflags.getLsbD 1 = true ∧ (d.chans[iportCh p]).result.toInt < (loopCfg d p).iskip) ∧
  (∀ q : Fin 32, q ≠ p → e.loops[q] = d.loops[q]) ∧
  SameBut [.loops, .phases, .timers] d e ∧
  (∀ x, (countCycle p [] x).loops[p] = { x.loops[p] with run := sat 256 ((x.loops[p]).run + 1), lc := if sat 256 ((x.loops[p]).run + 1) = 256 then 0 else (x.loops[p]).lc }) ∧
  (∀ x n ns, (((countCycle p (n :: ns) x).loops[p]).lc = sat 8191 ((x.loops[p]).lc + 1) ∧ ((countCycle p (n :: ns) x).loops[p]).run = 0) ∧
    ((if (x.loops[p]).ramping = true ∨ (x.loops[p]).softStart = true then (loopCfg x p).nStart else (loopCfg x p).nRun) < (x.loops[p]).lc + 1 →
      (x.tmr.tb, .limitAllowanceExceeded p n) ∈ (countCycle p (n :: ns) x).timers))

/-- 16 R599: with TRST# low the TAP stays in reset and takes no instruction; else IDCODE shifts out 0x23264001, BYPASS its single 0, and EXTEST turns every feed and
every guard off. -/
def Obligations.BoundaryScanTurnsThePowerOff : Prop := ∀ (d : Dev) (i : TapInstr),
  (d.tap.trstLow = true → tapLoad i d = d) ∧ (tapReset true d).tap = {} ∧ ({} : Tap).trstLow = true ∧
  (d.tap.trstLow = false → tapCapture (tapLoad .idcode d) = some 0x23264001 ∧ tapCapture (tapLoad .bypass d) = some 0 ∧
    (i ≠ .extest → SameBut [.tap] d (tapLoad i d)) ∧
    (∀ p : Fin 32, guardOn ((tapLoad .extest d).guards[p]) = false ∧ ((tapLoad .extest d).guards[p]).discharge = false) ∧
    (∀ f : Fin 4, gateDriven ((tapLoad .extest d).feeds[f]) = false))
end

