-- ==== Sys2Proof/Laws/State.lean ====
section
/-! SUPPORT. What each named change of the state does to each of its fields: one lemma for each field and change, so that no later proof unfolds a record update. -/

namespace Sys2Proof.Machine

/-- The element changed. -/
@[simp] theorem upd_self {α : Type} {n : Nat} (v : Vector α n) (i : Fin n) (f : α → α) : (upd v i f)[i.val] = f v[i.val] := by
  simp [upd]

/-- Every other element stays. -/
theorem upd_other {α : Type} {n : Nat} (v : Vector α n) {i j : Fin n} (f : α → α) (h : j ≠ i) : (upd v i f)[j.val] = v[j.val] := by
  have : i.val ≠ j.val := fun e => h (Fin.ext e.symm)
  simp [upd, Vector.getElem_set_ne, this]

/-- An element after a change, whichever it is. -/
theorem upd_get {α : Type} {n : Nat} (v : Vector α n) (i j : Fin n) (f : α → α) :
    (upd v i f)[j.val] = if j = i then f v[j.val] else v[j.val] := by
  by_cases h : j = i
  · subst h; simp
  · rw [upd_other v f h, if_neg h]

@[simp] theorem updAll_get {α : Type} {n : Nat} (v : Vector α n) (f : Fin n → α → α) (i : Fin n) : (updAll v f)[i.val] = f i v[i.val] := by
  simp [updAll]

@[simp] theorem onPort_cfg (p : Fin 32) (f : Port → Port) (d : Dev) : (onPort p f d).cfg = d.cfg := (rfl)
@[simp] theorem onPort_cfgNew (p : Fin 32) (f : Port → Port) (d : Dev) : (onPort p f d).cfgNew = d.cfgNew := (rfl)
@[simp] theorem onPort_ports (p : Fin 32) (f : Port → Port) (d : Dev) : (onPort p f d).ports = Machine.upd d.ports p f := (rfl)
@[simp] theorem onPort_pd (p : Fin 32) (f : Port → Port) (d : Dev) : (onPort p f d).pd = d.pd := (rfl)
@[simp] theorem onPort_guards (p : Fin 32) (f : Port → Port) (d : Dev) : (onPort p f d).guards = d.guards := (rfl)
@[simp] theorem onPort_loops (p : Fin 32) (f : Port → Port) (d : Dev) : (onPort p f d).loops = d.loops := (rfl)
@[simp] theorem onPort_phases (p : Fin 32) (f : Port → Port) (d : Dev) : (onPort p f d).phases = d.phases := (rfl)
@[simp] theorem onPort_chans (p : Fin 32) (f : Port → Port) (d : Dev) : (onPort p f d).chans = d.chans := (rfl)
@[simp] theorem onPort_groups (p : Fin 32) (f : Port → Port) (d : Dev) : (onPort p f d).groups = d.groups := (rfl)
@[simp] theorem onPort_convs (p : Fin 32) (f : Port → Port) (d : Dev) : (onPort p f d).convs = d.convs := (rfl)
@[simp] theorem onPort_feeds (p : Fin 32) (f : Port → Port) (d : Dev) : (onPort p f d).feeds = d.feeds := (rfl)
@[simp] theorem onPort_posts (p : Fin 32) (f : Port → Port) (d : Dev) : (onPort p f d).posts = d.posts := (rfl)
@[simp] theorem onPort_ledger (p : Fin 32) (f : Port → Port) (d : Dev) : (onPort p f d).ledger = d.ledger := (rfl)
@[simp] theorem onPort_twin (p : Fin 32) (f : Port → Port) (d : Dev) : (onPort p f d).twin = d.twin := (rfl)
@[simp] theorem onPort_tmr (p : Fin 32) (f : Port → Port) (d : Dev) : (onPort p f d).tmr = d.tmr := (rfl)
@[simp] theorem onPort_alarms (p : Fin 32) (f : Port → Port) (d : Dev) : (onPort p f d).alarms = d.alarms := (rfl)
@[simp] theorem onPort_itms (p : Fin 32) (f : Port → Port) (d : Dev) : (onPort p f d).itms = d.itms := (rfl)
@[simp] theorem onPort_sources (p : Fin 32) (f : Port → Port) (d : Dev) : (onPort p f d).sources = d.sources := (rfl)
@[simp] theorem onPort_coll (p : Fin 32) (f : Port → Port) (d : Dev) : (onPort p f d).coll = d.coll := (rfl)
@[simp] theorem onPort_host (p : Fin 32) (f : Port → Port) (d : Dev) : (onPort p f d).host = d.host := (rfl)
@[simp] theorem onPort_net (p : Fin 32) (f : Port → Port) (d : Dev) : (onPort p f d).net = d.net := (rfl)
@[simp] theorem onPort_upd (p : Fin 32) (f : Port → Port) (d : Dev) : (onPort p f d).upd = d.upd := (rfl)
@[simp] theorem onPort_store (p : Fin 32) (f : Port → Port) (d : Dev) : (onPort p f d).store = d.store := (rfl)
@[simp] theorem onPort_jrn (p : Fin 32) (f : Port → Port) (d : Dev) : (onPort p f d).jrn = d.jrn := (rfl)
@[simp] theorem onPort_sys (p : Fin 32) (f : Port → Port) (d : Dev) : (onPort p f d).sys = d.sys := (rfl)
@[simp] theorem onPort_loss (p : Fin 32) (f : Port → Port) (d : Dev) : (onPort p f d).loss = d.loss := (rfl)
@[simp] theorem onPort_tap (p : Fin 32) (f : Port → Port) (d : Dev) : (onPort p f d).tap = d.tap := (rfl)
@[simp] theorem onPort_ringMem (p : Fin 32) (f : Port → Port) (d : Dev) : (onPort p f d).ringMem = d.ringMem := (rfl)
@[simp] theorem onPort_parcel (p : Fin 32) (f : Port → Port) (d : Dev) : (onPort p f d).parcel = d.parcel := (rfl)
@[simp] theorem onPort_timers (p : Fin 32) (f : Port → Port) (d : Dev) : (onPort p f d).timers = d.timers := (rfl)
@[simp] theorem onPort_freeCtr (p : Fin 32) (f : Port → Port) (d : Dev) : (onPort p f d).freeCtr = d.freeCtr := (rfl)

@[simp] theorem onPd_cfg (p : Fin 32) (f : PortPd → PortPd) (d : Dev) : (onPd p f d).cfg = d.cfg := (rfl)
@[simp] theorem onPd_cfgNew (p : Fin 32) (f : PortPd → PortPd) (d : Dev) : (onPd p f d).cfgNew = d.cfgNew := (rfl)
@[simp] theorem onPd_ports (p : Fin 32) (f : PortPd → PortPd) (d : Dev) : (onPd p f d).ports = d.ports := (rfl)
@[simp] theorem onPd_pd (p : Fin 32) (f : PortPd → PortPd) (d : Dev) : (onPd p f d).pd = Machine.upd d.pd p f := (rfl)
@[simp] theorem onPd_guards (p : Fin 32) (f : PortPd → PortPd) (d : Dev) : (onPd p f d).guards = d.guards := (rfl)
@[simp] theorem onPd_loops (p : Fin 32) (f : PortPd → PortPd) (d : Dev) : (onPd p f d).loops = d.loops := (rfl)
@[simp] theorem onPd_phases (p : Fin 32) (f : PortPd → PortPd) (d : Dev) : (onPd p f d).phases = d.phases := (rfl)
@[simp] theorem onPd_chans (p : Fin 32) (f : PortPd → PortPd) (d : Dev) : (onPd p f d).chans = d.chans := (rfl)
@[simp] theorem onPd_groups (p : Fin 32) (f : PortPd → PortPd) (d : Dev) : (onPd p f d).groups = d.groups := (rfl)
@[simp] theorem onPd_convs (p : Fin 32) (f : PortPd → PortPd) (d : Dev) : (onPd p f d).convs = d.convs := (rfl)
@[simp] theorem onPd_feeds (p : Fin 32) (f : PortPd → PortPd) (d : Dev) : (onPd p f d).feeds = d.feeds := (rfl)
@[simp] theorem onPd_posts (p : Fin 32) (f : PortPd → PortPd) (d : Dev) : (onPd p f d).posts = d.posts := (rfl)
@[simp] theorem onPd_ledger (p : Fin 32) (f : PortPd → PortPd) (d : Dev) : (onPd p f d).ledger = d.ledger := (rfl)
@[simp] theorem onPd_twin (p : Fin 32) (f : PortPd → PortPd) (d : Dev) : (onPd p f d).twin = d.twin := (rfl)
@[simp] theorem onPd_tmr (p : Fin 32) (f : PortPd → PortPd) (d : Dev) : (onPd p f d).tmr = d.tmr := (rfl)
@[simp] theorem onPd_alarms (p : Fin 32) (f : PortPd → PortPd) (d : Dev) : (onPd p f d).alarms = d.alarms := (rfl)
@[simp] theorem onPd_itms (p : Fin 32) (f : PortPd → PortPd) (d : Dev) : (onPd p f d).itms = d.itms := (rfl)
@[simp] theorem onPd_sources (p : Fin 32) (f : PortPd → PortPd) (d : Dev) : (onPd p f d).sources = d.sources := (rfl)
@[simp] theorem onPd_coll (p : Fin 32) (f : PortPd → PortPd) (d : Dev) : (onPd p f d).coll = d.coll := (rfl)
@[simp] theorem onPd_host (p : Fin 32) (f : PortPd → PortPd) (d : Dev) : (onPd p f d).host = d.host := (rfl)
@[simp] theorem onPd_net (p : Fin 32) (f : PortPd → PortPd) (d : Dev) : (onPd p f d).net = d.net := (rfl)
@[simp] theorem onPd_upd (p : Fin 32) (f : PortPd → PortPd) (d : Dev) : (onPd p f d).upd = d.upd := (rfl)
@[simp] theorem onPd_store (p : Fin 32) (f : PortPd → PortPd) (d : Dev) : (onPd p f d).store = d.store := (rfl)
@[simp] theorem onPd_jrn (p : Fin 32) (f : PortPd → PortPd) (d : Dev) : (onPd p f d).jrn = d.jrn := (rfl)
@[simp] theorem onPd_sys (p : Fin 32) (f : PortPd → PortPd) (d : Dev) : (onPd p f d).sys = d.sys := (rfl)
@[simp] theorem onPd_loss (p : Fin 32) (f : PortPd → PortPd) (d : Dev) : (onPd p f d).loss = d.loss := (rfl)
@[simp] theorem onPd_tap (p : Fin 32) (f : PortPd → PortPd) (d : Dev) : (onPd p f d).tap = d.tap := (rfl)
@[simp] theorem onPd_ringMem (p : Fin 32) (f : PortPd → PortPd) (d : Dev) : (onPd p f d).ringMem = d.ringMem := (rfl)
@[simp] theorem onPd_parcel (p : Fin 32) (f : PortPd → PortPd) (d : Dev) : (onPd p f d).parcel = d.parcel := (rfl)
@[simp] theorem onPd_timers (p : Fin 32) (f : PortPd → PortPd) (d : Dev) : (onPd p f d).timers = d.timers := (rfl)
@[simp] theorem onPd_freeCtr (p : Fin 32) (f : PortPd → PortPd) (d : Dev) : (onPd p f d).freeCtr = d.freeCtr := (rfl)

@[simp] theorem onGuard_cfg (p : Fin 32) (f : Guard → Guard) (d : Dev) : (onGuard p f d).cfg = d.cfg := (rfl)
@[simp] theorem onGuard_cfgNew (p : Fin 32) (f : Guard → Guard) (d : Dev) : (onGuard p f d).cfgNew = d.cfgNew := (rfl)
@[simp] theorem onGuard_ports (p : Fin 32) (f : Guard → Guard) (d : Dev) : (onGuard p f d).ports = d.ports := (rfl)
@[simp] theorem onGuard_pd (p : Fin 32) (f : Guard → Guard) (d : Dev) : (onGuard p f d).pd = d.pd := (rfl)
@[simp] theorem onGuard_guards (p : Fin 32) (f : Guard → Guard) (d : Dev) : (onGuard p f d).guards = Machine.upd d.guards p f := (rfl)
@[simp] theorem onGuard_loops (p : Fin 32) (f : Guard → Guard) (d : Dev) : (onGuard p f d).loops = d.loops := (rfl)
@[simp] theorem onGuard_phases (p : Fin 32) (f : Guard → Guard) (d : Dev) : (onGuard p f d).phases = d.phases := (rfl)
@[simp] theorem onGuard_chans (p : Fin 32) (f : Guard → Guard) (d : Dev) : (onGuard p f d).chans = d.chans := (rfl)
@[simp] theorem onGuard_groups (p : Fin 32) (f : Guard → Guard) (d : Dev) : (onGuard p f d).groups = d.groups := (rfl)
@[simp] theorem onGuard_convs (p : Fin 32) (f : Guard → Guard) (d : Dev) : (onGuard p f d).convs = d.convs := (rfl)
@[simp] theorem onGuard_feeds (p : Fin 32) (f : Guard → Guard) (d : Dev) : (onGuard p f d).feeds = d.feeds := (rfl)
@[simp] theorem onGuard_posts (p : Fin 32) (f : Guard → Guard) (d : Dev) : (onGuard p f d).posts = d.posts := (rfl)
@[simp] theorem onGuard_ledger (p : Fin 32) (f : Guard → Guard) (d : Dev) : (onGuard p f d).ledger = d.ledger := (rfl)
@[simp] theorem onGuard_twin (p : Fin 32) (f : Guard → Guard) (d : Dev) : (onGuard p f d).twin = d.twin := (rfl)
@[simp] theorem onGuard_tmr (p : Fin 32) (f : Guard → Guard) (d : Dev) : (onGuard p f d).tmr = d.tmr := (rfl)
@[simp] theorem onGuard_alarms (p : Fin 32) (f : Guard → Guard) (d : Dev) : (onGuard p f d).alarms = d.alarms := (rfl)
@[simp] theorem onGuard_itms (p : Fin 32) (f : Guard → Guard) (d : Dev) : (onGuard p f d).itms = d.itms := (rfl)
@[simp] theorem onGuard_sources (p : Fin 32) (f : Guard → Guard) (d : Dev) : (onGuard p f d).sources = d.sources := (rfl)
@[simp] theorem onGuard_coll (p : Fin 32) (f : Guard → Guard) (d : Dev) : (onGuard p f d).coll = d.coll := (rfl)
@[simp] theorem onGuard_host (p : Fin 32) (f : Guard → Guard) (d : Dev) : (onGuard p f d).host = d.host := (rfl)
@[simp] theorem onGuard_net (p : Fin 32) (f : Guard → Guard) (d : Dev) : (onGuard p f d).net = d.net := (rfl)
@[simp] theorem onGuard_upd (p : Fin 32) (f : Guard → Guard) (d : Dev) : (onGuard p f d).upd = d.upd := (rfl)
@[simp] theorem onGuard_store (p : Fin 32) (f : Guard → Guard) (d : Dev) : (onGuard p f d).store = d.store := (rfl)
@[simp] theorem onGuard_jrn (p : Fin 32) (f : Guard → Guard) (d : Dev) : (onGuard p f d).jrn = d.jrn := (rfl)
@[simp] theorem onGuard_sys (p : Fin 32) (f : Guard → Guard) (d : Dev) : (onGuard p f d).sys = d.sys := (rfl)
@[simp] theorem onGuard_loss (p : Fin 32) (f : Guard → Guard) (d : Dev) : (onGuard p f d).loss = d.loss := (rfl)
@[simp] theorem onGuard_tap (p : Fin 32) (f : Guard → Guard) (d : Dev) : (onGuard p f d).tap = d.tap := (rfl)
@[simp] theorem onGuard_ringMem (p : Fin 32) (f : Guard → Guard) (d : Dev) : (onGuard p f d).ringMem = d.ringMem := (rfl)
@[simp] theorem onGuard_parcel (p : Fin 32) (f : Guard → Guard) (d : Dev) : (onGuard p f d).parcel = d.parcel := (rfl)
@[simp] theorem onGuard_timers (p : Fin 32) (f : Guard → Guard) (d : Dev) : (onGuard p f d).timers = d.timers := (rfl)
@[simp] theorem onGuard_freeCtr (p : Fin 32) (f : Guard → Guard) (d : Dev) : (onGuard p f d).freeCtr = d.freeCtr := (rfl)

@[simp] theorem onLoop_cfg (p : Fin 32) (f : Loop → Loop) (d : Dev) : (onLoop p f d).cfg = d.cfg := (rfl)
@[simp] theorem onLoop_cfgNew (p : Fin 32) (f : Loop → Loop) (d : Dev) : (onLoop p f d).cfgNew = d.cfgNew := (rfl)
@[simp] theorem onLoop_ports (p : Fin 32) (f : Loop → Loop) (d : Dev) : (onLoop p f d).ports = d.ports := (rfl)
@[simp] theorem onLoop_pd (p : Fin 32) (f : Loop → Loop) (d : Dev) : (onLoop p f d).pd = d.pd := (rfl)
@[simp] theorem onLoop_guards (p : Fin 32) (f : Loop → Loop) (d : Dev) : (onLoop p f d).guards = d.guards := (rfl)
@[simp] theorem onLoop_loops (p : Fin 32) (f : Loop → Loop) (d : Dev) : (onLoop p f d).loops = Machine.upd d.loops p f := (rfl)
@[simp] theorem onLoop_phases (p : Fin 32) (f : Loop → Loop) (d : Dev) : (onLoop p f d).phases = d.phases := (rfl)
@[simp] theorem onLoop_chans (p : Fin 32) (f : Loop → Loop) (d : Dev) : (onLoop p f d).chans = d.chans := (rfl)
@[simp] theorem onLoop_groups (p : Fin 32) (f : Loop → Loop) (d : Dev) : (onLoop p f d).groups = d.groups := (rfl)
@[simp] theorem onLoop_convs (p : Fin 32) (f : Loop → Loop) (d : Dev) : (onLoop p f d).convs = d.convs := (rfl)
@[simp] theorem onLoop_feeds (p : Fin 32) (f : Loop → Loop) (d : Dev) : (onLoop p f d).feeds = d.feeds := (rfl)
@[simp] theorem onLoop_posts (p : Fin 32) (f : Loop → Loop) (d : Dev) : (onLoop p f d).posts = d.posts := (rfl)
@[simp] theorem onLoop_ledger (p : Fin 32) (f : Loop → Loop) (d : Dev) : (onLoop p f d).ledger = d.ledger := (rfl)
@[simp] theorem onLoop_twin (p : Fin 32) (f : Loop → Loop) (d : Dev) : (onLoop p f d).twin = d.twin := (rfl)
@[simp] theorem onLoop_tmr (p : Fin 32) (f : Loop → Loop) (d : Dev) : (onLoop p f d).tmr = d.tmr := (rfl)
@[simp] theorem onLoop_alarms (p : Fin 32) (f : Loop → Loop) (d : Dev) : (onLoop p f d).alarms = d.alarms := (rfl)
@[simp] theorem onLoop_itms (p : Fin 32) (f : Loop → Loop) (d : Dev) : (onLoop p f d).itms = d.itms := (rfl)
@[simp] theorem onLoop_sources (p : Fin 32) (f : Loop → Loop) (d : Dev) : (onLoop p f d).sources = d.sources := (rfl)
@[simp] theorem onLoop_coll (p : Fin 32) (f : Loop → Loop) (d : Dev) : (onLoop p f d).coll = d.coll := (rfl)
@[simp] theorem onLoop_host (p : Fin 32) (f : Loop → Loop) (d : Dev) : (onLoop p f d).host = d.host := (rfl)
@[simp] theorem onLoop_net (p : Fin 32) (f : Loop → Loop) (d : Dev) : (onLoop p f d).net = d.net := (rfl)
@[simp] theorem onLoop_upd (p : Fin 32) (f : Loop → Loop) (d : Dev) : (onLoop p f d).upd = d.upd := (rfl)
@[simp] theorem onLoop_store (p : Fin 32) (f : Loop → Loop) (d : Dev) : (onLoop p f d).store = d.store := (rfl)
@[simp] theorem onLoop_jrn (p : Fin 32) (f : Loop → Loop) (d : Dev) : (onLoop p f d).jrn = d.jrn := (rfl)
@[simp] theorem onLoop_sys (p : Fin 32) (f : Loop → Loop) (d : Dev) : (onLoop p f d).sys = d.sys := (rfl)
@[simp] theorem onLoop_loss (p : Fin 32) (f : Loop → Loop) (d : Dev) : (onLoop p f d).loss = d.loss := (rfl)
@[simp] theorem onLoop_tap (p : Fin 32) (f : Loop → Loop) (d : Dev) : (onLoop p f d).tap = d.tap := (rfl)
@[simp] theorem onLoop_ringMem (p : Fin 32) (f : Loop → Loop) (d : Dev) : (onLoop p f d).ringMem = d.ringMem := (rfl)
@[simp] theorem onLoop_parcel (p : Fin 32) (f : Loop → Loop) (d : Dev) : (onLoop p f d).parcel = d.parcel := (rfl)
@[simp] theorem onLoop_timers (p : Fin 32) (f : Loop → Loop) (d : Dev) : (onLoop p f d).timers = d.timers := (rfl)
@[simp] theorem onLoop_freeCtr (p : Fin 32) (f : Loop → Loop) (d : Dev) : (onLoop p f d).freeCtr = d.freeCtr := (rfl)

@[simp] theorem onPhase_cfg (n : Fin 64) (f : Phase → Phase) (d : Dev) : (onPhase n f d).cfg = d.cfg := (rfl)
@[simp] theorem onPhase_cfgNew (n : Fin 64) (f : Phase → Phase) (d : Dev) : (onPhase n f d).cfgNew = d.cfgNew := (rfl)
@[simp] theorem onPhase_ports (n : Fin 64) (f : Phase → Phase) (d : Dev) : (onPhase n f d).ports = d.ports := (rfl)
@[simp] theorem onPhase_pd (n : Fin 64) (f : Phase → Phase) (d : Dev) : (onPhase n f d).pd = d.pd := (rfl)
@[simp] theorem onPhase_guards (n : Fin 64) (f : Phase → Phase) (d : Dev) : (onPhase n f d).guards = d.guards := (rfl)
@[simp] theorem onPhase_loops (n : Fin 64) (f : Phase → Phase) (d : Dev) : (onPhase n f d).loops = d.loops := (rfl)
@[simp] theorem onPhase_phases (n : Fin 64) (f : Phase → Phase) (d : Dev) : (onPhase n f d).phases = Machine.upd d.phases n f := (rfl)
@[simp] theorem onPhase_chans (n : Fin 64) (f : Phase → Phase) (d : Dev) : (onPhase n f d).chans = d.chans := (rfl)
@[simp] theorem onPhase_groups (n : Fin 64) (f : Phase → Phase) (d : Dev) : (onPhase n f d).groups = d.groups := (rfl)
@[simp] theorem onPhase_convs (n : Fin 64) (f : Phase → Phase) (d : Dev) : (onPhase n f d).convs = d.convs := (rfl)
@[simp] theorem onPhase_feeds (n : Fin 64) (f : Phase → Phase) (d : Dev) : (onPhase n f d).feeds = d.feeds := (rfl)
@[simp] theorem onPhase_posts (n : Fin 64) (f : Phase → Phase) (d : Dev) : (onPhase n f d).posts = d.posts := (rfl)
@[simp] theorem onPhase_ledger (n : Fin 64) (f : Phase → Phase) (d : Dev) : (onPhase n f d).ledger = d.ledger := (rfl)
@[simp] theorem onPhase_twin (n : Fin 64) (f : Phase → Phase) (d : Dev) : (onPhase n f d).twin = d.twin := (rfl)
@[simp] theorem onPhase_tmr (n : Fin 64) (f : Phase → Phase) (d : Dev) : (onPhase n f d).tmr = d.tmr := (rfl)
@[simp] theorem onPhase_alarms (n : Fin 64) (f : Phase → Phase) (d : Dev) : (onPhase n f d).alarms = d.alarms := (rfl)
@[simp] theorem onPhase_itms (n : Fin 64) (f : Phase → Phase) (d : Dev) : (onPhase n f d).itms = d.itms := (rfl)
@[simp] theorem onPhase_sources (n : Fin 64) (f : Phase → Phase) (d : Dev) : (onPhase n f d).sources = d.sources := (rfl)
@[simp] theorem onPhase_coll (n : Fin 64) (f : Phase → Phase) (d : Dev) : (onPhase n f d).coll = d.coll := (rfl)
@[simp] theorem onPhase_host (n : Fin 64) (f : Phase → Phase) (d : Dev) : (onPhase n f d).host = d.host := (rfl)
@[simp] theorem onPhase_net (n : Fin 64) (f : Phase → Phase) (d : Dev) : (onPhase n f d).net = d.net := (rfl)
@[simp] theorem onPhase_upd (n : Fin 64) (f : Phase → Phase) (d : Dev) : (onPhase n f d).upd = d.upd := (rfl)
@[simp] theorem onPhase_store (n : Fin 64) (f : Phase → Phase) (d : Dev) : (onPhase n f d).store = d.store := (rfl)
@[simp] theorem onPhase_jrn (n : Fin 64) (f : Phase → Phase) (d : Dev) : (onPhase n f d).jrn = d.jrn := (rfl)
@[simp] theorem onPhase_sys (n : Fin 64) (f : Phase → Phase) (d : Dev) : (onPhase n f d).sys = d.sys := (rfl)
@[simp] theorem onPhase_loss (n : Fin 64) (f : Phase → Phase) (d : Dev) : (onPhase n f d).loss = d.loss := (rfl)
@[simp] theorem onPhase_tap (n : Fin 64) (f : Phase → Phase) (d : Dev) : (onPhase n f d).tap = d.tap := (rfl)
@[simp] theorem onPhase_ringMem (n : Fin 64) (f : Phase → Phase) (d : Dev) : (onPhase n f d).ringMem = d.ringMem := (rfl)
@[simp] theorem onPhase_parcel (n : Fin 64) (f : Phase → Phase) (d : Dev) : (onPhase n f d).parcel = d.parcel := (rfl)
@[simp] theorem onPhase_timers (n : Fin 64) (f : Phase → Phase) (d : Dev) : (onPhase n f d).timers = d.timers := (rfl)
@[simp] theorem onPhase_freeCtr (n : Fin 64) (f : Phase → Phase) (d : Dev) : (onPhase n f d).freeCtr = d.freeCtr := (rfl)

@[simp] theorem onChan_cfg (c : Fin 204) (f : Chan → Chan) (d : Dev) : (onChan c f d).cfg = d.cfg := (rfl)
@[simp] theorem onChan_cfgNew (c : Fin 204) (f : Chan → Chan) (d : Dev) : (onChan c f d).cfgNew = d.cfgNew := (rfl)
@[simp] theorem onChan_ports (c : Fin 204) (f : Chan → Chan) (d : Dev) : (onChan c f d).ports = d.ports := (rfl)
@[simp] theorem onChan_pd (c : Fin 204) (f : Chan → Chan) (d : Dev) : (onChan c f d).pd = d.pd := (rfl)
@[simp] theorem onChan_guards (c : Fin 204) (f : Chan → Chan) (d : Dev) : (onChan c f d).guards = d.guards := (rfl)
@[simp] theorem onChan_loops (c : Fin 204) (f : Chan → Chan) (d : Dev) : (onChan c f d).loops = d.loops := (rfl)
@[simp] theorem onChan_phases (c : Fin 204) (f : Chan → Chan) (d : Dev) : (onChan c f d).phases = d.phases := (rfl)
@[simp] theorem onChan_chans (c : Fin 204) (f : Chan → Chan) (d : Dev) : (onChan c f d).chans = Machine.upd d.chans c f := (rfl)
@[simp] theorem onChan_groups (c : Fin 204) (f : Chan → Chan) (d : Dev) : (onChan c f d).groups = d.groups := (rfl)
@[simp] theorem onChan_convs (c : Fin 204) (f : Chan → Chan) (d : Dev) : (onChan c f d).convs = d.convs := (rfl)
@[simp] theorem onChan_feeds (c : Fin 204) (f : Chan → Chan) (d : Dev) : (onChan c f d).feeds = d.feeds := (rfl)
@[simp] theorem onChan_posts (c : Fin 204) (f : Chan → Chan) (d : Dev) : (onChan c f d).posts = d.posts := (rfl)
@[simp] theorem onChan_ledger (c : Fin 204) (f : Chan → Chan) (d : Dev) : (onChan c f d).ledger = d.ledger := (rfl)
@[simp] theorem onChan_twin (c : Fin 204) (f : Chan → Chan) (d : Dev) : (onChan c f d).twin = d.twin := (rfl)
@[simp] theorem onChan_tmr (c : Fin 204) (f : Chan → Chan) (d : Dev) : (onChan c f d).tmr = d.tmr := (rfl)
@[simp] theorem onChan_alarms (c : Fin 204) (f : Chan → Chan) (d : Dev) : (onChan c f d).alarms = d.alarms := (rfl)
@[simp] theorem onChan_itms (c : Fin 204) (f : Chan → Chan) (d : Dev) : (onChan c f d).itms = d.itms := (rfl)
@[simp] theorem onChan_sources (c : Fin 204) (f : Chan → Chan) (d : Dev) : (onChan c f d).sources = d.sources := (rfl)
@[simp] theorem onChan_coll (c : Fin 204) (f : Chan → Chan) (d : Dev) : (onChan c f d).coll = d.coll := (rfl)
@[simp] theorem onChan_host (c : Fin 204) (f : Chan → Chan) (d : Dev) : (onChan c f d).host = d.host := (rfl)
@[simp] theorem onChan_net (c : Fin 204) (f : Chan → Chan) (d : Dev) : (onChan c f d).net = d.net := (rfl)
@[simp] theorem onChan_upd (c : Fin 204) (f : Chan → Chan) (d : Dev) : (onChan c f d).upd = d.upd := (rfl)
@[simp] theorem onChan_store (c : Fin 204) (f : Chan → Chan) (d : Dev) : (onChan c f d).store = d.store := (rfl)
@[simp] theorem onChan_jrn (c : Fin 204) (f : Chan → Chan) (d : Dev) : (onChan c f d).jrn = d.jrn := (rfl)
@[simp] theorem onChan_sys (c : Fin 204) (f : Chan → Chan) (d : Dev) : (onChan c f d).sys = d.sys := (rfl)
@[simp] theorem onChan_loss (c : Fin 204) (f : Chan → Chan) (d : Dev) : (onChan c f d).loss = d.loss := (rfl)
@[simp] theorem onChan_tap (c : Fin 204) (f : Chan → Chan) (d : Dev) : (onChan c f d).tap = d.tap := (rfl)
@[simp] theorem onChan_ringMem (c : Fin 204) (f : Chan → Chan) (d : Dev) : (onChan c f d).ringMem = d.ringMem := (rfl)
@[simp] theorem onChan_parcel (c : Fin 204) (f : Chan → Chan) (d : Dev) : (onChan c f d).parcel = d.parcel := (rfl)
@[simp] theorem onChan_timers (c : Fin 204) (f : Chan → Chan) (d : Dev) : (onChan c f d).timers = d.timers := (rfl)
@[simp] theorem onChan_freeCtr (c : Fin 204) (f : Chan → Chan) (d : Dev) : (onChan c f d).freeCtr = d.freeCtr := (rfl)

@[simp] theorem onGroup_cfg (g : Fin 25) (f : CalGroup → CalGroup) (d : Dev) : (onGroup g f d).cfg = d.cfg := (rfl)
@[simp] theorem onGroup_cfgNew (g : Fin 25) (f : CalGroup → CalGroup) (d : Dev) : (onGroup g f d).cfgNew = d.cfgNew := (rfl)
@[simp] theorem onGroup_ports (g : Fin 25) (f : CalGroup → CalGroup) (d : Dev) : (onGroup g f d).ports = d.ports := (rfl)
@[simp] theorem onGroup_pd (g : Fin 25) (f : CalGroup → CalGroup) (d : Dev) : (onGroup g f d).pd = d.pd := (rfl)
@[simp] theorem onGroup_guards (g : Fin 25) (f : CalGroup → CalGroup) (d : Dev) : (onGroup g f d).guards = d.guards := (rfl)
@[simp] theorem onGroup_loops (g : Fin 25) (f : CalGroup → CalGroup) (d : Dev) : (onGroup g f d).loops = d.loops := (rfl)
@[simp] theorem onGroup_phases (g : Fin 25) (f : CalGroup → CalGroup) (d : Dev) : (onGroup g f d).phases = d.phases := (rfl)
@[simp] theorem onGroup_chans (g : Fin 25) (f : CalGroup → CalGroup) (d : Dev) : (onGroup g f d).chans = d.chans := (rfl)
@[simp] theorem onGroup_groups (g : Fin 25) (f : CalGroup → CalGroup) (d : Dev) : (onGroup g f d).groups = Machine.upd d.groups g f := (rfl)
@[simp] theorem onGroup_convs (g : Fin 25) (f : CalGroup → CalGroup) (d : Dev) : (onGroup g f d).convs = d.convs := (rfl)
@[simp] theorem onGroup_feeds (g : Fin 25) (f : CalGroup → CalGroup) (d : Dev) : (onGroup g f d).feeds = d.feeds := (rfl)
@[simp] theorem onGroup_posts (g : Fin 25) (f : CalGroup → CalGroup) (d : Dev) : (onGroup g f d).posts = d.posts := (rfl)
@[simp] theorem onGroup_ledger (g : Fin 25) (f : CalGroup → CalGroup) (d : Dev) : (onGroup g f d).ledger = d.ledger := (rfl)
@[simp] theorem onGroup_twin (g : Fin 25) (f : CalGroup → CalGroup) (d : Dev) : (onGroup g f d).twin = d.twin := (rfl)
@[simp] theorem onGroup_tmr (g : Fin 25) (f : CalGroup → CalGroup) (d : Dev) : (onGroup g f d).tmr = d.tmr := (rfl)
@[simp] theorem onGroup_alarms (g : Fin 25) (f : CalGroup → CalGroup) (d : Dev) : (onGroup g f d).alarms = d.alarms := (rfl)
@[simp] theorem onGroup_itms (g : Fin 25) (f : CalGroup → CalGroup) (d : Dev) : (onGroup g f d).itms = d.itms := (rfl)
@[simp] theorem onGroup_sources (g : Fin 25) (f : CalGroup → CalGroup) (d : Dev) : (onGroup g f d).sources = d.sources := (rfl)
@[simp] theorem onGroup_coll (g : Fin 25) (f : CalGroup → CalGroup) (d : Dev) : (onGroup g f d).coll = d.coll := (rfl)
@[simp] theorem onGroup_host (g : Fin 25) (f : CalGroup → CalGroup) (d : Dev) : (onGroup g f d).host = d.host := (rfl)
@[simp] theorem onGroup_net (g : Fin 25) (f : CalGroup → CalGroup) (d : Dev) : (onGroup g f d).net = d.net := (rfl)
@[simp] theorem onGroup_upd (g : Fin 25) (f : CalGroup → CalGroup) (d : Dev) : (onGroup g f d).upd = d.upd := (rfl)
@[simp] theorem onGroup_store (g : Fin 25) (f : CalGroup → CalGroup) (d : Dev) : (onGroup g f d).store = d.store := (rfl)
@[simp] theorem onGroup_jrn (g : Fin 25) (f : CalGroup → CalGroup) (d : Dev) : (onGroup g f d).jrn = d.jrn := (rfl)
@[simp] theorem onGroup_sys (g : Fin 25) (f : CalGroup → CalGroup) (d : Dev) : (onGroup g f d).sys = d.sys := (rfl)
@[simp] theorem onGroup_loss (g : Fin 25) (f : CalGroup → CalGroup) (d : Dev) : (onGroup g f d).loss = d.loss := (rfl)
@[simp] theorem onGroup_tap (g : Fin 25) (f : CalGroup → CalGroup) (d : Dev) : (onGroup g f d).tap = d.tap := (rfl)
@[simp] theorem onGroup_ringMem (g : Fin 25) (f : CalGroup → CalGroup) (d : Dev) : (onGroup g f d).ringMem = d.ringMem := (rfl)
@[simp] theorem onGroup_parcel (g : Fin 25) (f : CalGroup → CalGroup) (d : Dev) : (onGroup g f d).parcel = d.parcel := (rfl)
@[simp] theorem onGroup_timers (g : Fin 25) (f : CalGroup → CalGroup) (d : Dev) : (onGroup g f d).timers = d.timers := (rfl)
@[simp] theorem onGroup_freeCtr (g : Fin 25) (f : CalGroup → CalGroup) (d : Dev) : (onGroup g f d).freeCtr = d.freeCtr := (rfl)

@[simp] theorem onConv_cfg (c : Fin 5) (f : Converter → Converter) (d : Dev) : (onConv c f d).cfg = d.cfg := (rfl)
@[simp] theorem onConv_cfgNew (c : Fin 5) (f : Converter → Converter) (d : Dev) : (onConv c f d).cfgNew = d.cfgNew := (rfl)
@[simp] theorem onConv_ports (c : Fin 5) (f : Converter → Converter) (d : Dev) : (onConv c f d).ports = d.ports := (rfl)
@[simp] theorem onConv_pd (c : Fin 5) (f : Converter → Converter) (d : Dev) : (onConv c f d).pd = d.pd := (rfl)
@[simp] theorem onConv_guards (c : Fin 5) (f : Converter → Converter) (d : Dev) : (onConv c f d).guards = d.guards := (rfl)
@[simp] theorem onConv_loops (c : Fin 5) (f : Converter → Converter) (d : Dev) : (onConv c f d).loops = d.loops := (rfl)
@[simp] theorem onConv_phases (c : Fin 5) (f : Converter → Converter) (d : Dev) : (onConv c f d).phases = d.phases := (rfl)
@[simp] theorem onConv_chans (c : Fin 5) (f : Converter → Converter) (d : Dev) : (onConv c f d).chans = d.chans := (rfl)
@[simp] theorem onConv_groups (c : Fin 5) (f : Converter → Converter) (d : Dev) : (onConv c f d).groups = d.groups := (rfl)
@[simp] theorem onConv_convs (c : Fin 5) (f : Converter → Converter) (d : Dev) : (onConv c f d).convs = Machine.upd d.convs c f := (rfl)
@[simp] theorem onConv_feeds (c : Fin 5) (f : Converter → Converter) (d : Dev) : (onConv c f d).feeds = d.feeds := (rfl)
@[simp] theorem onConv_posts (c : Fin 5) (f : Converter → Converter) (d : Dev) : (onConv c f d).posts = d.posts := (rfl)
@[simp] theorem onConv_ledger (c : Fin 5) (f : Converter → Converter) (d : Dev) : (onConv c f d).ledger = d.ledger := (rfl)
@[simp] theorem onConv_twin (c : Fin 5) (f : Converter → Converter) (d : Dev) : (onConv c f d).twin = d.twin := (rfl)
@[simp] theorem onConv_tmr (c : Fin 5) (f : Converter → Converter) (d : Dev) : (onConv c f d).tmr = d.tmr := (rfl)
@[simp] theorem onConv_alarms (c : Fin 5) (f : Converter → Converter) (d : Dev) : (onConv c f d).alarms = d.alarms := (rfl)
@[simp] theorem onConv_itms (c : Fin 5) (f : Converter → Converter) (d : Dev) : (onConv c f d).itms = d.itms := (rfl)
@[simp] theorem onConv_sources (c : Fin 5) (f : Converter → Converter) (d : Dev) : (onConv c f d).sources = d.sources := (rfl)
@[simp] theorem onConv_coll (c : Fin 5) (f : Converter → Converter) (d : Dev) : (onConv c f d).coll = d.coll := (rfl)
@[simp] theorem onConv_host (c : Fin 5) (f : Converter → Converter) (d : Dev) : (onConv c f d).host = d.host := (rfl)
@[simp] theorem onConv_net (c : Fin 5) (f : Converter → Converter) (d : Dev) : (onConv c f d).net = d.net := (rfl)
@[simp] theorem onConv_upd (c : Fin 5) (f : Converter → Converter) (d : Dev) : (onConv c f d).upd = d.upd := (rfl)
@[simp] theorem onConv_store (c : Fin 5) (f : Converter → Converter) (d : Dev) : (onConv c f d).store = d.store := (rfl)
@[simp] theorem onConv_jrn (c : Fin 5) (f : Converter → Converter) (d : Dev) : (onConv c f d).jrn = d.jrn := (rfl)
@[simp] theorem onConv_sys (c : Fin 5) (f : Converter → Converter) (d : Dev) : (onConv c f d).sys = d.sys := (rfl)
@[simp] theorem onConv_loss (c : Fin 5) (f : Converter → Converter) (d : Dev) : (onConv c f d).loss = d.loss := (rfl)
@[simp] theorem onConv_tap (c : Fin 5) (f : Converter → Converter) (d : Dev) : (onConv c f d).tap = d.tap := (rfl)
@[simp] theorem onConv_ringMem (c : Fin 5) (f : Converter → Converter) (d : Dev) : (onConv c f d).ringMem = d.ringMem := (rfl)
@[simp] theorem onConv_parcel (c : Fin 5) (f : Converter → Converter) (d : Dev) : (onConv c f d).parcel = d.parcel := (rfl)
@[simp] theorem onConv_timers (c : Fin 5) (f : Converter → Converter) (d : Dev) : (onConv c f d).timers = d.timers := (rfl)
@[simp] theorem onConv_freeCtr (c : Fin 5) (f : Converter → Converter) (d : Dev) : (onConv c f d).freeCtr = d.freeCtr := (rfl)

@[simp] theorem onFeed_cfg (i : Fin 4) (f : Feed → Feed) (d : Dev) : (onFeed i f d).cfg = d.cfg := (rfl)
@[simp] theorem onFeed_cfgNew (i : Fin 4) (f : Feed → Feed) (d : Dev) : (onFeed i f d).cfgNew = d.cfgNew := (rfl)
@[simp] theorem onFeed_ports (i : Fin 4) (f : Feed → Feed) (d : Dev) : (onFeed i f d).ports = d.ports := (rfl)
@[simp] theorem onFeed_pd (i : Fin 4) (f : Feed → Feed) (d : Dev) : (onFeed i f d).pd = d.pd := (rfl)
@[simp] theorem onFeed_guards (i : Fin 4) (f : Feed → Feed) (d : Dev) : (onFeed i f d).guards = d.guards := (rfl)
@[simp] theorem onFeed_loops (i : Fin 4) (f : Feed → Feed) (d : Dev) : (onFeed i f d).loops = d.loops := (rfl)
@[simp] theorem onFeed_phases (i : Fin 4) (f : Feed → Feed) (d : Dev) : (onFeed i f d).phases = d.phases := (rfl)
@[simp] theorem onFeed_chans (i : Fin 4) (f : Feed → Feed) (d : Dev) : (onFeed i f d).chans = d.chans := (rfl)
@[simp] theorem onFeed_groups (i : Fin 4) (f : Feed → Feed) (d : Dev) : (onFeed i f d).groups = d.groups := (rfl)
@[simp] theorem onFeed_convs (i : Fin 4) (f : Feed → Feed) (d : Dev) : (onFeed i f d).convs = d.convs := (rfl)
@[simp] theorem onFeed_feeds (i : Fin 4) (f : Feed → Feed) (d : Dev) : (onFeed i f d).feeds = Machine.upd d.feeds i f := (rfl)
@[simp] theorem onFeed_posts (i : Fin 4) (f : Feed → Feed) (d : Dev) : (onFeed i f d).posts = d.posts := (rfl)
@[simp] theorem onFeed_ledger (i : Fin 4) (f : Feed → Feed) (d : Dev) : (onFeed i f d).ledger = d.ledger := (rfl)
@[simp] theorem onFeed_twin (i : Fin 4) (f : Feed → Feed) (d : Dev) : (onFeed i f d).twin = d.twin := (rfl)
@[simp] theorem onFeed_tmr (i : Fin 4) (f : Feed → Feed) (d : Dev) : (onFeed i f d).tmr = d.tmr := (rfl)
@[simp] theorem onFeed_alarms (i : Fin 4) (f : Feed → Feed) (d : Dev) : (onFeed i f d).alarms = d.alarms := (rfl)
@[simp] theorem onFeed_itms (i : Fin 4) (f : Feed → Feed) (d : Dev) : (onFeed i f d).itms = d.itms := (rfl)
@[simp] theorem onFeed_sources (i : Fin 4) (f : Feed → Feed) (d : Dev) : (onFeed i f d).sources = d.sources := (rfl)
@[simp] theorem onFeed_coll (i : Fin 4) (f : Feed → Feed) (d : Dev) : (onFeed i f d).coll = d.coll := (rfl)
@[simp] theorem onFeed_host (i : Fin 4) (f : Feed → Feed) (d : Dev) : (onFeed i f d).host = d.host := (rfl)
@[simp] theorem onFeed_net (i : Fin 4) (f : Feed → Feed) (d : Dev) : (onFeed i f d).net = d.net := (rfl)
@[simp] theorem onFeed_upd (i : Fin 4) (f : Feed → Feed) (d : Dev) : (onFeed i f d).upd = d.upd := (rfl)
@[simp] theorem onFeed_store (i : Fin 4) (f : Feed → Feed) (d : Dev) : (onFeed i f d).store = d.store := (rfl)
@[simp] theorem onFeed_jrn (i : Fin 4) (f : Feed → Feed) (d : Dev) : (onFeed i f d).jrn = d.jrn := (rfl)
@[simp] theorem onFeed_sys (i : Fin 4) (f : Feed → Feed) (d : Dev) : (onFeed i f d).sys = d.sys := (rfl)
@[simp] theorem onFeed_loss (i : Fin 4) (f : Feed → Feed) (d : Dev) : (onFeed i f d).loss = d.loss := (rfl)
@[simp] theorem onFeed_tap (i : Fin 4) (f : Feed → Feed) (d : Dev) : (onFeed i f d).tap = d.tap := (rfl)
@[simp] theorem onFeed_ringMem (i : Fin 4) (f : Feed → Feed) (d : Dev) : (onFeed i f d).ringMem = d.ringMem := (rfl)
@[simp] theorem onFeed_parcel (i : Fin 4) (f : Feed → Feed) (d : Dev) : (onFeed i f d).parcel = d.parcel := (rfl)
@[simp] theorem onFeed_timers (i : Fin 4) (f : Feed → Feed) (d : Dev) : (onFeed i f d).timers = d.timers := (rfl)
@[simp] theorem onFeed_freeCtr (i : Fin 4) (f : Feed → Feed) (d : Dev) : (onFeed i f d).freeCtr = d.freeCtr := (rfl)

@[simp] theorem onPost_cfg (l : Fin 3) (f : Post → Post) (d : Dev) : (onPost l f d).cfg = d.cfg := (rfl)
@[simp] theorem onPost_cfgNew (l : Fin 3) (f : Post → Post) (d : Dev) : (onPost l f d).cfgNew = d.cfgNew := (rfl)
@[simp] theorem onPost_ports (l : Fin 3) (f : Post → Post) (d : Dev) : (onPost l f d).ports = d.ports := (rfl)
@[simp] theorem onPost_pd (l : Fin 3) (f : Post → Post) (d : Dev) : (onPost l f d).pd = d.pd := (rfl)
@[simp] theorem onPost_guards (l : Fin 3) (f : Post → Post) (d : Dev) : (onPost l f d).guards = d.guards := (rfl)
@[simp] theorem onPost_loops (l : Fin 3) (f : Post → Post) (d : Dev) : (onPost l f d).loops = d.loops := (rfl)
@[simp] theorem onPost_phases (l : Fin 3) (f : Post → Post) (d : Dev) : (onPost l f d).phases = d.phases := (rfl)
@[simp] theorem onPost_chans (l : Fin 3) (f : Post → Post) (d : Dev) : (onPost l f d).chans = d.chans := (rfl)
@[simp] theorem onPost_groups (l : Fin 3) (f : Post → Post) (d : Dev) : (onPost l f d).groups = d.groups := (rfl)
@[simp] theorem onPost_convs (l : Fin 3) (f : Post → Post) (d : Dev) : (onPost l f d).convs = d.convs := (rfl)
@[simp] theorem onPost_feeds (l : Fin 3) (f : Post → Post) (d : Dev) : (onPost l f d).feeds = d.feeds := (rfl)
@[simp] theorem onPost_posts (l : Fin 3) (f : Post → Post) (d : Dev) : (onPost l f d).posts = Machine.upd d.posts l f := (rfl)
@[simp] theorem onPost_ledger (l : Fin 3) (f : Post → Post) (d : Dev) : (onPost l f d).ledger = d.ledger := (rfl)
@[simp] theorem onPost_twin (l : Fin 3) (f : Post → Post) (d : Dev) : (onPost l f d).twin = d.twin := (rfl)
@[simp] theorem onPost_tmr (l : Fin 3) (f : Post → Post) (d : Dev) : (onPost l f d).tmr = d.tmr := (rfl)
@[simp] theorem onPost_alarms (l : Fin 3) (f : Post → Post) (d : Dev) : (onPost l f d).alarms = d.alarms := (rfl)
@[simp] theorem onPost_itms (l : Fin 3) (f : Post → Post) (d : Dev) : (onPost l f d).itms = d.itms := (rfl)
@[simp] theorem onPost_sources (l : Fin 3) (f : Post → Post) (d : Dev) : (onPost l f d).sources = d.sources := (rfl)
@[simp] theorem onPost_coll (l : Fin 3) (f : Post → Post) (d : Dev) : (onPost l f d).coll = d.coll := (rfl)
@[simp] theorem onPost_host (l : Fin 3) (f : Post → Post) (d : Dev) : (onPost l f d).host = d.host := (rfl)
@[simp] theorem onPost_net (l : Fin 3) (f : Post → Post) (d : Dev) : (onPost l f d).net = d.net := (rfl)
@[simp] theorem onPost_upd (l : Fin 3) (f : Post → Post) (d : Dev) : (onPost l f d).upd = d.upd := (rfl)
@[simp] theorem onPost_store (l : Fin 3) (f : Post → Post) (d : Dev) : (onPost l f d).store = d.store := (rfl)
@[simp] theorem onPost_jrn (l : Fin 3) (f : Post → Post) (d : Dev) : (onPost l f d).jrn = d.jrn := (rfl)
@[simp] theorem onPost_sys (l : Fin 3) (f : Post → Post) (d : Dev) : (onPost l f d).sys = d.sys := (rfl)
@[simp] theorem onPost_loss (l : Fin 3) (f : Post → Post) (d : Dev) : (onPost l f d).loss = d.loss := (rfl)
@[simp] theorem onPost_tap (l : Fin 3) (f : Post → Post) (d : Dev) : (onPost l f d).tap = d.tap := (rfl)
@[simp] theorem onPost_ringMem (l : Fin 3) (f : Post → Post) (d : Dev) : (onPost l f d).ringMem = d.ringMem := (rfl)
@[simp] theorem onPost_parcel (l : Fin 3) (f : Post → Post) (d : Dev) : (onPost l f d).parcel = d.parcel := (rfl)
@[simp] theorem onPost_timers (l : Fin 3) (f : Post → Post) (d : Dev) : (onPost l f d).timers = d.timers := (rfl)
@[simp] theorem onPost_freeCtr (l : Fin 3) (f : Post → Post) (d : Dev) : (onPost l f d).freeCtr = d.freeCtr := (rfl)

@[simp] theorem onLedger_cfg (f : Ledger → Ledger) (d : Dev) : (onLedger f d).cfg = d.cfg := (rfl)
@[simp] theorem onLedger_cfgNew (f : Ledger → Ledger) (d : Dev) : (onLedger f d).cfgNew = d.cfgNew := (rfl)
@[simp] theorem onLedger_ports (f : Ledger → Ledger) (d : Dev) : (onLedger f d).ports = d.ports := (rfl)
@[simp] theorem onLedger_pd (f : Ledger → Ledger) (d : Dev) : (onLedger f d).pd = d.pd := (rfl)
@[simp] theorem onLedger_guards (f : Ledger → Ledger) (d : Dev) : (onLedger f d).guards = d.guards := (rfl)
@[simp] theorem onLedger_loops (f : Ledger → Ledger) (d : Dev) : (onLedger f d).loops = d.loops := (rfl)
@[simp] theorem onLedger_phases (f : Ledger → Ledger) (d : Dev) : (onLedger f d).phases = d.phases := (rfl)
@[simp] theorem onLedger_chans (f : Ledger → Ledger) (d : Dev) : (onLedger f d).chans = d.chans := (rfl)
@[simp] theorem onLedger_groups (f : Ledger → Ledger) (d : Dev) : (onLedger f d).groups = d.groups := (rfl)
@[simp] theorem onLedger_convs (f : Ledger → Ledger) (d : Dev) : (onLedger f d).convs = d.convs := (rfl)
@[simp] theorem onLedger_feeds (f : Ledger → Ledger) (d : Dev) : (onLedger f d).feeds = d.feeds := (rfl)
@[simp] theorem onLedger_posts (f : Ledger → Ledger) (d : Dev) : (onLedger f d).posts = d.posts := (rfl)
@[simp] theorem onLedger_ledger (f : Ledger → Ledger) (d : Dev) : (onLedger f d).ledger = f d.ledger := (rfl)
@[simp] theorem onLedger_twin (f : Ledger → Ledger) (d : Dev) : (onLedger f d).twin = d.twin := (rfl)
@[simp] theorem onLedger_tmr (f : Ledger → Ledger) (d : Dev) : (onLedger f d).tmr = d.tmr := (rfl)
@[simp] theorem onLedger_alarms (f : Ledger → Ledger) (d : Dev) : (onLedger f d).alarms = d.alarms := (rfl)
@[simp] theorem onLedger_itms (f : Ledger → Ledger) (d : Dev) : (onLedger f d).itms = d.itms := (rfl)
@[simp] theorem onLedger_sources (f : Ledger → Ledger) (d : Dev) : (onLedger f d).sources = d.sources := (rfl)
@[simp] theorem onLedger_coll (f : Ledger → Ledger) (d : Dev) : (onLedger f d).coll = d.coll := (rfl)
@[simp] theorem onLedger_host (f : Ledger → Ledger) (d : Dev) : (onLedger f d).host = d.host := (rfl)
@[simp] theorem onLedger_net (f : Ledger → Ledger) (d : Dev) : (onLedger f d).net = d.net := (rfl)
@[simp] theorem onLedger_upd (f : Ledger → Ledger) (d : Dev) : (onLedger f d).upd = d.upd := (rfl)
@[simp] theorem onLedger_store (f : Ledger → Ledger) (d : Dev) : (onLedger f d).store = d.store := (rfl)
@[simp] theorem onLedger_jrn (f : Ledger → Ledger) (d : Dev) : (onLedger f d).jrn = d.jrn := (rfl)
@[simp] theorem onLedger_sys (f : Ledger → Ledger) (d : Dev) : (onLedger f d).sys = d.sys := (rfl)
@[simp] theorem onLedger_loss (f : Ledger → Ledger) (d : Dev) : (onLedger f d).loss = d.loss := (rfl)
@[simp] theorem onLedger_tap (f : Ledger → Ledger) (d : Dev) : (onLedger f d).tap = d.tap := (rfl)
@[simp] theorem onLedger_ringMem (f : Ledger → Ledger) (d : Dev) : (onLedger f d).ringMem = d.ringMem := (rfl)
@[simp] theorem onLedger_parcel (f : Ledger → Ledger) (d : Dev) : (onLedger f d).parcel = d.parcel := (rfl)
@[simp] theorem onLedger_timers (f : Ledger → Ledger) (d : Dev) : (onLedger f d).timers = d.timers := (rfl)
@[simp] theorem onLedger_freeCtr (f : Ledger → Ledger) (d : Dev) : (onLedger f d).freeCtr = d.freeCtr := (rfl)

@[simp] theorem onTwin_cfg (f : Twin → Twin) (d : Dev) : (onTwin f d).cfg = d.cfg := (rfl)
@[simp] theorem onTwin_cfgNew (f : Twin → Twin) (d : Dev) : (onTwin f d).cfgNew = d.cfgNew := (rfl)
@[simp] theorem onTwin_ports (f : Twin → Twin) (d : Dev) : (onTwin f d).ports = d.ports := (rfl)
@[simp] theorem onTwin_pd (f : Twin → Twin) (d : Dev) : (onTwin f d).pd = d.pd := (rfl)
@[simp] theorem onTwin_guards (f : Twin → Twin) (d : Dev) : (onTwin f d).guards = d.guards := (rfl)
@[simp] theorem onTwin_loops (f : Twin → Twin) (d : Dev) : (onTwin f d).loops = d.loops := (rfl)
@[simp] theorem onTwin_phases (f : Twin → Twin) (d : Dev) : (onTwin f d).phases = d.phases := (rfl)
@[simp] theorem onTwin_chans (f : Twin → Twin) (d : Dev) : (onTwin f d).chans = d.chans := (rfl)
@[simp] theorem onTwin_groups (f : Twin → Twin) (d : Dev) : (onTwin f d).groups = d.groups := (rfl)
@[simp] theorem onTwin_convs (f : Twin → Twin) (d : Dev) : (onTwin f d).convs = d.convs := (rfl)
@[simp] theorem onTwin_feeds (f : Twin → Twin) (d : Dev) : (onTwin f d).feeds = d.feeds := (rfl)
@[simp] theorem onTwin_posts (f : Twin → Twin) (d : Dev) : (onTwin f d).posts = d.posts := (rfl)
@[simp] theorem onTwin_ledger (f : Twin → Twin) (d : Dev) : (onTwin f d).ledger = d.ledger := (rfl)
@[simp] theorem onTwin_twin (f : Twin → Twin) (d : Dev) : (onTwin f d).twin = f d.twin := (rfl)
@[simp] theorem onTwin_tmr (f : Twin → Twin) (d : Dev) : (onTwin f d).tmr = d.tmr := (rfl)
@[simp] theorem onTwin_alarms (f : Twin → Twin) (d : Dev) : (onTwin f d).alarms = d.alarms := (rfl)
@[simp] theorem onTwin_itms (f : Twin → Twin) (d : Dev) : (onTwin f d).itms = d.itms := (rfl)
@[simp] theorem onTwin_sources (f : Twin → Twin) (d : Dev) : (onTwin f d).sources = d.sources := (rfl)
@[simp] theorem onTwin_coll (f : Twin → Twin) (d : Dev) : (onTwin f d).coll = d.coll := (rfl)
@[simp] theorem onTwin_host (f : Twin → Twin) (d : Dev) : (onTwin f d).host = d.host := (rfl)
@[simp] theorem onTwin_net (f : Twin → Twin) (d : Dev) : (onTwin f d).net = d.net := (rfl)
@[simp] theorem onTwin_upd (f : Twin → Twin) (d : Dev) : (onTwin f d).upd = d.upd := (rfl)
@[simp] theorem onTwin_store (f : Twin → Twin) (d : Dev) : (onTwin f d).store = d.store := (rfl)
@[simp] theorem onTwin_jrn (f : Twin → Twin) (d : Dev) : (onTwin f d).jrn = d.jrn := (rfl)
@[simp] theorem onTwin_sys (f : Twin → Twin) (d : Dev) : (onTwin f d).sys = d.sys := (rfl)
@[simp] theorem onTwin_loss (f : Twin → Twin) (d : Dev) : (onTwin f d).loss = d.loss := (rfl)
@[simp] theorem onTwin_tap (f : Twin → Twin) (d : Dev) : (onTwin f d).tap = d.tap := (rfl)
@[simp] theorem onTwin_ringMem (f : Twin → Twin) (d : Dev) : (onTwin f d).ringMem = d.ringMem := (rfl)
@[simp] theorem onTwin_parcel (f : Twin → Twin) (d : Dev) : (onTwin f d).parcel = d.parcel := (rfl)
@[simp] theorem onTwin_timers (f : Twin → Twin) (d : Dev) : (onTwin f d).timers = d.timers := (rfl)
@[simp] theorem onTwin_freeCtr (f : Twin → Twin) (d : Dev) : (onTwin f d).freeCtr = d.freeCtr := (rfl)

@[simp] theorem onTmr_cfg (f : Timers → Timers) (d : Dev) : (onTmr f d).cfg = d.cfg := (rfl)
@[simp] theorem onTmr_cfgNew (f : Timers → Timers) (d : Dev) : (onTmr f d).cfgNew = d.cfgNew := (rfl)
@[simp] theorem onTmr_ports (f : Timers → Timers) (d : Dev) : (onTmr f d).ports = d.ports := (rfl)
@[simp] theorem onTmr_pd (f : Timers → Timers) (d : Dev) : (onTmr f d).pd = d.pd := (rfl)
@[simp] theorem onTmr_guards (f : Timers → Timers) (d : Dev) : (onTmr f d).guards = d.guards := (rfl)
@[simp] theorem onTmr_loops (f : Timers → Timers) (d : Dev) : (onTmr f d).loops = d.loops := (rfl)
@[simp] theorem onTmr_phases (f : Timers → Timers) (d : Dev) : (onTmr f d).phases = d.phases := (rfl)
@[simp] theorem onTmr_chans (f : Timers → Timers) (d : Dev) : (onTmr f d).chans = d.chans := (rfl)
@[simp] theorem onTmr_groups (f : Timers → Timers) (d : Dev) : (onTmr f d).groups = d.groups := (rfl)
@[simp] theorem onTmr_convs (f : Timers → Timers) (d : Dev) : (onTmr f d).convs = d.convs := (rfl)
@[simp] theorem onTmr_feeds (f : Timers → Timers) (d : Dev) : (onTmr f d).feeds = d.feeds := (rfl)
@[simp] theorem onTmr_posts (f : Timers → Timers) (d : Dev) : (onTmr f d).posts = d.posts := (rfl)
@[simp] theorem onTmr_ledger (f : Timers → Timers) (d : Dev) : (onTmr f d).ledger = d.ledger := (rfl)
@[simp] theorem onTmr_twin (f : Timers → Timers) (d : Dev) : (onTmr f d).twin = d.twin := (rfl)
@[simp] theorem onTmr_tmr (f : Timers → Timers) (d : Dev) : (onTmr f d).tmr = f d.tmr := (rfl)
@[simp] theorem onTmr_alarms (f : Timers → Timers) (d : Dev) : (onTmr f d).alarms = d.alarms := (rfl)
@[simp] theorem onTmr_itms (f : Timers → Timers) (d : Dev) : (onTmr f d).itms = d.itms := (rfl)
@[simp] theorem onTmr_sources (f : Timers → Timers) (d : Dev) : (onTmr f d).sources = d.sources := (rfl)
@[simp] theorem onTmr_coll (f : Timers → Timers) (d : Dev) : (onTmr f d).coll = d.coll := (rfl)
@[simp] theorem onTmr_host (f : Timers → Timers) (d : Dev) : (onTmr f d).host = d.host := (rfl)
@[simp] theorem onTmr_net (f : Timers → Timers) (d : Dev) : (onTmr f d).net = d.net := (rfl)
@[simp] theorem onTmr_upd (f : Timers → Timers) (d : Dev) : (onTmr f d).upd = d.upd := (rfl)
@[simp] theorem onTmr_store (f : Timers → Timers) (d : Dev) : (onTmr f d).store = d.store := (rfl)
@[simp] theorem onTmr_jrn (f : Timers → Timers) (d : Dev) : (onTmr f d).jrn = d.jrn := (rfl)
@[simp] theorem onTmr_sys (f : Timers → Timers) (d : Dev) : (onTmr f d).sys = d.sys := (rfl)
@[simp] theorem onTmr_loss (f : Timers → Timers) (d : Dev) : (onTmr f d).loss = d.loss := (rfl)
@[simp] theorem onTmr_tap (f : Timers → Timers) (d : Dev) : (onTmr f d).tap = d.tap := (rfl)
@[simp] theorem onTmr_ringMem (f : Timers → Timers) (d : Dev) : (onTmr f d).ringMem = d.ringMem := (rfl)
@[simp] theorem onTmr_parcel (f : Timers → Timers) (d : Dev) : (onTmr f d).parcel = d.parcel := (rfl)
@[simp] theorem onTmr_timers (f : Timers → Timers) (d : Dev) : (onTmr f d).timers = d.timers := (rfl)
@[simp] theorem onTmr_freeCtr (f : Timers → Timers) (d : Dev) : (onTmr f d).freeCtr = d.freeCtr := (rfl)

@[simp] theorem onAlarm_cfg (i : Fin 32) (f : Alarm → Alarm) (d : Dev) : (onAlarm i f d).cfg = d.cfg := (rfl)
@[simp] theorem onAlarm_cfgNew (i : Fin 32) (f : Alarm → Alarm) (d : Dev) : (onAlarm i f d).cfgNew = d.cfgNew := (rfl)
@[simp] theorem onAlarm_ports (i : Fin 32) (f : Alarm → Alarm) (d : Dev) : (onAlarm i f d).ports = d.ports := (rfl)
@[simp] theorem onAlarm_pd (i : Fin 32) (f : Alarm → Alarm) (d : Dev) : (onAlarm i f d).pd = d.pd := (rfl)
@[simp] theorem onAlarm_guards (i : Fin 32) (f : Alarm → Alarm) (d : Dev) : (onAlarm i f d).guards = d.guards := (rfl)
@[simp] theorem onAlarm_loops (i : Fin 32) (f : Alarm → Alarm) (d : Dev) : (onAlarm i f d).loops = d.loops := (rfl)
@[simp] theorem onAlarm_phases (i : Fin 32) (f : Alarm → Alarm) (d : Dev) : (onAlarm i f d).phases = d.phases := (rfl)
@[simp] theorem onAlarm_chans (i : Fin 32) (f : Alarm → Alarm) (d : Dev) : (onAlarm i f d).chans = d.chans := (rfl)
@[simp] theorem onAlarm_groups (i : Fin 32) (f : Alarm → Alarm) (d : Dev) : (onAlarm i f d).groups = d.groups := (rfl)
@[simp] theorem onAlarm_convs (i : Fin 32) (f : Alarm → Alarm) (d : Dev) : (onAlarm i f d).convs = d.convs := (rfl)
@[simp] theorem onAlarm_feeds (i : Fin 32) (f : Alarm → Alarm) (d : Dev) : (onAlarm i f d).feeds = d.feeds := (rfl)
@[simp] theorem onAlarm_posts (i : Fin 32) (f : Alarm → Alarm) (d : Dev) : (onAlarm i f d).posts = d.posts := (rfl)
@[simp] theorem onAlarm_ledger (i : Fin 32) (f : Alarm → Alarm) (d : Dev) : (onAlarm i f d).ledger = d.ledger := (rfl)
@[simp] theorem onAlarm_twin (i : Fin 32) (f : Alarm → Alarm) (d : Dev) : (onAlarm i f d).twin = d.twin := (rfl)
@[simp] theorem onAlarm_tmr (i : Fin 32) (f : Alarm → Alarm) (d : Dev) : (onAlarm i f d).tmr = d.tmr := (rfl)
@[simp] theorem onAlarm_alarms (i : Fin 32) (f : Alarm → Alarm) (d : Dev) : (onAlarm i f d).alarms = Machine.upd d.alarms i f := (rfl)
@[simp] theorem onAlarm_itms (i : Fin 32) (f : Alarm → Alarm) (d : Dev) : (onAlarm i f d).itms = d.itms := (rfl)
@[simp] theorem onAlarm_sources (i : Fin 32) (f : Alarm → Alarm) (d : Dev) : (onAlarm i f d).sources = d.sources := (rfl)
@[simp] theorem onAlarm_coll (i : Fin 32) (f : Alarm → Alarm) (d : Dev) : (onAlarm i f d).coll = d.coll := (rfl)
@[simp] theorem onAlarm_host (i : Fin 32) (f : Alarm → Alarm) (d : Dev) : (onAlarm i f d).host = d.host := (rfl)
@[simp] theorem onAlarm_net (i : Fin 32) (f : Alarm → Alarm) (d : Dev) : (onAlarm i f d).net = d.net := (rfl)
@[simp] theorem onAlarm_upd (i : Fin 32) (f : Alarm → Alarm) (d : Dev) : (onAlarm i f d).upd = d.upd := (rfl)
@[simp] theorem onAlarm_store (i : Fin 32) (f : Alarm → Alarm) (d : Dev) : (onAlarm i f d).store = d.store := (rfl)
@[simp] theorem onAlarm_jrn (i : Fin 32) (f : Alarm → Alarm) (d : Dev) : (onAlarm i f d).jrn = d.jrn := (rfl)
@[simp] theorem onAlarm_sys (i : Fin 32) (f : Alarm → Alarm) (d : Dev) : (onAlarm i f d).sys = d.sys := (rfl)
@[simp] theorem onAlarm_loss (i : Fin 32) (f : Alarm → Alarm) (d : Dev) : (onAlarm i f d).loss = d.loss := (rfl)
@[simp] theorem onAlarm_tap (i : Fin 32) (f : Alarm → Alarm) (d : Dev) : (onAlarm i f d).tap = d.tap := (rfl)
@[simp] theorem onAlarm_ringMem (i : Fin 32) (f : Alarm → Alarm) (d : Dev) : (onAlarm i f d).ringMem = d.ringMem := (rfl)
@[simp] theorem onAlarm_parcel (i : Fin 32) (f : Alarm → Alarm) (d : Dev) : (onAlarm i f d).parcel = d.parcel := (rfl)
@[simp] theorem onAlarm_timers (i : Fin 32) (f : Alarm → Alarm) (d : Dev) : (onAlarm i f d).timers = d.timers := (rfl)
@[simp] theorem onAlarm_freeCtr (i : Fin 32) (f : Alarm → Alarm) (d : Dev) : (onAlarm i f d).freeCtr = d.freeCtr := (rfl)

@[simp] theorem onItm_cfg (i : Fin 16) (f : Itm → Itm) (d : Dev) : (onItm i f d).cfg = d.cfg := (rfl)
@[simp] theorem onItm_cfgNew (i : Fin 16) (f : Itm → Itm) (d : Dev) : (onItm i f d).cfgNew = d.cfgNew := (rfl)
@[simp] theorem onItm_ports (i : Fin 16) (f : Itm → Itm) (d : Dev) : (onItm i f d).ports = d.ports := (rfl)
@[simp] theorem onItm_pd (i : Fin 16) (f : Itm → Itm) (d : Dev) : (onItm i f d).pd = d.pd := (rfl)
@[simp] theorem onItm_guards (i : Fin 16) (f : Itm → Itm) (d : Dev) : (onItm i f d).guards = d.guards := (rfl)
@[simp] theorem onItm_loops (i : Fin 16) (f : Itm → Itm) (d : Dev) : (onItm i f d).loops = d.loops := (rfl)
@[simp] theorem onItm_phases (i : Fin 16) (f : Itm → Itm) (d : Dev) : (onItm i f d).phases = d.phases := (rfl)
@[simp] theorem onItm_chans (i : Fin 16) (f : Itm → Itm) (d : Dev) : (onItm i f d).chans = d.chans := (rfl)
@[simp] theorem onItm_groups (i : Fin 16) (f : Itm → Itm) (d : Dev) : (onItm i f d).groups = d.groups := (rfl)
@[simp] theorem onItm_convs (i : Fin 16) (f : Itm → Itm) (d : Dev) : (onItm i f d).convs = d.convs := (rfl)
@[simp] theorem onItm_feeds (i : Fin 16) (f : Itm → Itm) (d : Dev) : (onItm i f d).feeds = d.feeds := (rfl)
@[simp] theorem onItm_posts (i : Fin 16) (f : Itm → Itm) (d : Dev) : (onItm i f d).posts = d.posts := (rfl)
@[simp] theorem onItm_ledger (i : Fin 16) (f : Itm → Itm) (d : Dev) : (onItm i f d).ledger = d.ledger := (rfl)
@[simp] theorem onItm_twin (i : Fin 16) (f : Itm → Itm) (d : Dev) : (onItm i f d).twin = d.twin := (rfl)
@[simp] theorem onItm_tmr (i : Fin 16) (f : Itm → Itm) (d : Dev) : (onItm i f d).tmr = d.tmr := (rfl)
@[simp] theorem onItm_alarms (i : Fin 16) (f : Itm → Itm) (d : Dev) : (onItm i f d).alarms = d.alarms := (rfl)
@[simp] theorem onItm_itms (i : Fin 16) (f : Itm → Itm) (d : Dev) : (onItm i f d).itms = Machine.upd d.itms i f := (rfl)
@[simp] theorem onItm_sources (i : Fin 16) (f : Itm → Itm) (d : Dev) : (onItm i f d).sources = d.sources := (rfl)
@[simp] theorem onItm_coll (i : Fin 16) (f : Itm → Itm) (d : Dev) : (onItm i f d).coll = d.coll := (rfl)
@[simp] theorem onItm_host (i : Fin 16) (f : Itm → Itm) (d : Dev) : (onItm i f d).host = d.host := (rfl)
@[simp] theorem onItm_net (i : Fin 16) (f : Itm → Itm) (d : Dev) : (onItm i f d).net = d.net := (rfl)
@[simp] theorem onItm_upd (i : Fin 16) (f : Itm → Itm) (d : Dev) : (onItm i f d).upd = d.upd := (rfl)
@[simp] theorem onItm_store (i : Fin 16) (f : Itm → Itm) (d : Dev) : (onItm i f d).store = d.store := (rfl)
@[simp] theorem onItm_jrn (i : Fin 16) (f : Itm → Itm) (d : Dev) : (onItm i f d).jrn = d.jrn := (rfl)
@[simp] theorem onItm_sys (i : Fin 16) (f : Itm → Itm) (d : Dev) : (onItm i f d).sys = d.sys := (rfl)
@[simp] theorem onItm_loss (i : Fin 16) (f : Itm → Itm) (d : Dev) : (onItm i f d).loss = d.loss := (rfl)
@[simp] theorem onItm_tap (i : Fin 16) (f : Itm → Itm) (d : Dev) : (onItm i f d).tap = d.tap := (rfl)
@[simp] theorem onItm_ringMem (i : Fin 16) (f : Itm → Itm) (d : Dev) : (onItm i f d).ringMem = d.ringMem := (rfl)
@[simp] theorem onItm_parcel (i : Fin 16) (f : Itm → Itm) (d : Dev) : (onItm i f d).parcel = d.parcel := (rfl)
@[simp] theorem onItm_timers (i : Fin 16) (f : Itm → Itm) (d : Dev) : (onItm i f d).timers = d.timers := (rfl)
@[simp] theorem onItm_freeCtr (i : Fin 16) (f : Itm → Itm) (d : Dev) : (onItm i f d).freeCtr = d.freeCtr := (rfl)

@[simp] theorem onSource_cfg (i : Fin 768) (f : Source → Source) (d : Dev) : (onSource i f d).cfg = d.cfg := (rfl)
@[simp] theorem onSource_cfgNew (i : Fin 768) (f : Source → Source) (d : Dev) : (onSource i f d).cfgNew = d.cfgNew := (rfl)
@[simp] theorem onSource_ports (i : Fin 768) (f : Source → Source) (d : Dev) : (onSource i f d).ports = d.ports := (rfl)
@[simp] theorem onSource_pd (i : Fin 768) (f : Source → Source) (d : Dev) : (onSource i f d).pd = d.pd := (rfl)
@[simp] theorem onSource_guards (i : Fin 768) (f : Source → Source) (d : Dev) : (onSource i f d).guards = d.guards := (rfl)
@[simp] theorem onSource_loops (i : Fin 768) (f : Source → Source) (d : Dev) : (onSource i f d).loops = d.loops := (rfl)
@[simp] theorem onSource_phases (i : Fin 768) (f : Source → Source) (d : Dev) : (onSource i f d).phases = d.phases := (rfl)
@[simp] theorem onSource_chans (i : Fin 768) (f : Source → Source) (d : Dev) : (onSource i f d).chans = d.chans := (rfl)
@[simp] theorem onSource_groups (i : Fin 768) (f : Source → Source) (d : Dev) : (onSource i f d).groups = d.groups := (rfl)
@[simp] theorem onSource_convs (i : Fin 768) (f : Source → Source) (d : Dev) : (onSource i f d).convs = d.convs := (rfl)
@[simp] theorem onSource_feeds (i : Fin 768) (f : Source → Source) (d : Dev) : (onSource i f d).feeds = d.feeds := (rfl)
@[simp] theorem onSource_posts (i : Fin 768) (f : Source → Source) (d : Dev) : (onSource i f d).posts = d.posts := (rfl)
@[simp] theorem onSource_ledger (i : Fin 768) (f : Source → Source) (d : Dev) : (onSource i f d).ledger = d.ledger := (rfl)
@[simp] theorem onSource_twin (i : Fin 768) (f : Source → Source) (d : Dev) : (onSource i f d).twin = d.twin := (rfl)
@[simp] theorem onSource_tmr (i : Fin 768) (f : Source → Source) (d : Dev) : (onSource i f d).tmr = d.tmr := (rfl)
@[simp] theorem onSource_alarms (i : Fin 768) (f : Source → Source) (d : Dev) : (onSource i f d).alarms = d.alarms := (rfl)
@[simp] theorem onSource_itms (i : Fin 768) (f : Source → Source) (d : Dev) : (onSource i f d).itms = d.itms := (rfl)
@[simp] theorem onSource_sources (i : Fin 768) (f : Source → Source) (d : Dev) : (onSource i f d).sources = Machine.upd d.sources i f := (rfl)
@[simp] theorem onSource_coll (i : Fin 768) (f : Source → Source) (d : Dev) : (onSource i f d).coll = d.coll := (rfl)
@[simp] theorem onSource_host (i : Fin 768) (f : Source → Source) (d : Dev) : (onSource i f d).host = d.host := (rfl)
@[simp] theorem onSource_net (i : Fin 768) (f : Source → Source) (d : Dev) : (onSource i f d).net = d.net := (rfl)
@[simp] theorem onSource_upd (i : Fin 768) (f : Source → Source) (d : Dev) : (onSource i f d).upd = d.upd := (rfl)
@[simp] theorem onSource_store (i : Fin 768) (f : Source → Source) (d : Dev) : (onSource i f d).store = d.store := (rfl)
@[simp] theorem onSource_jrn (i : Fin 768) (f : Source → Source) (d : Dev) : (onSource i f d).jrn = d.jrn := (rfl)
@[simp] theorem onSource_sys (i : Fin 768) (f : Source → Source) (d : Dev) : (onSource i f d).sys = d.sys := (rfl)
@[simp] theorem onSource_loss (i : Fin 768) (f : Source → Source) (d : Dev) : (onSource i f d).loss = d.loss := (rfl)
@[simp] theorem onSource_tap (i : Fin 768) (f : Source → Source) (d : Dev) : (onSource i f d).tap = d.tap := (rfl)
@[simp] theorem onSource_ringMem (i : Fin 768) (f : Source → Source) (d : Dev) : (onSource i f d).ringMem = d.ringMem := (rfl)
@[simp] theorem onSource_parcel (i : Fin 768) (f : Source → Source) (d : Dev) : (onSource i f d).parcel = d.parcel := (rfl)
@[simp] theorem onSource_timers (i : Fin 768) (f : Source → Source) (d : Dev) : (onSource i f d).timers = d.timers := (rfl)
@[simp] theorem onSource_freeCtr (i : Fin 768) (f : Source → Source) (d : Dev) : (onSource i f d).freeCtr = d.freeCtr := (rfl)

@[simp] theorem onColl_cfg (f : Collector → Collector) (d : Dev) : (onColl f d).cfg = d.cfg := (rfl)
@[simp] theorem onColl_cfgNew (f : Collector → Collector) (d : Dev) : (onColl f d).cfgNew = d.cfgNew := (rfl)
@[simp] theorem onColl_ports (f : Collector → Collector) (d : Dev) : (onColl f d).ports = d.ports := (rfl)
@[simp] theorem onColl_pd (f : Collector → Collector) (d : Dev) : (onColl f d).pd = d.pd := (rfl)
@[simp] theorem onColl_guards (f : Collector → Collector) (d : Dev) : (onColl f d).guards = d.guards := (rfl)
@[simp] theorem onColl_loops (f : Collector → Collector) (d : Dev) : (onColl f d).loops = d.loops := (rfl)
@[simp] theorem onColl_phases (f : Collector → Collector) (d : Dev) : (onColl f d).phases = d.phases := (rfl)
@[simp] theorem onColl_chans (f : Collector → Collector) (d : Dev) : (onColl f d).chans = d.chans := (rfl)
@[simp] theorem onColl_groups (f : Collector → Collector) (d : Dev) : (onColl f d).groups = d.groups := (rfl)
@[simp] theorem onColl_convs (f : Collector → Collector) (d : Dev) : (onColl f d).convs = d.convs := (rfl)
@[simp] theorem onColl_feeds (f : Collector → Collector) (d : Dev) : (onColl f d).feeds = d.feeds := (rfl)
@[simp] theorem onColl_posts (f : Collector → Collector) (d : Dev) : (onColl f d).posts = d.posts := (rfl)
@[simp] theorem onColl_ledger (f : Collector → Collector) (d : Dev) : (onColl f d).ledger = d.ledger := (rfl)
@[simp] theorem onColl_twin (f : Collector → Collector) (d : Dev) : (onColl f d).twin = d.twin := (rfl)
@[simp] theorem onColl_tmr (f : Collector → Collector) (d : Dev) : (onColl f d).tmr = d.tmr := (rfl)
@[simp] theorem onColl_alarms (f : Collector → Collector) (d : Dev) : (onColl f d).alarms = d.alarms := (rfl)
@[simp] theorem onColl_itms (f : Collector → Collector) (d : Dev) : (onColl f d).itms = d.itms := (rfl)
@[simp] theorem onColl_sources (f : Collector → Collector) (d : Dev) : (onColl f d).sources = d.sources := (rfl)
@[simp] theorem onColl_coll (f : Collector → Collector) (d : Dev) : (onColl f d).coll = f d.coll := (rfl)
@[simp] theorem onColl_host (f : Collector → Collector) (d : Dev) : (onColl f d).host = d.host := (rfl)
@[simp] theorem onColl_net (f : Collector → Collector) (d : Dev) : (onColl f d).net = d.net := (rfl)
@[simp] theorem onColl_upd (f : Collector → Collector) (d : Dev) : (onColl f d).upd = d.upd := (rfl)
@[simp] theorem onColl_store (f : Collector → Collector) (d : Dev) : (onColl f d).store = d.store := (rfl)
@[simp] theorem onColl_jrn (f : Collector → Collector) (d : Dev) : (onColl f d).jrn = d.jrn := (rfl)
@[simp] theorem onColl_sys (f : Collector → Collector) (d : Dev) : (onColl f d).sys = d.sys := (rfl)
@[simp] theorem onColl_loss (f : Collector → Collector) (d : Dev) : (onColl f d).loss = d.loss := (rfl)
@[simp] theorem onColl_tap (f : Collector → Collector) (d : Dev) : (onColl f d).tap = d.tap := (rfl)
@[simp] theorem onColl_ringMem (f : Collector → Collector) (d : Dev) : (onColl f d).ringMem = d.ringMem := (rfl)
@[simp] theorem onColl_parcel (f : Collector → Collector) (d : Dev) : (onColl f d).parcel = d.parcel := (rfl)
@[simp] theorem onColl_timers (f : Collector → Collector) (d : Dev) : (onColl f d).timers = d.timers := (rfl)
@[simp] theorem onColl_freeCtr (f : Collector → Collector) (d : Dev) : (onColl f d).freeCtr = d.freeCtr := (rfl)

@[simp] theorem onHost_cfg (f : HostIf → HostIf) (d : Dev) : (onHost f d).cfg = d.cfg := (rfl)
@[simp] theorem onHost_cfgNew (f : HostIf → HostIf) (d : Dev) : (onHost f d).cfgNew = d.cfgNew := (rfl)
@[simp] theorem onHost_ports (f : HostIf → HostIf) (d : Dev) : (onHost f d).ports = d.ports := (rfl)
@[simp] theorem onHost_pd (f : HostIf → HostIf) (d : Dev) : (onHost f d).pd = d.pd := (rfl)
@[simp] theorem onHost_guards (f : HostIf → HostIf) (d : Dev) : (onHost f d).guards = d.guards := (rfl)
@[simp] theorem onHost_loops (f : HostIf → HostIf) (d : Dev) : (onHost f d).loops = d.loops := (rfl)
@[simp] theorem onHost_phases (f : HostIf → HostIf) (d : Dev) : (onHost f d).phases = d.phases := (rfl)
@[simp] theorem onHost_chans (f : HostIf → HostIf) (d : Dev) : (onHost f d).chans = d.chans := (rfl)
@[simp] theorem onHost_groups (f : HostIf → HostIf) (d : Dev) : (onHost f d).groups = d.groups := (rfl)
@[simp] theorem onHost_convs (f : HostIf → HostIf) (d : Dev) : (onHost f d).convs = d.convs := (rfl)
@[simp] theorem onHost_feeds (f : HostIf → HostIf) (d : Dev) : (onHost f d).feeds = d.feeds := (rfl)
@[simp] theorem onHost_posts (f : HostIf → HostIf) (d : Dev) : (onHost f d).posts = d.posts := (rfl)
@[simp] theorem onHost_ledger (f : HostIf → HostIf) (d : Dev) : (onHost f d).ledger = d.ledger := (rfl)
@[simp] theorem onHost_twin (f : HostIf → HostIf) (d : Dev) : (onHost f d).twin = d.twin := (rfl)
@[simp] theorem onHost_tmr (f : HostIf → HostIf) (d : Dev) : (onHost f d).tmr = d.tmr := (rfl)
@[simp] theorem onHost_alarms (f : HostIf → HostIf) (d : Dev) : (onHost f d).alarms = d.alarms := (rfl)
@[simp] theorem onHost_itms (f : HostIf → HostIf) (d : Dev) : (onHost f d).itms = d.itms := (rfl)
@[simp] theorem onHost_sources (f : HostIf → HostIf) (d : Dev) : (onHost f d).sources = d.sources := (rfl)
@[simp] theorem onHost_coll (f : HostIf → HostIf) (d : Dev) : (onHost f d).coll = d.coll := (rfl)
@[simp] theorem onHost_host (f : HostIf → HostIf) (d : Dev) : (onHost f d).host = f d.host := (rfl)
@[simp] theorem onHost_net (f : HostIf → HostIf) (d : Dev) : (onHost f d).net = d.net := (rfl)
@[simp] theorem onHost_upd (f : HostIf → HostIf) (d : Dev) : (onHost f d).upd = d.upd := (rfl)
@[simp] theorem onHost_store (f : HostIf → HostIf) (d : Dev) : (onHost f d).store = d.store := (rfl)
@[simp] theorem onHost_jrn (f : HostIf → HostIf) (d : Dev) : (onHost f d).jrn = d.jrn := (rfl)
@[simp] theorem onHost_sys (f : HostIf → HostIf) (d : Dev) : (onHost f d).sys = d.sys := (rfl)
@[simp] theorem onHost_loss (f : HostIf → HostIf) (d : Dev) : (onHost f d).loss = d.loss := (rfl)
@[simp] theorem onHost_tap (f : HostIf → HostIf) (d : Dev) : (onHost f d).tap = d.tap := (rfl)
@[simp] theorem onHost_ringMem (f : HostIf → HostIf) (d : Dev) : (onHost f d).ringMem = d.ringMem := (rfl)
@[simp] theorem onHost_parcel (f : HostIf → HostIf) (d : Dev) : (onHost f d).parcel = d.parcel := (rfl)
@[simp] theorem onHost_timers (f : HostIf → HostIf) (d : Dev) : (onHost f d).timers = d.timers := (rfl)
@[simp] theorem onHost_freeCtr (f : HostIf → HostIf) (d : Dev) : (onHost f d).freeCtr = d.freeCtr := (rfl)

@[simp] theorem onRing_cfg (r : Fin 16) (f : Ring → Ring) (d : Dev) : (onRing r f d).cfg = d.cfg := (rfl)
@[simp] theorem onRing_cfgNew (r : Fin 16) (f : Ring → Ring) (d : Dev) : (onRing r f d).cfgNew = d.cfgNew := (rfl)
@[simp] theorem onRing_ports (r : Fin 16) (f : Ring → Ring) (d : Dev) : (onRing r f d).ports = d.ports := (rfl)
@[simp] theorem onRing_pd (r : Fin 16) (f : Ring → Ring) (d : Dev) : (onRing r f d).pd = d.pd := (rfl)
@[simp] theorem onRing_guards (r : Fin 16) (f : Ring → Ring) (d : Dev) : (onRing r f d).guards = d.guards := (rfl)
@[simp] theorem onRing_loops (r : Fin 16) (f : Ring → Ring) (d : Dev) : (onRing r f d).loops = d.loops := (rfl)
@[simp] theorem onRing_phases (r : Fin 16) (f : Ring → Ring) (d : Dev) : (onRing r f d).phases = d.phases := (rfl)
@[simp] theorem onRing_chans (r : Fin 16) (f : Ring → Ring) (d : Dev) : (onRing r f d).chans = d.chans := (rfl)
@[simp] theorem onRing_groups (r : Fin 16) (f : Ring → Ring) (d : Dev) : (onRing r f d).groups = d.groups := (rfl)
@[simp] theorem onRing_convs (r : Fin 16) (f : Ring → Ring) (d : Dev) : (onRing r f d).convs = d.convs := (rfl)
@[simp] theorem onRing_feeds (r : Fin 16) (f : Ring → Ring) (d : Dev) : (onRing r f d).feeds = d.feeds := (rfl)
@[simp] theorem onRing_posts (r : Fin 16) (f : Ring → Ring) (d : Dev) : (onRing r f d).posts = d.posts := (rfl)
@[simp] theorem onRing_ledger (r : Fin 16) (f : Ring → Ring) (d : Dev) : (onRing r f d).ledger = d.ledger := (rfl)
@[simp] theorem onRing_twin (r : Fin 16) (f : Ring → Ring) (d : Dev) : (onRing r f d).twin = d.twin := (rfl)
@[simp] theorem onRing_tmr (r : Fin 16) (f : Ring → Ring) (d : Dev) : (onRing r f d).tmr = d.tmr := (rfl)
@[simp] theorem onRing_alarms (r : Fin 16) (f : Ring → Ring) (d : Dev) : (onRing r f d).alarms = d.alarms := (rfl)
@[simp] theorem onRing_itms (r : Fin 16) (f : Ring → Ring) (d : Dev) : (onRing r f d).itms = d.itms := (rfl)
@[simp] theorem onRing_sources (r : Fin 16) (f : Ring → Ring) (d : Dev) : (onRing r f d).sources = d.sources := (rfl)
@[simp] theorem onRing_coll (r : Fin 16) (f : Ring → Ring) (d : Dev) : (onRing r f d).coll = d.coll := (rfl)
@[simp] theorem onRing_host (r : Fin 16) (f : Ring → Ring) (d : Dev) : (onRing r f d).host = { d.host with rings := Machine.upd d.host.rings r f } := (rfl)
@[simp] theorem onRing_net (r : Fin 16) (f : Ring → Ring) (d : Dev) : (onRing r f d).net = d.net := (rfl)
@[simp] theorem onRing_upd (r : Fin 16) (f : Ring → Ring) (d : Dev) : (onRing r f d).upd = d.upd := (rfl)
@[simp] theorem onRing_store (r : Fin 16) (f : Ring → Ring) (d : Dev) : (onRing r f d).store = d.store := (rfl)
@[simp] theorem onRing_jrn (r : Fin 16) (f : Ring → Ring) (d : Dev) : (onRing r f d).jrn = d.jrn := (rfl)
@[simp] theorem onRing_sys (r : Fin 16) (f : Ring → Ring) (d : Dev) : (onRing r f d).sys = d.sys := (rfl)
@[simp] theorem onRing_loss (r : Fin 16) (f : Ring → Ring) (d : Dev) : (onRing r f d).loss = d.loss := (rfl)
@[simp] theorem onRing_tap (r : Fin 16) (f : Ring → Ring) (d : Dev) : (onRing r f d).tap = d.tap := (rfl)
@[simp] theorem onRing_ringMem (r : Fin 16) (f : Ring → Ring) (d : Dev) : (onRing r f d).ringMem = d.ringMem := (rfl)
@[simp] theorem onRing_parcel (r : Fin 16) (f : Ring → Ring) (d : Dev) : (onRing r f d).parcel = d.parcel := (rfl)
@[simp] theorem onRing_timers (r : Fin 16) (f : Ring → Ring) (d : Dev) : (onRing r f d).timers = d.timers := (rfl)
@[simp] theorem onRing_freeCtr (r : Fin 16) (f : Ring → Ring) (d : Dev) : (onRing r f d).freeCtr = d.freeCtr := (rfl)

@[simp] theorem onMaster_cfg (m : Fin 5) (f : Master → Master) (d : Dev) : (onMaster m f d).cfg = d.cfg := (rfl)
@[simp] theorem onMaster_cfgNew (m : Fin 5) (f : Master → Master) (d : Dev) : (onMaster m f d).cfgNew = d.cfgNew := (rfl)
@[simp] theorem onMaster_ports (m : Fin 5) (f : Master → Master) (d : Dev) : (onMaster m f d).ports = d.ports := (rfl)
@[simp] theorem onMaster_pd (m : Fin 5) (f : Master → Master) (d : Dev) : (onMaster m f d).pd = d.pd := (rfl)
@[simp] theorem onMaster_guards (m : Fin 5) (f : Master → Master) (d : Dev) : (onMaster m f d).guards = d.guards := (rfl)
@[simp] theorem onMaster_loops (m : Fin 5) (f : Master → Master) (d : Dev) : (onMaster m f d).loops = d.loops := (rfl)
@[simp] theorem onMaster_phases (m : Fin 5) (f : Master → Master) (d : Dev) : (onMaster m f d).phases = d.phases := (rfl)
@[simp] theorem onMaster_chans (m : Fin 5) (f : Master → Master) (d : Dev) : (onMaster m f d).chans = d.chans := (rfl)
@[simp] theorem onMaster_groups (m : Fin 5) (f : Master → Master) (d : Dev) : (onMaster m f d).groups = d.groups := (rfl)
@[simp] theorem onMaster_convs (m : Fin 5) (f : Master → Master) (d : Dev) : (onMaster m f d).convs = d.convs := (rfl)
@[simp] theorem onMaster_feeds (m : Fin 5) (f : Master → Master) (d : Dev) : (onMaster m f d).feeds = d.feeds := (rfl)
@[simp] theorem onMaster_posts (m : Fin 5) (f : Master → Master) (d : Dev) : (onMaster m f d).posts = d.posts := (rfl)
@[simp] theorem onMaster_ledger (m : Fin 5) (f : Master → Master) (d : Dev) : (onMaster m f d).ledger = d.ledger := (rfl)
@[simp] theorem onMaster_twin (m : Fin 5) (f : Master → Master) (d : Dev) : (onMaster m f d).twin = d.twin := (rfl)
@[simp] theorem onMaster_tmr (m : Fin 5) (f : Master → Master) (d : Dev) : (onMaster m f d).tmr = d.tmr := (rfl)
@[simp] theorem onMaster_alarms (m : Fin 5) (f : Master → Master) (d : Dev) : (onMaster m f d).alarms = d.alarms := (rfl)
@[simp] theorem onMaster_itms (m : Fin 5) (f : Master → Master) (d : Dev) : (onMaster m f d).itms = d.itms := (rfl)
@[simp] theorem onMaster_sources (m : Fin 5) (f : Master → Master) (d : Dev) : (onMaster m f d).sources = d.sources := (rfl)
@[simp] theorem onMaster_coll (m : Fin 5) (f : Master → Master) (d : Dev) : (onMaster m f d).coll = d.coll := (rfl)
@[simp] theorem onMaster_host (m : Fin 5) (f : Master → Master) (d : Dev) : (onMaster m f d).host = { d.host with masters := Machine.upd d.host.masters m f } := (rfl)
@[simp] theorem onMaster_net (m : Fin 5) (f : Master → Master) (d : Dev) : (onMaster m f d).net = d.net := (rfl)
@[simp] theorem onMaster_upd (m : Fin 5) (f : Master → Master) (d : Dev) : (onMaster m f d).upd = d.upd := (rfl)
@[simp] theorem onMaster_store (m : Fin 5) (f : Master → Master) (d : Dev) : (onMaster m f d).store = d.store := (rfl)
@[simp] theorem onMaster_jrn (m : Fin 5) (f : Master → Master) (d : Dev) : (onMaster m f d).jrn = d.jrn := (rfl)
@[simp] theorem onMaster_sys (m : Fin 5) (f : Master → Master) (d : Dev) : (onMaster m f d).sys = d.sys := (rfl)
@[simp] theorem onMaster_loss (m : Fin 5) (f : Master → Master) (d : Dev) : (onMaster m f d).loss = d.loss := (rfl)
@[simp] theorem onMaster_tap (m : Fin 5) (f : Master → Master) (d : Dev) : (onMaster m f d).tap = d.tap := (rfl)
@[simp] theorem onMaster_ringMem (m : Fin 5) (f : Master → Master) (d : Dev) : (onMaster m f d).ringMem = d.ringMem := (rfl)
@[simp] theorem onMaster_parcel (m : Fin 5) (f : Master → Master) (d : Dev) : (onMaster m f d).parcel = d.parcel := (rfl)
@[simp] theorem onMaster_timers (m : Fin 5) (f : Master → Master) (d : Dev) : (onMaster m f d).timers = d.timers := (rfl)
@[simp] theorem onMaster_freeCtr (m : Fin 5) (f : Master → Master) (d : Dev) : (onMaster m f d).freeCtr = d.freeCtr := (rfl)

@[simp] theorem onFw_cfg (s : Fin 4) (f : FwSlot → FwSlot) (d : Dev) : (onFw s f d).cfg = d.cfg := (rfl)
@[simp] theorem onFw_cfgNew (s : Fin 4) (f : FwSlot → FwSlot) (d : Dev) : (onFw s f d).cfgNew = d.cfgNew := (rfl)
@[simp] theorem onFw_ports (s : Fin 4) (f : FwSlot → FwSlot) (d : Dev) : (onFw s f d).ports = d.ports := (rfl)
@[simp] theorem onFw_pd (s : Fin 4) (f : FwSlot → FwSlot) (d : Dev) : (onFw s f d).pd = d.pd := (rfl)
@[simp] theorem onFw_guards (s : Fin 4) (f : FwSlot → FwSlot) (d : Dev) : (onFw s f d).guards = d.guards := (rfl)
@[simp] theorem onFw_loops (s : Fin 4) (f : FwSlot → FwSlot) (d : Dev) : (onFw s f d).loops = d.loops := (rfl)
@[simp] theorem onFw_phases (s : Fin 4) (f : FwSlot → FwSlot) (d : Dev) : (onFw s f d).phases = d.phases := (rfl)
@[simp] theorem onFw_chans (s : Fin 4) (f : FwSlot → FwSlot) (d : Dev) : (onFw s f d).chans = d.chans := (rfl)
@[simp] theorem onFw_groups (s : Fin 4) (f : FwSlot → FwSlot) (d : Dev) : (onFw s f d).groups = d.groups := (rfl)
@[simp] theorem onFw_convs (s : Fin 4) (f : FwSlot → FwSlot) (d : Dev) : (onFw s f d).convs = d.convs := (rfl)
@[simp] theorem onFw_feeds (s : Fin 4) (f : FwSlot → FwSlot) (d : Dev) : (onFw s f d).feeds = d.feeds := (rfl)
@[simp] theorem onFw_posts (s : Fin 4) (f : FwSlot → FwSlot) (d : Dev) : (onFw s f d).posts = d.posts := (rfl)
@[simp] theorem onFw_ledger (s : Fin 4) (f : FwSlot → FwSlot) (d : Dev) : (onFw s f d).ledger = d.ledger := (rfl)
@[simp] theorem onFw_twin (s : Fin 4) (f : FwSlot → FwSlot) (d : Dev) : (onFw s f d).twin = d.twin := (rfl)
@[simp] theorem onFw_tmr (s : Fin 4) (f : FwSlot → FwSlot) (d : Dev) : (onFw s f d).tmr = d.tmr := (rfl)
@[simp] theorem onFw_alarms (s : Fin 4) (f : FwSlot → FwSlot) (d : Dev) : (onFw s f d).alarms = d.alarms := (rfl)
@[simp] theorem onFw_itms (s : Fin 4) (f : FwSlot → FwSlot) (d : Dev) : (onFw s f d).itms = d.itms := (rfl)
@[simp] theorem onFw_sources (s : Fin 4) (f : FwSlot → FwSlot) (d : Dev) : (onFw s f d).sources = d.sources := (rfl)
@[simp] theorem onFw_coll (s : Fin 4) (f : FwSlot → FwSlot) (d : Dev) : (onFw s f d).coll = d.coll := (rfl)
@[simp] theorem onFw_host (s : Fin 4) (f : FwSlot → FwSlot) (d : Dev) : (onFw s f d).host = d.host := (rfl)
@[simp] theorem onFw_net (s : Fin 4) (f : FwSlot → FwSlot) (d : Dev) : (onFw s f d).net = d.net := (rfl)
@[simp] theorem onFw_upd (s : Fin 4) (f : FwSlot → FwSlot) (d : Dev) : (onFw s f d).upd = { d.upd with slots := Machine.upd d.upd.slots s f } := (rfl)
@[simp] theorem onFw_store (s : Fin 4) (f : FwSlot → FwSlot) (d : Dev) : (onFw s f d).store = d.store := (rfl)
@[simp] theorem onFw_jrn (s : Fin 4) (f : FwSlot → FwSlot) (d : Dev) : (onFw s f d).jrn = d.jrn := (rfl)
@[simp] theorem onFw_sys (s : Fin 4) (f : FwSlot → FwSlot) (d : Dev) : (onFw s f d).sys = d.sys := (rfl)
@[simp] theorem onFw_loss (s : Fin 4) (f : FwSlot → FwSlot) (d : Dev) : (onFw s f d).loss = d.loss := (rfl)
@[simp] theorem onFw_tap (s : Fin 4) (f : FwSlot → FwSlot) (d : Dev) : (onFw s f d).tap = d.tap := (rfl)
@[simp] theorem onFw_ringMem (s : Fin 4) (f : FwSlot → FwSlot) (d : Dev) : (onFw s f d).ringMem = d.ringMem := (rfl)
@[simp] theorem onFw_parcel (s : Fin 4) (f : FwSlot → FwSlot) (d : Dev) : (onFw s f d).parcel = d.parcel := (rfl)
@[simp] theorem onFw_timers (s : Fin 4) (f : FwSlot → FwSlot) (d : Dev) : (onFw s f d).timers = d.timers := (rfl)
@[simp] theorem onFw_freeCtr (s : Fin 4) (f : FwSlot → FwSlot) (d : Dev) : (onFw s f d).freeCtr = d.freeCtr := (rfl)

@[simp] theorem onNet_cfg (f : Net → Net) (d : Dev) : (onNet f d).cfg = d.cfg := (rfl)
@[simp] theorem onNet_cfgNew (f : Net → Net) (d : Dev) : (onNet f d).cfgNew = d.cfgNew := (rfl)
@[simp] theorem onNet_ports (f : Net → Net) (d : Dev) : (onNet f d).ports = d.ports := (rfl)
@[simp] theorem onNet_pd (f : Net → Net) (d : Dev) : (onNet f d).pd = d.pd := (rfl)
@[simp] theorem onNet_guards (f : Net → Net) (d : Dev) : (onNet f d).guards = d.guards := (rfl)
@[simp] theorem onNet_loops (f : Net → Net) (d : Dev) : (onNet f d).loops = d.loops := (rfl)
@[simp] theorem onNet_phases (f : Net → Net) (d : Dev) : (onNet f d).phases = d.phases := (rfl)
@[simp] theorem onNet_chans (f : Net → Net) (d : Dev) : (onNet f d).chans = d.chans := (rfl)
@[simp] theorem onNet_groups (f : Net → Net) (d : Dev) : (onNet f d).groups = d.groups := (rfl)
@[simp] theorem onNet_convs (f : Net → Net) (d : Dev) : (onNet f d).convs = d.convs := (rfl)
@[simp] theorem onNet_feeds (f : Net → Net) (d : Dev) : (onNet f d).feeds = d.feeds := (rfl)
@[simp] theorem onNet_posts (f : Net → Net) (d : Dev) : (onNet f d).posts = d.posts := (rfl)
@[simp] theorem onNet_ledger (f : Net → Net) (d : Dev) : (onNet f d).ledger = d.ledger := (rfl)
@[simp] theorem onNet_twin (f : Net → Net) (d : Dev) : (onNet f d).twin = d.twin := (rfl)
@[simp] theorem onNet_tmr (f : Net → Net) (d : Dev) : (onNet f d).tmr = d.tmr := (rfl)
@[simp] theorem onNet_alarms (f : Net → Net) (d : Dev) : (onNet f d).alarms = d.alarms := (rfl)
@[simp] theorem onNet_itms (f : Net → Net) (d : Dev) : (onNet f d).itms = d.itms := (rfl)
@[simp] theorem onNet_sources (f : Net → Net) (d : Dev) : (onNet f d).sources = d.sources := (rfl)
@[simp] theorem onNet_coll (f : Net → Net) (d : Dev) : (onNet f d).coll = d.coll := (rfl)
@[simp] theorem onNet_host (f : Net → Net) (d : Dev) : (onNet f d).host = d.host := (rfl)
@[simp] theorem onNet_net (f : Net → Net) (d : Dev) : (onNet f d).net = f d.net := (rfl)
@[simp] theorem onNet_upd (f : Net → Net) (d : Dev) : (onNet f d).upd = d.upd := (rfl)
@[simp] theorem onNet_store (f : Net → Net) (d : Dev) : (onNet f d).store = d.store := (rfl)
@[simp] theorem onNet_jrn (f : Net → Net) (d : Dev) : (onNet f d).jrn = d.jrn := (rfl)
@[simp] theorem onNet_sys (f : Net → Net) (d : Dev) : (onNet f d).sys = d.sys := (rfl)
@[simp] theorem onNet_loss (f : Net → Net) (d : Dev) : (onNet f d).loss = d.loss := (rfl)
@[simp] theorem onNet_tap (f : Net → Net) (d : Dev) : (onNet f d).tap = d.tap := (rfl)
@[simp] theorem onNet_ringMem (f : Net → Net) (d : Dev) : (onNet f d).ringMem = d.ringMem := (rfl)
@[simp] theorem onNet_parcel (f : Net → Net) (d : Dev) : (onNet f d).parcel = d.parcel := (rfl)
@[simp] theorem onNet_timers (f : Net → Net) (d : Dev) : (onNet f d).timers = d.timers := (rfl)
@[simp] theorem onNet_freeCtr (f : Net → Net) (d : Dev) : (onNet f d).freeCtr = d.freeCtr := (rfl)

@[simp] theorem onUpd_cfg (f : Update → Update) (d : Dev) : (onUpd f d).cfg = d.cfg := (rfl)
@[simp] theorem onUpd_cfgNew (f : Update → Update) (d : Dev) : (onUpd f d).cfgNew = d.cfgNew := (rfl)
@[simp] theorem onUpd_ports (f : Update → Update) (d : Dev) : (onUpd f d).ports = d.ports := (rfl)
@[simp] theorem onUpd_pd (f : Update → Update) (d : Dev) : (onUpd f d).pd = d.pd := (rfl)
@[simp] theorem onUpd_guards (f : Update → Update) (d : Dev) : (onUpd f d).guards = d.guards := (rfl)
@[simp] theorem onUpd_loops (f : Update → Update) (d : Dev) : (onUpd f d).loops = d.loops := (rfl)
@[simp] theorem onUpd_phases (f : Update → Update) (d : Dev) : (onUpd f d).phases = d.phases := (rfl)
@[simp] theorem onUpd_chans (f : Update → Update) (d : Dev) : (onUpd f d).chans = d.chans := (rfl)
@[simp] theorem onUpd_groups (f : Update → Update) (d : Dev) : (onUpd f d).groups = d.groups := (rfl)
@[simp] theorem onUpd_convs (f : Update → Update) (d : Dev) : (onUpd f d).convs = d.convs := (rfl)
@[simp] theorem onUpd_feeds (f : Update → Update) (d : Dev) : (onUpd f d).feeds = d.feeds := (rfl)
@[simp] theorem onUpd_posts (f : Update → Update) (d : Dev) : (onUpd f d).posts = d.posts := (rfl)
@[simp] theorem onUpd_ledger (f : Update → Update) (d : Dev) : (onUpd f d).ledger = d.ledger := (rfl)
@[simp] theorem onUpd_twin (f : Update → Update) (d : Dev) : (onUpd f d).twin = d.twin := (rfl)
@[simp] theorem onUpd_tmr (f : Update → Update) (d : Dev) : (onUpd f d).tmr = d.tmr := (rfl)
@[simp] theorem onUpd_alarms (f : Update → Update) (d : Dev) : (onUpd f d).alarms = d.alarms := (rfl)
@[simp] theorem onUpd_itms (f : Update → Update) (d : Dev) : (onUpd f d).itms = d.itms := (rfl)
@[simp] theorem onUpd_sources (f : Update → Update) (d : Dev) : (onUpd f d).sources = d.sources := (rfl)
@[simp] theorem onUpd_coll (f : Update → Update) (d : Dev) : (onUpd f d).coll = d.coll := (rfl)
@[simp] theorem onUpd_host (f : Update → Update) (d : Dev) : (onUpd f d).host = d.host := (rfl)
@[simp] theorem onUpd_net (f : Update → Update) (d : Dev) : (onUpd f d).net = d.net := (rfl)
@[simp] theorem onUpd_upd (f : Update → Update) (d : Dev) : (onUpd f d).upd = f d.upd := (rfl)
@[simp] theorem onUpd_store (f : Update → Update) (d : Dev) : (onUpd f d).store = d.store := (rfl)
@[simp] theorem onUpd_jrn (f : Update → Update) (d : Dev) : (onUpd f d).jrn = d.jrn := (rfl)
@[simp] theorem onUpd_sys (f : Update → Update) (d : Dev) : (onUpd f d).sys = d.sys := (rfl)
@[simp] theorem onUpd_loss (f : Update → Update) (d : Dev) : (onUpd f d).loss = d.loss := (rfl)
@[simp] theorem onUpd_tap (f : Update → Update) (d : Dev) : (onUpd f d).tap = d.tap := (rfl)
@[simp] theorem onUpd_ringMem (f : Update → Update) (d : Dev) : (onUpd f d).ringMem = d.ringMem := (rfl)
@[simp] theorem onUpd_parcel (f : Update → Update) (d : Dev) : (onUpd f d).parcel = d.parcel := (rfl)
@[simp] theorem onUpd_timers (f : Update → Update) (d : Dev) : (onUpd f d).timers = d.timers := (rfl)
@[simp] theorem onUpd_freeCtr (f : Update → Update) (d : Dev) : (onUpd f d).freeCtr = d.freeCtr := (rfl)

@[simp] theorem onStore_cfg (f : CfgStore → CfgStore) (d : Dev) : (onStore f d).cfg = d.cfg := (rfl)
@[simp] theorem onStore_cfgNew (f : CfgStore → CfgStore) (d : Dev) : (onStore f d).cfgNew = d.cfgNew := (rfl)
@[simp] theorem onStore_ports (f : CfgStore → CfgStore) (d : Dev) : (onStore f d).ports = d.ports := (rfl)
@[simp] theorem onStore_pd (f : CfgStore → CfgStore) (d : Dev) : (onStore f d).pd = d.pd := (rfl)
@[simp] theorem onStore_guards (f : CfgStore → CfgStore) (d : Dev) : (onStore f d).guards = d.guards := (rfl)
@[simp] theorem onStore_loops (f : CfgStore → CfgStore) (d : Dev) : (onStore f d).loops = d.loops := (rfl)
@[simp] theorem onStore_phases (f : CfgStore → CfgStore) (d : Dev) : (onStore f d).phases = d.phases := (rfl)
@[simp] theorem onStore_chans (f : CfgStore → CfgStore) (d : Dev) : (onStore f d).chans = d.chans := (rfl)
@[simp] theorem onStore_groups (f : CfgStore → CfgStore) (d : Dev) : (onStore f d).groups = d.groups := (rfl)
@[simp] theorem onStore_convs (f : CfgStore → CfgStore) (d : Dev) : (onStore f d).convs = d.convs := (rfl)
@[simp] theorem onStore_feeds (f : CfgStore → CfgStore) (d : Dev) : (onStore f d).feeds = d.feeds := (rfl)
@[simp] theorem onStore_posts (f : CfgStore → CfgStore) (d : Dev) : (onStore f d).posts = d.posts := (rfl)
@[simp] theorem onStore_ledger (f : CfgStore → CfgStore) (d : Dev) : (onStore f d).ledger = d.ledger := (rfl)
@[simp] theorem onStore_twin (f : CfgStore → CfgStore) (d : Dev) : (onStore f d).twin = d.twin := (rfl)
@[simp] theorem onStore_tmr (f : CfgStore → CfgStore) (d : Dev) : (onStore f d).tmr = d.tmr := (rfl)
@[simp] theorem onStore_alarms (f : CfgStore → CfgStore) (d : Dev) : (onStore f d).alarms = d.alarms := (rfl)
@[simp] theorem onStore_itms (f : CfgStore → CfgStore) (d : Dev) : (onStore f d).itms = d.itms := (rfl)
@[simp] theorem onStore_sources (f : CfgStore → CfgStore) (d : Dev) : (onStore f d).sources = d.sources := (rfl)
@[simp] theorem onStore_coll (f : CfgStore → CfgStore) (d : Dev) : (onStore f d).coll = d.coll := (rfl)
@[simp] theorem onStore_host (f : CfgStore → CfgStore) (d : Dev) : (onStore f d).host = d.host := (rfl)
@[simp] theorem onStore_net (f : CfgStore → CfgStore) (d : Dev) : (onStore f d).net = d.net := (rfl)
@[simp] theorem onStore_upd (f : CfgStore → CfgStore) (d : Dev) : (onStore f d).upd = d.upd := (rfl)
@[simp] theorem onStore_store (f : CfgStore → CfgStore) (d : Dev) : (onStore f d).store = f d.store := (rfl)
@[simp] theorem onStore_jrn (f : CfgStore → CfgStore) (d : Dev) : (onStore f d).jrn = d.jrn := (rfl)
@[simp] theorem onStore_sys (f : CfgStore → CfgStore) (d : Dev) : (onStore f d).sys = d.sys := (rfl)
@[simp] theorem onStore_loss (f : CfgStore → CfgStore) (d : Dev) : (onStore f d).loss = d.loss := (rfl)
@[simp] theorem onStore_tap (f : CfgStore → CfgStore) (d : Dev) : (onStore f d).tap = d.tap := (rfl)
@[simp] theorem onStore_ringMem (f : CfgStore → CfgStore) (d : Dev) : (onStore f d).ringMem = d.ringMem := (rfl)
@[simp] theorem onStore_parcel (f : CfgStore → CfgStore) (d : Dev) : (onStore f d).parcel = d.parcel := (rfl)
@[simp] theorem onStore_timers (f : CfgStore → CfgStore) (d : Dev) : (onStore f d).timers = d.timers := (rfl)
@[simp] theorem onStore_freeCtr (f : CfgStore → CfgStore) (d : Dev) : (onStore f d).freeCtr = d.freeCtr := (rfl)

@[simp] theorem onJrn_cfg (f : Journal → Journal) (d : Dev) : (onJrn f d).cfg = d.cfg := (rfl)
@[simp] theorem onJrn_cfgNew (f : Journal → Journal) (d : Dev) : (onJrn f d).cfgNew = d.cfgNew := (rfl)
@[simp] theorem onJrn_ports (f : Journal → Journal) (d : Dev) : (onJrn f d).ports = d.ports := (rfl)
@[simp] theorem onJrn_pd (f : Journal → Journal) (d : Dev) : (onJrn f d).pd = d.pd := (rfl)
@[simp] theorem onJrn_guards (f : Journal → Journal) (d : Dev) : (onJrn f d).guards = d.guards := (rfl)
@[simp] theorem onJrn_loops (f : Journal → Journal) (d : Dev) : (onJrn f d).loops = d.loops := (rfl)
@[simp] theorem onJrn_phases (f : Journal → Journal) (d : Dev) : (onJrn f d).phases = d.phases := (rfl)
@[simp] theorem onJrn_chans (f : Journal → Journal) (d : Dev) : (onJrn f d).chans = d.chans := (rfl)
@[simp] theorem onJrn_groups (f : Journal → Journal) (d : Dev) : (onJrn f d).groups = d.groups := (rfl)
@[simp] theorem onJrn_convs (f : Journal → Journal) (d : Dev) : (onJrn f d).convs = d.convs := (rfl)
@[simp] theorem onJrn_feeds (f : Journal → Journal) (d : Dev) : (onJrn f d).feeds = d.feeds := (rfl)
@[simp] theorem onJrn_posts (f : Journal → Journal) (d : Dev) : (onJrn f d).posts = d.posts := (rfl)
@[simp] theorem onJrn_ledger (f : Journal → Journal) (d : Dev) : (onJrn f d).ledger = d.ledger := (rfl)
@[simp] theorem onJrn_twin (f : Journal → Journal) (d : Dev) : (onJrn f d).twin = d.twin := (rfl)
@[simp] theorem onJrn_tmr (f : Journal → Journal) (d : Dev) : (onJrn f d).tmr = d.tmr := (rfl)
@[simp] theorem onJrn_alarms (f : Journal → Journal) (d : Dev) : (onJrn f d).alarms = d.alarms := (rfl)
@[simp] theorem onJrn_itms (f : Journal → Journal) (d : Dev) : (onJrn f d).itms = d.itms := (rfl)
@[simp] theorem onJrn_sources (f : Journal → Journal) (d : Dev) : (onJrn f d).sources = d.sources := (rfl)
@[simp] theorem onJrn_coll (f : Journal → Journal) (d : Dev) : (onJrn f d).coll = d.coll := (rfl)
@[simp] theorem onJrn_host (f : Journal → Journal) (d : Dev) : (onJrn f d).host = d.host := (rfl)
@[simp] theorem onJrn_net (f : Journal → Journal) (d : Dev) : (onJrn f d).net = d.net := (rfl)
@[simp] theorem onJrn_upd (f : Journal → Journal) (d : Dev) : (onJrn f d).upd = d.upd := (rfl)
@[simp] theorem onJrn_store (f : Journal → Journal) (d : Dev) : (onJrn f d).store = d.store := (rfl)
@[simp] theorem onJrn_jrn (f : Journal → Journal) (d : Dev) : (onJrn f d).jrn = f d.jrn := (rfl)
@[simp] theorem onJrn_sys (f : Journal → Journal) (d : Dev) : (onJrn f d).sys = d.sys := (rfl)
@[simp] theorem onJrn_loss (f : Journal → Journal) (d : Dev) : (onJrn f d).loss = d.loss := (rfl)
@[simp] theorem onJrn_tap (f : Journal → Journal) (d : Dev) : (onJrn f d).tap = d.tap := (rfl)
@[simp] theorem onJrn_ringMem (f : Journal → Journal) (d : Dev) : (onJrn f d).ringMem = d.ringMem := (rfl)
@[simp] theorem onJrn_parcel (f : Journal → Journal) (d : Dev) : (onJrn f d).parcel = d.parcel := (rfl)
@[simp] theorem onJrn_timers (f : Journal → Journal) (d : Dev) : (onJrn f d).timers = d.timers := (rfl)
@[simp] theorem onJrn_freeCtr (f : Journal → Journal) (d : Dev) : (onJrn f d).freeCtr = d.freeCtr := (rfl)

@[simp] theorem onSys_cfg (f : Sys → Sys) (d : Dev) : (onSys f d).cfg = d.cfg := (rfl)
@[simp] theorem onSys_cfgNew (f : Sys → Sys) (d : Dev) : (onSys f d).cfgNew = d.cfgNew := (rfl)
@[simp] theorem onSys_ports (f : Sys → Sys) (d : Dev) : (onSys f d).ports = d.ports := (rfl)
@[simp] theorem onSys_pd (f : Sys → Sys) (d : Dev) : (onSys f d).pd = d.pd := (rfl)
@[simp] theorem onSys_guards (f : Sys → Sys) (d : Dev) : (onSys f d).guards = d.guards := (rfl)
@[simp] theorem onSys_loops (f : Sys → Sys) (d : Dev) : (onSys f d).loops = d.loops := (rfl)
@[simp] theorem onSys_phases (f : Sys → Sys) (d : Dev) : (onSys f d).phases = d.phases := (rfl)
@[simp] theorem onSys_chans (f : Sys → Sys) (d : Dev) : (onSys f d).chans = d.chans := (rfl)
@[simp] theorem onSys_groups (f : Sys → Sys) (d : Dev) : (onSys f d).groups = d.groups := (rfl)
@[simp] theorem onSys_convs (f : Sys → Sys) (d : Dev) : (onSys f d).convs = d.convs := (rfl)
@[simp] theorem onSys_feeds (f : Sys → Sys) (d : Dev) : (onSys f d).feeds = d.feeds := (rfl)
@[simp] theorem onSys_posts (f : Sys → Sys) (d : Dev) : (onSys f d).posts = d.posts := (rfl)
@[simp] theorem onSys_ledger (f : Sys → Sys) (d : Dev) : (onSys f d).ledger = d.ledger := (rfl)
@[simp] theorem onSys_twin (f : Sys → Sys) (d : Dev) : (onSys f d).twin = d.twin := (rfl)
@[simp] theorem onSys_tmr (f : Sys → Sys) (d : Dev) : (onSys f d).tmr = d.tmr := (rfl)
@[simp] theorem onSys_alarms (f : Sys → Sys) (d : Dev) : (onSys f d).alarms = d.alarms := (rfl)
@[simp] theorem onSys_itms (f : Sys → Sys) (d : Dev) : (onSys f d).itms = d.itms := (rfl)
@[simp] theorem onSys_sources (f : Sys → Sys) (d : Dev) : (onSys f d).sources = d.sources := (rfl)
@[simp] theorem onSys_coll (f : Sys → Sys) (d : Dev) : (onSys f d).coll = d.coll := (rfl)
@[simp] theorem onSys_host (f : Sys → Sys) (d : Dev) : (onSys f d).host = d.host := (rfl)
@[simp] theorem onSys_net (f : Sys → Sys) (d : Dev) : (onSys f d).net = d.net := (rfl)
@[simp] theorem onSys_upd (f : Sys → Sys) (d : Dev) : (onSys f d).upd = d.upd := (rfl)
@[simp] theorem onSys_store (f : Sys → Sys) (d : Dev) : (onSys f d).store = d.store := (rfl)
@[simp] theorem onSys_jrn (f : Sys → Sys) (d : Dev) : (onSys f d).jrn = d.jrn := (rfl)
@[simp] theorem onSys_sys (f : Sys → Sys) (d : Dev) : (onSys f d).sys = f d.sys := (rfl)
@[simp] theorem onSys_loss (f : Sys → Sys) (d : Dev) : (onSys f d).loss = d.loss := (rfl)
@[simp] theorem onSys_tap (f : Sys → Sys) (d : Dev) : (onSys f d).tap = d.tap := (rfl)
@[simp] theorem onSys_ringMem (f : Sys → Sys) (d : Dev) : (onSys f d).ringMem = d.ringMem := (rfl)
@[simp] theorem onSys_parcel (f : Sys → Sys) (d : Dev) : (onSys f d).parcel = d.parcel := (rfl)
@[simp] theorem onSys_timers (f : Sys → Sys) (d : Dev) : (onSys f d).timers = d.timers := (rfl)
@[simp] theorem onSys_freeCtr (f : Sys → Sys) (d : Dev) : (onSys f d).freeCtr = d.freeCtr := (rfl)

@[simp] theorem stopTimer_cfg (ev : Instr) (d : Dev) : (stopTimer ev d).cfg = d.cfg := (rfl)
@[simp] theorem stopTimer_cfgNew (ev : Instr) (d : Dev) : (stopTimer ev d).cfgNew = d.cfgNew := (rfl)
@[simp] theorem stopTimer_ports (ev : Instr) (d : Dev) : (stopTimer ev d).ports = d.ports := (rfl)
@[simp] theorem stopTimer_pd (ev : Instr) (d : Dev) : (stopTimer ev d).pd = d.pd := (rfl)
@[simp] theorem stopTimer_guards (ev : Instr) (d : Dev) : (stopTimer ev d).guards = d.guards := (rfl)
@[simp] theorem stopTimer_loops (ev : Instr) (d : Dev) : (stopTimer ev d).loops = d.loops := (rfl)
@[simp] theorem stopTimer_phases (ev : Instr) (d : Dev) : (stopTimer ev d).phases = d.phases := (rfl)
@[simp] theorem stopTimer_chans (ev : Instr) (d : Dev) : (stopTimer ev d).chans = d.chans := (rfl)
@[simp] theorem stopTimer_groups (ev : Instr) (d : Dev) : (stopTimer ev d).groups = d.groups := (rfl)
@[simp] theorem stopTimer_convs (ev : Instr) (d : Dev) : (stopTimer ev d).convs = d.convs := (rfl)
@[simp] theorem stopTimer_feeds (ev : Instr) (d : Dev) : (stopTimer ev d).feeds = d.feeds := (rfl)
@[simp] theorem stopTimer_posts (ev : Instr) (d : Dev) : (stopTimer ev d).posts = d.posts := (rfl)
@[simp] theorem stopTimer_ledger (ev : Instr) (d : Dev) : (stopTimer ev d).ledger = d.ledger := (rfl)
@[simp] theorem stopTimer_twin (ev : Instr) (d : Dev) : (stopTimer ev d).twin = d.twin := (rfl)
@[simp] theorem stopTimer_tmr (ev : Instr) (d : Dev) : (stopTimer ev d).tmr = d.tmr := (rfl)
@[simp] theorem stopTimer_alarms (ev : Instr) (d : Dev) : (stopTimer ev d).alarms = d.alarms := (rfl)
@[simp] theorem stopTimer_itms (ev : Instr) (d : Dev) : (stopTimer ev d).itms = d.itms := (rfl)
@[simp] theorem stopTimer_sources (ev : Instr) (d : Dev) : (stopTimer ev d).sources = d.sources := (rfl)
@[simp] theorem stopTimer_coll (ev : Instr) (d : Dev) : (stopTimer ev d).coll = d.coll := (rfl)
@[simp] theorem stopTimer_host (ev : Instr) (d : Dev) : (stopTimer ev d).host = d.host := (rfl)
@[simp] theorem stopTimer_net (ev : Instr) (d : Dev) : (stopTimer ev d).net = d.net := (rfl)
@[simp] theorem stopTimer_upd (ev : Instr) (d : Dev) : (stopTimer ev d).upd = d.upd := (rfl)
@[simp] theorem stopTimer_store (ev : Instr) (d : Dev) : (stopTimer ev d).store = d.store := (rfl)
@[simp] theorem stopTimer_jrn (ev : Instr) (d : Dev) : (stopTimer ev d).jrn = d.jrn := (rfl)
@[simp] theorem stopTimer_sys (ev : Instr) (d : Dev) : (stopTimer ev d).sys = d.sys := (rfl)
@[simp] theorem stopTimer_loss (ev : Instr) (d : Dev) : (stopTimer ev d).loss = d.loss := (rfl)
@[simp] theorem stopTimer_tap (ev : Instr) (d : Dev) : (stopTimer ev d).tap = d.tap := (rfl)
@[simp] theorem stopTimer_ringMem (ev : Instr) (d : Dev) : (stopTimer ev d).ringMem = d.ringMem := (rfl)
@[simp] theorem stopTimer_parcel (ev : Instr) (d : Dev) : (stopTimer ev d).parcel = d.parcel := (rfl)
@[simp] theorem stopTimer_timers (ev : Instr) (d : Dev) : (stopTimer ev d).timers = d.timers.filter fun t => t.2 != ev := (rfl)
@[simp] theorem stopTimer_freeCtr (ev : Instr) (d : Dev) : (stopTimer ev d).freeCtr = d.freeCtr := (rfl)

@[simp] theorem startTimer_cfg (ev : Instr) (n : Nat) (d : Dev) : (startTimer ev n d).cfg = d.cfg := (rfl)
@[simp] theorem startTimer_cfgNew (ev : Instr) (n : Nat) (d : Dev) : (startTimer ev n d).cfgNew = d.cfgNew := (rfl)
@[simp] theorem startTimer_ports (ev : Instr) (n : Nat) (d : Dev) : (startTimer ev n d).ports = d.ports := (rfl)
@[simp] theorem startTimer_pd (ev : Instr) (n : Nat) (d : Dev) : (startTimer ev n d).pd = d.pd := (rfl)
@[simp] theorem startTimer_guards (ev : Instr) (n : Nat) (d : Dev) : (startTimer ev n d).guards = d.guards := (rfl)
@[simp] theorem startTimer_loops (ev : Instr) (n : Nat) (d : Dev) : (startTimer ev n d).loops = d.loops := (rfl)
@[simp] theorem startTimer_phases (ev : Instr) (n : Nat) (d : Dev) : (startTimer ev n d).phases = d.phases := (rfl)
@[simp] theorem startTimer_chans (ev : Instr) (n : Nat) (d : Dev) : (startTimer ev n d).chans = d.chans := (rfl)
@[simp] theorem startTimer_groups (ev : Instr) (n : Nat) (d : Dev) : (startTimer ev n d).groups = d.groups := (rfl)
@[simp] theorem startTimer_convs (ev : Instr) (n : Nat) (d : Dev) : (startTimer ev n d).convs = d.convs := (rfl)
@[simp] theorem startTimer_feeds (ev : Instr) (n : Nat) (d : Dev) : (startTimer ev n d).feeds = d.feeds := (rfl)
@[simp] theorem startTimer_posts (ev : Instr) (n : Nat) (d : Dev) : (startTimer ev n d).posts = d.posts := (rfl)
@[simp] theorem startTimer_ledger (ev : Instr) (n : Nat) (d : Dev) : (startTimer ev n d).ledger = d.ledger := (rfl)
@[simp] theorem startTimer_twin (ev : Instr) (n : Nat) (d : Dev) : (startTimer ev n d).twin = d.twin := (rfl)
@[simp] theorem startTimer_tmr (ev : Instr) (n : Nat) (d : Dev) : (startTimer ev n d).tmr = d.tmr := (rfl)
@[simp] theorem startTimer_alarms (ev : Instr) (n : Nat) (d : Dev) : (startTimer ev n d).alarms = d.alarms := (rfl)
@[simp] theorem startTimer_itms (ev : Instr) (n : Nat) (d : Dev) : (startTimer ev n d).itms = d.itms := (rfl)
@[simp] theorem startTimer_sources (ev : Instr) (n : Nat) (d : Dev) : (startTimer ev n d).sources = d.sources := (rfl)
@[simp] theorem startTimer_coll (ev : Instr) (n : Nat) (d : Dev) : (startTimer ev n d).coll = d.coll := (rfl)
@[simp] theorem startTimer_host (ev : Instr) (n : Nat) (d : Dev) : (startTimer ev n d).host = d.host := (rfl)
@[simp] theorem startTimer_net (ev : Instr) (n : Nat) (d : Dev) : (startTimer ev n d).net = d.net := (rfl)
@[simp] theorem startTimer_upd (ev : Instr) (n : Nat) (d : Dev) : (startTimer ev n d).upd = d.upd := (rfl)
@[simp] theorem startTimer_store (ev : Instr) (n : Nat) (d : Dev) : (startTimer ev n d).store = d.store := (rfl)
@[simp] theorem startTimer_jrn (ev : Instr) (n : Nat) (d : Dev) : (startTimer ev n d).jrn = d.jrn := (rfl)
@[simp] theorem startTimer_sys (ev : Instr) (n : Nat) (d : Dev) : (startTimer ev n d).sys = d.sys := (rfl)
@[simp] theorem startTimer_loss (ev : Instr) (n : Nat) (d : Dev) : (startTimer ev n d).loss = d.loss := (rfl)
@[simp] theorem startTimer_tap (ev : Instr) (n : Nat) (d : Dev) : (startTimer ev n d).tap = d.tap := (rfl)
@[simp] theorem startTimer_ringMem (ev : Instr) (n : Nat) (d : Dev) : (startTimer ev n d).ringMem = d.ringMem := (rfl)
@[simp] theorem startTimer_parcel (ev : Instr) (n : Nat) (d : Dev) : (startTimer ev n d).parcel = d.parcel := (rfl)
@[simp] theorem startTimer_timers (ev : Instr) (n : Nat) (d : Dev) : (startTimer ev n d).timers = (d.timers.filter fun t => t.2 != ev) ++ [(d.tmr.tb + n, ev)] := (rfl)
@[simp] theorem startTimer_freeCtr (ev : Instr) (n : Nat) (d : Dev) : (startTimer ev n d).freeCtr = d.freeCtr := (rfl)

@[simp] theorem startTimerAt_cfg (ev : Instr) (n : Nat) (d : Dev) : (startTimerAt ev n d).cfg = d.cfg := (rfl)
@[simp] theorem startTimerAt_cfgNew (ev : Instr) (n : Nat) (d : Dev) : (startTimerAt ev n d).cfgNew = d.cfgNew := (rfl)
@[simp] theorem startTimerAt_ports (ev : Instr) (n : Nat) (d : Dev) : (startTimerAt ev n d).ports = d.ports := (rfl)
@[simp] theorem startTimerAt_pd (ev : Instr) (n : Nat) (d : Dev) : (startTimerAt ev n d).pd = d.pd := (rfl)
@[simp] theorem startTimerAt_guards (ev : Instr) (n : Nat) (d : Dev) : (startTimerAt ev n d).guards = d.guards := (rfl)
@[simp] theorem startTimerAt_loops (ev : Instr) (n : Nat) (d : Dev) : (startTimerAt ev n d).loops = d.loops := (rfl)
@[simp] theorem startTimerAt_phases (ev : Instr) (n : Nat) (d : Dev) : (startTimerAt ev n d).phases = d.phases := (rfl)
@[simp] theorem startTimerAt_chans (ev : Instr) (n : Nat) (d : Dev) : (startTimerAt ev n d).chans = d.chans := (rfl)
@[simp] theorem startTimerAt_groups (ev : Instr) (n : Nat) (d : Dev) : (startTimerAt ev n d).groups = d.groups := (rfl)
@[simp] theorem startTimerAt_convs (ev : Instr) (n : Nat) (d : Dev) : (startTimerAt ev n d).convs = d.convs := (rfl)
@[simp] theorem startTimerAt_feeds (ev : Instr) (n : Nat) (d : Dev) : (startTimerAt ev n d).feeds = d.feeds := (rfl)
@[simp] theorem startTimerAt_posts (ev : Instr) (n : Nat) (d : Dev) : (startTimerAt ev n d).posts = d.posts := (rfl)
@[simp] theorem startTimerAt_ledger (ev : Instr) (n : Nat) (d : Dev) : (startTimerAt ev n d).ledger = d.ledger := (rfl)
@[simp] theorem startTimerAt_twin (ev : Instr) (n : Nat) (d : Dev) : (startTimerAt ev n d).twin = d.twin := (rfl)
@[simp] theorem startTimerAt_tmr (ev : Instr) (n : Nat) (d : Dev) : (startTimerAt ev n d).tmr = d.tmr := (rfl)
@[simp] theorem startTimerAt_alarms (ev : Instr) (n : Nat) (d : Dev) : (startTimerAt ev n d).alarms = d.alarms := (rfl)
@[simp] theorem startTimerAt_itms (ev : Instr) (n : Nat) (d : Dev) : (startTimerAt ev n d).itms = d.itms := (rfl)
@[simp] theorem startTimerAt_sources (ev : Instr) (n : Nat) (d : Dev) : (startTimerAt ev n d).sources = d.sources := (rfl)
@[simp] theorem startTimerAt_coll (ev : Instr) (n : Nat) (d : Dev) : (startTimerAt ev n d).coll = d.coll := (rfl)
@[simp] theorem startTimerAt_host (ev : Instr) (n : Nat) (d : Dev) : (startTimerAt ev n d).host = d.host := (rfl)
@[simp] theorem startTimerAt_net (ev : Instr) (n : Nat) (d : Dev) : (startTimerAt ev n d).net = d.net := (rfl)
@[simp] theorem startTimerAt_upd (ev : Instr) (n : Nat) (d : Dev) : (startTimerAt ev n d).upd = d.upd := (rfl)
@[simp] theorem startTimerAt_store (ev : Instr) (n : Nat) (d : Dev) : (startTimerAt ev n d).store = d.store := (rfl)
@[simp] theorem startTimerAt_jrn (ev : Instr) (n : Nat) (d : Dev) : (startTimerAt ev n d).jrn = d.jrn := (rfl)
@[simp] theorem startTimerAt_sys (ev : Instr) (n : Nat) (d : Dev) : (startTimerAt ev n d).sys = d.sys := (rfl)
@[simp] theorem startTimerAt_loss (ev : Instr) (n : Nat) (d : Dev) : (startTimerAt ev n d).loss = d.loss := (rfl)
@[simp] theorem startTimerAt_tap (ev : Instr) (n : Nat) (d : Dev) : (startTimerAt ev n d).tap = d.tap := (rfl)
@[simp] theorem startTimerAt_ringMem (ev : Instr) (n : Nat) (d : Dev) : (startTimerAt ev n d).ringMem = d.ringMem := (rfl)
@[simp] theorem startTimerAt_parcel (ev : Instr) (n : Nat) (d : Dev) : (startTimerAt ev n d).parcel = d.parcel := (rfl)
@[simp] theorem startTimerAt_timers (ev : Instr) (n : Nat) (d : Dev) : (startTimerAt ev n d).timers = (d.timers.filter fun t => t.2 != ev) ++ [(n, ev)] := (rfl)
@[simp] theorem startTimerAt_freeCtr (ev : Instr) (n : Nat) (d : Dev) : (startTimerAt ev n d).freeCtr = d.freeCtr := (rfl)

@[simp] theorem stopTimersIf_cfg (f : Instr → Bool) (d : Dev) : (stopTimersIf f d).cfg = d.cfg := (rfl)
@[simp] theorem stopTimersIf_cfgNew (f : Instr → Bool) (d : Dev) : (stopTimersIf f d).cfgNew = d.cfgNew := (rfl)
@[simp] theorem stopTimersIf_ports (f : Instr → Bool) (d : Dev) : (stopTimersIf f d).ports = d.ports := (rfl)
@[simp] theorem stopTimersIf_pd (f : Instr → Bool) (d : Dev) : (stopTimersIf f d).pd = d.pd := (rfl)
@[simp] theorem stopTimersIf_guards (f : Instr → Bool) (d : Dev) : (stopTimersIf f d).guards = d.guards := (rfl)
@[simp] theorem stopTimersIf_loops (f : Instr → Bool) (d : Dev) : (stopTimersIf f d).loops = d.loops := (rfl)
@[simp] theorem stopTimersIf_phases (f : Instr → Bool) (d : Dev) : (stopTimersIf f d).phases = d.phases := (rfl)
@[simp] theorem stopTimersIf_chans (f : Instr → Bool) (d : Dev) : (stopTimersIf f d).chans = d.chans := (rfl)
@[simp] theorem stopTimersIf_groups (f : Instr → Bool) (d : Dev) : (stopTimersIf f d).groups = d.groups := (rfl)
@[simp] theorem stopTimersIf_convs (f : Instr → Bool) (d : Dev) : (stopTimersIf f d).convs = d.convs := (rfl)
@[simp] theorem stopTimersIf_feeds (f : Instr → Bool) (d : Dev) : (stopTimersIf f d).feeds = d.feeds := (rfl)
@[simp] theorem stopTimersIf_posts (f : Instr → Bool) (d : Dev) : (stopTimersIf f d).posts = d.posts := (rfl)
@[simp] theorem stopTimersIf_ledger (f : Instr → Bool) (d : Dev) : (stopTimersIf f d).ledger = d.ledger := (rfl)
@[simp] theorem stopTimersIf_twin (f : Instr → Bool) (d : Dev) : (stopTimersIf f d).twin = d.twin := (rfl)
@[simp] theorem stopTimersIf_tmr (f : Instr → Bool) (d : Dev) : (stopTimersIf f d).tmr = d.tmr := (rfl)
@[simp] theorem stopTimersIf_alarms (f : Instr → Bool) (d : Dev) : (stopTimersIf f d).alarms = d.alarms := (rfl)
@[simp] theorem stopTimersIf_itms (f : Instr → Bool) (d : Dev) : (stopTimersIf f d).itms = d.itms := (rfl)
@[simp] theorem stopTimersIf_sources (f : Instr → Bool) (d : Dev) : (stopTimersIf f d).sources = d.sources := (rfl)
@[simp] theorem stopTimersIf_coll (f : Instr → Bool) (d : Dev) : (stopTimersIf f d).coll = d.coll := (rfl)
@[simp] theorem stopTimersIf_host (f : Instr → Bool) (d : Dev) : (stopTimersIf f d).host = d.host := (rfl)
@[simp] theorem stopTimersIf_net (f : Instr → Bool) (d : Dev) : (stopTimersIf f d).net = d.net := (rfl)
@[simp] theorem stopTimersIf_upd (f : Instr → Bool) (d : Dev) : (stopTimersIf f d).upd = d.upd := (rfl)
@[simp] theorem stopTimersIf_store (f : Instr → Bool) (d : Dev) : (stopTimersIf f d).store = d.store := (rfl)
@[simp] theorem stopTimersIf_jrn (f : Instr → Bool) (d : Dev) : (stopTimersIf f d).jrn = d.jrn := (rfl)
@[simp] theorem stopTimersIf_sys (f : Instr → Bool) (d : Dev) : (stopTimersIf f d).sys = d.sys := (rfl)
@[simp] theorem stopTimersIf_loss (f : Instr → Bool) (d : Dev) : (stopTimersIf f d).loss = d.loss := (rfl)
@[simp] theorem stopTimersIf_tap (f : Instr → Bool) (d : Dev) : (stopTimersIf f d).tap = d.tap := (rfl)
@[simp] theorem stopTimersIf_ringMem (f : Instr → Bool) (d : Dev) : (stopTimersIf f d).ringMem = d.ringMem := (rfl)
@[simp] theorem stopTimersIf_parcel (f : Instr → Bool) (d : Dev) : (stopTimersIf f d).parcel = d.parcel := (rfl)
@[simp] theorem stopTimersIf_timers (f : Instr → Bool) (d : Dev) : (stopTimersIf f d).timers = d.timers.filter fun t => !f t.2 := (rfl)
@[simp] theorem stopTimersIf_freeCtr (f : Instr → Bool) (d : Dev) : (stopTimersIf f d).freeCtr = d.freeCtr := (rfl)

@[simp] theorem post_cfg (ev : Instr) (d : Dev) : (post ev d).cfg = d.cfg := (rfl)
@[simp] theorem post_cfgNew (ev : Instr) (d : Dev) : (post ev d).cfgNew = d.cfgNew := (rfl)
@[simp] theorem post_ports (ev : Instr) (d : Dev) : (post ev d).ports = d.ports := (rfl)
@[simp] theorem post_pd (ev : Instr) (d : Dev) : (post ev d).pd = d.pd := (rfl)
@[simp] theorem post_guards (ev : Instr) (d : Dev) : (post ev d).guards = d.guards := (rfl)
@[simp] theorem post_loops (ev : Instr) (d : Dev) : (post ev d).loops = d.loops := (rfl)
@[simp] theorem post_phases (ev : Instr) (d : Dev) : (post ev d).phases = d.phases := (rfl)
@[simp] theorem post_chans (ev : Instr) (d : Dev) : (post ev d).chans = d.chans := (rfl)
@[simp] theorem post_groups (ev : Instr) (d : Dev) : (post ev d).groups = d.groups := (rfl)
@[simp] theorem post_convs (ev : Instr) (d : Dev) : (post ev d).convs = d.convs := (rfl)
@[simp] theorem post_feeds (ev : Instr) (d : Dev) : (post ev d).feeds = d.feeds := (rfl)
@[simp] theorem post_posts (ev : Instr) (d : Dev) : (post ev d).posts = d.posts := (rfl)
@[simp] theorem post_ledger (ev : Instr) (d : Dev) : (post ev d).ledger = d.ledger := (rfl)
@[simp] theorem post_twin (ev : Instr) (d : Dev) : (post ev d).twin = d.twin := (rfl)
@[simp] theorem post_tmr (ev : Instr) (d : Dev) : (post ev d).tmr = d.tmr := (rfl)
@[simp] theorem post_alarms (ev : Instr) (d : Dev) : (post ev d).alarms = d.alarms := (rfl)
@[simp] theorem post_itms (ev : Instr) (d : Dev) : (post ev d).itms = d.itms := (rfl)
@[simp] theorem post_sources (ev : Instr) (d : Dev) : (post ev d).sources = d.sources := (rfl)
@[simp] theorem post_coll (ev : Instr) (d : Dev) : (post ev d).coll = d.coll := (rfl)
@[simp] theorem post_host (ev : Instr) (d : Dev) : (post ev d).host = d.host := (rfl)
@[simp] theorem post_net (ev : Instr) (d : Dev) : (post ev d).net = d.net := (rfl)
@[simp] theorem post_upd (ev : Instr) (d : Dev) : (post ev d).upd = d.upd := (rfl)
@[simp] theorem post_store (ev : Instr) (d : Dev) : (post ev d).store = d.store := (rfl)
@[simp] theorem post_jrn (ev : Instr) (d : Dev) : (post ev d).jrn = d.jrn := (rfl)
@[simp] theorem post_sys (ev : Instr) (d : Dev) : (post ev d).sys = d.sys := (rfl)
@[simp] theorem post_loss (ev : Instr) (d : Dev) : (post ev d).loss = d.loss := (rfl)
@[simp] theorem post_tap (ev : Instr) (d : Dev) : (post ev d).tap = d.tap := (rfl)
@[simp] theorem post_ringMem (ev : Instr) (d : Dev) : (post ev d).ringMem = d.ringMem := (rfl)
@[simp] theorem post_parcel (ev : Instr) (d : Dev) : (post ev d).parcel = d.parcel := (rfl)
@[simp] theorem post_timers (ev : Instr) (d : Dev) : (post ev d).timers = d.timers ++ [(d.tmr.tb, ev)] := (rfl)
@[simp] theorem post_freeCtr (ev : Instr) (d : Dev) : (post ev d).freeCtr = d.freeCtr := (rfl)

@[simp] theorem bumpFree_cfg (d : Dev) : (bumpFree d).cfg = d.cfg := (rfl)
@[simp] theorem bumpFree_cfgNew (d : Dev) : (bumpFree d).cfgNew = d.cfgNew := (rfl)
@[simp] theorem bumpFree_ports (d : Dev) : (bumpFree d).ports = d.ports := (rfl)
@[simp] theorem bumpFree_pd (d : Dev) : (bumpFree d).pd = d.pd := (rfl)
@[simp] theorem bumpFree_guards (d : Dev) : (bumpFree d).guards = d.guards := (rfl)
@[simp] theorem bumpFree_loops (d : Dev) : (bumpFree d).loops = d.loops := (rfl)
@[simp] theorem bumpFree_phases (d : Dev) : (bumpFree d).phases = d.phases := (rfl)
@[simp] theorem bumpFree_chans (d : Dev) : (bumpFree d).chans = d.chans := (rfl)
@[simp] theorem bumpFree_groups (d : Dev) : (bumpFree d).groups = d.groups := (rfl)
@[simp] theorem bumpFree_convs (d : Dev) : (bumpFree d).convs = d.convs := (rfl)
@[simp] theorem bumpFree_feeds (d : Dev) : (bumpFree d).feeds = d.feeds := (rfl)
@[simp] theorem bumpFree_posts (d : Dev) : (bumpFree d).posts = d.posts := (rfl)
@[simp] theorem bumpFree_ledger (d : Dev) : (bumpFree d).ledger = d.ledger := (rfl)
@[simp] theorem bumpFree_twin (d : Dev) : (bumpFree d).twin = d.twin := (rfl)
@[simp] theorem bumpFree_tmr (d : Dev) : (bumpFree d).tmr = d.tmr := (rfl)
@[simp] theorem bumpFree_alarms (d : Dev) : (bumpFree d).alarms = d.alarms := (rfl)
@[simp] theorem bumpFree_itms (d : Dev) : (bumpFree d).itms = d.itms := (rfl)
@[simp] theorem bumpFree_sources (d : Dev) : (bumpFree d).sources = d.sources := (rfl)
@[simp] theorem bumpFree_coll (d : Dev) : (bumpFree d).coll = d.coll := (rfl)
@[simp] theorem bumpFree_host (d : Dev) : (bumpFree d).host = d.host := (rfl)
@[simp] theorem bumpFree_net (d : Dev) : (bumpFree d).net = d.net := (rfl)
@[simp] theorem bumpFree_upd (d : Dev) : (bumpFree d).upd = d.upd := (rfl)
@[simp] theorem bumpFree_store (d : Dev) : (bumpFree d).store = d.store := (rfl)
@[simp] theorem bumpFree_jrn (d : Dev) : (bumpFree d).jrn = d.jrn := (rfl)
@[simp] theorem bumpFree_sys (d : Dev) : (bumpFree d).sys = d.sys := (rfl)
@[simp] theorem bumpFree_loss (d : Dev) : (bumpFree d).loss = d.loss := (rfl)
@[simp] theorem bumpFree_tap (d : Dev) : (bumpFree d).tap = d.tap := (rfl)
@[simp] theorem bumpFree_ringMem (d : Dev) : (bumpFree d).ringMem = d.ringMem := (rfl)
@[simp] theorem bumpFree_parcel (d : Dev) : (bumpFree d).parcel = d.parcel := (rfl)
@[simp] theorem bumpFree_timers (d : Dev) : (bumpFree d).timers = d.timers := (rfl)
@[simp] theorem bumpFree_freeCtr (d : Dev) : (bumpFree d).freeCtr = d.freeCtr + 1 := (rfl)

@[simp] theorem settle_cfg (a b : Dev) : (settle a b).cfg = b.cfg := (rfl)
@[simp] theorem settle_cfgNew (a b : Dev) : (settle a b).cfgNew = b.cfgNew := (rfl)
@[simp] theorem settle_ports (a b : Dev) : (settle a b).ports = b.ports := (rfl)
@[simp] theorem settle_pd (a b : Dev) : (settle a b).pd = b.pd := (rfl)
@[simp] theorem settle_guards (a b : Dev) : (settle a b).guards = b.guards := (rfl)
@[simp] theorem settle_loops (a b : Dev) : (settle a b).loops = b.loops := (rfl)
@[simp] theorem settle_phases (a b : Dev) : (settle a b).phases = b.phases := (rfl)
@[simp] theorem settle_chans (a b : Dev) : (settle a b).chans = b.chans := (rfl)
@[simp] theorem settle_groups (a b : Dev) : (settle a b).groups = b.groups := (rfl)
@[simp] theorem settle_convs (a b : Dev) : (settle a b).convs = b.convs := (rfl)
@[simp] theorem settle_feeds (a b : Dev) : (settle a b).feeds = b.feeds := (rfl)
@[simp] theorem settle_posts (a b : Dev) : (settle a b).posts = b.posts := (rfl)
@[simp] theorem settle_ledger (a b : Dev) : (settle a b).ledger = b.ledger := (rfl)
@[simp] theorem settle_tmr (a b : Dev) : (settle a b).tmr = b.tmr := (rfl)
@[simp] theorem settle_alarms (a b : Dev) : (settle a b).alarms = b.alarms := (rfl)
@[simp] theorem settle_itms (a b : Dev) : (settle a b).itms = b.itms := (rfl)
@[simp] theorem settle_sources (a b : Dev) : (settle a b).sources = b.sources := (rfl)
@[simp] theorem settle_coll (a b : Dev) : (settle a b).coll = b.coll := (rfl)
@[simp] theorem settle_host (a b : Dev) : (settle a b).host = b.host := (rfl)
@[simp] theorem settle_net (a b : Dev) : (settle a b).net = b.net := (rfl)
@[simp] theorem settle_upd (a b : Dev) : (settle a b).upd = b.upd := (rfl)
@[simp] theorem settle_store (a b : Dev) : (settle a b).store = b.store := (rfl)
@[simp] theorem settle_jrn (a b : Dev) : (settle a b).jrn = b.jrn := (rfl)
@[simp] theorem settle_sys (a b : Dev) : (settle a b).sys = b.sys := (rfl)
@[simp] theorem settle_loss (a b : Dev) : (settle a b).loss = b.loss := (rfl)
@[simp] theorem settle_tap (a b : Dev) : (settle a b).tap = b.tap := (rfl)
@[simp] theorem settle_ringMem (a b : Dev) : (settle a b).ringMem = b.ringMem := (rfl)
@[simp] theorem settle_parcel (a b : Dev) : (settle a b).parcel = b.parcel := (rfl)
@[simp] theorem settle_timers (a b : Dev) : (settle a b).timers = b.timers := (rfl)
@[simp] theorem settle_freeCtr (a b : Dev) : (settle a b).freeCtr = b.freeCtr := (rfl)
@[simp] theorem settle_twin (a b : Dev) : (settle a b).twin = settleTwin a b := (rfl)

@[simp] theorem onlyIf_true (f : Dev → Dev) (d : Dev) : onlyIf true f d = f d := (rfl)
@[simp] theorem onlyIf_false (f : Dev → Dev) (d : Dev) : onlyIf false f d = d := (rfl)

/-- A property that the change keeps holds after a conditional change. -/
theorem onlyIf_keeps {P : Dev → Prop} {c : Bool} {f : Dev → Dev} {d : Dev} (hf : P d → P (f d)) (h : P d) : P (onlyIf c f d) := by
  cases c
  · exact h
  · exact hf h

/-- A property that every step keeps holds after all of them. -/
theorem forEach_keeps {α : Type} {P : Dev → Prop} {l : List α} {f : α → Dev → Dev} (hf : ∀ x d, P d → P (f x d)) {d : Dev} (h : P d) : P (forEach l f d) := by
  induction l generalizing d with
  | nil => exact h
  | cons x r ih => exact ih (hf x d h)

/-- What a step establishes for its own element and every step keeps holds of each element after all of them. -/
theorem forEach_establish {α : Type} {Q : α → Dev → Prop} {l : List α} {f : α → Dev → Dev} (he : ∀ x d, Q x (f x d))
    (hk : ∀ x y d, Q x d → Q x (f y d)) {x : α} (hx : x ∈ l) (d : Dev) : Q x (forEach l f d) := by
  induction l generalizing d with
  | nil => cases hx
  | cons y r ih =>
    rcases List.mem_cons.mp hx with rfl | h
    · exact forEach_keeps (l := r) (d := f x d) (hk x) (he x d)
    · exact ih h (f y d)

/-- What a command does: it completes, the queue as it was. -/
theorem act_eq (f : Dev → Dev) (s : State) : act f s = .next { s with dev := settle s.dev (f s.dev) } := (rfl)

end Sys2Proof.Machine
end

