-- ==== Sys2Proof/Laws/Frame.lean ====
section
/-! SUPPORT. What each shared operation leaves unchanged: one lemma for each operation, naming every part of the block it does not touch. Callers cite it rather than unfold the operation. -/

namespace Sys2Proof.Machine

@[simp ↓] theorem forEach_cfg {α : Type} (l : List α) (f : α → Dev → Dev) (h : ∀ x d, (f x d).cfg = d.cfg) (d : Dev) : (forEach l f d).cfg = d.cfg :=
  forEach_keeps (P := fun x => x.cfg = d.cfg) (fun x y e => (h x y).trans e) rfl
@[simp ↓] theorem onlyIf_cfg (c : Bool) (f : Dev → Dev) (d : Dev) (h : (f d).cfg = d.cfg) : (onlyIf c f d).cfg = d.cfg := by
  cases c
  · rfl
  · exact h
@[simp] theorem ite_cfg (c : Prop) [Decidable c] (a b : Dev) : (if c then a else b).cfg = if c then a.cfg else b.cfg := apply_ite Dev.cfg c a b
@[simp ↓] theorem forEach_cfgNew {α : Type} (l : List α) (f : α → Dev → Dev) (h : ∀ x d, (f x d).cfgNew = d.cfgNew) (d : Dev) : (forEach l f d).cfgNew = d.cfgNew :=
  forEach_keeps (P := fun x => x.cfgNew = d.cfgNew) (fun x y e => (h x y).trans e) rfl
@[simp ↓] theorem onlyIf_cfgNew (c : Bool) (f : Dev → Dev) (d : Dev) (h : (f d).cfgNew = d.cfgNew) : (onlyIf c f d).cfgNew = d.cfgNew := by
  cases c
  · rfl
  · exact h
@[simp] theorem ite_cfgNew (c : Prop) [Decidable c] (a b : Dev) : (if c then a else b).cfgNew = if c then a.cfgNew else b.cfgNew := apply_ite Dev.cfgNew c a b
@[simp ↓] theorem forEach_ports {α : Type} (l : List α) (f : α → Dev → Dev) (h : ∀ x d, (f x d).ports = d.ports) (d : Dev) : (forEach l f d).ports = d.ports :=
  forEach_keeps (P := fun x => x.ports = d.ports) (fun x y e => (h x y).trans e) rfl
@[simp ↓] theorem onlyIf_ports (c : Bool) (f : Dev → Dev) (d : Dev) (h : (f d).ports = d.ports) : (onlyIf c f d).ports = d.ports := by
  cases c
  · rfl
  · exact h
@[simp] theorem ite_ports (c : Prop) [Decidable c] (a b : Dev) : (if c then a else b).ports = if c then a.ports else b.ports := apply_ite Dev.ports c a b
@[simp ↓] theorem forEach_pd {α : Type} (l : List α) (f : α → Dev → Dev) (h : ∀ x d, (f x d).pd = d.pd) (d : Dev) : (forEach l f d).pd = d.pd :=
  forEach_keeps (P := fun x => x.pd = d.pd) (fun x y e => (h x y).trans e) rfl
@[simp ↓] theorem onlyIf_pd (c : Bool) (f : Dev → Dev) (d : Dev) (h : (f d).pd = d.pd) : (onlyIf c f d).pd = d.pd := by
  cases c
  · rfl
  · exact h
@[simp] theorem ite_pd (c : Prop) [Decidable c] (a b : Dev) : (if c then a else b).pd = if c then a.pd else b.pd := apply_ite Dev.pd c a b
@[simp ↓] theorem forEach_guards {α : Type} (l : List α) (f : α → Dev → Dev) (h : ∀ x d, (f x d).guards = d.guards) (d : Dev) : (forEach l f d).guards = d.guards :=
  forEach_keeps (P := fun x => x.guards = d.guards) (fun x y e => (h x y).trans e) rfl
@[simp ↓] theorem onlyIf_guards (c : Bool) (f : Dev → Dev) (d : Dev) (h : (f d).guards = d.guards) : (onlyIf c f d).guards = d.guards := by
  cases c
  · rfl
  · exact h
@[simp] theorem ite_guards (c : Prop) [Decidable c] (a b : Dev) : (if c then a else b).guards = if c then a.guards else b.guards := apply_ite Dev.guards c a b
@[simp ↓] theorem forEach_loops {α : Type} (l : List α) (f : α → Dev → Dev) (h : ∀ x d, (f x d).loops = d.loops) (d : Dev) : (forEach l f d).loops = d.loops :=
  forEach_keeps (P := fun x => x.loops = d.loops) (fun x y e => (h x y).trans e) rfl
@[simp ↓] theorem onlyIf_loops (c : Bool) (f : Dev → Dev) (d : Dev) (h : (f d).loops = d.loops) : (onlyIf c f d).loops = d.loops := by
  cases c
  · rfl
  · exact h
@[simp] theorem ite_loops (c : Prop) [Decidable c] (a b : Dev) : (if c then a else b).loops = if c then a.loops else b.loops := apply_ite Dev.loops c a b
@[simp ↓] theorem forEach_phases {α : Type} (l : List α) (f : α → Dev → Dev) (h : ∀ x d, (f x d).phases = d.phases) (d : Dev) : (forEach l f d).phases = d.phases :=
  forEach_keeps (P := fun x => x.phases = d.phases) (fun x y e => (h x y).trans e) rfl
@[simp ↓] theorem onlyIf_phases (c : Bool) (f : Dev → Dev) (d : Dev) (h : (f d).phases = d.phases) : (onlyIf c f d).phases = d.phases := by
  cases c
  · rfl
  · exact h
@[simp] theorem ite_phases (c : Prop) [Decidable c] (a b : Dev) : (if c then a else b).phases = if c then a.phases else b.phases := apply_ite Dev.phases c a b
@[simp ↓] theorem forEach_chans {α : Type} (l : List α) (f : α → Dev → Dev) (h : ∀ x d, (f x d).chans = d.chans) (d : Dev) : (forEach l f d).chans = d.chans :=
  forEach_keeps (P := fun x => x.chans = d.chans) (fun x y e => (h x y).trans e) rfl
@[simp ↓] theorem onlyIf_chans (c : Bool) (f : Dev → Dev) (d : Dev) (h : (f d).chans = d.chans) : (onlyIf c f d).chans = d.chans := by
  cases c
  · rfl
  · exact h
@[simp] theorem ite_chans (c : Prop) [Decidable c] (a b : Dev) : (if c then a else b).chans = if c then a.chans else b.chans := apply_ite Dev.chans c a b
@[simp ↓] theorem forEach_groups {α : Type} (l : List α) (f : α → Dev → Dev) (h : ∀ x d, (f x d).groups = d.groups) (d : Dev) : (forEach l f d).groups = d.groups :=
  forEach_keeps (P := fun x => x.groups = d.groups) (fun x y e => (h x y).trans e) rfl
@[simp ↓] theorem onlyIf_groups (c : Bool) (f : Dev → Dev) (d : Dev) (h : (f d).groups = d.groups) : (onlyIf c f d).groups = d.groups := by
  cases c
  · rfl
  · exact h
@[simp] theorem ite_groups (c : Prop) [Decidable c] (a b : Dev) : (if c then a else b).groups = if c then a.groups else b.groups := apply_ite Dev.groups c a b
@[simp ↓] theorem forEach_convs {α : Type} (l : List α) (f : α → Dev → Dev) (h : ∀ x d, (f x d).convs = d.convs) (d : Dev) : (forEach l f d).convs = d.convs :=
  forEach_keeps (P := fun x => x.convs = d.convs) (fun x y e => (h x y).trans e) rfl
@[simp ↓] theorem onlyIf_convs (c : Bool) (f : Dev → Dev) (d : Dev) (h : (f d).convs = d.convs) : (onlyIf c f d).convs = d.convs := by
  cases c
  · rfl
  · exact h
@[simp] theorem ite_convs (c : Prop) [Decidable c] (a b : Dev) : (if c then a else b).convs = if c then a.convs else b.convs := apply_ite Dev.convs c a b
@[simp ↓] theorem forEach_feeds {α : Type} (l : List α) (f : α → Dev → Dev) (h : ∀ x d, (f x d).feeds = d.feeds) (d : Dev) : (forEach l f d).feeds = d.feeds :=
  forEach_keeps (P := fun x => x.feeds = d.feeds) (fun x y e => (h x y).trans e) rfl
@[simp ↓] theorem onlyIf_feeds (c : Bool) (f : Dev → Dev) (d : Dev) (h : (f d).feeds = d.feeds) : (onlyIf c f d).feeds = d.feeds := by
  cases c
  · rfl
  · exact h
@[simp] theorem ite_feeds (c : Prop) [Decidable c] (a b : Dev) : (if c then a else b).feeds = if c then a.feeds else b.feeds := apply_ite Dev.feeds c a b
@[simp ↓] theorem forEach_posts {α : Type} (l : List α) (f : α → Dev → Dev) (h : ∀ x d, (f x d).posts = d.posts) (d : Dev) : (forEach l f d).posts = d.posts :=
  forEach_keeps (P := fun x => x.posts = d.posts) (fun x y e => (h x y).trans e) rfl
@[simp ↓] theorem onlyIf_posts (c : Bool) (f : Dev → Dev) (d : Dev) (h : (f d).posts = d.posts) : (onlyIf c f d).posts = d.posts := by
  cases c
  · rfl
  · exact h
@[simp] theorem ite_posts (c : Prop) [Decidable c] (a b : Dev) : (if c then a else b).posts = if c then a.posts else b.posts := apply_ite Dev.posts c a b
@[simp ↓] theorem forEach_ledger {α : Type} (l : List α) (f : α → Dev → Dev) (h : ∀ x d, (f x d).ledger = d.ledger) (d : Dev) : (forEach l f d).ledger = d.ledger :=
  forEach_keeps (P := fun x => x.ledger = d.ledger) (fun x y e => (h x y).trans e) rfl
@[simp ↓] theorem onlyIf_ledger (c : Bool) (f : Dev → Dev) (d : Dev) (h : (f d).ledger = d.ledger) : (onlyIf c f d).ledger = d.ledger := by
  cases c
  · rfl
  · exact h
@[simp] theorem ite_ledger (c : Prop) [Decidable c] (a b : Dev) : (if c then a else b).ledger = if c then a.ledger else b.ledger := apply_ite Dev.ledger c a b
@[simp ↓] theorem forEach_twin {α : Type} (l : List α) (f : α → Dev → Dev) (h : ∀ x d, (f x d).twin = d.twin) (d : Dev) : (forEach l f d).twin = d.twin :=
  forEach_keeps (P := fun x => x.twin = d.twin) (fun x y e => (h x y).trans e) rfl
@[simp ↓] theorem onlyIf_twin (c : Bool) (f : Dev → Dev) (d : Dev) (h : (f d).twin = d.twin) : (onlyIf c f d).twin = d.twin := by
  cases c
  · rfl
  · exact h
@[simp] theorem ite_twin (c : Prop) [Decidable c] (a b : Dev) : (if c then a else b).twin = if c then a.twin else b.twin := apply_ite Dev.twin c a b
@[simp ↓] theorem forEach_tmr {α : Type} (l : List α) (f : α → Dev → Dev) (h : ∀ x d, (f x d).tmr = d.tmr) (d : Dev) : (forEach l f d).tmr = d.tmr :=
  forEach_keeps (P := fun x => x.tmr = d.tmr) (fun x y e => (h x y).trans e) rfl
@[simp ↓] theorem onlyIf_tmr (c : Bool) (f : Dev → Dev) (d : Dev) (h : (f d).tmr = d.tmr) : (onlyIf c f d).tmr = d.tmr := by
  cases c
  · rfl
  · exact h
@[simp] theorem ite_tmr (c : Prop) [Decidable c] (a b : Dev) : (if c then a else b).tmr = if c then a.tmr else b.tmr := apply_ite Dev.tmr c a b
@[simp ↓] theorem forEach_alarms {α : Type} (l : List α) (f : α → Dev → Dev) (h : ∀ x d, (f x d).alarms = d.alarms) (d : Dev) : (forEach l f d).alarms = d.alarms :=
  forEach_keeps (P := fun x => x.alarms = d.alarms) (fun x y e => (h x y).trans e) rfl
@[simp ↓] theorem onlyIf_alarms (c : Bool) (f : Dev → Dev) (d : Dev) (h : (f d).alarms = d.alarms) : (onlyIf c f d).alarms = d.alarms := by
  cases c
  · rfl
  · exact h
@[simp] theorem ite_alarms (c : Prop) [Decidable c] (a b : Dev) : (if c then a else b).alarms = if c then a.alarms else b.alarms := apply_ite Dev.alarms c a b
@[simp ↓] theorem forEach_itms {α : Type} (l : List α) (f : α → Dev → Dev) (h : ∀ x d, (f x d).itms = d.itms) (d : Dev) : (forEach l f d).itms = d.itms :=
  forEach_keeps (P := fun x => x.itms = d.itms) (fun x y e => (h x y).trans e) rfl
@[simp ↓] theorem onlyIf_itms (c : Bool) (f : Dev → Dev) (d : Dev) (h : (f d).itms = d.itms) : (onlyIf c f d).itms = d.itms := by
  cases c
  · rfl
  · exact h
@[simp] theorem ite_itms (c : Prop) [Decidable c] (a b : Dev) : (if c then a else b).itms = if c then a.itms else b.itms := apply_ite Dev.itms c a b
@[simp ↓] theorem forEach_sources {α : Type} (l : List α) (f : α → Dev → Dev) (h : ∀ x d, (f x d).sources = d.sources) (d : Dev) : (forEach l f d).sources = d.sources :=
  forEach_keeps (P := fun x => x.sources = d.sources) (fun x y e => (h x y).trans e) rfl
@[simp ↓] theorem onlyIf_sources (c : Bool) (f : Dev → Dev) (d : Dev) (h : (f d).sources = d.sources) : (onlyIf c f d).sources = d.sources := by
  cases c
  · rfl
  · exact h
@[simp] theorem ite_sources (c : Prop) [Decidable c] (a b : Dev) : (if c then a else b).sources = if c then a.sources else b.sources := apply_ite Dev.sources c a b
@[simp ↓] theorem forEach_coll {α : Type} (l : List α) (f : α → Dev → Dev) (h : ∀ x d, (f x d).coll = d.coll) (d : Dev) : (forEach l f d).coll = d.coll :=
  forEach_keeps (P := fun x => x.coll = d.coll) (fun x y e => (h x y).trans e) rfl
@[simp ↓] theorem onlyIf_coll (c : Bool) (f : Dev → Dev) (d : Dev) (h : (f d).coll = d.coll) : (onlyIf c f d).coll = d.coll := by
  cases c
  · rfl
  · exact h
@[simp] theorem ite_coll (c : Prop) [Decidable c] (a b : Dev) : (if c then a else b).coll = if c then a.coll else b.coll := apply_ite Dev.coll c a b
@[simp ↓] theorem forEach_host {α : Type} (l : List α) (f : α → Dev → Dev) (h : ∀ x d, (f x d).host = d.host) (d : Dev) : (forEach l f d).host = d.host :=
  forEach_keeps (P := fun x => x.host = d.host) (fun x y e => (h x y).trans e) rfl
@[simp ↓] theorem onlyIf_host (c : Bool) (f : Dev → Dev) (d : Dev) (h : (f d).host = d.host) : (onlyIf c f d).host = d.host := by
  cases c
  · rfl
  · exact h
@[simp] theorem ite_host (c : Prop) [Decidable c] (a b : Dev) : (if c then a else b).host = if c then a.host else b.host := apply_ite Dev.host c a b
@[simp ↓] theorem forEach_net {α : Type} (l : List α) (f : α → Dev → Dev) (h : ∀ x d, (f x d).net = d.net) (d : Dev) : (forEach l f d).net = d.net :=
  forEach_keeps (P := fun x => x.net = d.net) (fun x y e => (h x y).trans e) rfl
@[simp ↓] theorem onlyIf_net (c : Bool) (f : Dev → Dev) (d : Dev) (h : (f d).net = d.net) : (onlyIf c f d).net = d.net := by
  cases c
  · rfl
  · exact h
@[simp] theorem ite_net (c : Prop) [Decidable c] (a b : Dev) : (if c then a else b).net = if c then a.net else b.net := apply_ite Dev.net c a b
@[simp ↓] theorem forEach_upd {α : Type} (l : List α) (f : α → Dev → Dev) (h : ∀ x d, (f x d).upd = d.upd) (d : Dev) : (forEach l f d).upd = d.upd :=
  forEach_keeps (P := fun x => x.upd = d.upd) (fun x y e => (h x y).trans e) rfl
@[simp ↓] theorem onlyIf_upd (c : Bool) (f : Dev → Dev) (d : Dev) (h : (f d).upd = d.upd) : (onlyIf c f d).upd = d.upd := by
  cases c
  · rfl
  · exact h
@[simp] theorem ite_upd (c : Prop) [Decidable c] (a b : Dev) : (if c then a else b).upd = if c then a.upd else b.upd := apply_ite Dev.upd c a b
@[simp ↓] theorem forEach_store {α : Type} (l : List α) (f : α → Dev → Dev) (h : ∀ x d, (f x d).store = d.store) (d : Dev) : (forEach l f d).store = d.store :=
  forEach_keeps (P := fun x => x.store = d.store) (fun x y e => (h x y).trans e) rfl
@[simp ↓] theorem onlyIf_store (c : Bool) (f : Dev → Dev) (d : Dev) (h : (f d).store = d.store) : (onlyIf c f d).store = d.store := by
  cases c
  · rfl
  · exact h
@[simp] theorem ite_store (c : Prop) [Decidable c] (a b : Dev) : (if c then a else b).store = if c then a.store else b.store := apply_ite Dev.store c a b
@[simp ↓] theorem forEach_jrn {α : Type} (l : List α) (f : α → Dev → Dev) (h : ∀ x d, (f x d).jrn = d.jrn) (d : Dev) : (forEach l f d).jrn = d.jrn :=
  forEach_keeps (P := fun x => x.jrn = d.jrn) (fun x y e => (h x y).trans e) rfl
@[simp ↓] theorem onlyIf_jrn (c : Bool) (f : Dev → Dev) (d : Dev) (h : (f d).jrn = d.jrn) : (onlyIf c f d).jrn = d.jrn := by
  cases c
  · rfl
  · exact h
@[simp] theorem ite_jrn (c : Prop) [Decidable c] (a b : Dev) : (if c then a else b).jrn = if c then a.jrn else b.jrn := apply_ite Dev.jrn c a b
@[simp ↓] theorem forEach_sys {α : Type} (l : List α) (f : α → Dev → Dev) (h : ∀ x d, (f x d).sys = d.sys) (d : Dev) : (forEach l f d).sys = d.sys :=
  forEach_keeps (P := fun x => x.sys = d.sys) (fun x y e => (h x y).trans e) rfl
@[simp ↓] theorem onlyIf_sys (c : Bool) (f : Dev → Dev) (d : Dev) (h : (f d).sys = d.sys) : (onlyIf c f d).sys = d.sys := by
  cases c
  · rfl
  · exact h
@[simp] theorem ite_sys (c : Prop) [Decidable c] (a b : Dev) : (if c then a else b).sys = if c then a.sys else b.sys := apply_ite Dev.sys c a b
@[simp ↓] theorem forEach_loss {α : Type} (l : List α) (f : α → Dev → Dev) (h : ∀ x d, (f x d).loss = d.loss) (d : Dev) : (forEach l f d).loss = d.loss :=
  forEach_keeps (P := fun x => x.loss = d.loss) (fun x y e => (h x y).trans e) rfl
@[simp ↓] theorem onlyIf_loss (c : Bool) (f : Dev → Dev) (d : Dev) (h : (f d).loss = d.loss) : (onlyIf c f d).loss = d.loss := by
  cases c
  · rfl
  · exact h
@[simp] theorem ite_loss (c : Prop) [Decidable c] (a b : Dev) : (if c then a else b).loss = if c then a.loss else b.loss := apply_ite Dev.loss c a b
@[simp ↓] theorem forEach_tap {α : Type} (l : List α) (f : α → Dev → Dev) (h : ∀ x d, (f x d).tap = d.tap) (d : Dev) : (forEach l f d).tap = d.tap :=
  forEach_keeps (P := fun x => x.tap = d.tap) (fun x y e => (h x y).trans e) rfl
@[simp ↓] theorem onlyIf_tap (c : Bool) (f : Dev → Dev) (d : Dev) (h : (f d).tap = d.tap) : (onlyIf c f d).tap = d.tap := by
  cases c
  · rfl
  · exact h
@[simp] theorem ite_tap (c : Prop) [Decidable c] (a b : Dev) : (if c then a else b).tap = if c then a.tap else b.tap := apply_ite Dev.tap c a b
@[simp ↓] theorem forEach_ringMem {α : Type} (l : List α) (f : α → Dev → Dev) (h : ∀ x d, (f x d).ringMem = d.ringMem) (d : Dev) : (forEach l f d).ringMem = d.ringMem :=
  forEach_keeps (P := fun x => x.ringMem = d.ringMem) (fun x y e => (h x y).trans e) rfl
@[simp ↓] theorem onlyIf_ringMem (c : Bool) (f : Dev → Dev) (d : Dev) (h : (f d).ringMem = d.ringMem) : (onlyIf c f d).ringMem = d.ringMem := by
  cases c
  · rfl
  · exact h
@[simp] theorem ite_ringMem (c : Prop) [Decidable c] (a b : Dev) : (if c then a else b).ringMem = if c then a.ringMem else b.ringMem := apply_ite Dev.ringMem c a b
@[simp ↓] theorem forEach_parcel {α : Type} (l : List α) (f : α → Dev → Dev) (h : ∀ x d, (f x d).parcel = d.parcel) (d : Dev) : (forEach l f d).parcel = d.parcel :=
  forEach_keeps (P := fun x => x.parcel = d.parcel) (fun x y e => (h x y).trans e) rfl
@[simp ↓] theorem onlyIf_parcel (c : Bool) (f : Dev → Dev) (d : Dev) (h : (f d).parcel = d.parcel) : (onlyIf c f d).parcel = d.parcel := by
  cases c
  · rfl
  · exact h
@[simp] theorem ite_parcel (c : Prop) [Decidable c] (a b : Dev) : (if c then a else b).parcel = if c then a.parcel else b.parcel := apply_ite Dev.parcel c a b
@[simp ↓] theorem forEach_timers {α : Type} (l : List α) (f : α → Dev → Dev) (h : ∀ x d, (f x d).timers = d.timers) (d : Dev) : (forEach l f d).timers = d.timers :=
  forEach_keeps (P := fun x => x.timers = d.timers) (fun x y e => (h x y).trans e) rfl
@[simp ↓] theorem onlyIf_timers (c : Bool) (f : Dev → Dev) (d : Dev) (h : (f d).timers = d.timers) : (onlyIf c f d).timers = d.timers := by
  cases c
  · rfl
  · exact h
@[simp] theorem ite_timers (c : Prop) [Decidable c] (a b : Dev) : (if c then a else b).timers = if c then a.timers else b.timers := apply_ite Dev.timers c a b
@[simp ↓] theorem forEach_freeCtr {α : Type} (l : List α) (f : α → Dev → Dev) (h : ∀ x d, (f x d).freeCtr = d.freeCtr) (d : Dev) : (forEach l f d).freeCtr = d.freeCtr :=
  forEach_keeps (P := fun x => x.freeCtr = d.freeCtr) (fun x y e => (h x y).trans e) rfl
@[simp ↓] theorem onlyIf_freeCtr (c : Bool) (f : Dev → Dev) (d : Dev) (h : (f d).freeCtr = d.freeCtr) : (onlyIf c f d).freeCtr = d.freeCtr := by
  cases c
  · rfl
  · exact h
@[simp] theorem ite_freeCtr (c : Prop) [Decidable c] (a b : Dev) : (if c then a else b).freeCtr = if c then a.freeCtr else b.freeCtr := apply_ite Dev.freeCtr c a b
@[simp ↓] theorem forEach_host_event {α : Type} (l : List α) (f : α → Dev → Dev) (h : ∀ x d, (f x d).host.event = d.host.event) (d : Dev) : (forEach l f d).host.event = d.host.event :=
  forEach_keeps (P := fun x => x.host.event = d.host.event) (fun x y e => (h x y).trans e) rfl
@[simp ↓] theorem onlyIf_host_event (c : Bool) (f : Dev → Dev) (d : Dev) (h : (f d).host.event = d.host.event) : (onlyIf c f d).host.event = d.host.event := by
  cases c
  · rfl
  · exact h
@[simp ↓] theorem forEach_host_irqen {α : Type} (l : List α) (f : α → Dev → Dev) (h : ∀ x d, (f x d).host.irqen = d.host.irqen) (d : Dev) : (forEach l f d).host.irqen = d.host.irqen :=
  forEach_keeps (P := fun x => x.host.irqen = d.host.irqen) (fun x y e => (h x y).trans e) rfl
@[simp ↓] theorem onlyIf_host_irqen (c : Bool) (f : Dev → Dev) (d : Dev) (h : (f d).host.irqen = d.host.irqen) : (onlyIf c f d).host.irqen = d.host.irqen := by
  cases c
  · rfl
  · exact h
@[simp ↓] theorem forEach_host_owner {α : Type} (l : List α) (f : α → Dev → Dev) (h : ∀ x d, (f x d).host.owner = d.host.owner) (d : Dev) : (forEach l f d).host.owner = d.host.owner :=
  forEach_keeps (P := fun x => x.host.owner = d.host.owner) (fun x y e => (h x y).trans e) rfl
@[simp ↓] theorem onlyIf_host_owner (c : Bool) (f : Dev → Dev) (d : Dev) (h : (f d).host.owner = d.host.owner) : (onlyIf c f d).host.owner = d.host.owner := by
  cases c
  · rfl
  · exact h
@[simp ↓] theorem forEach_host_successor {α : Type} (l : List α) (f : α → Dev → Dev) (h : ∀ x d, (f x d).host.successor = d.host.successor) (d : Dev) : (forEach l f d).host.successor = d.host.successor :=
  forEach_keeps (P := fun x => x.host.successor = d.host.successor) (fun x y e => (h x y).trans e) rfl
@[simp ↓] theorem onlyIf_host_successor (c : Bool) (f : Dev → Dev) (d : Dev) (h : (f d).host.successor = d.host.successor) : (onlyIf c f d).host.successor = d.host.successor := by
  cases c
  · rfl
  · exact h
@[simp ↓] theorem forEach_host_window {α : Type} (l : List α) (f : α → Dev → Dev) (h : ∀ x d, (f x d).host.window = d.host.window) (d : Dev) : (forEach l f d).host.window = d.host.window :=
  forEach_keeps (P := fun x => x.host.window = d.host.window) (fun x y e => (h x y).trans e) rfl
@[simp ↓] theorem onlyIf_host_window (c : Bool) (f : Dev → Dev) (d : Dev) (h : (f d).host.window = d.host.window) : (onlyIf c f d).host.window = d.host.window := by
  cases c
  · rfl
  · exact h
@[simp ↓] theorem forEach_host_changes {α : Type} (l : List α) (f : α → Dev → Dev) (h : ∀ x d, (f x d).host.changes = d.host.changes) (d : Dev) : (forEach l f d).host.changes = d.host.changes :=
  forEach_keeps (P := fun x => x.host.changes = d.host.changes) (fun x y e => (h x y).trans e) rfl
@[simp ↓] theorem onlyIf_host_changes (c : Bool) (f : Dev → Dev) (d : Dev) (h : (f d).host.changes = d.host.changes) : (onlyIf c f d).host.changes = d.host.changes := by
  cases c
  · rfl
  · exact h
@[simp ↓] theorem forEach_host_leaseEnd {α : Type} (l : List α) (f : α → Dev → Dev) (h : ∀ x d, (f x d).host.leaseEnd = d.host.leaseEnd) (d : Dev) : (forEach l f d).host.leaseEnd = d.host.leaseEnd :=
  forEach_keeps (P := fun x => x.host.leaseEnd = d.host.leaseEnd) (fun x y e => (h x y).trans e) rfl
@[simp ↓] theorem onlyIf_host_leaseEnd (c : Bool) (f : Dev → Dev) (d : Dev) (h : (f d).host.leaseEnd = d.host.leaseEnd) : (onlyIf c f d).host.leaseEnd = d.host.leaseEnd := by
  cases c
  · rfl
  · exact h
@[simp ↓] theorem forEach_host_hostLoaded {α : Type} (l : List α) (f : α → Dev → Dev) (h : ∀ x d, (f x d).host.hostLoaded = d.host.hostLoaded) (d : Dev) : (forEach l f d).host.hostLoaded = d.host.hostLoaded :=
  forEach_keeps (P := fun x => x.host.hostLoaded = d.host.hostLoaded) (fun x y e => (h x y).trans e) rfl
@[simp ↓] theorem onlyIf_host_hostLoaded (c : Bool) (f : Dev → Dev) (d : Dev) (h : (f d).host.hostLoaded = d.host.hostLoaded) : (onlyIf c f d).host.hostLoaded = d.host.hostLoaded := by
  cases c
  · rfl
  · exact h
@[simp ↓] theorem forEach_host_irqA {α : Type} (l : List α) (f : α → Dev → Dev) (h : ∀ x d, (f x d).host.irqA = d.host.irqA) (d : Dev) : (forEach l f d).host.irqA = d.host.irqA :=
  forEach_keeps (P := fun x => x.host.irqA = d.host.irqA) (fun x y e => (h x y).trans e) rfl
@[simp ↓] theorem onlyIf_host_irqA (c : Bool) (f : Dev → Dev) (d : Dev) (h : (f d).host.irqA = d.host.irqA) : (onlyIf c f d).host.irqA = d.host.irqA := by
  cases c
  · rfl
  · exact h
@[simp ↓] theorem forEach_host_irqB {α : Type} (l : List α) (f : α → Dev → Dev) (h : ∀ x d, (f x d).host.irqB = d.host.irqB) (d : Dev) : (forEach l f d).host.irqB = d.host.irqB :=
  forEach_keeps (P := fun x => x.host.irqB = d.host.irqB) (fun x y e => (h x y).trans e) rfl
@[simp ↓] theorem onlyIf_host_irqB (c : Bool) (f : Dev → Dev) (d : Dev) (h : (f d).host.irqB = d.host.irqB) : (onlyIf c f d).host.irqB = d.host.irqB := by
  cases c
  · rfl
  · exact h
@[simp ↓] theorem forEach_host_spiDummy {α : Type} (l : List α) (f : α → Dev → Dev) (h : ∀ x d, (f x d).host.spiDummy = d.host.spiDummy) (d : Dev) : (forEach l f d).host.spiDummy = d.host.spiDummy :=
  forEach_keeps (P := fun x => x.host.spiDummy = d.host.spiDummy) (fun x y e => (h x y).trans e) rfl
@[simp ↓] theorem onlyIf_host_spiDummy (c : Bool) (f : Dev → Dev) (d : Dev) (h : (f d).host.spiDummy = d.host.spiDummy) : (onlyIf c f d).host.spiDummy = d.host.spiDummy := by
  cases c
  · rfl
  · exact h
@[simp ↓] theorem forEach_host_spiCount {α : Type} (l : List α) (f : α → Dev → Dev) (h : ∀ x d, (f x d).host.spiCount = d.host.spiCount) (d : Dev) : (forEach l f d).host.spiCount = d.host.spiCount :=
  forEach_keeps (P := fun x => x.host.spiCount = d.host.spiCount) (fun x y e => (h x y).trans e) rfl
@[simp ↓] theorem onlyIf_host_spiCount (c : Bool) (f : Dev → Dev) (d : Dev) (h : (f d).host.spiCount = d.host.spiCount) : (onlyIf c f d).host.spiCount = d.host.spiCount := by
  cases c
  · rfl
  · exact h
@[simp ↓] theorem forEach_host_spiCrc {α : Type} (l : List α) (f : α → Dev → Dev) (h : ∀ x d, (f x d).host.spiCrc = d.host.spiCrc) (d : Dev) : (forEach l f d).host.spiCrc = d.host.spiCrc :=
  forEach_keeps (P := fun x => x.host.spiCrc = d.host.spiCrc) (fun x y e => (h x y).trans e) rfl
@[simp ↓] theorem onlyIf_host_spiCrc (c : Bool) (f : Dev → Dev) (d : Dev) (h : (f d).host.spiCrc = d.host.spiCrc) : (onlyIf c f d).host.spiCrc = d.host.spiCrc := by
  cases c
  · rfl
  · exact h
@[simp ↓] theorem forEach_host_spiAbort {α : Type} (l : List α) (f : α → Dev → Dev) (h : ∀ x d, (f x d).host.spiAbort = d.host.spiAbort) (d : Dev) : (forEach l f d).host.spiAbort = d.host.spiAbort :=
  forEach_keeps (P := fun x => x.host.spiAbort = d.host.spiAbort) (fun x y e => (h x y).trans e) rfl
@[simp ↓] theorem onlyIf_host_spiAbort (c : Bool) (f : Dev → Dev) (d : Dev) (h : (f d).host.spiAbort = d.host.spiAbort) : (onlyIf c f d).host.spiAbort = d.host.spiAbort := by
  cases c
  · rfl
  · exact h
@[simp ↓] theorem forEach_host_baud {α : Type} (l : List α) (f : α → Dev → Dev) (h : ∀ x d, (f x d).host.baud = d.host.baud) (d : Dev) : (forEach l f d).host.baud = d.host.baud :=
  forEach_keeps (P := fun x => x.host.baud = d.host.baud) (fun x y e => (h x y).trans e) rfl
@[simp ↓] theorem onlyIf_host_baud (c : Bool) (f : Dev → Dev) (d : Dev) (h : (f d).host.baud = d.host.baud) : (onlyIf c f d).host.baud = d.host.baud := by
  cases c
  · rfl
  · exact h
@[simp ↓] theorem forEach_host_uartFrames {α : Type} (l : List α) (f : α → Dev → Dev) (h : ∀ x d, (f x d).host.uartFrames = d.host.uartFrames) (d : Dev) : (forEach l f d).host.uartFrames = d.host.uartFrames :=
  forEach_keeps (P := fun x => x.host.uartFrames = d.host.uartFrames) (fun x y e => (h x y).trans e) rfl
@[simp ↓] theorem onlyIf_host_uartFrames (c : Bool) (f : Dev → Dev) (d : Dev) (h : (f d).host.uartFrames = d.host.uartFrames) : (onlyIf c f d).host.uartFrames = d.host.uartFrames := by
  cases c
  · rfl
  · exact h
@[simp ↓] theorem forEach_host_uartCrc {α : Type} (l : List α) (f : α → Dev → Dev) (h : ∀ x d, (f x d).host.uartCrc = d.host.uartCrc) (d : Dev) : (forEach l f d).host.uartCrc = d.host.uartCrc :=
  forEach_keeps (P := fun x => x.host.uartCrc = d.host.uartCrc) (fun x y e => (h x y).trans e) rfl
@[simp ↓] theorem onlyIf_host_uartCrc (c : Bool) (f : Dev → Dev) (d : Dev) (h : (f d).host.uartCrc = d.host.uartCrc) : (onlyIf c f d).host.uartCrc = d.host.uartCrc := by
  cases c
  · rfl
  · exact h
@[simp ↓] theorem forEach_host_uartDrops {α : Type} (l : List α) (f : α → Dev → Dev) (h : ∀ x d, (f x d).host.uartDrops = d.host.uartDrops) (d : Dev) : (forEach l f d).host.uartDrops = d.host.uartDrops :=
  forEach_keeps (P := fun x => x.host.uartDrops = d.host.uartDrops) (fun x y e => (h x y).trans e) rfl
@[simp ↓] theorem onlyIf_host_uartDrops (c : Bool) (f : Dev → Dev) (d : Dev) (h : (f d).host.uartDrops = d.host.uartDrops) : (onlyIf c f d).host.uartDrops = d.host.uartDrops := by
  cases c
  · rfl
  · exact h
@[simp ↓] theorem forEach_host_jobs {α : Type} (l : List α) (f : α → Dev → Dev) (h : ∀ x d, (f x d).host.jobs = d.host.jobs) (d : Dev) : (forEach l f d).host.jobs = d.host.jobs :=
  forEach_keeps (P := fun x => x.host.jobs = d.host.jobs) (fun x y e => (h x y).trans e) rfl
@[simp ↓] theorem onlyIf_host_jobs (c : Bool) (f : Dev → Dev) (d : Dev) (h : (f d).host.jobs = d.host.jobs) : (onlyIf c f d).host.jobs = d.host.jobs := by
  cases c
  · rfl
  · exact h
@[simp ↓] theorem forEach_host_masters {α : Type} (l : List α) (f : α → Dev → Dev) (h : ∀ x d, (f x d).host.masters = d.host.masters) (d : Dev) : (forEach l f d).host.masters = d.host.masters :=
  forEach_keeps (P := fun x => x.host.masters = d.host.masters) (fun x y e => (h x y).trans e) rfl
@[simp ↓] theorem onlyIf_host_masters (c : Bool) (f : Dev → Dev) (d : Dev) (h : (f d).host.masters = d.host.masters) : (onlyIf c f d).host.masters = d.host.masters := by
  cases c
  · rfl
  · exact h
@[simp ↓] theorem forEach_host_kept {α : Type} (l : List α) (f : α → Dev → Dev) (h : ∀ x d, (f x d).host.kept = d.host.kept) (d : Dev) : (forEach l f d).host.kept = d.host.kept :=
  forEach_keeps (P := fun x => x.host.kept = d.host.kept) (fun x y e => (h x y).trans e) rfl
@[simp ↓] theorem onlyIf_host_kept (c : Bool) (f : Dev → Dev) (d : Dev) (h : (f d).host.kept = d.host.kept) : (onlyIf c f d).host.kept = d.host.kept := by
  cases c
  · rfl
  · exact h

@[simp ↓] theorem toDie_cfg (p : Fin 32) (k : EdgeCmd) (f : Dev → Dev) (d : Dev) (h : (f d).cfg = d.cfg) : (toDie p k f d).cfg = d.cfg := by
  unfold toDie
  split
  · rfl
  · exact h
@[simp] theorem lossPut_cfg (l : Fin 5) (i : Frame) (d : Dev) : (lossPut l i d).cfg = d.cfg := by
  unfold lossPut
  dsimp only
  repeat' split
  all_goals rfl
@[simp ↓] theorem fromDie_cfg (l : Fin 5) (i : Instr) (f : Dev → Dev) (d : Dev) (h : (f d).cfg = d.cfg) : (fromDie l i f d).cfg = d.cfg := by
  unfold fromDie
  split
  · simp
  · exact h
@[simp ↓] theorem toDie_cfgNew (p : Fin 32) (k : EdgeCmd) (f : Dev → Dev) (d : Dev) (h : (f d).cfgNew = d.cfgNew) : (toDie p k f d).cfgNew = d.cfgNew := by
  unfold toDie
  split
  · rfl
  · exact h
@[simp] theorem lossPut_cfgNew (l : Fin 5) (i : Frame) (d : Dev) : (lossPut l i d).cfgNew = d.cfgNew := by
  unfold lossPut
  dsimp only
  repeat' split
  all_goals rfl
@[simp ↓] theorem fromDie_cfgNew (l : Fin 5) (i : Instr) (f : Dev → Dev) (d : Dev) (h : (f d).cfgNew = d.cfgNew) : (fromDie l i f d).cfgNew = d.cfgNew := by
  unfold fromDie
  split
  · simp
  · exact h
@[simp ↓] theorem toDie_ports (p : Fin 32) (k : EdgeCmd) (f : Dev → Dev) (d : Dev) (h : (f d).ports = d.ports) : (toDie p k f d).ports = d.ports := by
  unfold toDie
  split
  · rfl
  · exact h
@[simp] theorem lossPut_ports (l : Fin 5) (i : Frame) (d : Dev) : (lossPut l i d).ports = d.ports := by
  unfold lossPut
  dsimp only
  repeat' split
  all_goals rfl
@[simp ↓] theorem fromDie_ports (l : Fin 5) (i : Instr) (f : Dev → Dev) (d : Dev) (h : (f d).ports = d.ports) : (fromDie l i f d).ports = d.ports := by
  unfold fromDie
  split
  · simp
  · exact h
@[simp ↓] theorem toDie_pd (p : Fin 32) (k : EdgeCmd) (f : Dev → Dev) (d : Dev) (h : (f d).pd = d.pd) : (toDie p k f d).pd = d.pd := by
  unfold toDie
  split
  · rfl
  · exact h
@[simp] theorem lossPut_pd (l : Fin 5) (i : Frame) (d : Dev) : (lossPut l i d).pd = d.pd := by
  unfold lossPut
  dsimp only
  repeat' split
  all_goals rfl
@[simp ↓] theorem fromDie_pd (l : Fin 5) (i : Instr) (f : Dev → Dev) (d : Dev) (h : (f d).pd = d.pd) : (fromDie l i f d).pd = d.pd := by
  unfold fromDie
  split
  · simp
  · exact h
@[simp ↓] theorem toDie_guards (p : Fin 32) (k : EdgeCmd) (f : Dev → Dev) (d : Dev) (h : (f d).guards = d.guards) : (toDie p k f d).guards = d.guards := by
  unfold toDie
  split
  · rfl
  · exact h
@[simp] theorem lossPut_guards (l : Fin 5) (i : Frame) (d : Dev) : (lossPut l i d).guards = d.guards := by
  unfold lossPut
  dsimp only
  repeat' split
  all_goals rfl
@[simp ↓] theorem fromDie_guards (l : Fin 5) (i : Instr) (f : Dev → Dev) (d : Dev) (h : (f d).guards = d.guards) : (fromDie l i f d).guards = d.guards := by
  unfold fromDie
  split
  · simp
  · exact h
@[simp ↓] theorem toDie_loops (p : Fin 32) (k : EdgeCmd) (f : Dev → Dev) (d : Dev) (h : (f d).loops = d.loops) : (toDie p k f d).loops = d.loops := by
  unfold toDie
  split
  · rfl
  · exact h
@[simp] theorem lossPut_loops (l : Fin 5) (i : Frame) (d : Dev) : (lossPut l i d).loops = d.loops := by
  unfold lossPut
  dsimp only
  repeat' split
  all_goals rfl
@[simp ↓] theorem fromDie_loops (l : Fin 5) (i : Instr) (f : Dev → Dev) (d : Dev) (h : (f d).loops = d.loops) : (fromDie l i f d).loops = d.loops := by
  unfold fromDie
  split
  · simp
  · exact h
@[simp ↓] theorem toDie_phases (p : Fin 32) (k : EdgeCmd) (f : Dev → Dev) (d : Dev) (h : (f d).phases = d.phases) : (toDie p k f d).phases = d.phases := by
  unfold toDie
  split
  · rfl
  · exact h
@[simp] theorem lossPut_phases (l : Fin 5) (i : Frame) (d : Dev) : (lossPut l i d).phases = d.phases := by
  unfold lossPut
  dsimp only
  repeat' split
  all_goals rfl
@[simp ↓] theorem fromDie_phases (l : Fin 5) (i : Instr) (f : Dev → Dev) (d : Dev) (h : (f d).phases = d.phases) : (fromDie l i f d).phases = d.phases := by
  unfold fromDie
  split
  · simp
  · exact h
@[simp ↓] theorem toDie_chans (p : Fin 32) (k : EdgeCmd) (f : Dev → Dev) (d : Dev) (h : (f d).chans = d.chans) : (toDie p k f d).chans = d.chans := by
  unfold toDie
  split
  · rfl
  · exact h
@[simp] theorem lossPut_chans (l : Fin 5) (i : Frame) (d : Dev) : (lossPut l i d).chans = d.chans := by
  unfold lossPut
  dsimp only
  repeat' split
  all_goals rfl
@[simp ↓] theorem fromDie_chans (l : Fin 5) (i : Instr) (f : Dev → Dev) (d : Dev) (h : (f d).chans = d.chans) : (fromDie l i f d).chans = d.chans := by
  unfold fromDie
  split
  · simp
  · exact h
@[simp ↓] theorem toDie_groups (p : Fin 32) (k : EdgeCmd) (f : Dev → Dev) (d : Dev) (h : (f d).groups = d.groups) : (toDie p k f d).groups = d.groups := by
  unfold toDie
  split
  · rfl
  · exact h
@[simp] theorem lossPut_groups (l : Fin 5) (i : Frame) (d : Dev) : (lossPut l i d).groups = d.groups := by
  unfold lossPut
  dsimp only
  repeat' split
  all_goals rfl
@[simp ↓] theorem fromDie_groups (l : Fin 5) (i : Instr) (f : Dev → Dev) (d : Dev) (h : (f d).groups = d.groups) : (fromDie l i f d).groups = d.groups := by
  unfold fromDie
  split
  · simp
  · exact h
@[simp ↓] theorem toDie_convs (p : Fin 32) (k : EdgeCmd) (f : Dev → Dev) (d : Dev) (h : (f d).convs = d.convs) : (toDie p k f d).convs = d.convs := by
  unfold toDie
  split
  · rfl
  · exact h
@[simp] theorem lossPut_convs (l : Fin 5) (i : Frame) (d : Dev) : (lossPut l i d).convs = d.convs := by
  unfold lossPut
  dsimp only
  repeat' split
  all_goals rfl
@[simp ↓] theorem fromDie_convs (l : Fin 5) (i : Instr) (f : Dev → Dev) (d : Dev) (h : (f d).convs = d.convs) : (fromDie l i f d).convs = d.convs := by
  unfold fromDie
  split
  · simp
  · exact h
@[simp ↓] theorem toDie_feeds (p : Fin 32) (k : EdgeCmd) (f : Dev → Dev) (d : Dev) (h : (f d).feeds = d.feeds) : (toDie p k f d).feeds = d.feeds := by
  unfold toDie
  split
  · rfl
  · exact h
@[simp] theorem lossPut_feeds (l : Fin 5) (i : Frame) (d : Dev) : (lossPut l i d).feeds = d.feeds := by
  unfold lossPut
  dsimp only
  repeat' split
  all_goals rfl
@[simp ↓] theorem fromDie_feeds (l : Fin 5) (i : Instr) (f : Dev → Dev) (d : Dev) (h : (f d).feeds = d.feeds) : (fromDie l i f d).feeds = d.feeds := by
  unfold fromDie
  split
  · simp
  · exact h
@[simp ↓] theorem toDie_posts (p : Fin 32) (k : EdgeCmd) (f : Dev → Dev) (d : Dev) (h : (f d).posts = d.posts) : (toDie p k f d).posts = d.posts := by
  unfold toDie
  split
  · rfl
  · exact h
@[simp] theorem lossPut_posts (l : Fin 5) (i : Frame) (d : Dev) : (lossPut l i d).posts = d.posts := by
  unfold lossPut
  dsimp only
  repeat' split
  all_goals rfl
@[simp ↓] theorem fromDie_posts (l : Fin 5) (i : Instr) (f : Dev → Dev) (d : Dev) (h : (f d).posts = d.posts) : (fromDie l i f d).posts = d.posts := by
  unfold fromDie
  split
  · simp
  · exact h
@[simp ↓] theorem toDie_ledger (p : Fin 32) (k : EdgeCmd) (f : Dev → Dev) (d : Dev) (h : (f d).ledger = d.ledger) : (toDie p k f d).ledger = d.ledger := by
  unfold toDie
  split
  · rfl
  · exact h
@[simp] theorem lossPut_ledger (l : Fin 5) (i : Frame) (d : Dev) : (lossPut l i d).ledger = d.ledger := by
  unfold lossPut
  dsimp only
  repeat' split
  all_goals rfl
@[simp ↓] theorem fromDie_ledger (l : Fin 5) (i : Instr) (f : Dev → Dev) (d : Dev) (h : (f d).ledger = d.ledger) : (fromDie l i f d).ledger = d.ledger := by
  unfold fromDie
  split
  · simp
  · exact h
@[simp ↓] theorem toDie_twin (p : Fin 32) (k : EdgeCmd) (f : Dev → Dev) (d : Dev) (h : (f d).twin = d.twin) : (toDie p k f d).twin = d.twin := by
  unfold toDie
  split
  · rfl
  · exact h
@[simp] theorem lossPut_twin (l : Fin 5) (i : Frame) (d : Dev) : (lossPut l i d).twin = d.twin := by
  unfold lossPut
  dsimp only
  repeat' split
  all_goals rfl
@[simp ↓] theorem fromDie_twin (l : Fin 5) (i : Instr) (f : Dev → Dev) (d : Dev) (h : (f d).twin = d.twin) : (fromDie l i f d).twin = d.twin := by
  unfold fromDie
  split
  · simp
  · exact h
@[simp ↓] theorem toDie_tmr (p : Fin 32) (k : EdgeCmd) (f : Dev → Dev) (d : Dev) (h : (f d).tmr = d.tmr) : (toDie p k f d).tmr = d.tmr := by
  unfold toDie
  split
  · rfl
  · exact h
@[simp] theorem lossPut_tmr (l : Fin 5) (i : Frame) (d : Dev) : (lossPut l i d).tmr = d.tmr := by
  unfold lossPut
  dsimp only
  repeat' split
  all_goals rfl
@[simp ↓] theorem fromDie_tmr (l : Fin 5) (i : Instr) (f : Dev → Dev) (d : Dev) (h : (f d).tmr = d.tmr) : (fromDie l i f d).tmr = d.tmr := by
  unfold fromDie
  split
  · simp
  · exact h
@[simp ↓] theorem toDie_alarms (p : Fin 32) (k : EdgeCmd) (f : Dev → Dev) (d : Dev) (h : (f d).alarms = d.alarms) : (toDie p k f d).alarms = d.alarms := by
  unfold toDie
  split
  · rfl
  · exact h
@[simp] theorem lossPut_alarms (l : Fin 5) (i : Frame) (d : Dev) : (lossPut l i d).alarms = d.alarms := by
  unfold lossPut
  dsimp only
  repeat' split
  all_goals rfl
@[simp ↓] theorem fromDie_alarms (l : Fin 5) (i : Instr) (f : Dev → Dev) (d : Dev) (h : (f d).alarms = d.alarms) : (fromDie l i f d).alarms = d.alarms := by
  unfold fromDie
  split
  · simp
  · exact h
@[simp ↓] theorem toDie_itms (p : Fin 32) (k : EdgeCmd) (f : Dev → Dev) (d : Dev) (h : (f d).itms = d.itms) : (toDie p k f d).itms = d.itms := by
  unfold toDie
  split
  · rfl
  · exact h
@[simp] theorem lossPut_itms (l : Fin 5) (i : Frame) (d : Dev) : (lossPut l i d).itms = d.itms := by
  unfold lossPut
  dsimp only
  repeat' split
  all_goals rfl
@[simp ↓] theorem fromDie_itms (l : Fin 5) (i : Instr) (f : Dev → Dev) (d : Dev) (h : (f d).itms = d.itms) : (fromDie l i f d).itms = d.itms := by
  unfold fromDie
  split
  · simp
  · exact h
@[simp ↓] theorem toDie_sources (p : Fin 32) (k : EdgeCmd) (f : Dev → Dev) (d : Dev) (h : (f d).sources = d.sources) : (toDie p k f d).sources = d.sources := by
  unfold toDie
  split
  · rfl
  · exact h
@[simp] theorem lossPut_sources (l : Fin 5) (i : Frame) (d : Dev) : (lossPut l i d).sources = d.sources := by
  unfold lossPut
  dsimp only
  repeat' split
  all_goals rfl
@[simp ↓] theorem fromDie_sources (l : Fin 5) (i : Instr) (f : Dev → Dev) (d : Dev) (h : (f d).sources = d.sources) : (fromDie l i f d).sources = d.sources := by
  unfold fromDie
  split
  · simp
  · exact h
@[simp ↓] theorem toDie_coll (p : Fin 32) (k : EdgeCmd) (f : Dev → Dev) (d : Dev) (h : (f d).coll = d.coll) : (toDie p k f d).coll = d.coll := by
  unfold toDie
  split
  · rfl
  · exact h
@[simp] theorem lossPut_coll (l : Fin 5) (i : Frame) (d : Dev) : (lossPut l i d).coll = d.coll := by
  unfold lossPut
  dsimp only
  repeat' split
  all_goals rfl
@[simp ↓] theorem fromDie_coll (l : Fin 5) (i : Instr) (f : Dev → Dev) (d : Dev) (h : (f d).coll = d.coll) : (fromDie l i f d).coll = d.coll := by
  unfold fromDie
  split
  · simp
  · exact h
@[simp ↓] theorem toDie_host (p : Fin 32) (k : EdgeCmd) (f : Dev → Dev) (d : Dev) (h : (f d).host = d.host) : (toDie p k f d).host = d.host := by
  unfold toDie
  split
  · rfl
  · exact h
@[simp] theorem lossPut_host (l : Fin 5) (i : Frame) (d : Dev) : (lossPut l i d).host = d.host := by
  unfold lossPut
  dsimp only
  repeat' split
  all_goals rfl
@[simp ↓] theorem fromDie_host (l : Fin 5) (i : Instr) (f : Dev → Dev) (d : Dev) (h : (f d).host = d.host) : (fromDie l i f d).host = d.host := by
  unfold fromDie
  split
  · simp
  · exact h
@[simp ↓] theorem toDie_net (p : Fin 32) (k : EdgeCmd) (f : Dev → Dev) (d : Dev) (h : (f d).net = d.net) : (toDie p k f d).net = d.net := by
  unfold toDie
  split
  · rfl
  · exact h
@[simp] theorem lossPut_net (l : Fin 5) (i : Frame) (d : Dev) : (lossPut l i d).net = d.net := by
  unfold lossPut
  dsimp only
  repeat' split
  all_goals rfl
@[simp ↓] theorem fromDie_net (l : Fin 5) (i : Instr) (f : Dev → Dev) (d : Dev) (h : (f d).net = d.net) : (fromDie l i f d).net = d.net := by
  unfold fromDie
  split
  · simp
  · exact h
@[simp ↓] theorem toDie_upd (p : Fin 32) (k : EdgeCmd) (f : Dev → Dev) (d : Dev) (h : (f d).upd = d.upd) : (toDie p k f d).upd = d.upd := by
  unfold toDie
  split
  · rfl
  · exact h
@[simp] theorem lossPut_upd (l : Fin 5) (i : Frame) (d : Dev) : (lossPut l i d).upd = d.upd := by
  unfold lossPut
  dsimp only
  repeat' split
  all_goals rfl
@[simp ↓] theorem fromDie_upd (l : Fin 5) (i : Instr) (f : Dev → Dev) (d : Dev) (h : (f d).upd = d.upd) : (fromDie l i f d).upd = d.upd := by
  unfold fromDie
  split
  · simp
  · exact h
@[simp ↓] theorem toDie_store (p : Fin 32) (k : EdgeCmd) (f : Dev → Dev) (d : Dev) (h : (f d).store = d.store) : (toDie p k f d).store = d.store := by
  unfold toDie
  split
  · rfl
  · exact h
@[simp] theorem lossPut_store (l : Fin 5) (i : Frame) (d : Dev) : (lossPut l i d).store = d.store := by
  unfold lossPut
  dsimp only
  repeat' split
  all_goals rfl
@[simp ↓] theorem fromDie_store (l : Fin 5) (i : Instr) (f : Dev → Dev) (d : Dev) (h : (f d).store = d.store) : (fromDie l i f d).store = d.store := by
  unfold fromDie
  split
  · simp
  · exact h
@[simp ↓] theorem toDie_jrn (p : Fin 32) (k : EdgeCmd) (f : Dev → Dev) (d : Dev) (h : (f d).jrn = d.jrn) : (toDie p k f d).jrn = d.jrn := by
  unfold toDie
  split
  · rfl
  · exact h
@[simp] theorem lossPut_jrn (l : Fin 5) (i : Frame) (d : Dev) : (lossPut l i d).jrn = d.jrn := by
  unfold lossPut
  dsimp only
  repeat' split
  all_goals rfl
@[simp ↓] theorem fromDie_jrn (l : Fin 5) (i : Instr) (f : Dev → Dev) (d : Dev) (h : (f d).jrn = d.jrn) : (fromDie l i f d).jrn = d.jrn := by
  unfold fromDie
  split
  · simp
  · exact h
@[simp ↓] theorem toDie_sys (p : Fin 32) (k : EdgeCmd) (f : Dev → Dev) (d : Dev) (h : (f d).sys = d.sys) : (toDie p k f d).sys = d.sys := by
  unfold toDie
  split
  · rfl
  · exact h
@[simp] theorem lossPut_sys (l : Fin 5) (i : Frame) (d : Dev) : (lossPut l i d).sys = d.sys := by
  unfold lossPut
  dsimp only
  repeat' split
  all_goals rfl
@[simp ↓] theorem fromDie_sys (l : Fin 5) (i : Instr) (f : Dev → Dev) (d : Dev) (h : (f d).sys = d.sys) : (fromDie l i f d).sys = d.sys := by
  unfold fromDie
  split
  · simp
  · exact h
@[simp ↓] theorem toDie_tap (p : Fin 32) (k : EdgeCmd) (f : Dev → Dev) (d : Dev) (h : (f d).tap = d.tap) : (toDie p k f d).tap = d.tap := by
  unfold toDie
  split
  · rfl
  · exact h
@[simp] theorem lossPut_tap (l : Fin 5) (i : Frame) (d : Dev) : (lossPut l i d).tap = d.tap := by
  unfold lossPut
  dsimp only
  repeat' split
  all_goals rfl
@[simp ↓] theorem fromDie_tap (l : Fin 5) (i : Instr) (f : Dev → Dev) (d : Dev) (h : (f d).tap = d.tap) : (fromDie l i f d).tap = d.tap := by
  unfold fromDie
  split
  · simp
  · exact h
@[simp ↓] theorem toDie_ringMem (p : Fin 32) (k : EdgeCmd) (f : Dev → Dev) (d : Dev) (h : (f d).ringMem = d.ringMem) : (toDie p k f d).ringMem = d.ringMem := by
  unfold toDie
  split
  · rfl
  · exact h
@[simp] theorem lossPut_ringMem (l : Fin 5) (i : Frame) (d : Dev) : (lossPut l i d).ringMem = d.ringMem := by
  unfold lossPut
  dsimp only
  repeat' split
  all_goals rfl
@[simp ↓] theorem fromDie_ringMem (l : Fin 5) (i : Instr) (f : Dev → Dev) (d : Dev) (h : (f d).ringMem = d.ringMem) : (fromDie l i f d).ringMem = d.ringMem := by
  unfold fromDie
  split
  · simp
  · exact h
@[simp ↓] theorem toDie_parcel (p : Fin 32) (k : EdgeCmd) (f : Dev → Dev) (d : Dev) (h : (f d).parcel = d.parcel) : (toDie p k f d).parcel = d.parcel := by
  unfold toDie
  split
  · rfl
  · exact h
@[simp] theorem lossPut_parcel (l : Fin 5) (i : Frame) (d : Dev) : (lossPut l i d).parcel = d.parcel := by
  unfold lossPut
  dsimp only
  repeat' split
  all_goals rfl
@[simp ↓] theorem fromDie_parcel (l : Fin 5) (i : Instr) (f : Dev → Dev) (d : Dev) (h : (f d).parcel = d.parcel) : (fromDie l i f d).parcel = d.parcel := by
  unfold fromDie
  split
  · simp
  · exact h
@[simp ↓] theorem toDie_timers (p : Fin 32) (k : EdgeCmd) (f : Dev → Dev) (d : Dev) (h : (f d).timers = d.timers) : (toDie p k f d).timers = d.timers := by
  unfold toDie
  split
  · rfl
  · exact h
@[simp] theorem lossPut_timers (l : Fin 5) (i : Frame) (d : Dev) : (lossPut l i d).timers = d.timers := by
  unfold lossPut
  dsimp only
  repeat' split
  all_goals rfl
@[simp ↓] theorem fromDie_timers (l : Fin 5) (i : Instr) (f : Dev → Dev) (d : Dev) (h : (f d).timers = d.timers) : (fromDie l i f d).timers = d.timers := by
  unfold fromDie
  split
  · simp
  · exact h
@[simp ↓] theorem toDie_freeCtr (p : Fin 32) (k : EdgeCmd) (f : Dev → Dev) (d : Dev) (h : (f d).freeCtr = d.freeCtr) : (toDie p k f d).freeCtr = d.freeCtr := by
  unfold toDie
  split
  · rfl
  · exact h
@[simp] theorem lossPut_freeCtr (l : Fin 5) (i : Frame) (d : Dev) : (lossPut l i d).freeCtr = d.freeCtr := by
  unfold lossPut
  dsimp only
  repeat' split
  all_goals rfl
@[simp ↓] theorem fromDie_freeCtr (l : Fin 5) (i : Instr) (f : Dev → Dev) (d : Dev) (h : (f d).freeCtr = d.freeCtr) : (fromDie l i f d).freeCtr = d.freeCtr := by
  unfold fromDie
  split
  · simp
  · exact h
@[simp] theorem portEvent_frame (p : Fin 32) (i : Nat) (d : Dev) : (portEvent p i d).cfg = d.cfg ∧ (portEvent p i d).cfgNew = d.cfgNew ∧ (portEvent p i d).ports = d.ports ∧ (portEvent p i d).guards = d.guards ∧ (portEvent p i d).loops = d.loops ∧ (portEvent p i d).phases = d.phases ∧ (portEvent p i d).chans = d.chans ∧ (portEvent p i d).groups = d.groups ∧ (portEvent p i d).convs = d.convs ∧ (portEvent p i d).feeds = d.feeds ∧ (portEvent p i d).posts = d.posts ∧ (portEvent p i d).ledger = d.ledger ∧ (portEvent p i d).twin = d.twin ∧ (portEvent p i d).tmr = d.tmr ∧ (portEvent p i d).alarms = d.alarms ∧ (portEvent p i d).itms = d.itms ∧ (portEvent p i d).sources = d.sources ∧ (portEvent p i d).coll = d.coll ∧ (portEvent p i d).host = d.host ∧ (portEvent p i d).net = d.net ∧ (portEvent p i d).upd = d.upd ∧ (portEvent p i d).store = d.store ∧ (portEvent p i d).jrn = d.jrn ∧ (portEvent p i d).sys = d.sys ∧ (portEvent p i d).loss = d.loss ∧ (portEvent p i d).tap = d.tap ∧ (portEvent p i d).ringMem = d.ringMem ∧ (portEvent p i d).parcel = d.parcel ∧ (portEvent p i d).timers = d.timers ∧ (portEvent p i d).freeCtr = d.freeCtr := by
  unfold portEvent
  try dsimp only
  all_goals simp
@[simp] theorem guardEvent_frame (p : Fin 32) (i : Nat) (d : Dev) : (guardEvent p i d).cfg = d.cfg ∧ (guardEvent p i d).cfgNew = d.cfgNew ∧ (guardEvent p i d).ports = d.ports ∧ (guardEvent p i d).pd = d.pd ∧ (guardEvent p i d).loops = d.loops ∧ (guardEvent p i d).phases = d.phases ∧ (guardEvent p i d).chans = d.chans ∧ (guardEvent p i d).groups = d.groups ∧ (guardEvent p i d).convs = d.convs ∧ (guardEvent p i d).feeds = d.feeds ∧ (guardEvent p i d).posts = d.posts ∧ (guardEvent p i d).ledger = d.ledger ∧ (guardEvent p i d).twin = d.twin ∧ (guardEvent p i d).tmr = d.tmr ∧ (guardEvent p i d).alarms = d.alarms ∧ (guardEvent p i d).itms = d.itms ∧ (guardEvent p i d).sources = d.sources ∧ (guardEvent p i d).coll = d.coll ∧ (guardEvent p i d).host = d.host ∧ (guardEvent p i d).net = d.net ∧ (guardEvent p i d).upd = d.upd ∧ (guardEvent p i d).store = d.store ∧ (guardEvent p i d).jrn = d.jrn ∧ (guardEvent p i d).sys = d.sys ∧ (guardEvent p i d).loss = d.loss ∧ (guardEvent p i d).tap = d.tap ∧ (guardEvent p i d).ringMem = d.ringMem ∧ (guardEvent p i d).parcel = d.parcel ∧ (guardEvent p i d).timers = d.timers := by
  unfold guardEvent
  try dsimp only
  all_goals simp
@[simp] theorem phaseEvent_frame (n : Fin 64) (i : Nat) (d : Dev) : (phaseEvent n i d).cfg = d.cfg ∧ (phaseEvent n i d).cfgNew = d.cfgNew ∧ (phaseEvent n i d).ports = d.ports ∧ (phaseEvent n i d).pd = d.pd ∧ (phaseEvent n i d).guards = d.guards ∧ (phaseEvent n i d).loops = d.loops ∧ (phaseEvent n i d).chans = d.chans ∧ (phaseEvent n i d).groups = d.groups ∧ (phaseEvent n i d).convs = d.convs ∧ (phaseEvent n i d).feeds = d.feeds ∧ (phaseEvent n i d).posts = d.posts ∧ (phaseEvent n i d).ledger = d.ledger ∧ (phaseEvent n i d).twin = d.twin ∧ (phaseEvent n i d).tmr = d.tmr ∧ (phaseEvent n i d).alarms = d.alarms ∧ (phaseEvent n i d).itms = d.itms ∧ (phaseEvent n i d).sources = d.sources ∧ (phaseEvent n i d).coll = d.coll ∧ (phaseEvent n i d).host = d.host ∧ (phaseEvent n i d).net = d.net ∧ (phaseEvent n i d).upd = d.upd ∧ (phaseEvent n i d).store = d.store ∧ (phaseEvent n i d).jrn = d.jrn ∧ (phaseEvent n i d).sys = d.sys ∧ (phaseEvent n i d).loss = d.loss ∧ (phaseEvent n i d).tap = d.tap ∧ (phaseEvent n i d).ringMem = d.ringMem ∧ (phaseEvent n i d).parcel = d.parcel ∧ (phaseEvent n i d).timers = d.timers ∧ (phaseEvent n i d).freeCtr = d.freeCtr := by
  unfold phaseEvent
  try dsimp only
  all_goals simp
@[simp] theorem chanEvent_frame (c : Fin 204) (i : Nat) (d : Dev) : (chanEvent c i d).cfg = d.cfg ∧ (chanEvent c i d).cfgNew = d.cfgNew ∧ (chanEvent c i d).ports = d.ports ∧ (chanEvent c i d).pd = d.pd ∧ (chanEvent c i d).guards = d.guards ∧ (chanEvent c i d).loops = d.loops ∧ (chanEvent c i d).phases = d.phases ∧ (chanEvent c i d).groups = d.groups ∧ (chanEvent c i d).convs = d.convs ∧ (chanEvent c i d).feeds = d.feeds ∧ (chanEvent c i d).posts = d.posts ∧ (chanEvent c i d).ledger = d.ledger ∧ (chanEvent c i d).twin = d.twin ∧ (chanEvent c i d).tmr = d.tmr ∧ (chanEvent c i d).alarms = d.alarms ∧ (chanEvent c i d).itms = d.itms ∧ (chanEvent c i d).sources = d.sources ∧ (chanEvent c i d).coll = d.coll ∧ (chanEvent c i d).host = d.host ∧ (chanEvent c i d).net = d.net ∧ (chanEvent c i d).upd = d.upd ∧ (chanEvent c i d).store = d.store ∧ (chanEvent c i d).jrn = d.jrn ∧ (chanEvent c i d).sys = d.sys ∧ (chanEvent c i d).loss = d.loss ∧ (chanEvent c i d).tap = d.tap ∧ (chanEvent c i d).ringMem = d.ringMem ∧ (chanEvent c i d).parcel = d.parcel ∧ (chanEvent c i d).timers = d.timers := by
  unfold chanEvent
  try dsimp only
  all_goals simp
@[simp] theorem feedEvent_frame (f : Fin 4) (i : Nat) (d : Dev) : (feedEvent f i d).cfg = d.cfg ∧ (feedEvent f i d).cfgNew = d.cfgNew ∧ (feedEvent f i d).ports = d.ports ∧ (feedEvent f i d).pd = d.pd ∧ (feedEvent f i d).guards = d.guards ∧ (feedEvent f i d).loops = d.loops ∧ (feedEvent f i d).phases = d.phases ∧ (feedEvent f i d).chans = d.chans ∧ (feedEvent f i d).groups = d.groups ∧ (feedEvent f i d).convs = d.convs ∧ (feedEvent f i d).posts = d.posts ∧ (feedEvent f i d).ledger = d.ledger ∧ (feedEvent f i d).twin = d.twin ∧ (feedEvent f i d).tmr = d.tmr ∧ (feedEvent f i d).alarms = d.alarms ∧ (feedEvent f i d).itms = d.itms ∧ (feedEvent f i d).sources = d.sources ∧ (feedEvent f i d).coll = d.coll ∧ (feedEvent f i d).host = d.host ∧ (feedEvent f i d).net = d.net ∧ (feedEvent f i d).upd = d.upd ∧ (feedEvent f i d).store = d.store ∧ (feedEvent f i d).jrn = d.jrn ∧ (feedEvent f i d).sys = d.sys ∧ (feedEvent f i d).loss = d.loss ∧ (feedEvent f i d).tap = d.tap ∧ (feedEvent f i d).ringMem = d.ringMem ∧ (feedEvent f i d).parcel = d.parcel ∧ (feedEvent f i d).freeCtr = d.freeCtr := by
  unfold feedEvent
  try dsimp only
  all_goals simp
@[simp] theorem postEvent_frame (l : Fin 3) (i : Nat) (d : Dev) : (postEvent l i d).cfg = d.cfg ∧ (postEvent l i d).cfgNew = d.cfgNew ∧ (postEvent l i d).ports = d.ports ∧ (postEvent l i d).guards = d.guards ∧ (postEvent l i d).loops = d.loops ∧ (postEvent l i d).chans = d.chans ∧ (postEvent l i d).groups = d.groups ∧ (postEvent l i d).convs = d.convs ∧ (postEvent l i d).ledger = d.ledger ∧ (postEvent l i d).twin = d.twin ∧ (postEvent l i d).tmr = d.tmr ∧ (postEvent l i d).alarms = d.alarms ∧ (postEvent l i d).itms = d.itms ∧ (postEvent l i d).sources = d.sources ∧ (postEvent l i d).net = d.net ∧ (postEvent l i d).upd = d.upd ∧ (postEvent l i d).store = d.store ∧ (postEvent l i d).sys = d.sys ∧ (postEvent l i d).loss = d.loss ∧ (postEvent l i d).tap = d.tap ∧ (postEvent l i d).ringMem = d.ringMem ∧ (postEvent l i d).parcel = d.parcel := by
  unfold postEvent
  try dsimp only
  all_goals simp
@[simp] theorem collEvent_frame (i : Nat) (d : Dev) : (collEvent i d).cfg = d.cfg ∧ (collEvent i d).cfgNew = d.cfgNew ∧ (collEvent i d).ports = d.ports ∧ (collEvent i d).pd = d.pd ∧ (collEvent i d).guards = d.guards ∧ (collEvent i d).loops = d.loops ∧ (collEvent i d).phases = d.phases ∧ (collEvent i d).chans = d.chans ∧ (collEvent i d).groups = d.groups ∧ (collEvent i d).convs = d.convs ∧ (collEvent i d).feeds = d.feeds ∧ (collEvent i d).posts = d.posts ∧ (collEvent i d).ledger = d.ledger ∧ (collEvent i d).twin = d.twin ∧ (collEvent i d).tmr = d.tmr ∧ (collEvent i d).alarms = d.alarms ∧ (collEvent i d).itms = d.itms ∧ (collEvent i d).sources = d.sources ∧ (collEvent i d).host = d.host ∧ (collEvent i d).net = d.net ∧ (collEvent i d).upd = d.upd ∧ (collEvent i d).store = d.store ∧ (collEvent i d).sys = d.sys ∧ (collEvent i d).loss = d.loss ∧ (collEvent i d).tap = d.tap ∧ (collEvent i d).ringMem = d.ringMem ∧ (collEvent i d).parcel = d.parcel ∧ (collEvent i d).freeCtr = d.freeCtr := by
  unfold collEvent
  try dsimp only
  all_goals simp
@[simp] theorem sysEvent_frame (i : Nat) (d : Dev) : (sysEvent i d).cfg = d.cfg ∧ (sysEvent i d).cfgNew = d.cfgNew ∧ (sysEvent i d).ports = d.ports ∧ (sysEvent i d).pd = d.pd ∧ (sysEvent i d).guards = d.guards ∧ (sysEvent i d).loops = d.loops ∧ (sysEvent i d).phases = d.phases ∧ (sysEvent i d).chans = d.chans ∧ (sysEvent i d).groups = d.groups ∧ (sysEvent i d).convs = d.convs ∧ (sysEvent i d).feeds = d.feeds ∧ (sysEvent i d).posts = d.posts ∧ (sysEvent i d).ledger = d.ledger ∧ (sysEvent i d).twin = d.twin ∧ (sysEvent i d).tmr = d.tmr ∧ (sysEvent i d).alarms = d.alarms ∧ (sysEvent i d).itms = d.itms ∧ (sysEvent i d).sources = d.sources ∧ (sysEvent i d).coll = d.coll ∧ (sysEvent i d).net = d.net ∧ (sysEvent i d).upd = d.upd ∧ (sysEvent i d).store = d.store ∧ (sysEvent i d).jrn = d.jrn ∧ (sysEvent i d).sys = d.sys ∧ (sysEvent i d).loss = d.loss ∧ (sysEvent i d).tap = d.tap ∧ (sysEvent i d).ringMem = d.ringMem ∧ (sysEvent i d).parcel = d.parcel ∧ (sysEvent i d).freeCtr = d.freeCtr := by
  unfold sysEvent
  try dsimp only
  all_goals simp
@[simp] theorem tmrEvent_frame (i : Nat) (d : Dev) : (tmrEvent i d).cfg = d.cfg ∧ (tmrEvent i d).cfgNew = d.cfgNew ∧ (tmrEvent i d).ports = d.ports ∧ (tmrEvent i d).guards = d.guards ∧ (tmrEvent i d).loops = d.loops ∧ (tmrEvent i d).ledger = d.ledger ∧ (tmrEvent i d).itms = d.itms ∧ (tmrEvent i d).net = d.net ∧ (tmrEvent i d).upd = d.upd ∧ (tmrEvent i d).store = d.store ∧ (tmrEvent i d).sys = d.sys ∧ (tmrEvent i d).loss = d.loss ∧ (tmrEvent i d).tap = d.tap ∧ (tmrEvent i d).ringMem = d.ringMem ∧ (tmrEvent i d).parcel = d.parcel := by
  unfold tmrEvent
  try dsimp only
  all_goals simp
@[simp] theorem netEvent_frame (i : Nat) (d : Dev) : (netEvent i d).cfg = d.cfg ∧ (netEvent i d).cfgNew = d.cfgNew ∧ (netEvent i d).ports = d.ports ∧ (netEvent i d).pd = d.pd ∧ (netEvent i d).guards = d.guards ∧ (netEvent i d).loops = d.loops ∧ (netEvent i d).phases = d.phases ∧ (netEvent i d).chans = d.chans ∧ (netEvent i d).groups = d.groups ∧ (netEvent i d).convs = d.convs ∧ (netEvent i d).feeds = d.feeds ∧ (netEvent i d).posts = d.posts ∧ (netEvent i d).ledger = d.ledger ∧ (netEvent i d).twin = d.twin ∧ (netEvent i d).tmr = d.tmr ∧ (netEvent i d).alarms = d.alarms ∧ (netEvent i d).itms = d.itms ∧ (netEvent i d).sources = d.sources ∧ (netEvent i d).coll = d.coll ∧ (netEvent i d).host = d.host ∧ (netEvent i d).upd = d.upd ∧ (netEvent i d).store = d.store ∧ (netEvent i d).jrn = d.jrn ∧ (netEvent i d).sys = d.sys ∧ (netEvent i d).loss = d.loss ∧ (netEvent i d).tap = d.tap ∧ (netEvent i d).ringMem = d.ringMem ∧ (netEvent i d).parcel = d.parcel ∧ (netEvent i d).timers = d.timers ∧ (netEvent i d).freeCtr = d.freeCtr := by
  unfold netEvent
  try dsimp only
  all_goals simp
@[simp] theorem updEvent_frame (i : Nat) (d : Dev) : (updEvent i d).cfg = d.cfg ∧ (updEvent i d).cfgNew = d.cfgNew ∧ (updEvent i d).ports = d.ports ∧ (updEvent i d).pd = d.pd ∧ (updEvent i d).guards = d.guards ∧ (updEvent i d).loops = d.loops ∧ (updEvent i d).phases = d.phases ∧ (updEvent i d).chans = d.chans ∧ (updEvent i d).groups = d.groups ∧ (updEvent i d).convs = d.convs ∧ (updEvent i d).feeds = d.feeds ∧ (updEvent i d).posts = d.posts ∧ (updEvent i d).ledger = d.ledger ∧ (updEvent i d).twin = d.twin ∧ (updEvent i d).tmr = d.tmr ∧ (updEvent i d).alarms = d.alarms ∧ (updEvent i d).itms = d.itms ∧ (updEvent i d).sources = d.sources ∧ (updEvent i d).coll = d.coll ∧ (updEvent i d).host = d.host ∧ (updEvent i d).net = d.net ∧ (updEvent i d).store = d.store ∧ (updEvent i d).sys = d.sys ∧ (updEvent i d).loss = d.loss ∧ (updEvent i d).tap = d.tap ∧ (updEvent i d).ringMem = d.ringMem ∧ (updEvent i d).parcel = d.parcel ∧ (updEvent i d).freeCtr = d.freeCtr := by
  unfold updEvent
  try dsimp only
  all_goals simp
@[simp] theorem convEvent_frame (c : Fin 5) (i : Nat) (d : Dev) : (convEvent c i d).cfg = d.cfg ∧ (convEvent c i d).cfgNew = d.cfgNew ∧ (convEvent c i d).ports = d.ports ∧ (convEvent c i d).pd = d.pd ∧ (convEvent c i d).guards = d.guards ∧ (convEvent c i d).loops = d.loops ∧ (convEvent c i d).phases = d.phases ∧ (convEvent c i d).chans = d.chans ∧ (convEvent c i d).groups = d.groups ∧ (convEvent c i d).feeds = d.feeds ∧ (convEvent c i d).posts = d.posts ∧ (convEvent c i d).ledger = d.ledger ∧ (convEvent c i d).twin = d.twin ∧ (convEvent c i d).tmr = d.tmr ∧ (convEvent c i d).alarms = d.alarms ∧ (convEvent c i d).itms = d.itms ∧ (convEvent c i d).sources = d.sources ∧ (convEvent c i d).coll = d.coll ∧ (convEvent c i d).host = d.host ∧ (convEvent c i d).net = d.net ∧ (convEvent c i d).upd = d.upd ∧ (convEvent c i d).store = d.store ∧ (convEvent c i d).jrn = d.jrn ∧ (convEvent c i d).sys = d.sys ∧ (convEvent c i d).loss = d.loss ∧ (convEvent c i d).tap = d.tap ∧ (convEvent c i d).ringMem = d.ringMem ∧ (convEvent c i d).parcel = d.parcel ∧ (convEvent c i d).timers = d.timers := by
  unfold convEvent
  try dsimp only
  all_goals simp
@[simp] theorem ringPut_frame (r : Fin 16) (c : RingCfg) (b : List Byte) (d : Dev) : (ringPut r c b d).cfg = d.cfg ∧ (ringPut r c b d).cfgNew = d.cfgNew ∧ (ringPut r c b d).ports = d.ports ∧ (ringPut r c b d).pd = d.pd ∧ (ringPut r c b d).guards = d.guards ∧ (ringPut r c b d).loops = d.loops ∧ (ringPut r c b d).phases = d.phases ∧ (ringPut r c b d).chans = d.chans ∧ (ringPut r c b d).groups = d.groups ∧ (ringPut r c b d).convs = d.convs ∧ (ringPut r c b d).feeds = d.feeds ∧ (ringPut r c b d).posts = d.posts ∧ (ringPut r c b d).ledger = d.ledger ∧ (ringPut r c b d).twin = d.twin ∧ (ringPut r c b d).tmr = d.tmr ∧ (ringPut r c b d).alarms = d.alarms ∧ (ringPut r c b d).itms = d.itms ∧ (ringPut r c b d).sources = d.sources ∧ (ringPut r c b d).coll = d.coll ∧ (ringPut r c b d).net = d.net ∧ (ringPut r c b d).upd = d.upd ∧ (ringPut r c b d).store = d.store ∧ (ringPut r c b d).jrn = d.jrn ∧ (ringPut r c b d).sys = d.sys ∧ (ringPut r c b d).loss = d.loss ∧ (ringPut r c b d).tap = d.tap ∧ (ringPut r c b d).parcel = d.parcel ∧ (ringPut r c b d).timers = d.timers ∧ (ringPut r c b d).freeCtr = d.freeCtr ∧ (ringPut r c b d).host.event = d.host.event ∧ (ringPut r c b d).host.irqen = d.host.irqen ∧ (ringPut r c b d).host.owner = d.host.owner ∧ (ringPut r c b d).host.successor = d.host.successor ∧ (ringPut r c b d).host.window = d.host.window ∧ (ringPut r c b d).host.changes = d.host.changes ∧ (ringPut r c b d).host.leaseEnd = d.host.leaseEnd ∧ (ringPut r c b d).host.hostLoaded = d.host.hostLoaded ∧ (ringPut r c b d).host.irqA = d.host.irqA ∧ (ringPut r c b d).host.irqB = d.host.irqB ∧ (ringPut r c b d).host.spiDummy = d.host.spiDummy ∧ (ringPut r c b d).host.spiCount = d.host.spiCount ∧ (ringPut r c b d).host.spiCrc = d.host.spiCrc ∧ (ringPut r c b d).host.spiAbort = d.host.spiAbort ∧ (ringPut r c b d).host.baud = d.host.baud ∧ (ringPut r c b d).host.uartFrames = d.host.uartFrames ∧ (ringPut r c b d).host.uartCrc = d.host.uartCrc ∧ (ringPut r c b d).host.uartDrops = d.host.uartDrops ∧ (ringPut r c b d).host.jobs = d.host.jobs ∧ (ringPut r c b d).host.masters = d.host.masters ∧ (ringPut r c b d).host.kept = d.host.kept := by
  unfold ringPut
  try dsimp only
  all_goals simp
@[simp] theorem ringOffer_frame (r : Fin 16) (b : Bool → List Byte) (d : Dev) : (ringOffer r b d).cfg = d.cfg ∧ (ringOffer r b d).cfgNew = d.cfgNew ∧ (ringOffer r b d).ports = d.ports ∧ (ringOffer r b d).pd = d.pd ∧ (ringOffer r b d).guards = d.guards ∧ (ringOffer r b d).loops = d.loops ∧ (ringOffer r b d).phases = d.phases ∧ (ringOffer r b d).chans = d.chans ∧ (ringOffer r b d).groups = d.groups ∧ (ringOffer r b d).convs = d.convs ∧ (ringOffer r b d).feeds = d.feeds ∧ (ringOffer r b d).posts = d.posts ∧ (ringOffer r b d).ledger = d.ledger ∧ (ringOffer r b d).twin = d.twin ∧ (ringOffer r b d).tmr = d.tmr ∧ (ringOffer r b d).alarms = d.alarms ∧ (ringOffer r b d).itms = d.itms ∧ (ringOffer r b d).sources = d.sources ∧ (ringOffer r b d).coll = d.coll ∧ (ringOffer r b d).net = d.net ∧ (ringOffer r b d).upd = d.upd ∧ (ringOffer r b d).store = d.store ∧ (ringOffer r b d).jrn = d.jrn ∧ (ringOffer r b d).sys = d.sys ∧ (ringOffer r b d).loss = d.loss ∧ (ringOffer r b d).tap = d.tap ∧ (ringOffer r b d).parcel = d.parcel ∧ (ringOffer r b d).timers = d.timers ∧ (ringOffer r b d).freeCtr = d.freeCtr ∧ (ringOffer r b d).host.event = d.host.event ∧ (ringOffer r b d).host.irqen = d.host.irqen ∧ (ringOffer r b d).host.owner = d.host.owner ∧ (ringOffer r b d).host.successor = d.host.successor ∧ (ringOffer r b d).host.window = d.host.window ∧ (ringOffer r b d).host.changes = d.host.changes ∧ (ringOffer r b d).host.leaseEnd = d.host.leaseEnd ∧ (ringOffer r b d).host.hostLoaded = d.host.hostLoaded ∧ (ringOffer r b d).host.irqA = d.host.irqA ∧ (ringOffer r b d).host.irqB = d.host.irqB ∧ (ringOffer r b d).host.spiDummy = d.host.spiDummy ∧ (ringOffer r b d).host.spiCount = d.host.spiCount ∧ (ringOffer r b d).host.spiCrc = d.host.spiCrc ∧ (ringOffer r b d).host.spiAbort = d.host.spiAbort ∧ (ringOffer r b d).host.baud = d.host.baud ∧ (ringOffer r b d).host.uartFrames = d.host.uartFrames ∧ (ringOffer r b d).host.uartCrc = d.host.uartCrc ∧ (ringOffer r b d).host.uartDrops = d.host.uartDrops ∧ (ringOffer r b d).host.jobs = d.host.jobs ∧ (ringOffer r b d).host.masters = d.host.masters ∧ (ringOffer r b d).host.kept = d.host.kept := by
  unfold ringOffer
  try dsimp only
  repeat' split
  all_goals simp
@[simp] theorem putCompletion_frame (c : CmdRef) (b : List Byte) (d : Dev) : (putCompletion c b d).cfg = d.cfg ∧ (putCompletion c b d).cfgNew = d.cfgNew ∧ (putCompletion c b d).ports = d.ports ∧ (putCompletion c b d).pd = d.pd ∧ (putCompletion c b d).guards = d.guards ∧ (putCompletion c b d).loops = d.loops ∧ (putCompletion c b d).phases = d.phases ∧ (putCompletion c b d).chans = d.chans ∧ (putCompletion c b d).groups = d.groups ∧ (putCompletion c b d).convs = d.convs ∧ (putCompletion c b d).feeds = d.feeds ∧ (putCompletion c b d).posts = d.posts ∧ (putCompletion c b d).ledger = d.ledger ∧ (putCompletion c b d).twin = d.twin ∧ (putCompletion c b d).tmr = d.tmr ∧ (putCompletion c b d).alarms = d.alarms ∧ (putCompletion c b d).itms = d.itms ∧ (putCompletion c b d).sources = d.sources ∧ (putCompletion c b d).coll = d.coll ∧ (putCompletion c b d).net = d.net ∧ (putCompletion c b d).upd = d.upd ∧ (putCompletion c b d).store = d.store ∧ (putCompletion c b d).jrn = d.jrn ∧ (putCompletion c b d).sys = d.sys ∧ (putCompletion c b d).loss = d.loss ∧ (putCompletion c b d).tap = d.tap ∧ (putCompletion c b d).parcel = d.parcel ∧ (putCompletion c b d).timers = d.timers ∧ (putCompletion c b d).freeCtr = d.freeCtr ∧ (putCompletion c b d).host.event = d.host.event ∧ (putCompletion c b d).host.irqen = d.host.irqen ∧ (putCompletion c b d).host.owner = d.host.owner ∧ (putCompletion c b d).host.successor = d.host.successor ∧ (putCompletion c b d).host.window = d.host.window ∧ (putCompletion c b d).host.changes = d.host.changes ∧ (putCompletion c b d).host.leaseEnd = d.host.leaseEnd ∧ (putCompletion c b d).host.hostLoaded = d.host.hostLoaded ∧ (putCompletion c b d).host.irqA = d.host.irqA ∧ (putCompletion c b d).host.irqB = d.host.irqB ∧ (putCompletion c b d).host.spiDummy = d.host.spiDummy ∧ (putCompletion c b d).host.spiCount = d.host.spiCount ∧ (putCompletion c b d).host.spiCrc = d.host.spiCrc ∧ (putCompletion c b d).host.spiAbort = d.host.spiAbort ∧ (putCompletion c b d).host.baud = d.host.baud ∧ (putCompletion c b d).host.uartFrames = d.host.uartFrames ∧ (putCompletion c b d).host.uartCrc = d.host.uartCrc ∧ (putCompletion c b d).host.uartDrops = d.host.uartDrops ∧ (putCompletion c b d).host.jobs = d.host.jobs ∧ (putCompletion c b d).host.masters = d.host.masters ∧ (putCompletion c b d).host.kept = d.host.kept := by
  unfold putCompletion
  try dsimp only
  repeat' split
  all_goals simp
@[simp] theorem drainHeld_frame (k : Nat) (r : Fin 16) (d : Dev) : (drainHeld k r d).cfg = d.cfg ∧ (drainHeld k r d).cfgNew = d.cfgNew ∧ (drainHeld k r d).ports = d.ports ∧ (drainHeld k r d).pd = d.pd ∧ (drainHeld k r d).guards = d.guards ∧ (drainHeld k r d).loops = d.loops ∧ (drainHeld k r d).phases = d.phases ∧ (drainHeld k r d).chans = d.chans ∧ (drainHeld k r d).groups = d.groups ∧ (drainHeld k r d).convs = d.convs ∧ (drainHeld k r d).feeds = d.feeds ∧ (drainHeld k r d).posts = d.posts ∧ (drainHeld k r d).ledger = d.ledger ∧ (drainHeld k r d).twin = d.twin ∧ (drainHeld k r d).tmr = d.tmr ∧ (drainHeld k r d).alarms = d.alarms ∧ (drainHeld k r d).itms = d.itms ∧ (drainHeld k r d).sources = d.sources ∧ (drainHeld k r d).coll = d.coll ∧ (drainHeld k r d).net = d.net ∧ (drainHeld k r d).upd = d.upd ∧ (drainHeld k r d).store = d.store ∧ (drainHeld k r d).jrn = d.jrn ∧ (drainHeld k r d).sys = d.sys ∧ (drainHeld k r d).loss = d.loss ∧ (drainHeld k r d).tap = d.tap ∧ (drainHeld k r d).parcel = d.parcel ∧ (drainHeld k r d).timers = d.timers ∧ (drainHeld k r d).freeCtr = d.freeCtr ∧ (drainHeld k r d).host.event = d.host.event ∧ (drainHeld k r d).host.irqen = d.host.irqen ∧ (drainHeld k r d).host.owner = d.host.owner ∧ (drainHeld k r d).host.successor = d.host.successor ∧ (drainHeld k r d).host.window = d.host.window ∧ (drainHeld k r d).host.changes = d.host.changes ∧ (drainHeld k r d).host.leaseEnd = d.host.leaseEnd ∧ (drainHeld k r d).host.hostLoaded = d.host.hostLoaded ∧ (drainHeld k r d).host.irqA = d.host.irqA ∧ (drainHeld k r d).host.irqB = d.host.irqB ∧ (drainHeld k r d).host.spiDummy = d.host.spiDummy ∧ (drainHeld k r d).host.spiCount = d.host.spiCount ∧ (drainHeld k r d).host.spiCrc = d.host.spiCrc ∧ (drainHeld k r d).host.spiAbort = d.host.spiAbort ∧ (drainHeld k r d).host.baud = d.host.baud ∧ (drainHeld k r d).host.uartFrames = d.host.uartFrames ∧ (drainHeld k r d).host.uartCrc = d.host.uartCrc ∧ (drainHeld k r d).host.uartDrops = d.host.uartDrops ∧ (drainHeld k r d).host.jobs = d.host.jobs ∧ (drainHeld k r d).host.masters = d.host.masters ∧ (drainHeld k r d).host.kept = d.host.kept := by
  induction k generalizing d with
  | zero => simp [drainHeld]
  | succ k ih =>
    unfold drainHeld
    repeat' split
    all_goals simp [ih]
@[simp] theorem appendRaw_frame (cls : Fin 16) (mirrored : Bool) (payload : List Byte) (d : Dev) : ((appendRaw cls mirrored payload d).1).cfg = d.cfg ∧ ((appendRaw cls mirrored payload d).1).cfgNew = d.cfgNew ∧ ((appendRaw cls mirrored payload d).1).ports = d.ports ∧ ((appendRaw cls mirrored payload d).1).pd = d.pd ∧ ((appendRaw cls mirrored payload d).1).guards = d.guards ∧ ((appendRaw cls mirrored payload d).1).loops = d.loops ∧ ((appendRaw cls mirrored payload d).1).phases = d.phases ∧ ((appendRaw cls mirrored payload d).1).chans = d.chans ∧ ((appendRaw cls mirrored payload d).1).groups = d.groups ∧ ((appendRaw cls mirrored payload d).1).convs = d.convs ∧ ((appendRaw cls mirrored payload d).1).feeds = d.feeds ∧ ((appendRaw cls mirrored payload d).1).posts = d.posts ∧ ((appendRaw cls mirrored payload d).1).ledger = d.ledger ∧ ((appendRaw cls mirrored payload d).1).twin = d.twin ∧ ((appendRaw cls mirrored payload d).1).tmr = d.tmr ∧ ((appendRaw cls mirrored payload d).1).alarms = d.alarms ∧ ((appendRaw cls mirrored payload d).1).itms = d.itms ∧ ((appendRaw cls mirrored payload d).1).sources = d.sources ∧ ((appendRaw cls mirrored payload d).1).coll = d.coll ∧ ((appendRaw cls mirrored payload d).1).net = d.net ∧ ((appendRaw cls mirrored payload d).1).upd = d.upd ∧ ((appendRaw cls mirrored payload d).1).store = d.store ∧ ((appendRaw cls mirrored payload d).1).sys = d.sys ∧ ((appendRaw cls mirrored payload d).1).loss = d.loss ∧ ((appendRaw cls mirrored payload d).1).tap = d.tap ∧ ((appendRaw cls mirrored payload d).1).parcel = d.parcel ∧ ((appendRaw cls mirrored payload d).1).freeCtr = d.freeCtr ∧ ((appendRaw cls mirrored payload d).1).host.event = d.host.event ∧ ((appendRaw cls mirrored payload d).1).host.irqen = d.host.irqen ∧ ((appendRaw cls mirrored payload d).1).host.owner = d.host.owner ∧ ((appendRaw cls mirrored payload d).1).host.successor = d.host.successor ∧ ((appendRaw cls mirrored payload d).1).host.window = d.host.window ∧ ((appendRaw cls mirrored payload d).1).host.changes = d.host.changes ∧ ((appendRaw cls mirrored payload d).1).host.leaseEnd = d.host.leaseEnd ∧ ((appendRaw cls mirrored payload d).1).host.hostLoaded = d.host.hostLoaded ∧ ((appendRaw cls mirrored payload d).1).host.irqA = d.host.irqA ∧ ((appendRaw cls mirrored payload d).1).host.irqB = d.host.irqB ∧ ((appendRaw cls mirrored payload d).1).host.spiDummy = d.host.spiDummy ∧ ((appendRaw cls mirrored payload d).1).host.spiCount = d.host.spiCount ∧ ((appendRaw cls mirrored payload d).1).host.spiCrc = d.host.spiCrc ∧ ((appendRaw cls mirrored payload d).1).host.spiAbort = d.host.spiAbort ∧ ((appendRaw cls mirrored payload d).1).host.baud = d.host.baud ∧ ((appendRaw cls mirrored payload d).1).host.uartFrames = d.host.uartFrames ∧ ((appendRaw cls mirrored payload d).1).host.uartCrc = d.host.uartCrc ∧ ((appendRaw cls mirrored payload d).1).host.uartDrops = d.host.uartDrops ∧ ((appendRaw cls mirrored payload d).1).host.jobs = d.host.jobs ∧ ((appendRaw cls mirrored payload d).1).host.masters = d.host.masters ∧ ((appendRaw cls mirrored payload d).1).host.kept = d.host.kept := by
  unfold appendRaw
  dsimp only
  repeat' split
  all_goals simp
@[simp] theorem journalM_frame (cls : Fin 16) (mirrored : Bool) (payload : List Byte) (d : Dev) : (journalM cls mirrored payload d).cfg = d.cfg ∧ (journalM cls mirrored payload d).cfgNew = d.cfgNew ∧ (journalM cls mirrored payload d).ports = d.ports ∧ (journalM cls mirrored payload d).pd = d.pd ∧ (journalM cls mirrored payload d).guards = d.guards ∧ (journalM cls mirrored payload d).loops = d.loops ∧ (journalM cls mirrored payload d).phases = d.phases ∧ (journalM cls mirrored payload d).chans = d.chans ∧ (journalM cls mirrored payload d).groups = d.groups ∧ (journalM cls mirrored payload d).convs = d.convs ∧ (journalM cls mirrored payload d).feeds = d.feeds ∧ (journalM cls mirrored payload d).posts = d.posts ∧ (journalM cls mirrored payload d).ledger = d.ledger ∧ (journalM cls mirrored payload d).twin = d.twin ∧ (journalM cls mirrored payload d).tmr = d.tmr ∧ (journalM cls mirrored payload d).alarms = d.alarms ∧ (journalM cls mirrored payload d).itms = d.itms ∧ (journalM cls mirrored payload d).sources = d.sources ∧ (journalM cls mirrored payload d).coll = d.coll ∧ (journalM cls mirrored payload d).net = d.net ∧ (journalM cls mirrored payload d).upd = d.upd ∧ (journalM cls mirrored payload d).store = d.store ∧ (journalM cls mirrored payload d).sys = d.sys ∧ (journalM cls mirrored payload d).loss = d.loss ∧ (journalM cls mirrored payload d).tap = d.tap ∧ (journalM cls mirrored payload d).parcel = d.parcel ∧ (journalM cls mirrored payload d).freeCtr = d.freeCtr ∧ (journalM cls mirrored payload d).host.event = d.host.event ∧ (journalM cls mirrored payload d).host.irqen = d.host.irqen ∧ (journalM cls mirrored payload d).host.owner = d.host.owner ∧ (journalM cls mirrored payload d).host.successor = d.host.successor ∧ (journalM cls mirrored payload d).host.window = d.host.window ∧ (journalM cls mirrored payload d).host.changes = d.host.changes ∧ (journalM cls mirrored payload d).host.leaseEnd = d.host.leaseEnd ∧ (journalM cls mirrored payload d).host.hostLoaded = d.host.hostLoaded ∧ (journalM cls mirrored payload d).host.irqA = d.host.irqA ∧ (journalM cls mirrored payload d).host.irqB = d.host.irqB ∧ (journalM cls mirrored payload d).host.spiDummy = d.host.spiDummy ∧ (journalM cls mirrored payload d).host.spiCount = d.host.spiCount ∧ (journalM cls mirrored payload d).host.spiCrc = d.host.spiCrc ∧ (journalM cls mirrored payload d).host.spiAbort = d.host.spiAbort ∧ (journalM cls mirrored payload d).host.baud = d.host.baud ∧ (journalM cls mirrored payload d).host.uartFrames = d.host.uartFrames ∧ (journalM cls mirrored payload d).host.uartCrc = d.host.uartCrc ∧ (journalM cls mirrored payload d).host.uartDrops = d.host.uartDrops ∧ (journalM cls mirrored payload d).host.jobs = d.host.jobs ∧ (journalM cls mirrored payload d).host.masters = d.host.masters ∧ (journalM cls mirrored payload d).host.kept = d.host.kept := by
  unfold journalM
  simp
@[simp] theorem journal_frame (cls : Fin 16) (payload : List Byte) (d : Dev) : (journal cls payload d).cfg = d.cfg ∧ (journal cls payload d).cfgNew = d.cfgNew ∧ (journal cls payload d).ports = d.ports ∧ (journal cls payload d).pd = d.pd ∧ (journal cls payload d).guards = d.guards ∧ (journal cls payload d).loops = d.loops ∧ (journal cls payload d).phases = d.phases ∧ (journal cls payload d).chans = d.chans ∧ (journal cls payload d).groups = d.groups ∧ (journal cls payload d).convs = d.convs ∧ (journal cls payload d).feeds = d.feeds ∧ (journal cls payload d).posts = d.posts ∧ (journal cls payload d).ledger = d.ledger ∧ (journal cls payload d).twin = d.twin ∧ (journal cls payload d).tmr = d.tmr ∧ (journal cls payload d).alarms = d.alarms ∧ (journal cls payload d).itms = d.itms ∧ (journal cls payload d).sources = d.sources ∧ (journal cls payload d).coll = d.coll ∧ (journal cls payload d).net = d.net ∧ (journal cls payload d).upd = d.upd ∧ (journal cls payload d).store = d.store ∧ (journal cls payload d).sys = d.sys ∧ (journal cls payload d).loss = d.loss ∧ (journal cls payload d).tap = d.tap ∧ (journal cls payload d).parcel = d.parcel ∧ (journal cls payload d).freeCtr = d.freeCtr ∧ (journal cls payload d).host.event = d.host.event ∧ (journal cls payload d).host.irqen = d.host.irqen ∧ (journal cls payload d).host.owner = d.host.owner ∧ (journal cls payload d).host.successor = d.host.successor ∧ (journal cls payload d).host.window = d.host.window ∧ (journal cls payload d).host.changes = d.host.changes ∧ (journal cls payload d).host.leaseEnd = d.host.leaseEnd ∧ (journal cls payload d).host.hostLoaded = d.host.hostLoaded ∧ (journal cls payload d).host.irqA = d.host.irqA ∧ (journal cls payload d).host.irqB = d.host.irqB ∧ (journal cls payload d).host.spiDummy = d.host.spiDummy ∧ (journal cls payload d).host.spiCount = d.host.spiCount ∧ (journal cls payload d).host.spiCrc = d.host.spiCrc ∧ (journal cls payload d).host.spiAbort = d.host.spiAbort ∧ (journal cls payload d).host.baud = d.host.baud ∧ (journal cls payload d).host.uartFrames = d.host.uartFrames ∧ (journal cls payload d).host.uartCrc = d.host.uartCrc ∧ (journal cls payload d).host.uartDrops = d.host.uartDrops ∧ (journal cls payload d).host.jobs = d.host.jobs ∧ (journal cls payload d).host.masters = d.host.masters ∧ (journal cls payload d).host.kept = d.host.kept := by
  unfold journal
  try dsimp only
  all_goals simp
@[simp] theorem journalEvent_frame (cls : Fin 16) (addr : Nat) (value : Word) (index : Nat) (d : Dev) : (journalEvent cls addr value index d).cfg = d.cfg ∧ (journalEvent cls addr value index d).cfgNew = d.cfgNew ∧ (journalEvent cls addr value index d).ports = d.ports ∧ (journalEvent cls addr value index d).pd = d.pd ∧ (journalEvent cls addr value index d).guards = d.guards ∧ (journalEvent cls addr value index d).loops = d.loops ∧ (journalEvent cls addr value index d).phases = d.phases ∧ (journalEvent cls addr value index d).chans = d.chans ∧ (journalEvent cls addr value index d).groups = d.groups ∧ (journalEvent cls addr value index d).convs = d.convs ∧ (journalEvent cls addr value index d).feeds = d.feeds ∧ (journalEvent cls addr value index d).posts = d.posts ∧ (journalEvent cls addr value index d).ledger = d.ledger ∧ (journalEvent cls addr value index d).twin = d.twin ∧ (journalEvent cls addr value index d).tmr = d.tmr ∧ (journalEvent cls addr value index d).alarms = d.alarms ∧ (journalEvent cls addr value index d).itms = d.itms ∧ (journalEvent cls addr value index d).sources = d.sources ∧ (journalEvent cls addr value index d).coll = d.coll ∧ (journalEvent cls addr value index d).net = d.net ∧ (journalEvent cls addr value index d).upd = d.upd ∧ (journalEvent cls addr value index d).store = d.store ∧ (journalEvent cls addr value index d).sys = d.sys ∧ (journalEvent cls addr value index d).loss = d.loss ∧ (journalEvent cls addr value index d).tap = d.tap ∧ (journalEvent cls addr value index d).parcel = d.parcel ∧ (journalEvent cls addr value index d).freeCtr = d.freeCtr ∧ (journalEvent cls addr value index d).host.event = d.host.event ∧ (journalEvent cls addr value index d).host.irqen = d.host.irqen ∧ (journalEvent cls addr value index d).host.owner = d.host.owner ∧ (journalEvent cls addr value index d).host.successor = d.host.successor ∧ (journalEvent cls addr value index d).host.window = d.host.window ∧ (journalEvent cls addr value index d).host.changes = d.host.changes ∧ (journalEvent cls addr value index d).host.leaseEnd = d.host.leaseEnd ∧ (journalEvent cls addr value index d).host.hostLoaded = d.host.hostLoaded ∧ (journalEvent cls addr value index d).host.irqA = d.host.irqA ∧ (journalEvent cls addr value index d).host.irqB = d.host.irqB ∧ (journalEvent cls addr value index d).host.spiDummy = d.host.spiDummy ∧ (journalEvent cls addr value index d).host.spiCount = d.host.spiCount ∧ (journalEvent cls addr value index d).host.spiCrc = d.host.spiCrc ∧ (journalEvent cls addr value index d).host.spiAbort = d.host.spiAbort ∧ (journalEvent cls addr value index d).host.baud = d.host.baud ∧ (journalEvent cls addr value index d).host.uartFrames = d.host.uartFrames ∧ (journalEvent cls addr value index d).host.uartCrc = d.host.uartCrc ∧ (journalEvent cls addr value index d).host.uartDrops = d.host.uartDrops ∧ (journalEvent cls addr value index d).host.jobs = d.host.jobs ∧ (journalEvent cls addr value index d).host.masters = d.host.masters ∧ (journalEvent cls addr value index d).host.kept = d.host.kept := by
  unfold journalEvent
  try dsimp only
  all_goals simp
@[simp] theorem journalWrite_frame (cls : Fin 16) (addr : Nat) (value : Word) (m : Fin 5) (index : Nat) (d : Dev) : (journalWrite cls addr value m index d).ports = d.ports ∧ (journalWrite cls addr value m index d).phases = d.phases ∧ (journalWrite cls addr value m index d).chans = d.chans ∧ (journalWrite cls addr value m index d).twin = d.twin ∧ (journalWrite cls addr value m index d).sources = d.sources ∧ (journalWrite cls addr value m index d).upd = d.upd ∧ (journalWrite cls addr value m index d).store = d.store ∧ (journalWrite cls addr value m index d).sys = d.sys ∧ (journalWrite cls addr value m index d).loss = d.loss ∧ (journalWrite cls addr value m index d).tap = d.tap ∧ (journalWrite cls addr value m index d).parcel = d.parcel := by
  unfold journalWrite
  try dsimp only
  all_goals simp
@[simp] theorem complete_frame (c : CmdRef) (opcode : Nat) (code : Code) (result : List Byte) (d : Dev) : (complete c opcode code result d).cfg = d.cfg ∧ (complete c opcode code result d).cfgNew = d.cfgNew ∧ (complete c opcode code result d).ports = d.ports ∧ (complete c opcode code result d).pd = d.pd ∧ (complete c opcode code result d).guards = d.guards ∧ (complete c opcode code result d).loops = d.loops ∧ (complete c opcode code result d).phases = d.phases ∧ (complete c opcode code result d).chans = d.chans ∧ (complete c opcode code result d).groups = d.groups ∧ (complete c opcode code result d).convs = d.convs ∧ (complete c opcode code result d).feeds = d.feeds ∧ (complete c opcode code result d).posts = d.posts ∧ (complete c opcode code result d).ledger = d.ledger ∧ (complete c opcode code result d).twin = d.twin ∧ (complete c opcode code result d).tmr = d.tmr ∧ (complete c opcode code result d).alarms = d.alarms ∧ (complete c opcode code result d).itms = d.itms ∧ (complete c opcode code result d).sources = d.sources ∧ (complete c opcode code result d).coll = d.coll ∧ (complete c opcode code result d).net = d.net ∧ (complete c opcode code result d).upd = d.upd ∧ (complete c opcode code result d).store = d.store ∧ (complete c opcode code result d).sys = d.sys ∧ (complete c opcode code result d).loss = d.loss ∧ (complete c opcode code result d).tap = d.tap ∧ (complete c opcode code result d).parcel = d.parcel ∧ (complete c opcode code result d).freeCtr = d.freeCtr := by
  unfold complete
  try dsimp only
  repeat' split
  all_goals simp
@[simp] theorem addJob_frame (j : Job) (d : Dev) : (addJob j d).cfg = d.cfg ∧ (addJob j d).cfgNew = d.cfgNew ∧ (addJob j d).ports = d.ports ∧ (addJob j d).pd = d.pd ∧ (addJob j d).guards = d.guards ∧ (addJob j d).loops = d.loops ∧ (addJob j d).phases = d.phases ∧ (addJob j d).chans = d.chans ∧ (addJob j d).groups = d.groups ∧ (addJob j d).convs = d.convs ∧ (addJob j d).feeds = d.feeds ∧ (addJob j d).posts = d.posts ∧ (addJob j d).ledger = d.ledger ∧ (addJob j d).twin = d.twin ∧ (addJob j d).tmr = d.tmr ∧ (addJob j d).alarms = d.alarms ∧ (addJob j d).itms = d.itms ∧ (addJob j d).sources = d.sources ∧ (addJob j d).coll = d.coll ∧ (addJob j d).net = d.net ∧ (addJob j d).upd = d.upd ∧ (addJob j d).store = d.store ∧ (addJob j d).jrn = d.jrn ∧ (addJob j d).sys = d.sys ∧ (addJob j d).loss = d.loss ∧ (addJob j d).tap = d.tap ∧ (addJob j d).ringMem = d.ringMem ∧ (addJob j d).parcel = d.parcel ∧ (addJob j d).timers = d.timers := by
  unfold addJob
  try dsimp only
  all_goals simp
@[simp] theorem discardReport_frame (d : Dev) : (discardReport d).cfg = d.cfg ∧ (discardReport d).cfgNew = d.cfgNew ∧ (discardReport d).ports = d.ports ∧ (discardReport d).pd = d.pd ∧ (discardReport d).guards = d.guards ∧ (discardReport d).loops = d.loops ∧ (discardReport d).chans = d.chans ∧ (discardReport d).groups = d.groups ∧ (discardReport d).convs = d.convs ∧ (discardReport d).feeds = d.feeds ∧ (discardReport d).posts = d.posts ∧ (discardReport d).ledger = d.ledger ∧ (discardReport d).twin = d.twin ∧ (discardReport d).tmr = d.tmr ∧ (discardReport d).alarms = d.alarms ∧ (discardReport d).itms = d.itms ∧ (discardReport d).sources = d.sources ∧ (discardReport d).coll = d.coll ∧ (discardReport d).host = d.host ∧ (discardReport d).net = d.net ∧ (discardReport d).jrn = d.jrn ∧ (discardReport d).sys = d.sys ∧ (discardReport d).loss = d.loss ∧ (discardReport d).tap = d.tap ∧ (discardReport d).ringMem = d.ringMem ∧ (discardReport d).parcel = d.parcel := by
  unfold discardReport
  try dsimp only
  repeat' split
  all_goals simp
@[simp] theorem discardClean_frame (j : Job) (d : Dev) : (discardClean j d).cfg = d.cfg ∧ (discardClean j d).cfgNew = d.cfgNew ∧ (discardClean j d).ports = d.ports ∧ (discardClean j d).pd = d.pd ∧ (discardClean j d).guards = d.guards ∧ (discardClean j d).loops = d.loops ∧ (discardClean j d).chans = d.chans ∧ (discardClean j d).groups = d.groups ∧ (discardClean j d).convs = d.convs ∧ (discardClean j d).feeds = d.feeds ∧ (discardClean j d).posts = d.posts ∧ (discardClean j d).ledger = d.ledger ∧ (discardClean j d).twin = d.twin ∧ (discardClean j d).tmr = d.tmr ∧ (discardClean j d).alarms = d.alarms ∧ (discardClean j d).itms = d.itms ∧ (discardClean j d).sources = d.sources ∧ (discardClean j d).coll = d.coll ∧ (discardClean j d).host = d.host ∧ (discardClean j d).net = d.net ∧ (discardClean j d).jrn = d.jrn ∧ (discardClean j d).sys = d.sys ∧ (discardClean j d).loss = d.loss ∧ (discardClean j d).tap = d.tap ∧ (discardClean j d).ringMem = d.ringMem ∧ (discardClean j d).parcel = d.parcel := by
  unfold discardClean
  try dsimp only
  repeat' split
  all_goals simp
@[simp] theorem discardJobs_frame (f : Job → Bool) (d : Dev) : (discardJobs f d).cfg = d.cfg ∧ (discardJobs f d).cfgNew = d.cfgNew ∧ (discardJobs f d).ports = d.ports ∧ (discardJobs f d).pd = d.pd ∧ (discardJobs f d).guards = d.guards ∧ (discardJobs f d).loops = d.loops ∧ (discardJobs f d).chans = d.chans ∧ (discardJobs f d).groups = d.groups ∧ (discardJobs f d).convs = d.convs ∧ (discardJobs f d).feeds = d.feeds ∧ (discardJobs f d).posts = d.posts ∧ (discardJobs f d).ledger = d.ledger ∧ (discardJobs f d).twin = d.twin ∧ (discardJobs f d).tmr = d.tmr ∧ (discardJobs f d).alarms = d.alarms ∧ (discardJobs f d).itms = d.itms ∧ (discardJobs f d).sources = d.sources ∧ (discardJobs f d).coll = d.coll ∧ (discardJobs f d).net = d.net ∧ (discardJobs f d).sys = d.sys ∧ (discardJobs f d).loss = d.loss ∧ (discardJobs f d).tap = d.tap ∧ (discardJobs f d).parcel = d.parcel := by
  unfold discardJobs
  try dsimp only
  all_goals simp
@[simp] theorem journalContract_frame (p : Fin 32) (d : Dev) : (journalContract p d).cfg = d.cfg ∧ (journalContract p d).cfgNew = d.cfgNew ∧ (journalContract p d).ports = d.ports ∧ (journalContract p d).pd = d.pd ∧ (journalContract p d).guards = d.guards ∧ (journalContract p d).loops = d.loops ∧ (journalContract p d).phases = d.phases ∧ (journalContract p d).chans = d.chans ∧ (journalContract p d).groups = d.groups ∧ (journalContract p d).convs = d.convs ∧ (journalContract p d).feeds = d.feeds ∧ (journalContract p d).posts = d.posts ∧ (journalContract p d).ledger = d.ledger ∧ (journalContract p d).twin = d.twin ∧ (journalContract p d).tmr = d.tmr ∧ (journalContract p d).alarms = d.alarms ∧ (journalContract p d).itms = d.itms ∧ (journalContract p d).sources = d.sources ∧ (journalContract p d).coll = d.coll ∧ (journalContract p d).net = d.net ∧ (journalContract p d).upd = d.upd ∧ (journalContract p d).store = d.store ∧ (journalContract p d).sys = d.sys ∧ (journalContract p d).loss = d.loss ∧ (journalContract p d).tap = d.tap ∧ (journalContract p d).parcel = d.parcel ∧ (journalContract p d).freeCtr = d.freeCtr ∧ (journalContract p d).host.event = d.host.event ∧ (journalContract p d).host.irqen = d.host.irqen ∧ (journalContract p d).host.owner = d.host.owner ∧ (journalContract p d).host.successor = d.host.successor ∧ (journalContract p d).host.window = d.host.window ∧ (journalContract p d).host.changes = d.host.changes ∧ (journalContract p d).host.leaseEnd = d.host.leaseEnd ∧ (journalContract p d).host.hostLoaded = d.host.hostLoaded ∧ (journalContract p d).host.irqA = d.host.irqA ∧ (journalContract p d).host.irqB = d.host.irqB ∧ (journalContract p d).host.spiDummy = d.host.spiDummy ∧ (journalContract p d).host.spiCount = d.host.spiCount ∧ (journalContract p d).host.spiCrc = d.host.spiCrc ∧ (journalContract p d).host.spiAbort = d.host.spiAbort ∧ (journalContract p d).host.baud = d.host.baud ∧ (journalContract p d).host.uartFrames = d.host.uartFrames ∧ (journalContract p d).host.uartCrc = d.host.uartCrc ∧ (journalContract p d).host.uartDrops = d.host.uartDrops ∧ (journalContract p d).host.jobs = d.host.jobs ∧ (journalContract p d).host.masters = d.host.masters ∧ (journalContract p d).host.kept = d.host.kept := by
  unfold journalContract
  try dsimp only
  all_goals simp
@[simp] theorem applyChans_frame (boot whole : Bool) (old : ImageCfg) (d : Dev) : (applyChans boot whole old d).cfg = d.cfg ∧ (applyChans boot whole old d).cfgNew = d.cfgNew ∧ (applyChans boot whole old d).ports = d.ports ∧ (applyChans boot whole old d).pd = d.pd ∧ (applyChans boot whole old d).guards = d.guards ∧ (applyChans boot whole old d).loops = d.loops ∧ (applyChans boot whole old d).phases = d.phases ∧ (applyChans boot whole old d).groups = d.groups ∧ (applyChans boot whole old d).convs = d.convs ∧ (applyChans boot whole old d).feeds = d.feeds ∧ (applyChans boot whole old d).posts = d.posts ∧ (applyChans boot whole old d).ledger = d.ledger ∧ (applyChans boot whole old d).twin = d.twin ∧ (applyChans boot whole old d).tmr = d.tmr ∧ (applyChans boot whole old d).alarms = d.alarms ∧ (applyChans boot whole old d).itms = d.itms ∧ (applyChans boot whole old d).sources = d.sources ∧ (applyChans boot whole old d).coll = d.coll ∧ (applyChans boot whole old d).host = d.host ∧ (applyChans boot whole old d).net = d.net ∧ (applyChans boot whole old d).upd = d.upd ∧ (applyChans boot whole old d).store = d.store ∧ (applyChans boot whole old d).jrn = d.jrn ∧ (applyChans boot whole old d).sys = d.sys ∧ (applyChans boot whole old d).loss = d.loss ∧ (applyChans boot whole old d).tap = d.tap ∧ (applyChans boot whole old d).ringMem = d.ringMem ∧ (applyChans boot whole old d).parcel = d.parcel ∧ (applyChans boot whole old d).timers = d.timers := by
  unfold applyChans
  try dsimp only
  all_goals simp
@[simp] theorem feedChans_frame (f : Fin 4) (d : Dev) : (feedChans f d).cfg = d.cfg ∧ (feedChans f d).cfgNew = d.cfgNew ∧ (feedChans f d).ports = d.ports ∧ (feedChans f d).pd = d.pd ∧ (feedChans f d).guards = d.guards ∧ (feedChans f d).loops = d.loops ∧ (feedChans f d).phases = d.phases ∧ (feedChans f d).groups = d.groups ∧ (feedChans f d).convs = d.convs ∧ (feedChans f d).feeds = d.feeds ∧ (feedChans f d).posts = d.posts ∧ (feedChans f d).ledger = d.ledger ∧ (feedChans f d).twin = d.twin ∧ (feedChans f d).tmr = d.tmr ∧ (feedChans f d).alarms = d.alarms ∧ (feedChans f d).itms = d.itms ∧ (feedChans f d).sources = d.sources ∧ (feedChans f d).coll = d.coll ∧ (feedChans f d).host = d.host ∧ (feedChans f d).net = d.net ∧ (feedChans f d).upd = d.upd ∧ (feedChans f d).store = d.store ∧ (feedChans f d).jrn = d.jrn ∧ (feedChans f d).sys = d.sys ∧ (feedChans f d).loss = d.loss ∧ (feedChans f d).tap = d.tap ∧ (feedChans f d).ringMem = d.ringMem ∧ (feedChans f d).parcel = d.parcel ∧ (feedChans f d).timers = d.timers := by
  unfold feedChans
  try dsimp only
  repeat' split
  all_goals simp
@[simp] theorem stopTimers_frame (l : List Instr) (d : Dev) : (stopTimers l d).cfg = d.cfg ∧ (stopTimers l d).cfgNew = d.cfgNew ∧ (stopTimers l d).ports = d.ports ∧ (stopTimers l d).pd = d.pd ∧ (stopTimers l d).guards = d.guards ∧ (stopTimers l d).loops = d.loops ∧ (stopTimers l d).phases = d.phases ∧ (stopTimers l d).chans = d.chans ∧ (stopTimers l d).groups = d.groups ∧ (stopTimers l d).convs = d.convs ∧ (stopTimers l d).feeds = d.feeds ∧ (stopTimers l d).posts = d.posts ∧ (stopTimers l d).ledger = d.ledger ∧ (stopTimers l d).twin = d.twin ∧ (stopTimers l d).tmr = d.tmr ∧ (stopTimers l d).alarms = d.alarms ∧ (stopTimers l d).itms = d.itms ∧ (stopTimers l d).sources = d.sources ∧ (stopTimers l d).coll = d.coll ∧ (stopTimers l d).host = d.host ∧ (stopTimers l d).net = d.net ∧ (stopTimers l d).upd = d.upd ∧ (stopTimers l d).store = d.store ∧ (stopTimers l d).jrn = d.jrn ∧ (stopTimers l d).sys = d.sys ∧ (stopTimers l d).loss = d.loss ∧ (stopTimers l d).tap = d.tap ∧ (stopTimers l d).ringMem = d.ringMem ∧ (stopTimers l d).parcel = d.parcel ∧ (stopTimers l d).freeCtr = d.freeCtr := by
  unfold stopTimers
  try dsimp only
  all_goals simp
@[simp] theorem holdChan_frame (c : Fin 204) (d : Dev) : (holdChan c d).cfg = d.cfg ∧ (holdChan c d).cfgNew = d.cfgNew ∧ (holdChan c d).ports = d.ports ∧ (holdChan c d).pd = d.pd ∧ (holdChan c d).guards = d.guards ∧ (holdChan c d).loops = d.loops ∧ (holdChan c d).phases = d.phases ∧ (holdChan c d).groups = d.groups ∧ (holdChan c d).convs = d.convs ∧ (holdChan c d).feeds = d.feeds ∧ (holdChan c d).posts = d.posts ∧ (holdChan c d).ledger = d.ledger ∧ (holdChan c d).twin = d.twin ∧ (holdChan c d).tmr = d.tmr ∧ (holdChan c d).alarms = d.alarms ∧ (holdChan c d).itms = d.itms ∧ (holdChan c d).sources = d.sources ∧ (holdChan c d).coll = d.coll ∧ (holdChan c d).host = d.host ∧ (holdChan c d).net = d.net ∧ (holdChan c d).upd = d.upd ∧ (holdChan c d).store = d.store ∧ (holdChan c d).jrn = d.jrn ∧ (holdChan c d).sys = d.sys ∧ (holdChan c d).loss = d.loss ∧ (holdChan c d).tap = d.tap ∧ (holdChan c d).ringMem = d.ringMem ∧ (holdChan c d).parcel = d.parcel ∧ (holdChan c d).freeCtr = d.freeCtr := by
  unfold holdChan
  try dsimp only
  repeat' split
  all_goals simp
@[simp] theorem holdComm_frame (p : Fin 32) (d : Dev) : (holdComm p d).cfg = d.cfg ∧ (holdComm p d).cfgNew = d.cfgNew ∧ (holdComm p d).ports = d.ports ∧ (holdComm p d).pd = d.pd ∧ (holdComm p d).guards = d.guards ∧ (holdComm p d).loops = d.loops ∧ (holdComm p d).phases = d.phases ∧ (holdComm p d).groups = d.groups ∧ (holdComm p d).convs = d.convs ∧ (holdComm p d).feeds = d.feeds ∧ (holdComm p d).posts = d.posts ∧ (holdComm p d).ledger = d.ledger ∧ (holdComm p d).twin = d.twin ∧ (holdComm p d).tmr = d.tmr ∧ (holdComm p d).alarms = d.alarms ∧ (holdComm p d).itms = d.itms ∧ (holdComm p d).sources = d.sources ∧ (holdComm p d).coll = d.coll ∧ (holdComm p d).host = d.host ∧ (holdComm p d).net = d.net ∧ (holdComm p d).upd = d.upd ∧ (holdComm p d).store = d.store ∧ (holdComm p d).jrn = d.jrn ∧ (holdComm p d).sys = d.sys ∧ (holdComm p d).loss = d.loss ∧ (holdComm p d).tap = d.tap ∧ (holdComm p d).ringMem = d.ringMem ∧ (holdComm p d).parcel = d.parcel ∧ (holdComm p d).freeCtr = d.freeCtr := by
  unfold holdComm
  try dsimp only
  repeat' split
  all_goals simp
@[simp] theorem ccProgram_frame (l : Nat × Nat) (c : Fin 204) (d : Dev) : (ccProgram l c d).cfg = d.cfg ∧ (ccProgram l c d).cfgNew = d.cfgNew ∧ (ccProgram l c d).ports = d.ports ∧ (ccProgram l c d).pd = d.pd ∧ (ccProgram l c d).guards = d.guards ∧ (ccProgram l c d).loops = d.loops ∧ (ccProgram l c d).phases = d.phases ∧ (ccProgram l c d).groups = d.groups ∧ (ccProgram l c d).convs = d.convs ∧ (ccProgram l c d).feeds = d.feeds ∧ (ccProgram l c d).posts = d.posts ∧ (ccProgram l c d).ledger = d.ledger ∧ (ccProgram l c d).twin = d.twin ∧ (ccProgram l c d).tmr = d.tmr ∧ (ccProgram l c d).alarms = d.alarms ∧ (ccProgram l c d).itms = d.itms ∧ (ccProgram l c d).sources = d.sources ∧ (ccProgram l c d).coll = d.coll ∧ (ccProgram l c d).host = d.host ∧ (ccProgram l c d).net = d.net ∧ (ccProgram l c d).upd = d.upd ∧ (ccProgram l c d).store = d.store ∧ (ccProgram l c d).jrn = d.jrn ∧ (ccProgram l c d).sys = d.sys ∧ (ccProgram l c d).loss = d.loss ∧ (ccProgram l c d).tap = d.tap ∧ (ccProgram l c d).ringMem = d.ringMem ∧ (ccProgram l c d).parcel = d.parcel ∧ (ccProgram l c d).freeCtr = d.freeCtr := by
  unfold ccProgram
  try dsimp only
  all_goals simp
@[simp] theorem present_frame (p : Fin 32) (rp : RpLevel) (rd : Bool) (d : Dev) : (present p rp rd d).cfg = d.cfg ∧ (present p rp rd d).cfgNew = d.cfgNew ∧ (present p rp rd d).pd = d.pd ∧ (present p rp rd d).loops = d.loops ∧ (present p rp rd d).phases = d.phases ∧ (present p rp rd d).groups = d.groups ∧ (present p rp rd d).convs = d.convs ∧ (present p rp rd d).feeds = d.feeds ∧ (present p rp rd d).posts = d.posts ∧ (present p rp rd d).ledger = d.ledger ∧ (present p rp rd d).twin = d.twin ∧ (present p rp rd d).tmr = d.tmr ∧ (present p rp rd d).alarms = d.alarms ∧ (present p rp rd d).itms = d.itms ∧ (present p rp rd d).sources = d.sources ∧ (present p rp rd d).coll = d.coll ∧ (present p rp rd d).host = d.host ∧ (present p rp rd d).net = d.net ∧ (present p rp rd d).upd = d.upd ∧ (present p rp rd d).store = d.store ∧ (present p rp rd d).jrn = d.jrn ∧ (present p rp rd d).sys = d.sys ∧ (present p rp rd d).loss = d.loss ∧ (present p rp rd d).tap = d.tap ∧ (present p rp rd d).ringMem = d.ringMem ∧ (present p rp rd d).parcel = d.parcel ∧ (present p rp rd d).freeCtr = d.freeCtr := by
  unfold present
  try dsimp only
  repeat' split
  all_goals simp
@[simp] theorem presentRp_frame (p : Fin 32) (d : Dev) : (presentRp p d).cfg = d.cfg ∧ (presentRp p d).cfgNew = d.cfgNew ∧ (presentRp p d).pd = d.pd ∧ (presentRp p d).loops = d.loops ∧ (presentRp p d).phases = d.phases ∧ (presentRp p d).groups = d.groups ∧ (presentRp p d).convs = d.convs ∧ (presentRp p d).feeds = d.feeds ∧ (presentRp p d).posts = d.posts ∧ (presentRp p d).ledger = d.ledger ∧ (presentRp p d).twin = d.twin ∧ (presentRp p d).tmr = d.tmr ∧ (presentRp p d).alarms = d.alarms ∧ (presentRp p d).itms = d.itms ∧ (presentRp p d).sources = d.sources ∧ (presentRp p d).coll = d.coll ∧ (presentRp p d).host = d.host ∧ (presentRp p d).net = d.net ∧ (presentRp p d).upd = d.upd ∧ (presentRp p d).store = d.store ∧ (presentRp p d).jrn = d.jrn ∧ (presentRp p d).sys = d.sys ∧ (presentRp p d).loss = d.loss ∧ (presentRp p d).tap = d.tap ∧ (presentRp p d).ringMem = d.ringMem ∧ (presentRp p d).parcel = d.parcel ∧ (presentRp p d).freeCtr = d.freeCtr := by
  unfold presentRp
  try dsimp only
  all_goals simp
@[simp] theorem presentRd_frame (p : Fin 32) (d : Dev) : (presentRd p d).cfg = d.cfg ∧ (presentRd p d).cfgNew = d.cfgNew ∧ (presentRd p d).pd = d.pd ∧ (presentRd p d).loops = d.loops ∧ (presentRd p d).phases = d.phases ∧ (presentRd p d).groups = d.groups ∧ (presentRd p d).convs = d.convs ∧ (presentRd p d).feeds = d.feeds ∧ (presentRd p d).posts = d.posts ∧ (presentRd p d).ledger = d.ledger ∧ (presentRd p d).twin = d.twin ∧ (presentRd p d).tmr = d.tmr ∧ (presentRd p d).alarms = d.alarms ∧ (presentRd p d).itms = d.itms ∧ (presentRd p d).sources = d.sources ∧ (presentRd p d).coll = d.coll ∧ (presentRd p d).host = d.host ∧ (presentRd p d).net = d.net ∧ (presentRd p d).upd = d.upd ∧ (presentRd p d).store = d.store ∧ (presentRd p d).sys = d.sys ∧ (presentRd p d).loss = d.loss ∧ (presentRd p d).tap = d.tap ∧ (presentRd p d).ringMem = d.ringMem ∧ (presentRd p d).parcel = d.parcel := by
  unfold presentRd
  try dsimp only
  all_goals simp
@[simp] theorem presentOpen_frame (p : Fin 32) (d : Dev) : (presentOpen p d).cfg = d.cfg ∧ (presentOpen p d).cfgNew = d.cfgNew ∧ (presentOpen p d).pd = d.pd ∧ (presentOpen p d).loops = d.loops ∧ (presentOpen p d).phases = d.phases ∧ (presentOpen p d).groups = d.groups ∧ (presentOpen p d).convs = d.convs ∧ (presentOpen p d).feeds = d.feeds ∧ (presentOpen p d).posts = d.posts ∧ (presentOpen p d).ledger = d.ledger ∧ (presentOpen p d).twin = d.twin ∧ (presentOpen p d).tmr = d.tmr ∧ (presentOpen p d).alarms = d.alarms ∧ (presentOpen p d).itms = d.itms ∧ (presentOpen p d).sources = d.sources ∧ (presentOpen p d).coll = d.coll ∧ (presentOpen p d).host = d.host ∧ (presentOpen p d).net = d.net ∧ (presentOpen p d).upd = d.upd ∧ (presentOpen p d).store = d.store ∧ (presentOpen p d).jrn = d.jrn ∧ (presentOpen p d).sys = d.sys ∧ (presentOpen p d).loss = d.loss ∧ (presentOpen p d).tap = d.tap ∧ (presentOpen p d).ringMem = d.ringMem ∧ (presentOpen p d).parcel = d.parcel ∧ (presentOpen p d).freeCtr = d.freeCtr := by
  unfold presentOpen
  try dsimp only
  all_goals simp
@[simp] theorem vconnOff_frame (p : Fin 32) (d : Dev) : (vconnOff p d).cfg = d.cfg ∧ (vconnOff p d).cfgNew = d.cfgNew ∧ (vconnOff p d).pd = d.pd ∧ (vconnOff p d).guards = d.guards ∧ (vconnOff p d).loops = d.loops ∧ (vconnOff p d).phases = d.phases ∧ (vconnOff p d).groups = d.groups ∧ (vconnOff p d).convs = d.convs ∧ (vconnOff p d).feeds = d.feeds ∧ (vconnOff p d).posts = d.posts ∧ (vconnOff p d).ledger = d.ledger ∧ (vconnOff p d).twin = d.twin ∧ (vconnOff p d).tmr = d.tmr ∧ (vconnOff p d).alarms = d.alarms ∧ (vconnOff p d).itms = d.itms ∧ (vconnOff p d).sources = d.sources ∧ (vconnOff p d).coll = d.coll ∧ (vconnOff p d).host = d.host ∧ (vconnOff p d).net = d.net ∧ (vconnOff p d).upd = d.upd ∧ (vconnOff p d).store = d.store ∧ (vconnOff p d).jrn = d.jrn ∧ (vconnOff p d).sys = d.sys ∧ (vconnOff p d).loss = d.loss ∧ (vconnOff p d).tap = d.tap ∧ (vconnOff p d).ringMem = d.ringMem ∧ (vconnOff p d).parcel = d.parcel ∧ (vconnOff p d).freeCtr = d.freeCtr := by
  unfold vconnOff
  try dsimp only
  all_goals simp
@[simp] theorem vconnEnd_frame (p : Fin 32) (d : Dev) : (vconnEnd p d).cfg = d.cfg ∧ (vconnEnd p d).cfgNew = d.cfgNew ∧ (vconnEnd p d).pd = d.pd ∧ (vconnEnd p d).guards = d.guards ∧ (vconnEnd p d).loops = d.loops ∧ (vconnEnd p d).phases = d.phases ∧ (vconnEnd p d).groups = d.groups ∧ (vconnEnd p d).convs = d.convs ∧ (vconnEnd p d).feeds = d.feeds ∧ (vconnEnd p d).posts = d.posts ∧ (vconnEnd p d).ledger = d.ledger ∧ (vconnEnd p d).twin = d.twin ∧ (vconnEnd p d).tmr = d.tmr ∧ (vconnEnd p d).alarms = d.alarms ∧ (vconnEnd p d).itms = d.itms ∧ (vconnEnd p d).sources = d.sources ∧ (vconnEnd p d).coll = d.coll ∧ (vconnEnd p d).host = d.host ∧ (vconnEnd p d).net = d.net ∧ (vconnEnd p d).upd = d.upd ∧ (vconnEnd p d).store = d.store ∧ (vconnEnd p d).jrn = d.jrn ∧ (vconnEnd p d).sys = d.sys ∧ (vconnEnd p d).tap = d.tap ∧ (vconnEnd p d).ringMem = d.ringMem ∧ (vconnEnd p d).parcel = d.parcel ∧ (vconnEnd p d).freeCtr = d.freeCtr := by
  unfold vconnEnd
  try dsimp only
  repeat' split
  all_goals simp
@[simp] theorem vconnOnPin_frame (p : Fin 32) (d : Dev) : (vconnOnPin p d).cfg = d.cfg ∧ (vconnOnPin p d).cfgNew = d.cfgNew ∧ (vconnOnPin p d).pd = d.pd ∧ (vconnOnPin p d).guards = d.guards ∧ (vconnOnPin p d).loops = d.loops ∧ (vconnOnPin p d).chans = d.chans ∧ (vconnOnPin p d).groups = d.groups ∧ (vconnOnPin p d).convs = d.convs ∧ (vconnOnPin p d).feeds = d.feeds ∧ (vconnOnPin p d).posts = d.posts ∧ (vconnOnPin p d).ledger = d.ledger ∧ (vconnOnPin p d).twin = d.twin ∧ (vconnOnPin p d).tmr = d.tmr ∧ (vconnOnPin p d).alarms = d.alarms ∧ (vconnOnPin p d).itms = d.itms ∧ (vconnOnPin p d).sources = d.sources ∧ (vconnOnPin p d).coll = d.coll ∧ (vconnOnPin p d).net = d.net ∧ (vconnOnPin p d).upd = d.upd ∧ (vconnOnPin p d).store = d.store ∧ (vconnOnPin p d).sys = d.sys ∧ (vconnOnPin p d).tap = d.tap ∧ (vconnOnPin p d).ringMem = d.ringMem ∧ (vconnOnPin p d).parcel = d.parcel := by
  unfold vconnOnPin
  try dsimp only
  all_goals simp
@[simp] theorem startRamp_frame (p : Fin 32) (code slew : Nat) (why : RampFor) (d : Dev) : (startRamp p code slew why d).cfg = d.cfg ∧ (startRamp p code slew why d).cfgNew = d.cfgNew ∧ (startRamp p code slew why d).ports = d.ports ∧ (startRamp p code slew why d).pd = d.pd ∧ (startRamp p code slew why d).guards = d.guards ∧ (startRamp p code slew why d).phases = d.phases ∧ (startRamp p code slew why d).chans = d.chans ∧ (startRamp p code slew why d).groups = d.groups ∧ (startRamp p code slew why d).convs = d.convs ∧ (startRamp p code slew why d).feeds = d.feeds ∧ (startRamp p code slew why d).posts = d.posts ∧ (startRamp p code slew why d).ledger = d.ledger ∧ (startRamp p code slew why d).twin = d.twin ∧ (startRamp p code slew why d).tmr = d.tmr ∧ (startRamp p code slew why d).alarms = d.alarms ∧ (startRamp p code slew why d).itms = d.itms ∧ (startRamp p code slew why d).sources = d.sources ∧ (startRamp p code slew why d).coll = d.coll ∧ (startRamp p code slew why d).host = d.host ∧ (startRamp p code slew why d).net = d.net ∧ (startRamp p code slew why d).upd = d.upd ∧ (startRamp p code slew why d).store = d.store ∧ (startRamp p code slew why d).jrn = d.jrn ∧ (startRamp p code slew why d).sys = d.sys ∧ (startRamp p code slew why d).loss = d.loss ∧ (startRamp p code slew why d).tap = d.tap ∧ (startRamp p code slew why d).ringMem = d.ringMem ∧ (startRamp p code slew why d).parcel = d.parcel ∧ (startRamp p code slew why d).timers = d.timers ∧ (startRamp p code slew why d).freeCtr = d.freeCtr := by
  unfold startRamp
  try dsimp only
  all_goals simp
@[simp] theorem stopRamp_frame (p : Fin 32) (d : Dev) : (stopRamp p d).cfg = d.cfg ∧ (stopRamp p d).cfgNew = d.cfgNew ∧ (stopRamp p d).ports = d.ports ∧ (stopRamp p d).pd = d.pd ∧ (stopRamp p d).guards = d.guards ∧ (stopRamp p d).phases = d.phases ∧ (stopRamp p d).chans = d.chans ∧ (stopRamp p d).groups = d.groups ∧ (stopRamp p d).convs = d.convs ∧ (stopRamp p d).feeds = d.feeds ∧ (stopRamp p d).posts = d.posts ∧ (stopRamp p d).ledger = d.ledger ∧ (stopRamp p d).twin = d.twin ∧ (stopRamp p d).tmr = d.tmr ∧ (stopRamp p d).alarms = d.alarms ∧ (stopRamp p d).itms = d.itms ∧ (stopRamp p d).sources = d.sources ∧ (stopRamp p d).coll = d.coll ∧ (stopRamp p d).host = d.host ∧ (stopRamp p d).net = d.net ∧ (stopRamp p d).upd = d.upd ∧ (stopRamp p d).store = d.store ∧ (stopRamp p d).jrn = d.jrn ∧ (stopRamp p d).sys = d.sys ∧ (stopRamp p d).loss = d.loss ∧ (stopRamp p d).tap = d.tap ∧ (stopRamp p d).ringMem = d.ringMem ∧ (stopRamp p d).parcel = d.parcel ∧ (stopRamp p d).timers = d.timers ∧ (stopRamp p d).freeCtr = d.freeCtr := by
  unfold stopRamp
  try dsimp only
  all_goals simp
@[simp] theorem setPhases_frame (p : Fin 32) (st : PhaseState) (d : Dev) : (setPhases p st d).cfg = d.cfg ∧ (setPhases p st d).cfgNew = d.cfgNew ∧ (setPhases p st d).ports = d.ports ∧ (setPhases p st d).pd = d.pd ∧ (setPhases p st d).guards = d.guards ∧ (setPhases p st d).loops = d.loops ∧ (setPhases p st d).chans = d.chans ∧ (setPhases p st d).groups = d.groups ∧ (setPhases p st d).convs = d.convs ∧ (setPhases p st d).feeds = d.feeds ∧ (setPhases p st d).posts = d.posts ∧ (setPhases p st d).ledger = d.ledger ∧ (setPhases p st d).twin = d.twin ∧ (setPhases p st d).tmr = d.tmr ∧ (setPhases p st d).alarms = d.alarms ∧ (setPhases p st d).itms = d.itms ∧ (setPhases p st d).sources = d.sources ∧ (setPhases p st d).coll = d.coll ∧ (setPhases p st d).host = d.host ∧ (setPhases p st d).net = d.net ∧ (setPhases p st d).upd = d.upd ∧ (setPhases p st d).store = d.store ∧ (setPhases p st d).jrn = d.jrn ∧ (setPhases p st d).sys = d.sys ∧ (setPhases p st d).loss = d.loss ∧ (setPhases p st d).tap = d.tap ∧ (setPhases p st d).ringMem = d.ringMem ∧ (setPhases p st d).parcel = d.parcel ∧ (setPhases p st d).timers = d.timers ∧ (setPhases p st d).freeCtr = d.freeCtr := by
  unfold setPhases
  try dsimp only
  all_goals simp
@[simp] theorem phasesMid_frame (p : Fin 32) (d : Dev) : (phasesMid p d).cfg = d.cfg ∧ (phasesMid p d).cfgNew = d.cfgNew ∧ (phasesMid p d).ports = d.ports ∧ (phasesMid p d).guards = d.guards ∧ (phasesMid p d).chans = d.chans ∧ (phasesMid p d).groups = d.groups ∧ (phasesMid p d).convs = d.convs ∧ (phasesMid p d).feeds = d.feeds ∧ (phasesMid p d).posts = d.posts ∧ (phasesMid p d).ledger = d.ledger ∧ (phasesMid p d).twin = d.twin ∧ (phasesMid p d).tmr = d.tmr ∧ (phasesMid p d).alarms = d.alarms ∧ (phasesMid p d).itms = d.itms ∧ (phasesMid p d).sources = d.sources ∧ (phasesMid p d).coll = d.coll ∧ (phasesMid p d).host = d.host ∧ (phasesMid p d).net = d.net ∧ (phasesMid p d).upd = d.upd ∧ (phasesMid p d).store = d.store ∧ (phasesMid p d).jrn = d.jrn ∧ (phasesMid p d).sys = d.sys ∧ (phasesMid p d).loss = d.loss ∧ (phasesMid p d).tap = d.tap ∧ (phasesMid p d).ringMem = d.ringMem ∧ (phasesMid p d).parcel = d.parcel ∧ (phasesMid p d).freeCtr = d.freeCtr := by
  unfold phasesMid
  try dsimp only
  all_goals simp
@[simp] theorem phasesGo_frame (p : Fin 32) (d : Dev) : (phasesGo p d).cfg = d.cfg ∧ (phasesGo p d).cfgNew = d.cfgNew ∧ (phasesGo p d).ports = d.ports ∧ (phasesGo p d).pd = d.pd ∧ (phasesGo p d).guards = d.guards ∧ (phasesGo p d).loops = d.loops ∧ (phasesGo p d).chans = d.chans ∧ (phasesGo p d).groups = d.groups ∧ (phasesGo p d).convs = d.convs ∧ (phasesGo p d).feeds = d.feeds ∧ (phasesGo p d).posts = d.posts ∧ (phasesGo p d).ledger = d.ledger ∧ (phasesGo p d).twin = d.twin ∧ (phasesGo p d).tmr = d.tmr ∧ (phasesGo p d).alarms = d.alarms ∧ (phasesGo p d).itms = d.itms ∧ (phasesGo p d).sources = d.sources ∧ (phasesGo p d).coll = d.coll ∧ (phasesGo p d).host = d.host ∧ (phasesGo p d).net = d.net ∧ (phasesGo p d).upd = d.upd ∧ (phasesGo p d).store = d.store ∧ (phasesGo p d).jrn = d.jrn ∧ (phasesGo p d).sys = d.sys ∧ (phasesGo p d).loss = d.loss ∧ (phasesGo p d).tap = d.tap ∧ (phasesGo p d).ringMem = d.ringMem ∧ (phasesGo p d).parcel = d.parcel ∧ (phasesGo p d).timers = d.timers := by
  unfold phasesGo
  try dsimp only
  repeat' split
  all_goals simp
@[simp] theorem softStart_frame (p : Fin 32) (slew : Nat) (d : Dev) : (softStart p slew d).cfg = d.cfg ∧ (softStart p slew d).cfgNew = d.cfgNew ∧ (softStart p slew d).ports = d.ports ∧ (softStart p slew d).guards = d.guards ∧ (softStart p slew d).chans = d.chans ∧ (softStart p slew d).groups = d.groups ∧ (softStart p slew d).convs = d.convs ∧ (softStart p slew d).feeds = d.feeds ∧ (softStart p slew d).posts = d.posts ∧ (softStart p slew d).ledger = d.ledger ∧ (softStart p slew d).twin = d.twin ∧ (softStart p slew d).tmr = d.tmr ∧ (softStart p slew d).alarms = d.alarms ∧ (softStart p slew d).itms = d.itms ∧ (softStart p slew d).sources = d.sources ∧ (softStart p slew d).coll = d.coll ∧ (softStart p slew d).host = d.host ∧ (softStart p slew d).net = d.net ∧ (softStart p slew d).upd = d.upd ∧ (softStart p slew d).store = d.store ∧ (softStart p slew d).jrn = d.jrn ∧ (softStart p slew d).sys = d.sys ∧ (softStart p slew d).loss = d.loss ∧ (softStart p slew d).tap = d.tap ∧ (softStart p slew d).ringMem = d.ringMem ∧ (softStart p slew d).parcel = d.parcel ∧ (softStart p slew d).timers = d.timers := by
  unfold softStart
  try dsimp only
  repeat' split
  all_goals simp
@[simp] theorem startPort_frame (p : Fin 32) (d : Dev) : (startPort p d).cfg = d.cfg ∧ (startPort p d).cfgNew = d.cfgNew ∧ (startPort p d).ports = d.ports ∧ (startPort p d).guards = d.guards ∧ (startPort p d).chans = d.chans ∧ (startPort p d).groups = d.groups ∧ (startPort p d).convs = d.convs ∧ (startPort p d).feeds = d.feeds ∧ (startPort p d).posts = d.posts ∧ (startPort p d).ledger = d.ledger ∧ (startPort p d).twin = d.twin ∧ (startPort p d).tmr = d.tmr ∧ (startPort p d).alarms = d.alarms ∧ (startPort p d).itms = d.itms ∧ (startPort p d).sources = d.sources ∧ (startPort p d).coll = d.coll ∧ (startPort p d).host = d.host ∧ (startPort p d).net = d.net ∧ (startPort p d).upd = d.upd ∧ (startPort p d).store = d.store ∧ (startPort p d).jrn = d.jrn ∧ (startPort p d).sys = d.sys ∧ (startPort p d).tap = d.tap ∧ (startPort p d).ringMem = d.ringMem ∧ (startPort p d).parcel = d.parcel ∧ (startPort p d).timers = d.timers := by
  unfold startPort
  try dsimp only
  repeat' split
  all_goals simp
@[simp] theorem offRamp_frame (p : Fin 32) (d : Dev) : (offRamp p d).cfg = d.cfg ∧ (offRamp p d).cfgNew = d.cfgNew ∧ (offRamp p d).ports = d.ports ∧ (offRamp p d).pd = d.pd ∧ (offRamp p d).guards = d.guards ∧ (offRamp p d).phases = d.phases ∧ (offRamp p d).chans = d.chans ∧ (offRamp p d).groups = d.groups ∧ (offRamp p d).convs = d.convs ∧ (offRamp p d).feeds = d.feeds ∧ (offRamp p d).posts = d.posts ∧ (offRamp p d).ledger = d.ledger ∧ (offRamp p d).twin = d.twin ∧ (offRamp p d).tmr = d.tmr ∧ (offRamp p d).alarms = d.alarms ∧ (offRamp p d).itms = d.itms ∧ (offRamp p d).sources = d.sources ∧ (offRamp p d).coll = d.coll ∧ (offRamp p d).host = d.host ∧ (offRamp p d).net = d.net ∧ (offRamp p d).upd = d.upd ∧ (offRamp p d).store = d.store ∧ (offRamp p d).jrn = d.jrn ∧ (offRamp p d).sys = d.sys ∧ (offRamp p d).tap = d.tap ∧ (offRamp p d).ringMem = d.ringMem ∧ (offRamp p d).parcel = d.parcel ∧ (offRamp p d).timers = d.timers ∧ (offRamp p d).freeCtr = d.freeCtr := by
  unfold offRamp
  try dsimp only
  repeat' split
  all_goals simp
@[simp] theorem setFence_frame (p : Fin 32) (mv : Nat) (d : Dev) : (setFence p mv d).cfg = d.cfg ∧ (setFence p mv d).cfgNew = d.cfgNew ∧ (setFence p mv d).pd = d.pd ∧ (setFence p mv d).guards = d.guards ∧ (setFence p mv d).loops = d.loops ∧ (setFence p mv d).groups = d.groups ∧ (setFence p mv d).convs = d.convs ∧ (setFence p mv d).feeds = d.feeds ∧ (setFence p mv d).ledger = d.ledger ∧ (setFence p mv d).twin = d.twin ∧ (setFence p mv d).tmr = d.tmr ∧ (setFence p mv d).sources = d.sources ∧ (setFence p mv d).coll = d.coll ∧ (setFence p mv d).host = d.host ∧ (setFence p mv d).upd = d.upd ∧ (setFence p mv d).store = d.store ∧ (setFence p mv d).jrn = d.jrn ∧ (setFence p mv d).sys = d.sys ∧ (setFence p mv d).loss = d.loss ∧ (setFence p mv d).tap = d.tap ∧ (setFence p mv d).ringMem = d.ringMem ∧ (setFence p mv d).parcel = d.parcel ∧ (setFence p mv d).freeCtr = d.freeCtr := by
  unfold setFence
  try dsimp only
  all_goals simp
@[simp] theorem resetFence_frame (p : Fin 32) (mv : Nat) (d : Dev) : (resetFence p mv d).cfg = d.cfg ∧ (resetFence p mv d).cfgNew = d.cfgNew ∧ (resetFence p mv d).pd = d.pd ∧ (resetFence p mv d).guards = d.guards ∧ (resetFence p mv d).loops = d.loops ∧ (resetFence p mv d).chans = d.chans ∧ (resetFence p mv d).groups = d.groups ∧ (resetFence p mv d).convs = d.convs ∧ (resetFence p mv d).feeds = d.feeds ∧ (resetFence p mv d).posts = d.posts ∧ (resetFence p mv d).ledger = d.ledger ∧ (resetFence p mv d).twin = d.twin ∧ (resetFence p mv d).tmr = d.tmr ∧ (resetFence p mv d).alarms = d.alarms ∧ (resetFence p mv d).itms = d.itms ∧ (resetFence p mv d).sources = d.sources ∧ (resetFence p mv d).coll = d.coll ∧ (resetFence p mv d).host = d.host ∧ (resetFence p mv d).net = d.net ∧ (resetFence p mv d).upd = d.upd ∧ (resetFence p mv d).store = d.store ∧ (resetFence p mv d).jrn = d.jrn ∧ (resetFence p mv d).sys = d.sys ∧ (resetFence p mv d).loss = d.loss ∧ (resetFence p mv d).tap = d.tap ∧ (resetFence p mv d).ringMem = d.ringMem ∧ (resetFence p mv d).parcel = d.parcel ∧ (resetFence p mv d).timers = d.timers := by
  unfold resetFence
  try dsimp only
  all_goals simp
@[simp] theorem restartFence_frame (p : Fin 32) (mv : Nat) (d : Dev) : (restartFence p mv d).cfg = d.cfg ∧ (restartFence p mv d).cfgNew = d.cfgNew ∧ (restartFence p mv d).pd = d.pd ∧ (restartFence p mv d).guards = d.guards ∧ (restartFence p mv d).loops = d.loops ∧ (restartFence p mv d).chans = d.chans ∧ (restartFence p mv d).groups = d.groups ∧ (restartFence p mv d).convs = d.convs ∧ (restartFence p mv d).feeds = d.feeds ∧ (restartFence p mv d).posts = d.posts ∧ (restartFence p mv d).ledger = d.ledger ∧ (restartFence p mv d).twin = d.twin ∧ (restartFence p mv d).tmr = d.tmr ∧ (restartFence p mv d).alarms = d.alarms ∧ (restartFence p mv d).itms = d.itms ∧ (restartFence p mv d).sources = d.sources ∧ (restartFence p mv d).coll = d.coll ∧ (restartFence p mv d).host = d.host ∧ (restartFence p mv d).net = d.net ∧ (restartFence p mv d).upd = d.upd ∧ (restartFence p mv d).store = d.store ∧ (restartFence p mv d).jrn = d.jrn ∧ (restartFence p mv d).sys = d.sys ∧ (restartFence p mv d).tap = d.tap ∧ (restartFence p mv d).ringMem = d.ringMem ∧ (restartFence p mv d).parcel = d.parcel ∧ (restartFence p mv d).timers = d.timers := by
  unfold restartFence
  try dsimp only
  repeat' split
  all_goals simp
@[simp] theorem clearFence_frame (p : Fin 32) (d : Dev) : (clearFence p d).cfg = d.cfg ∧ (clearFence p d).cfgNew = d.cfgNew ∧ (clearFence p d).pd = d.pd ∧ (clearFence p d).guards = d.guards ∧ (clearFence p d).loops = d.loops ∧ (clearFence p d).phases = d.phases ∧ (clearFence p d).chans = d.chans ∧ (clearFence p d).groups = d.groups ∧ (clearFence p d).convs = d.convs ∧ (clearFence p d).feeds = d.feeds ∧ (clearFence p d).posts = d.posts ∧ (clearFence p d).ledger = d.ledger ∧ (clearFence p d).twin = d.twin ∧ (clearFence p d).tmr = d.tmr ∧ (clearFence p d).alarms = d.alarms ∧ (clearFence p d).itms = d.itms ∧ (clearFence p d).sources = d.sources ∧ (clearFence p d).coll = d.coll ∧ (clearFence p d).host = d.host ∧ (clearFence p d).net = d.net ∧ (clearFence p d).upd = d.upd ∧ (clearFence p d).store = d.store ∧ (clearFence p d).jrn = d.jrn ∧ (clearFence p d).sys = d.sys ∧ (clearFence p d).loss = d.loss ∧ (clearFence p d).tap = d.tap ∧ (clearFence p d).ringMem = d.ringMem ∧ (clearFence p d).parcel = d.parcel ∧ (clearFence p d).timers = d.timers ∧ (clearFence p d).freeCtr = d.freeCtr := by
  unfold clearFence
  try dsimp only
  all_goals simp
@[simp] theorem discharge_frame (p : Fin 32) (b : Bool) (d : Dev) : (discharge p b d).cfg = d.cfg ∧ (discharge p b d).cfgNew = d.cfgNew ∧ (discharge p b d).ports = d.ports ∧ (discharge p b d).pd = d.pd ∧ (discharge p b d).loops = d.loops ∧ (discharge p b d).phases = d.phases ∧ (discharge p b d).chans = d.chans ∧ (discharge p b d).groups = d.groups ∧ (discharge p b d).convs = d.convs ∧ (discharge p b d).feeds = d.feeds ∧ (discharge p b d).posts = d.posts ∧ (discharge p b d).ledger = d.ledger ∧ (discharge p b d).twin = d.twin ∧ (discharge p b d).tmr = d.tmr ∧ (discharge p b d).alarms = d.alarms ∧ (discharge p b d).itms = d.itms ∧ (discharge p b d).sources = d.sources ∧ (discharge p b d).coll = d.coll ∧ (discharge p b d).host = d.host ∧ (discharge p b d).net = d.net ∧ (discharge p b d).upd = d.upd ∧ (discharge p b d).store = d.store ∧ (discharge p b d).jrn = d.jrn ∧ (discharge p b d).sys = d.sys ∧ (discharge p b d).loss = d.loss ∧ (discharge p b d).tap = d.tap ∧ (discharge p b d).ringMem = d.ringMem ∧ (discharge p b d).parcel = d.parcel ∧ (discharge p b d).freeCtr = d.freeCtr := by
  unfold discharge
  try dsimp only
  all_goals simp
@[simp] theorem openGuard_frame (p : Fin 32) (why : Nat) (d : Dev) : (openGuard p why d).cfg = d.cfg ∧ (openGuard p why d).cfgNew = d.cfgNew ∧ (openGuard p why d).ports = d.ports ∧ (openGuard p why d).pd = d.pd ∧ (openGuard p why d).loops = d.loops ∧ (openGuard p why d).phases = d.phases ∧ (openGuard p why d).chans = d.chans ∧ (openGuard p why d).groups = d.groups ∧ (openGuard p why d).convs = d.convs ∧ (openGuard p why d).feeds = d.feeds ∧ (openGuard p why d).posts = d.posts ∧ (openGuard p why d).ledger = d.ledger ∧ (openGuard p why d).twin = d.twin ∧ (openGuard p why d).tmr = d.tmr ∧ (openGuard p why d).alarms = d.alarms ∧ (openGuard p why d).itms = d.itms ∧ (openGuard p why d).sources = d.sources ∧ (openGuard p why d).coll = d.coll ∧ (openGuard p why d).host = d.host ∧ (openGuard p why d).net = d.net ∧ (openGuard p why d).upd = d.upd ∧ (openGuard p why d).store = d.store ∧ (openGuard p why d).jrn = d.jrn ∧ (openGuard p why d).sys = d.sys ∧ (openGuard p why d).loss = d.loss ∧ (openGuard p why d).tap = d.tap ∧ (openGuard p why d).ringMem = d.ringMem ∧ (openGuard p why d).parcel = d.parcel ∧ (openGuard p why d).freeCtr = d.freeCtr := by
  unfold openGuard
  try dsimp only
  repeat' split
  all_goals simp
@[simp] theorem latchGuard_frame (p : Fin 32) (latchWhy openWhy : Nat) (d : Dev) : (latchGuard p latchWhy openWhy d).cfg = d.cfg ∧ (latchGuard p latchWhy openWhy d).cfgNew = d.cfgNew ∧ (latchGuard p latchWhy openWhy d).ports = d.ports ∧ (latchGuard p latchWhy openWhy d).chans = d.chans ∧ (latchGuard p latchWhy openWhy d).groups = d.groups ∧ (latchGuard p latchWhy openWhy d).convs = d.convs ∧ (latchGuard p latchWhy openWhy d).feeds = d.feeds ∧ (latchGuard p latchWhy openWhy d).posts = d.posts ∧ (latchGuard p latchWhy openWhy d).ledger = d.ledger ∧ (latchGuard p latchWhy openWhy d).twin = d.twin ∧ (latchGuard p latchWhy openWhy d).tmr = d.tmr ∧ (latchGuard p latchWhy openWhy d).alarms = d.alarms ∧ (latchGuard p latchWhy openWhy d).itms = d.itms ∧ (latchGuard p latchWhy openWhy d).sources = d.sources ∧ (latchGuard p latchWhy openWhy d).coll = d.coll ∧ (latchGuard p latchWhy openWhy d).host = d.host ∧ (latchGuard p latchWhy openWhy d).net = d.net ∧ (latchGuard p latchWhy openWhy d).upd = d.upd ∧ (latchGuard p latchWhy openWhy d).store = d.store ∧ (latchGuard p latchWhy openWhy d).jrn = d.jrn ∧ (latchGuard p latchWhy openWhy d).sys = d.sys ∧ (latchGuard p latchWhy openWhy d).loss = d.loss ∧ (latchGuard p latchWhy openWhy d).tap = d.tap ∧ (latchGuard p latchWhy openWhy d).ringMem = d.ringMem ∧ (latchGuard p latchWhy openWhy d).parcel = d.parcel ∧ (latchGuard p latchWhy openWhy d).freeCtr = d.freeCtr := by
  unfold latchGuard
  try dsimp only
  all_goals simp
@[simp] theorem clearGuard_frame (p : Fin 32) (d : Dev) : (clearGuard p d).cfg = d.cfg ∧ (clearGuard p d).cfgNew = d.cfgNew ∧ (clearGuard p d).ports = d.ports ∧ (clearGuard p d).pd = d.pd ∧ (clearGuard p d).loops = d.loops ∧ (clearGuard p d).host = d.host ∧ (clearGuard p d).store = d.store ∧ (clearGuard p d).sys = d.sys ∧ (clearGuard p d).loss = d.loss ∧ (clearGuard p d).tap = d.tap ∧ (clearGuard p d).ringMem = d.ringMem ∧ (clearGuard p d).parcel = d.parcel := by
  unfold clearGuard
  try dsimp only
  all_goals simp
@[simp] theorem stopPort_frame (p : Fin 32) (why : Nat) (d : Dev) : (stopPort p why d).cfg = d.cfg ∧ (stopPort p why d).cfgNew = d.cfgNew ∧ (stopPort p why d).ports = d.ports ∧ (stopPort p why d).chans = d.chans ∧ (stopPort p why d).groups = d.groups ∧ (stopPort p why d).convs = d.convs ∧ (stopPort p why d).feeds = d.feeds ∧ (stopPort p why d).posts = d.posts ∧ (stopPort p why d).ledger = d.ledger ∧ (stopPort p why d).twin = d.twin ∧ (stopPort p why d).tmr = d.tmr ∧ (stopPort p why d).alarms = d.alarms ∧ (stopPort p why d).itms = d.itms ∧ (stopPort p why d).sources = d.sources ∧ (stopPort p why d).coll = d.coll ∧ (stopPort p why d).host = d.host ∧ (stopPort p why d).net = d.net ∧ (stopPort p why d).upd = d.upd ∧ (stopPort p why d).store = d.store ∧ (stopPort p why d).jrn = d.jrn ∧ (stopPort p why d).sys = d.sys ∧ (stopPort p why d).loss = d.loss ∧ (stopPort p why d).tap = d.tap ∧ (stopPort p why d).ringMem = d.ringMem ∧ (stopPort p why d).parcel = d.parcel ∧ (stopPort p why d).freeCtr = d.freeCtr := by
  unfold stopPort
  try dsimp only
  all_goals simp
@[simp] theorem stopByHub_frame (p : Fin 32) (why : Nat) (d : Dev) : (stopByHub p why d).cfg = d.cfg ∧ (stopByHub p why d).cfgNew = d.cfgNew ∧ (stopByHub p why d).ports = d.ports ∧ (stopByHub p why d).chans = d.chans ∧ (stopByHub p why d).groups = d.groups ∧ (stopByHub p why d).convs = d.convs ∧ (stopByHub p why d).feeds = d.feeds ∧ (stopByHub p why d).posts = d.posts ∧ (stopByHub p why d).ledger = d.ledger ∧ (stopByHub p why d).twin = d.twin ∧ (stopByHub p why d).tmr = d.tmr ∧ (stopByHub p why d).alarms = d.alarms ∧ (stopByHub p why d).itms = d.itms ∧ (stopByHub p why d).sources = d.sources ∧ (stopByHub p why d).coll = d.coll ∧ (stopByHub p why d).host = d.host ∧ (stopByHub p why d).net = d.net ∧ (stopByHub p why d).upd = d.upd ∧ (stopByHub p why d).store = d.store ∧ (stopByHub p why d).jrn = d.jrn ∧ (stopByHub p why d).sys = d.sys ∧ (stopByHub p why d).tap = d.tap ∧ (stopByHub p why d).ringMem = d.ringMem ∧ (stopByHub p why d).parcel = d.parcel ∧ (stopByHub p why d).freeCtr = d.freeCtr := by
  unfold stopByHub
  try dsimp only
  repeat' split
  all_goals simp
@[simp] theorem pdAbandon_frame (p : Fin 32) (d : Dev) : (pdAbandon p d).cfg = d.cfg ∧ (pdAbandon p d).cfgNew = d.cfgNew ∧ (pdAbandon p d).guards = d.guards ∧ (pdAbandon p d).loops = d.loops ∧ (pdAbandon p d).phases = d.phases ∧ (pdAbandon p d).chans = d.chans ∧ (pdAbandon p d).groups = d.groups ∧ (pdAbandon p d).convs = d.convs ∧ (pdAbandon p d).feeds = d.feeds ∧ (pdAbandon p d).posts = d.posts ∧ (pdAbandon p d).ledger = d.ledger ∧ (pdAbandon p d).twin = d.twin ∧ (pdAbandon p d).tmr = d.tmr ∧ (pdAbandon p d).alarms = d.alarms ∧ (pdAbandon p d).itms = d.itms ∧ (pdAbandon p d).sources = d.sources ∧ (pdAbandon p d).coll = d.coll ∧ (pdAbandon p d).host = d.host ∧ (pdAbandon p d).net = d.net ∧ (pdAbandon p d).upd = d.upd ∧ (pdAbandon p d).store = d.store ∧ (pdAbandon p d).jrn = d.jrn ∧ (pdAbandon p d).sys = d.sys ∧ (pdAbandon p d).loss = d.loss ∧ (pdAbandon p d).tap = d.tap ∧ (pdAbandon p d).ringMem = d.ringMem ∧ (pdAbandon p d).parcel = d.parcel ∧ (pdAbandon p d).freeCtr = d.freeCtr := by
  unfold pdAbandon
  try dsimp only
  all_goals simp
@[simp] theorem leaveEpr_frame (p : Fin 32) (d : Dev) : (leaveEpr p d).cfg = d.cfg ∧ (leaveEpr p d).cfgNew = d.cfgNew ∧ (leaveEpr p d).guards = d.guards ∧ (leaveEpr p d).loops = d.loops ∧ (leaveEpr p d).phases = d.phases ∧ (leaveEpr p d).chans = d.chans ∧ (leaveEpr p d).groups = d.groups ∧ (leaveEpr p d).convs = d.convs ∧ (leaveEpr p d).feeds = d.feeds ∧ (leaveEpr p d).posts = d.posts ∧ (leaveEpr p d).ledger = d.ledger ∧ (leaveEpr p d).twin = d.twin ∧ (leaveEpr p d).tmr = d.tmr ∧ (leaveEpr p d).alarms = d.alarms ∧ (leaveEpr p d).itms = d.itms ∧ (leaveEpr p d).sources = d.sources ∧ (leaveEpr p d).coll = d.coll ∧ (leaveEpr p d).host = d.host ∧ (leaveEpr p d).net = d.net ∧ (leaveEpr p d).upd = d.upd ∧ (leaveEpr p d).store = d.store ∧ (leaveEpr p d).jrn = d.jrn ∧ (leaveEpr p d).sys = d.sys ∧ (leaveEpr p d).loss = d.loss ∧ (leaveEpr p d).tap = d.tap ∧ (leaveEpr p d).ringMem = d.ringMem ∧ (leaveEpr p d).parcel = d.parcel ∧ (leaveEpr p d).timers = d.timers ∧ (leaveEpr p d).freeCtr = d.freeCtr := by
  unfold leaveEpr
  try dsimp only
  repeat' split
  all_goals simp
@[simp] theorem clearContract_frame (p : Fin 32) (d : Dev) : (clearContract p d).cfg = d.cfg ∧ (clearContract p d).cfgNew = d.cfgNew ∧ (clearContract p d).guards = d.guards ∧ (clearContract p d).phases = d.phases ∧ (clearContract p d).chans = d.chans ∧ (clearContract p d).groups = d.groups ∧ (clearContract p d).convs = d.convs ∧ (clearContract p d).feeds = d.feeds ∧ (clearContract p d).posts = d.posts ∧ (clearContract p d).ledger = d.ledger ∧ (clearContract p d).twin = d.twin ∧ (clearContract p d).tmr = d.tmr ∧ (clearContract p d).alarms = d.alarms ∧ (clearContract p d).itms = d.itms ∧ (clearContract p d).sources = d.sources ∧ (clearContract p d).coll = d.coll ∧ (clearContract p d).host = d.host ∧ (clearContract p d).net = d.net ∧ (clearContract p d).upd = d.upd ∧ (clearContract p d).store = d.store ∧ (clearContract p d).jrn = d.jrn ∧ (clearContract p d).sys = d.sys ∧ (clearContract p d).loss = d.loss ∧ (clearContract p d).tap = d.tap ∧ (clearContract p d).ringMem = d.ringMem ∧ (clearContract p d).parcel = d.parcel ∧ (clearContract p d).freeCtr = d.freeCtr := by
  unfold clearContract
  try dsimp only
  all_goals simp
@[simp] theorem endContract_frame (p : Fin 32) (d : Dev) : (endContract p d).cfg = d.cfg ∧ (endContract p d).cfgNew = d.cfgNew ∧ (endContract p d).guards = d.guards ∧ (endContract p d).phases = d.phases ∧ (endContract p d).chans = d.chans ∧ (endContract p d).groups = d.groups ∧ (endContract p d).convs = d.convs ∧ (endContract p d).feeds = d.feeds ∧ (endContract p d).posts = d.posts ∧ (endContract p d).ledger = d.ledger ∧ (endContract p d).twin = d.twin ∧ (endContract p d).tmr = d.tmr ∧ (endContract p d).alarms = d.alarms ∧ (endContract p d).itms = d.itms ∧ (endContract p d).sources = d.sources ∧ (endContract p d).coll = d.coll ∧ (endContract p d).host = d.host ∧ (endContract p d).net = d.net ∧ (endContract p d).upd = d.upd ∧ (endContract p d).store = d.store ∧ (endContract p d).jrn = d.jrn ∧ (endContract p d).sys = d.sys ∧ (endContract p d).loss = d.loss ∧ (endContract p d).tap = d.tap ∧ (endContract p d).ringMem = d.ringMem ∧ (endContract p d).parcel = d.parcel ∧ (endContract p d).freeCtr = d.freeCtr := by
  unfold endContract
  try dsimp only
  all_goals simp
@[simp] theorem censusBegin_frame (n : Fin 64) (d : Dev) : (censusBegin n d).cfg = d.cfg ∧ (censusBegin n d).cfgNew = d.cfgNew ∧ (censusBegin n d).ports = d.ports ∧ (censusBegin n d).pd = d.pd ∧ (censusBegin n d).guards = d.guards ∧ (censusBegin n d).chans = d.chans ∧ (censusBegin n d).groups = d.groups ∧ (censusBegin n d).convs = d.convs ∧ (censusBegin n d).feeds = d.feeds ∧ (censusBegin n d).posts = d.posts ∧ (censusBegin n d).ledger = d.ledger ∧ (censusBegin n d).twin = d.twin ∧ (censusBegin n d).tmr = d.tmr ∧ (censusBegin n d).alarms = d.alarms ∧ (censusBegin n d).itms = d.itms ∧ (censusBegin n d).sources = d.sources ∧ (censusBegin n d).coll = d.coll ∧ (censusBegin n d).host = d.host ∧ (censusBegin n d).net = d.net ∧ (censusBegin n d).upd = d.upd ∧ (censusBegin n d).store = d.store ∧ (censusBegin n d).jrn = d.jrn ∧ (censusBegin n d).sys = d.sys ∧ (censusBegin n d).loss = d.loss ∧ (censusBegin n d).tap = d.tap ∧ (censusBegin n d).ringMem = d.ringMem ∧ (censusBegin n d).parcel = d.parcel ∧ (censusBegin n d).timers = d.timers := by
  unfold censusBegin
  try dsimp only
  repeat' split
  all_goals simp
@[simp] theorem censusNext_frame (e : Fin 4) (d : Dev) : (censusNext e d).cfg = d.cfg ∧ (censusNext e d).cfgNew = d.cfgNew ∧ (censusNext e d).ports = d.ports ∧ (censusNext e d).pd = d.pd ∧ (censusNext e d).guards = d.guards ∧ (censusNext e d).chans = d.chans ∧ (censusNext e d).groups = d.groups ∧ (censusNext e d).convs = d.convs ∧ (censusNext e d).feeds = d.feeds ∧ (censusNext e d).posts = d.posts ∧ (censusNext e d).ledger = d.ledger ∧ (censusNext e d).twin = d.twin ∧ (censusNext e d).tmr = d.tmr ∧ (censusNext e d).alarms = d.alarms ∧ (censusNext e d).itms = d.itms ∧ (censusNext e d).sources = d.sources ∧ (censusNext e d).coll = d.coll ∧ (censusNext e d).host = d.host ∧ (censusNext e d).net = d.net ∧ (censusNext e d).upd = d.upd ∧ (censusNext e d).store = d.store ∧ (censusNext e d).jrn = d.jrn ∧ (censusNext e d).sys = d.sys ∧ (censusNext e d).loss = d.loss ∧ (censusNext e d).tap = d.tap ∧ (censusNext e d).ringMem = d.ringMem ∧ (censusNext e d).parcel = d.parcel ∧ (censusNext e d).timers = d.timers := by
  unfold censusNext
  try dsimp only
  repeat' split
  all_goals simp
@[simp] theorem censusStart_frame (l : List (Fin 64)) (d : Dev) : (censusStart l d).cfg = d.cfg ∧ (censusStart l d).cfgNew = d.cfgNew ∧ (censusStart l d).ports = d.ports ∧ (censusStart l d).pd = d.pd ∧ (censusStart l d).guards = d.guards ∧ (censusStart l d).chans = d.chans ∧ (censusStart l d).groups = d.groups ∧ (censusStart l d).convs = d.convs ∧ (censusStart l d).feeds = d.feeds ∧ (censusStart l d).posts = d.posts ∧ (censusStart l d).ledger = d.ledger ∧ (censusStart l d).twin = d.twin ∧ (censusStart l d).tmr = d.tmr ∧ (censusStart l d).alarms = d.alarms ∧ (censusStart l d).itms = d.itms ∧ (censusStart l d).sources = d.sources ∧ (censusStart l d).coll = d.coll ∧ (censusStart l d).host = d.host ∧ (censusStart l d).net = d.net ∧ (censusStart l d).upd = d.upd ∧ (censusStart l d).store = d.store ∧ (censusStart l d).jrn = d.jrn ∧ (censusStart l d).sys = d.sys ∧ (censusStart l d).loss = d.loss ∧ (censusStart l d).tap = d.tap ∧ (censusStart l d).ringMem = d.ringMem ∧ (censusStart l d).parcel = d.parcel ∧ (censusStart l d).timers = d.timers := by
  unfold censusStart
  try dsimp only
  all_goals simp
@[simp] theorem updateCap_frame (p : Fin 32) (d : Dev) : (updateCap p d).cfg = d.cfg ∧ (updateCap p d).cfgNew = d.cfgNew ∧ (updateCap p d).guards = d.guards ∧ (updateCap p d).loops = d.loops ∧ (updateCap p d).phases = d.phases ∧ (updateCap p d).chans = d.chans ∧ (updateCap p d).groups = d.groups ∧ (updateCap p d).convs = d.convs ∧ (updateCap p d).feeds = d.feeds ∧ (updateCap p d).posts = d.posts ∧ (updateCap p d).ledger = d.ledger ∧ (updateCap p d).twin = d.twin ∧ (updateCap p d).tmr = d.tmr ∧ (updateCap p d).alarms = d.alarms ∧ (updateCap p d).itms = d.itms ∧ (updateCap p d).sources = d.sources ∧ (updateCap p d).coll = d.coll ∧ (updateCap p d).host = d.host ∧ (updateCap p d).net = d.net ∧ (updateCap p d).upd = d.upd ∧ (updateCap p d).store = d.store ∧ (updateCap p d).jrn = d.jrn ∧ (updateCap p d).sys = d.sys ∧ (updateCap p d).loss = d.loss ∧ (updateCap p d).tap = d.tap ∧ (updateCap p d).ringMem = d.ringMem ∧ (updateCap p d).parcel = d.parcel ∧ (updateCap p d).timers = d.timers ∧ (updateCap p d).freeCtr = d.freeCtr := by
  unfold updateCap
  try dsimp only
  all_goals simp
@[simp] theorem takePhases_frame (f : Fin 64 → Bool) (new : ImageCfg) (d : Dev) : (takePhases f new d).cfgNew = d.cfgNew ∧ (takePhases f new d).pd = d.pd ∧ (takePhases f new d).guards = d.guards ∧ (takePhases f new d).groups = d.groups ∧ (takePhases f new d).convs = d.convs ∧ (takePhases f new d).feeds = d.feeds ∧ (takePhases f new d).posts = d.posts ∧ (takePhases f new d).ledger = d.ledger ∧ (takePhases f new d).twin = d.twin ∧ (takePhases f new d).tmr = d.tmr ∧ (takePhases f new d).alarms = d.alarms ∧ (takePhases f new d).itms = d.itms ∧ (takePhases f new d).sources = d.sources ∧ (takePhases f new d).coll = d.coll ∧ (takePhases f new d).host = d.host ∧ (takePhases f new d).net = d.net ∧ (takePhases f new d).upd = d.upd ∧ (takePhases f new d).store = d.store ∧ (takePhases f new d).sys = d.sys ∧ (takePhases f new d).loss = d.loss ∧ (takePhases f new d).tap = d.tap ∧ (takePhases f new d).ringMem = d.ringMem ∧ (takePhases f new d).parcel = d.parcel := by
  unfold takePhases
  try dsimp only
  all_goals simp
@[simp] theorem takeDeferred_frame (p : Fin 32) (d : Dev) : (takeDeferred p d).cfgNew = d.cfgNew ∧ (takeDeferred p d).guards = d.guards ∧ (takeDeferred p d).groups = d.groups ∧ (takeDeferred p d).convs = d.convs ∧ (takeDeferred p d).feeds = d.feeds ∧ (takeDeferred p d).posts = d.posts ∧ (takeDeferred p d).ledger = d.ledger ∧ (takeDeferred p d).twin = d.twin ∧ (takeDeferred p d).tmr = d.tmr ∧ (takeDeferred p d).alarms = d.alarms ∧ (takeDeferred p d).itms = d.itms ∧ (takeDeferred p d).sources = d.sources ∧ (takeDeferred p d).coll = d.coll ∧ (takeDeferred p d).host = d.host ∧ (takeDeferred p d).net = d.net ∧ (takeDeferred p d).upd = d.upd ∧ (takeDeferred p d).sys = d.sys ∧ (takeDeferred p d).loss = d.loss ∧ (takeDeferred p d).tap = d.tap ∧ (takeDeferred p d).ringMem = d.ringMem ∧ (takeDeferred p d).parcel = d.parcel := by
  unfold takeDeferred
  try dsimp only
  repeat' split
  all_goals simp
@[simp] theorem journalLeave_frame (p : Fin 32) (d : Dev) : (journalLeave p d).cfg = d.cfg ∧ (journalLeave p d).cfgNew = d.cfgNew ∧ (journalLeave p d).ports = d.ports ∧ (journalLeave p d).pd = d.pd ∧ (journalLeave p d).guards = d.guards ∧ (journalLeave p d).loops = d.loops ∧ (journalLeave p d).phases = d.phases ∧ (journalLeave p d).chans = d.chans ∧ (journalLeave p d).groups = d.groups ∧ (journalLeave p d).convs = d.convs ∧ (journalLeave p d).feeds = d.feeds ∧ (journalLeave p d).posts = d.posts ∧ (journalLeave p d).ledger = d.ledger ∧ (journalLeave p d).twin = d.twin ∧ (journalLeave p d).tmr = d.tmr ∧ (journalLeave p d).alarms = d.alarms ∧ (journalLeave p d).itms = d.itms ∧ (journalLeave p d).sources = d.sources ∧ (journalLeave p d).coll = d.coll ∧ (journalLeave p d).net = d.net ∧ (journalLeave p d).upd = d.upd ∧ (journalLeave p d).store = d.store ∧ (journalLeave p d).sys = d.sys ∧ (journalLeave p d).loss = d.loss ∧ (journalLeave p d).tap = d.tap ∧ (journalLeave p d).parcel = d.parcel ∧ (journalLeave p d).freeCtr = d.freeCtr ∧ (journalLeave p d).host.event = d.host.event ∧ (journalLeave p d).host.irqen = d.host.irqen ∧ (journalLeave p d).host.owner = d.host.owner ∧ (journalLeave p d).host.successor = d.host.successor ∧ (journalLeave p d).host.window = d.host.window ∧ (journalLeave p d).host.changes = d.host.changes ∧ (journalLeave p d).host.leaseEnd = d.host.leaseEnd ∧ (journalLeave p d).host.hostLoaded = d.host.hostLoaded ∧ (journalLeave p d).host.irqA = d.host.irqA ∧ (journalLeave p d).host.irqB = d.host.irqB ∧ (journalLeave p d).host.spiDummy = d.host.spiDummy ∧ (journalLeave p d).host.spiCount = d.host.spiCount ∧ (journalLeave p d).host.spiCrc = d.host.spiCrc ∧ (journalLeave p d).host.spiAbort = d.host.spiAbort ∧ (journalLeave p d).host.baud = d.host.baud ∧ (journalLeave p d).host.uartFrames = d.host.uartFrames ∧ (journalLeave p d).host.uartCrc = d.host.uartCrc ∧ (journalLeave p d).host.uartDrops = d.host.uartDrops ∧ (journalLeave p d).host.jobs = d.host.jobs ∧ (journalLeave p d).host.masters = d.host.masters ∧ (journalLeave p d).host.kept = d.host.kept := by
  unfold journalLeave
  try dsimp only
  repeat' split
  all_goals simp
@[simp] theorem dropAttach_frame (p : Fin 32) (d : Dev) : (dropAttach p d).cfgNew = d.cfgNew ∧ (dropAttach p d).guards = d.guards ∧ (dropAttach p d).groups = d.groups ∧ (dropAttach p d).convs = d.convs ∧ (dropAttach p d).feeds = d.feeds ∧ (dropAttach p d).posts = d.posts ∧ (dropAttach p d).ledger = d.ledger ∧ (dropAttach p d).twin = d.twin ∧ (dropAttach p d).tmr = d.tmr ∧ (dropAttach p d).alarms = d.alarms ∧ (dropAttach p d).itms = d.itms ∧ (dropAttach p d).sources = d.sources ∧ (dropAttach p d).coll = d.coll ∧ (dropAttach p d).net = d.net ∧ (dropAttach p d).upd = d.upd ∧ (dropAttach p d).sys = d.sys ∧ (dropAttach p d).tap = d.tap ∧ (dropAttach p d).parcel = d.parcel ∧ (dropAttach p d).host.event = d.host.event ∧ (dropAttach p d).host.irqen = d.host.irqen ∧ (dropAttach p d).host.owner = d.host.owner ∧ (dropAttach p d).host.successor = d.host.successor ∧ (dropAttach p d).host.window = d.host.window ∧ (dropAttach p d).host.changes = d.host.changes ∧ (dropAttach p d).host.leaseEnd = d.host.leaseEnd ∧ (dropAttach p d).host.hostLoaded = d.host.hostLoaded ∧ (dropAttach p d).host.irqA = d.host.irqA ∧ (dropAttach p d).host.irqB = d.host.irqB ∧ (dropAttach p d).host.spiDummy = d.host.spiDummy ∧ (dropAttach p d).host.spiCount = d.host.spiCount ∧ (dropAttach p d).host.spiCrc = d.host.spiCrc ∧ (dropAttach p d).host.spiAbort = d.host.spiAbort ∧ (dropAttach p d).host.baud = d.host.baud ∧ (dropAttach p d).host.uartFrames = d.host.uartFrames ∧ (dropAttach p d).host.uartCrc = d.host.uartCrc ∧ (dropAttach p d).host.uartDrops = d.host.uartDrops ∧ (dropAttach p d).host.jobs = d.host.jobs ∧ (dropAttach p d).host.masters = d.host.masters ∧ (dropAttach p d).host.kept = d.host.kept := by
  unfold dropAttach
  try dsimp only
  repeat' split
  all_goals simp
@[simp] theorem setTc_frame (p : Fin 32) (t : TcState) (d : Dev) : (setTc p t d).cfg = d.cfg ∧ (setTc p t d).cfgNew = d.cfgNew ∧ (setTc p t d).pd = d.pd ∧ (setTc p t d).guards = d.guards ∧ (setTc p t d).loops = d.loops ∧ (setTc p t d).phases = d.phases ∧ (setTc p t d).chans = d.chans ∧ (setTc p t d).groups = d.groups ∧ (setTc p t d).convs = d.convs ∧ (setTc p t d).feeds = d.feeds ∧ (setTc p t d).posts = d.posts ∧ (setTc p t d).ledger = d.ledger ∧ (setTc p t d).twin = d.twin ∧ (setTc p t d).tmr = d.tmr ∧ (setTc p t d).alarms = d.alarms ∧ (setTc p t d).itms = d.itms ∧ (setTc p t d).sources = d.sources ∧ (setTc p t d).coll = d.coll ∧ (setTc p t d).host = d.host ∧ (setTc p t d).net = d.net ∧ (setTc p t d).upd = d.upd ∧ (setTc p t d).store = d.store ∧ (setTc p t d).jrn = d.jrn ∧ (setTc p t d).sys = d.sys ∧ (setTc p t d).loss = d.loss ∧ (setTc p t d).tap = d.tap ∧ (setTc p t d).ringMem = d.ringMem ∧ (setTc p t d).parcel = d.parcel ∧ (setTc p t d).timers = d.timers ∧ (setTc p t d).freeCtr = d.freeCtr := by
  unfold setTc
  try dsimp only
  all_goals simp
@[simp] theorem setRetired_frame (m : BitVec 64) (d : Dev) : (setRetired m d).cfg = d.cfg ∧ (setRetired m d).cfgNew = d.cfgNew ∧ (setRetired m d).ports = d.ports ∧ (setRetired m d).pd = d.pd ∧ (setRetired m d).guards = d.guards ∧ (setRetired m d).loops = d.loops ∧ (setRetired m d).phases = d.phases ∧ (setRetired m d).chans = d.chans ∧ (setRetired m d).groups = d.groups ∧ (setRetired m d).convs = d.convs ∧ (setRetired m d).feeds = d.feeds ∧ (setRetired m d).posts = d.posts ∧ (setRetired m d).ledger = d.ledger ∧ (setRetired m d).twin = d.twin ∧ (setRetired m d).tmr = d.tmr ∧ (setRetired m d).alarms = d.alarms ∧ (setRetired m d).itms = d.itms ∧ (setRetired m d).sources = d.sources ∧ (setRetired m d).coll = d.coll ∧ (setRetired m d).host = d.host ∧ (setRetired m d).net = d.net ∧ (setRetired m d).upd = d.upd ∧ (setRetired m d).store = d.store ∧ (setRetired m d).jrn = d.jrn ∧ (setRetired m d).loss = d.loss ∧ (setRetired m d).tap = d.tap ∧ (setRetired m d).ringMem = d.ringMem ∧ (setRetired m d).parcel = d.parcel ∧ (setRetired m d).timers = d.timers ∧ (setRetired m d).freeCtr = d.freeCtr := by
  unfold setRetired
  try dsimp only
  repeat' split
  all_goals simp
@[simp] theorem retirePhase_frame (n : Fin 64) (why : Nat) (d : Dev) : (retirePhase n why d).cfgNew = d.cfgNew ∧ (retirePhase n why d).groups = d.groups ∧ (retirePhase n why d).convs = d.convs ∧ (retirePhase n why d).posts = d.posts ∧ (retirePhase n why d).ledger = d.ledger ∧ (retirePhase n why d).twin = d.twin ∧ (retirePhase n why d).tmr = d.tmr ∧ (retirePhase n why d).alarms = d.alarms ∧ (retirePhase n why d).itms = d.itms ∧ (retirePhase n why d).sources = d.sources ∧ (retirePhase n why d).net = d.net ∧ (retirePhase n why d).upd = d.upd ∧ (retirePhase n why d).store = d.store ∧ (retirePhase n why d).loss = d.loss ∧ (retirePhase n why d).tap = d.tap ∧ (retirePhase n why d).parcel = d.parcel ∧ (retirePhase n why d).host.jobs = d.host.jobs := by
  unfold retirePhase
  try dsimp only
  repeat' split
  all_goals simp
@[simp] theorem markPhases_frame (p : Fin 32) (i : Nat) (f : Phase → Phase) (d : Dev) : (markPhases p i f d).cfg = d.cfg ∧ (markPhases p i f d).cfgNew = d.cfgNew ∧ (markPhases p i f d).ports = d.ports ∧ (markPhases p i f d).pd = d.pd ∧ (markPhases p i f d).guards = d.guards ∧ (markPhases p i f d).loops = d.loops ∧ (markPhases p i f d).chans = d.chans ∧ (markPhases p i f d).groups = d.groups ∧ (markPhases p i f d).convs = d.convs ∧ (markPhases p i f d).feeds = d.feeds ∧ (markPhases p i f d).posts = d.posts ∧ (markPhases p i f d).ledger = d.ledger ∧ (markPhases p i f d).twin = d.twin ∧ (markPhases p i f d).tmr = d.tmr ∧ (markPhases p i f d).alarms = d.alarms ∧ (markPhases p i f d).itms = d.itms ∧ (markPhases p i f d).sources = d.sources ∧ (markPhases p i f d).coll = d.coll ∧ (markPhases p i f d).host = d.host ∧ (markPhases p i f d).net = d.net ∧ (markPhases p i f d).upd = d.upd ∧ (markPhases p i f d).store = d.store ∧ (markPhases p i f d).jrn = d.jrn ∧ (markPhases p i f d).sys = d.sys ∧ (markPhases p i f d).loss = d.loss ∧ (markPhases p i f d).tap = d.tap ∧ (markPhases p i f d).ringMem = d.ringMem ∧ (markPhases p i f d).parcel = d.parcel ∧ (markPhases p i f d).timers = d.timers ∧ (markPhases p i f d).freeCtr = d.freeCtr := by
  unfold markPhases
  try dsimp only
  all_goals simp
@[simp] theorem gateOff_frame (f : Fin 4) (d : Dev) : (gateOff f d).cfg = d.cfg ∧ (gateOff f d).cfgNew = d.cfgNew ∧ (gateOff f d).ports = d.ports ∧ (gateOff f d).pd = d.pd ∧ (gateOff f d).guards = d.guards ∧ (gateOff f d).loops = d.loops ∧ (gateOff f d).phases = d.phases ∧ (gateOff f d).chans = d.chans ∧ (gateOff f d).groups = d.groups ∧ (gateOff f d).convs = d.convs ∧ (gateOff f d).posts = d.posts ∧ (gateOff f d).ledger = d.ledger ∧ (gateOff f d).twin = d.twin ∧ (gateOff f d).tmr = d.tmr ∧ (gateOff f d).alarms = d.alarms ∧ (gateOff f d).itms = d.itms ∧ (gateOff f d).sources = d.sources ∧ (gateOff f d).coll = d.coll ∧ (gateOff f d).host = d.host ∧ (gateOff f d).net = d.net ∧ (gateOff f d).upd = d.upd ∧ (gateOff f d).store = d.store ∧ (gateOff f d).jrn = d.jrn ∧ (gateOff f d).sys = d.sys ∧ (gateOff f d).loss = d.loss ∧ (gateOff f d).tap = d.tap ∧ (gateOff f d).ringMem = d.ringMem ∧ (gateOff f d).parcel = d.parcel ∧ (gateOff f d).freeCtr = d.freeCtr := by
  unfold gateOff
  try dsimp only
  all_goals simp
@[simp] theorem latchFeed_frame (f : Fin 4) (why : Nat) (d : Dev) : (latchFeed f why d).cfg = d.cfg ∧ (latchFeed f why d).ports = d.ports ∧ (latchFeed f why d).guards = d.guards ∧ (latchFeed f why d).loops = d.loops ∧ (latchFeed f why d).chans = d.chans ∧ (latchFeed f why d).sources = d.sources ∧ (latchFeed f why d).store = d.store ∧ (latchFeed f why d).sys = d.sys ∧ (latchFeed f why d).loss = d.loss ∧ (latchFeed f why d).tap = d.tap ∧ (latchFeed f why d).ringMem = d.ringMem ∧ (latchFeed f why d).parcel = d.parcel := by
  unfold latchFeed
  try dsimp only
  all_goals simp
@[simp] theorem feedToWait_frame (f : Fin 4) (d : Dev) : (feedToWait f d).cfg = d.cfg ∧ (feedToWait f d).cfgNew = d.cfgNew ∧ (feedToWait f d).ports = d.ports ∧ (feedToWait f d).pd = d.pd ∧ (feedToWait f d).guards = d.guards ∧ (feedToWait f d).loops = d.loops ∧ (feedToWait f d).phases = d.phases ∧ (feedToWait f d).chans = d.chans ∧ (feedToWait f d).groups = d.groups ∧ (feedToWait f d).convs = d.convs ∧ (feedToWait f d).posts = d.posts ∧ (feedToWait f d).ledger = d.ledger ∧ (feedToWait f d).twin = d.twin ∧ (feedToWait f d).tmr = d.tmr ∧ (feedToWait f d).alarms = d.alarms ∧ (feedToWait f d).itms = d.itms ∧ (feedToWait f d).sources = d.sources ∧ (feedToWait f d).coll = d.coll ∧ (feedToWait f d).host = d.host ∧ (feedToWait f d).net = d.net ∧ (feedToWait f d).upd = d.upd ∧ (feedToWait f d).store = d.store ∧ (feedToWait f d).jrn = d.jrn ∧ (feedToWait f d).sys = d.sys ∧ (feedToWait f d).loss = d.loss ∧ (feedToWait f d).tap = d.tap ∧ (feedToWait f d).ringMem = d.ringMem ∧ (feedToWait f d).parcel = d.parcel ∧ (feedToWait f d).freeCtr = d.freeCtr := by
  unfold feedToWait
  try dsimp only
  all_goals simp
@[simp] theorem feedTryDelay_frame (f : Fin 4) (d : Dev) : (feedTryDelay f d).cfg = d.cfg ∧ (feedTryDelay f d).cfgNew = d.cfgNew ∧ (feedTryDelay f d).ports = d.ports ∧ (feedTryDelay f d).pd = d.pd ∧ (feedTryDelay f d).guards = d.guards ∧ (feedTryDelay f d).loops = d.loops ∧ (feedTryDelay f d).phases = d.phases ∧ (feedTryDelay f d).chans = d.chans ∧ (feedTryDelay f d).groups = d.groups ∧ (feedTryDelay f d).convs = d.convs ∧ (feedTryDelay f d).posts = d.posts ∧ (feedTryDelay f d).ledger = d.ledger ∧ (feedTryDelay f d).twin = d.twin ∧ (feedTryDelay f d).tmr = d.tmr ∧ (feedTryDelay f d).alarms = d.alarms ∧ (feedTryDelay f d).itms = d.itms ∧ (feedTryDelay f d).sources = d.sources ∧ (feedTryDelay f d).coll = d.coll ∧ (feedTryDelay f d).host = d.host ∧ (feedTryDelay f d).net = d.net ∧ (feedTryDelay f d).upd = d.upd ∧ (feedTryDelay f d).store = d.store ∧ (feedTryDelay f d).jrn = d.jrn ∧ (feedTryDelay f d).sys = d.sys ∧ (feedTryDelay f d).loss = d.loss ∧ (feedTryDelay f d).tap = d.tap ∧ (feedTryDelay f d).ringMem = d.ringMem ∧ (feedTryDelay f d).parcel = d.parcel ∧ (feedTryDelay f d).freeCtr = d.freeCtr := by
  unfold feedTryDelay
  try dsimp only
  repeat' split
  all_goals simp
@[simp] theorem pdSend_frame (p : Fin 32) (sop : Fin 3) (kind : PdKind) (data : List Word) (d : Dev) : (pdSend p sop kind data d).cfg = d.cfg ∧ (pdSend p sop kind data d).cfgNew = d.cfgNew ∧ (pdSend p sop kind data d).ports = d.ports ∧ (pdSend p sop kind data d).guards = d.guards ∧ (pdSend p sop kind data d).loops = d.loops ∧ (pdSend p sop kind data d).phases = d.phases ∧ (pdSend p sop kind data d).chans = d.chans ∧ (pdSend p sop kind data d).groups = d.groups ∧ (pdSend p sop kind data d).convs = d.convs ∧ (pdSend p sop kind data d).feeds = d.feeds ∧ (pdSend p sop kind data d).posts = d.posts ∧ (pdSend p sop kind data d).ledger = d.ledger ∧ (pdSend p sop kind data d).twin = d.twin ∧ (pdSend p sop kind data d).tmr = d.tmr ∧ (pdSend p sop kind data d).alarms = d.alarms ∧ (pdSend p sop kind data d).itms = d.itms ∧ (pdSend p sop kind data d).sources = d.sources ∧ (pdSend p sop kind data d).coll = d.coll ∧ (pdSend p sop kind data d).host = d.host ∧ (pdSend p sop kind data d).net = d.net ∧ (pdSend p sop kind data d).upd = d.upd ∧ (pdSend p sop kind data d).store = d.store ∧ (pdSend p sop kind data d).jrn = d.jrn ∧ (pdSend p sop kind data d).sys = d.sys ∧ (pdSend p sop kind data d).loss = d.loss ∧ (pdSend p sop kind data d).tap = d.tap ∧ (pdSend p sop kind data d).ringMem = d.ringMem ∧ (pdSend p sop kind data d).parcel = d.parcel ∧ (pdSend p sop kind data d).freeCtr = d.freeCtr := by
  unfold pdSend
  try dsimp only
  repeat' split
  all_goals simp
@[simp] theorem notSupported_frame (p : Fin 32) (control : Bool) (d : Dev) : (notSupported p control d).store = d.store ∧ (notSupported p control d).loss = d.loss ∧ (notSupported p control d).tap = d.tap ∧ (notSupported p control d).ringMem = d.ringMem ∧ (notSupported p control d).parcel = d.parcel := by
  unfold notSupported
  try dsimp only
  repeat' split
  all_goals simp
@[simp] theorem presentTx_frame (p : Fin 32) (d : Dev) : (presentTx p d).cfg = d.cfg ∧ (presentTx p d).cfgNew = d.cfgNew ∧ (presentTx p d).pd = d.pd ∧ (presentTx p d).loops = d.loops ∧ (presentTx p d).phases = d.phases ∧ (presentTx p d).groups = d.groups ∧ (presentTx p d).convs = d.convs ∧ (presentTx p d).feeds = d.feeds ∧ (presentTx p d).posts = d.posts ∧ (presentTx p d).ledger = d.ledger ∧ (presentTx p d).twin = d.twin ∧ (presentTx p d).tmr = d.tmr ∧ (presentTx p d).alarms = d.alarms ∧ (presentTx p d).itms = d.itms ∧ (presentTx p d).sources = d.sources ∧ (presentTx p d).coll = d.coll ∧ (presentTx p d).host = d.host ∧ (presentTx p d).net = d.net ∧ (presentTx p d).upd = d.upd ∧ (presentTx p d).store = d.store ∧ (presentTx p d).jrn = d.jrn ∧ (presentTx p d).sys = d.sys ∧ (presentTx p d).loss = d.loss ∧ (presentTx p d).tap = d.tap ∧ (presentTx p d).ringMem = d.ringMem ∧ (presentTx p d).parcel = d.parcel ∧ (presentTx p d).freeCtr = d.freeCtr := by
  unfold presentTx
  try dsimp only
  repeat' split
  all_goals simp
@[simp] theorem sendCapsNow_frame (p : Fin 32) (d : Dev) : (sendCapsNow p d).cfg = d.cfg ∧ (sendCapsNow p d).cfgNew = d.cfgNew ∧ (sendCapsNow p d).guards = d.guards ∧ (sendCapsNow p d).loops = d.loops ∧ (sendCapsNow p d).phases = d.phases ∧ (sendCapsNow p d).chans = d.chans ∧ (sendCapsNow p d).groups = d.groups ∧ (sendCapsNow p d).convs = d.convs ∧ (sendCapsNow p d).feeds = d.feeds ∧ (sendCapsNow p d).posts = d.posts ∧ (sendCapsNow p d).ledger = d.ledger ∧ (sendCapsNow p d).twin = d.twin ∧ (sendCapsNow p d).tmr = d.tmr ∧ (sendCapsNow p d).alarms = d.alarms ∧ (sendCapsNow p d).itms = d.itms ∧ (sendCapsNow p d).sources = d.sources ∧ (sendCapsNow p d).coll = d.coll ∧ (sendCapsNow p d).host = d.host ∧ (sendCapsNow p d).net = d.net ∧ (sendCapsNow p d).upd = d.upd ∧ (sendCapsNow p d).store = d.store ∧ (sendCapsNow p d).jrn = d.jrn ∧ (sendCapsNow p d).sys = d.sys ∧ (sendCapsNow p d).loss = d.loss ∧ (sendCapsNow p d).tap = d.tap ∧ (sendCapsNow p d).ringMem = d.ringMem ∧ (sendCapsNow p d).parcel = d.parcel ∧ (sendCapsNow p d).freeCtr = d.freeCtr := by
  unfold sendCapsNow
  try dsimp only
  repeat' split
  all_goals simp
@[simp] theorem offerCaps_frame (p : Fin 32) (d : Dev) : (offerCaps p d).cfg = d.cfg ∧ (offerCaps p d).cfgNew = d.cfgNew ∧ (offerCaps p d).loops = d.loops ∧ (offerCaps p d).phases = d.phases ∧ (offerCaps p d).groups = d.groups ∧ (offerCaps p d).convs = d.convs ∧ (offerCaps p d).feeds = d.feeds ∧ (offerCaps p d).posts = d.posts ∧ (offerCaps p d).ledger = d.ledger ∧ (offerCaps p d).twin = d.twin ∧ (offerCaps p d).tmr = d.tmr ∧ (offerCaps p d).alarms = d.alarms ∧ (offerCaps p d).itms = d.itms ∧ (offerCaps p d).sources = d.sources ∧ (offerCaps p d).coll = d.coll ∧ (offerCaps p d).host = d.host ∧ (offerCaps p d).net = d.net ∧ (offerCaps p d).upd = d.upd ∧ (offerCaps p d).store = d.store ∧ (offerCaps p d).jrn = d.jrn ∧ (offerCaps p d).sys = d.sys ∧ (offerCaps p d).loss = d.loss ∧ (offerCaps p d).tap = d.tap ∧ (offerCaps p d).ringMem = d.ringMem ∧ (offerCaps p d).parcel = d.parcel ∧ (offerCaps p d).freeCtr = d.freeCtr := by
  unfold offerCaps
  try dsimp only
  repeat' split
  all_goals simp
@[simp] theorem amsEnd_frame (p : Fin 32) (d : Dev) : (amsEnd p d).cfg = d.cfg ∧ (amsEnd p d).cfgNew = d.cfgNew ∧ (amsEnd p d).loops = d.loops ∧ (amsEnd p d).phases = d.phases ∧ (amsEnd p d).groups = d.groups ∧ (amsEnd p d).convs = d.convs ∧ (amsEnd p d).feeds = d.feeds ∧ (amsEnd p d).posts = d.posts ∧ (amsEnd p d).ledger = d.ledger ∧ (amsEnd p d).twin = d.twin ∧ (amsEnd p d).tmr = d.tmr ∧ (amsEnd p d).alarms = d.alarms ∧ (amsEnd p d).itms = d.itms ∧ (amsEnd p d).sources = d.sources ∧ (amsEnd p d).coll = d.coll ∧ (amsEnd p d).host = d.host ∧ (amsEnd p d).net = d.net ∧ (amsEnd p d).upd = d.upd ∧ (amsEnd p d).store = d.store ∧ (amsEnd p d).jrn = d.jrn ∧ (amsEnd p d).sys = d.sys ∧ (amsEnd p d).loss = d.loss ∧ (amsEnd p d).tap = d.tap ∧ (amsEnd p d).ringMem = d.ringMem ∧ (amsEnd p d).parcel = d.parcel ∧ (amsEnd p d).freeCtr = d.freeCtr := by
  unfold amsEnd
  try dsimp only
  repeat' split
  all_goals simp
@[simp] theorem offerIdle_frame (p : Fin 32) (d : Dev) : (offerIdle p d).cfg = d.cfg ∧ (offerIdle p d).cfgNew = d.cfgNew ∧ (offerIdle p d).loops = d.loops ∧ (offerIdle p d).phases = d.phases ∧ (offerIdle p d).groups = d.groups ∧ (offerIdle p d).convs = d.convs ∧ (offerIdle p d).feeds = d.feeds ∧ (offerIdle p d).posts = d.posts ∧ (offerIdle p d).ledger = d.ledger ∧ (offerIdle p d).twin = d.twin ∧ (offerIdle p d).tmr = d.tmr ∧ (offerIdle p d).alarms = d.alarms ∧ (offerIdle p d).itms = d.itms ∧ (offerIdle p d).sources = d.sources ∧ (offerIdle p d).coll = d.coll ∧ (offerIdle p d).host = d.host ∧ (offerIdle p d).net = d.net ∧ (offerIdle p d).upd = d.upd ∧ (offerIdle p d).store = d.store ∧ (offerIdle p d).jrn = d.jrn ∧ (offerIdle p d).sys = d.sys ∧ (offerIdle p d).loss = d.loss ∧ (offerIdle p d).tap = d.tap ∧ (offerIdle p d).ringMem = d.ringMem ∧ (offerIdle p d).parcel = d.parcel ∧ (offerIdle p d).freeCtr = d.freeCtr := by
  unfold offerIdle
  try dsimp only
  repeat' split
  all_goals simp
@[simp] theorem firstOffer_frame (p : Fin 32) (d : Dev) : (firstOffer p d).cfg = d.cfg ∧ (firstOffer p d).cfgNew = d.cfgNew ∧ (firstOffer p d).guards = d.guards ∧ (firstOffer p d).loops = d.loops ∧ (firstOffer p d).phases = d.phases ∧ (firstOffer p d).chans = d.chans ∧ (firstOffer p d).groups = d.groups ∧ (firstOffer p d).convs = d.convs ∧ (firstOffer p d).feeds = d.feeds ∧ (firstOffer p d).posts = d.posts ∧ (firstOffer p d).ledger = d.ledger ∧ (firstOffer p d).twin = d.twin ∧ (firstOffer p d).tmr = d.tmr ∧ (firstOffer p d).alarms = d.alarms ∧ (firstOffer p d).itms = d.itms ∧ (firstOffer p d).sources = d.sources ∧ (firstOffer p d).coll = d.coll ∧ (firstOffer p d).host = d.host ∧ (firstOffer p d).net = d.net ∧ (firstOffer p d).upd = d.upd ∧ (firstOffer p d).store = d.store ∧ (firstOffer p d).jrn = d.jrn ∧ (firstOffer p d).sys = d.sys ∧ (firstOffer p d).loss = d.loss ∧ (firstOffer p d).tap = d.tap ∧ (firstOffer p d).ringMem = d.ringMem ∧ (firstOffer p d).parcel = d.parcel ∧ (firstOffer p d).freeCtr = d.freeCtr := by
  unfold firstOffer
  try dsimp only
  repeat' split
  all_goals simp
@[simp] theorem handFollow_frame (old : Port) (oldOffers : List CutOffer) (p : Fin 32) (asked : Bool) (d : Dev) : (handFollow old oldOffers p asked d).cfg = d.cfg ∧ (handFollow old oldOffers p asked d).cfgNew = d.cfgNew ∧ (handFollow old oldOffers p asked d).loops = d.loops ∧ (handFollow old oldOffers p asked d).phases = d.phases ∧ (handFollow old oldOffers p asked d).groups = d.groups ∧ (handFollow old oldOffers p asked d).convs = d.convs ∧ (handFollow old oldOffers p asked d).feeds = d.feeds ∧ (handFollow old oldOffers p asked d).posts = d.posts ∧ (handFollow old oldOffers p asked d).ledger = d.ledger ∧ (handFollow old oldOffers p asked d).twin = d.twin ∧ (handFollow old oldOffers p asked d).tmr = d.tmr ∧ (handFollow old oldOffers p asked d).alarms = d.alarms ∧ (handFollow old oldOffers p asked d).itms = d.itms ∧ (handFollow old oldOffers p asked d).sources = d.sources ∧ (handFollow old oldOffers p asked d).coll = d.coll ∧ (handFollow old oldOffers p asked d).host = d.host ∧ (handFollow old oldOffers p asked d).net = d.net ∧ (handFollow old oldOffers p asked d).upd = d.upd ∧ (handFollow old oldOffers p asked d).store = d.store ∧ (handFollow old oldOffers p asked d).jrn = d.jrn ∧ (handFollow old oldOffers p asked d).sys = d.sys ∧ (handFollow old oldOffers p asked d).loss = d.loss ∧ (handFollow old oldOffers p asked d).tap = d.tap ∧ (handFollow old oldOffers p asked d).ringMem = d.ringMem ∧ (handFollow old oldOffers p asked d).parcel = d.parcel ∧ (handFollow old oldOffers p asked d).freeCtr = d.freeCtr := by
  unfold handFollow
  try dsimp only
  repeat' split
  all_goals simp
@[simp] theorem takeTarget_frame (p : Fin 32) (t : Nat) (asked : Bool) (d : Dev) : (takeTarget p t asked d).cfg = d.cfg ∧ (takeTarget p t asked d).cfgNew = d.cfgNew ∧ (takeTarget p t asked d).loops = d.loops ∧ (takeTarget p t asked d).phases = d.phases ∧ (takeTarget p t asked d).groups = d.groups ∧ (takeTarget p t asked d).convs = d.convs ∧ (takeTarget p t asked d).feeds = d.feeds ∧ (takeTarget p t asked d).posts = d.posts ∧ (takeTarget p t asked d).ledger = d.ledger ∧ (takeTarget p t asked d).twin = d.twin ∧ (takeTarget p t asked d).tmr = d.tmr ∧ (takeTarget p t asked d).alarms = d.alarms ∧ (takeTarget p t asked d).itms = d.itms ∧ (takeTarget p t asked d).sources = d.sources ∧ (takeTarget p t asked d).coll = d.coll ∧ (takeTarget p t asked d).host = d.host ∧ (takeTarget p t asked d).net = d.net ∧ (takeTarget p t asked d).upd = d.upd ∧ (takeTarget p t asked d).store = d.store ∧ (takeTarget p t asked d).jrn = d.jrn ∧ (takeTarget p t asked d).sys = d.sys ∧ (takeTarget p t asked d).loss = d.loss ∧ (takeTarget p t asked d).tap = d.tap ∧ (takeTarget p t asked d).ringMem = d.ringMem ∧ (takeTarget p t asked d).parcel = d.parcel ∧ (takeTarget p t asked d).freeCtr = d.freeCtr := by
  unfold takeTarget
  try dsimp only
  repeat' split
  all_goals simp
@[simp] theorem divide_frame (d : Dev) : (divide d).cfg = d.cfg ∧ (divide d).cfgNew = d.cfgNew ∧ (divide d).loops = d.loops ∧ (divide d).phases = d.phases ∧ (divide d).groups = d.groups ∧ (divide d).convs = d.convs ∧ (divide d).feeds = d.feeds ∧ (divide d).posts = d.posts ∧ (divide d).ledger = d.ledger ∧ (divide d).twin = d.twin ∧ (divide d).tmr = d.tmr ∧ (divide d).alarms = d.alarms ∧ (divide d).itms = d.itms ∧ (divide d).sources = d.sources ∧ (divide d).coll = d.coll ∧ (divide d).host = d.host ∧ (divide d).net = d.net ∧ (divide d).upd = d.upd ∧ (divide d).store = d.store ∧ (divide d).jrn = d.jrn ∧ (divide d).sys = d.sys ∧ (divide d).loss = d.loss ∧ (divide d).tap = d.tap ∧ (divide d).ringMem = d.ringMem ∧ (divide d).parcel = d.parcel ∧ (divide d).freeCtr = d.freeCtr := by
  unfold divide
  try dsimp only
  repeat' split
  all_goals simp
@[simp] theorem divideFor_frame (p : Fin 32) (d : Dev) : (divideFor p d).loops = d.loops ∧ (divideFor p d).phases = d.phases ∧ (divideFor p d).sources = d.sources ∧ (divideFor p d).store = d.store ∧ (divideFor p d).loss = d.loss ∧ (divideFor p d).tap = d.tap ∧ (divideFor p d).ringMem = d.ringMem ∧ (divideFor p d).parcel = d.parcel := by
  unfold divideFor
  try dsimp only
  repeat' split
  all_goals simp
@[simp] theorem raiseHands_frame (d : Dev) : (raiseHands d).store = d.store ∧ (raiseHands d).loss = d.loss ∧ (raiseHands d).tap = d.tap ∧ (raiseHands d).ringMem = d.ringMem ∧ (raiseHands d).parcel = d.parcel := by
  unfold raiseHands
  try dsimp only
  all_goals simp
@[simp] theorem firstHand_frame (p : Fin 32) (d : Dev) : (firstHand p d).cfg = d.cfg ∧ (firstHand p d).cfgNew = d.cfgNew ∧ (firstHand p d).guards = d.guards ∧ (firstHand p d).loops = d.loops ∧ (firstHand p d).chans = d.chans ∧ (firstHand p d).groups = d.groups ∧ (firstHand p d).convs = d.convs ∧ (firstHand p d).feeds = d.feeds ∧ (firstHand p d).posts = d.posts ∧ (firstHand p d).twin = d.twin ∧ (firstHand p d).tmr = d.tmr ∧ (firstHand p d).alarms = d.alarms ∧ (firstHand p d).itms = d.itms ∧ (firstHand p d).sources = d.sources ∧ (firstHand p d).coll = d.coll ∧ (firstHand p d).net = d.net ∧ (firstHand p d).upd = d.upd ∧ (firstHand p d).store = d.store ∧ (firstHand p d).sys = d.sys ∧ (firstHand p d).loss = d.loss ∧ (firstHand p d).tap = d.tap ∧ (firstHand p d).ringMem = d.ringMem ∧ (firstHand p d).parcel = d.parcel := by
  unfold firstHand
  try dsimp only
  all_goals simp
@[simp] theorem doRearm_frame (p : Fin 32) (d : Dev) : (doRearm p d).cfg = d.cfg ∧ (doRearm p d).cfgNew = d.cfgNew ∧ (doRearm p d).ports = d.ports ∧ (doRearm p d).pd = d.pd ∧ (doRearm p d).loops = d.loops ∧ (doRearm p d).phases = d.phases ∧ (doRearm p d).chans = d.chans ∧ (doRearm p d).groups = d.groups ∧ (doRearm p d).convs = d.convs ∧ (doRearm p d).feeds = d.feeds ∧ (doRearm p d).posts = d.posts ∧ (doRearm p d).ledger = d.ledger ∧ (doRearm p d).twin = d.twin ∧ (doRearm p d).tmr = d.tmr ∧ (doRearm p d).alarms = d.alarms ∧ (doRearm p d).itms = d.itms ∧ (doRearm p d).sources = d.sources ∧ (doRearm p d).coll = d.coll ∧ (doRearm p d).host = d.host ∧ (doRearm p d).net = d.net ∧ (doRearm p d).upd = d.upd ∧ (doRearm p d).store = d.store ∧ (doRearm p d).jrn = d.jrn ∧ (doRearm p d).sys = d.sys ∧ (doRearm p d).loss = d.loss ∧ (doRearm p d).tap = d.tap ∧ (doRearm p d).ringMem = d.ringMem ∧ (doRearm p d).parcel = d.parcel ∧ (doRearm p d).freeCtr = d.freeCtr := by
  unfold doRearm
  try dsimp only
  all_goals simp
@[simp] theorem tryRearm_frame (p : Fin 32) (d : Dev) : (tryRearm p d).cfg = d.cfg ∧ (tryRearm p d).cfgNew = d.cfgNew ∧ (tryRearm p d).ports = d.ports ∧ (tryRearm p d).pd = d.pd ∧ (tryRearm p d).loops = d.loops ∧ (tryRearm p d).phases = d.phases ∧ (tryRearm p d).chans = d.chans ∧ (tryRearm p d).groups = d.groups ∧ (tryRearm p d).convs = d.convs ∧ (tryRearm p d).feeds = d.feeds ∧ (tryRearm p d).posts = d.posts ∧ (tryRearm p d).ledger = d.ledger ∧ (tryRearm p d).twin = d.twin ∧ (tryRearm p d).tmr = d.tmr ∧ (tryRearm p d).alarms = d.alarms ∧ (tryRearm p d).itms = d.itms ∧ (tryRearm p d).sources = d.sources ∧ (tryRearm p d).coll = d.coll ∧ (tryRearm p d).host = d.host ∧ (tryRearm p d).net = d.net ∧ (tryRearm p d).upd = d.upd ∧ (tryRearm p d).store = d.store ∧ (tryRearm p d).jrn = d.jrn ∧ (tryRearm p d).sys = d.sys ∧ (tryRearm p d).loss = d.loss ∧ (tryRearm p d).tap = d.tap ∧ (tryRearm p d).ringMem = d.ringMem ∧ (tryRearm p d).parcel = d.parcel ∧ (tryRearm p d).freeCtr = d.freeCtr := by
  unfold tryRearm
  try dsimp only
  repeat' split
  all_goals simp
@[simp] theorem debounce_frame (p : Fin 32) (ev : Instr) (pins : Nat) (due : Nat) (d : Dev) : (debounce p ev pins due d).cfg = d.cfg ∧ (debounce p ev pins due d).cfgNew = d.cfgNew ∧ (debounce p ev pins due d).ports = d.ports ∧ (debounce p ev pins due d).guards = d.guards ∧ (debounce p ev pins due d).loops = d.loops ∧ (debounce p ev pins due d).phases = d.phases ∧ (debounce p ev pins due d).chans = d.chans ∧ (debounce p ev pins due d).groups = d.groups ∧ (debounce p ev pins due d).convs = d.convs ∧ (debounce p ev pins due d).feeds = d.feeds ∧ (debounce p ev pins due d).posts = d.posts ∧ (debounce p ev pins due d).ledger = d.ledger ∧ (debounce p ev pins due d).twin = d.twin ∧ (debounce p ev pins due d).tmr = d.tmr ∧ (debounce p ev pins due d).alarms = d.alarms ∧ (debounce p ev pins due d).itms = d.itms ∧ (debounce p ev pins due d).sources = d.sources ∧ (debounce p ev pins due d).coll = d.coll ∧ (debounce p ev pins due d).host = d.host ∧ (debounce p ev pins due d).net = d.net ∧ (debounce p ev pins due d).upd = d.upd ∧ (debounce p ev pins due d).store = d.store ∧ (debounce p ev pins due d).jrn = d.jrn ∧ (debounce p ev pins due d).sys = d.sys ∧ (debounce p ev pins due d).loss = d.loss ∧ (debounce p ev pins due d).tap = d.tap ∧ (debounce p ev pins due d).ringMem = d.ringMem ∧ (debounce p ev pins due d).parcel = d.parcel ∧ (debounce p ev pins due d).freeCtr = d.freeCtr := by
  unfold debounce
  try dsimp only
  repeat' split
  all_goals simp
@[simp] theorem leaveDebounce_frame (p : Fin 32) (gone : Bool) (stamp : Nat) (d : Dev) : (leaveDebounce p gone stamp d).cfg = d.cfg ∧ (leaveDebounce p gone stamp d).cfgNew = d.cfgNew ∧ (leaveDebounce p gone stamp d).ports = d.ports ∧ (leaveDebounce p gone stamp d).pd = d.pd ∧ (leaveDebounce p gone stamp d).guards = d.guards ∧ (leaveDebounce p gone stamp d).loops = d.loops ∧ (leaveDebounce p gone stamp d).phases = d.phases ∧ (leaveDebounce p gone stamp d).chans = d.chans ∧ (leaveDebounce p gone stamp d).groups = d.groups ∧ (leaveDebounce p gone stamp d).convs = d.convs ∧ (leaveDebounce p gone stamp d).feeds = d.feeds ∧ (leaveDebounce p gone stamp d).posts = d.posts ∧ (leaveDebounce p gone stamp d).ledger = d.ledger ∧ (leaveDebounce p gone stamp d).twin = d.twin ∧ (leaveDebounce p gone stamp d).tmr = d.tmr ∧ (leaveDebounce p gone stamp d).alarms = d.alarms ∧ (leaveDebounce p gone stamp d).itms = d.itms ∧ (leaveDebounce p gone stamp d).sources = d.sources ∧ (leaveDebounce p gone stamp d).coll = d.coll ∧ (leaveDebounce p gone stamp d).host = d.host ∧ (leaveDebounce p gone stamp d).net = d.net ∧ (leaveDebounce p gone stamp d).upd = d.upd ∧ (leaveDebounce p gone stamp d).store = d.store ∧ (leaveDebounce p gone stamp d).jrn = d.jrn ∧ (leaveDebounce p gone stamp d).sys = d.sys ∧ (leaveDebounce p gone stamp d).loss = d.loss ∧ (leaveDebounce p gone stamp d).tap = d.tap ∧ (leaveDebounce p gone stamp d).ringMem = d.ringMem ∧ (leaveDebounce p gone stamp d).parcel = d.parcel ∧ (leaveDebounce p gone stamp d).freeCtr = d.freeCtr := by
  unfold leaveDebounce
  try dsimp only
  repeat' split
  all_goals simp
@[simp] theorem ccEval_frame (p : Fin 32) (stamp : Nat) (d : Dev) : (ccEval p stamp d).cfg = d.cfg ∧ (ccEval p stamp d).cfgNew = d.cfgNew ∧ (ccEval p stamp d).loops = d.loops ∧ (ccEval p stamp d).phases = d.phases ∧ (ccEval p stamp d).chans = d.chans ∧ (ccEval p stamp d).groups = d.groups ∧ (ccEval p stamp d).convs = d.convs ∧ (ccEval p stamp d).feeds = d.feeds ∧ (ccEval p stamp d).posts = d.posts ∧ (ccEval p stamp d).ledger = d.ledger ∧ (ccEval p stamp d).twin = d.twin ∧ (ccEval p stamp d).tmr = d.tmr ∧ (ccEval p stamp d).alarms = d.alarms ∧ (ccEval p stamp d).itms = d.itms ∧ (ccEval p stamp d).sources = d.sources ∧ (ccEval p stamp d).coll = d.coll ∧ (ccEval p stamp d).host = d.host ∧ (ccEval p stamp d).net = d.net ∧ (ccEval p stamp d).upd = d.upd ∧ (ccEval p stamp d).store = d.store ∧ (ccEval p stamp d).jrn = d.jrn ∧ (ccEval p stamp d).sys = d.sys ∧ (ccEval p stamp d).loss = d.loss ∧ (ccEval p stamp d).tap = d.tap ∧ (ccEval p stamp d).ringMem = d.ringMem ∧ (ccEval p stamp d).parcel = d.parcel ∧ (ccEval p stamp d).freeCtr = d.freeCtr := by
  unfold ccEval
  try dsimp only
  repeat' split
  all_goals simp
@[simp] theorem ccSee_frame (p : Fin 32) (d : Dev) : (ccSee p d).cfg = d.cfg ∧ (ccSee p d).cfgNew = d.cfgNew ∧ (ccSee p d).loops = d.loops ∧ (ccSee p d).phases = d.phases ∧ (ccSee p d).chans = d.chans ∧ (ccSee p d).groups = d.groups ∧ (ccSee p d).convs = d.convs ∧ (ccSee p d).feeds = d.feeds ∧ (ccSee p d).posts = d.posts ∧ (ccSee p d).ledger = d.ledger ∧ (ccSee p d).twin = d.twin ∧ (ccSee p d).tmr = d.tmr ∧ (ccSee p d).alarms = d.alarms ∧ (ccSee p d).itms = d.itms ∧ (ccSee p d).sources = d.sources ∧ (ccSee p d).coll = d.coll ∧ (ccSee p d).host = d.host ∧ (ccSee p d).net = d.net ∧ (ccSee p d).upd = d.upd ∧ (ccSee p d).store = d.store ∧ (ccSee p d).jrn = d.jrn ∧ (ccSee p d).sys = d.sys ∧ (ccSee p d).loss = d.loss ∧ (ccSee p d).tap = d.tap ∧ (ccSee p d).ringMem = d.ringMem ∧ (ccSee p d).parcel = d.parcel ∧ (ccSee p d).freeCtr = d.freeCtr := by
  unfold ccSee
  try dsimp only
  repeat' split
  all_goals simp
@[simp] theorem toUnattached_frame (p : Fin 32) (d : Dev) : (toUnattached p d).cfg = d.cfg ∧ (toUnattached p d).cfgNew = d.cfgNew ∧ (toUnattached p d).loops = d.loops ∧ (toUnattached p d).phases = d.phases ∧ (toUnattached p d).feeds = d.feeds ∧ (toUnattached p d).twin = d.twin ∧ (toUnattached p d).tmr = d.tmr ∧ (toUnattached p d).alarms = d.alarms ∧ (toUnattached p d).sources = d.sources ∧ (toUnattached p d).coll = d.coll ∧ (toUnattached p d).store = d.store ∧ (toUnattached p d).sys = d.sys ∧ (toUnattached p d).loss = d.loss ∧ (toUnattached p d).tap = d.tap ∧ (toUnattached p d).ringMem = d.ringMem ∧ (toUnattached p d).parcel = d.parcel := by
  unfold toUnattached
  try dsimp only
  repeat' split
  all_goals simp
@[simp] theorem errorRecovery_frame (p : Fin 32) (why : Nat) (d : Dev) : (errorRecovery p why d).cfgNew = d.cfgNew ∧ (errorRecovery p why d).groups = d.groups ∧ (errorRecovery p why d).convs = d.convs ∧ (errorRecovery p why d).feeds = d.feeds ∧ (errorRecovery p why d).posts = d.posts ∧ (errorRecovery p why d).ledger = d.ledger ∧ (errorRecovery p why d).twin = d.twin ∧ (errorRecovery p why d).tmr = d.tmr ∧ (errorRecovery p why d).alarms = d.alarms ∧ (errorRecovery p why d).itms = d.itms ∧ (errorRecovery p why d).sources = d.sources ∧ (errorRecovery p why d).coll = d.coll ∧ (errorRecovery p why d).net = d.net ∧ (errorRecovery p why d).upd = d.upd ∧ (errorRecovery p why d).sys = d.sys ∧ (errorRecovery p why d).tap = d.tap ∧ (errorRecovery p why d).parcel = d.parcel ∧ (errorRecovery p why d).host.event = d.host.event ∧ (errorRecovery p why d).host.irqen = d.host.irqen ∧ (errorRecovery p why d).host.owner = d.host.owner ∧ (errorRecovery p why d).host.successor = d.host.successor ∧ (errorRecovery p why d).host.window = d.host.window ∧ (errorRecovery p why d).host.changes = d.host.changes ∧ (errorRecovery p why d).host.leaseEnd = d.host.leaseEnd ∧ (errorRecovery p why d).host.hostLoaded = d.host.hostLoaded ∧ (errorRecovery p why d).host.irqA = d.host.irqA ∧ (errorRecovery p why d).host.irqB = d.host.irqB ∧ (errorRecovery p why d).host.spiDummy = d.host.spiDummy ∧ (errorRecovery p why d).host.spiCount = d.host.spiCount ∧ (errorRecovery p why d).host.spiCrc = d.host.spiCrc ∧ (errorRecovery p why d).host.spiAbort = d.host.spiAbort ∧ (errorRecovery p why d).host.baud = d.host.baud ∧ (errorRecovery p why d).host.uartFrames = d.host.uartFrames ∧ (errorRecovery p why d).host.uartCrc = d.host.uartCrc ∧ (errorRecovery p why d).host.uartDrops = d.host.uartDrops ∧ (errorRecovery p why d).host.jobs = d.host.jobs ∧ (errorRecovery p why d).host.masters = d.host.masters ∧ (errorRecovery p why d).host.kept = d.host.kept := by
  unfold errorRecovery
  try dsimp only
  repeat' split
  all_goals simp
@[simp] theorem finishDetach_frame (p : Fin 32) (d : Dev) : (finishDetach p d).parcel = d.parcel := by
  unfold finishDetach
  try dsimp only
  all_goals simp
@[simp] theorem startDetach_frame (p : Fin 32) (d : Dev) : (startDetach p d).parcel = d.parcel := by
  unfold startDetach
  try dsimp only
  repeat' split
  all_goals simp
@[simp] theorem enterDisabled_frame (p : Fin 32) (high : Bool) (d : Dev) : (enterDisabled p high d).cfgNew = d.cfgNew ∧ (enterDisabled p high d).sys = d.sys ∧ (enterDisabled p high d).tap = d.tap ∧ (enterDisabled p high d).parcel = d.parcel := by
  unfold enterDisabled
  try dsimp only
  repeat' split
  all_goals simp
@[simp] theorem startHiccup_frame (p : Fin 32) (why : Nat) (d : Dev) : (startHiccup p why d).cfg = d.cfg ∧ (startHiccup p why d).cfgNew = d.cfgNew ∧ (startHiccup p why d).chans = d.chans ∧ (startHiccup p why d).groups = d.groups ∧ (startHiccup p why d).convs = d.convs ∧ (startHiccup p why d).feeds = d.feeds ∧ (startHiccup p why d).posts = d.posts ∧ (startHiccup p why d).ledger = d.ledger ∧ (startHiccup p why d).twin = d.twin ∧ (startHiccup p why d).tmr = d.tmr ∧ (startHiccup p why d).alarms = d.alarms ∧ (startHiccup p why d).itms = d.itms ∧ (startHiccup p why d).sources = d.sources ∧ (startHiccup p why d).coll = d.coll ∧ (startHiccup p why d).host = d.host ∧ (startHiccup p why d).net = d.net ∧ (startHiccup p why d).upd = d.upd ∧ (startHiccup p why d).store = d.store ∧ (startHiccup p why d).sys = d.sys ∧ (startHiccup p why d).loss = d.loss ∧ (startHiccup p why d).tap = d.tap ∧ (startHiccup p why d).ringMem = d.ringMem ∧ (startHiccup p why d).parcel = d.parcel ∧ (startHiccup p why d).freeCtr = d.freeCtr := by
  unfold startHiccup
  try dsimp only
  all_goals simp
@[simp] theorem latchOff_frame (p : Fin 32) (d : Dev) : (latchOff p d).parcel = d.parcel := by
  unfold latchOff
  try dsimp only
  repeat' split
  all_goals simp
@[simp] theorem afterRetire_frame (n : Fin 64) (d : Dev) : (afterRetire n d).cfgNew = d.cfgNew ∧ (afterRetire n d).groups = d.groups ∧ (afterRetire n d).convs = d.convs ∧ (afterRetire n d).feeds = d.feeds ∧ (afterRetire n d).posts = d.posts ∧ (afterRetire n d).ledger = d.ledger ∧ (afterRetire n d).twin = d.twin ∧ (afterRetire n d).tmr = d.tmr ∧ (afterRetire n d).alarms = d.alarms ∧ (afterRetire n d).itms = d.itms ∧ (afterRetire n d).sources = d.sources ∧ (afterRetire n d).coll = d.coll ∧ (afterRetire n d).net = d.net ∧ (afterRetire n d).upd = d.upd ∧ (afterRetire n d).sys = d.sys ∧ (afterRetire n d).tap = d.tap ∧ (afterRetire n d).parcel = d.parcel ∧ (afterRetire n d).host.event = d.host.event ∧ (afterRetire n d).host.irqen = d.host.irqen ∧ (afterRetire n d).host.owner = d.host.owner ∧ (afterRetire n d).host.successor = d.host.successor ∧ (afterRetire n d).host.window = d.host.window ∧ (afterRetire n d).host.changes = d.host.changes ∧ (afterRetire n d).host.leaseEnd = d.host.leaseEnd ∧ (afterRetire n d).host.hostLoaded = d.host.hostLoaded ∧ (afterRetire n d).host.irqA = d.host.irqA ∧ (afterRetire n d).host.irqB = d.host.irqB ∧ (afterRetire n d).host.spiDummy = d.host.spiDummy ∧ (afterRetire n d).host.spiCount = d.host.spiCount ∧ (afterRetire n d).host.spiCrc = d.host.spiCrc ∧ (afterRetire n d).host.spiAbort = d.host.spiAbort ∧ (afterRetire n d).host.baud = d.host.baud ∧ (afterRetire n d).host.uartFrames = d.host.uartFrames ∧ (afterRetire n d).host.uartCrc = d.host.uartCrc ∧ (afterRetire n d).host.uartDrops = d.host.uartDrops ∧ (afterRetire n d).host.jobs = d.host.jobs ∧ (afterRetire n d).host.masters = d.host.masters ∧ (afterRetire n d).host.kept = d.host.kept := by
  unfold afterRetire
  try dsimp only
  repeat' split
  all_goals simp
@[simp] theorem noCable_frame (p : Fin 32) (d : Dev) : (noCable p d).cfg = d.cfg ∧ (noCable p d).cfgNew = d.cfgNew ∧ (noCable p d).pd = d.pd ∧ (noCable p d).guards = d.guards ∧ (noCable p d).loops = d.loops ∧ (noCable p d).chans = d.chans ∧ (noCable p d).groups = d.groups ∧ (noCable p d).convs = d.convs ∧ (noCable p d).feeds = d.feeds ∧ (noCable p d).posts = d.posts ∧ (noCable p d).ledger = d.ledger ∧ (noCable p d).twin = d.twin ∧ (noCable p d).tmr = d.tmr ∧ (noCable p d).alarms = d.alarms ∧ (noCable p d).itms = d.itms ∧ (noCable p d).sources = d.sources ∧ (noCable p d).coll = d.coll ∧ (noCable p d).net = d.net ∧ (noCable p d).upd = d.upd ∧ (noCable p d).store = d.store ∧ (noCable p d).sys = d.sys ∧ (noCable p d).loss = d.loss ∧ (noCable p d).tap = d.tap ∧ (noCable p d).ringMem = d.ringMem ∧ (noCable p d).parcel = d.parcel := by
  unfold noCable
  try dsimp only
  all_goals simp
@[simp] theorem attachSource_frame (p : Fin 32) (d : Dev) : (attachSource p d).cfg = d.cfg ∧ (attachSource p d).cfgNew = d.cfgNew ∧ (attachSource p d).groups = d.groups ∧ (attachSource p d).convs = d.convs ∧ (attachSource p d).feeds = d.feeds ∧ (attachSource p d).posts = d.posts ∧ (attachSource p d).twin = d.twin ∧ (attachSource p d).tmr = d.tmr ∧ (attachSource p d).alarms = d.alarms ∧ (attachSource p d).itms = d.itms ∧ (attachSource p d).sources = d.sources ∧ (attachSource p d).coll = d.coll ∧ (attachSource p d).net = d.net ∧ (attachSource p d).upd = d.upd ∧ (attachSource p d).store = d.store ∧ (attachSource p d).sys = d.sys ∧ (attachSource p d).tap = d.tap ∧ (attachSource p d).parcel = d.parcel := by
  unfold attachSource
  try dsimp only
  all_goals simp
@[simp] theorem attachDebugSource_frame (p : Fin 32) (d : Dev) : (attachDebugSource p d).cfg = d.cfg ∧ (attachDebugSource p d).cfgNew = d.cfgNew ∧ (attachDebugSource p d).groups = d.groups ∧ (attachDebugSource p d).convs = d.convs ∧ (attachDebugSource p d).feeds = d.feeds ∧ (attachDebugSource p d).posts = d.posts ∧ (attachDebugSource p d).twin = d.twin ∧ (attachDebugSource p d).tmr = d.tmr ∧ (attachDebugSource p d).alarms = d.alarms ∧ (attachDebugSource p d).itms = d.itms ∧ (attachDebugSource p d).sources = d.sources ∧ (attachDebugSource p d).coll = d.coll ∧ (attachDebugSource p d).net = d.net ∧ (attachDebugSource p d).upd = d.upd ∧ (attachDebugSource p d).store = d.store ∧ (attachDebugSource p d).sys = d.sys ∧ (attachDebugSource p d).tap = d.tap ∧ (attachDebugSource p d).parcel = d.parcel := by
  unfold attachDebugSource
  try dsimp only
  all_goals simp
@[simp] theorem attachSink_frame (p : Fin 32) (d : Dev) : (attachSink p d).cfg = d.cfg ∧ (attachSink p d).cfgNew = d.cfgNew ∧ (attachSink p d).loops = d.loops ∧ (attachSink p d).groups = d.groups ∧ (attachSink p d).convs = d.convs ∧ (attachSink p d).feeds = d.feeds ∧ (attachSink p d).posts = d.posts ∧ (attachSink p d).twin = d.twin ∧ (attachSink p d).tmr = d.tmr ∧ (attachSink p d).alarms = d.alarms ∧ (attachSink p d).itms = d.itms ∧ (attachSink p d).sources = d.sources ∧ (attachSink p d).coll = d.coll ∧ (attachSink p d).net = d.net ∧ (attachSink p d).upd = d.upd ∧ (attachSink p d).store = d.store ∧ (attachSink p d).sys = d.sys ∧ (attachSink p d).loss = d.loss ∧ (attachSink p d).tap = d.tap ∧ (attachSink p d).parcel = d.parcel := by
  unfold attachSink
  try dsimp only
  all_goals simp
@[simp] theorem attachDebugSink_frame (p : Fin 32) (d : Dev) : (attachDebugSink p d).cfg = d.cfg ∧ (attachDebugSink p d).cfgNew = d.cfgNew ∧ (attachDebugSink p d).guards = d.guards ∧ (attachDebugSink p d).loops = d.loops ∧ (attachDebugSink p d).groups = d.groups ∧ (attachDebugSink p d).convs = d.convs ∧ (attachDebugSink p d).feeds = d.feeds ∧ (attachDebugSink p d).posts = d.posts ∧ (attachDebugSink p d).twin = d.twin ∧ (attachDebugSink p d).tmr = d.tmr ∧ (attachDebugSink p d).alarms = d.alarms ∧ (attachDebugSink p d).itms = d.itms ∧ (attachDebugSink p d).sources = d.sources ∧ (attachDebugSink p d).coll = d.coll ∧ (attachDebugSink p d).net = d.net ∧ (attachDebugSink p d).upd = d.upd ∧ (attachDebugSink p d).store = d.store ∧ (attachDebugSink p d).sys = d.sys ∧ (attachDebugSink p d).loss = d.loss ∧ (attachDebugSink p d).tap = d.tap ∧ (attachDebugSink p d).parcel = d.parcel := by
  unfold attachDebugSink
  try dsimp only
  all_goals simp
@[simp] theorem minimalAtFive_frame (p : Fin 32) (d : Dev) : (minimalAtFive p d).cfg = d.cfg ∧ (minimalAtFive p d).cfgNew = d.cfgNew ∧ (minimalAtFive p d).pd = d.pd ∧ (minimalAtFive p d).guards = d.guards ∧ (minimalAtFive p d).loops = d.loops ∧ (minimalAtFive p d).groups = d.groups ∧ (minimalAtFive p d).convs = d.convs ∧ (minimalAtFive p d).feeds = d.feeds ∧ (minimalAtFive p d).ledger = d.ledger ∧ (minimalAtFive p d).twin = d.twin ∧ (minimalAtFive p d).tmr = d.tmr ∧ (minimalAtFive p d).sources = d.sources ∧ (minimalAtFive p d).coll = d.coll ∧ (minimalAtFive p d).host = d.host ∧ (minimalAtFive p d).upd = d.upd ∧ (minimalAtFive p d).store = d.store ∧ (minimalAtFive p d).jrn = d.jrn ∧ (minimalAtFive p d).sys = d.sys ∧ (minimalAtFive p d).loss = d.loss ∧ (minimalAtFive p d).tap = d.tap ∧ (minimalAtFive p d).ringMem = d.ringMem ∧ (minimalAtFive p d).parcel = d.parcel ∧ (minimalAtFive p d).freeCtr = d.freeCtr := by
  unfold minimalAtFive
  try dsimp only
  all_goals simp
@[simp] theorem portEnterMinimal_frame (p : Fin 32) (d : Dev) : (portEnterMinimal p d).cfg = d.cfg ∧ (portEnterMinimal p d).cfgNew = d.cfgNew ∧ (portEnterMinimal p d).groups = d.groups ∧ (portEnterMinimal p d).convs = d.convs ∧ (portEnterMinimal p d).feeds = d.feeds ∧ (portEnterMinimal p d).ledger = d.ledger ∧ (portEnterMinimal p d).twin = d.twin ∧ (portEnterMinimal p d).tmr = d.tmr ∧ (portEnterMinimal p d).sources = d.sources ∧ (portEnterMinimal p d).coll = d.coll ∧ (portEnterMinimal p d).host = d.host ∧ (portEnterMinimal p d).upd = d.upd ∧ (portEnterMinimal p d).store = d.store ∧ (portEnterMinimal p d).jrn = d.jrn ∧ (portEnterMinimal p d).sys = d.sys ∧ (portEnterMinimal p d).loss = d.loss ∧ (portEnterMinimal p d).tap = d.tap ∧ (portEnterMinimal p d).ringMem = d.ringMem ∧ (portEnterMinimal p d).parcel = d.parcel ∧ (portEnterMinimal p d).freeCtr = d.freeCtr := by
  unfold portEnterMinimal
  try dsimp only
  repeat' split
  all_goals simp
@[simp] theorem dieEnterMinimal_frame (e : Fin 4) (d : Dev) : (dieEnterMinimal e d).cfg = d.cfg ∧ (dieEnterMinimal e d).cfgNew = d.cfgNew ∧ (dieEnterMinimal e d).groups = d.groups ∧ (dieEnterMinimal e d).convs = d.convs ∧ (dieEnterMinimal e d).feeds = d.feeds ∧ (dieEnterMinimal e d).ledger = d.ledger ∧ (dieEnterMinimal e d).twin = d.twin ∧ (dieEnterMinimal e d).tmr = d.tmr ∧ (dieEnterMinimal e d).sources = d.sources ∧ (dieEnterMinimal e d).coll = d.coll ∧ (dieEnterMinimal e d).host = d.host ∧ (dieEnterMinimal e d).upd = d.upd ∧ (dieEnterMinimal e d).store = d.store ∧ (dieEnterMinimal e d).jrn = d.jrn ∧ (dieEnterMinimal e d).loss = d.loss ∧ (dieEnterMinimal e d).tap = d.tap ∧ (dieEnterMinimal e d).ringMem = d.ringMem ∧ (dieEnterMinimal e d).parcel = d.parcel ∧ (dieEnterMinimal e d).freeCtr = d.freeCtr := by
  unfold dieEnterMinimal
  try dsimp only
  repeat' split
  all_goals simp
@[simp] theorem handBackAttached_frame (p : Fin 32) (d : Dev) : (handBackAttached p d).cfg = d.cfg ∧ (handBackAttached p d).loops = d.loops ∧ (handBackAttached p d).feeds = d.feeds ∧ (handBackAttached p d).twin = d.twin ∧ (handBackAttached p d).sources = d.sources ∧ (handBackAttached p d).coll = d.coll ∧ (handBackAttached p d).store = d.store ∧ (handBackAttached p d).sys = d.sys ∧ (handBackAttached p d).tap = d.tap ∧ (handBackAttached p d).ringMem = d.ringMem ∧ (handBackAttached p d).parcel = d.parcel := by
  unfold handBackAttached
  try dsimp only
  repeat' split
  all_goals simp
@[simp] theorem portExitMinimal_frame (p : Fin 32) (d : Dev) : (portExitMinimal p d).cfg = d.cfg ∧ (portExitMinimal p d).feeds = d.feeds ∧ (portExitMinimal p d).twin = d.twin ∧ (portExitMinimal p d).sources = d.sources ∧ (portExitMinimal p d).coll = d.coll ∧ (portExitMinimal p d).store = d.store ∧ (portExitMinimal p d).sys = d.sys ∧ (portExitMinimal p d).tap = d.tap ∧ (portExitMinimal p d).ringMem = d.ringMem ∧ (portExitMinimal p d).parcel = d.parcel := by
  unfold portExitMinimal
  try dsimp only
  repeat' split
  all_goals simp
@[simp] theorem dieExitMinimal_frame (e : Fin 4) (d : Dev) : (dieExitMinimal e d).cfg = d.cfg ∧ (dieExitMinimal e d).feeds = d.feeds ∧ (dieExitMinimal e d).twin = d.twin ∧ (dieExitMinimal e d).coll = d.coll ∧ (dieExitMinimal e d).store = d.store ∧ (dieExitMinimal e d).tap = d.tap ∧ (dieExitMinimal e d).ringMem = d.ringMem ∧ (dieExitMinimal e d).parcel = d.parcel := by
  unfold dieExitMinimal
  try dsimp only
  repeat' split
  all_goals simp
@[simp] theorem setMode_frame (m : Mode) (d : Dev) : (setMode m d).cfg = d.cfg ∧ (setMode m d).cfgNew = d.cfgNew ∧ (setMode m d).ports = d.ports ∧ (setMode m d).pd = d.pd ∧ (setMode m d).guards = d.guards ∧ (setMode m d).loops = d.loops ∧ (setMode m d).phases = d.phases ∧ (setMode m d).chans = d.chans ∧ (setMode m d).groups = d.groups ∧ (setMode m d).convs = d.convs ∧ (setMode m d).feeds = d.feeds ∧ (setMode m d).posts = d.posts ∧ (setMode m d).ledger = d.ledger ∧ (setMode m d).twin = d.twin ∧ (setMode m d).tmr = d.tmr ∧ (setMode m d).alarms = d.alarms ∧ (setMode m d).itms = d.itms ∧ (setMode m d).sources = d.sources ∧ (setMode m d).coll = d.coll ∧ (setMode m d).net = d.net ∧ (setMode m d).upd = d.upd ∧ (setMode m d).store = d.store ∧ (setMode m d).loss = d.loss ∧ (setMode m d).tap = d.tap ∧ (setMode m d).parcel = d.parcel ∧ (setMode m d).freeCtr = d.freeCtr ∧ (setMode m d).host.event = d.host.event ∧ (setMode m d).host.irqen = d.host.irqen ∧ (setMode m d).host.successor = d.host.successor ∧ (setMode m d).host.window = d.host.window ∧ (setMode m d).host.changes = d.host.changes ∧ (setMode m d).host.leaseEnd = d.host.leaseEnd ∧ (setMode m d).host.irqA = d.host.irqA ∧ (setMode m d).host.irqB = d.host.irqB ∧ (setMode m d).host.spiDummy = d.host.spiDummy ∧ (setMode m d).host.spiCount = d.host.spiCount ∧ (setMode m d).host.spiCrc = d.host.spiCrc ∧ (setMode m d).host.spiAbort = d.host.spiAbort ∧ (setMode m d).host.baud = d.host.baud ∧ (setMode m d).host.uartFrames = d.host.uartFrames ∧ (setMode m d).host.uartCrc = d.host.uartCrc ∧ (setMode m d).host.uartDrops = d.host.uartDrops ∧ (setMode m d).host.jobs = d.host.jobs ∧ (setMode m d).host.masters = d.host.masters ∧ (setMode m d).host.kept = d.host.kept := by
  unfold setMode
  try dsimp only
  repeat' split
  all_goals simp
@[simp] theorem keepRecord_frame (d : Dev) : (keepRecord d).cfg = d.cfg ∧ (keepRecord d).phases = d.phases ∧ (keepRecord d).feeds = d.feeds ∧ (keepRecord d).twin = d.twin ∧ (keepRecord d).sources = d.sources ∧ (keepRecord d).store = d.store ∧ (keepRecord d).loss = d.loss ∧ (keepRecord d).tap = d.tap ∧ (keepRecord d).ringMem = d.ringMem ∧ (keepRecord d).parcel = d.parcel := by
  unfold keepRecord
  try dsimp only
  all_goals simp
@[simp] theorem releaseTimers_frame (d : Dev) : (releaseTimers d).cfg = d.cfg ∧ (releaseTimers d).feeds = d.feeds ∧ (releaseTimers d).twin = d.twin ∧ (releaseTimers d).store = d.store ∧ (releaseTimers d).loss = d.loss ∧ (releaseTimers d).tap = d.tap ∧ (releaseTimers d).ringMem = d.ringMem ∧ (releaseTimers d).parcel = d.parcel := by
  unfold releaseTimers
  try dsimp only
  all_goals simp
@[simp] theorem bootRelease_frame (d : Dev) : (bootRelease d).cfg = d.cfg ∧ (bootRelease d).feeds = d.feeds ∧ (bootRelease d).twin = d.twin ∧ (bootRelease d).store = d.store ∧ (bootRelease d).tap = d.tap ∧ (bootRelease d).parcel = d.parcel := by
  unfold bootRelease
  try dsimp only
  all_goals simp
@[simp] theorem leaveStandby_frame (d : Dev) : (leaveStandby d).cfg = d.cfg ∧ (leaveStandby d).tmr = d.tmr ∧ (leaveStandby d).alarms = d.alarms ∧ (leaveStandby d).store = d.store ∧ (leaveStandby d).loss = d.loss ∧ (leaveStandby d).tap = d.tap ∧ (leaveStandby d).parcel = d.parcel := by
  unfold leaveStandby
  try dsimp only
  repeat' split
  all_goals simp
@[simp] theorem backlogPut_frame (m : FaultMsg) (d : Dev) : (backlogPut m d).cfg = d.cfg ∧ (backlogPut m d).cfgNew = d.cfgNew ∧ (backlogPut m d).ports = d.ports ∧ (backlogPut m d).pd = d.pd ∧ (backlogPut m d).guards = d.guards ∧ (backlogPut m d).loops = d.loops ∧ (backlogPut m d).phases = d.phases ∧ (backlogPut m d).chans = d.chans ∧ (backlogPut m d).groups = d.groups ∧ (backlogPut m d).convs = d.convs ∧ (backlogPut m d).feeds = d.feeds ∧ (backlogPut m d).posts = d.posts ∧ (backlogPut m d).ledger = d.ledger ∧ (backlogPut m d).twin = d.twin ∧ (backlogPut m d).tmr = d.tmr ∧ (backlogPut m d).alarms = d.alarms ∧ (backlogPut m d).itms = d.itms ∧ (backlogPut m d).sources = d.sources ∧ (backlogPut m d).host = d.host ∧ (backlogPut m d).net = d.net ∧ (backlogPut m d).upd = d.upd ∧ (backlogPut m d).store = d.store ∧ (backlogPut m d).sys = d.sys ∧ (backlogPut m d).loss = d.loss ∧ (backlogPut m d).tap = d.tap ∧ (backlogPut m d).ringMem = d.ringMem ∧ (backlogPut m d).parcel = d.parcel ∧ (backlogPut m d).freeCtr = d.freeCtr := by
  unfold backlogPut
  try dsimp only
  repeat' split
  all_goals simp
@[simp] theorem backlogDrain_frame (k : Nat) (d : Dev) : (backlogDrain k d).cfg = d.cfg ∧ (backlogDrain k d).cfgNew = d.cfgNew ∧ (backlogDrain k d).ports = d.ports ∧ (backlogDrain k d).pd = d.pd ∧ (backlogDrain k d).guards = d.guards ∧ (backlogDrain k d).loops = d.loops ∧ (backlogDrain k d).phases = d.phases ∧ (backlogDrain k d).chans = d.chans ∧ (backlogDrain k d).groups = d.groups ∧ (backlogDrain k d).convs = d.convs ∧ (backlogDrain k d).feeds = d.feeds ∧ (backlogDrain k d).posts = d.posts ∧ (backlogDrain k d).ledger = d.ledger ∧ (backlogDrain k d).twin = d.twin ∧ (backlogDrain k d).tmr = d.tmr ∧ (backlogDrain k d).alarms = d.alarms ∧ (backlogDrain k d).itms = d.itms ∧ (backlogDrain k d).sources = d.sources ∧ (backlogDrain k d).net = d.net ∧ (backlogDrain k d).upd = d.upd ∧ (backlogDrain k d).store = d.store ∧ (backlogDrain k d).jrn = d.jrn ∧ (backlogDrain k d).sys = d.sys ∧ (backlogDrain k d).loss = d.loss ∧ (backlogDrain k d).tap = d.tap ∧ (backlogDrain k d).parcel = d.parcel ∧ (backlogDrain k d).timers = d.timers ∧ (backlogDrain k d).freeCtr = d.freeCtr ∧ (backlogDrain k d).host.event = d.host.event ∧ (backlogDrain k d).host.irqen = d.host.irqen ∧ (backlogDrain k d).host.owner = d.host.owner ∧ (backlogDrain k d).host.successor = d.host.successor ∧ (backlogDrain k d).host.window = d.host.window ∧ (backlogDrain k d).host.changes = d.host.changes ∧ (backlogDrain k d).host.leaseEnd = d.host.leaseEnd ∧ (backlogDrain k d).host.hostLoaded = d.host.hostLoaded ∧ (backlogDrain k d).host.irqA = d.host.irqA ∧ (backlogDrain k d).host.irqB = d.host.irqB ∧ (backlogDrain k d).host.spiDummy = d.host.spiDummy ∧ (backlogDrain k d).host.spiCount = d.host.spiCount ∧ (backlogDrain k d).host.spiCrc = d.host.spiCrc ∧ (backlogDrain k d).host.spiAbort = d.host.spiAbort ∧ (backlogDrain k d).host.baud = d.host.baud ∧ (backlogDrain k d).host.uartFrames = d.host.uartFrames ∧ (backlogDrain k d).host.uartCrc = d.host.uartCrc ∧ (backlogDrain k d).host.uartDrops = d.host.uartDrops ∧ (backlogDrain k d).host.jobs = d.host.jobs ∧ (backlogDrain k d).host.masters = d.host.masters ∧ (backlogDrain k d).host.kept = d.host.kept := by
  induction k generalizing d with
  | zero => simp [backlogDrain]
  | succ k ih =>
    unfold backlogDrain
    repeat' split
    all_goals simp [ih]
@[simp] theorem sendMsg_frame (m : FaultMsg) (d : Dev) : (sendMsg m d).cfg = d.cfg ∧ (sendMsg m d).cfgNew = d.cfgNew ∧ (sendMsg m d).ports = d.ports ∧ (sendMsg m d).pd = d.pd ∧ (sendMsg m d).guards = d.guards ∧ (sendMsg m d).loops = d.loops ∧ (sendMsg m d).phases = d.phases ∧ (sendMsg m d).chans = d.chans ∧ (sendMsg m d).groups = d.groups ∧ (sendMsg m d).convs = d.convs ∧ (sendMsg m d).feeds = d.feeds ∧ (sendMsg m d).posts = d.posts ∧ (sendMsg m d).ledger = d.ledger ∧ (sendMsg m d).twin = d.twin ∧ (sendMsg m d).tmr = d.tmr ∧ (sendMsg m d).alarms = d.alarms ∧ (sendMsg m d).itms = d.itms ∧ (sendMsg m d).sources = d.sources ∧ (sendMsg m d).net = d.net ∧ (sendMsg m d).upd = d.upd ∧ (sendMsg m d).store = d.store ∧ (sendMsg m d).sys = d.sys ∧ (sendMsg m d).loss = d.loss ∧ (sendMsg m d).tap = d.tap ∧ (sendMsg m d).parcel = d.parcel ∧ (sendMsg m d).freeCtr = d.freeCtr ∧ (sendMsg m d).host.event = d.host.event ∧ (sendMsg m d).host.irqen = d.host.irqen ∧ (sendMsg m d).host.owner = d.host.owner ∧ (sendMsg m d).host.successor = d.host.successor ∧ (sendMsg m d).host.window = d.host.window ∧ (sendMsg m d).host.changes = d.host.changes ∧ (sendMsg m d).host.leaseEnd = d.host.leaseEnd ∧ (sendMsg m d).host.hostLoaded = d.host.hostLoaded ∧ (sendMsg m d).host.irqA = d.host.irqA ∧ (sendMsg m d).host.irqB = d.host.irqB ∧ (sendMsg m d).host.spiDummy = d.host.spiDummy ∧ (sendMsg m d).host.spiCount = d.host.spiCount ∧ (sendMsg m d).host.spiCrc = d.host.spiCrc ∧ (sendMsg m d).host.spiAbort = d.host.spiAbort ∧ (sendMsg m d).host.baud = d.host.baud ∧ (sendMsg m d).host.uartFrames = d.host.uartFrames ∧ (sendMsg m d).host.uartCrc = d.host.uartCrc ∧ (sendMsg m d).host.uartDrops = d.host.uartDrops ∧ (sendMsg m d).host.jobs = d.host.jobs ∧ (sendMsg m d).host.masters = d.host.masters ∧ (sendMsg m d).host.kept = d.host.kept := by
  unfold sendMsg
  try dsimp only
  all_goals simp
@[simp] theorem faultBit_frame (n : Fin 768) (b : Bool) (d : Dev) : (faultBit n b d).cfg = d.cfg ∧ (faultBit n b d).cfgNew = d.cfgNew ∧ (faultBit n b d).ports = d.ports ∧ (faultBit n b d).guards = d.guards ∧ (faultBit n b d).loops = d.loops ∧ (faultBit n b d).chans = d.chans ∧ (faultBit n b d).groups = d.groups ∧ (faultBit n b d).convs = d.convs ∧ (faultBit n b d).posts = d.posts ∧ (faultBit n b d).ledger = d.ledger ∧ (faultBit n b d).twin = d.twin ∧ (faultBit n b d).tmr = d.tmr ∧ (faultBit n b d).alarms = d.alarms ∧ (faultBit n b d).itms = d.itms ∧ (faultBit n b d).sources = d.sources ∧ (faultBit n b d).host = d.host ∧ (faultBit n b d).net = d.net ∧ (faultBit n b d).upd = d.upd ∧ (faultBit n b d).store = d.store ∧ (faultBit n b d).sys = d.sys ∧ (faultBit n b d).loss = d.loss ∧ (faultBit n b d).tap = d.tap ∧ (faultBit n b d).ringMem = d.ringMem ∧ (faultBit n b d).parcel = d.parcel ∧ (faultBit n b d).freeCtr = d.freeCtr := by
  unfold faultBit
  try dsimp only
  repeat' split
  all_goals simp
@[simp] theorem report_frame (n : Fin 768) (k : Report) (subsumed grace : Bool) (stamp master index : Nat) (d : Dev) : (report n k subsumed grace stamp master index d).cfg = d.cfg ∧ (report n k subsumed grace stamp master index d).cfgNew = d.cfgNew ∧ (report n k subsumed grace stamp master index d).ports = d.ports ∧ (report n k subsumed grace stamp master index d).guards = d.guards ∧ (report n k subsumed grace stamp master index d).loops = d.loops ∧ (report n k subsumed grace stamp master index d).chans = d.chans ∧ (report n k subsumed grace stamp master index d).groups = d.groups ∧ (report n k subsumed grace stamp master index d).convs = d.convs ∧ (report n k subsumed grace stamp master index d).posts = d.posts ∧ (report n k subsumed grace stamp master index d).ledger = d.ledger ∧ (report n k subsumed grace stamp master index d).twin = d.twin ∧ (report n k subsumed grace stamp master index d).tmr = d.tmr ∧ (report n k subsumed grace stamp master index d).alarms = d.alarms ∧ (report n k subsumed grace stamp master index d).itms = d.itms ∧ (report n k subsumed grace stamp master index d).sources = d.sources ∧ (report n k subsumed grace stamp master index d).net = d.net ∧ (report n k subsumed grace stamp master index d).upd = d.upd ∧ (report n k subsumed grace stamp master index d).store = d.store ∧ (report n k subsumed grace stamp master index d).sys = d.sys ∧ (report n k subsumed grace stamp master index d).loss = d.loss ∧ (report n k subsumed grace stamp master index d).tap = d.tap ∧ (report n k subsumed grace stamp master index d).parcel = d.parcel ∧ (report n k subsumed grace stamp master index d).freeCtr = d.freeCtr ∧ (report n k subsumed grace stamp master index d).host.event = d.host.event ∧ (report n k subsumed grace stamp master index d).host.irqen = d.host.irqen ∧ (report n k subsumed grace stamp master index d).host.owner = d.host.owner ∧ (report n k subsumed grace stamp master index d).host.successor = d.host.successor ∧ (report n k subsumed grace stamp master index d).host.window = d.host.window ∧ (report n k subsumed grace stamp master index d).host.changes = d.host.changes ∧ (report n k subsumed grace stamp master index d).host.leaseEnd = d.host.leaseEnd ∧ (report n k subsumed grace stamp master index d).host.hostLoaded = d.host.hostLoaded ∧ (report n k subsumed grace stamp master index d).host.irqA = d.host.irqA ∧ (report n k subsumed grace stamp master index d).host.irqB = d.host.irqB ∧ (report n k subsumed grace stamp master index d).host.spiDummy = d.host.spiDummy ∧ (report n k subsumed grace stamp master index d).host.spiCount = d.host.spiCount ∧ (report n k subsumed grace stamp master index d).host.spiCrc = d.host.spiCrc ∧ (report n k subsumed grace stamp master index d).host.spiAbort = d.host.spiAbort ∧ (report n k subsumed grace stamp master index d).host.baud = d.host.baud ∧ (report n k subsumed grace stamp master index d).host.uartFrames = d.host.uartFrames ∧ (report n k subsumed grace stamp master index d).host.uartCrc = d.host.uartCrc ∧ (report n k subsumed grace stamp master index d).host.uartDrops = d.host.uartDrops ∧ (report n k subsumed grace stamp master index d).host.jobs = d.host.jobs ∧ (report n k subsumed grace stamp master index d).host.masters = d.host.masters ∧ (report n k subsumed grace stamp master index d).host.kept = d.host.kept := by
  unfold report
  try dsimp only
  repeat' split
  all_goals simp
@[simp] theorem postDown_frame (l : Fin 3) (d : Dev) : (postDown l d).cfg = d.cfg ∧ (postDown l d).cfgNew = d.cfgNew ∧ (postDown l d).ports = d.ports ∧ (postDown l d).guards = d.guards ∧ (postDown l d).loops = d.loops ∧ (postDown l d).ledger = d.ledger ∧ (postDown l d).sources = d.sources ∧ (postDown l d).net = d.net ∧ (postDown l d).upd = d.upd ∧ (postDown l d).store = d.store ∧ (postDown l d).sys = d.sys ∧ (postDown l d).loss = d.loss ∧ (postDown l d).tap = d.tap ∧ (postDown l d).ringMem = d.ringMem ∧ (postDown l d).parcel = d.parcel := by
  unfold postDown
  try dsimp only
  repeat' split
  all_goals simp
@[simp] theorem mirrorDown_frame (d : Dev) : (mirrorDown d).cfg = d.cfg ∧ (mirrorDown d).cfgNew = d.cfgNew ∧ (mirrorDown d).ports = d.ports ∧ (mirrorDown d).guards = d.guards ∧ (mirrorDown d).loops = d.loops ∧ (mirrorDown d).sources = d.sources ∧ (mirrorDown d).net = d.net ∧ (mirrorDown d).upd = d.upd ∧ (mirrorDown d).store = d.store ∧ (mirrorDown d).sys = d.sys ∧ (mirrorDown d).loss = d.loss ∧ (mirrorDown d).tap = d.tap ∧ (mirrorDown d).ringMem = d.ringMem ∧ (mirrorDown d).parcel = d.parcel := by
  unfold mirrorDown
  try dsimp only
  repeat' split
  all_goals simp
@[simp] theorem freezeEvents_frame (l : Fin 5) (d : Dev) : (freezeEvents l d).cfg = d.cfg ∧ (freezeEvents l d).cfgNew = d.cfgNew ∧ (freezeEvents l d).ports = d.ports ∧ (freezeEvents l d).pd = d.pd ∧ (freezeEvents l d).loops = d.loops ∧ (freezeEvents l d).groups = d.groups ∧ (freezeEvents l d).convs = d.convs ∧ (freezeEvents l d).posts = d.posts ∧ (freezeEvents l d).ledger = d.ledger ∧ (freezeEvents l d).twin = d.twin ∧ (freezeEvents l d).tmr = d.tmr ∧ (freezeEvents l d).alarms = d.alarms ∧ (freezeEvents l d).itms = d.itms ∧ (freezeEvents l d).sources = d.sources ∧ (freezeEvents l d).coll = d.coll ∧ (freezeEvents l d).host = d.host ∧ (freezeEvents l d).net = d.net ∧ (freezeEvents l d).upd = d.upd ∧ (freezeEvents l d).store = d.store ∧ (freezeEvents l d).jrn = d.jrn ∧ (freezeEvents l d).sys = d.sys ∧ (freezeEvents l d).tap = d.tap ∧ (freezeEvents l d).ringMem = d.ringMem ∧ (freezeEvents l d).parcel = d.parcel ∧ (freezeEvents l d).timers = d.timers ∧ (freezeEvents l d).freeCtr = d.freeCtr := by
  unfold freezeEvents
  try dsimp only
  repeat' split
  all_goals simp
@[simp] theorem linkRetrain_frame (l : Fin 5) (left : Nat) (d : Dev) : (linkRetrain l left d).ports = d.ports ∧ (linkRetrain l left d).loops = d.loops ∧ (linkRetrain l left d).sources = d.sources ∧ (linkRetrain l left d).store = d.store ∧ (linkRetrain l left d).tap = d.tap ∧ (linkRetrain l left d).ringMem = d.ringMem ∧ (linkRetrain l left d).parcel = d.parcel := by
  unfold linkRetrain
  try dsimp only
  repeat' split
  all_goals simp
@[simp] theorem stopGrace_frame (n : Fin 768) (d : Dev) : (stopGrace n d).cfg = d.cfg ∧ (stopGrace n d).cfgNew = d.cfgNew ∧ (stopGrace n d).ports = d.ports ∧ (stopGrace n d).pd = d.pd ∧ (stopGrace n d).guards = d.guards ∧ (stopGrace n d).loops = d.loops ∧ (stopGrace n d).phases = d.phases ∧ (stopGrace n d).chans = d.chans ∧ (stopGrace n d).groups = d.groups ∧ (stopGrace n d).convs = d.convs ∧ (stopGrace n d).feeds = d.feeds ∧ (stopGrace n d).posts = d.posts ∧ (stopGrace n d).ledger = d.ledger ∧ (stopGrace n d).twin = d.twin ∧ (stopGrace n d).tmr = d.tmr ∧ (stopGrace n d).alarms = d.alarms ∧ (stopGrace n d).itms = d.itms ∧ (stopGrace n d).net = d.net ∧ (stopGrace n d).upd = d.upd ∧ (stopGrace n d).store = d.store ∧ (stopGrace n d).sys = d.sys ∧ (stopGrace n d).loss = d.loss ∧ (stopGrace n d).tap = d.tap ∧ (stopGrace n d).ringMem = d.ringMem ∧ (stopGrace n d).parcel = d.parcel ∧ (stopGrace n d).freeCtr = d.freeCtr := by
  unfold stopGrace
  try dsimp only
  all_goals simp
@[simp] theorem condEnd_frame (n : Fin 768) (d : Dev) : (condEnd n d).cfg = d.cfg ∧ (condEnd n d).cfgNew = d.cfgNew ∧ (condEnd n d).ports = d.ports ∧ (condEnd n d).guards = d.guards ∧ (condEnd n d).loops = d.loops ∧ (condEnd n d).chans = d.chans ∧ (condEnd n d).groups = d.groups ∧ (condEnd n d).convs = d.convs ∧ (condEnd n d).feeds = d.feeds ∧ (condEnd n d).posts = d.posts ∧ (condEnd n d).ledger = d.ledger ∧ (condEnd n d).twin = d.twin ∧ (condEnd n d).tmr = d.tmr ∧ (condEnd n d).alarms = d.alarms ∧ (condEnd n d).itms = d.itms ∧ (condEnd n d).coll = d.coll ∧ (condEnd n d).net = d.net ∧ (condEnd n d).upd = d.upd ∧ (condEnd n d).store = d.store ∧ (condEnd n d).sys = d.sys ∧ (condEnd n d).loss = d.loss ∧ (condEnd n d).tap = d.tap ∧ (condEnd n d).ringMem = d.ringMem ∧ (condEnd n d).parcel = d.parcel := by
  unfold condEnd
  try dsimp only
  all_goals simp
@[simp] theorem clearLatch_frame (n : Fin 768) (m : Fin 5) (d : Dev) : (clearLatch n m d).cfg = d.cfg ∧ (clearLatch n m d).cfgNew = d.cfgNew ∧ (clearLatch n m d).ports = d.ports ∧ (clearLatch n m d).guards = d.guards ∧ (clearLatch n m d).loops = d.loops ∧ (clearLatch n m d).chans = d.chans ∧ (clearLatch n m d).groups = d.groups ∧ (clearLatch n m d).convs = d.convs ∧ (clearLatch n m d).posts = d.posts ∧ (clearLatch n m d).ledger = d.ledger ∧ (clearLatch n m d).twin = d.twin ∧ (clearLatch n m d).tmr = d.tmr ∧ (clearLatch n m d).alarms = d.alarms ∧ (clearLatch n m d).itms = d.itms ∧ (clearLatch n m d).net = d.net ∧ (clearLatch n m d).upd = d.upd ∧ (clearLatch n m d).store = d.store ∧ (clearLatch n m d).sys = d.sys ∧ (clearLatch n m d).loss = d.loss ∧ (clearLatch n m d).tap = d.tap ∧ (clearLatch n m d).parcel = d.parcel ∧ (clearLatch n m d).freeCtr = d.freeCtr := by
  unfold clearLatch
  try dsimp only
  repeat' split
  all_goals simp
@[simp] theorem relax_frame (n : Fin 768) (d : Dev) : (relax n d).store = d.store ∧ (relax n d).parcel = d.parcel := by
  unfold relax
  try dsimp only
  repeat' split
  all_goals simp
@[simp] theorem putReport_frame (b : List Byte) (result : Nat) (es : List Entry) (us : Nat) (d : Dev) : (putReport b result es us d).cfg = d.cfg ∧ (putReport b result es us d).cfgNew = d.cfgNew ∧ (putReport b result es us d).ports = d.ports ∧ (putReport b result es us d).pd = d.pd ∧ (putReport b result es us d).guards = d.guards ∧ (putReport b result es us d).loops = d.loops ∧ (putReport b result es us d).phases = d.phases ∧ (putReport b result es us d).chans = d.chans ∧ (putReport b result es us d).groups = d.groups ∧ (putReport b result es us d).convs = d.convs ∧ (putReport b result es us d).feeds = d.feeds ∧ (putReport b result es us d).posts = d.posts ∧ (putReport b result es us d).ledger = d.ledger ∧ (putReport b result es us d).twin = d.twin ∧ (putReport b result es us d).tmr = d.tmr ∧ (putReport b result es us d).alarms = d.alarms ∧ (putReport b result es us d).itms = d.itms ∧ (putReport b result es us d).sources = d.sources ∧ (putReport b result es us d).coll = d.coll ∧ (putReport b result es us d).net = d.net ∧ (putReport b result es us d).upd = d.upd ∧ (putReport b result es us d).sys = d.sys ∧ (putReport b result es us d).loss = d.loss ∧ (putReport b result es us d).tap = d.tap ∧ (putReport b result es us d).ringMem = d.ringMem ∧ (putReport b result es us d).parcel = d.parcel := by
  unfold putReport
  try dsimp only
  all_goals simp
@[simp] theorem hardReset_frame (p : Fin 32) (d : Dev) : (hardReset p d).cfg = d.cfg ∧ (hardReset p d).cfgNew = d.cfgNew ∧ (hardReset p d).phases = d.phases ∧ (hardReset p d).groups = d.groups ∧ (hardReset p d).convs = d.convs ∧ (hardReset p d).feeds = d.feeds ∧ (hardReset p d).posts = d.posts ∧ (hardReset p d).ledger = d.ledger ∧ (hardReset p d).twin = d.twin ∧ (hardReset p d).tmr = d.tmr ∧ (hardReset p d).alarms = d.alarms ∧ (hardReset p d).itms = d.itms ∧ (hardReset p d).sources = d.sources ∧ (hardReset p d).coll = d.coll ∧ (hardReset p d).net = d.net ∧ (hardReset p d).upd = d.upd ∧ (hardReset p d).store = d.store ∧ (hardReset p d).sys = d.sys ∧ (hardReset p d).tap = d.tap ∧ (hardReset p d).parcel = d.parcel ∧ (hardReset p d).host.jobs = d.host.jobs := by
  unfold hardReset
  try dsimp only
  repeat' split
  all_goals simp
@[simp] theorem sendSoftReset_frame (p : Fin 32) (d : Dev) : (sendSoftReset p d).guards = d.guards ∧ (sendSoftReset p d).store = d.store ∧ (sendSoftReset p d).loss = d.loss ∧ (sendSoftReset p d).tap = d.tap ∧ (sendSoftReset p d).ringMem = d.ringMem ∧ (sendSoftReset p d).parcel = d.parcel := by
  unfold sendSoftReset
  try dsimp only
  repeat' split
  all_goals simp
@[simp] theorem heard_frame (p : Fin 32) (d : Dev) : (heard p d).cfg = d.cfg ∧ (heard p d).cfgNew = d.cfgNew ∧ (heard p d).ports = d.ports ∧ (heard p d).guards = d.guards ∧ (heard p d).loops = d.loops ∧ (heard p d).phases = d.phases ∧ (heard p d).chans = d.chans ∧ (heard p d).groups = d.groups ∧ (heard p d).convs = d.convs ∧ (heard p d).feeds = d.feeds ∧ (heard p d).posts = d.posts ∧ (heard p d).ledger = d.ledger ∧ (heard p d).twin = d.twin ∧ (heard p d).tmr = d.tmr ∧ (heard p d).alarms = d.alarms ∧ (heard p d).itms = d.itms ∧ (heard p d).sources = d.sources ∧ (heard p d).coll = d.coll ∧ (heard p d).host = d.host ∧ (heard p d).net = d.net ∧ (heard p d).upd = d.upd ∧ (heard p d).store = d.store ∧ (heard p d).jrn = d.jrn ∧ (heard p d).sys = d.sys ∧ (heard p d).loss = d.loss ∧ (heard p d).tap = d.tap ∧ (heard p d).ringMem = d.ringMem ∧ (heard p d).parcel = d.parcel ∧ (heard p d).freeCtr = d.freeCtr := by
  unfold heard
  try dsimp only
  all_goals simp
@[simp] theorem takeMsg_frame (p : Fin 32) (k : PdKind) (d : Dev) : (takeMsg p k d).cfg = d.cfg ∧ (takeMsg p k d).cfgNew = d.cfgNew ∧ (takeMsg p k d).ports = d.ports ∧ (takeMsg p k d).guards = d.guards ∧ (takeMsg p k d).loops = d.loops ∧ (takeMsg p k d).phases = d.phases ∧ (takeMsg p k d).chans = d.chans ∧ (takeMsg p k d).groups = d.groups ∧ (takeMsg p k d).convs = d.convs ∧ (takeMsg p k d).feeds = d.feeds ∧ (takeMsg p k d).posts = d.posts ∧ (takeMsg p k d).ledger = d.ledger ∧ (takeMsg p k d).twin = d.twin ∧ (takeMsg p k d).tmr = d.tmr ∧ (takeMsg p k d).alarms = d.alarms ∧ (takeMsg p k d).itms = d.itms ∧ (takeMsg p k d).sources = d.sources ∧ (takeMsg p k d).coll = d.coll ∧ (takeMsg p k d).host = d.host ∧ (takeMsg p k d).net = d.net ∧ (takeMsg p k d).upd = d.upd ∧ (takeMsg p k d).store = d.store ∧ (takeMsg p k d).jrn = d.jrn ∧ (takeMsg p k d).sys = d.sys ∧ (takeMsg p k d).loss = d.loss ∧ (takeMsg p k d).tap = d.tap ∧ (takeMsg p k d).ringMem = d.ringMem ∧ (takeMsg p k d).parcel = d.parcel ∧ (takeMsg p k d).freeCtr = d.freeCtr := by
  unfold takeMsg
  try dsimp only
  repeat' split
  all_goals simp
@[simp] theorem rejectAsk_frame (p : Fin 32) (d : Dev) : (rejectAsk p d).store = d.store ∧ (rejectAsk p d).loss = d.loss ∧ (rejectAsk p d).tap = d.tap ∧ (rejectAsk p d).ringMem = d.ringMem ∧ (rejectAsk p d).parcel = d.parcel := by
  unfold rejectAsk
  try dsimp only
  repeat' split
  all_goals simp
@[simp] theorem acceptAsk_frame (p : Fin 32) (a : Ask) (rdo : Word) (d : Dev) : (acceptAsk p a rdo d).guards = d.guards ∧ (acceptAsk p a rdo d).store = d.store ∧ (acceptAsk p a rdo d).tap = d.tap ∧ (acceptAsk p a rdo d).parcel = d.parcel := by
  unfold acceptAsk
  try dsimp only
  all_goals simp
@[simp] theorem evaluate_frame (p : Fin 32) (rdo : Word) (epr : Option Word) (d : Dev) : (evaluate p rdo epr d).store = d.store ∧ (evaluate p rdo epr d).parcel = d.parcel := by
  unfold evaluate
  try dsimp only
  repeat' split
  all_goals simp
@[simp] theorem establish_frame (p : Fin 32) (d : Dev) : (establish p d).loops = d.loops ∧ (establish p d).store = d.store ∧ (establish p d).loss = d.loss ∧ (establish p d).tap = d.tap ∧ (establish p d).parcel = d.parcel := by
  unfold establish
  try dsimp only
  all_goals simp
@[simp] theorem tryPsRdy_frame (p : Fin 32) (d : Dev) : (tryPsRdy p d).loops = d.loops ∧ (tryPsRdy p d).store = d.store ∧ (tryPsRdy p d).loss = d.loss ∧ (tryPsRdy p d).tap = d.tap ∧ (tryPsRdy p d).parcel = d.parcel := by
  unfold tryPsRdy
  try dsimp only
  repeat' split
  all_goals simp
@[simp] theorem moveReference_frame (p : Fin 32) (d : Dev) : (moveReference p d).store = d.store ∧ (moveReference p d).parcel = d.parcel := by
  unfold moveReference
  try dsimp only
  repeat' split
  all_goals simp
@[simp] theorem discover_frame (p : Fin 32) (d : Dev) : (discover p d).cfg = d.cfg ∧ (discover p d).cfgNew = d.cfgNew ∧ (discover p d).ports = d.ports ∧ (discover p d).loops = d.loops ∧ (discover p d).phases = d.phases ∧ (discover p d).groups = d.groups ∧ (discover p d).convs = d.convs ∧ (discover p d).feeds = d.feeds ∧ (discover p d).posts = d.posts ∧ (discover p d).ledger = d.ledger ∧ (discover p d).twin = d.twin ∧ (discover p d).tmr = d.tmr ∧ (discover p d).alarms = d.alarms ∧ (discover p d).itms = d.itms ∧ (discover p d).sources = d.sources ∧ (discover p d).coll = d.coll ∧ (discover p d).host = d.host ∧ (discover p d).net = d.net ∧ (discover p d).upd = d.upd ∧ (discover p d).store = d.store ∧ (discover p d).jrn = d.jrn ∧ (discover p d).sys = d.sys ∧ (discover p d).loss = d.loss ∧ (discover p d).tap = d.tap ∧ (discover p d).ringMem = d.ringMem ∧ (discover p d).parcel = d.parcel ∧ (discover p d).freeCtr = d.freeCtr := by
  unfold discover
  try dsimp only
  all_goals simp
@[simp] theorem discoverTry_frame (p : Fin 32) (d : Dev) : (discoverTry p d).cfg = d.cfg ∧ (discoverTry p d).cfgNew = d.cfgNew ∧ (discoverTry p d).loops = d.loops ∧ (discoverTry p d).phases = d.phases ∧ (discoverTry p d).groups = d.groups ∧ (discoverTry p d).convs = d.convs ∧ (discoverTry p d).feeds = d.feeds ∧ (discoverTry p d).posts = d.posts ∧ (discoverTry p d).ledger = d.ledger ∧ (discoverTry p d).twin = d.twin ∧ (discoverTry p d).tmr = d.tmr ∧ (discoverTry p d).alarms = d.alarms ∧ (discoverTry p d).itms = d.itms ∧ (discoverTry p d).sources = d.sources ∧ (discoverTry p d).coll = d.coll ∧ (discoverTry p d).host = d.host ∧ (discoverTry p d).net = d.net ∧ (discoverTry p d).upd = d.upd ∧ (discoverTry p d).store = d.store ∧ (discoverTry p d).jrn = d.jrn ∧ (discoverTry p d).sys = d.sys ∧ (discoverTry p d).loss = d.loss ∧ (discoverTry p d).tap = d.tap ∧ (discoverTry p d).ringMem = d.ringMem ∧ (discoverTry p d).parcel = d.parcel ∧ (discoverTry p d).freeCtr = d.freeCtr := by
  unfold discoverTry
  try dsimp only
  repeat' split
  all_goals simp
@[simp] theorem discoverEnd_frame (p : Fin 32) (d : Dev) : (discoverEnd p d).cfg = d.cfg ∧ (discoverEnd p d).cfgNew = d.cfgNew ∧ (discoverEnd p d).loops = d.loops ∧ (discoverEnd p d).phases = d.phases ∧ (discoverEnd p d).groups = d.groups ∧ (discoverEnd p d).convs = d.convs ∧ (discoverEnd p d).feeds = d.feeds ∧ (discoverEnd p d).posts = d.posts ∧ (discoverEnd p d).ledger = d.ledger ∧ (discoverEnd p d).twin = d.twin ∧ (discoverEnd p d).tmr = d.tmr ∧ (discoverEnd p d).alarms = d.alarms ∧ (discoverEnd p d).itms = d.itms ∧ (discoverEnd p d).sources = d.sources ∧ (discoverEnd p d).coll = d.coll ∧ (discoverEnd p d).host = d.host ∧ (discoverEnd p d).net = d.net ∧ (discoverEnd p d).upd = d.upd ∧ (discoverEnd p d).store = d.store ∧ (discoverEnd p d).jrn = d.jrn ∧ (discoverEnd p d).sys = d.sys ∧ (discoverEnd p d).loss = d.loss ∧ (discoverEnd p d).tap = d.tap ∧ (discoverEnd p d).ringMem = d.ringMem ∧ (discoverEnd p d).parcel = d.parcel ∧ (discoverEnd p d).freeCtr = d.freeCtr := by
  unfold discoverEnd
  try dsimp only
  repeat' split
  all_goals simp
@[simp] theorem discoverNext_frame (p : Fin 32) (d0 : Dev) : (discoverNext p d0).cfg = d0.cfg ∧ (discoverNext p d0).cfgNew = d0.cfgNew ∧ (discoverNext p d0).loops = d0.loops ∧ (discoverNext p d0).phases = d0.phases ∧ (discoverNext p d0).groups = d0.groups ∧ (discoverNext p d0).convs = d0.convs ∧ (discoverNext p d0).feeds = d0.feeds ∧ (discoverNext p d0).posts = d0.posts ∧ (discoverNext p d0).ledger = d0.ledger ∧ (discoverNext p d0).twin = d0.twin ∧ (discoverNext p d0).tmr = d0.tmr ∧ (discoverNext p d0).alarms = d0.alarms ∧ (discoverNext p d0).itms = d0.itms ∧ (discoverNext p d0).sources = d0.sources ∧ (discoverNext p d0).coll = d0.coll ∧ (discoverNext p d0).host = d0.host ∧ (discoverNext p d0).net = d0.net ∧ (discoverNext p d0).upd = d0.upd ∧ (discoverNext p d0).store = d0.store ∧ (discoverNext p d0).jrn = d0.jrn ∧ (discoverNext p d0).sys = d0.sys ∧ (discoverNext p d0).loss = d0.loss ∧ (discoverNext p d0).tap = d0.tap ∧ (discoverNext p d0).ringMem = d0.ringMem ∧ (discoverNext p d0).parcel = d0.parcel ∧ (discoverNext p d0).freeCtr = d0.freeCtr := by
  unfold discoverNext
  try dsimp only
  repeat' split
  all_goals simp
@[simp] theorem swapSrcOff_frame (p : Fin 32) (d : Dev) : (swapSrcOff p d).store = d.store ∧ (swapSrcOff p d).tap = d.tap ∧ (swapSrcOff p d).ringMem = d.ringMem ∧ (swapSrcOff p d).parcel = d.parcel := by
  unfold swapSrcOff
  try dsimp only
  all_goals simp
@[simp] theorem swapSnkOn_frame (p : Fin 32) (d : Dev) : (swapSnkOn p d).store = d.store ∧ (swapSnkOn p d).tap = d.tap ∧ (swapSnkOn p d).ringMem = d.ringMem ∧ (swapSnkOn p d).parcel = d.parcel := by
  unfold swapSnkOn
  try dsimp only
  all_goals simp
@[simp] theorem hrAtZero_frame (p : Fin 32) (d : Dev) : (hrAtZero p d).store = d.store ∧ (hrAtZero p d).tap = d.tap ∧ (hrAtZero p d).ringMem = d.ringMem ∧ (hrAtZero p d).parcel = d.parcel := by
  unfold hrAtZero
  try dsimp only
  all_goals simp
@[simp] theorem toUnattachedSnk_frame (p : Fin 32) (d : Dev) : (toUnattachedSnk p d).store = d.store ∧ (toUnattachedSnk p d).loss = d.loss ∧ (toUnattachedSnk p d).tap = d.tap ∧ (toUnattachedSnk p d).ringMem = d.ringMem ∧ (toUnattachedSnk p d).parcel = d.parcel := by
  unfold toUnattachedSnk
  try dsimp only
  repeat' split
  all_goals simp
@[simp] theorem enterTrySrc_frame (p : Fin 32) (d : Dev) : (enterTrySrc p d).cfg = d.cfg ∧ (enterTrySrc p d).cfgNew = d.cfgNew ∧ (enterTrySrc p d).loops = d.loops ∧ (enterTrySrc p d).groups = d.groups ∧ (enterTrySrc p d).convs = d.convs ∧ (enterTrySrc p d).feeds = d.feeds ∧ (enterTrySrc p d).posts = d.posts ∧ (enterTrySrc p d).twin = d.twin ∧ (enterTrySrc p d).tmr = d.tmr ∧ (enterTrySrc p d).alarms = d.alarms ∧ (enterTrySrc p d).itms = d.itms ∧ (enterTrySrc p d).sources = d.sources ∧ (enterTrySrc p d).coll = d.coll ∧ (enterTrySrc p d).net = d.net ∧ (enterTrySrc p d).upd = d.upd ∧ (enterTrySrc p d).store = d.store ∧ (enterTrySrc p d).sys = d.sys ∧ (enterTrySrc p d).loss = d.loss ∧ (enterTrySrc p d).tap = d.tap ∧ (enterTrySrc p d).ringMem = d.ringMem ∧ (enterTrySrc p d).parcel = d.parcel := by
  unfold enterTrySrc
  try dsimp only
  all_goals simp
@[simp] theorem minimalAttach_frame (p : Fin 32) (d : Dev) : (minimalAttach p d).cfg = d.cfg ∧ (minimalAttach p d).cfgNew = d.cfgNew ∧ (minimalAttach p d).guards = d.guards ∧ (minimalAttach p d).chans = d.chans ∧ (minimalAttach p d).groups = d.groups ∧ (minimalAttach p d).convs = d.convs ∧ (minimalAttach p d).feeds = d.feeds ∧ (minimalAttach p d).posts = d.posts ∧ (minimalAttach p d).ledger = d.ledger ∧ (minimalAttach p d).twin = d.twin ∧ (minimalAttach p d).tmr = d.tmr ∧ (minimalAttach p d).alarms = d.alarms ∧ (minimalAttach p d).itms = d.itms ∧ (minimalAttach p d).sources = d.sources ∧ (minimalAttach p d).coll = d.coll ∧ (minimalAttach p d).host = d.host ∧ (minimalAttach p d).net = d.net ∧ (minimalAttach p d).upd = d.upd ∧ (minimalAttach p d).store = d.store ∧ (minimalAttach p d).jrn = d.jrn ∧ (minimalAttach p d).sys = d.sys ∧ (minimalAttach p d).loss = d.loss ∧ (minimalAttach p d).tap = d.tap ∧ (minimalAttach p d).ringMem = d.ringMem ∧ (minimalAttach p d).parcel = d.parcel ∧ (minimalAttach p d).timers = d.timers := by
  unfold minimalAttach
  try dsimp only
  repeat' split
  all_goals simp
@[simp] theorem tryAttach_frame (p : Fin 32) (d : Dev) : (tryAttach p d).cfg = d.cfg ∧ (tryAttach p d).cfgNew = d.cfgNew ∧ (tryAttach p d).groups = d.groups ∧ (tryAttach p d).convs = d.convs ∧ (tryAttach p d).feeds = d.feeds ∧ (tryAttach p d).posts = d.posts ∧ (tryAttach p d).twin = d.twin ∧ (tryAttach p d).tmr = d.tmr ∧ (tryAttach p d).alarms = d.alarms ∧ (tryAttach p d).itms = d.itms ∧ (tryAttach p d).sources = d.sources ∧ (tryAttach p d).coll = d.coll ∧ (tryAttach p d).net = d.net ∧ (tryAttach p d).upd = d.upd ∧ (tryAttach p d).store = d.store ∧ (tryAttach p d).sys = d.sys ∧ (tryAttach p d).tap = d.tap ∧ (tryAttach p d).parcel = d.parcel := by
  unfold tryAttach
  try dsimp only
  repeat' split
  all_goals simp
@[simp] theorem tryAttachAll_frame (d : Dev) : (tryAttachAll d).cfg = d.cfg ∧ (tryAttachAll d).cfgNew = d.cfgNew ∧ (tryAttachAll d).groups = d.groups ∧ (tryAttachAll d).convs = d.convs ∧ (tryAttachAll d).feeds = d.feeds ∧ (tryAttachAll d).posts = d.posts ∧ (tryAttachAll d).twin = d.twin ∧ (tryAttachAll d).tmr = d.tmr ∧ (tryAttachAll d).alarms = d.alarms ∧ (tryAttachAll d).itms = d.itms ∧ (tryAttachAll d).sources = d.sources ∧ (tryAttachAll d).coll = d.coll ∧ (tryAttachAll d).net = d.net ∧ (tryAttachAll d).upd = d.upd ∧ (tryAttachAll d).store = d.store ∧ (tryAttachAll d).sys = d.sys ∧ (tryAttachAll d).tap = d.tap ∧ (tryAttachAll d).parcel = d.parcel := by
  unfold tryAttachAll
  try dsimp only
  all_goals simp
@[simp] theorem sinkDetach_frame (p : Fin 32) (d : Dev) : (sinkDetach p d).parcel = d.parcel := by
  unfold sinkDetach
  try dsimp only
  all_goals simp
@[simp] theorem wakeUp_frame (d : Dev) : (wakeUp d).cfg = d.cfg ∧ (wakeUp d).tmr = d.tmr ∧ (wakeUp d).alarms = d.alarms ∧ (wakeUp d).store = d.store ∧ (wakeUp d).loss = d.loss ∧ (wakeUp d).tap = d.tap ∧ (wakeUp d).parcel = d.parcel := by
  unfold wakeUp
  try dsimp only
  repeat' split
  all_goals simp
@[simp] theorem pdPop_frame (p : Fin 32) (d : Dev) : (pdPop p d).ports = d.ports ∧ (pdPop p d).guards = d.guards ∧ (pdPop p d).loops = d.loops ∧ (pdPop p d).phases = d.phases ∧ (pdPop p d).sources = d.sources ∧ (pdPop p d).store = d.store ∧ (pdPop p d).loss = d.loss ∧ (pdPop p d).tap = d.tap ∧ (pdPop p d).ringMem = d.ringMem ∧ (pdPop p d).parcel = d.parcel := by
  unfold pdPop
  try dsimp only
  repeat' split
  all_goals simp
@[simp] theorem serviceAnswer_frame (p : Fin 32) (cmd : Nat) (tag : Fin 128) (status : Nat) (payload : List Byte) (d : Dev) : (serviceAnswer p cmd tag status payload d).store = d.store ∧ (serviceAnswer p cmd tag status payload d).loss = d.loss ∧ (serviceAnswer p cmd tag status payload d).tap = d.tap ∧ (serviceAnswer p cmd tag status payload d).ringMem = d.ringMem ∧ (serviceAnswer p cmd tag status payload d).parcel = d.parcel := by
  unfold serviceAnswer
  try dsimp only
  all_goals simp
@[simp] theorem takeMessage_frame (p : Fin 32) (msg : PdMsg) (d : Dev) : (takeMessage p msg d).cfg = d.cfg ∧ (takeMessage p msg d).cfgNew = d.cfgNew ∧ (takeMessage p msg d).guards = d.guards ∧ (takeMessage p msg d).loops = d.loops ∧ (takeMessage p msg d).phases = d.phases ∧ (takeMessage p msg d).chans = d.chans ∧ (takeMessage p msg d).groups = d.groups ∧ (takeMessage p msg d).convs = d.convs ∧ (takeMessage p msg d).feeds = d.feeds ∧ (takeMessage p msg d).posts = d.posts ∧ (takeMessage p msg d).ledger = d.ledger ∧ (takeMessage p msg d).twin = d.twin ∧ (takeMessage p msg d).tmr = d.tmr ∧ (takeMessage p msg d).alarms = d.alarms ∧ (takeMessage p msg d).itms = d.itms ∧ (takeMessage p msg d).sources = d.sources ∧ (takeMessage p msg d).coll = d.coll ∧ (takeMessage p msg d).host = d.host ∧ (takeMessage p msg d).net = d.net ∧ (takeMessage p msg d).upd = d.upd ∧ (takeMessage p msg d).store = d.store ∧ (takeMessage p msg d).jrn = d.jrn ∧ (takeMessage p msg d).sys = d.sys ∧ (takeMessage p msg d).loss = d.loss ∧ (takeMessage p msg d).tap = d.tap ∧ (takeMessage p msg d).ringMem = d.ringMem ∧ (takeMessage p msg d).parcel = d.parcel ∧ (takeMessage p msg d).freeCtr = d.freeCtr := by
  unfold takeMessage
  try dsimp only
  repeat' split
  all_goals simp
@[simp] theorem sendChunk_frame (p : Fin 32) (t : PdTx) (d : Dev) : (sendChunk p t d).store = d.store ∧ (sendChunk p t d).loss = d.loss ∧ (sendChunk p t d).tap = d.tap ∧ (sendChunk p t d).ringMem = d.ringMem ∧ (sendChunk p t d).parcel = d.parcel := by
  unfold sendChunk
  try dsimp only
  repeat' split
  all_goals simp
@[simp] theorem enterEpr_frame (p : Fin 32) (d : Dev) : (enterEpr p d).store = d.store ∧ (enterEpr p d).loss = d.loss ∧ (enterEpr p d).tap = d.tap ∧ (enterEpr p d).ringMem = d.ringMem ∧ (enterEpr p d).parcel = d.parcel := by
  unfold enterEpr
  try dsimp only
  all_goals simp
@[simp] theorem acceptSent_frame (p : Fin 32) (d : Dev) : (acceptSent p d).store = d.store ∧ (acceptSent p d).tap = d.tap ∧ (acceptSent p d).ringMem = d.ringMem ∧ (acceptSent p d).parcel = d.parcel := by
  unfold acceptSent
  try dsimp only
  repeat' split
  all_goals simp
@[simp] theorem psRdySent_frame (p : Fin 32) (d : Dev) : (psRdySent p d).store = d.store ∧ (psRdySent p d).loss = d.loss ∧ (psRdySent p d).tap = d.tap ∧ (psRdySent p d).ringMem = d.ringMem ∧ (psRdySent p d).parcel = d.parcel := by
  unfold psRdySent
  try dsimp only
  repeat' split
  all_goals simp
@[simp] theorem messageSent_frame (p : Fin 32) (t : PdTx) (d : Dev) : (messageSent p t d).store = d.store ∧ (messageSent p t d).tap = d.tap ∧ (messageSent p t d).ringMem = d.ringMem ∧ (messageSent p t d).parcel = d.parcel := by
  unfold messageSent
  try dsimp only
  repeat' split
  all_goals simp
@[simp] theorem rejectMsg_frame (p : Fin 32) (d : Dev) : (rejectMsg p d).store = d.store ∧ (rejectMsg p d).loss = d.loss ∧ (rejectMsg p d).tap = d.tap ∧ (rejectMsg p d).ringMem = d.ringMem ∧ (rejectMsg p d).parcel = d.parcel := by
  unfold rejectMsg
  try dsimp only
  all_goals simp
@[simp] theorem acceptSwap_frame (p : Fin 32) (a : Ams) (d : Dev) : (acceptSwap p a d).store = d.store ∧ (acceptSwap p a d).loss = d.loss ∧ (acceptSwap p a d).tap = d.tap ∧ (acceptSwap p a d).ringMem = d.ringMem ∧ (acceptSwap p a d).parcel = d.parcel := by
  unfold acceptSwap
  try dsimp only
  all_goals simp
@[simp] theorem sinkContract_frame (p : Fin 32) (d : Dev) : (sinkContract p d).store = d.store ∧ (sinkContract p d).parcel = d.parcel := by
  unfold sinkContract
  try dsimp only
  all_goals simp
@[simp] theorem restoreDone_frame (n : Fin 64) (k : Code) (d : Dev) : (restoreDone n k d).store = d.store ∧ (restoreDone n k d).parcel = d.parcel := by
  unfold restoreDone
  try dsimp only
  all_goals simp
@[simp] theorem restoreIn_frame (n : Fin 64) (d : Dev) : (restoreIn n d).store = d.store ∧ (restoreIn n d).parcel = d.parcel := by
  unfold restoreIn
  try dsimp only
  repeat' split
  all_goals simp
@[simp] theorem feedTryEnable_frame (f : Fin 4) (d : Dev) : (feedTryEnable f d).cfg = d.cfg ∧ (feedTryEnable f d).cfgNew = d.cfgNew ∧ (feedTryEnable f d).ports = d.ports ∧ (feedTryEnable f d).pd = d.pd ∧ (feedTryEnable f d).guards = d.guards ∧ (feedTryEnable f d).loops = d.loops ∧ (feedTryEnable f d).phases = d.phases ∧ (feedTryEnable f d).groups = d.groups ∧ (feedTryEnable f d).convs = d.convs ∧ (feedTryEnable f d).posts = d.posts ∧ (feedTryEnable f d).ledger = d.ledger ∧ (feedTryEnable f d).twin = d.twin ∧ (feedTryEnable f d).tmr = d.tmr ∧ (feedTryEnable f d).alarms = d.alarms ∧ (feedTryEnable f d).itms = d.itms ∧ (feedTryEnable f d).sources = d.sources ∧ (feedTryEnable f d).coll = d.coll ∧ (feedTryEnable f d).host = d.host ∧ (feedTryEnable f d).net = d.net ∧ (feedTryEnable f d).upd = d.upd ∧ (feedTryEnable f d).store = d.store ∧ (feedTryEnable f d).jrn = d.jrn ∧ (feedTryEnable f d).sys = d.sys ∧ (feedTryEnable f d).loss = d.loss ∧ (feedTryEnable f d).tap = d.tap ∧ (feedTryEnable f d).ringMem = d.ringMem ∧ (feedTryEnable f d).parcel = d.parcel := by
  unfold feedTryEnable
  try dsimp only
  repeat' split
  all_goals simp
@[simp] theorem feedOff_frame (f : Fin 4) (d : Dev) : (feedOff f d).cfg = d.cfg ∧ (feedOff f d).cfgNew = d.cfgNew ∧ (feedOff f d).ports = d.ports ∧ (feedOff f d).pd = d.pd ∧ (feedOff f d).guards = d.guards ∧ (feedOff f d).loops = d.loops ∧ (feedOff f d).phases = d.phases ∧ (feedOff f d).groups = d.groups ∧ (feedOff f d).convs = d.convs ∧ (feedOff f d).posts = d.posts ∧ (feedOff f d).ledger = d.ledger ∧ (feedOff f d).twin = d.twin ∧ (feedOff f d).tmr = d.tmr ∧ (feedOff f d).alarms = d.alarms ∧ (feedOff f d).itms = d.itms ∧ (feedOff f d).sources = d.sources ∧ (feedOff f d).coll = d.coll ∧ (feedOff f d).host = d.host ∧ (feedOff f d).net = d.net ∧ (feedOff f d).upd = d.upd ∧ (feedOff f d).store = d.store ∧ (feedOff f d).jrn = d.jrn ∧ (feedOff f d).sys = d.sys ∧ (feedOff f d).loss = d.loss ∧ (feedOff f d).tap = d.tap ∧ (feedOff f d).ringMem = d.ringMem ∧ (feedOff f d).parcel = d.parcel := by
  unfold feedOff
  try dsimp only
  all_goals simp
@[simp] theorem feedRamp_frame (f : Fin 4) (d : Dev) : (feedRamp f d).store = d.store ∧ (feedRamp f d).loss = d.loss ∧ (feedRamp f d).tap = d.tap ∧ (feedRamp f d).ringMem = d.ringMem ∧ (feedRamp f d).parcel = d.parcel := by
  unfold feedRamp
  try dsimp only
  all_goals simp
@[simp] theorem fetCooled_frame (f : Fin 4) (d : Dev) : (fetCooled f d).store = d.store ∧ (fetCooled f d).loss = d.loss ∧ (fetCooled f d).tap = d.tap ∧ (fetCooled f d).ringMem = d.ringMem ∧ (fetCooled f d).parcel = d.parcel := by
  unfold fetCooled
  try dsimp only
  repeat' split
  all_goals simp
@[simp] theorem resumeDrp_frame (p : Fin 32) (d : Dev) : (resumeDrp p d).cfg = d.cfg ∧ (resumeDrp p d).cfgNew = d.cfgNew ∧ (resumeDrp p d).ports = d.ports ∧ (resumeDrp p d).pd = d.pd ∧ (resumeDrp p d).guards = d.guards ∧ (resumeDrp p d).loops = d.loops ∧ (resumeDrp p d).phases = d.phases ∧ (resumeDrp p d).chans = d.chans ∧ (resumeDrp p d).groups = d.groups ∧ (resumeDrp p d).convs = d.convs ∧ (resumeDrp p d).feeds = d.feeds ∧ (resumeDrp p d).posts = d.posts ∧ (resumeDrp p d).ledger = d.ledger ∧ (resumeDrp p d).twin = d.twin ∧ (resumeDrp p d).tmr = d.tmr ∧ (resumeDrp p d).alarms = d.alarms ∧ (resumeDrp p d).itms = d.itms ∧ (resumeDrp p d).sources = d.sources ∧ (resumeDrp p d).coll = d.coll ∧ (resumeDrp p d).host = d.host ∧ (resumeDrp p d).net = d.net ∧ (resumeDrp p d).upd = d.upd ∧ (resumeDrp p d).store = d.store ∧ (resumeDrp p d).jrn = d.jrn ∧ (resumeDrp p d).sys = d.sys ∧ (resumeDrp p d).loss = d.loss ∧ (resumeDrp p d).tap = d.tap ∧ (resumeDrp p d).ringMem = d.ringMem ∧ (resumeDrp p d).parcel = d.parcel ∧ (resumeDrp p d).freeCtr = d.freeCtr := by
  unfold resumeDrp
  try dsimp only
  repeat' split
  all_goals simp
@[simp] theorem busGood_frame (busB : Bool) (d : Dev) : (busGood busB d).store = d.store ∧ (busGood busB d).parcel = d.parcel := by
  unfold busGood
  try dsimp only
  all_goals simp
@[simp] theorem onClosed_frame (p : Fin 32) (d : Dev) : (onClosed p d).store = d.store ∧ (onClosed p d).loss = d.loss ∧ (onClosed p d).tap = d.tap ∧ (onClosed p d).ringMem = d.ringMem ∧ (onClosed p d).parcel = d.parcel := by
  unfold onClosed
  try dsimp only
  repeat' split
  all_goals simp
@[simp] theorem refuse_frame (m : Fin 5) (d : Dev) : (refuse m d).cfg = d.cfg ∧ (refuse m d).cfgNew = d.cfgNew ∧ (refuse m d).ports = d.ports ∧ (refuse m d).pd = d.pd ∧ (refuse m d).guards = d.guards ∧ (refuse m d).loops = d.loops ∧ (refuse m d).phases = d.phases ∧ (refuse m d).chans = d.chans ∧ (refuse m d).groups = d.groups ∧ (refuse m d).convs = d.convs ∧ (refuse m d).feeds = d.feeds ∧ (refuse m d).posts = d.posts ∧ (refuse m d).ledger = d.ledger ∧ (refuse m d).twin = d.twin ∧ (refuse m d).tmr = d.tmr ∧ (refuse m d).alarms = d.alarms ∧ (refuse m d).itms = d.itms ∧ (refuse m d).sources = d.sources ∧ (refuse m d).coll = d.coll ∧ (refuse m d).net = d.net ∧ (refuse m d).upd = d.upd ∧ (refuse m d).store = d.store ∧ (refuse m d).jrn = d.jrn ∧ (refuse m d).sys = d.sys ∧ (refuse m d).loss = d.loss ∧ (refuse m d).tap = d.tap ∧ (refuse m d).ringMem = d.ringMem ∧ (refuse m d).parcel = d.parcel ∧ (refuse m d).timers = d.timers := by
  unfold refuse
  try dsimp only
  all_goals simp
@[simp] theorem unmappedRead_frame (m : Fin 5) (d : Dev) : (unmappedRead m d).store = d.store ∧ (unmappedRead m d).loss = d.loss ∧ (unmappedRead m d).tap = d.tap ∧ (unmappedRead m d).ringMem = d.ringMem ∧ (unmappedRead m d).parcel = d.parcel := by
  unfold unmappedRead
  try dsimp only
  all_goals simp
@[simp] theorem onSeq_frame (cv : Fin 5) (sq : Fin 16) (f : Sequence → Sequence) (d : Dev) : (onSeq cv sq f d).cfg = d.cfg ∧ (onSeq cv sq f d).cfgNew = d.cfgNew ∧ (onSeq cv sq f d).ports = d.ports ∧ (onSeq cv sq f d).pd = d.pd ∧ (onSeq cv sq f d).guards = d.guards ∧ (onSeq cv sq f d).loops = d.loops ∧ (onSeq cv sq f d).phases = d.phases ∧ (onSeq cv sq f d).chans = d.chans ∧ (onSeq cv sq f d).groups = d.groups ∧ (onSeq cv sq f d).feeds = d.feeds ∧ (onSeq cv sq f d).posts = d.posts ∧ (onSeq cv sq f d).ledger = d.ledger ∧ (onSeq cv sq f d).twin = d.twin ∧ (onSeq cv sq f d).tmr = d.tmr ∧ (onSeq cv sq f d).alarms = d.alarms ∧ (onSeq cv sq f d).itms = d.itms ∧ (onSeq cv sq f d).sources = d.sources ∧ (onSeq cv sq f d).coll = d.coll ∧ (onSeq cv sq f d).host = d.host ∧ (onSeq cv sq f d).net = d.net ∧ (onSeq cv sq f d).upd = d.upd ∧ (onSeq cv sq f d).store = d.store ∧ (onSeq cv sq f d).jrn = d.jrn ∧ (onSeq cv sq f d).sys = d.sys ∧ (onSeq cv sq f d).loss = d.loss ∧ (onSeq cv sq f d).tap = d.tap ∧ (onSeq cv sq f d).ringMem = d.ringMem ∧ (onSeq cv sq f d).parcel = d.parcel ∧ (onSeq cv sq f d).timers = d.timers := by
  unfold onSeq
  try dsimp only
  all_goals simp
@[simp] theorem trigSeq_frame (cv : Fin 5) (sq : Fin 16) (stamp : Nat) (d : Dev) : (trigSeq cv sq stamp d).cfg = d.cfg ∧ (trigSeq cv sq stamp d).cfgNew = d.cfgNew ∧ (trigSeq cv sq stamp d).ports = d.ports ∧ (trigSeq cv sq stamp d).pd = d.pd ∧ (trigSeq cv sq stamp d).guards = d.guards ∧ (trigSeq cv sq stamp d).loops = d.loops ∧ (trigSeq cv sq stamp d).phases = d.phases ∧ (trigSeq cv sq stamp d).chans = d.chans ∧ (trigSeq cv sq stamp d).groups = d.groups ∧ (trigSeq cv sq stamp d).feeds = d.feeds ∧ (trigSeq cv sq stamp d).posts = d.posts ∧ (trigSeq cv sq stamp d).ledger = d.ledger ∧ (trigSeq cv sq stamp d).twin = d.twin ∧ (trigSeq cv sq stamp d).tmr = d.tmr ∧ (trigSeq cv sq stamp d).alarms = d.alarms ∧ (trigSeq cv sq stamp d).itms = d.itms ∧ (trigSeq cv sq stamp d).sources = d.sources ∧ (trigSeq cv sq stamp d).coll = d.coll ∧ (trigSeq cv sq stamp d).host = d.host ∧ (trigSeq cv sq stamp d).net = d.net ∧ (trigSeq cv sq stamp d).upd = d.upd ∧ (trigSeq cv sq stamp d).store = d.store ∧ (trigSeq cv sq stamp d).jrn = d.jrn ∧ (trigSeq cv sq stamp d).sys = d.sys ∧ (trigSeq cv sq stamp d).loss = d.loss ∧ (trigSeq cv sq stamp d).tap = d.tap ∧ (trigSeq cv sq stamp d).ringMem = d.ringMem ∧ (trigSeq cv sq stamp d).parcel = d.parcel ∧ (trigSeq cv sq stamp d).timers = d.timers := by
  unfold trigSeq
  try dsimp only
  repeat' split
  all_goals simp
@[simp] theorem seqNext_frame (cv : Fin 5) (d : Dev) : (seqNext cv d).store = d.store ∧ (seqNext cv d).loss = d.loss ∧ (seqNext cv d).tap = d.tap ∧ (seqNext cv d).ringMem = d.ringMem ∧ (seqNext cv d).parcel = d.parcel := by
  unfold seqNext
  try dsimp only
  repeat' split
  all_goals simp
@[simp] theorem putResult_frame (ch : Fin 204) (v : BitVec 16) (d : Dev) : (putResult ch v d).cfg = d.cfg ∧ (putResult ch v d).cfgNew = d.cfgNew ∧ (putResult ch v d).ports = d.ports ∧ (putResult ch v d).pd = d.pd ∧ (putResult ch v d).guards = d.guards ∧ (putResult ch v d).loops = d.loops ∧ (putResult ch v d).phases = d.phases ∧ (putResult ch v d).groups = d.groups ∧ (putResult ch v d).convs = d.convs ∧ (putResult ch v d).feeds = d.feeds ∧ (putResult ch v d).posts = d.posts ∧ (putResult ch v d).ledger = d.ledger ∧ (putResult ch v d).twin = d.twin ∧ (putResult ch v d).tmr = d.tmr ∧ (putResult ch v d).alarms = d.alarms ∧ (putResult ch v d).itms = d.itms ∧ (putResult ch v d).sources = d.sources ∧ (putResult ch v d).coll = d.coll ∧ (putResult ch v d).host = d.host ∧ (putResult ch v d).net = d.net ∧ (putResult ch v d).upd = d.upd ∧ (putResult ch v d).store = d.store ∧ (putResult ch v d).jrn = d.jrn ∧ (putResult ch v d).sys = d.sys ∧ (putResult ch v d).loss = d.loss ∧ (putResult ch v d).tap = d.tap ∧ (putResult ch v d).ringMem = d.ringMem ∧ (putResult ch v d).parcel = d.parcel ∧ (putResult ch v d).timers = d.timers := by
  unfold putResult
  try dsimp only
  all_goals simp
@[simp] theorem putGot_frame (g : Option (Fin 204 × BitVec 16)) (d : Dev) : (putGot g d).cfg = d.cfg ∧ (putGot g d).cfgNew = d.cfgNew ∧ (putGot g d).ports = d.ports ∧ (putGot g d).pd = d.pd ∧ (putGot g d).guards = d.guards ∧ (putGot g d).loops = d.loops ∧ (putGot g d).phases = d.phases ∧ (putGot g d).groups = d.groups ∧ (putGot g d).convs = d.convs ∧ (putGot g d).feeds = d.feeds ∧ (putGot g d).posts = d.posts ∧ (putGot g d).ledger = d.ledger ∧ (putGot g d).twin = d.twin ∧ (putGot g d).tmr = d.tmr ∧ (putGot g d).alarms = d.alarms ∧ (putGot g d).itms = d.itms ∧ (putGot g d).sources = d.sources ∧ (putGot g d).coll = d.coll ∧ (putGot g d).host = d.host ∧ (putGot g d).net = d.net ∧ (putGot g d).upd = d.upd ∧ (putGot g d).store = d.store ∧ (putGot g d).jrn = d.jrn ∧ (putGot g d).sys = d.sys ∧ (putGot g d).loss = d.loss ∧ (putGot g d).tap = d.tap ∧ (putGot g d).ringMem = d.ringMem ∧ (putGot g d).parcel = d.parcel ∧ (putGot g d).timers = d.timers := by
  unfold putGot
  try dsimp only
  repeat' split
  all_goals simp
@[simp] theorem trigMany_frame (cv : Fin 5) (v : Word) (d : Dev) : (trigMany cv v d).store = d.store ∧ (trigMany cv v d).loss = d.loss ∧ (trigMany cv v d).tap = d.tap ∧ (trigMany cv v d).ringMem = d.ringMem ∧ (trigMany cv v d).parcel = d.parcel := by
  unfold trigMany
  try dsimp only
  all_goals simp
@[simp] theorem zoneTriggers_frame (ch : Fin 204) (stamp : Nat) (d : Dev) : (zoneTriggers ch stamp d).cfg = d.cfg ∧ (zoneTriggers ch stamp d).cfgNew = d.cfgNew ∧ (zoneTriggers ch stamp d).ports = d.ports ∧ (zoneTriggers ch stamp d).pd = d.pd ∧ (zoneTriggers ch stamp d).guards = d.guards ∧ (zoneTriggers ch stamp d).loops = d.loops ∧ (zoneTriggers ch stamp d).phases = d.phases ∧ (zoneTriggers ch stamp d).chans = d.chans ∧ (zoneTriggers ch stamp d).groups = d.groups ∧ (zoneTriggers ch stamp d).feeds = d.feeds ∧ (zoneTriggers ch stamp d).posts = d.posts ∧ (zoneTriggers ch stamp d).ledger = d.ledger ∧ (zoneTriggers ch stamp d).twin = d.twin ∧ (zoneTriggers ch stamp d).tmr = d.tmr ∧ (zoneTriggers ch stamp d).alarms = d.alarms ∧ (zoneTriggers ch stamp d).itms = d.itms ∧ (zoneTriggers ch stamp d).sources = d.sources ∧ (zoneTriggers ch stamp d).coll = d.coll ∧ (zoneTriggers ch stamp d).host = d.host ∧ (zoneTriggers ch stamp d).net = d.net ∧ (zoneTriggers ch stamp d).upd = d.upd ∧ (zoneTriggers ch stamp d).store = d.store ∧ (zoneTriggers ch stamp d).jrn = d.jrn ∧ (zoneTriggers ch stamp d).sys = d.sys ∧ (zoneTriggers ch stamp d).loss = d.loss ∧ (zoneTriggers ch stamp d).tap = d.tap ∧ (zoneTriggers ch stamp d).ringMem = d.ringMem ∧ (zoneTriggers ch stamp d).parcel = d.parcel ∧ (zoneTriggers ch stamp d).timers = d.timers := by
  unfold zoneTriggers
  simp
@[simp] theorem loadBuffer_frame (b : Fin 21) (cv : Fin 5) (sq : Fin 16) (d : Dev) : (loadBuffer b cv sq d).cfg = d.cfg ∧ (loadBuffer b cv sq d).tmr = d.tmr ∧ (loadBuffer b cv sq d).alarms = d.alarms ∧ (loadBuffer b cv sq d).store = d.store ∧ (loadBuffer b cv sq d).loss = d.loss ∧ (loadBuffer b cv sq d).tap = d.tap ∧ (loadBuffer b cv sq d).ringMem = d.ringMem ∧ (loadBuffer b cv sq d).parcel = d.parcel := by
  unfold loadBuffer
  try dsimp only
  all_goals simp
@[simp] theorem capture_frame (t : Fin 16) (ch : Fin 204) (z : Zone) (stamp : Nat) (d : Dev) : (capture t ch z stamp d).cfg = d.cfg ∧ (capture t ch z stamp d).cfgNew = d.cfgNew ∧ (capture t ch z stamp d).ports = d.ports ∧ (capture t ch z stamp d).pd = d.pd ∧ (capture t ch z stamp d).guards = d.guards ∧ (capture t ch z stamp d).loops = d.loops ∧ (capture t ch z stamp d).phases = d.phases ∧ (capture t ch z stamp d).chans = d.chans ∧ (capture t ch z stamp d).groups = d.groups ∧ (capture t ch z stamp d).feeds = d.feeds ∧ (capture t ch z stamp d).posts = d.posts ∧ (capture t ch z stamp d).ledger = d.ledger ∧ (capture t ch z stamp d).twin = d.twin ∧ (capture t ch z stamp d).alarms = d.alarms ∧ (capture t ch z stamp d).sources = d.sources ∧ (capture t ch z stamp d).coll = d.coll ∧ (capture t ch z stamp d).host = d.host ∧ (capture t ch z stamp d).net = d.net ∧ (capture t ch z stamp d).upd = d.upd ∧ (capture t ch z stamp d).store = d.store ∧ (capture t ch z stamp d).jrn = d.jrn ∧ (capture t ch z stamp d).sys = d.sys ∧ (capture t ch z stamp d).loss = d.loss ∧ (capture t ch z stamp d).tap = d.tap ∧ (capture t ch z stamp d).ringMem = d.ringMem ∧ (capture t ch z stamp d).parcel = d.parcel ∧ (capture t ch z stamp d).timers = d.timers := by
  unfold capture
  try dsimp only
  repeat' split
  all_goals simp
@[simp] theorem calAdvance_frame (g : Fin 25) (c : Fin 204) (d : Dev) : (calAdvance g c d).store = d.store ∧ (calAdvance g c d).loss = d.loss ∧ (calAdvance g c d).tap = d.tap ∧ (calAdvance g c d).ringMem = d.ringMem ∧ (calAdvance g c d).parcel = d.parcel := by
  unfold calAdvance
  try dsimp only
  repeat' split
  all_goals simp
@[simp] theorem calFinish_frame (c : Fin 204) (err : Int) (d : Dev) : (calFinish c err d).store = d.store ∧ (calFinish c err d).parcel = d.parcel := by
  unfold calFinish
  try dsimp only
  repeat' split
  all_goals simp
@[simp] theorem calCtl_frame (v : Word) (d : Dev) : (calCtl v d).store = d.store ∧ (calCtl v d).loss = d.loss ∧ (calCtl v d).tap = d.tap ∧ (calCtl v d).ringMem = d.ringMem ∧ (calCtl v d).parcel = d.parcel := by
  unfold calCtl
  try dsimp only
  all_goals simp
@[simp] theorem readEffect_frame (b : Fin 21) (a : Nat) (d : Dev) : (readEffect b a d).cfg = d.cfg ∧ (readEffect b a d).alarms = d.alarms ∧ (readEffect b a d).store = d.store ∧ (readEffect b a d).loss = d.loss ∧ (readEffect b a d).tap = d.tap ∧ (readEffect b a d).ringMem = d.ringMem ∧ (readEffect b a d).parcel = d.parcel := by
  unfold readEffect
  try dsimp only
  repeat' split
  all_goals simp
@[simp] theorem refetch_frame (r : Fin 16) (d : Dev) : (refetch r d).cfg = d.cfg ∧ (refetch r d).cfgNew = d.cfgNew ∧ (refetch r d).ports = d.ports ∧ (refetch r d).pd = d.pd ∧ (refetch r d).guards = d.guards ∧ (refetch r d).loops = d.loops ∧ (refetch r d).phases = d.phases ∧ (refetch r d).chans = d.chans ∧ (refetch r d).groups = d.groups ∧ (refetch r d).convs = d.convs ∧ (refetch r d).feeds = d.feeds ∧ (refetch r d).posts = d.posts ∧ (refetch r d).ledger = d.ledger ∧ (refetch r d).twin = d.twin ∧ (refetch r d).tmr = d.tmr ∧ (refetch r d).alarms = d.alarms ∧ (refetch r d).itms = d.itms ∧ (refetch r d).sources = d.sources ∧ (refetch r d).coll = d.coll ∧ (refetch r d).host = d.host ∧ (refetch r d).net = d.net ∧ (refetch r d).upd = d.upd ∧ (refetch r d).store = d.store ∧ (refetch r d).jrn = d.jrn ∧ (refetch r d).sys = d.sys ∧ (refetch r d).loss = d.loss ∧ (refetch r d).tap = d.tap ∧ (refetch r d).ringMem = d.ringMem ∧ (refetch r d).parcel = d.parcel := by
  unfold refetch
  try dsimp only
  repeat' split
  all_goals simp
@[simp] theorem wantFetch_frame (r : Fin 16) (d : Dev) : (wantFetch r d).cfg = d.cfg ∧ (wantFetch r d).tmr = d.tmr ∧ (wantFetch r d).alarms = d.alarms ∧ (wantFetch r d).store = d.store ∧ (wantFetch r d).loss = d.loss ∧ (wantFetch r d).tap = d.tap ∧ (wantFetch r d).parcel = d.parcel := by
  unfold wantFetch
  try dsimp only
  all_goals simp
@[simp] theorem cmpHi_frame (a : Fin 32) (v : Word) (d : Dev) : (cmpHi a v d).store = d.store ∧ (cmpHi a v d).loss = d.loss ∧ (cmpHi a v d).tap = d.tap ∧ (cmpHi a v d).ringMem = d.ringMem ∧ (cmpHi a v d).parcel = d.parcel := by
  unfold cmpHi
  try dsimp only
  all_goals simp
@[simp] theorem cancelAlarm_frame (a : Fin 32) (d : Dev) : (cancelAlarm a d).store = d.store ∧ (cancelAlarm a d).loss = d.loss ∧ (cancelAlarm a d).tap = d.tap ∧ (cancelAlarm a d).ringMem = d.ringMem ∧ (cancelAlarm a d).parcel = d.parcel := by
  unfold cancelAlarm
  try dsimp only
  all_goals simp
@[simp] theorem startItm_frame (t : Fin 16) (d : Dev) : (startItm t d).store = d.store ∧ (startItm t d).loss = d.loss ∧ (startItm t d).tap = d.tap ∧ (startItm t d).ringMem = d.ringMem ∧ (startItm t d).parcel = d.parcel := by
  unfold startItm
  try dsimp only
  all_goals simp
@[simp] theorem releaseItm_frame (t : Fin 16) (d : Dev) : (releaseItm t d).cfg = d.cfg ∧ (releaseItm t d).cfgNew = d.cfgNew ∧ (releaseItm t d).ports = d.ports ∧ (releaseItm t d).pd = d.pd ∧ (releaseItm t d).guards = d.guards ∧ (releaseItm t d).loops = d.loops ∧ (releaseItm t d).phases = d.phases ∧ (releaseItm t d).chans = d.chans ∧ (releaseItm t d).groups = d.groups ∧ (releaseItm t d).convs = d.convs ∧ (releaseItm t d).feeds = d.feeds ∧ (releaseItm t d).posts = d.posts ∧ (releaseItm t d).ledger = d.ledger ∧ (releaseItm t d).twin = d.twin ∧ (releaseItm t d).tmr = d.tmr ∧ (releaseItm t d).alarms = d.alarms ∧ (releaseItm t d).sources = d.sources ∧ (releaseItm t d).coll = d.coll ∧ (releaseItm t d).host = d.host ∧ (releaseItm t d).net = d.net ∧ (releaseItm t d).upd = d.upd ∧ (releaseItm t d).store = d.store ∧ (releaseItm t d).jrn = d.jrn ∧ (releaseItm t d).sys = d.sys ∧ (releaseItm t d).loss = d.loss ∧ (releaseItm t d).tap = d.tap ∧ (releaseItm t d).ringMem = d.ringMem ∧ (releaseItm t d).parcel = d.parcel ∧ (releaseItm t d).timers = d.timers := by
  unfold releaseItm
  try dsimp only
  all_goals simp
@[simp] theorem reloadItm_frame (t : Fin 16) (v : Word) (d : Dev) : (reloadItm t v d).store = d.store ∧ (reloadItm t v d).loss = d.loss ∧ (reloadItm t v d).tap = d.tap ∧ (reloadItm t v d).ringMem = d.ringMem ∧ (reloadItm t v d).parcel = d.parcel := by
  unfold reloadItm
  try dsimp only
  all_goals simp
@[simp] theorem stopItm_frame (t : Fin 16) (d : Dev) : (stopItm t d).store = d.store ∧ (stopItm t d).loss = d.loss ∧ (stopItm t d).tap = d.tap ∧ (stopItm t d).ringMem = d.ringMem ∧ (stopItm t d).parcel = d.parcel := by
  unfold stopItm
  try dsimp only
  all_goals simp
@[simp] theorem popCapture_frame (t : Fin 16) (d : Dev) : (popCapture t d).store = d.store ∧ (popCapture t d).loss = d.loss ∧ (popCapture t d).tap = d.tap ∧ (popCapture t d).ringMem = d.ringMem ∧ (popCapture t d).parcel = d.parcel := by
  unfold popCapture
  try dsimp only
  all_goals simp
@[simp] theorem goRelease_frame (mask : Nat) (d : Dev) : (goRelease mask d).store = d.store ∧ (goRelease mask d).loss = d.loss ∧ (goRelease mask d).tap = d.tap ∧ (goRelease mask d).ringMem = d.ringMem ∧ (goRelease mask d).parcel = d.parcel := by
  unfold goRelease
  try dsimp only
  all_goals simp
@[simp] theorem goWrite_frame (v : Word) (d : Dev) : (goWrite v d).store = d.store ∧ (goWrite v d).loss = d.loss ∧ (goWrite v d).tap = d.tap ∧ (goWrite v d).ringMem = d.ringMem ∧ (goWrite v d).parcel = d.parcel := by
  unfold goWrite
  try dsimp only
  all_goals simp
@[simp] theorem tbStep_frame (k : Nat) (shift : Bool) (d : Dev) : (tbStep k shift d).cfg = d.cfg ∧ (tbStep k shift d).cfgNew = d.cfgNew ∧ (tbStep k shift d).ports = d.ports ∧ (tbStep k shift d).guards = d.guards ∧ (tbStep k shift d).loops = d.loops ∧ (tbStep k shift d).ledger = d.ledger ∧ (tbStep k shift d).net = d.net ∧ (tbStep k shift d).upd = d.upd ∧ (tbStep k shift d).store = d.store ∧ (tbStep k shift d).sys = d.sys ∧ (tbStep k shift d).loss = d.loss ∧ (tbStep k shift d).tap = d.tap ∧ (tbStep k shift d).parcel = d.parcel := by
  unfold tbStep
  try dsimp only
  repeat' split
  all_goals simp
@[simp] theorem enablePort_frame (p : Fin 32) (d : Dev) : (enablePort p d).store = d.store ∧ (enablePort p d).loss = d.loss ∧ (enablePort p d).tap = d.tap ∧ (enablePort p d).ringMem = d.ringMem ∧ (enablePort p d).parcel = d.parcel := by
  unfold enablePort
  try dsimp only
  all_goals simp
@[simp] theorem cmdPortEnable_frame (c : CmdRef) (p : Fin 32) (d : Dev) : (cmdPortEnable c p d).store = d.store ∧ (cmdPortEnable c p d).parcel = d.parcel := by
  unfold cmdPortEnable
  try dsimp only
  repeat' split
  all_goals simp
@[simp] theorem cmdRestorePhase_frame (c : CmdRef) (n : Fin 64) (d : Dev) : (cmdRestorePhase c n d).store = d.store ∧ (cmdRestorePhase c n d).parcel = d.parcel := by
  unfold cmdRestorePhase
  try dsimp only
  repeat' split
  all_goals simp
@[simp] theorem ledgerEvent_frame (i : Nat) (d : Dev) : (ledgerEvent i d).cfg = d.cfg ∧ (ledgerEvent i d).cfgNew = d.cfgNew ∧ (ledgerEvent i d).ports = d.ports ∧ (ledgerEvent i d).guards = d.guards ∧ (ledgerEvent i d).loops = d.loops ∧ (ledgerEvent i d).feeds = d.feeds ∧ (ledgerEvent i d).posts = d.posts ∧ (ledgerEvent i d).twin = d.twin ∧ (ledgerEvent i d).tmr = d.tmr ∧ (ledgerEvent i d).sources = d.sources ∧ (ledgerEvent i d).net = d.net ∧ (ledgerEvent i d).upd = d.upd ∧ (ledgerEvent i d).store = d.store ∧ (ledgerEvent i d).sys = d.sys ∧ (ledgerEvent i d).loss = d.loss ∧ (ledgerEvent i d).tap = d.tap ∧ (ledgerEvent i d).parcel = d.parcel := by
  unfold ledgerEvent
  try dsimp only
  all_goals simp
@[simp] theorem postPut_frame (l : Fin 3) (h : PostHdr) (o : PostOut) (d : Dev) : (postPut l h o d).cfg = d.cfg ∧ (postPut l h o d).cfgNew = d.cfgNew ∧ (postPut l h o d).ports = d.ports ∧ (postPut l h o d).pd = d.pd ∧ (postPut l h o d).guards = d.guards ∧ (postPut l h o d).loops = d.loops ∧ (postPut l h o d).phases = d.phases ∧ (postPut l h o d).chans = d.chans ∧ (postPut l h o d).groups = d.groups ∧ (postPut l h o d).convs = d.convs ∧ (postPut l h o d).feeds = d.feeds ∧ (postPut l h o d).twin = d.twin ∧ (postPut l h o d).tmr = d.tmr ∧ (postPut l h o d).alarms = d.alarms ∧ (postPut l h o d).itms = d.itms ∧ (postPut l h o d).sources = d.sources ∧ (postPut l h o d).coll = d.coll ∧ (postPut l h o d).host = d.host ∧ (postPut l h o d).net = d.net ∧ (postPut l h o d).upd = d.upd ∧ (postPut l h o d).store = d.store ∧ (postPut l h o d).jrn = d.jrn ∧ (postPut l h o d).sys = d.sys ∧ (postPut l h o d).loss = d.loss ∧ (postPut l h o d).tap = d.tap ∧ (postPut l h o d).ringMem = d.ringMem ∧ (postPut l h o d).parcel = d.parcel ∧ (postPut l h o d).timers = d.timers ∧ (postPut l h o d).freeCtr = d.freeCtr := by
  unfold postPut
  try dsimp only
  repeat' split
  all_goals simp
@[simp] theorem postSend_frame (ls : List (Fin 3)) (o : PostOut) (d : Dev) : (postSend ls o d).cfg = d.cfg ∧ (postSend ls o d).cfgNew = d.cfgNew ∧ (postSend ls o d).ports = d.ports ∧ (postSend ls o d).pd = d.pd ∧ (postSend ls o d).guards = d.guards ∧ (postSend ls o d).loops = d.loops ∧ (postSend ls o d).phases = d.phases ∧ (postSend ls o d).chans = d.chans ∧ (postSend ls o d).groups = d.groups ∧ (postSend ls o d).convs = d.convs ∧ (postSend ls o d).feeds = d.feeds ∧ (postSend ls o d).twin = d.twin ∧ (postSend ls o d).tmr = d.tmr ∧ (postSend ls o d).alarms = d.alarms ∧ (postSend ls o d).itms = d.itms ∧ (postSend ls o d).sources = d.sources ∧ (postSend ls o d).coll = d.coll ∧ (postSend ls o d).host = d.host ∧ (postSend ls o d).net = d.net ∧ (postSend ls o d).upd = d.upd ∧ (postSend ls o d).store = d.store ∧ (postSend ls o d).jrn = d.jrn ∧ (postSend ls o d).sys = d.sys ∧ (postSend ls o d).loss = d.loss ∧ (postSend ls o d).tap = d.tap ∧ (postSend ls o d).ringMem = d.ringMem ∧ (postSend ls o d).parcel = d.parcel ∧ (postSend ls o d).timers = d.timers ∧ (postSend ls o d).freeCtr = d.freeCtr := by
  unfold postSend
  try dsimp only
  all_goals simp
@[simp] theorem postForward_frame (ls : List (Fin 3)) (h : PostHdr) (o : PostOut) (d : Dev) : (postForward ls h o d).cfg = d.cfg ∧ (postForward ls h o d).cfgNew = d.cfgNew ∧ (postForward ls h o d).ports = d.ports ∧ (postForward ls h o d).guards = d.guards ∧ (postForward ls h o d).loops = d.loops ∧ (postForward ls h o d).tmr = d.tmr ∧ (postForward ls h o d).sources = d.sources ∧ (postForward ls h o d).net = d.net ∧ (postForward ls h o d).upd = d.upd ∧ (postForward ls h o d).store = d.store ∧ (postForward ls h o d).sys = d.sys ∧ (postForward ls h o d).loss = d.loss ∧ (postForward ls h o d).tap = d.tap ∧ (postForward ls h o d).ringMem = d.ringMem ∧ (postForward ls h o d).parcel = d.parcel := by
  unfold postForward
  try dsimp only
  all_goals simp
@[simp] theorem sendCard_frame (d : Dev) : (sendCard d).cfg = d.cfg ∧ (sendCard d).cfgNew = d.cfgNew ∧ (sendCard d).ports = d.ports ∧ (sendCard d).pd = d.pd ∧ (sendCard d).guards = d.guards ∧ (sendCard d).loops = d.loops ∧ (sendCard d).phases = d.phases ∧ (sendCard d).chans = d.chans ∧ (sendCard d).groups = d.groups ∧ (sendCard d).convs = d.convs ∧ (sendCard d).feeds = d.feeds ∧ (sendCard d).twin = d.twin ∧ (sendCard d).tmr = d.tmr ∧ (sendCard d).alarms = d.alarms ∧ (sendCard d).itms = d.itms ∧ (sendCard d).sources = d.sources ∧ (sendCard d).coll = d.coll ∧ (sendCard d).host = d.host ∧ (sendCard d).net = d.net ∧ (sendCard d).upd = d.upd ∧ (sendCard d).store = d.store ∧ (sendCard d).jrn = d.jrn ∧ (sendCard d).sys = d.sys ∧ (sendCard d).loss = d.loss ∧ (sendCard d).tap = d.tap ∧ (sendCard d).ringMem = d.ringMem ∧ (sendCard d).parcel = d.parcel ∧ (sendCard d).timers = d.timers ∧ (sendCard d).freeCtr = d.freeCtr := by
  unfold sendCard
  try dsimp only
  repeat' split
  all_goals simp
@[simp] theorem cardCheck_frame (d : Dev) : (cardCheck d).cfg = d.cfg ∧ (cardCheck d).cfgNew = d.cfgNew ∧ (cardCheck d).ports = d.ports ∧ (cardCheck d).pd = d.pd ∧ (cardCheck d).guards = d.guards ∧ (cardCheck d).loops = d.loops ∧ (cardCheck d).phases = d.phases ∧ (cardCheck d).chans = d.chans ∧ (cardCheck d).groups = d.groups ∧ (cardCheck d).convs = d.convs ∧ (cardCheck d).feeds = d.feeds ∧ (cardCheck d).twin = d.twin ∧ (cardCheck d).tmr = d.tmr ∧ (cardCheck d).alarms = d.alarms ∧ (cardCheck d).itms = d.itms ∧ (cardCheck d).sources = d.sources ∧ (cardCheck d).coll = d.coll ∧ (cardCheck d).host = d.host ∧ (cardCheck d).net = d.net ∧ (cardCheck d).upd = d.upd ∧ (cardCheck d).store = d.store ∧ (cardCheck d).jrn = d.jrn ∧ (cardCheck d).sys = d.sys ∧ (cardCheck d).loss = d.loss ∧ (cardCheck d).tap = d.tap ∧ (cardCheck d).ringMem = d.ringMem ∧ (cardCheck d).parcel = d.parcel ∧ (cardCheck d).timers = d.timers ∧ (cardCheck d).freeCtr = d.freeCtr := by
  unfold cardCheck
  try dsimp only
  repeat' split
  all_goals simp
@[simp] theorem startElection_frame (d : Dev) : (startElection d).cfg = d.cfg ∧ (startElection d).cfgNew = d.cfgNew ∧ (startElection d).ports = d.ports ∧ (startElection d).guards = d.guards ∧ (startElection d).loops = d.loops ∧ (startElection d).net = d.net ∧ (startElection d).upd = d.upd ∧ (startElection d).store = d.store ∧ (startElection d).sys = d.sys ∧ (startElection d).loss = d.loss ∧ (startElection d).tap = d.tap ∧ (startElection d).parcel = d.parcel := by
  unfold startElection
  try dsimp only
  repeat' split
  all_goals simp
@[simp] theorem markSeen_frame (h : PostHdr) (d : Dev) : (markSeen h d).cfg = d.cfg ∧ (markSeen h d).cfgNew = d.cfgNew ∧ (markSeen h d).ports = d.ports ∧ (markSeen h d).guards = d.guards ∧ (markSeen h d).loops = d.loops ∧ (markSeen h d).sources = d.sources ∧ (markSeen h d).net = d.net ∧ (markSeen h d).upd = d.upd ∧ (markSeen h d).store = d.store ∧ (markSeen h d).sys = d.sys ∧ (markSeen h d).loss = d.loss ∧ (markSeen h d).tap = d.tap ∧ (markSeen h d).ringMem = d.ringMem ∧ (markSeen h d).parcel = d.parcel := by
  unfold markSeen
  try dsimp only
  all_goals simp
@[simp] theorem helloUp_frame (l : Fin 3) (x : Hello) (d : Dev) : (helloUp l x d).cfg = d.cfg ∧ (helloUp l x d).cfgNew = d.cfgNew ∧ (helloUp l x d).ports = d.ports ∧ (helloUp l x d).guards = d.guards ∧ (helloUp l x d).loops = d.loops ∧ (helloUp l x d).sources = d.sources ∧ (helloUp l x d).net = d.net ∧ (helloUp l x d).upd = d.upd ∧ (helloUp l x d).store = d.store ∧ (helloUp l x d).sys = d.sys ∧ (helloUp l x d).loss = d.loss ∧ (helloUp l x d).tap = d.tap ∧ (helloUp l x d).ringMem = d.ringMem ∧ (helloUp l x d).parcel = d.parcel := by
  unfold helloUp
  try dsimp only
  all_goals simp
@[simp] theorem takeElect_frame (l : Fin 3) (h : PostHdr) (x : Elect) (d : Dev) : (takeElect l h x d).cfg = d.cfg ∧ (takeElect l h x d).cfgNew = d.cfgNew ∧ (takeElect l h x d).ports = d.ports ∧ (takeElect l h x d).guards = d.guards ∧ (takeElect l h x d).loops = d.loops ∧ (takeElect l h x d).sources = d.sources ∧ (takeElect l h x d).net = d.net ∧ (takeElect l h x d).upd = d.upd ∧ (takeElect l h x d).store = d.store ∧ (takeElect l h x d).sys = d.sys ∧ (takeElect l h x d).loss = d.loss ∧ (takeElect l h x d).tap = d.tap ∧ (takeElect l h x d).ringMem = d.ringMem ∧ (takeElect l h x d).parcel = d.parcel := by
  unfold takeElect
  try dsimp only
  repeat' split
  all_goals simp
@[simp] theorem planBoundary_frame (d : Dev) : (planBoundary d).alarms = d.alarms ∧ (planBoundary d).store = d.store ∧ (planBoundary d).loss = d.loss ∧ (planBoundary d).tap = d.tap ∧ (planBoundary d).ringMem = d.ringMem ∧ (planBoundary d).parcel = d.parcel := by
  unfold planBoundary
  try dsimp only
  all_goals simp
@[simp] theorem steerBy_frame (neg zero : Bool) (d : Dev) : (steerBy neg zero d).cfg = d.cfg ∧ (steerBy neg zero d).cfgNew = d.cfgNew ∧ (steerBy neg zero d).ports = d.ports ∧ (steerBy neg zero d).guards = d.guards ∧ (steerBy neg zero d).loops = d.loops ∧ (steerBy neg zero d).sources = d.sources ∧ (steerBy neg zero d).net = d.net ∧ (steerBy neg zero d).upd = d.upd ∧ (steerBy neg zero d).store = d.store ∧ (steerBy neg zero d).sys = d.sys ∧ (steerBy neg zero d).loss = d.loss ∧ (steerBy neg zero d).tap = d.tap ∧ (steerBy neg zero d).ringMem = d.ringMem ∧ (steerBy neg zero d).parcel = d.parcel := by
  unfold steerBy
  try dsimp only
  repeat' split
  all_goals simp
@[simp] theorem applyAllot_frame (w : Nat) (d : Dev) : (applyAllot w d).cfg = d.cfg ∧ (applyAllot w d).cfgNew = d.cfgNew ∧ (applyAllot w d).feeds = d.feeds ∧ (applyAllot w d).posts = d.posts ∧ (applyAllot w d).twin = d.twin ∧ (applyAllot w d).tmr = d.tmr ∧ (applyAllot w d).upd = d.upd ∧ (applyAllot w d).store = d.store ∧ (applyAllot w d).sys = d.sys ∧ (applyAllot w d).loss = d.loss ∧ (applyAllot w d).tap = d.tap ∧ (applyAllot w d).parcel = d.parcel := by
  unfold applyAllot
  try dsimp only
  repeat' split
  all_goals simp
@[simp] theorem applyStanding_frame (d : Dev) : (applyStanding d).store = d.store ∧ (applyStanding d).parcel = d.parcel := by
  unfold applyStanding
  try dsimp only
  all_goals simp
@[simp] theorem dateHands_frame (o : Order) (d : Dev) : (dateHands o d).cfg = d.cfg ∧ (dateHands o d).cfgNew = d.cfgNew ∧ (dateHands o d).feeds = d.feeds ∧ (dateHands o d).twin = d.twin ∧ (dateHands o d).tmr = d.tmr ∧ (dateHands o d).sources = d.sources ∧ (dateHands o d).net = d.net ∧ (dateHands o d).store = d.store ∧ (dateHands o d).loss = d.loss ∧ (dateHands o d).tap = d.tap ∧ (dateHands o d).ringMem = d.ringMem ∧ (dateHands o d).parcel = d.parcel := by
  unfold dateHands
  try dsimp only
  all_goals simp
@[simp] theorem orderEffect_frame (o : Order) (d : Dev) : (orderEffect o d).ringMem = d.ringMem ∧ (orderEffect o d).parcel = d.parcel := by
  unfold orderEffect
  try dsimp only
  repeat' split
  all_goals simp
@[simp] theorem planOrders_frame (d : Dev) : (planOrders d).cfg = d.cfg ∧ (planOrders d).cfgNew = d.cfgNew ∧ (planOrders d).ports = d.ports ∧ (planOrders d).pd = d.pd ∧ (planOrders d).guards = d.guards ∧ (planOrders d).loops = d.loops ∧ (planOrders d).phases = d.phases ∧ (planOrders d).chans = d.chans ∧ (planOrders d).groups = d.groups ∧ (planOrders d).convs = d.convs ∧ (planOrders d).feeds = d.feeds ∧ (planOrders d).posts = d.posts ∧ (planOrders d).ledger = d.ledger ∧ (planOrders d).twin = d.twin ∧ (planOrders d).tmr = d.tmr ∧ (planOrders d).alarms = d.alarms ∧ (planOrders d).itms = d.itms ∧ (planOrders d).sources = d.sources ∧ (planOrders d).coll = d.coll ∧ (planOrders d).host = d.host ∧ (planOrders d).net = d.net ∧ (planOrders d).upd = d.upd ∧ (planOrders d).store = d.store ∧ (planOrders d).jrn = d.jrn ∧ (planOrders d).sys = d.sys ∧ (planOrders d).loss = d.loss ∧ (planOrders d).tap = d.tap ∧ (planOrders d).ringMem = d.ringMem ∧ (planOrders d).parcel = d.parcel := by
  unfold planOrders
  try dsimp only
  repeat' split
  all_goals simp
@[simp] theorem orderDone_frame (n : Nat) (k : Code) (tEff : Nat) (d : Dev) : (orderDone n k tEff d).parcel = d.parcel := by
  unfold orderDone
  try dsimp only
  repeat' split
  all_goals simp
@[simp] theorem floodOrder_frame (o : Order) (d : Dev) : (floodOrder o d).cfg = d.cfg ∧ (floodOrder o d).cfgNew = d.cfgNew ∧ (floodOrder o d).ports = d.ports ∧ (floodOrder o d).guards = d.guards ∧ (floodOrder o d).loops = d.loops ∧ (floodOrder o d).feeds = d.feeds ∧ (floodOrder o d).twin = d.twin ∧ (floodOrder o d).tmr = d.tmr ∧ (floodOrder o d).sources = d.sources ∧ (floodOrder o d).net = d.net ∧ (floodOrder o d).upd = d.upd ∧ (floodOrder o d).store = d.store ∧ (floodOrder o d).sys = d.sys ∧ (floodOrder o d).loss = d.loss ∧ (floodOrder o d).tap = d.tap ∧ (floodOrder o d).ringMem = d.ringMem ∧ (floodOrder o d).parcel = d.parcel ∧ (floodOrder o d).timers = d.timers := by
  unfold floodOrder
  try dsimp only
  all_goals simp
@[simp] theorem lowerCaps_frame (d : Dev) : (lowerCaps d).store = d.store ∧ (lowerCaps d).loss = d.loss ∧ (lowerCaps d).tap = d.tap ∧ (lowerCaps d).ringMem = d.ringMem ∧ (lowerCaps d).parcel = d.parcel := by
  unfold lowerCaps
  try dsimp only
  all_goals simp
@[simp] theorem takeParent_frame (l : Fin 3) (h : PostHdr) (fresh : Bool) (d : Dev) : (takeParent l h fresh d).cfg = d.cfg ∧ (takeParent l h fresh d).cfgNew = d.cfgNew ∧ (takeParent l h fresh d).ports = d.ports ∧ (takeParent l h fresh d).guards = d.guards ∧ (takeParent l h fresh d).loops = d.loops ∧ (takeParent l h fresh d).tmr = d.tmr ∧ (takeParent l h fresh d).sources = d.sources ∧ (takeParent l h fresh d).net = d.net ∧ (takeParent l h fresh d).upd = d.upd ∧ (takeParent l h fresh d).store = d.store ∧ (takeParent l h fresh d).sys = d.sys ∧ (takeParent l h fresh d).loss = d.loss ∧ (takeParent l h fresh d).tap = d.tap ∧ (takeParent l h fresh d).ringMem = d.ringMem ∧ (takeParent l h fresh d).parcel = d.parcel := by
  unfold takeParent
  try dsimp only
  all_goals simp
@[simp] theorem takeBid_frame (l : Fin 3) (b : Bid) (d : Dev) : (takeBid l b d).store = d.store ∧ (takeBid l b d).loss = d.loss ∧ (takeBid l b d).tap = d.tap ∧ (takeBid l b d).ringMem = d.ringMem ∧ (takeBid l b d).parcel = d.parcel := by
  unfold takeBid
  try dsimp only
  repeat' split
  all_goals simp
@[simp] theorem enterCard_frame (k : Card) (d : Dev) : (enterCard k d).store = d.store ∧ (enterCard k d).loss = d.loss ∧ (enterCard k d).tap = d.tap ∧ (enterCard k d).parcel = d.parcel := by
  unfold enterCard
  try dsimp only
  repeat' split
  all_goals simp
@[simp] theorem takeCard_frame (l : Fin 3) (h : PostHdr) (k : Card) (d : Dev) : (takeCard l h k d).store = d.store ∧ (takeCard l h k d).loss = d.loss ∧ (takeCard l h k d).tap = d.tap ∧ (takeCard l h k d).parcel = d.parcel := by
  unfold takeCard
  try dsimp only
  repeat' split
  all_goals simp
@[simp] theorem journalMap_frame (old new : List Member) (d : Dev) : (journalMap old new d).cfg = d.cfg ∧ (journalMap old new d).cfgNew = d.cfgNew ∧ (journalMap old new d).ports = d.ports ∧ (journalMap old new d).guards = d.guards ∧ (journalMap old new d).loops = d.loops ∧ (journalMap old new d).posts = d.posts ∧ (journalMap old new d).ledger = d.ledger ∧ (journalMap old new d).twin = d.twin ∧ (journalMap old new d).tmr = d.tmr ∧ (journalMap old new d).sources = d.sources ∧ (journalMap old new d).net = d.net ∧ (journalMap old new d).upd = d.upd ∧ (journalMap old new d).store = d.store ∧ (journalMap old new d).sys = d.sys ∧ (journalMap old new d).loss = d.loss ∧ (journalMap old new d).tap = d.tap ∧ (journalMap old new d).parcel = d.parcel := by
  unfold journalMap
  try dsimp only
  all_goals simp
@[simp] theorem planPeriod_frame (d : Dev) : (planPeriod d).cfg = d.cfg ∧ (planPeriod d).cfgNew = d.cfgNew ∧ (planPeriod d).ports = d.ports ∧ (planPeriod d).feeds = d.feeds ∧ (planPeriod d).posts = d.posts ∧ (planPeriod d).twin = d.twin ∧ (planPeriod d).tmr = d.tmr ∧ (planPeriod d).upd = d.upd ∧ (planPeriod d).store = d.store ∧ (planPeriod d).sys = d.sys ∧ (planPeriod d).loss = d.loss ∧ (planPeriod d).tap = d.tap ∧ (planPeriod d).ringMem = d.ringMem ∧ (planPeriod d).parcel = d.parcel := by
  unfold planPeriod
  try dsimp only
  repeat' split
  all_goals simp
@[simp] theorem ledgerStart_frame (d : Dev) : (ledgerStart d).alarms = d.alarms ∧ (ledgerStart d).store = d.store ∧ (ledgerStart d).loss = d.loss ∧ (ledgerStart d).tap = d.tap ∧ (ledgerStart d).ringMem = d.ringMem ∧ (ledgerStart d).parcel = d.parcel := by
  unfold ledgerStart
  try dsimp only
  repeat' split
  all_goals simp
@[simp] theorem netSend_frame (o : NetOut) (d : Dev) : (netSend o d).cfg = d.cfg ∧ (netSend o d).cfgNew = d.cfgNew ∧ (netSend o d).ports = d.ports ∧ (netSend o d).pd = d.pd ∧ (netSend o d).guards = d.guards ∧ (netSend o d).loops = d.loops ∧ (netSend o d).phases = d.phases ∧ (netSend o d).chans = d.chans ∧ (netSend o d).groups = d.groups ∧ (netSend o d).convs = d.convs ∧ (netSend o d).feeds = d.feeds ∧ (netSend o d).posts = d.posts ∧ (netSend o d).ledger = d.ledger ∧ (netSend o d).twin = d.twin ∧ (netSend o d).tmr = d.tmr ∧ (netSend o d).alarms = d.alarms ∧ (netSend o d).itms = d.itms ∧ (netSend o d).sources = d.sources ∧ (netSend o d).coll = d.coll ∧ (netSend o d).host = d.host ∧ (netSend o d).upd = d.upd ∧ (netSend o d).store = d.store ∧ (netSend o d).jrn = d.jrn ∧ (netSend o d).sys = d.sys ∧ (netSend o d).loss = d.loss ∧ (netSend o d).tap = d.tap ∧ (netSend o d).ringMem = d.ringMem ∧ (netSend o d).parcel = d.parcel ∧ (netSend o d).timers = d.timers ∧ (netSend o d).freeCtr = d.freeCtr := by
  unfold netSend
  try dsimp only
  repeat' split
  all_goals simp
@[simp] theorem netSendTo_frame (ip : Nat) (o : NetOut) (d : Dev) : (netSendTo ip o d).store = d.store ∧ (netSendTo ip o d).loss = d.loss ∧ (netSendTo ip o d).tap = d.tap ∧ (netSendTo ip o d).ringMem = d.ringMem ∧ (netSendTo ip o d).parcel = d.parcel := by
  unfold netSendTo
  try dsimp only
  repeat' split
  all_goals simp
@[simp] theorem rxCount_frame (d : Dev) : (rxCount d).cfg = d.cfg ∧ (rxCount d).cfgNew = d.cfgNew ∧ (rxCount d).ports = d.ports ∧ (rxCount d).pd = d.pd ∧ (rxCount d).guards = d.guards ∧ (rxCount d).loops = d.loops ∧ (rxCount d).phases = d.phases ∧ (rxCount d).chans = d.chans ∧ (rxCount d).groups = d.groups ∧ (rxCount d).convs = d.convs ∧ (rxCount d).feeds = d.feeds ∧ (rxCount d).posts = d.posts ∧ (rxCount d).ledger = d.ledger ∧ (rxCount d).twin = d.twin ∧ (rxCount d).tmr = d.tmr ∧ (rxCount d).alarms = d.alarms ∧ (rxCount d).itms = d.itms ∧ (rxCount d).sources = d.sources ∧ (rxCount d).coll = d.coll ∧ (rxCount d).host = d.host ∧ (rxCount d).upd = d.upd ∧ (rxCount d).store = d.store ∧ (rxCount d).jrn = d.jrn ∧ (rxCount d).sys = d.sys ∧ (rxCount d).loss = d.loss ∧ (rxCount d).tap = d.tap ∧ (rxCount d).ringMem = d.ringMem ∧ (rxCount d).parcel = d.parcel ∧ (rxCount d).timers = d.timers ∧ (rxCount d).freeCtr = d.freeCtr := by
  unfold rxCount
  try dsimp only
  repeat' split
  all_goals simp
@[simp] theorem rxOverflow_frame (d : Dev) : (rxOverflow d).cfg = d.cfg ∧ (rxOverflow d).cfgNew = d.cfgNew ∧ (rxOverflow d).ports = d.ports ∧ (rxOverflow d).pd = d.pd ∧ (rxOverflow d).guards = d.guards ∧ (rxOverflow d).loops = d.loops ∧ (rxOverflow d).phases = d.phases ∧ (rxOverflow d).chans = d.chans ∧ (rxOverflow d).groups = d.groups ∧ (rxOverflow d).convs = d.convs ∧ (rxOverflow d).feeds = d.feeds ∧ (rxOverflow d).posts = d.posts ∧ (rxOverflow d).ledger = d.ledger ∧ (rxOverflow d).twin = d.twin ∧ (rxOverflow d).tmr = d.tmr ∧ (rxOverflow d).alarms = d.alarms ∧ (rxOverflow d).itms = d.itms ∧ (rxOverflow d).sources = d.sources ∧ (rxOverflow d).coll = d.coll ∧ (rxOverflow d).host = d.host ∧ (rxOverflow d).upd = d.upd ∧ (rxOverflow d).store = d.store ∧ (rxOverflow d).jrn = d.jrn ∧ (rxOverflow d).sys = d.sys ∧ (rxOverflow d).loss = d.loss ∧ (rxOverflow d).tap = d.tap ∧ (rxOverflow d).ringMem = d.ringMem ∧ (rxOverflow d).parcel = d.parcel ∧ (rxOverflow d).timers = d.timers ∧ (rxOverflow d).freeCtr = d.freeCtr := by
  unfold rxOverflow
  try dsimp only
  repeat' split
  all_goals simp
@[simp] theorem announce_frame (d : Dev) : (announce d).cfg = d.cfg ∧ (announce d).cfgNew = d.cfgNew ∧ (announce d).ports = d.ports ∧ (announce d).pd = d.pd ∧ (announce d).guards = d.guards ∧ (announce d).loops = d.loops ∧ (announce d).phases = d.phases ∧ (announce d).chans = d.chans ∧ (announce d).groups = d.groups ∧ (announce d).convs = d.convs ∧ (announce d).feeds = d.feeds ∧ (announce d).posts = d.posts ∧ (announce d).ledger = d.ledger ∧ (announce d).twin = d.twin ∧ (announce d).tmr = d.tmr ∧ (announce d).alarms = d.alarms ∧ (announce d).itms = d.itms ∧ (announce d).sources = d.sources ∧ (announce d).coll = d.coll ∧ (announce d).host = d.host ∧ (announce d).upd = d.upd ∧ (announce d).store = d.store ∧ (announce d).jrn = d.jrn ∧ (announce d).sys = d.sys ∧ (announce d).loss = d.loss ∧ (announce d).tap = d.tap ∧ (announce d).ringMem = d.ringMem ∧ (announce d).parcel = d.parcel ∧ (announce d).timers = d.timers := by
  unfold announce
  try dsimp only
  all_goals simp
@[simp] theorem takePhy_frame (r : PhyResult) (d : Dev) : (takePhy r d).store = d.store ∧ (takePhy r d).loss = d.loss ∧ (takePhy r d).tap = d.tap ∧ (takePhy r d).ringMem = d.ringMem ∧ (takePhy r d).parcel = d.parcel := by
  unfold takePhy
  try dsimp only
  repeat' split
  all_goals simp
@[simp] theorem mdioWrite_frame (v : Word) (d : Dev) : (mdioWrite v d).store = d.store ∧ (mdioWrite v d).loss = d.loss ∧ (mdioWrite v d).tap = d.tap ∧ (mdioWrite v d).ringMem = d.ringMem ∧ (mdioWrite v d).parcel = d.parcel := by
  unfold mdioWrite
  try dsimp only
  all_goals simp
@[simp] theorem takeArp_frame (ip mac target : Nat) (d : Dev) : (takeArp ip mac target d).store = d.store ∧ (takeArp ip mac target d).loss = d.loss ∧ (takeArp ip mac target d).tap = d.tap ∧ (takeArp ip mac target d).ringMem = d.ringMem ∧ (takeArp ip mac target d).parcel = d.parcel := by
  unfold takeArp
  try dsimp only
  repeat' split
  all_goals simp
@[simp] theorem ptpPop_frame  (d : Dev) : (ptpPop d).store = d.store ∧ (ptpPop d).loss = d.loss ∧ (ptpPop d).tap = d.tap ∧ (ptpPop d).ringMem = d.ringMem ∧ (ptpPop d).parcel = d.parcel := by
  unfold ptpPop
  try dsimp only
  all_goals simp
@[simp] theorem onTg_frame (i : Fin 16) (f : Telegram → Telegram) (d : Dev) : (onTg i f d).store = d.store ∧ (onTg i f d).loss = d.loss ∧ (onTg i f d).tap = d.tap ∧ (onTg i f d).ringMem = d.ringMem ∧ (onTg i f d).parcel = d.parcel := by
  unfold onTg
  try dsimp only
  all_goals simp
@[simp] theorem netStop_frame (d : Dev) : (netStop d).cfg = d.cfg ∧ (netStop d).cfgNew = d.cfgNew ∧ (netStop d).ports = d.ports ∧ (netStop d).phases = d.phases ∧ (netStop d).alarms = d.alarms ∧ (netStop d).store = d.store ∧ (netStop d).sys = d.sys ∧ (netStop d).loss = d.loss ∧ (netStop d).tap = d.tap ∧ (netStop d).ringMem = d.ringMem ∧ (netStop d).parcel = d.parcel := by
  unfold netStop
  try dsimp only
  all_goals simp
@[simp] theorem journalFw_frame (s : Fin 4) (m : Nat) (d : Dev) : (journalFw s m d).cfg = d.cfg ∧ (journalFw s m d).cfgNew = d.cfgNew ∧ (journalFw s m d).ports = d.ports ∧ (journalFw s m d).pd = d.pd ∧ (journalFw s m d).guards = d.guards ∧ (journalFw s m d).loops = d.loops ∧ (journalFw s m d).phases = d.phases ∧ (journalFw s m d).chans = d.chans ∧ (journalFw s m d).groups = d.groups ∧ (journalFw s m d).convs = d.convs ∧ (journalFw s m d).feeds = d.feeds ∧ (journalFw s m d).posts = d.posts ∧ (journalFw s m d).ledger = d.ledger ∧ (journalFw s m d).twin = d.twin ∧ (journalFw s m d).tmr = d.tmr ∧ (journalFw s m d).alarms = d.alarms ∧ (journalFw s m d).itms = d.itms ∧ (journalFw s m d).sources = d.sources ∧ (journalFw s m d).coll = d.coll ∧ (journalFw s m d).net = d.net ∧ (journalFw s m d).upd = d.upd ∧ (journalFw s m d).store = d.store ∧ (journalFw s m d).sys = d.sys ∧ (journalFw s m d).loss = d.loss ∧ (journalFw s m d).tap = d.tap ∧ (journalFw s m d).parcel = d.parcel ∧ (journalFw s m d).freeCtr = d.freeCtr ∧ (journalFw s m d).host.event = d.host.event ∧ (journalFw s m d).host.irqen = d.host.irqen ∧ (journalFw s m d).host.successor = d.host.successor ∧ (journalFw s m d).host.window = d.host.window ∧ (journalFw s m d).host.changes = d.host.changes ∧ (journalFw s m d).host.leaseEnd = d.host.leaseEnd ∧ (journalFw s m d).host.hostLoaded = d.host.hostLoaded ∧ (journalFw s m d).host.irqA = d.host.irqA ∧ (journalFw s m d).host.irqB = d.host.irqB ∧ (journalFw s m d).host.spiDummy = d.host.spiDummy ∧ (journalFw s m d).host.spiCount = d.host.spiCount ∧ (journalFw s m d).host.spiCrc = d.host.spiCrc ∧ (journalFw s m d).host.spiAbort = d.host.spiAbort ∧ (journalFw s m d).host.baud = d.host.baud ∧ (journalFw s m d).host.uartFrames = d.host.uartFrames ∧ (journalFw s m d).host.uartCrc = d.host.uartCrc ∧ (journalFw s m d).host.uartDrops = d.host.uartDrops ∧ (journalFw s m d).host.jobs = d.host.jobs ∧ (journalFw s m d).host.masters = d.host.masters ∧ (journalFw s m d).host.kept = d.host.kept := by
  unfold journalFw
  try dsimp only
  all_goals simp
@[simp] theorem setFw_frame (s : Fin 4) (st : FwState) (m : Nat) (d : Dev) : (setFw s st m d).cfg = d.cfg ∧ (setFw s st m d).cfgNew = d.cfgNew ∧ (setFw s st m d).ports = d.ports ∧ (setFw s st m d).pd = d.pd ∧ (setFw s st m d).guards = d.guards ∧ (setFw s st m d).loops = d.loops ∧ (setFw s st m d).phases = d.phases ∧ (setFw s st m d).chans = d.chans ∧ (setFw s st m d).groups = d.groups ∧ (setFw s st m d).convs = d.convs ∧ (setFw s st m d).feeds = d.feeds ∧ (setFw s st m d).posts = d.posts ∧ (setFw s st m d).ledger = d.ledger ∧ (setFw s st m d).twin = d.twin ∧ (setFw s st m d).tmr = d.tmr ∧ (setFw s st m d).alarms = d.alarms ∧ (setFw s st m d).itms = d.itms ∧ (setFw s st m d).sources = d.sources ∧ (setFw s st m d).coll = d.coll ∧ (setFw s st m d).net = d.net ∧ (setFw s st m d).store = d.store ∧ (setFw s st m d).sys = d.sys ∧ (setFw s st m d).loss = d.loss ∧ (setFw s st m d).tap = d.tap ∧ (setFw s st m d).parcel = d.parcel ∧ (setFw s st m d).freeCtr = d.freeCtr := by
  unfold setFw
  try dsimp only
  all_goals simp
@[simp] theorem completeOp_frame (op : Nat) (k : Code) (result : List Byte) (d : Dev) : (completeOp op k result d).cfg = d.cfg ∧ (completeOp op k result d).cfgNew = d.cfgNew ∧ (completeOp op k result d).ports = d.ports ∧ (completeOp op k result d).pd = d.pd ∧ (completeOp op k result d).guards = d.guards ∧ (completeOp op k result d).loops = d.loops ∧ (completeOp op k result d).phases = d.phases ∧ (completeOp op k result d).chans = d.chans ∧ (completeOp op k result d).groups = d.groups ∧ (completeOp op k result d).convs = d.convs ∧ (completeOp op k result d).feeds = d.feeds ∧ (completeOp op k result d).posts = d.posts ∧ (completeOp op k result d).ledger = d.ledger ∧ (completeOp op k result d).twin = d.twin ∧ (completeOp op k result d).tmr = d.tmr ∧ (completeOp op k result d).alarms = d.alarms ∧ (completeOp op k result d).itms = d.itms ∧ (completeOp op k result d).sources = d.sources ∧ (completeOp op k result d).coll = d.coll ∧ (completeOp op k result d).net = d.net ∧ (completeOp op k result d).upd = d.upd ∧ (completeOp op k result d).store = d.store ∧ (completeOp op k result d).sys = d.sys ∧ (completeOp op k result d).loss = d.loss ∧ (completeOp op k result d).tap = d.tap ∧ (completeOp op k result d).parcel = d.parcel := by
  unfold completeOp
  try dsimp only
  repeat' split
  all_goals simp
@[simp] theorem recEnd_frame (result : Nat) (d : Dev) : (recEnd result d).store = d.store ∧ (recEnd result d).sys = d.sys ∧ (recEnd result d).loss = d.loss ∧ (recEnd result d).tap = d.tap ∧ (recEnd result d).ringMem = d.ringMem ∧ (recEnd result d).parcel = d.parcel := by
  unfold recEnd
  try dsimp only
  all_goals simp
@[simp] theorem abortSession_frame (m : Nat) (d : Dev) : (abortSession m d).cfg = d.cfg ∧ (abortSession m d).cfgNew = d.cfgNew ∧ (abortSession m d).ports = d.ports ∧ (abortSession m d).pd = d.pd ∧ (abortSession m d).guards = d.guards ∧ (abortSession m d).loops = d.loops ∧ (abortSession m d).phases = d.phases ∧ (abortSession m d).chans = d.chans ∧ (abortSession m d).groups = d.groups ∧ (abortSession m d).convs = d.convs ∧ (abortSession m d).feeds = d.feeds ∧ (abortSession m d).posts = d.posts ∧ (abortSession m d).ledger = d.ledger ∧ (abortSession m d).twin = d.twin ∧ (abortSession m d).tmr = d.tmr ∧ (abortSession m d).alarms = d.alarms ∧ (abortSession m d).itms = d.itms ∧ (abortSession m d).sources = d.sources ∧ (abortSession m d).coll = d.coll ∧ (abortSession m d).net = d.net ∧ (abortSession m d).store = d.store ∧ (abortSession m d).sys = d.sys ∧ (abortSession m d).loss = d.loss ∧ (abortSession m d).tap = d.tap ∧ (abortSession m d).parcel = d.parcel ∧ (abortSession m d).freeCtr = d.freeCtr ∧ (abortSession m d).host.event = d.host.event ∧ (abortSession m d).host.irqen = d.host.irqen ∧ (abortSession m d).host.successor = d.host.successor ∧ (abortSession m d).host.window = d.host.window ∧ (abortSession m d).host.changes = d.host.changes ∧ (abortSession m d).host.leaseEnd = d.host.leaseEnd ∧ (abortSession m d).host.hostLoaded = d.host.hostLoaded ∧ (abortSession m d).host.irqA = d.host.irqA ∧ (abortSession m d).host.irqB = d.host.irqB ∧ (abortSession m d).host.spiDummy = d.host.spiDummy ∧ (abortSession m d).host.spiCount = d.host.spiCount ∧ (abortSession m d).host.spiCrc = d.host.spiCrc ∧ (abortSession m d).host.spiAbort = d.host.spiAbort ∧ (abortSession m d).host.baud = d.host.baud ∧ (abortSession m d).host.uartFrames = d.host.uartFrames ∧ (abortSession m d).host.uartCrc = d.host.uartCrc ∧ (abortSession m d).host.uartDrops = d.host.uartDrops ∧ (abortSession m d).host.jobs = d.host.jobs ∧ (abortSession m d).host.masters = d.host.masters ∧ (abortSession m d).host.kept = d.host.kept := by
  unfold abortSession
  try dsimp only
  repeat' split
  all_goals simp
@[simp] theorem openSession_frame (comp : Fin 2) (s : Fin 4) (count m : Nat) (d : Dev) : (openSession comp s count m d).store = d.store ∧ (openSession comp s count m d).parcel = d.parcel := by
  unfold openSession
  try dsimp only
  all_goals simp
@[simp] theorem cmdUpdateOpen_frame (c : CmdRef) (comp : Fin 2) (count : Nat) (d : Dev) : (cmdUpdateOpen c comp count d).store = d.store ∧ (cmdUpdateOpen c comp count d).parcel = d.parcel := by
  unfold cmdUpdateOpen
  try dsimp only
  repeat' split
  all_goals simp
@[simp] theorem startParcel_frame (ofs : Nat) (d : Dev) : (startParcel ofs d).store = d.store ∧ (startParcel ofs d).loss = d.loss ∧ (startParcel ofs d).tap = d.tap ∧ (startParcel ofs d).ringMem = d.ringMem ∧ (startParcel ofs d).parcel = d.parcel := by
  unfold startParcel
  try dsimp only
  all_goals simp
@[simp] theorem cmdParcelWrite_frame (c : CmdRef) (ofs crc : Nat) (d : Dev) : (cmdParcelWrite c ofs crc d).store = d.store ∧ (cmdParcelWrite c ofs crc d).parcel = d.parcel := by
  unfold cmdParcelWrite
  try dsimp only
  repeat' split
  all_goals simp
@[simp] theorem cmdUpdateVerify_frame (c : CmdRef) (d : Dev) : (cmdUpdateVerify c d).store = d.store ∧ (cmdUpdateVerify c d).parcel = d.parcel := by
  unfold cmdUpdateVerify
  try dsimp only
  repeat' split
  all_goals simp
@[simp] theorem awaitQuiet_frame (a : Activation) (d : Dev) : (awaitQuiet a d).store = d.store ∧ (awaitQuiet a d).loss = d.loss ∧ (awaitQuiet a d).tap = d.tap ∧ (awaitQuiet a d).ringMem = d.ringMem ∧ (awaitQuiet a d).parcel = d.parcel := by
  unfold awaitQuiet
  try dsimp only
  repeat' split
  all_goals simp
@[simp] theorem startTrial_frame (comp : Fin 2) (s : Fin 4) (d : Dev) : (startTrial comp s d).store = d.store ∧ (startTrial comp s d).loss = d.loss ∧ (startTrial comp s d).tap = d.tap ∧ (startTrial comp s d).ringMem = d.ringMem ∧ (startTrial comp s d).parcel = d.parcel := by
  unfold startTrial
  try dsimp only
  repeat' split
  all_goals simp
@[simp] theorem endTrial_frame (d : Dev) : (endTrial d).store = d.store ∧ (endTrial d).loss = d.loss ∧ (endTrial d).tap = d.tap ∧ (endTrial d).ringMem = d.ringMem ∧ (endTrial d).parcel = d.parcel := by
  unfold endTrial
  try dsimp only
  all_goals simp
@[simp] theorem pauseFor_frame (a : Activation) (d : Dev) : (pauseFor a d).store = d.store ∧ (pauseFor a d).loss = d.loss ∧ (pauseFor a d).tap = d.tap ∧ (pauseFor a d).ringMem = d.ringMem ∧ (pauseFor a d).parcel = d.parcel := by
  unfold pauseFor
  try dsimp only
  repeat' split
  all_goals simp
@[simp] theorem pauseFallback_frame (comp : Fin 2) (d : Dev) : (pauseFallback comp d).store = d.store ∧ (pauseFallback comp d).loss = d.loss ∧ (pauseFallback comp d).tap = d.tap ∧ (pauseFallback comp d).ringMem = d.ringMem ∧ (pauseFallback comp d).parcel = d.parcel := by
  unfold pauseFallback
  try dsimp only
  repeat' split
  all_goals simp
@[simp] theorem beginActivation_frame (a : Activation) (d : Dev) : (beginActivation a d).store = d.store ∧ (beginActivation a d).parcel = d.parcel := by
  unfold beginActivation
  try dsimp only
  repeat' split
  all_goals simp
@[simp] theorem bootSoon_frame (wake : Nat) (d : Dev) : (bootSoon wake d).store = d.store ∧ (bootSoon wake d).loss = d.loss ∧ (bootSoon wake d).tap = d.tap ∧ (bootSoon wake d).ringMem = d.ringMem ∧ (bootSoon wake d).parcel = d.parcel := by
  unfold bootSoon
  try dsimp only
  all_goals simp
@[simp] theorem activateAtOnce_frame (c : CmdRef) (s : Fin 4) (d : Dev) : (activateAtOnce c s d).store = d.store ∧ (activateAtOnce c s d).parcel = d.parcel := by
  unfold activateAtOnce
  try dsimp only
  all_goals simp
@[simp] theorem activateCore_frame (c : CmdRef) (k : Fin 4) (d : Dev) : (activateCore c k d).store = d.store ∧ (activateCore c k d).parcel = d.parcel := by
  unfold activateCore
  try dsimp only
  repeat' split
  all_goals simp
@[simp] theorem activatePlatform_frame (c : CmdRef) (d : Dev) : (activatePlatform c d).store = d.store ∧ (activatePlatform c d).parcel = d.parcel := by
  unfold activatePlatform
  try dsimp only
  repeat' split
  all_goals simp
@[simp] theorem cmdUpdateActivate_frame (c : CmdRef) (which : Fin 5) (d : Dev) : (cmdUpdateActivate c which d).store = d.store ∧ (cmdUpdateActivate c which d).parcel = d.parcel := by
  unfold cmdUpdateActivate
  try dsimp only
  repeat' split
  all_goals simp
@[simp] theorem swapFw_frame (comp : Fin 2) (old new : FwState) (m : Nat) (d : Dev) : (swapFw comp old new m d).store = d.store ∧ (swapFw comp old new m d).parcel = d.parcel := by
  unfold swapFw
  try dsimp only
  repeat' split
  all_goals simp
@[simp] theorem coreResumed_frame (k s : Fin 4) (d : Dev) : (coreResumed k s d).store = d.store ∧ (coreResumed k s d).parcel = d.parcel := by
  unfold coreResumed
  try dsimp only
  repeat' split
  all_goals simp
@[simp] theorem platformFailed_frame (s : Fin 4) (d : Dev) : (platformFailed s d).store = d.store ∧ (platformFailed s d).parcel = d.parcel := by
  unfold platformFailed
  try dsimp only
  all_goals simp
@[simp] theorem confirmTrial_frame (comp : Fin 2) (m : Nat) (d : Dev) : (confirmTrial comp m d).store = d.store ∧ (confirmTrial comp m d).parcel = d.parcel := by
  unfold confirmTrial
  try dsimp only
  all_goals simp
@[simp] theorem cmdUpdateConfirm_frame (c : CmdRef) (d : Dev) : (cmdUpdateConfirm c d).store = d.store ∧ (cmdUpdateConfirm c d).parcel = d.parcel := by
  unfold cmdUpdateConfirm
  try dsimp only
  repeat' split
  all_goals simp
@[simp] theorem cmdUpdateFloor_frame (c : CmdRef) (comp : Fin 2) (d : Dev) : (cmdUpdateFloor c comp d).store = d.store ∧ (cmdUpdateFloor c comp d).parcel = d.parcel := by
  unfold cmdUpdateFloor
  try dsimp only
  repeat' split
  all_goals simp
@[simp] theorem recStart_frame (cmd : Nat) (d : Dev) : (recStart cmd d).cfg = d.cfg ∧ (recStart cmd d).cfgNew = d.cfgNew ∧ (recStart cmd d).ports = d.ports ∧ (recStart cmd d).pd = d.pd ∧ (recStart cmd d).guards = d.guards ∧ (recStart cmd d).loops = d.loops ∧ (recStart cmd d).phases = d.phases ∧ (recStart cmd d).chans = d.chans ∧ (recStart cmd d).groups = d.groups ∧ (recStart cmd d).convs = d.convs ∧ (recStart cmd d).feeds = d.feeds ∧ (recStart cmd d).posts = d.posts ∧ (recStart cmd d).ledger = d.ledger ∧ (recStart cmd d).twin = d.twin ∧ (recStart cmd d).tmr = d.tmr ∧ (recStart cmd d).alarms = d.alarms ∧ (recStart cmd d).itms = d.itms ∧ (recStart cmd d).sources = d.sources ∧ (recStart cmd d).coll = d.coll ∧ (recStart cmd d).host = d.host ∧ (recStart cmd d).net = d.net ∧ (recStart cmd d).store = d.store ∧ (recStart cmd d).jrn = d.jrn ∧ (recStart cmd d).sys = d.sys ∧ (recStart cmd d).loss = d.loss ∧ (recStart cmd d).tap = d.tap ∧ (recStart cmd d).ringMem = d.ringMem ∧ (recStart cmd d).parcel = d.parcel ∧ (recStart cmd d).timers = d.timers ∧ (recStart cmd d).freeCtr = d.freeCtr := by
  unfold recStart
  try dsimp only
  all_goals simp
@[simp] theorem recAtOnce_frame (cmd result : Nat) (d : Dev) : (recAtOnce cmd result d).store = d.store ∧ (recAtOnce cmd result d).sys = d.sys ∧ (recAtOnce cmd result d).loss = d.loss ∧ (recAtOnce cmd result d).tap = d.tap ∧ (recAtOnce cmd result d).ringMem = d.ringMem ∧ (recAtOnce cmd result d).parcel = d.parcel := by
  unfold recAtOnce
  try dsimp only
  all_goals simp
@[simp] theorem recOpenNow_frame (m : Fin 5) (d : Dev) : (recOpenNow m d).store = d.store ∧ (recOpenNow m d).parcel = d.parcel := by
  unfold recOpenNow
  try dsimp only
  repeat' split
  all_goals simp
@[simp] theorem recParcelNow_frame (d : Dev) : (recParcelNow d).store = d.store ∧ (recParcelNow d).loss = d.loss ∧ (recParcelNow d).tap = d.tap ∧ (recParcelNow d).ringMem = d.ringMem ∧ (recParcelNow d).parcel = d.parcel := by
  unfold recParcelNow
  try dsimp only
  repeat' split
  all_goals simp
@[simp] theorem recVerifyNow_frame (d : Dev) : (recVerifyNow d).store = d.store ∧ (recVerifyNow d).loss = d.loss ∧ (recVerifyNow d).tap = d.tap ∧ (recVerifyNow d).ringMem = d.ringMem ∧ (recVerifyNow d).parcel = d.parcel := by
  unfold recVerifyNow
  try dsimp only
  repeat' split
  all_goals simp
@[simp] theorem recInstallNow_frame (m : Fin 5) (d : Dev) : (recInstallNow m d).store = d.store ∧ (recInstallNow m d).parcel = d.parcel := by
  unfold recInstallNow
  try dsimp only
  repeat' split
  all_goals simp
@[simp] theorem recCloseNow_frame (m : Fin 5) (d : Dev) : (recCloseNow m d).store = d.store ∧ (recCloseNow m d).parcel = d.parcel := by
  unfold recCloseNow
  try dsimp only
  repeat' split
  all_goals simp
@[simp] theorem amendFaults_frame (old : ImageCfg) (d : Dev) : (amendFaults old d).cfg = d.cfg ∧ (amendFaults old d).cfgNew = d.cfgNew ∧ (amendFaults old d).ports = d.ports ∧ (amendFaults old d).pd = d.pd ∧ (amendFaults old d).guards = d.guards ∧ (amendFaults old d).loops = d.loops ∧ (amendFaults old d).phases = d.phases ∧ (amendFaults old d).chans = d.chans ∧ (amendFaults old d).groups = d.groups ∧ (amendFaults old d).convs = d.convs ∧ (amendFaults old d).feeds = d.feeds ∧ (amendFaults old d).posts = d.posts ∧ (amendFaults old d).ledger = d.ledger ∧ (amendFaults old d).twin = d.twin ∧ (amendFaults old d).tmr = d.tmr ∧ (amendFaults old d).alarms = d.alarms ∧ (amendFaults old d).itms = d.itms ∧ (amendFaults old d).host = d.host ∧ (amendFaults old d).net = d.net ∧ (amendFaults old d).upd = d.upd ∧ (amendFaults old d).store = d.store ∧ (amendFaults old d).jrn = d.jrn ∧ (amendFaults old d).sys = d.sys ∧ (amendFaults old d).loss = d.loss ∧ (amendFaults old d).tap = d.tap ∧ (amendFaults old d).ringMem = d.ringMem ∧ (amendFaults old d).parcel = d.parcel ∧ (amendFaults old d).timers = d.timers ∧ (amendFaults old d).freeCtr = d.freeCtr := by
  unfold amendFaults
  try dsimp only
  repeat' split
  all_goals simp
@[simp] theorem applyFaults_frame (d : Dev) : (applyFaults d).cfg = d.cfg ∧ (applyFaults d).cfgNew = d.cfgNew ∧ (applyFaults d).store = d.store ∧ (applyFaults d).loss = d.loss ∧ (applyFaults d).tap = d.tap ∧ (applyFaults d).ringMem = d.ringMem ∧ (applyFaults d).parcel = d.parcel := by
  unfold applyFaults
  try dsimp only
  all_goals simp
@[simp] theorem applyLoads_frame (d : Dev) : (applyLoads d).cfg = d.cfg ∧ (applyLoads d).cfgNew = d.cfgNew ∧ (applyLoads d).alarms = d.alarms ∧ (applyLoads d).store = d.store ∧ (applyLoads d).loss = d.loss ∧ (applyLoads d).tap = d.tap ∧ (applyLoads d).ringMem = d.ringMem ∧ (applyLoads d).parcel = d.parcel := by
  unfold applyLoads
  try dsimp only
  all_goals simp
@[simp] theorem bootConvs_frame (d : Dev) : (bootConvs d).alarms = d.alarms ∧ (bootConvs d).store = d.store ∧ (bootConvs d).loss = d.loss ∧ (bootConvs d).tap = d.tap ∧ (bootConvs d).ringMem = d.ringMem ∧ (bootConvs d).parcel = d.parcel := by
  unfold bootConvs
  try dsimp only
  all_goals simp
@[simp] theorem applyTimers_frame (boot : Bool) (old : ImageCfg) (d : Dev) : (applyTimers boot old d).cfg = d.cfg ∧ (applyTimers boot old d).cfgNew = d.cfgNew ∧ (applyTimers boot old d).store = d.store ∧ (applyTimers boot old d).loss = d.loss ∧ (applyTimers boot old d).tap = d.tap ∧ (applyTimers boot old d).ringMem = d.ringMem ∧ (applyTimers boot old d).parcel = d.parcel := by
  unfold applyTimers
  try dsimp only
  all_goals simp
@[simp] theorem applyRings_frame (old : ImageCfg) (d : Dev) : (applyRings old d).cfg = d.cfg ∧ (applyRings old d).cfgNew = d.cfgNew ∧ (applyRings old d).alarms = d.alarms ∧ (applyRings old d).store = d.store ∧ (applyRings old d).loss = d.loss ∧ (applyRings old d).tap = d.tap ∧ (applyRings old d).ringMem = d.ringMem ∧ (applyRings old d).parcel = d.parcel := by
  unfold applyRings
  try dsimp only
  all_goals simp
@[simp] theorem portApply_frame (p : Fin 32) (d : Dev) : (portApply p d).parcel = d.parcel := by
  unfold portApply
  try dsimp only
  repeat' split
  all_goals simp
@[simp] theorem offersApply_frame (old : ImageCfg) (d : Dev) : (offersApply old d).cfg = d.cfg ∧ (offersApply old d).cfgNew = d.cfgNew ∧ (offersApply old d).store = d.store ∧ (offersApply old d).loss = d.loss ∧ (offersApply old d).tap = d.tap ∧ (offersApply old d).ringMem = d.ringMem ∧ (offersApply old d).parcel = d.parcel := by
  unfold offersApply
  try dsimp only
  all_goals simp
@[simp] theorem feedsApply_frame (d : Dev) : (feedsApply d).cfg = d.cfg ∧ (feedsApply d).cfgNew = d.cfgNew ∧ (feedsApply d).store = d.store ∧ (feedsApply d).loss = d.loss ∧ (feedsApply d).tap = d.tap ∧ (feedsApply d).ringMem = d.ringMem ∧ (feedsApply d).parcel = d.parcel := by
  unfold feedsApply
  try dsimp only
  all_goals simp
@[simp] theorem startCheck_frame (j : Job) (d : Dev) : (startCheck j d).ringMem = d.ringMem ∧ (startCheck j d).parcel = d.parcel := by
  unfold startCheck
  try dsimp only
  all_goals simp
@[simp] theorem cmdImageCheck_frame (c : CmdRef) (d : Dev) : (cmdImageCheck c d).ringMem = d.ringMem ∧ (cmdImageCheck c d).parcel = d.parcel := by
  unfold cmdImageCheck
  try dsimp only
  all_goals simp
@[simp] theorem cmdImageStore_frame (c : CmdRef) (slot : Fin 4) (d : Dev) : (cmdImageStore c slot d).parcel = d.parcel := by
  unfold cmdImageStore
  try dsimp only
  repeat' split
  all_goals simp
@[simp] theorem cmdAmendApply_frame (c : CmdRef) (d : Dev) : (cmdAmendApply c d).parcel = d.parcel := by
  unfold cmdAmendApply
  try dsimp only
  repeat' split
  all_goals simp
@[simp] theorem endCheckJob_frame (j : Job) (k : Code) (v : Verdict) (d : Dev) : (endCheckJob j k v d).cfg = d.cfg ∧ (endCheckJob j k v d).cfgNew = d.cfgNew ∧ (endCheckJob j k v d).ports = d.ports ∧ (endCheckJob j k v d).pd = d.pd ∧ (endCheckJob j k v d).guards = d.guards ∧ (endCheckJob j k v d).loops = d.loops ∧ (endCheckJob j k v d).phases = d.phases ∧ (endCheckJob j k v d).chans = d.chans ∧ (endCheckJob j k v d).groups = d.groups ∧ (endCheckJob j k v d).convs = d.convs ∧ (endCheckJob j k v d).feeds = d.feeds ∧ (endCheckJob j k v d).posts = d.posts ∧ (endCheckJob j k v d).ledger = d.ledger ∧ (endCheckJob j k v d).twin = d.twin ∧ (endCheckJob j k v d).tmr = d.tmr ∧ (endCheckJob j k v d).alarms = d.alarms ∧ (endCheckJob j k v d).itms = d.itms ∧ (endCheckJob j k v d).sources = d.sources ∧ (endCheckJob j k v d).coll = d.coll ∧ (endCheckJob j k v d).net = d.net ∧ (endCheckJob j k v d).upd = d.upd ∧ (endCheckJob j k v d).sys = d.sys ∧ (endCheckJob j k v d).loss = d.loss ∧ (endCheckJob j k v d).tap = d.tap ∧ (endCheckJob j k v d).parcel = d.parcel := by
  unfold endCheckJob
  try dsimp only
  all_goals simp
@[simp] theorem startSlotWrite_frame (j : Job) (slot : Fin 4) (d : Dev) : (startSlotWrite j slot d).ringMem = d.ringMem ∧ (startSlotWrite j slot d).parcel = d.parcel := by
  unfold startSlotWrite
  try dsimp only
  all_goals simp
@[simp] theorem swapSlots_frame (slot : Fin 4) (d : Dev) : (swapSlots slot d).cfg = d.cfg ∧ (swapSlots slot d).upd = d.upd ∧ (swapSlots slot d).loss = d.loss ∧ (swapSlots slot d).tap = d.tap ∧ (swapSlots slot d).ringMem = d.ringMem ∧ (swapSlots slot d).parcel = d.parcel := by
  unfold swapSlots
  try dsimp only
  all_goals simp
@[simp] theorem cmdImageSwitch_frame (c : CmdRef) (slot : Fin 4) (tb : Nat) (d : Dev) : (cmdImageSwitch c slot tb d).parcel = d.parcel := by
  unfold cmdImageSwitch
  try dsimp only
  repeat' split
  all_goals simp
@[simp] theorem endAmend_frame (k : Code) (v : Verdict) (d : Dev) : (endAmend k v d).cfg = d.cfg ∧ (endAmend k v d).cfgNew = d.cfgNew ∧ (endAmend k v d).ports = d.ports ∧ (endAmend k v d).pd = d.pd ∧ (endAmend k v d).guards = d.guards ∧ (endAmend k v d).loops = d.loops ∧ (endAmend k v d).phases = d.phases ∧ (endAmend k v d).chans = d.chans ∧ (endAmend k v d).groups = d.groups ∧ (endAmend k v d).convs = d.convs ∧ (endAmend k v d).feeds = d.feeds ∧ (endAmend k v d).posts = d.posts ∧ (endAmend k v d).ledger = d.ledger ∧ (endAmend k v d).twin = d.twin ∧ (endAmend k v d).tmr = d.tmr ∧ (endAmend k v d).alarms = d.alarms ∧ (endAmend k v d).itms = d.itms ∧ (endAmend k v d).sources = d.sources ∧ (endAmend k v d).coll = d.coll ∧ (endAmend k v d).net = d.net ∧ (endAmend k v d).upd = d.upd ∧ (endAmend k v d).sys = d.sys ∧ (endAmend k v d).loss = d.loss ∧ (endAmend k v d).tap = d.tap ∧ (endAmend k v d).parcel = d.parcel := by
  unfold endAmend
  try dsimp only
  repeat' split
  all_goals simp
@[simp] theorem refuseAmend_frame (v : Verdict) (d : Dev) : (refuseAmend v d).cfg = d.cfg ∧ (refuseAmend v d).cfgNew = d.cfgNew ∧ (refuseAmend v d).ports = d.ports ∧ (refuseAmend v d).pd = d.pd ∧ (refuseAmend v d).guards = d.guards ∧ (refuseAmend v d).loops = d.loops ∧ (refuseAmend v d).phases = d.phases ∧ (refuseAmend v d).chans = d.chans ∧ (refuseAmend v d).groups = d.groups ∧ (refuseAmend v d).convs = d.convs ∧ (refuseAmend v d).feeds = d.feeds ∧ (refuseAmend v d).posts = d.posts ∧ (refuseAmend v d).ledger = d.ledger ∧ (refuseAmend v d).twin = d.twin ∧ (refuseAmend v d).tmr = d.tmr ∧ (refuseAmend v d).alarms = d.alarms ∧ (refuseAmend v d).itms = d.itms ∧ (refuseAmend v d).sources = d.sources ∧ (refuseAmend v d).coll = d.coll ∧ (refuseAmend v d).net = d.net ∧ (refuseAmend v d).upd = d.upd ∧ (refuseAmend v d).sys = d.sys ∧ (refuseAmend v d).loss = d.loss ∧ (refuseAmend v d).tap = d.tap ∧ (refuseAmend v d).parcel = d.parcel := by
  unfold refuseAmend
  try dsimp only
  repeat' split
  all_goals simp
@[simp] theorem startOtp_frame (c : CmdRef) (op kind : Nat) (slot : Fin 4) (lock : Bool) (d : Dev) : (startOtp c op kind slot lock d).ringMem = d.ringMem ∧ (startOtp c op kind slot lock d).parcel = d.parcel := by
  unfold startOtp
  try dsimp only
  all_goals simp
@[simp] theorem cmdImageFloor_frame (c : CmdRef) (d : Dev) : (cmdImageFloor c d).parcel = d.parcel := by
  unfold cmdImageFloor
  try dsimp only
  repeat' split
  all_goals simp
@[simp] theorem deadBattery_frame (d : Dev) : (deadBattery d).cfg = d.cfg ∧ (deadBattery d).cfgNew = d.cfgNew ∧ (deadBattery d).pd = d.pd ∧ (deadBattery d).guards = d.guards ∧ (deadBattery d).loops = d.loops ∧ (deadBattery d).phases = d.phases ∧ (deadBattery d).chans = d.chans ∧ (deadBattery d).groups = d.groups ∧ (deadBattery d).convs = d.convs ∧ (deadBattery d).feeds = d.feeds ∧ (deadBattery d).posts = d.posts ∧ (deadBattery d).ledger = d.ledger ∧ (deadBattery d).twin = d.twin ∧ (deadBattery d).tmr = d.tmr ∧ (deadBattery d).alarms = d.alarms ∧ (deadBattery d).itms = d.itms ∧ (deadBattery d).sources = d.sources ∧ (deadBattery d).coll = d.coll ∧ (deadBattery d).host = d.host ∧ (deadBattery d).net = d.net ∧ (deadBattery d).upd = d.upd ∧ (deadBattery d).store = d.store ∧ (deadBattery d).jrn = d.jrn ∧ (deadBattery d).sys = d.sys ∧ (deadBattery d).loss = d.loss ∧ (deadBattery d).tap = d.tap ∧ (deadBattery d).ringMem = d.ringMem ∧ (deadBattery d).parcel = d.parcel ∧ (deadBattery d).timers = d.timers ∧ (deadBattery d).freeCtr = d.freeCtr := by
  unfold deadBattery
  try dsimp only
  repeat' split
  all_goals simp
@[simp] theorem edgeUnpowered_frame (e : Fin 4) (d : Dev) : (edgeUnpowered e d).cfg = d.cfg ∧ (edgeUnpowered e d).feeds = d.feeds ∧ (edgeUnpowered e d).ledger = d.ledger ∧ (edgeUnpowered e d).host = d.host ∧ (edgeUnpowered e d).store = d.store ∧ (edgeUnpowered e d).loss = d.loss ∧ (edgeUnpowered e d).tap = d.tap ∧ (edgeUnpowered e d).ringMem = d.ringMem ∧ (edgeUnpowered e d).parcel = d.parcel := by
  unfold edgeUnpowered
  try dsimp only
  all_goals simp
@[simp] theorem holdPort_frame (p : Fin 32) (d : Dev) : (holdPort p d).cfg = d.cfg ∧ (holdPort p d).cfgNew = d.cfgNew ∧ (holdPort p d).loops = d.loops ∧ (holdPort p d).phases = d.phases ∧ (holdPort p d).groups = d.groups ∧ (holdPort p d).convs = d.convs ∧ (holdPort p d).feeds = d.feeds ∧ (holdPort p d).posts = d.posts ∧ (holdPort p d).ledger = d.ledger ∧ (holdPort p d).twin = d.twin ∧ (holdPort p d).tmr = d.tmr ∧ (holdPort p d).alarms = d.alarms ∧ (holdPort p d).itms = d.itms ∧ (holdPort p d).sources = d.sources ∧ (holdPort p d).coll = d.coll ∧ (holdPort p d).host = d.host ∧ (holdPort p d).net = d.net ∧ (holdPort p d).upd = d.upd ∧ (holdPort p d).store = d.store ∧ (holdPort p d).jrn = d.jrn ∧ (holdPort p d).sys = d.sys ∧ (holdPort p d).loss = d.loss ∧ (holdPort p d).tap = d.tap ∧ (holdPort p d).ringMem = d.ringMem ∧ (holdPort p d).parcel = d.parcel ∧ (holdPort p d).freeCtr = d.freeCtr := by
  unfold holdPort
  try dsimp only
  repeat' split
  all_goals simp
@[simp] theorem bootRecords_frame (obs : BootObs) (d : Dev) : (bootRecords obs d).cfg = d.cfg ∧ (bootRecords obs d).cfgNew = d.cfgNew ∧ (bootRecords obs d).ports = d.ports ∧ (bootRecords obs d).pd = d.pd ∧ (bootRecords obs d).guards = d.guards ∧ (bootRecords obs d).loops = d.loops ∧ (bootRecords obs d).phases = d.phases ∧ (bootRecords obs d).chans = d.chans ∧ (bootRecords obs d).groups = d.groups ∧ (bootRecords obs d).convs = d.convs ∧ (bootRecords obs d).feeds = d.feeds ∧ (bootRecords obs d).posts = d.posts ∧ (bootRecords obs d).ledger = d.ledger ∧ (bootRecords obs d).twin = d.twin ∧ (bootRecords obs d).tmr = d.tmr ∧ (bootRecords obs d).alarms = d.alarms ∧ (bootRecords obs d).itms = d.itms ∧ (bootRecords obs d).sources = d.sources ∧ (bootRecords obs d).coll = d.coll ∧ (bootRecords obs d).host = d.host ∧ (bootRecords obs d).net = d.net ∧ (bootRecords obs d).upd = d.upd ∧ (bootRecords obs d).store = d.store ∧ (bootRecords obs d).jrn = d.jrn ∧ (bootRecords obs d).loss = d.loss ∧ (bootRecords obs d).tap = d.tap ∧ (bootRecords obs d).ringMem = d.ringMem ∧ (bootRecords obs d).parcel = d.parcel ∧ (bootRecords obs d).timers = d.timers ∧ (bootRecords obs d).freeCtr = d.freeCtr := by
  unfold bootRecords
  try dsimp only
  repeat' split
  all_goals simp
@[simp] theorem bootHold_frame (d : Dev) : (bootHold d).cfg = d.cfg ∧ (bootHold d).cfgNew = d.cfgNew ∧ (bootHold d).loops = d.loops ∧ (bootHold d).phases = d.phases ∧ (bootHold d).groups = d.groups ∧ (bootHold d).convs = d.convs ∧ (bootHold d).feeds = d.feeds ∧ (bootHold d).posts = d.posts ∧ (bootHold d).ledger = d.ledger ∧ (bootHold d).twin = d.twin ∧ (bootHold d).tmr = d.tmr ∧ (bootHold d).alarms = d.alarms ∧ (bootHold d).itms = d.itms ∧ (bootHold d).sources = d.sources ∧ (bootHold d).coll = d.coll ∧ (bootHold d).host = d.host ∧ (bootHold d).net = d.net ∧ (bootHold d).upd = d.upd ∧ (bootHold d).store = d.store ∧ (bootHold d).jrn = d.jrn ∧ (bootHold d).sys = d.sys ∧ (bootHold d).loss = d.loss ∧ (bootHold d).tap = d.tap ∧ (bootHold d).ringMem = d.ringMem ∧ (bootHold d).parcel = d.parcel ∧ (bootHold d).freeCtr = d.freeCtr := by
  unfold bootHold
  try dsimp only
  repeat' split
  all_goals simp
@[simp] theorem enterDeadcar_frame (obs : BootObs) (d : Dev) : (enterDeadcar obs d).store = d.store ∧ (enterDeadcar obs d).loss = d.loss ∧ (enterDeadcar obs d).tap = d.tap ∧ (enterDeadcar obs d).ringMem = d.ringMem ∧ (enterDeadcar obs d).parcel = d.parcel := by
  unfold enterDeadcar
  try dsimp only
  all_goals simp
@[simp] theorem enterRecovery_frame (d : Dev) : (enterRecovery d).store = d.store ∧ (enterRecovery d).parcel = d.parcel := by
  unfold enterRecovery
  try dsimp only
  all_goals simp
@[simp] theorem dbenCheck_frame (ports : Vector (Option PortCfg) 32) (d : Dev) : (dbenCheck ports d).store = d.store ∧ (dbenCheck ports d).parcel = d.parcel := by
  unfold dbenCheck
  try dsimp only
  all_goals simp
@[simp] theorem bootCensus_frame (d : Dev) : (bootCensus d).cfg = d.cfg ∧ (bootCensus d).feeds = d.feeds ∧ (bootCensus d).twin = d.twin ∧ (bootCensus d).store = d.store ∧ (bootCensus d).tap = d.tap ∧ (bootCensus d).parcel = d.parcel := by
  unfold bootCensus
  try dsimp only
  repeat' split
  all_goals simp
@[simp] theorem roleWait_frame (kind ms : Nat) (d : Dev) : (roleWait kind ms d).store = d.store ∧ (roleWait kind ms d).loss = d.loss ∧ (roleWait kind ms d).tap = d.tap ∧ (roleWait kind ms d).ringMem = d.ringMem ∧ (roleWait kind ms d).parcel = d.parcel := by
  unfold roleWait
  try dsimp only
  all_goals simp
@[simp] theorem bootFeed_frame (f : Fin 4) (d : Dev) : (bootFeed f d).cfg = d.cfg ∧ (bootFeed f d).cfgNew = d.cfgNew ∧ (bootFeed f d).ports = d.ports ∧ (bootFeed f d).pd = d.pd ∧ (bootFeed f d).guards = d.guards ∧ (bootFeed f d).loops = d.loops ∧ (bootFeed f d).phases = d.phases ∧ (bootFeed f d).groups = d.groups ∧ (bootFeed f d).convs = d.convs ∧ (bootFeed f d).posts = d.posts ∧ (bootFeed f d).ledger = d.ledger ∧ (bootFeed f d).twin = d.twin ∧ (bootFeed f d).tmr = d.tmr ∧ (bootFeed f d).alarms = d.alarms ∧ (bootFeed f d).itms = d.itms ∧ (bootFeed f d).sources = d.sources ∧ (bootFeed f d).coll = d.coll ∧ (bootFeed f d).host = d.host ∧ (bootFeed f d).net = d.net ∧ (bootFeed f d).upd = d.upd ∧ (bootFeed f d).store = d.store ∧ (bootFeed f d).jrn = d.jrn ∧ (bootFeed f d).sys = d.sys ∧ (bootFeed f d).loss = d.loss ∧ (bootFeed f d).tap = d.tap ∧ (bootFeed f d).ringMem = d.ringMem ∧ (bootFeed f d).parcel = d.parcel := by
  unfold bootFeed
  try dsimp only
  repeat' split
  all_goals simp
@[simp] theorem admitPort_frame (p : Fin 32) (d : Dev) : (admitPort p d).cfg = d.cfg ∧ (admitPort p d).host = d.host ∧ (admitPort p d).upd = d.upd ∧ (admitPort p d).store = d.store ∧ (admitPort p d).sys = d.sys ∧ (admitPort p d).loss = d.loss ∧ (admitPort p d).tap = d.tap ∧ (admitPort p d).ringMem = d.ringMem ∧ (admitPort p d).parcel = d.parcel := by
  unfold admitPort
  try dsimp only
  repeat' split
  all_goals simp
@[simp] theorem leaveDie_frame (e : Fin 4) (d : Dev) : (leaveDie e d).cfg = d.cfg ∧ (leaveDie e d).feeds = d.feeds ∧ (leaveDie e d).twin = d.twin ∧ (leaveDie e d).coll = d.coll ∧ (leaveDie e d).store = d.store ∧ (leaveDie e d).tap = d.tap ∧ (leaveDie e d).ringMem = d.ringMem ∧ (leaveDie e d).parcel = d.parcel := by
  unfold leaveDie
  try dsimp only
  all_goals simp
@[simp] theorem standbyPort_frame (p : Fin 32) (d : Dev) : (standbyPort p d).sources = d.sources ∧ (standbyPort p d).store = d.store ∧ (standbyPort p d).sys = d.sys ∧ (standbyPort p d).loss = d.loss ∧ (standbyPort p d).tap = d.tap ∧ (standbyPort p d).ringMem = d.ringMem ∧ (standbyPort p d).parcel = d.parcel := by
  unfold standbyPort
  try dsimp only
  repeat' split
  all_goals simp
@[simp] theorem putWritten_frame (pos : Nat) (r : JRec) (d : Dev) : (putWritten pos r d).cfg = d.cfg ∧ (putWritten pos r d).cfgNew = d.cfgNew ∧ (putWritten pos r d).ports = d.ports ∧ (putWritten pos r d).pd = d.pd ∧ (putWritten pos r d).guards = d.guards ∧ (putWritten pos r d).loops = d.loops ∧ (putWritten pos r d).phases = d.phases ∧ (putWritten pos r d).chans = d.chans ∧ (putWritten pos r d).groups = d.groups ∧ (putWritten pos r d).convs = d.convs ∧ (putWritten pos r d).feeds = d.feeds ∧ (putWritten pos r d).posts = d.posts ∧ (putWritten pos r d).ledger = d.ledger ∧ (putWritten pos r d).twin = d.twin ∧ (putWritten pos r d).tmr = d.tmr ∧ (putWritten pos r d).alarms = d.alarms ∧ (putWritten pos r d).itms = d.itms ∧ (putWritten pos r d).sources = d.sources ∧ (putWritten pos r d).coll = d.coll ∧ (putWritten pos r d).host = d.host ∧ (putWritten pos r d).net = d.net ∧ (putWritten pos r d).upd = d.upd ∧ (putWritten pos r d).store = d.store ∧ (putWritten pos r d).sys = d.sys ∧ (putWritten pos r d).loss = d.loss ∧ (putWritten pos r d).tap = d.tap ∧ (putWritten pos r d).ringMem = d.ringMem ∧ (putWritten pos r d).parcel = d.parcel ∧ (putWritten pos r d).timers = d.timers := by
  unfold putWritten
  try dsimp only
  all_goals simp
@[simp] theorem programNext_frame (free : Bool) (d : Dev) : (programNext free d).cfgNew = d.cfgNew ∧ (programNext free d).store = d.store ∧ (programNext free d).sys = d.sys ∧ (programNext free d).loss = d.loss ∧ (programNext free d).tap = d.tap ∧ (programNext free d).ringMem = d.ringMem ∧ (programNext free d).parcel = d.parcel := by
  unfold programNext
  try dsimp only
  repeat' split
  all_goals simp
@[simp] theorem cmdJournalMark_frame (c : CmdRef) (note : List Byte) (d : Dev) : (cmdJournalMark c note d).store = d.store ∧ (cmdJournalMark c note d).parcel = d.parcel := by
  unfold cmdJournalMark
  try dsimp only
  repeat' split
  all_goals simp
@[simp] theorem cmdJournalWindow_frame (c : CmdRef) (start : Nat) (d : Dev) : (cmdJournalWindow c start d).store = d.store ∧ (cmdJournalWindow c start d).parcel = d.parcel := by
  unfold cmdJournalWindow
  try dsimp only
  all_goals simp
@[simp] theorem cmdTelemetrySet_frame (c : CmdRef) (ring : Fin 16) (addrs : List Nat) (d : Dev) : (cmdTelemetrySet c ring addrs d).store = d.store ∧ (cmdTelemetrySet c ring addrs d).parcel = d.parcel := by
  unfold cmdTelemetrySet
  try dsimp only
  all_goals simp
@[simp] theorem mirrorSend_frame (o : MirrorOut) (d : Dev) : (mirrorSend o d).cfg = d.cfg ∧ (mirrorSend o d).cfgNew = d.cfgNew ∧ (mirrorSend o d).ports = d.ports ∧ (mirrorSend o d).pd = d.pd ∧ (mirrorSend o d).guards = d.guards ∧ (mirrorSend o d).loops = d.loops ∧ (mirrorSend o d).phases = d.phases ∧ (mirrorSend o d).chans = d.chans ∧ (mirrorSend o d).groups = d.groups ∧ (mirrorSend o d).convs = d.convs ∧ (mirrorSend o d).feeds = d.feeds ∧ (mirrorSend o d).posts = d.posts ∧ (mirrorSend o d).ledger = d.ledger ∧ (mirrorSend o d).tmr = d.tmr ∧ (mirrorSend o d).alarms = d.alarms ∧ (mirrorSend o d).itms = d.itms ∧ (mirrorSend o d).sources = d.sources ∧ (mirrorSend o d).coll = d.coll ∧ (mirrorSend o d).host = d.host ∧ (mirrorSend o d).net = d.net ∧ (mirrorSend o d).upd = d.upd ∧ (mirrorSend o d).store = d.store ∧ (mirrorSend o d).jrn = d.jrn ∧ (mirrorSend o d).sys = d.sys ∧ (mirrorSend o d).loss = d.loss ∧ (mirrorSend o d).tap = d.tap ∧ (mirrorSend o d).ringMem = d.ringMem ∧ (mirrorSend o d).parcel = d.parcel ∧ (mirrorSend o d).timers = d.timers := by
  unfold mirrorSend
  try dsimp only
  all_goals simp
@[simp] theorem twinEvent_frame (i : Nat) (d : Dev) : (twinEvent i d).cfg = d.cfg ∧ (twinEvent i d).ports = d.ports ∧ (twinEvent i d).store = d.store ∧ (twinEvent i d).loss = d.loss ∧ (twinEvent i d).tap = d.tap ∧ (twinEvent i d).ringMem = d.ringMem ∧ (twinEvent i d).parcel = d.parcel := by
  unfold twinEvent
  try dsimp only
  all_goals simp
@[simp] theorem twinJournal_frame (bitsSet : Nat) (d : Dev) : (twinJournal bitsSet d).cfg = d.cfg ∧ (twinJournal bitsSet d).cfgNew = d.cfgNew ∧ (twinJournal bitsSet d).ports = d.ports ∧ (twinJournal bitsSet d).pd = d.pd ∧ (twinJournal bitsSet d).guards = d.guards ∧ (twinJournal bitsSet d).loops = d.loops ∧ (twinJournal bitsSet d).phases = d.phases ∧ (twinJournal bitsSet d).chans = d.chans ∧ (twinJournal bitsSet d).groups = d.groups ∧ (twinJournal bitsSet d).convs = d.convs ∧ (twinJournal bitsSet d).feeds = d.feeds ∧ (twinJournal bitsSet d).posts = d.posts ∧ (twinJournal bitsSet d).ledger = d.ledger ∧ (twinJournal bitsSet d).twin = d.twin ∧ (twinJournal bitsSet d).tmr = d.tmr ∧ (twinJournal bitsSet d).alarms = d.alarms ∧ (twinJournal bitsSet d).itms = d.itms ∧ (twinJournal bitsSet d).sources = d.sources ∧ (twinJournal bitsSet d).coll = d.coll ∧ (twinJournal bitsSet d).net = d.net ∧ (twinJournal bitsSet d).upd = d.upd ∧ (twinJournal bitsSet d).store = d.store ∧ (twinJournal bitsSet d).sys = d.sys ∧ (twinJournal bitsSet d).loss = d.loss ∧ (twinJournal bitsSet d).tap = d.tap ∧ (twinJournal bitsSet d).parcel = d.parcel ∧ (twinJournal bitsSet d).host.jobs = d.host.jobs := by
  unfold twinJournal
  try dsimp only
  all_goals simp
@[simp] theorem forwardSlot_frame (d : Dev) : (forwardSlot d).cfg = d.cfg ∧ (forwardSlot d).cfgNew = d.cfgNew ∧ (forwardSlot d).ports = d.ports ∧ (forwardSlot d).pd = d.pd ∧ (forwardSlot d).guards = d.guards ∧ (forwardSlot d).loops = d.loops ∧ (forwardSlot d).phases = d.phases ∧ (forwardSlot d).chans = d.chans ∧ (forwardSlot d).groups = d.groups ∧ (forwardSlot d).convs = d.convs ∧ (forwardSlot d).feeds = d.feeds ∧ (forwardSlot d).posts = d.posts ∧ (forwardSlot d).ledger = d.ledger ∧ (forwardSlot d).tmr = d.tmr ∧ (forwardSlot d).alarms = d.alarms ∧ (forwardSlot d).itms = d.itms ∧ (forwardSlot d).sources = d.sources ∧ (forwardSlot d).coll = d.coll ∧ (forwardSlot d).host = d.host ∧ (forwardSlot d).net = d.net ∧ (forwardSlot d).upd = d.upd ∧ (forwardSlot d).store = d.store ∧ (forwardSlot d).jrn = d.jrn ∧ (forwardSlot d).sys = d.sys ∧ (forwardSlot d).loss = d.loss ∧ (forwardSlot d).tap = d.tap ∧ (forwardSlot d).ringMem = d.ringMem ∧ (forwardSlot d).parcel = d.parcel ∧ (forwardSlot d).timers = d.timers := by
  unfold forwardSlot
  try dsimp only
  repeat' split
  all_goals simp
@[simp] theorem mirrorUp_frame (d : Dev) : (mirrorUp d).store = d.store ∧ (mirrorUp d).loss = d.loss ∧ (mirrorUp d).tap = d.tap ∧ (mirrorUp d).ringMem = d.ringMem ∧ (mirrorUp d).parcel = d.parcel := by
  unfold mirrorUp
  try dsimp only
  all_goals simp
@[simp] theorem followTb_frame (ns : Int) (d : Dev) : (followTb ns d).store = d.store ∧ (followTb ns d).parcel = d.parcel := by
  unfold followTb
  try dsimp only
  repeat' split
  all_goals simp
@[simp] theorem takeMsync_frame (t1 t2 t3 t4 : Nat) (d : Dev) : (takeMsync t1 t2 t3 t4 d).store = d.store ∧ (takeMsync t1 t2 t3 t4 d).parcel = d.parcel := by
  unfold takeMsync
  try dsimp only
  repeat' split
  all_goals simp
@[simp] theorem trackLoop_frame (stamp : Nat) (r : LoopRec) (d : Dev) : (trackLoop stamp r d).cfg = d.cfg ∧ (trackLoop stamp r d).cfgNew = d.cfgNew ∧ (trackLoop stamp r d).ports = d.ports ∧ (trackLoop stamp r d).pd = d.pd ∧ (trackLoop stamp r d).guards = d.guards ∧ (trackLoop stamp r d).chans = d.chans ∧ (trackLoop stamp r d).groups = d.groups ∧ (trackLoop stamp r d).convs = d.convs ∧ (trackLoop stamp r d).feeds = d.feeds ∧ (trackLoop stamp r d).posts = d.posts ∧ (trackLoop stamp r d).ledger = d.ledger ∧ (trackLoop stamp r d).tmr = d.tmr ∧ (trackLoop stamp r d).alarms = d.alarms ∧ (trackLoop stamp r d).itms = d.itms ∧ (trackLoop stamp r d).sources = d.sources ∧ (trackLoop stamp r d).coll = d.coll ∧ (trackLoop stamp r d).host = d.host ∧ (trackLoop stamp r d).net = d.net ∧ (trackLoop stamp r d).upd = d.upd ∧ (trackLoop stamp r d).store = d.store ∧ (trackLoop stamp r d).jrn = d.jrn ∧ (trackLoop stamp r d).sys = d.sys ∧ (trackLoop stamp r d).loss = d.loss ∧ (trackLoop stamp r d).tap = d.tap ∧ (trackLoop stamp r d).ringMem = d.ringMem ∧ (trackLoop stamp r d).parcel = d.parcel ∧ (trackLoop stamp r d).timers = d.timers := by
  unfold trackLoop
  try dsimp only
  repeat' split
  all_goals simp
@[simp] theorem takeLoop_frame (stamp : Nat) (recs : List LoopRec) (d : Dev) : (takeLoop stamp recs d).store = d.store ∧ (takeLoop stamp recs d).loss = d.loss ∧ (takeLoop stamp recs d).tap = d.tap ∧ (takeLoop stamp recs d).ringMem = d.ringMem ∧ (takeLoop stamp recs d).parcel = d.parcel := by
  unfold takeLoop
  try dsimp only
  repeat' split
  all_goals simp
@[simp] theorem trackFence_frame (p : Fin 32) (mv : Nat) (d : Dev) : (trackFence p mv d).store = d.store ∧ (trackFence p mv d).loss = d.loss ∧ (trackFence p mv d).tap = d.tap ∧ (trackFence p mv d).ringMem = d.ringMem ∧ (trackFence p mv d).parcel = d.parcel := by
  unfold trackFence
  try dsimp only
  repeat' split
  all_goals simp
@[simp] theorem resumePort_frame (p : Fin 32) (d : Dev) : (resumePort p d).cfgNew = d.cfgNew ∧ (resumePort p d).feeds = d.feeds ∧ (resumePort p d).posts = d.posts ∧ (resumePort p d).twin = d.twin ∧ (resumePort p d).tmr = d.tmr ∧ (resumePort p d).upd = d.upd ∧ (resumePort p d).store = d.store ∧ (resumePort p d).sys = d.sys ∧ (resumePort p d).loss = d.loss ∧ (resumePort p d).tap = d.tap ∧ (resumePort p d).ringMem = d.ringMem ∧ (resumePort p d).parcel = d.parcel := by
  unfold resumePort
  try dsimp only
  repeat' split
  all_goals simp
@[simp] theorem resumeHc_frame (p : Fin 32) (d : Dev) : (resumeHc p d).cfg = d.cfg ∧ (resumeHc p d).cfgNew = d.cfgNew ∧ (resumeHc p d).ports = d.ports ∧ (resumeHc p d).pd = d.pd ∧ (resumeHc p d).guards = d.guards ∧ (resumeHc p d).loops = d.loops ∧ (resumeHc p d).phases = d.phases ∧ (resumeHc p d).chans = d.chans ∧ (resumeHc p d).groups = d.groups ∧ (resumeHc p d).convs = d.convs ∧ (resumeHc p d).feeds = d.feeds ∧ (resumeHc p d).posts = d.posts ∧ (resumeHc p d).ledger = d.ledger ∧ (resumeHc p d).twin = d.twin ∧ (resumeHc p d).tmr = d.tmr ∧ (resumeHc p d).alarms = d.alarms ∧ (resumeHc p d).itms = d.itms ∧ (resumeHc p d).sources = d.sources ∧ (resumeHc p d).coll = d.coll ∧ (resumeHc p d).host = d.host ∧ (resumeHc p d).net = d.net ∧ (resumeHc p d).upd = d.upd ∧ (resumeHc p d).store = d.store ∧ (resumeHc p d).jrn = d.jrn ∧ (resumeHc p d).sys = d.sys ∧ (resumeHc p d).loss = d.loss ∧ (resumeHc p d).tap = d.tap ∧ (resumeHc p d).ringMem = d.ringMem ∧ (resumeHc p d).parcel = d.parcel ∧ (resumeHc p d).freeCtr = d.freeCtr := by
  unfold resumeHc
  try dsimp only
  repeat' split
  all_goals simp
@[simp] theorem resumeLoop_frame (p : Fin 32) (d0 : Dev) : (resumeLoop p d0).cfgNew = d0.cfgNew ∧ (resumeLoop p d0).feeds = d0.feeds ∧ (resumeLoop p d0).posts = d0.posts ∧ (resumeLoop p d0).twin = d0.twin ∧ (resumeLoop p d0).tmr = d0.tmr ∧ (resumeLoop p d0).upd = d0.upd ∧ (resumeLoop p d0).sys = d0.sys ∧ (resumeLoop p d0).tap = d0.tap ∧ (resumeLoop p d0).parcel = d0.parcel := by
  unfold resumeLoop
  try dsimp only
  repeat' split
  all_goals simp
@[simp] theorem releasePort_frame (p : Fin 32) (d : Dev) : (releasePort p d).cfg = d.cfg ∧ (releasePort p d).cfgNew = d.cfgNew ∧ (releasePort p d).guards = d.guards ∧ (releasePort p d).loops = d.loops ∧ (releasePort p d).phases = d.phases ∧ (releasePort p d).chans = d.chans ∧ (releasePort p d).groups = d.groups ∧ (releasePort p d).convs = d.convs ∧ (releasePort p d).feeds = d.feeds ∧ (releasePort p d).posts = d.posts ∧ (releasePort p d).ledger = d.ledger ∧ (releasePort p d).twin = d.twin ∧ (releasePort p d).tmr = d.tmr ∧ (releasePort p d).alarms = d.alarms ∧ (releasePort p d).itms = d.itms ∧ (releasePort p d).sources = d.sources ∧ (releasePort p d).coll = d.coll ∧ (releasePort p d).host = d.host ∧ (releasePort p d).net = d.net ∧ (releasePort p d).upd = d.upd ∧ (releasePort p d).store = d.store ∧ (releasePort p d).sys = d.sys ∧ (releasePort p d).loss = d.loss ∧ (releasePort p d).tap = d.tap ∧ (releasePort p d).ringMem = d.ringMem ∧ (releasePort p d).parcel = d.parcel := by
  unfold releasePort
  try dsimp only
  all_goals simp
@[simp] theorem releaseOutputs_frame (d : Dev) : (releaseOutputs d).parcel = d.parcel := by
  unfold releaseOutputs
  try dsimp only
  repeat' split
  all_goals simp
@[simp] theorem twinRefuse_frame (d : Dev) : (twinRefuse d).store = d.store ∧ (twinRefuse d).loss = d.loss ∧ (twinRefuse d).tap = d.tap ∧ (twinRefuse d).ringMem = d.ringMem ∧ (twinRefuse d).parcel = d.parcel := by
  unfold twinRefuse
  try dsimp only
  all_goals simp
@[simp] theorem cmdHandover_frame (d : Dev) : (cmdHandover d).store = d.store ∧ (cmdHandover d).loss = d.loss ∧ (cmdHandover d).tap = d.tap ∧ (cmdHandover d).ringMem = d.ringMem ∧ (cmdHandover d).parcel = d.parcel := by
  unfold cmdHandover
  try dsimp only
  repeat' split
  all_goals simp
@[simp] theorem coldPort_frame (p : Fin 32) (d : Dev) : (coldPort p d).cfgNew = d.cfgNew ∧ (coldPort p d).feeds = d.feeds ∧ (coldPort p d).posts = d.posts ∧ (coldPort p d).twin = d.twin ∧ (coldPort p d).tmr = d.tmr ∧ (coldPort p d).upd = d.upd ∧ (coldPort p d).sys = d.sys ∧ (coldPort p d).tap = d.tap ∧ (coldPort p d).parcel = d.parcel := by
  unfold coldPort
  try dsimp only
  repeat' split
  all_goals simp
@[simp] theorem twinCtl_frame (v : Word) (d : Dev) : (twinCtl v d).store = d.store ∧ (twinCtl v d).loss = d.loss ∧ (twinCtl v d).tap = d.tap ∧ (twinCtl v d).ringMem = d.ringMem ∧ (twinCtl v d).parcel = d.parcel := by
  unfold twinCtl
  try dsimp only
  repeat' split
  all_goals simp
@[simp] theorem tripEdge_frame (e : Fin 4) (d : Dev) : (tripEdge e d).parcel = d.parcel := by
  unfold tripEdge
  try dsimp only
  all_goals simp
@[simp] theorem tripPortEnd_frame (p : Fin 32) (d : Dev) : (tripPortEnd p d).store = d.store ∧ (tripPortEnd p d).loss = d.loss ∧ (tripPortEnd p d).tap = d.tap ∧ (tripPortEnd p d).ringMem = d.ringMem ∧ (tripPortEnd p d).parcel = d.parcel := by
  unfold tripPortEnd
  try dsimp only
  repeat' split
  all_goals simp
@[simp] theorem tripEnd_frame (k : Fin 6) (d : Dev) : (tripEnd k d).store = d.store ∧ (tripEnd k d).loss = d.loss ∧ (tripEnd k d).tap = d.tap ∧ (tripEnd k d).ringMem = d.ringMem ∧ (tripEnd k d).parcel = d.parcel := by
  unfold tripEnd
  try dsimp only
  repeat' split
  all_goals simp
@[simp] theorem condFollow_frame (n : Fin 768) (d : Dev) : (condFollow n d).store = d.store ∧ (condFollow n d).loss = d.loss ∧ (condFollow n d).tap = d.tap ∧ (condFollow n d).ringMem = d.ringMem ∧ (condFollow n d).parcel = d.parcel := by
  unfold condFollow
  try dsimp only
  repeat' split
  all_goals simp
@[simp] theorem dieFence_frame (p : Fin 32) (mv : Nat) (d : Dev) : (dieFence p mv d).cfg = d.cfg ∧ (dieFence p mv d).cfgNew = d.cfgNew ∧ (dieFence p mv d).pd = d.pd ∧ (dieFence p mv d).guards = d.guards ∧ (dieFence p mv d).loops = d.loops ∧ (dieFence p mv d).phases = d.phases ∧ (dieFence p mv d).groups = d.groups ∧ (dieFence p mv d).convs = d.convs ∧ (dieFence p mv d).posts = d.posts ∧ (dieFence p mv d).ledger = d.ledger ∧ (dieFence p mv d).twin = d.twin ∧ (dieFence p mv d).tmr = d.tmr ∧ (dieFence p mv d).alarms = d.alarms ∧ (dieFence p mv d).itms = d.itms ∧ (dieFence p mv d).sources = d.sources ∧ (dieFence p mv d).coll = d.coll ∧ (dieFence p mv d).host = d.host ∧ (dieFence p mv d).net = d.net ∧ (dieFence p mv d).upd = d.upd ∧ (dieFence p mv d).store = d.store ∧ (dieFence p mv d).jrn = d.jrn ∧ (dieFence p mv d).loss = d.loss ∧ (dieFence p mv d).tap = d.tap ∧ (dieFence p mv d).ringMem = d.ringMem ∧ (dieFence p mv d).parcel = d.parcel ∧ (dieFence p mv d).freeCtr = d.freeCtr := by
  unfold dieFence
  try dsimp only
  all_goals simp
@[simp] theorem dieReference_frame (p : Fin 32) (mv : Nat) (k : SlewKind) (d : Dev) : (dieReference p mv k d).cfg = d.cfg ∧ (dieReference p mv k d).cfgNew = d.cfgNew ∧ (dieReference p mv k d).ports = d.ports ∧ (dieReference p mv k d).guards = d.guards ∧ (dieReference p mv k d).groups = d.groups ∧ (dieReference p mv k d).convs = d.convs ∧ (dieReference p mv k d).posts = d.posts ∧ (dieReference p mv k d).ledger = d.ledger ∧ (dieReference p mv k d).twin = d.twin ∧ (dieReference p mv k d).tmr = d.tmr ∧ (dieReference p mv k d).alarms = d.alarms ∧ (dieReference p mv k d).itms = d.itms ∧ (dieReference p mv k d).sources = d.sources ∧ (dieReference p mv k d).coll = d.coll ∧ (dieReference p mv k d).host = d.host ∧ (dieReference p mv k d).net = d.net ∧ (dieReference p mv k d).upd = d.upd ∧ (dieReference p mv k d).store = d.store ∧ (dieReference p mv k d).jrn = d.jrn ∧ (dieReference p mv k d).loss = d.loss ∧ (dieReference p mv k d).tap = d.tap ∧ (dieReference p mv k d).ringMem = d.ringMem ∧ (dieReference p mv k d).parcel = d.parcel := by
  unfold dieReference
  try dsimp only
  repeat' split
  all_goals simp
@[simp] theorem edgeApply_frame (p : Fin 32) (k : EdgeCmd) (d : Dev) : (edgeApply p k d).cfg = d.cfg ∧ (edgeApply p k d).cfgNew = d.cfgNew ∧ (edgeApply p k d).groups = d.groups ∧ (edgeApply p k d).convs = d.convs ∧ (edgeApply p k d).posts = d.posts ∧ (edgeApply p k d).ledger = d.ledger ∧ (edgeApply p k d).twin = d.twin ∧ (edgeApply p k d).tmr = d.tmr ∧ (edgeApply p k d).alarms = d.alarms ∧ (edgeApply p k d).itms = d.itms ∧ (edgeApply p k d).sources = d.sources ∧ (edgeApply p k d).coll = d.coll ∧ (edgeApply p k d).host = d.host ∧ (edgeApply p k d).net = d.net ∧ (edgeApply p k d).upd = d.upd ∧ (edgeApply p k d).store = d.store ∧ (edgeApply p k d).jrn = d.jrn ∧ (edgeApply p k d).loss = d.loss ∧ (edgeApply p k d).tap = d.tap ∧ (edgeApply p k d).ringMem = d.ringMem ∧ (edgeApply p k d).parcel = d.parcel := by
  unfold edgeApply
  try dsimp only
  repeat' split
  all_goals simp
@[simp] theorem feedResync_frame (f : Fin 4) (d : Dev) : (feedResync f d).cfg = d.cfg ∧ (feedResync f d).cfgNew = d.cfgNew ∧ (feedResync f d).ports = d.ports ∧ (feedResync f d).pd = d.pd ∧ (feedResync f d).guards = d.guards ∧ (feedResync f d).loops = d.loops ∧ (feedResync f d).phases = d.phases ∧ (feedResync f d).groups = d.groups ∧ (feedResync f d).convs = d.convs ∧ (feedResync f d).posts = d.posts ∧ (feedResync f d).ledger = d.ledger ∧ (feedResync f d).twin = d.twin ∧ (feedResync f d).tmr = d.tmr ∧ (feedResync f d).alarms = d.alarms ∧ (feedResync f d).itms = d.itms ∧ (feedResync f d).sources = d.sources ∧ (feedResync f d).coll = d.coll ∧ (feedResync f d).host = d.host ∧ (feedResync f d).net = d.net ∧ (feedResync f d).upd = d.upd ∧ (feedResync f d).store = d.store ∧ (feedResync f d).jrn = d.jrn ∧ (feedResync f d).sys = d.sys ∧ (feedResync f d).loss = d.loss ∧ (feedResync f d).tap = d.tap ∧ (feedResync f d).ringMem = d.ringMem ∧ (feedResync f d).parcel = d.parcel := by
  unfold feedResync
  try dsimp only
  repeat' split
  all_goals simp
@[simp] theorem resend_frame (l : Fin 5) (cmds : List (Fin 32 × EdgeCmd)) (d : Dev) : (resend l cmds d).cfg = d.cfg ∧ (resend l cmds d).cfgNew = d.cfgNew ∧ (resend l cmds d).groups = d.groups ∧ (resend l cmds d).convs = d.convs ∧ (resend l cmds d).posts = d.posts ∧ (resend l cmds d).ledger = d.ledger ∧ (resend l cmds d).twin = d.twin ∧ (resend l cmds d).tmr = d.tmr ∧ (resend l cmds d).alarms = d.alarms ∧ (resend l cmds d).itms = d.itms ∧ (resend l cmds d).sources = d.sources ∧ (resend l cmds d).coll = d.coll ∧ (resend l cmds d).host = d.host ∧ (resend l cmds d).net = d.net ∧ (resend l cmds d).upd = d.upd ∧ (resend l cmds d).store = d.store ∧ (resend l cmds d).jrn = d.jrn ∧ (resend l cmds d).loss = d.loss ∧ (resend l cmds d).tap = d.tap ∧ (resend l cmds d).ringMem = d.ringMem ∧ (resend l cmds d).parcel = d.parcel := by
  unfold resend
  try dsimp only
  repeat' split
  all_goals simp
@[simp] theorem endOffer_frame (d : Dev) : (endOffer d).cfg = d.cfg ∧ (endOffer d).cfgNew = d.cfgNew ∧ (endOffer d).ports = d.ports ∧ (endOffer d).pd = d.pd ∧ (endOffer d).guards = d.guards ∧ (endOffer d).loops = d.loops ∧ (endOffer d).phases = d.phases ∧ (endOffer d).chans = d.chans ∧ (endOffer d).groups = d.groups ∧ (endOffer d).convs = d.convs ∧ (endOffer d).feeds = d.feeds ∧ (endOffer d).posts = d.posts ∧ (endOffer d).ledger = d.ledger ∧ (endOffer d).twin = d.twin ∧ (endOffer d).tmr = d.tmr ∧ (endOffer d).alarms = d.alarms ∧ (endOffer d).itms = d.itms ∧ (endOffer d).sources = d.sources ∧ (endOffer d).coll = d.coll ∧ (endOffer d).net = d.net ∧ (endOffer d).upd = d.upd ∧ (endOffer d).store = d.store ∧ (endOffer d).jrn = d.jrn ∧ (endOffer d).sys = d.sys ∧ (endOffer d).loss = d.loss ∧ (endOffer d).tap = d.tap ∧ (endOffer d).ringMem = d.ringMem ∧ (endOffer d).parcel = d.parcel ∧ (endOffer d).freeCtr = d.freeCtr := by
  unfold endOffer
  try dsimp only
  repeat' split
  all_goals simp
@[simp] theorem leaseStart_frame (d : Dev) : (leaseStart d).cfg = d.cfg ∧ (leaseStart d).cfgNew = d.cfgNew ∧ (leaseStart d).ports = d.ports ∧ (leaseStart d).pd = d.pd ∧ (leaseStart d).guards = d.guards ∧ (leaseStart d).loops = d.loops ∧ (leaseStart d).chans = d.chans ∧ (leaseStart d).groups = d.groups ∧ (leaseStart d).convs = d.convs ∧ (leaseStart d).feeds = d.feeds ∧ (leaseStart d).posts = d.posts ∧ (leaseStart d).ledger = d.ledger ∧ (leaseStart d).twin = d.twin ∧ (leaseStart d).tmr = d.tmr ∧ (leaseStart d).alarms = d.alarms ∧ (leaseStart d).itms = d.itms ∧ (leaseStart d).sources = d.sources ∧ (leaseStart d).coll = d.coll ∧ (leaseStart d).net = d.net ∧ (leaseStart d).store = d.store ∧ (leaseStart d).sys = d.sys ∧ (leaseStart d).loss = d.loss ∧ (leaseStart d).tap = d.tap ∧ (leaseStart d).ringMem = d.ringMem ∧ (leaseStart d).parcel = d.parcel := by
  unfold leaseStart
  try dsimp only
  all_goals simp
@[simp] theorem leaseStop_frame (d : Dev) : (leaseStop d).cfg = d.cfg ∧ (leaseStop d).cfgNew = d.cfgNew ∧ (leaseStop d).ports = d.ports ∧ (leaseStop d).pd = d.pd ∧ (leaseStop d).guards = d.guards ∧ (leaseStop d).loops = d.loops ∧ (leaseStop d).chans = d.chans ∧ (leaseStop d).groups = d.groups ∧ (leaseStop d).convs = d.convs ∧ (leaseStop d).feeds = d.feeds ∧ (leaseStop d).posts = d.posts ∧ (leaseStop d).ledger = d.ledger ∧ (leaseStop d).twin = d.twin ∧ (leaseStop d).tmr = d.tmr ∧ (leaseStop d).alarms = d.alarms ∧ (leaseStop d).itms = d.itms ∧ (leaseStop d).sources = d.sources ∧ (leaseStop d).coll = d.coll ∧ (leaseStop d).net = d.net ∧ (leaseStop d).store = d.store ∧ (leaseStop d).sys = d.sys ∧ (leaseStop d).loss = d.loss ∧ (leaseStop d).tap = d.tap ∧ (leaseStop d).ringMem = d.ringMem ∧ (leaseStop d).parcel = d.parcel := by
  unfold leaseStop
  try dsimp only
  all_goals simp
@[simp] theorem ownerChange_frame (new : Option (Fin 5)) (m : Nat) (d : Dev) : (ownerChange new m d).cfg = d.cfg ∧ (ownerChange new m d).cfgNew = d.cfgNew ∧ (ownerChange new m d).ports = d.ports ∧ (ownerChange new m d).pd = d.pd ∧ (ownerChange new m d).guards = d.guards ∧ (ownerChange new m d).loops = d.loops ∧ (ownerChange new m d).chans = d.chans ∧ (ownerChange new m d).groups = d.groups ∧ (ownerChange new m d).convs = d.convs ∧ (ownerChange new m d).feeds = d.feeds ∧ (ownerChange new m d).posts = d.posts ∧ (ownerChange new m d).ledger = d.ledger ∧ (ownerChange new m d).twin = d.twin ∧ (ownerChange new m d).tmr = d.tmr ∧ (ownerChange new m d).alarms = d.alarms ∧ (ownerChange new m d).itms = d.itms ∧ (ownerChange new m d).sources = d.sources ∧ (ownerChange new m d).coll = d.coll ∧ (ownerChange new m d).net = d.net ∧ (ownerChange new m d).sys = d.sys ∧ (ownerChange new m d).loss = d.loss ∧ (ownerChange new m d).tap = d.tap ∧ (ownerChange new m d).parcel = d.parcel := by
  unfold ownerChange
  try dsimp only
  repeat' split
  all_goals simp
@[simp] theorem claimBy_frame (m : Fin 5) (d : Dev) : (claimBy m d).store = d.store ∧ (claimBy m d).loss = d.loss ∧ (claimBy m d).tap = d.tap ∧ (claimBy m d).ringMem = d.ringMem ∧ (claimBy m d).parcel = d.parcel := by
  unfold claimBy
  try dsimp only
  repeat' split
  all_goals simp
@[simp] theorem renewLease_frame (d : Dev) : (renewLease d).store = d.store ∧ (renewLease d).loss = d.loss ∧ (renewLease d).tap = d.tap ∧ (renewLease d).ringMem = d.ringMem ∧ (renewLease d).parcel = d.parcel := by
  unfold renewLease
  try dsimp only
  repeat' split
  all_goals simp
@[simp] theorem handoverWrite_frame (m : Fin 5) (v : Word) (d : Dev) : (handoverWrite m v d).store = d.store ∧ (handoverWrite m v d).loss = d.loss ∧ (handoverWrite m v d).tap = d.tap ∧ (handoverWrite m v d).ringMem = d.ringMem ∧ (handoverWrite m v d).parcel = d.parcel := by
  unfold handoverWrite
  try dsimp only
  repeat' split
  all_goals simp
@[simp] theorem acceptOffer_frame (m : Fin 5) (d : Dev) : (acceptOffer m d).parcel = d.parcel := by
  unfold acceptOffer
  try dsimp only
  repeat' split
  all_goals simp
@[simp] theorem badIndex_frame (m : Fin 5) (r : Fin 16) (d : Dev) : (badIndex m r d).store = d.store ∧ (badIndex m r d).loss = d.loss ∧ (badIndex m r d).tap = d.tap ∧ (badIndex m r d).ringMem = d.ringMem ∧ (badIndex m r d).parcel = d.parcel := by
  unfold badIndex
  try dsimp only
  all_goals simp
@[simp] theorem ringRoomed_frame (kind : Nat) (r : Fin 16) (d : Dev) : (ringRoomed kind r d).store = d.store ∧ (ringRoomed kind r d).loss = d.loss ∧ (ringRoomed kind r d).tap = d.tap ∧ (ringRoomed kind r d).ringMem = d.ringMem ∧ (ringRoomed kind r d).parcel = d.parcel := by
  unfold ringRoomed
  try dsimp only
  repeat' split
  all_goals simp
@[simp] theorem resetRing_frame (r : Fin 16) (d : Dev) : (resetRing r d).store = d.store ∧ (resetRing r d).loss = d.loss ∧ (resetRing r d).tap = d.tap ∧ (resetRing r d).ringMem = d.ringMem ∧ (resetRing r d).parcel = d.parcel := by
  unfold resetRing
  try dsimp only
  all_goals simp
@[simp] theorem countCycle_frame (p : Fin 32) (lim : List (Fin 64)) (d : Dev) : (countCycle p lim d).cfg = d.cfg ∧ (countCycle p lim d).cfgNew = d.cfgNew ∧ (countCycle p lim d).ports = d.ports ∧ (countCycle p lim d).pd = d.pd ∧ (countCycle p lim d).guards = d.guards ∧ (countCycle p lim d).chans = d.chans ∧ (countCycle p lim d).groups = d.groups ∧ (countCycle p lim d).convs = d.convs ∧ (countCycle p lim d).feeds = d.feeds ∧ (countCycle p lim d).posts = d.posts ∧ (countCycle p lim d).ledger = d.ledger ∧ (countCycle p lim d).twin = d.twin ∧ (countCycle p lim d).tmr = d.tmr ∧ (countCycle p lim d).alarms = d.alarms ∧ (countCycle p lim d).itms = d.itms ∧ (countCycle p lim d).sources = d.sources ∧ (countCycle p lim d).coll = d.coll ∧ (countCycle p lim d).host = d.host ∧ (countCycle p lim d).net = d.net ∧ (countCycle p lim d).upd = d.upd ∧ (countCycle p lim d).store = d.store ∧ (countCycle p lim d).jrn = d.jrn ∧ (countCycle p lim d).sys = d.sys ∧ (countCycle p lim d).loss = d.loss ∧ (countCycle p lim d).tap = d.tap ∧ (countCycle p lim d).ringMem = d.ringMem ∧ (countCycle p lim d).parcel = d.parcel ∧ (countCycle p lim d).freeCtr = d.freeCtr := by
  unfold countCycle
  try dsimp only
  repeat' split
  all_goals simp
@[simp] theorem portCycle_frame (p : Fin 32) (d : Dev) : (portCycle p d).cfg = d.cfg ∧ (portCycle p d).cfgNew = d.cfgNew ∧ (portCycle p d).ports = d.ports ∧ (portCycle p d).pd = d.pd ∧ (portCycle p d).guards = d.guards ∧ (portCycle p d).chans = d.chans ∧ (portCycle p d).groups = d.groups ∧ (portCycle p d).convs = d.convs ∧ (portCycle p d).feeds = d.feeds ∧ (portCycle p d).posts = d.posts ∧ (portCycle p d).ledger = d.ledger ∧ (portCycle p d).twin = d.twin ∧ (portCycle p d).tmr = d.tmr ∧ (portCycle p d).alarms = d.alarms ∧ (portCycle p d).itms = d.itms ∧ (portCycle p d).sources = d.sources ∧ (portCycle p d).coll = d.coll ∧ (portCycle p d).host = d.host ∧ (portCycle p d).net = d.net ∧ (portCycle p d).upd = d.upd ∧ (portCycle p d).store = d.store ∧ (portCycle p d).jrn = d.jrn ∧ (portCycle p d).sys = d.sys ∧ (portCycle p d).loss = d.loss ∧ (portCycle p d).tap = d.tap ∧ (portCycle p d).ringMem = d.ringMem ∧ (portCycle p d).parcel = d.parcel := by
  unfold portCycle
  try dsimp only
  repeat' split
  all_goals simp
@[simp] theorem tickLoops_frame (since : Nat) (d : Dev) : (tickLoops since d).cfg = d.cfg ∧ (tickLoops since d).cfgNew = d.cfgNew ∧ (tickLoops since d).ports = d.ports ∧ (tickLoops since d).pd = d.pd ∧ (tickLoops since d).guards = d.guards ∧ (tickLoops since d).chans = d.chans ∧ (tickLoops since d).groups = d.groups ∧ (tickLoops since d).convs = d.convs ∧ (tickLoops since d).feeds = d.feeds ∧ (tickLoops since d).posts = d.posts ∧ (tickLoops since d).ledger = d.ledger ∧ (tickLoops since d).twin = d.twin ∧ (tickLoops since d).tmr = d.tmr ∧ (tickLoops since d).alarms = d.alarms ∧ (tickLoops since d).itms = d.itms ∧ (tickLoops since d).sources = d.sources ∧ (tickLoops since d).coll = d.coll ∧ (tickLoops since d).host = d.host ∧ (tickLoops since d).net = d.net ∧ (tickLoops since d).upd = d.upd ∧ (tickLoops since d).store = d.store ∧ (tickLoops since d).jrn = d.jrn ∧ (tickLoops since d).sys = d.sys ∧ (tickLoops since d).loss = d.loss ∧ (tickLoops since d).tap = d.tap ∧ (tickLoops since d).ringMem = d.ringMem ∧ (tickLoops since d).parcel = d.parcel := by
  unfold tickLoops
  try dsimp only
  repeat' split
  all_goals simp
@[simp] theorem tapReset_frame (low : Bool) (d : Dev) : (tapReset low d).cfg = d.cfg ∧ (tapReset low d).cfgNew = d.cfgNew ∧ (tapReset low d).ports = d.ports ∧ (tapReset low d).pd = d.pd ∧ (tapReset low d).guards = d.guards ∧ (tapReset low d).loops = d.loops ∧ (tapReset low d).phases = d.phases ∧ (tapReset low d).chans = d.chans ∧ (tapReset low d).groups = d.groups ∧ (tapReset low d).convs = d.convs ∧ (tapReset low d).feeds = d.feeds ∧ (tapReset low d).posts = d.posts ∧ (tapReset low d).ledger = d.ledger ∧ (tapReset low d).twin = d.twin ∧ (tapReset low d).tmr = d.tmr ∧ (tapReset low d).alarms = d.alarms ∧ (tapReset low d).itms = d.itms ∧ (tapReset low d).sources = d.sources ∧ (tapReset low d).coll = d.coll ∧ (tapReset low d).host = d.host ∧ (tapReset low d).net = d.net ∧ (tapReset low d).upd = d.upd ∧ (tapReset low d).store = d.store ∧ (tapReset low d).jrn = d.jrn ∧ (tapReset low d).sys = d.sys ∧ (tapReset low d).loss = d.loss ∧ (tapReset low d).ringMem = d.ringMem ∧ (tapReset low d).parcel = d.parcel ∧ (tapReset low d).timers = d.timers ∧ (tapReset low d).freeCtr = d.freeCtr := by
  unfold tapReset
  try dsimp only
  repeat' split
  all_goals simp
@[simp] theorem tapOff_frame (d : Dev) : (tapOff d).cfg = d.cfg ∧ (tapOff d).cfgNew = d.cfgNew ∧ (tapOff d).ports = d.ports ∧ (tapOff d).pd = d.pd ∧ (tapOff d).loops = d.loops ∧ (tapOff d).phases = d.phases ∧ (tapOff d).chans = d.chans ∧ (tapOff d).groups = d.groups ∧ (tapOff d).convs = d.convs ∧ (tapOff d).posts = d.posts ∧ (tapOff d).ledger = d.ledger ∧ (tapOff d).twin = d.twin ∧ (tapOff d).tmr = d.tmr ∧ (tapOff d).alarms = d.alarms ∧ (tapOff d).itms = d.itms ∧ (tapOff d).sources = d.sources ∧ (tapOff d).coll = d.coll ∧ (tapOff d).host = d.host ∧ (tapOff d).net = d.net ∧ (tapOff d).upd = d.upd ∧ (tapOff d).store = d.store ∧ (tapOff d).jrn = d.jrn ∧ (tapOff d).sys = d.sys ∧ (tapOff d).loss = d.loss ∧ (tapOff d).tap = d.tap ∧ (tapOff d).ringMem = d.ringMem ∧ (tapOff d).parcel = d.parcel ∧ (tapOff d).freeCtr = d.freeCtr := by
  unfold tapOff
  try dsimp only
  repeat' split
  all_goals simp
@[simp] theorem tapLoad_frame (i : TapInstr) (d : Dev) : (tapLoad i d).cfg = d.cfg ∧ (tapLoad i d).cfgNew = d.cfgNew ∧ (tapLoad i d).ports = d.ports ∧ (tapLoad i d).pd = d.pd ∧ (tapLoad i d).loops = d.loops ∧ (tapLoad i d).phases = d.phases ∧ (tapLoad i d).chans = d.chans ∧ (tapLoad i d).groups = d.groups ∧ (tapLoad i d).convs = d.convs ∧ (tapLoad i d).posts = d.posts ∧ (tapLoad i d).ledger = d.ledger ∧ (tapLoad i d).twin = d.twin ∧ (tapLoad i d).tmr = d.tmr ∧ (tapLoad i d).alarms = d.alarms ∧ (tapLoad i d).itms = d.itms ∧ (tapLoad i d).sources = d.sources ∧ (tapLoad i d).coll = d.coll ∧ (tapLoad i d).host = d.host ∧ (tapLoad i d).net = d.net ∧ (tapLoad i d).upd = d.upd ∧ (tapLoad i d).store = d.store ∧ (tapLoad i d).jrn = d.jrn ∧ (tapLoad i d).sys = d.sys ∧ (tapLoad i d).loss = d.loss ∧ (tapLoad i d).ringMem = d.ringMem ∧ (tapLoad i d).parcel = d.parcel ∧ (tapLoad i d).freeCtr = d.freeCtr := by
  unfold tapLoad
  try dsimp only
  repeat' split
  all_goals simp
@[simp] theorem roWrite_frame (m : Fin 5) (named : Bool) (d : Dev) : (roWrite m named d).store = d.store ∧ (roWrite m named d).loss = d.loss ∧ (roWrite m named d).tap = d.tap ∧ (roWrite m named d).ringMem = d.ringMem ∧ (roWrite m named d).parcel = d.parcel := by
  unfold roWrite
  try dsimp only
  repeat' split
  all_goals simp
@[simp] theorem baudWrite_frame (v : Word) (d : Dev) : (baudWrite v d).store = d.store ∧ (baudWrite v d).loss = d.loss ∧ (baudWrite v d).tap = d.tap ∧ (baudWrite v d).ringMem = d.ringMem ∧ (baudWrite v d).parcel = d.parcel := by
  unfold baudWrite
  try dsimp only
  repeat' split
  all_goals simp
@[simp] theorem faultCtl_frame (v : Word) (d : Dev) : (faultCtl v d).store = d.store ∧ (faultCtl v d).loss = d.loss ∧ (faultCtl v d).tap = d.tap ∧ (faultCtl v d).ringMem = d.ringMem ∧ (faultCtl v d).parcel = d.parcel := by
  unfold faultCtl
  try dsimp only
  all_goals simp
@[simp] theorem summaryClear_frame (v : Word) (d : Dev) : (summaryClear v d).store = d.store ∧ (summaryClear v d).loss = d.loss ∧ (summaryClear v d).tap = d.tap ∧ (summaryClear v d).ringMem = d.ringMem ∧ (summaryClear v d).parcel = d.parcel := by
  unfold summaryClear
  try dsimp only
  all_goals simp
@[simp] theorem itmCtl_frame (t : Fin 16) (v : Word) (d : Dev) : (itmCtl t v d).store = d.store ∧ (itmCtl t v d).loss = d.loss ∧ (itmCtl t v d).tap = d.tap ∧ (itmCtl t v d).ringMem = d.ringMem ∧ (itmCtl t v d).parcel = d.parcel := by
  unfold itmCtl
  try dsimp only
  all_goals simp
@[simp] theorem itmCmd_frame (t : Fin 16) (v : Word) (d : Dev) : (itmCmd t v d).store = d.store ∧ (itmCmd t v d).loss = d.loss ∧ (itmCmd t v d).tap = d.tap ∧ (itmCmd t v d).ringMem = d.ringMem ∧ (itmCmd t v d).parcel = d.parcel := by
  unfold itmCmd
  try dsimp only
  repeat' split
  all_goals simp
@[simp] theorem limitWrite_frame (p : Fin 32) (v : Word) (d : Dev) : (limitWrite p v d).store = d.store ∧ (limitWrite p v d).loss = d.loss ∧ (limitWrite p v d).tap = d.tap ∧ (limitWrite p v d).ringMem = d.ringMem ∧ (limitWrite p v d).parcel = d.parcel := by
  unfold limitWrite
  try dsimp only
  all_goals simp
@[simp] theorem feedCtl_frame (f : Fin 4) (v : Word) (d : Dev) : (feedCtl f v d).store = d.store ∧ (feedCtl f v d).loss = d.loss ∧ (feedCtl f v d).tap = d.tap ∧ (feedCtl f v d).ringMem = d.ringMem ∧ (feedCtl f v d).parcel = d.parcel := by
  unfold feedCtl
  try dsimp only
  repeat' split
  all_goals simp
@[simp] theorem statusBit_frame (m : Fin 5) (i : Nat) (d : Dev) : (statusBit m i d).cfg = d.cfg ∧ (statusBit m i d).cfgNew = d.cfgNew ∧ (statusBit m i d).ports = d.ports ∧ (statusBit m i d).pd = d.pd ∧ (statusBit m i d).guards = d.guards ∧ (statusBit m i d).loops = d.loops ∧ (statusBit m i d).phases = d.phases ∧ (statusBit m i d).chans = d.chans ∧ (statusBit m i d).groups = d.groups ∧ (statusBit m i d).convs = d.convs ∧ (statusBit m i d).feeds = d.feeds ∧ (statusBit m i d).posts = d.posts ∧ (statusBit m i d).ledger = d.ledger ∧ (statusBit m i d).twin = d.twin ∧ (statusBit m i d).tmr = d.tmr ∧ (statusBit m i d).alarms = d.alarms ∧ (statusBit m i d).itms = d.itms ∧ (statusBit m i d).sources = d.sources ∧ (statusBit m i d).coll = d.coll ∧ (statusBit m i d).net = d.net ∧ (statusBit m i d).upd = d.upd ∧ (statusBit m i d).store = d.store ∧ (statusBit m i d).jrn = d.jrn ∧ (statusBit m i d).sys = d.sys ∧ (statusBit m i d).loss = d.loss ∧ (statusBit m i d).tap = d.tap ∧ (statusBit m i d).ringMem = d.ringMem ∧ (statusBit m i d).parcel = d.parcel ∧ (statusBit m i d).timers = d.timers := by
  unfold statusBit
  try dsimp only
  all_goals simp
@[simp] theorem beginTx_frame (m : Fin 5) (crcOk : Bool) (d : Dev) : (beginTx m crcOk d).cfg = d.cfg ∧ (beginTx m crcOk d).cfgNew = d.cfgNew ∧ (beginTx m crcOk d).ports = d.ports ∧ (beginTx m crcOk d).pd = d.pd ∧ (beginTx m crcOk d).guards = d.guards ∧ (beginTx m crcOk d).loops = d.loops ∧ (beginTx m crcOk d).phases = d.phases ∧ (beginTx m crcOk d).chans = d.chans ∧ (beginTx m crcOk d).groups = d.groups ∧ (beginTx m crcOk d).convs = d.convs ∧ (beginTx m crcOk d).feeds = d.feeds ∧ (beginTx m crcOk d).posts = d.posts ∧ (beginTx m crcOk d).ledger = d.ledger ∧ (beginTx m crcOk d).twin = d.twin ∧ (beginTx m crcOk d).tmr = d.tmr ∧ (beginTx m crcOk d).alarms = d.alarms ∧ (beginTx m crcOk d).itms = d.itms ∧ (beginTx m crcOk d).sources = d.sources ∧ (beginTx m crcOk d).coll = d.coll ∧ (beginTx m crcOk d).net = d.net ∧ (beginTx m crcOk d).upd = d.upd ∧ (beginTx m crcOk d).store = d.store ∧ (beginTx m crcOk d).jrn = d.jrn ∧ (beginTx m crcOk d).sys = d.sys ∧ (beginTx m crcOk d).loss = d.loss ∧ (beginTx m crcOk d).tap = d.tap ∧ (beginTx m crcOk d).ringMem = d.ringMem ∧ (beginTx m crcOk d).parcel = d.parcel ∧ (beginTx m crcOk d).timers = d.timers := by
  unfold beginTx
  try dsimp only
  all_goals simp
@[simp] theorem endTx_frame (m : Fin 5) (d : Dev) : (endTx m d).cfg = d.cfg ∧ (endTx m d).cfgNew = d.cfgNew ∧ (endTx m d).ports = d.ports ∧ (endTx m d).pd = d.pd ∧ (endTx m d).guards = d.guards ∧ (endTx m d).loops = d.loops ∧ (endTx m d).phases = d.phases ∧ (endTx m d).chans = d.chans ∧ (endTx m d).groups = d.groups ∧ (endTx m d).convs = d.convs ∧ (endTx m d).feeds = d.feeds ∧ (endTx m d).posts = d.posts ∧ (endTx m d).ledger = d.ledger ∧ (endTx m d).twin = d.twin ∧ (endTx m d).tmr = d.tmr ∧ (endTx m d).alarms = d.alarms ∧ (endTx m d).itms = d.itms ∧ (endTx m d).sources = d.sources ∧ (endTx m d).coll = d.coll ∧ (endTx m d).net = d.net ∧ (endTx m d).upd = d.upd ∧ (endTx m d).store = d.store ∧ (endTx m d).jrn = d.jrn ∧ (endTx m d).sys = d.sys ∧ (endTx m d).loss = d.loss ∧ (endTx m d).tap = d.tap ∧ (endTx m d).ringMem = d.ringMem ∧ (endTx m d).parcel = d.parcel ∧ (endTx m d).timers = d.timers := by
  unfold endTx
  try dsimp only
  repeat' split
  all_goals simp
@[simp] theorem failTx_frame (m : Fin 5) (words : Nat) (d : Dev) : (failTx m words d).store = d.store ∧ (failTx m words d).loss = d.loss ∧ (failTx m words d).tap = d.tap ∧ (failTx m words d).ringMem = d.ringMem ∧ (failTx m words d).parcel = d.parcel := by
  unfold failTx
  try dsimp only
  all_goals simp
@[simp] theorem statusTx_frame (m : Fin 5) (d : Dev) : (statusTx m d).store = d.store ∧ (statusTx m d).loss = d.loss ∧ (statusTx m d).tap = d.tap ∧ (statusTx m d).ringMem = d.ringMem ∧ (statusTx m d).parcel = d.parcel := by
  unfold statusTx
  try dsimp only
  all_goals simp
@[simp] theorem spiCounted_frame (b : Fin 2) (d : Dev) : (spiCounted b d).store = d.store ∧ (spiCounted b d).loss = d.loss ∧ (spiCounted b d).tap = d.tap ∧ (spiCounted b d).ringMem = d.ringMem ∧ (spiCounted b d).parcel = d.parcel := by
  unfold spiCounted
  try dsimp only
  all_goals simp
@[simp] theorem spiCrcFail_frame (b : Fin 2) (d : Dev) : (spiCrcFail b d).store = d.store ∧ (spiCrcFail b d).loss = d.loss ∧ (spiCrcFail b d).tap = d.tap ∧ (spiCrcFail b d).ringMem = d.ringMem ∧ (spiCrcFail b d).parcel = d.parcel := by
  unfold spiCrcFail
  try dsimp only
  all_goals simp
@[simp] theorem spiAborted_frame (b : Fin 2) (d : Dev) : (spiAborted b d).store = d.store ∧ (spiAborted b d).loss = d.loss ∧ (spiAborted b d).tap = d.tap ∧ (spiAborted b d).ringMem = d.ringMem ∧ (spiAborted b d).parcel = d.parcel := by
  unfold spiAborted
  try dsimp only
  all_goals simp
@[simp] theorem journalWait_frame (b : Fin 2) (a : Nat) (d : Dev) : (journalWait b a d).store = d.store ∧ (journalWait b a d).loss = d.loss ∧ (journalWait b a d).tap = d.tap ∧ (journalWait b a d).ringMem = d.ringMem ∧ (journalWait b a d).parcel = d.parcel := by
  unfold journalWait
  try dsimp only
  repeat' split
  all_goals simp
@[simp] theorem uartCounted_frame  (d : Dev) : (uartCounted d).store = d.store ∧ (uartCounted d).loss = d.loss ∧ (uartCounted d).tap = d.tap ∧ (uartCounted d).ringMem = d.ringMem ∧ (uartCounted d).parcel = d.parcel := by
  unfold uartCounted
  try dsimp only
  all_goals simp
@[simp] theorem mgmtSend_frame (d : Dev) : (mgmtSend d).cfg = d.cfg ∧ (mgmtSend d).cfgNew = d.cfgNew ∧ (mgmtSend d).ports = d.ports ∧ (mgmtSend d).pd = d.pd ∧ (mgmtSend d).guards = d.guards ∧ (mgmtSend d).loops = d.loops ∧ (mgmtSend d).phases = d.phases ∧ (mgmtSend d).chans = d.chans ∧ (mgmtSend d).groups = d.groups ∧ (mgmtSend d).convs = d.convs ∧ (mgmtSend d).feeds = d.feeds ∧ (mgmtSend d).posts = d.posts ∧ (mgmtSend d).ledger = d.ledger ∧ (mgmtSend d).twin = d.twin ∧ (mgmtSend d).tmr = d.tmr ∧ (mgmtSend d).alarms = d.alarms ∧ (mgmtSend d).itms = d.itms ∧ (mgmtSend d).sources = d.sources ∧ (mgmtSend d).coll = d.coll ∧ (mgmtSend d).host = d.host ∧ (mgmtSend d).upd = d.upd ∧ (mgmtSend d).store = d.store ∧ (mgmtSend d).jrn = d.jrn ∧ (mgmtSend d).sys = d.sys ∧ (mgmtSend d).loss = d.loss ∧ (mgmtSend d).tap = d.tap ∧ (mgmtSend d).ringMem = d.ringMem ∧ (mgmtSend d).parcel = d.parcel ∧ (mgmtSend d).timers = d.timers := by
  unfold mgmtSend
  try dsimp only
  repeat' split
  all_goals simp
@[simp] theorem keepReply_frame (ep sqn : Nat) (content : List Nat) (d : Dev) : (keepReply ep sqn content d).cfg = d.cfg ∧ (keepReply ep sqn content d).cfgNew = d.cfgNew ∧ (keepReply ep sqn content d).ports = d.ports ∧ (keepReply ep sqn content d).pd = d.pd ∧ (keepReply ep sqn content d).guards = d.guards ∧ (keepReply ep sqn content d).loops = d.loops ∧ (keepReply ep sqn content d).phases = d.phases ∧ (keepReply ep sqn content d).chans = d.chans ∧ (keepReply ep sqn content d).groups = d.groups ∧ (keepReply ep sqn content d).convs = d.convs ∧ (keepReply ep sqn content d).feeds = d.feeds ∧ (keepReply ep sqn content d).posts = d.posts ∧ (keepReply ep sqn content d).ledger = d.ledger ∧ (keepReply ep sqn content d).twin = d.twin ∧ (keepReply ep sqn content d).tmr = d.tmr ∧ (keepReply ep sqn content d).alarms = d.alarms ∧ (keepReply ep sqn content d).itms = d.itms ∧ (keepReply ep sqn content d).sources = d.sources ∧ (keepReply ep sqn content d).coll = d.coll ∧ (keepReply ep sqn content d).upd = d.upd ∧ (keepReply ep sqn content d).store = d.store ∧ (keepReply ep sqn content d).jrn = d.jrn ∧ (keepReply ep sqn content d).sys = d.sys ∧ (keepReply ep sqn content d).loss = d.loss ∧ (keepReply ep sqn content d).tap = d.tap ∧ (keepReply ep sqn content d).ringMem = d.ringMem ∧ (keepReply ep sqn content d).parcel = d.parcel ∧ (keepReply ep sqn content d).timers = d.timers := by
  unfold keepReply
  try dsimp only
  all_goals simp
@[simp] theorem resendReply_frame (k : Kept) (d : Dev) : (resendReply k d).cfg = d.cfg ∧ (resendReply k d).cfgNew = d.cfgNew ∧ (resendReply k d).ports = d.ports ∧ (resendReply k d).pd = d.pd ∧ (resendReply k d).guards = d.guards ∧ (resendReply k d).loops = d.loops ∧ (resendReply k d).phases = d.phases ∧ (resendReply k d).chans = d.chans ∧ (resendReply k d).groups = d.groups ∧ (resendReply k d).convs = d.convs ∧ (resendReply k d).feeds = d.feeds ∧ (resendReply k d).posts = d.posts ∧ (resendReply k d).ledger = d.ledger ∧ (resendReply k d).twin = d.twin ∧ (resendReply k d).tmr = d.tmr ∧ (resendReply k d).alarms = d.alarms ∧ (resendReply k d).itms = d.itms ∧ (resendReply k d).sources = d.sources ∧ (resendReply k d).coll = d.coll ∧ (resendReply k d).upd = d.upd ∧ (resendReply k d).store = d.store ∧ (resendReply k d).jrn = d.jrn ∧ (resendReply k d).sys = d.sys ∧ (resendReply k d).loss = d.loss ∧ (resendReply k d).tap = d.tap ∧ (resendReply k d).ringMem = d.ringMem ∧ (resendReply k d).parcel = d.parcel ∧ (resendReply k d).timers = d.timers := by
  unfold resendReply
  try dsimp only
  repeat' split
  all_goals simp
@[simp] theorem forwardFail_frame (d : Dev) : (forwardFail d).store = d.store ∧ (forwardFail d).loss = d.loss ∧ (forwardFail d).tap = d.tap ∧ (forwardFail d).ringMem = d.ringMem ∧ (forwardFail d).parcel = d.parcel := by
  unfold forwardFail
  try dsimp only
  all_goals simp
@[simp] theorem takeCensus_frame (n : Fin 64) (passed : Bool) (r : CensusResult) (d : Dev) : (takeCensus n passed r d).store = d.store ∧ (takeCensus n passed r d).parcel = d.parcel := by
  unfold takeCensus
  try dsimp only
  repeat' split
  all_goals simp
@[simp] theorem takeRetired_frame (mask : BitVec 64) (d : Dev) : (takeRetired mask d).store = d.store ∧ (takeRetired mask d).loss = d.loss ∧ (takeRetired mask d).tap = d.tap ∧ (takeRetired mask d).ringMem = d.ringMem ∧ (takeRetired mask d).parcel = d.parcel := by
  unfold takeRetired
  try dsimp only
  all_goals simp
@[simp] theorem tickTb_frame (d : Dev) : (tickTb d).alarms = d.alarms ∧ (tickTb d).itms = d.itms ∧ (tickTb d).store = d.store ∧ (tickTb d).loss = d.loss ∧ (tickTb d).tap = d.tap ∧ (tickTb d).ringMem = d.ringMem ∧ (tickTb d).parcel = d.parcel ∧ (tickTb d).timers = d.timers := by
  unfold tickTb
  try dsimp only
  all_goals simp
@[simp] theorem tickAon_frame (d : Dev) : (tickAon d).tmr = d.tmr ∧ (tickAon d).alarms = d.alarms ∧ (tickAon d).itms = d.itms ∧ (tickAon d).store = d.store ∧ (tickAon d).loss = d.loss ∧ (tickAon d).tap = d.tap ∧ (tickAon d).ringMem = d.ringMem ∧ (tickAon d).parcel = d.parcel ∧ (tickAon d).timers = d.timers := by
  unfold tickAon
  try dsimp only
  repeat' split
  all_goals simp
@[simp] theorem tickGo_frame (d : Dev) : (tickGo d).store = d.store ∧ (tickGo d).loss = d.loss ∧ (tickGo d).tap = d.tap ∧ (tickGo d).ringMem = d.ringMem ∧ (tickGo d).parcel = d.parcel := by
  unfold tickGo
  try dsimp only
  repeat' split
  all_goals simp
@[simp] theorem tickJournal_frame (d : Dev) : (tickJournal d).store = d.store ∧ (tickJournal d).loss = d.loss ∧ (tickJournal d).tap = d.tap ∧ (tickJournal d).ringMem = d.ringMem ∧ (tickJournal d).parcel = d.parcel := by
  unfold tickJournal
  try dsimp only
  repeat' split
  all_goals simp
@[simp] theorem tickFetch_frame (d : Dev) : (tickFetch d).store = d.store ∧ (tickFetch d).loss = d.loss ∧ (tickFetch d).tap = d.tap ∧ (tickFetch d).ringMem = d.ringMem ∧ (tickFetch d).parcel = d.parcel := by
  unfold tickFetch
  try dsimp only
  all_goals simp
@[simp] theorem tickAsleep_frame (d : Dev) : (tickAsleep d).store = d.store ∧ (tickAsleep d).loss = d.loss ∧ (tickAsleep d).tap = d.tap ∧ (tickAsleep d).ringMem = d.ringMem ∧ (tickAsleep d).parcel = d.parcel := by
  unfold tickAsleep
  try dsimp only
  repeat' split
  all_goals simp
@[simp] theorem tickCensus_frame (d : Dev) : (tickCensus d).cfg = d.cfg ∧ (tickCensus d).cfgNew = d.cfgNew ∧ (tickCensus d).ports = d.ports ∧ (tickCensus d).pd = d.pd ∧ (tickCensus d).guards = d.guards ∧ (tickCensus d).chans = d.chans ∧ (tickCensus d).groups = d.groups ∧ (tickCensus d).convs = d.convs ∧ (tickCensus d).feeds = d.feeds ∧ (tickCensus d).posts = d.posts ∧ (tickCensus d).ledger = d.ledger ∧ (tickCensus d).twin = d.twin ∧ (tickCensus d).tmr = d.tmr ∧ (tickCensus d).alarms = d.alarms ∧ (tickCensus d).itms = d.itms ∧ (tickCensus d).sources = d.sources ∧ (tickCensus d).coll = d.coll ∧ (tickCensus d).host = d.host ∧ (tickCensus d).net = d.net ∧ (tickCensus d).upd = d.upd ∧ (tickCensus d).store = d.store ∧ (tickCensus d).jrn = d.jrn ∧ (tickCensus d).sys = d.sys ∧ (tickCensus d).loss = d.loss ∧ (tickCensus d).tap = d.tap ∧ (tickCensus d).ringMem = d.ringMem ∧ (tickCensus d).parcel = d.parcel ∧ (tickCensus d).timers = d.timers := by
  unfold tickCensus
  try dsimp only
  repeat' split
  all_goals simp
@[simp] theorem tickAwake_frame (d : Dev) : (tickAwake d).store = d.store ∧ (tickAwake d).loss = d.loss ∧ (tickAwake d).tap = d.tap ∧ (tickAwake d).ringMem = d.ringMem ∧ (tickAwake d).parcel = d.parcel := by
  unfold tickAwake
  try dsimp only
  all_goals simp

@[simp] theorem resumeLedger_frame (isCold : Bool) (d : Dev) : (resumeLedger isCold d).cfg = d.cfg ∧ (resumeLedger isCold d).cfgNew = d.cfgNew ∧ (resumeLedger isCold d).feeds = d.feeds ∧ (resumeLedger isCold d).posts = d.posts ∧ (resumeLedger isCold d).twin = d.twin ∧ (resumeLedger isCold d).upd = d.upd ∧ (resumeLedger isCold d).store = d.store ∧ (resumeLedger isCold d).sys = d.sys ∧ (resumeLedger isCold d).loss = d.loss ∧ (resumeLedger isCold d).tap = d.tap ∧ (resumeLedger isCold d).parcel = d.parcel := by
  unfold resumeLedger unsteered onlyIf
  try dsimp only
  repeat' split
  all_goals simp
end Sys2Proof.Machine
end

