-- ==== Sys2Proof/Laws/Safety.lean ====
section
/-! SUPPORT. The frame predicates of Safety, part by part. -/

namespace Sys2Proof.Machine

theorem mem_or {l : List Part} {x : Part} {P : Prop} (h : x ∉ l → P) : x ∈ l ∨ P := Decidable.or_iff_not_imp_left.mpr h

theorem sameBut_iff {l : List Part} {a b : Dev} : SameBut l a b ↔
    (.cfg ∈ l ∨ b.cfg = a.cfg) ∧
    (.cfgNew ∈ l ∨ b.cfgNew = a.cfgNew) ∧
    (.ports ∈ l ∨ b.ports = a.ports) ∧
    (.pd ∈ l ∨ b.pd = a.pd) ∧
    (.guards ∈ l ∨ b.guards = a.guards) ∧
    (.loops ∈ l ∨ b.loops = a.loops) ∧
    (.phases ∈ l ∨ b.phases = a.phases) ∧
    (.chans ∈ l ∨ b.chans = a.chans) ∧
    (.groups ∈ l ∨ b.groups = a.groups) ∧
    (.convs ∈ l ∨ b.convs = a.convs) ∧
    (.feeds ∈ l ∨ b.feeds = a.feeds) ∧
    (.posts ∈ l ∨ b.posts = a.posts) ∧
    (.ledger ∈ l ∨ b.ledger = a.ledger) ∧
    (.twin ∈ l ∨ b.twin.core = a.twin.core) ∧
    (.tmr ∈ l ∨ b.tmr = a.tmr) ∧
    (.alarms ∈ l ∨ b.alarms = a.alarms) ∧
    (.itms ∈ l ∨ b.itms = a.itms) ∧
    (.sources ∈ l ∨ b.sources = a.sources) ∧
    (.coll ∈ l ∨ b.coll = a.coll) ∧
    (.host ∈ l ∨ b.host = a.host) ∧
    (.net ∈ l ∨ b.net = a.net) ∧
    (.upd ∈ l ∨ b.upd = a.upd) ∧
    (.store ∈ l ∨ b.store = a.store) ∧
    (.jrn ∈ l ∨ b.jrn = a.jrn) ∧
    (.sys ∈ l ∨ b.sys = a.sys) ∧
    (.loss ∈ l ∨ b.loss = a.loss) ∧
    (.tap ∈ l ∨ b.tap = a.tap) ∧
    (.ringMem ∈ l ∨ b.ringMem = a.ringMem) ∧
    (.parcel ∈ l ∨ b.parcel = a.parcel) ∧
    (.timers ∈ l ∨ b.timers = a.timers) := by
  constructor
  · intro h
    exact ⟨mem_or (h .cfg), mem_or (h .cfgNew), mem_or (h .ports), mem_or (h .pd), mem_or (h .guards), mem_or (h .loops), mem_or (h .phases), mem_or (h .chans), mem_or (h .groups), mem_or (h .convs), mem_or (h .feeds), mem_or (h .posts), mem_or (h .ledger), mem_or (h .twin), mem_or (h .tmr), mem_or (h .alarms), mem_or (h .itms), mem_or (h .sources), mem_or (h .coll), mem_or (h .host), mem_or (h .net), mem_or (h .upd), mem_or (h .store), mem_or (h .jrn), mem_or (h .sys), mem_or (h .loss), mem_or (h .tap), mem_or (h .ringMem), mem_or (h .parcel), mem_or (h .timers)⟩
  · intro ⟨h0, h1, h2, h3, h4, h5, h6, h7, h8, h9, h10, h11, h12, h13, h14, h15, h16, h17, h18, h19, h20, h21, h22, h23, h24, h25, h26, h27, h28, h29⟩ x hx
    cases x
    · exact h0.resolve_left hx
    · exact h1.resolve_left hx
    · exact h2.resolve_left hx
    · exact h3.resolve_left hx
    · exact h4.resolve_left hx
    · exact h5.resolve_left hx
    · exact h6.resolve_left hx
    · exact h7.resolve_left hx
    · exact h8.resolve_left hx
    · exact h9.resolve_left hx
    · exact h10.resolve_left hx
    · exact h11.resolve_left hx
    · exact h12.resolve_left hx
    · exact h13.resolve_left hx
    · exact h14.resolve_left hx
    · exact h15.resolve_left hx
    · exact h16.resolve_left hx
    · exact h17.resolve_left hx
    · exact h18.resolve_left hx
    · exact h19.resolve_left hx
    · exact h20.resolve_left hx
    · exact h21.resolve_left hx
    · exact h22.resolve_left hx
    · exact h23.resolve_left hx
    · exact h24.resolve_left hx
    · exact h25.resolve_left hx
    · exact h26.resolve_left hx
    · exact h27.resolve_left hx
    · exact h28.resolve_left hx
    · exact h29.resolve_left hx

theorem core_congr {t u : Twin} (h : { t with sent := [], loadLog := [], eligible := false, event := 0 } =
    { u with sent := [], loadLog := [], eligible := false, event := 0 }) : t.core = u.core := h

theorem mirrorLog_core (tb : Nat) (l : List MirrorOut) (t : Twin) : (mirrorLog tb l t).core = t.core := by
  unfold mirrorLog Twin.core
  dsimp only

@[simp] theorem settleTwin_core (a b : Dev) : (settleTwin a b).core = b.twin.core := by
  unfold settleTwin
  generalize mirrorNews a b = l
  generalize whyNot b = w
  dsimp only
  split
  · split
    · exact mirrorLog_core _ _ _
    · rfl
  · split
    · unfold Twin.core; dsimp only
    · split
      · unfold Twin.core; dsimp only
      · rfl

@[simp] theorem settleTwin_role (a b : Dev) : (settleTwin a b).role = b.twin.role :=
  show (settleTwin a b).core.role = b.twin.core.role from congrArg (Twin.role ·) (settleTwin_core a b)
@[simp] theorem settleTwin_partnerHb (a b : Dev) : (settleTwin a b).partnerHb = b.twin.partnerHb :=
  show (settleTwin a b).core.partnerHb = b.twin.core.partnerHb from congrArg (Twin.partnerHb ·) (settleTwin_core a b)
@[simp] theorem settleTwin_prole (a b : Dev) : (settleTwin a b).prole = b.twin.prole :=
  show (settleTwin a b).core.prole = b.twin.core.prole from congrArg (Twin.prole ·) (settleTwin_core a b)
@[simp] theorem settleTwin_roleOut (a b : Dev) : (settleTwin a b).roleOut = b.twin.roleOut :=
  show (settleTwin a b).core.roleOut = b.twin.core.roleOut from congrArg (Twin.roleOut ·) (settleTwin_core a b)
@[simp] theorem settleTwin_slot (a b : Dev) : (settleTwin a b).slot = b.twin.slot :=
  show (settleTwin a b).core.slot = b.twin.core.slot from congrArg (Twin.slot ·) (settleTwin_core a b)
@[simp] theorem settleTwin_lsFresh (a b : Dev) : (settleTwin a b).lsFresh = b.twin.lsFresh :=
  show (settleTwin a b).core.lsFresh = b.twin.core.lsFresh from congrArg (Twin.lsFresh ·) (settleTwin_core a b)
@[simp] theorem settleTwin_lsFreshSince (a b : Dev) : (settleTwin a b).lsFreshSince = b.twin.lsFreshSince :=
  show (settleTwin a b).core.lsFreshSince = b.twin.core.lsFreshSince from congrArg (Twin.lsFreshSince ·) (settleTwin_core a b)
@[simp] theorem settleTwin_tbLock (a b : Dev) : (settleTwin a b).tbLock = b.twin.tbLock :=
  show (settleTwin a b).core.tbLock = b.twin.core.tbLock from congrArg (Twin.tbLock ·) (settleTwin_core a b)
@[simp] theorem settleTwin_irqen (a b : Dev) : (settleTwin a b).irqen = b.twin.irqen :=
  show (settleTwin a b).core.irqen = b.twin.core.irqen from congrArg (Twin.irqen ·) (settleTwin_core a b)
@[simp] theorem settleTwin_inhibit (a b : Dev) : (settleTwin a b).inhibit = b.twin.inhibit :=
  show (settleTwin a b).core.inhibit = b.twin.core.inhibit from congrArg (Twin.inhibit ·) (settleTwin_core a b)
@[simp] theorem settleTwin_replace (a b : Dev) : (settleTwin a b).replace = b.twin.replace :=
  show (settleTwin a b).core.replace = b.twin.core.replace from congrArg (Twin.replace ·) (settleTwin_core a b)
@[simp] theorem settleTwin_cmd (a b : Dev) : (settleTwin a b).cmd = b.twin.cmd :=
  show (settleTwin a b).core.cmd = b.twin.core.cmd from congrArg (Twin.cmd ·) (settleTwin_core a b)
@[simp] theorem settleTwin_link (a b : Dev) : (settleTwin a b).link = b.twin.link :=
  show (settleTwin a b).core.link = b.twin.core.link from congrArg (Twin.link ·) (settleTwin_core a b)
@[simp] theorem settleTwin_lock0 (a b : Dev) : (settleTwin a b).lock0 = b.twin.lock0 :=
  show (settleTwin a b).core.lock0 = b.twin.core.lock0 from congrArg (Twin.lock0 ·) (settleTwin_core a b)
@[simp] theorem settleTwin_lock1 (a b : Dev) : (settleTwin a b).lock1 = b.twin.lock1 :=
  show (settleTwin a b).core.lock1 = b.twin.core.lock1 from congrArg (Twin.lock1 ·) (settleTwin_core a b)
@[simp] theorem settleTwin_skew (a b : Dev) : (settleTwin a b).skew = b.twin.skew :=
  show (settleTwin a b).core.skew = b.twin.core.skew from congrArg (Twin.skew ·) (settleTwin_core a b)
@[simp] theorem settleTwin_lsAgeMax (a b : Dev) : (settleTwin a b).lsAgeMax = b.twin.lsAgeMax :=
  show (settleTwin a b).core.lsAgeMax = b.twin.core.lsAgeMax from congrArg (Twin.lsAgeMax ·) (settleTwin_core a b)
@[simp] theorem settleTwin_lastLoop (a b : Dev) : (settleTwin a b).lastLoop = b.twin.lastLoop :=
  show (settleTwin a b).core.lastLoop = b.twin.core.lastLoop from congrArg (Twin.lastLoop ·) (settleTwin_core a b)
@[simp] theorem settleTwin_tofs (a b : Dev) : (settleTwin a b).tofs = b.twin.tofs :=
  show (settleTwin a b).core.tofs = b.twin.core.tofs from congrArg (Twin.tofs ·) (settleTwin_core a b)
@[simp] theorem settleTwin_lastCause (a b : Dev) : (settleTwin a b).lastCause = b.twin.lastCause :=
  show (settleTwin a b).core.lastCause = b.twin.core.lastCause from congrArg (Twin.lastCause ·) (settleTwin_core a b)
@[simp] theorem settleTwin_lastTook (a b : Dev) : (settleTwin a b).lastTook = b.twin.lastTook :=
  show (settleTwin a b).core.lastTook = b.twin.core.lastTook from congrArg (Twin.lastTook ·) (settleTwin_core a b)
@[simp] theorem settleTwin_resume (a b : Dev) : (settleTwin a b).resume = b.twin.resume :=
  show (settleTwin a b).core.resume = b.twin.core.resume from congrArg (Twin.resume ·) (settleTwin_core a b)
@[simp] theorem settleTwin_lastTb (a b : Dev) : (settleTwin a b).lastTb = b.twin.lastTb :=
  show (settleTwin a b).core.lastTb = b.twin.core.lastTb from congrArg (Twin.lastTb ·) (settleTwin_core a b)
@[simp] theorem settleTwin_takeovers (a b : Dev) : (settleTwin a b).takeovers = b.twin.takeovers :=
  show (settleTwin a b).core.takeovers = b.twin.core.takeovers from congrArg (Twin.takeovers ·) (settleTwin_core a b)
@[simp] theorem settleTwin_releases (a b : Dev) : (settleTwin a b).releases = b.twin.releases :=
  show (settleTwin a b).core.releases = b.twin.core.releases from congrArg (Twin.releases ·) (settleTwin_core a b)
@[simp] theorem settleTwin_losses (a b : Dev) : (settleTwin a b).losses = b.twin.losses :=
  show (settleTwin a b).core.losses = b.twin.core.losses from congrArg (Twin.losses ·) (settleTwin_core a b)
@[simp] theorem settleTwin_refused (a b : Dev) : (settleTwin a b).refused = b.twin.refused :=
  show (settleTwin a b).core.refused = b.twin.core.refused from congrArg (Twin.refused ·) (settleTwin_core a b)
@[simp] theorem settleTwin_errors (a b : Dev) : (settleTwin a b).errors = b.twin.errors :=
  show (settleTwin a b).core.errors = b.twin.core.errors from congrArg (Twin.errors ·) (settleTwin_core a b)
@[simp] theorem settleTwin_invalid (a b : Dev) : (settleTwin a b).invalid = b.twin.invalid :=
  show (settleTwin a b).core.invalid = b.twin.core.invalid from congrArg (Twin.invalid ·) (settleTwin_core a b)
@[simp] theorem settleTwin_mhellos (a b : Dev) : (settleTwin a b).mhellos = b.twin.mhellos :=
  show (settleTwin a b).core.mhellos = b.twin.core.mhellos from congrArg (Twin.mhellos ·) (settleTwin_core a b)
@[simp] theorem settleTwin_peer (a b : Dev) : (settleTwin a b).peer = b.twin.peer :=
  show (settleTwin a b).core.peer = b.twin.core.peer from congrArg (Twin.peer ·) (settleTwin_core a b)
@[simp] theorem settleTwin_heartbeatStopped (a b : Dev) : (settleTwin a b).heartbeatStopped = b.twin.heartbeatStopped :=
  show (settleTwin a b).core.heartbeatStopped = b.twin.core.heartbeatStopped from congrArg (Twin.heartbeatStopped ·) (settleTwin_core a b)
@[simp] theorem settleTwin_deal (a b : Dev) : (settleTwin a b).deal = b.twin.deal :=
  show (settleTwin a b).core.deal = b.twin.core.deal from congrArg (Twin.deal ·) (settleTwin_core a b)
@[simp] theorem settleTwin_loops (a b : Dev) : (settleTwin a b).loops = b.twin.loops :=
  show (settleTwin a b).core.loops = b.twin.core.loops from congrArg (Twin.loops ·) (settleTwin_core a b)
@[simp] theorem settleTwin_protos (a b : Dev) : (settleTwin a b).protos = b.twin.protos :=
  show (settleTwin a b).core.protos = b.twin.core.protos from congrArg (Twin.protos ·) (settleTwin_core a b)
@[simp] theorem settleTwin_handoverAt (a b : Dev) : (settleTwin a b).handoverAt = b.twin.handoverAt :=
  show (settleTwin a b).core.handoverAt = b.twin.core.handoverAt from congrArg (Twin.handoverAt ·) (settleTwin_core a b)
@[simp] theorem settleTwin_crcErrs (a b : Dev) : (settleTwin a b).crcErrs = b.twin.crcErrs :=
  show (settleTwin a b).core.crcErrs = b.twin.core.crcErrs from congrArg (Twin.crcErrs ·) (settleTwin_core a b)
@[simp] theorem settleTwin_roleWaits (a b : Dev) : (settleTwin a b).roleWaits = b.twin.roleWaits :=
  show (settleTwin a b).core.roleWaits = b.twin.core.roleWaits from congrArg (Twin.roleWaits ·) (settleTwin_core a b)
@[simp] theorem settleTwin_lastStamp (a b : Dev) : (settleTwin a b).lastStamp = b.twin.lastStamp :=
  show (settleTwin a b).core.lastStamp = b.twin.core.lastStamp from congrArg (Twin.lastStamp ·) (settleTwin_core a b)
@[simp] theorem settleTwin_eligAtLoop (a b : Dev) : (settleTwin a b).eligAtLoop = b.twin.eligAtLoop :=
  show (settleTwin a b).core.eligAtLoop = b.twin.core.eligAtLoop from congrArg (Twin.eligAtLoop ·) (settleTwin_core a b)
@[simp] theorem settleTwin_forwarded (a b : Dev) : (settleTwin a b).forwarded = b.twin.forwarded :=
  show (settleTwin a b).core.forwarded = b.twin.core.forwarded from congrArg (Twin.forwarded ·) (settleTwin_core a b)
@[simp] theorem settleTwin_loopSeq (a b : Dev) : (settleTwin a b).loopSeq = b.twin.loopSeq :=
  show (settleTwin a b).core.loopSeq = b.twin.core.loopSeq from congrArg (Twin.loopSeq ·) (settleTwin_core a b)

end Sys2Proof.Machine
end

