-- ==== Sys2Proof/Laws/Apply.lean ====
section
/-! SUPPORT. What a configuration that comes into force leaves of the store: everything but the ports that keep their records (02 R85, R86). -/

namespace Sys2Proof.Machine

/-- The store as it was but for the ports with deferred records; the configuration but for the records of ports and phases. -/
def Deferred (a b : Dev) : Prop :=
  b.store = { a.store with pendPorts := b.store.pendPorts } ∧ b.cfgNew = a.cfgNew ∧
  b.cfg = { a.cfg with ports := b.cfg.ports, loops := b.cfg.loops, phases := b.cfg.phases }

theorem Deferred.refl (a : Dev) : Deferred a a := ⟨rfl, rfl, rfl⟩

theorem Deferred.trans {a b c : Dev} (h : Deferred a b) (k : Deferred b c) : Deferred a c := by
  obtain ⟨h1, h2, h3⟩ := h
  obtain ⟨k1, k2, k3⟩ := k
  refine ⟨?_, k2.trans h2, ?_⟩
  · rw [k1, h1]
  · rw [k3, h3]

theorem Deferred.of_eq {a b : Dev} (h1 : b.store = a.store) (h2 : b.cfgNew = a.cfgNew) (h3 : b.cfg = a.cfg) : Deferred a b :=
  ⟨by rw [h1], h2, by rw [h3]⟩

theorem Deferred.next {a b : Dev} {f : Dev → Dev} (h : Deferred a b) (k : ∀ z, Deferred z (f z)) : Deferred a (f b) := h.trans (k b)

theorem Deferred.forEach {α : Type} {l : List α} {f : α → Dev → Dev} (h : ∀ x d, Deferred d (f x d)) (d : Dev) : Deferred d (Machine.forEach l f d) :=
  forEach_keeps (P := fun x => Deferred d x) (fun x y e => e.trans (h x y)) (.refl d)

theorem Deferred.onlyIf {f : Dev → Dev} {d : Dev} (b : Bool) (h : Deferred d (f d)) : Deferred d (Machine.onlyIf b f d) := by
  cases b
  · exact .refl d
  · exact h

theorem takePhases_cfg (f : Fin 64 → Bool) (new : ImageCfg) (d : Dev) : (takePhases f new d).cfg = { d.cfg with phases := (takePhases f new d).cfg.phases } := by
  simp [takePhases]

theorem takePhases_deferred (f : Fin 64 → Bool) (new : ImageCfg) (d : Dev) : Deferred d (takePhases f new d) :=
  ⟨by simp, by simp, by rw [takePhases_cfg]⟩

theorem takeDeferred_deferred (p : Fin 32) (d : Dev) : Deferred d (takeDeferred p d) := by
  unfold takeDeferred
  split
  · exact .refl d
  · refine ⟨by simp, by simp, ?_⟩
    simp only [applyChans_frame, updateCap_frame]
    rw [takePhases_cfg]
    simp

theorem dropAttach_deferred (p : Fin 32) (d : Dev) : Deferred d (dropAttach p d) := by
  unfold dropAttach
  split
  · refine Deferred.trans (.of_eq ?_ ?_ ?_) (takeDeferred_deferred p _) <;> simp
  · refine Deferred.trans (.of_eq ?_ ?_ ?_) (takeDeferred_deferred p _) <;> simp

theorem enterDisabled_deferred (p : Fin 32) (high : Bool) (d : Dev) : Deferred d (enterDisabled p high d) := by
  have h1 : Deferred d (stopTimers (.portDisableTimeout p :: .hiccupOffTimeExpiry p :: .hiccupAgeOut p :: tcTimers p) d) := .of_eq (by simp) (by simp) (by simp)
  have h2 := h1.trans (dropAttach_deferred p _)
  refine h2.trans ?_
  refine .of_eq ?_ ?_ ?_ <;> (unfold enterDisabled; dsimp only; split <;> simp)

theorem portApply_deferred (p : Fin 32) (d : Dev) : Deferred d (portApply p d) := by
  unfold portApply
  split
  · split
    · exact .refl d
    · exact enterDisabled_deferred p false d
  · split
    · exact .refl d
    · exact .of_eq (by simp) (by simp) (by simp)

theorem forEach_onlyTimers {α : Type} (l : List α) (f : α → Dev → Dev) (h : ∀ i y, f i y = { y with timers := (f i y).timers }) (x : Dev) :
    Machine.forEach l f x = { x with timers := (Machine.forEach l f x).timers } :=
  forEach_keeps (P := fun y => y = { x with timers := y.timers }) (fun i y e => by rw [h i y]; generalize (f i y).timers = t; rw [e]) rfl

theorem netStart_keeps (d : Dev) : (netStart d).store = d.store ∧ (netStart d).cfgNew = d.cfgNew ∧ (netStart d).cfg = d.cfg ∧ (netStart d).ports = d.ports ∧
    (netStart d).phases = d.phases ∧ (netStart d).sys = d.sys := by
  unfold netStart
  split
  · simp
  · dsimp only
    rw [forEach_onlyTimers (indices 16)]
    · split <;> simp [stopTimersIf]
    · intro i y
      split
      · split <;> rfl
      · rfl

/-- A configuration comes into force whole, but for what attached ports keep (02 R85, R86). -/
theorem applyCfg_inForce (switch : Bool) (new : ImageCfg) (d : Dev) (h : d.cfg.ledger = new.ledger) :
    InForce new (applyCfg switch new d) ∧ (applyCfg switch new d).store = { d.store with pendPorts := (applyCfg switch new d).store.pendPorts } := by
  have e : ∃ x : Dev, (x.cfgNew = new ∧ x.cfg = { new with ports := x.cfg.ports, loops := x.cfg.loops, phases := x.cfg.phases } ∧
      x.store = { d.store with pendPorts := x.store.pendPorts }) ∧ Deferred x (applyCfg switch new d) := by
    let now : ImageCfg := { new with
      ports := Vector.ofFn fun p => if bit (keptPorts switch new d) p.val then d.cfg.ports[p] else new.ports[p]
      loops := Vector.ofFn fun p => if bit (keptPorts switch new d) p.val then d.cfg.loops[p] else new.loops[p]
      phases := d.cfg.phases }
    refine ⟨onStore (fun s => { s with pendPorts := keptPorts switch new d }) { d with cfg := now, cfgNew := new }, ⟨rfl, rfl, rfl⟩, ?_⟩
    unfold applyCfg
    simp only [h, bne_self_eq_false, onlyIf_false]
    refine Deferred.next (f := offersApply d.cfg) ?_ (fun z => .of_eq (by simp) (by simp) (by simp))
    refine Deferred.next (f := onlyIf (d.cfg.net != new.net) netStart) ?_
      (fun z => .onlyIf _ (.of_eq (netStart_keeps z).1 (netStart_keeps z).2.1 (netStart_keeps z).2.2.1))
    refine Deferred.next (f := onlyIf (d.cfg.faults != new.faults) (if switch then applyFaults else amendFaults d.cfg)) ?_
      (fun z => .onlyIf _ (by split <;> exact .of_eq (by simp) (by simp) (by simp)))
    refine Deferred.next (f := applyLoads) ?_ (fun z => .of_eq (by simp) (by simp) (by simp))
    refine Deferred.next (f := applyRings d.cfg) ?_ (fun z => .of_eq (by simp) (by simp) (by simp))
    refine Deferred.next (f := applyTimers false d.cfg) ?_ (fun z => .of_eq (by simp) (by simp) (by simp))
    refine Deferred.next (f := applyChans false switch d.cfg) ?_ (fun z => .of_eq (by simp) (by simp) (by simp))
    refine Deferred.next (f := feedsApply) ?_ (fun z => .of_eq (by simp) (by simp) (by simp))
    refine Deferred.trans ?_ (Deferred.forEach (fun p z => portApply_deferred p z) _)
    refine Deferred.trans ?_ (Deferred.forEach (fun p z => .of_eq (by simp) (by simp) (by simp)) _)
    exact takePhases_deferred _ _ _
  obtain ⟨x, ⟨x1, x2, x3⟩, y1, y2, y3⟩ := e
  refine ⟨⟨y2.trans x1, ?_⟩, ?_⟩
  · rw [y3, x2]
  · rw [y1, x3]

end Sys2Proof.Machine
end

