-- ==== Sys2Proof/Laws/Offers.lean ====
section
/-! SUPPORT. What offers and hands leave of a port: everything but its hand, its termination, the count of capabilities sent and EPR mode (04 R141, R152 to R156). -/

namespace Sys2Proof.Machine

/-- A port without what offers and hands change. -/
def Port.still (q : Port) : Port := { q with hand := 0, pend := none, rp := .none, rd := false, ccCut := 0, capsSent := 0, eprMode := false, ppsLimited := false }

/-- A change of a port that leaves the rest of it leaves it everywhere. -/
theorem onPort_still (i p : Fin 32) (f : Port → Port) (d : Dev) (h : ∀ q, (f q).still = q.still) : ((onPort p f d).ports[i.val]).still = (d.ports[i.val]).still := by
  rw [onPort_ports, upd_get]
  split
  · exact h _
  · rfl

theorem Port.still_cableActive (x : Port) : x.still.cableActive = x.cableActive := rfl
theorem Port.still_cableDone (x : Port) : x.still.cableDone = x.cableDone := rfl
theorem Port.still_cableEpr (x : Port) : x.still.cableEpr = x.cableEpr := rfl
theorem Port.still_cableFinding (x : Port) : x.still.cableFinding = x.cableFinding := rfl
theorem Port.still_cableI (x : Port) : x.still.cableI = x.cableI := rfl
theorem Port.still_cablePid (x : Port) : x.still.cablePid = x.cablePid := rfl
theorem Port.still_cableV (x : Port) : x.still.cableV = x.cableV := rfl
theorem Port.still_cableVid (x : Port) : x.still.cableVid = x.cableVid := rfl
theorem Port.still_capMa (x : Port) : x.still.capMa = x.capMa := rfl
theorem Port.still_capWatts (x : Port) : x.still.capWatts = x.capWatts := rfl
theorem Port.still_curr (x : Port) : x.still.curr = x.curr := rfl
theorem Port.still_deadcar (x : Port) : x.still.deadcar = x.deadcar := rfl
theorem Port.still_dfp (x : Port) : x.still.dfp = x.dfp := rfl
theorem Port.still_enabled (x : Port) : x.still.enabled = x.enabled := rfl
theorem Port.still_fence (x : Port) : x.still.fence = x.fence := rfl
theorem Port.still_fencePend (x : Port) : x.still.fencePend = x.fencePend := rfl
theorem Port.still_fenceReg (x : Port) : x.still.fenceReg = x.fenceReg := rfl
theorem Port.still_kind (x : Port) : x.still.kind = x.kind := rfl
theorem Port.still_minAtt (x : Port) : x.still.minAtt = x.minAtt := rfl
theorem Port.still_minimal (x : Port) : x.still.minimal = x.minimal := rfl
theorem Port.still_mismatch (x : Port) : x.still.mismatch = x.mismatch := rfl
theorem Port.still_orient (x : Port) : x.still.orient = x.orient := rfl
theorem Port.still_position (x : Port) : x.still.position = x.position := rfl
theorem Port.still_rdo (x : Port) : x.still.rdo = x.rdo := rfl
theorem Port.still_rev (x : Port) : x.still.rev = x.rev := rfl
theorem Port.still_servicePresent (x : Port) : x.still.servicePresent = x.servicePresent := rfl
theorem Port.still_source (x : Port) : x.still.source = x.source := rfl
theorem Port.still_startFail (x : Port) : x.still.startFail = x.startFail := rfl
theorem Port.still_swap (x : Port) : x.still.swap = x.swap := rfl
theorem Port.still_tc (x : Port) : x.still.tc = x.tc := rfl
theorem Port.still_transition (x : Port) : x.still.transition = x.transition := rfl
theorem Port.still_vbusHigh (x : Port) : x.still.vbusHigh = x.vbusHigh := rfl
theorem Port.still_vconnOc (x : Port) : x.still.vconnOc = x.vconnOc := rfl
theorem Port.still_vconnOn (x : Port) : x.still.vconnOn = x.vconnOn := rfl
theorem Port.still_vconnPin (x : Port) : x.still.vconnPin = x.vconnPin := rfl
theorem Port.still_volt (x : Port) : x.still.volt = x.volt := rfl

@[simp] theorem present_still (i p : Fin 32) (rp : RpLevel) (rd : Bool) (d : Dev) : ((present p rp rd d).ports[i.val]).still = (d.ports[i.val]).still := by
  unfold present
  dsimp only
  split
  · rfl
  · simp [upd_get]; split <;> simp [Port.still]

/-- Leaving EPR mode clears the mark and sets EPR_EXIT if it stood (04 R186). -/
@[simp] theorem leaveEpr_ports (p : Fin 32) (d : Dev) : (leaveEpr p d).ports = upd d.ports p (fun q => { q with eprMode := false }) := by
  unfold leaveEpr onlyIf
  split <;> simp

@[simp] theorem leaveEpr_still (i p : Fin 32) (d : Dev) : ((leaveEpr p d).ports[i.val]).still = (d.ports[i.val]).still := by
  rw [leaveEpr_ports]
  exact onPort_still i p _ d (fun _ => rfl)

@[simp] theorem presentTx_still (i p : Fin 32) (d : Dev) : ((presentTx p d).ports[i.val]).still = (d.ports[i.val]).still := by
  unfold presentTx presentRp
  repeat' split
  all_goals simp

@[simp] theorem sendCapsNow_still (i p : Fin 32) (d : Dev) : ((sendCapsNow p d).ports[i.val]).still = (d.ports[i.val]).still := by
  unfold sendCapsNow
  dsimp only
  split
  · simp
  · simp only [pdSend_frame, portEvent_frame]
    refine Eq.trans (onPort_still i p _ _ ?_) ?_
    · intro q
      rfl
    simp only [onPd_ports, ite_ports, leaveEpr_ports, stopTimer_ports, pdSend_frame]
    split
    · exact onPort_still i p _ d (fun _ => rfl)
    · rfl

@[simp] theorem offerCaps_still (i p : Fin 32) (d : Dev) : ((offerCaps p d).ports[i.val]).still = (d.ports[i.val]).still := by
  unfold offerCaps
  dsimp only
  repeat' split
  all_goals simp

@[simp] theorem firstOffer_still (i p : Fin 32) (d : Dev) : ((firstOffer p d).ports[i.val]).still = (d.ports[i.val]).still := by
  unfold firstOffer
  dsimp only
  repeat' split
  all_goals simp

@[simp] theorem amsEnd_still (i p : Fin 32) (d : Dev) : ((amsEnd p d).ports[i.val]).still = (d.ports[i.val]).still := by
  unfold amsEnd
  dsimp only
  repeat' split
  all_goals simp

@[simp] theorem handFollow_still (i p : Fin 32) (old : Port) (l : List CutOffer) (asked : Bool) (d : Dev) : ((handFollow old l p asked d).ports[i.val]).still = (d.ports[i.val]).still := by
  unfold handFollow
  dsimp only
  repeat' split
  all_goals simp

@[simp] theorem takeTarget_still (i p : Fin 32) (t : Nat) (asked : Bool) (d : Dev) : ((takeTarget p t asked d).ports[i.val]).still = (d.ports[i.val]).still := by
  unfold takeTarget
  dsimp only
  rw [handFollow_still]
  generalize hd : onPd p _ d = d1
  have h1 : d1.ports = d.ports := by rw [← hd]; rfl
  split
  · simp only [stopTimer_ports, onPort_ports, upd_get, h1]
    split <;> rfl
  · generalize (match (d.ports[p]).pend with | some (v, w) => _ | none => _ : Nat) = w
    unfold onlyIf
    split <;> simp [upd_get, h1] <;> split <;> simp [Port.still]

theorem forEach_takeTarget_still (i : Fin 32) (l : List (Fin 32 × Nat)) (d : Dev) :
    ((forEach l (fun x => takeTarget x.1 x.2 false) d).ports[i.val]).still = (d.ports[i.val]).still := by
  unfold forEach
  induction l generalizing d with
  | nil => rfl
  | cons x l ih => rw [List.foldl_cons, ih, takeTarget_still]

@[simp] theorem divide_still (i : Fin 32) (d : Dev) : ((divide d).ports[i.val]).still = (d.ports[i.val]).still := by
  unfold divide
  split
  · rfl
  · exact forEach_takeTarget_still i _ d

/-- A guard without its discharge driver. -/
def Guard.gate (g : Guard) : Guard := { g with discharge := false }

@[simp] theorem present_gate (i p : Fin 32) (rp : RpLevel) (rd : Bool) (d : Dev) : ((present p rp rd d).guards[i.val]).gate = (d.guards[i.val]).gate := by
  unfold present
  dsimp only
  split
  · rfl
  · simp [upd_get]; split <;> rfl

@[simp] theorem presentTx_gate (i p : Fin 32) (d : Dev) : ((presentTx p d).guards[i.val]).gate = (d.guards[i.val]).gate := by
  unfold presentTx presentRp
  repeat' split
  all_goals simp

@[simp] theorem offerCaps_gate (i p : Fin 32) (d : Dev) : ((offerCaps p d).guards[i.val]).gate = (d.guards[i.val]).gate := by
  unfold offerCaps
  dsimp only
  repeat' split
  all_goals simp

@[simp] theorem firstOffer_gate (i p : Fin 32) (d : Dev) : ((firstOffer p d).guards[i.val]).gate = (d.guards[i.val]).gate := by
  unfold firstOffer
  dsimp only
  repeat' split
  all_goals simp

@[simp] theorem amsEnd_gate (i p : Fin 32) (d : Dev) : ((amsEnd p d).guards[i.val]).gate = (d.guards[i.val]).gate := by
  unfold amsEnd
  dsimp only
  repeat' split
  all_goals simp

@[simp] theorem handFollow_gate (i p : Fin 32) (old : Port) (l : List CutOffer) (asked : Bool) (d : Dev) : ((handFollow old l p asked d).guards[i.val]).gate = (d.guards[i.val]).gate := by
  unfold handFollow
  dsimp only
  repeat' split
  all_goals simp

@[simp] theorem takeTarget_gate (i p : Fin 32) (t : Nat) (asked : Bool) (d : Dev) : ((takeTarget p t asked d).guards[i.val]).gate = (d.guards[i.val]).gate := by
  unfold takeTarget
  dsimp only
  rw [handFollow_gate]
  split
  · simp
  · unfold onlyIf
    split <;> simp

theorem forEach_takeTarget_gate (i : Fin 32) (l : List (Fin 32 × Nat)) (d : Dev) :
    ((forEach l (fun x => takeTarget x.1 x.2 false) d).guards[i.val]).gate = (d.guards[i.val]).gate := by
  unfold forEach
  induction l generalizing d with
  | nil => rfl
  | cons x l ih => rw [List.foldl_cons, ih, takeTarget_gate]

@[simp] theorem divide_gate (i : Fin 32) (d : Dev) : ((divide d).guards[i.val]).gate = (d.guards[i.val]).gate := by
  unfold divide
  split
  · rfl
  · exact forEach_takeTarget_gate i _ d

theorem Guard.gate_state (g : Guard) : g.gate.state = g.state := rfl
theorem Guard.gate_latchWhy (g : Guard) : g.gate.latchWhy = g.latchWhy := rfl
theorem Guard.gate_openWhy (g : Guard) : g.gate.openWhy = g.openWhy := rfl
@[simp] theorem present_guard_state (i p : Fin 32) (rp : RpLevel) (rd : Bool) (d : Dev) : ((present p rp rd d).guards[i.val]).state = (d.guards[i.val]).state :=
  ((Guard.gate_state _).symm.trans (congrArg Guard.state (present_gate ..))).trans (Guard.gate_state _)
@[simp] theorem present_guard_latchWhy (i p : Fin 32) (rp : RpLevel) (rd : Bool) (d : Dev) : ((present p rp rd d).guards[i.val]).latchWhy = (d.guards[i.val]).latchWhy :=
  ((Guard.gate_latchWhy _).symm.trans (congrArg Guard.latchWhy (present_gate ..))).trans (Guard.gate_latchWhy _)
@[simp] theorem present_guard_openWhy (i p : Fin 32) (rp : RpLevel) (rd : Bool) (d : Dev) : ((present p rp rd d).guards[i.val]).openWhy = (d.guards[i.val]).openWhy :=
  ((Guard.gate_openWhy _).symm.trans (congrArg Guard.openWhy (present_gate ..))).trans (Guard.gate_openWhy _)
@[simp] theorem presentTx_guard_state (i p : Fin 32) (d : Dev) : ((presentTx p d).guards[i.val]).state = (d.guards[i.val]).state :=
  ((Guard.gate_state _).symm.trans (congrArg Guard.state (presentTx_gate ..))).trans (Guard.gate_state _)
@[simp] theorem presentTx_guard_latchWhy (i p : Fin 32) (d : Dev) : ((presentTx p d).guards[i.val]).latchWhy = (d.guards[i.val]).latchWhy :=
  ((Guard.gate_latchWhy _).symm.trans (congrArg Guard.latchWhy (presentTx_gate ..))).trans (Guard.gate_latchWhy _)
@[simp] theorem presentTx_guard_openWhy (i p : Fin 32) (d : Dev) : ((presentTx p d).guards[i.val]).openWhy = (d.guards[i.val]).openWhy :=
  ((Guard.gate_openWhy _).symm.trans (congrArg Guard.openWhy (presentTx_gate ..))).trans (Guard.gate_openWhy _)
@[simp] theorem offerCaps_guard_state (i p : Fin 32) (d : Dev) : ((offerCaps p d).guards[i.val]).state = (d.guards[i.val]).state :=
  ((Guard.gate_state _).symm.trans (congrArg Guard.state (offerCaps_gate ..))).trans (Guard.gate_state _)
@[simp] theorem offerCaps_guard_latchWhy (i p : Fin 32) (d : Dev) : ((offerCaps p d).guards[i.val]).latchWhy = (d.guards[i.val]).latchWhy :=
  ((Guard.gate_latchWhy _).symm.trans (congrArg Guard.latchWhy (offerCaps_gate ..))).trans (Guard.gate_latchWhy _)
@[simp] theorem offerCaps_guard_openWhy (i p : Fin 32) (d : Dev) : ((offerCaps p d).guards[i.val]).openWhy = (d.guards[i.val]).openWhy :=
  ((Guard.gate_openWhy _).symm.trans (congrArg Guard.openWhy (offerCaps_gate ..))).trans (Guard.gate_openWhy _)
@[simp] theorem firstOffer_guard_state (i p : Fin 32) (d : Dev) : ((firstOffer p d).guards[i.val]).state = (d.guards[i.val]).state :=
  ((Guard.gate_state _).symm.trans (congrArg Guard.state (firstOffer_gate ..))).trans (Guard.gate_state _)
@[simp] theorem firstOffer_guard_latchWhy (i p : Fin 32) (d : Dev) : ((firstOffer p d).guards[i.val]).latchWhy = (d.guards[i.val]).latchWhy :=
  ((Guard.gate_latchWhy _).symm.trans (congrArg Guard.latchWhy (firstOffer_gate ..))).trans (Guard.gate_latchWhy _)
@[simp] theorem firstOffer_guard_openWhy (i p : Fin 32) (d : Dev) : ((firstOffer p d).guards[i.val]).openWhy = (d.guards[i.val]).openWhy :=
  ((Guard.gate_openWhy _).symm.trans (congrArg Guard.openWhy (firstOffer_gate ..))).trans (Guard.gate_openWhy _)
@[simp] theorem amsEnd_guard_state (i p : Fin 32) (d : Dev) : ((amsEnd p d).guards[i.val]).state = (d.guards[i.val]).state :=
  ((Guard.gate_state _).symm.trans (congrArg Guard.state (amsEnd_gate ..))).trans (Guard.gate_state _)
@[simp] theorem amsEnd_guard_latchWhy (i p : Fin 32) (d : Dev) : ((amsEnd p d).guards[i.val]).latchWhy = (d.guards[i.val]).latchWhy :=
  ((Guard.gate_latchWhy _).symm.trans (congrArg Guard.latchWhy (amsEnd_gate ..))).trans (Guard.gate_latchWhy _)
@[simp] theorem amsEnd_guard_openWhy (i p : Fin 32) (d : Dev) : ((amsEnd p d).guards[i.val]).openWhy = (d.guards[i.val]).openWhy :=
  ((Guard.gate_openWhy _).symm.trans (congrArg Guard.openWhy (amsEnd_gate ..))).trans (Guard.gate_openWhy _)
@[simp] theorem divide_guard_state (i : Fin 32) (d : Dev) : ((divide d).guards[i.val]).state = (d.guards[i.val]).state :=
  ((Guard.gate_state _).symm.trans (congrArg Guard.state (divide_gate ..))).trans (Guard.gate_state _)
@[simp] theorem divide_guard_latchWhy (i : Fin 32) (d : Dev) : ((divide d).guards[i.val]).latchWhy = (d.guards[i.val]).latchWhy :=
  ((Guard.gate_latchWhy _).symm.trans (congrArg Guard.latchWhy (divide_gate ..))).trans (Guard.gate_latchWhy _)
@[simp] theorem divide_guard_openWhy (i : Fin 32) (d : Dev) : ((divide d).guards[i.val]).openWhy = (d.guards[i.val]).openWhy :=
  ((Guard.gate_openWhy _).symm.trans (congrArg Guard.openWhy (divide_gate ..))).trans (Guard.gate_openWhy _)

/-! ### Fields that stay -/

@[simp] theorem present_tc (i p : Fin 32) (rp : RpLevel) (rd : Bool) (d : Dev) : ((present p rp rd d).ports[i.val]).tc = (d.ports[i.val]).tc :=
  ((Port.still_tc _).symm.trans (congrArg Port.tc (present_still ..))).trans (Port.still_tc _)
@[simp] theorem present_minAtt (i p : Fin 32) (rp : RpLevel) (rd : Bool) (d : Dev) : ((present p rp rd d).ports[i.val]).minAtt = (d.ports[i.val]).minAtt :=
  ((Port.still_minAtt _).symm.trans (congrArg Port.minAtt (present_still ..))).trans (Port.still_minAtt _)
@[simp] theorem present_orient (i p : Fin 32) (rp : RpLevel) (rd : Bool) (d : Dev) : ((present p rp rd d).ports[i.val]).orient = (d.ports[i.val]).orient :=
  ((Port.still_orient _).symm.trans (congrArg Port.orient (present_still ..))).trans (Port.still_orient _)
@[simp] theorem present_vconnOn (i p : Fin 32) (rp : RpLevel) (rd : Bool) (d : Dev) : ((present p rp rd d).ports[i.val]).vconnOn = (d.ports[i.val]).vconnOn :=
  ((Port.still_vconnOn _).symm.trans (congrArg Port.vconnOn (present_still ..))).trans (Port.still_vconnOn _)
@[simp] theorem present_vconnPin (i p : Fin 32) (rp : RpLevel) (rd : Bool) (d : Dev) : ((present p rp rd d).ports[i.val]).vconnPin = (d.ports[i.val]).vconnPin :=
  ((Port.still_vconnPin _).symm.trans (congrArg Port.vconnPin (present_still ..))).trans (Port.still_vconnPin _)
@[simp] theorem present_source (i p : Fin 32) (rp : RpLevel) (rd : Bool) (d : Dev) : ((present p rp rd d).ports[i.val]).source = (d.ports[i.val]).source :=
  ((Port.still_source _).symm.trans (congrArg Port.source (present_still ..))).trans (Port.still_source _)
@[simp] theorem present_dfp (i p : Fin 32) (rp : RpLevel) (rd : Bool) (d : Dev) : ((present p rp rd d).ports[i.val]).dfp = (d.ports[i.val]).dfp :=
  ((Port.still_dfp _).symm.trans (congrArg Port.dfp (present_still ..))).trans (Port.still_dfp _)
@[simp] theorem present_servicePresent (i p : Fin 32) (rp : RpLevel) (rd : Bool) (d : Dev) : ((present p rp rd d).ports[i.val]).servicePresent = (d.ports[i.val]).servicePresent :=
  ((Port.still_servicePresent _).symm.trans (congrArg Port.servicePresent (present_still ..))).trans (Port.still_servicePresent _)
@[simp] theorem present_deadcar (i p : Fin 32) (rp : RpLevel) (rd : Bool) (d : Dev) : ((present p rp rd d).ports[i.val]).deadcar = (d.ports[i.val]).deadcar :=
  ((Port.still_deadcar _).symm.trans (congrArg Port.deadcar (present_still ..))).trans (Port.still_deadcar _)
@[simp] theorem present_enabled (i p : Fin 32) (rp : RpLevel) (rd : Bool) (d : Dev) : ((present p rp rd d).ports[i.val]).enabled = (d.ports[i.val]).enabled :=
  ((Port.still_enabled _).symm.trans (congrArg Port.enabled (present_still ..))).trans (Port.still_enabled _)
@[simp] theorem present_vbusHigh (i p : Fin 32) (rp : RpLevel) (rd : Bool) (d : Dev) : ((present p rp rd d).ports[i.val]).vbusHigh = (d.ports[i.val]).vbusHigh :=
  ((Port.still_vbusHigh _).symm.trans (congrArg Port.vbusHigh (present_still ..))).trans (Port.still_vbusHigh _)
@[simp] theorem present_startFail (i p : Fin 32) (rp : RpLevel) (rd : Bool) (d : Dev) : ((present p rp rd d).ports[i.val]).startFail = (d.ports[i.val]).startFail :=
  ((Port.still_startFail _).symm.trans (congrArg Port.startFail (present_still ..))).trans (Port.still_startFail _)
@[simp] theorem present_minimal (i p : Fin 32) (rp : RpLevel) (rd : Bool) (d : Dev) : ((present p rp rd d).ports[i.val]).minimal = (d.ports[i.val]).minimal :=
  ((Port.still_minimal _).symm.trans (congrArg Port.minimal (present_still ..))).trans (Port.still_minimal _)
@[simp] theorem present_rev (i p : Fin 32) (rp : RpLevel) (rd : Bool) (d : Dev) : ((present p rp rd d).ports[i.val]).rev = (d.ports[i.val]).rev :=
  ((Port.still_rev _).symm.trans (congrArg Port.rev (present_still ..))).trans (Port.still_rev _)
@[simp] theorem present_kind (i p : Fin 32) (rp : RpLevel) (rd : Bool) (d : Dev) : ((present p rp rd d).ports[i.val]).kind = (d.ports[i.val]).kind :=
  ((Port.still_kind _).symm.trans (congrArg Port.kind (present_still ..))).trans (Port.still_kind _)
@[simp] theorem present_position (i p : Fin 32) (rp : RpLevel) (rd : Bool) (d : Dev) : ((present p rp rd d).ports[i.val]).position = (d.ports[i.val]).position :=
  ((Port.still_position _).symm.trans (congrArg Port.position (present_still ..))).trans (Port.still_position _)
@[simp] theorem present_mismatch (i p : Fin 32) (rp : RpLevel) (rd : Bool) (d : Dev) : ((present p rp rd d).ports[i.val]).mismatch = (d.ports[i.val]).mismatch :=
  ((Port.still_mismatch _).symm.trans (congrArg Port.mismatch (present_still ..))).trans (Port.still_mismatch _)
@[simp] theorem present_swap (i p : Fin 32) (rp : RpLevel) (rd : Bool) (d : Dev) : ((present p rp rd d).ports[i.val]).swap = (d.ports[i.val]).swap :=
  ((Port.still_swap _).symm.trans (congrArg Port.swap (present_still ..))).trans (Port.still_swap _)
@[simp] theorem present_transition (i p : Fin 32) (rp : RpLevel) (rd : Bool) (d : Dev) : ((present p rp rd d).ports[i.val]).transition = (d.ports[i.val]).transition :=
  ((Port.still_transition _).symm.trans (congrArg Port.transition (present_still ..))).trans (Port.still_transition _)
@[simp] theorem present_volt (i p : Fin 32) (rp : RpLevel) (rd : Bool) (d : Dev) : ((present p rp rd d).ports[i.val]).volt = (d.ports[i.val]).volt :=
  ((Port.still_volt _).symm.trans (congrArg Port.volt (present_still ..))).trans (Port.still_volt _)
@[simp] theorem present_curr (i p : Fin 32) (rp : RpLevel) (rd : Bool) (d : Dev) : ((present p rp rd d).ports[i.val]).curr = (d.ports[i.val]).curr :=
  ((Port.still_curr _).symm.trans (congrArg Port.curr (present_still ..))).trans (Port.still_curr _)
@[simp] theorem present_rdo (i p : Fin 32) (rp : RpLevel) (rd : Bool) (d : Dev) : ((present p rp rd d).ports[i.val]).rdo = (d.ports[i.val]).rdo :=
  ((Port.still_rdo _).symm.trans (congrArg Port.rdo (present_still ..))).trans (Port.still_rdo _)
@[simp] theorem present_fence (i p : Fin 32) (rp : RpLevel) (rd : Bool) (d : Dev) : ((present p rp rd d).ports[i.val]).fence = (d.ports[i.val]).fence :=
  ((Port.still_fence _).symm.trans (congrArg Port.fence (present_still ..))).trans (Port.still_fence _)
@[simp] theorem present_fencePend (i p : Fin 32) (rp : RpLevel) (rd : Bool) (d : Dev) : ((present p rp rd d).ports[i.val]).fencePend = (d.ports[i.val]).fencePend :=
  ((Port.still_fencePend _).symm.trans (congrArg Port.fencePend (present_still ..))).trans (Port.still_fencePend _)
@[simp] theorem present_fenceReg (i p : Fin 32) (rp : RpLevel) (rd : Bool) (d : Dev) : ((present p rp rd d).ports[i.val]).fenceReg = (d.ports[i.val]).fenceReg :=
  ((Port.still_fenceReg _).symm.trans (congrArg Port.fenceReg (present_still ..))).trans (Port.still_fenceReg _)
@[simp] theorem present_capWatts (i p : Fin 32) (rp : RpLevel) (rd : Bool) (d : Dev) : ((present p rp rd d).ports[i.val]).capWatts = (d.ports[i.val]).capWatts :=
  ((Port.still_capWatts _).symm.trans (congrArg Port.capWatts (present_still ..))).trans (Port.still_capWatts _)
@[simp] theorem present_capMa (i p : Fin 32) (rp : RpLevel) (rd : Bool) (d : Dev) : ((present p rp rd d).ports[i.val]).capMa = (d.ports[i.val]).capMa :=
  ((Port.still_capMa _).symm.trans (congrArg Port.capMa (present_still ..))).trans (Port.still_capMa _)
@[simp] theorem present_cableFinding (i p : Fin 32) (rp : RpLevel) (rd : Bool) (d : Dev) : ((present p rp rd d).ports[i.val]).cableFinding = (d.ports[i.val]).cableFinding :=
  ((Port.still_cableFinding _).symm.trans (congrArg Port.cableFinding (present_still ..))).trans (Port.still_cableFinding _)
@[simp] theorem present_cableEpr (i p : Fin 32) (rp : RpLevel) (rd : Bool) (d : Dev) : ((present p rp rd d).ports[i.val]).cableEpr = (d.ports[i.val]).cableEpr :=
  ((Port.still_cableEpr _).symm.trans (congrArg Port.cableEpr (present_still ..))).trans (Port.still_cableEpr _)
@[simp] theorem present_cableActive (i p : Fin 32) (rp : RpLevel) (rd : Bool) (d : Dev) : ((present p rp rd d).ports[i.val]).cableActive = (d.ports[i.val]).cableActive :=
  ((Port.still_cableActive _).symm.trans (congrArg Port.cableActive (present_still ..))).trans (Port.still_cableActive _)
@[simp] theorem present_vconnOc (i p : Fin 32) (rp : RpLevel) (rd : Bool) (d : Dev) : ((present p rp rd d).ports[i.val]).vconnOc = (d.ports[i.val]).vconnOc :=
  ((Port.still_vconnOc _).symm.trans (congrArg Port.vconnOc (present_still ..))).trans (Port.still_vconnOc _)
@[simp] theorem present_cableDone (i p : Fin 32) (rp : RpLevel) (rd : Bool) (d : Dev) : ((present p rp rd d).ports[i.val]).cableDone = (d.ports[i.val]).cableDone :=
  ((Port.still_cableDone _).symm.trans (congrArg Port.cableDone (present_still ..))).trans (Port.still_cableDone _)
@[simp] theorem present_cableV (i p : Fin 32) (rp : RpLevel) (rd : Bool) (d : Dev) : ((present p rp rd d).ports[i.val]).cableV = (d.ports[i.val]).cableV :=
  ((Port.still_cableV _).symm.trans (congrArg Port.cableV (present_still ..))).trans (Port.still_cableV _)
@[simp] theorem present_cableI (i p : Fin 32) (rp : RpLevel) (rd : Bool) (d : Dev) : ((present p rp rd d).ports[i.val]).cableI = (d.ports[i.val]).cableI :=
  ((Port.still_cableI _).symm.trans (congrArg Port.cableI (present_still ..))).trans (Port.still_cableI _)
@[simp] theorem present_cableVid (i p : Fin 32) (rp : RpLevel) (rd : Bool) (d : Dev) : ((present p rp rd d).ports[i.val]).cableVid = (d.ports[i.val]).cableVid :=
  ((Port.still_cableVid _).symm.trans (congrArg Port.cableVid (present_still ..))).trans (Port.still_cableVid _)
@[simp] theorem present_cablePid (i p : Fin 32) (rp : RpLevel) (rd : Bool) (d : Dev) : ((present p rp rd d).ports[i.val]).cablePid = (d.ports[i.val]).cablePid :=
  ((Port.still_cablePid _).symm.trans (congrArg Port.cablePid (present_still ..))).trans (Port.still_cablePid _)
@[simp] theorem presentTx_tc (i p : Fin 32) (d : Dev) : ((presentTx p d).ports[i.val]).tc = (d.ports[i.val]).tc :=
  ((Port.still_tc _).symm.trans (congrArg Port.tc (presentTx_still ..))).trans (Port.still_tc _)
@[simp] theorem presentTx_minAtt (i p : Fin 32) (d : Dev) : ((presentTx p d).ports[i.val]).minAtt = (d.ports[i.val]).minAtt :=
  ((Port.still_minAtt _).symm.trans (congrArg Port.minAtt (presentTx_still ..))).trans (Port.still_minAtt _)
@[simp] theorem presentTx_orient (i p : Fin 32) (d : Dev) : ((presentTx p d).ports[i.val]).orient = (d.ports[i.val]).orient :=
  ((Port.still_orient _).symm.trans (congrArg Port.orient (presentTx_still ..))).trans (Port.still_orient _)
@[simp] theorem presentTx_vconnOn (i p : Fin 32) (d : Dev) : ((presentTx p d).ports[i.val]).vconnOn = (d.ports[i.val]).vconnOn :=
  ((Port.still_vconnOn _).symm.trans (congrArg Port.vconnOn (presentTx_still ..))).trans (Port.still_vconnOn _)
@[simp] theorem presentTx_vconnPin (i p : Fin 32) (d : Dev) : ((presentTx p d).ports[i.val]).vconnPin = (d.ports[i.val]).vconnPin :=
  ((Port.still_vconnPin _).symm.trans (congrArg Port.vconnPin (presentTx_still ..))).trans (Port.still_vconnPin _)
@[simp] theorem presentTx_source (i p : Fin 32) (d : Dev) : ((presentTx p d).ports[i.val]).source = (d.ports[i.val]).source :=
  ((Port.still_source _).symm.trans (congrArg Port.source (presentTx_still ..))).trans (Port.still_source _)
@[simp] theorem presentTx_dfp (i p : Fin 32) (d : Dev) : ((presentTx p d).ports[i.val]).dfp = (d.ports[i.val]).dfp :=
  ((Port.still_dfp _).symm.trans (congrArg Port.dfp (presentTx_still ..))).trans (Port.still_dfp _)
@[simp] theorem presentTx_servicePresent (i p : Fin 32) (d : Dev) : ((presentTx p d).ports[i.val]).servicePresent = (d.ports[i.val]).servicePresent :=
  ((Port.still_servicePresent _).symm.trans (congrArg Port.servicePresent (presentTx_still ..))).trans (Port.still_servicePresent _)
@[simp] theorem presentTx_deadcar (i p : Fin 32) (d : Dev) : ((presentTx p d).ports[i.val]).deadcar = (d.ports[i.val]).deadcar :=
  ((Port.still_deadcar _).symm.trans (congrArg Port.deadcar (presentTx_still ..))).trans (Port.still_deadcar _)
@[simp] theorem presentTx_enabled (i p : Fin 32) (d : Dev) : ((presentTx p d).ports[i.val]).enabled = (d.ports[i.val]).enabled :=
  ((Port.still_enabled _).symm.trans (congrArg Port.enabled (presentTx_still ..))).trans (Port.still_enabled _)
@[simp] theorem presentTx_vbusHigh (i p : Fin 32) (d : Dev) : ((presentTx p d).ports[i.val]).vbusHigh = (d.ports[i.val]).vbusHigh :=
  ((Port.still_vbusHigh _).symm.trans (congrArg Port.vbusHigh (presentTx_still ..))).trans (Port.still_vbusHigh _)
@[simp] theorem presentTx_startFail (i p : Fin 32) (d : Dev) : ((presentTx p d).ports[i.val]).startFail = (d.ports[i.val]).startFail :=
  ((Port.still_startFail _).symm.trans (congrArg Port.startFail (presentTx_still ..))).trans (Port.still_startFail _)
@[simp] theorem presentTx_minimal (i p : Fin 32) (d : Dev) : ((presentTx p d).ports[i.val]).minimal = (d.ports[i.val]).minimal :=
  ((Port.still_minimal _).symm.trans (congrArg Port.minimal (presentTx_still ..))).trans (Port.still_minimal _)
@[simp] theorem presentTx_rev (i p : Fin 32) (d : Dev) : ((presentTx p d).ports[i.val]).rev = (d.ports[i.val]).rev :=
  ((Port.still_rev _).symm.trans (congrArg Port.rev (presentTx_still ..))).trans (Port.still_rev _)
@[simp] theorem presentTx_kind (i p : Fin 32) (d : Dev) : ((presentTx p d).ports[i.val]).kind = (d.ports[i.val]).kind :=
  ((Port.still_kind _).symm.trans (congrArg Port.kind (presentTx_still ..))).trans (Port.still_kind _)
@[simp] theorem presentTx_position (i p : Fin 32) (d : Dev) : ((presentTx p d).ports[i.val]).position = (d.ports[i.val]).position :=
  ((Port.still_position _).symm.trans (congrArg Port.position (presentTx_still ..))).trans (Port.still_position _)
@[simp] theorem presentTx_mismatch (i p : Fin 32) (d : Dev) : ((presentTx p d).ports[i.val]).mismatch = (d.ports[i.val]).mismatch :=
  ((Port.still_mismatch _).symm.trans (congrArg Port.mismatch (presentTx_still ..))).trans (Port.still_mismatch _)
@[simp] theorem presentTx_swap (i p : Fin 32) (d : Dev) : ((presentTx p d).ports[i.val]).swap = (d.ports[i.val]).swap :=
  ((Port.still_swap _).symm.trans (congrArg Port.swap (presentTx_still ..))).trans (Port.still_swap _)
@[simp] theorem presentTx_transition (i p : Fin 32) (d : Dev) : ((presentTx p d).ports[i.val]).transition = (d.ports[i.val]).transition :=
  ((Port.still_transition _).symm.trans (congrArg Port.transition (presentTx_still ..))).trans (Port.still_transition _)
@[simp] theorem presentTx_volt (i p : Fin 32) (d : Dev) : ((presentTx p d).ports[i.val]).volt = (d.ports[i.val]).volt :=
  ((Port.still_volt _).symm.trans (congrArg Port.volt (presentTx_still ..))).trans (Port.still_volt _)
@[simp] theorem presentTx_curr (i p : Fin 32) (d : Dev) : ((presentTx p d).ports[i.val]).curr = (d.ports[i.val]).curr :=
  ((Port.still_curr _).symm.trans (congrArg Port.curr (presentTx_still ..))).trans (Port.still_curr _)
@[simp] theorem presentTx_rdo (i p : Fin 32) (d : Dev) : ((presentTx p d).ports[i.val]).rdo = (d.ports[i.val]).rdo :=
  ((Port.still_rdo _).symm.trans (congrArg Port.rdo (presentTx_still ..))).trans (Port.still_rdo _)
@[simp] theorem presentTx_fence (i p : Fin 32) (d : Dev) : ((presentTx p d).ports[i.val]).fence = (d.ports[i.val]).fence :=
  ((Port.still_fence _).symm.trans (congrArg Port.fence (presentTx_still ..))).trans (Port.still_fence _)
@[simp] theorem presentTx_fencePend (i p : Fin 32) (d : Dev) : ((presentTx p d).ports[i.val]).fencePend = (d.ports[i.val]).fencePend :=
  ((Port.still_fencePend _).symm.trans (congrArg Port.fencePend (presentTx_still ..))).trans (Port.still_fencePend _)
@[simp] theorem presentTx_fenceReg (i p : Fin 32) (d : Dev) : ((presentTx p d).ports[i.val]).fenceReg = (d.ports[i.val]).fenceReg :=
  ((Port.still_fenceReg _).symm.trans (congrArg Port.fenceReg (presentTx_still ..))).trans (Port.still_fenceReg _)
@[simp] theorem presentTx_capWatts (i p : Fin 32) (d : Dev) : ((presentTx p d).ports[i.val]).capWatts = (d.ports[i.val]).capWatts :=
  ((Port.still_capWatts _).symm.trans (congrArg Port.capWatts (presentTx_still ..))).trans (Port.still_capWatts _)
@[simp] theorem presentTx_capMa (i p : Fin 32) (d : Dev) : ((presentTx p d).ports[i.val]).capMa = (d.ports[i.val]).capMa :=
  ((Port.still_capMa _).symm.trans (congrArg Port.capMa (presentTx_still ..))).trans (Port.still_capMa _)
@[simp] theorem presentTx_cableFinding (i p : Fin 32) (d : Dev) : ((presentTx p d).ports[i.val]).cableFinding = (d.ports[i.val]).cableFinding :=
  ((Port.still_cableFinding _).symm.trans (congrArg Port.cableFinding (presentTx_still ..))).trans (Port.still_cableFinding _)
@[simp] theorem presentTx_cableEpr (i p : Fin 32) (d : Dev) : ((presentTx p d).ports[i.val]).cableEpr = (d.ports[i.val]).cableEpr :=
  ((Port.still_cableEpr _).symm.trans (congrArg Port.cableEpr (presentTx_still ..))).trans (Port.still_cableEpr _)
@[simp] theorem presentTx_cableActive (i p : Fin 32) (d : Dev) : ((presentTx p d).ports[i.val]).cableActive = (d.ports[i.val]).cableActive :=
  ((Port.still_cableActive _).symm.trans (congrArg Port.cableActive (presentTx_still ..))).trans (Port.still_cableActive _)
@[simp] theorem presentTx_vconnOc (i p : Fin 32) (d : Dev) : ((presentTx p d).ports[i.val]).vconnOc = (d.ports[i.val]).vconnOc :=
  ((Port.still_vconnOc _).symm.trans (congrArg Port.vconnOc (presentTx_still ..))).trans (Port.still_vconnOc _)
@[simp] theorem presentTx_cableDone (i p : Fin 32) (d : Dev) : ((presentTx p d).ports[i.val]).cableDone = (d.ports[i.val]).cableDone :=
  ((Port.still_cableDone _).symm.trans (congrArg Port.cableDone (presentTx_still ..))).trans (Port.still_cableDone _)
@[simp] theorem presentTx_cableV (i p : Fin 32) (d : Dev) : ((presentTx p d).ports[i.val]).cableV = (d.ports[i.val]).cableV :=
  ((Port.still_cableV _).symm.trans (congrArg Port.cableV (presentTx_still ..))).trans (Port.still_cableV _)
@[simp] theorem presentTx_cableI (i p : Fin 32) (d : Dev) : ((presentTx p d).ports[i.val]).cableI = (d.ports[i.val]).cableI :=
  ((Port.still_cableI _).symm.trans (congrArg Port.cableI (presentTx_still ..))).trans (Port.still_cableI _)
@[simp] theorem presentTx_cableVid (i p : Fin 32) (d : Dev) : ((presentTx p d).ports[i.val]).cableVid = (d.ports[i.val]).cableVid :=
  ((Port.still_cableVid _).symm.trans (congrArg Port.cableVid (presentTx_still ..))).trans (Port.still_cableVid _)
@[simp] theorem presentTx_cablePid (i p : Fin 32) (d : Dev) : ((presentTx p d).ports[i.val]).cablePid = (d.ports[i.val]).cablePid :=
  ((Port.still_cablePid _).symm.trans (congrArg Port.cablePid (presentTx_still ..))).trans (Port.still_cablePid _)
@[simp] theorem sendCapsNow_tc (i p : Fin 32) (d : Dev) : ((sendCapsNow p d).ports[i.val]).tc = (d.ports[i.val]).tc :=
  ((Port.still_tc _).symm.trans (congrArg Port.tc (sendCapsNow_still ..))).trans (Port.still_tc _)
@[simp] theorem sendCapsNow_minAtt (i p : Fin 32) (d : Dev) : ((sendCapsNow p d).ports[i.val]).minAtt = (d.ports[i.val]).minAtt :=
  ((Port.still_minAtt _).symm.trans (congrArg Port.minAtt (sendCapsNow_still ..))).trans (Port.still_minAtt _)
@[simp] theorem sendCapsNow_orient (i p : Fin 32) (d : Dev) : ((sendCapsNow p d).ports[i.val]).orient = (d.ports[i.val]).orient :=
  ((Port.still_orient _).symm.trans (congrArg Port.orient (sendCapsNow_still ..))).trans (Port.still_orient _)
@[simp] theorem sendCapsNow_vconnOn (i p : Fin 32) (d : Dev) : ((sendCapsNow p d).ports[i.val]).vconnOn = (d.ports[i.val]).vconnOn :=
  ((Port.still_vconnOn _).symm.trans (congrArg Port.vconnOn (sendCapsNow_still ..))).trans (Port.still_vconnOn _)
@[simp] theorem sendCapsNow_vconnPin (i p : Fin 32) (d : Dev) : ((sendCapsNow p d).ports[i.val]).vconnPin = (d.ports[i.val]).vconnPin :=
  ((Port.still_vconnPin _).symm.trans (congrArg Port.vconnPin (sendCapsNow_still ..))).trans (Port.still_vconnPin _)
@[simp] theorem sendCapsNow_source (i p : Fin 32) (d : Dev) : ((sendCapsNow p d).ports[i.val]).source = (d.ports[i.val]).source :=
  ((Port.still_source _).symm.trans (congrArg Port.source (sendCapsNow_still ..))).trans (Port.still_source _)
@[simp] theorem sendCapsNow_dfp (i p : Fin 32) (d : Dev) : ((sendCapsNow p d).ports[i.val]).dfp = (d.ports[i.val]).dfp :=
  ((Port.still_dfp _).symm.trans (congrArg Port.dfp (sendCapsNow_still ..))).trans (Port.still_dfp _)
@[simp] theorem sendCapsNow_servicePresent (i p : Fin 32) (d : Dev) : ((sendCapsNow p d).ports[i.val]).servicePresent = (d.ports[i.val]).servicePresent :=
  ((Port.still_servicePresent _).symm.trans (congrArg Port.servicePresent (sendCapsNow_still ..))).trans (Port.still_servicePresent _)
@[simp] theorem sendCapsNow_deadcar (i p : Fin 32) (d : Dev) : ((sendCapsNow p d).ports[i.val]).deadcar = (d.ports[i.val]).deadcar :=
  ((Port.still_deadcar _).symm.trans (congrArg Port.deadcar (sendCapsNow_still ..))).trans (Port.still_deadcar _)
@[simp] theorem sendCapsNow_enabled (i p : Fin 32) (d : Dev) : ((sendCapsNow p d).ports[i.val]).enabled = (d.ports[i.val]).enabled :=
  ((Port.still_enabled _).symm.trans (congrArg Port.enabled (sendCapsNow_still ..))).trans (Port.still_enabled _)
@[simp] theorem sendCapsNow_vbusHigh (i p : Fin 32) (d : Dev) : ((sendCapsNow p d).ports[i.val]).vbusHigh = (d.ports[i.val]).vbusHigh :=
  ((Port.still_vbusHigh _).symm.trans (congrArg Port.vbusHigh (sendCapsNow_still ..))).trans (Port.still_vbusHigh _)
@[simp] theorem sendCapsNow_startFail (i p : Fin 32) (d : Dev) : ((sendCapsNow p d).ports[i.val]).startFail = (d.ports[i.val]).startFail :=
  ((Port.still_startFail _).symm.trans (congrArg Port.startFail (sendCapsNow_still ..))).trans (Port.still_startFail _)
@[simp] theorem sendCapsNow_minimal (i p : Fin 32) (d : Dev) : ((sendCapsNow p d).ports[i.val]).minimal = (d.ports[i.val]).minimal :=
  ((Port.still_minimal _).symm.trans (congrArg Port.minimal (sendCapsNow_still ..))).trans (Port.still_minimal _)
@[simp] theorem sendCapsNow_rev (i p : Fin 32) (d : Dev) : ((sendCapsNow p d).ports[i.val]).rev = (d.ports[i.val]).rev :=
  ((Port.still_rev _).symm.trans (congrArg Port.rev (sendCapsNow_still ..))).trans (Port.still_rev _)
@[simp] theorem sendCapsNow_kind (i p : Fin 32) (d : Dev) : ((sendCapsNow p d).ports[i.val]).kind = (d.ports[i.val]).kind :=
  ((Port.still_kind _).symm.trans (congrArg Port.kind (sendCapsNow_still ..))).trans (Port.still_kind _)
@[simp] theorem sendCapsNow_position (i p : Fin 32) (d : Dev) : ((sendCapsNow p d).ports[i.val]).position = (d.ports[i.val]).position :=
  ((Port.still_position _).symm.trans (congrArg Port.position (sendCapsNow_still ..))).trans (Port.still_position _)
@[simp] theorem sendCapsNow_mismatch (i p : Fin 32) (d : Dev) : ((sendCapsNow p d).ports[i.val]).mismatch = (d.ports[i.val]).mismatch :=
  ((Port.still_mismatch _).symm.trans (congrArg Port.mismatch (sendCapsNow_still ..))).trans (Port.still_mismatch _)
@[simp] theorem sendCapsNow_swap (i p : Fin 32) (d : Dev) : ((sendCapsNow p d).ports[i.val]).swap = (d.ports[i.val]).swap :=
  ((Port.still_swap _).symm.trans (congrArg Port.swap (sendCapsNow_still ..))).trans (Port.still_swap _)
@[simp] theorem sendCapsNow_transition (i p : Fin 32) (d : Dev) : ((sendCapsNow p d).ports[i.val]).transition = (d.ports[i.val]).transition :=
  ((Port.still_transition _).symm.trans (congrArg Port.transition (sendCapsNow_still ..))).trans (Port.still_transition _)
@[simp] theorem sendCapsNow_volt (i p : Fin 32) (d : Dev) : ((sendCapsNow p d).ports[i.val]).volt = (d.ports[i.val]).volt :=
  ((Port.still_volt _).symm.trans (congrArg Port.volt (sendCapsNow_still ..))).trans (Port.still_volt _)
@[simp] theorem sendCapsNow_curr (i p : Fin 32) (d : Dev) : ((sendCapsNow p d).ports[i.val]).curr = (d.ports[i.val]).curr :=
  ((Port.still_curr _).symm.trans (congrArg Port.curr (sendCapsNow_still ..))).trans (Port.still_curr _)
@[simp] theorem sendCapsNow_rdo (i p : Fin 32) (d : Dev) : ((sendCapsNow p d).ports[i.val]).rdo = (d.ports[i.val]).rdo :=
  ((Port.still_rdo _).symm.trans (congrArg Port.rdo (sendCapsNow_still ..))).trans (Port.still_rdo _)
@[simp] theorem sendCapsNow_fence (i p : Fin 32) (d : Dev) : ((sendCapsNow p d).ports[i.val]).fence = (d.ports[i.val]).fence :=
  ((Port.still_fence _).symm.trans (congrArg Port.fence (sendCapsNow_still ..))).trans (Port.still_fence _)
@[simp] theorem sendCapsNow_fencePend (i p : Fin 32) (d : Dev) : ((sendCapsNow p d).ports[i.val]).fencePend = (d.ports[i.val]).fencePend :=
  ((Port.still_fencePend _).symm.trans (congrArg Port.fencePend (sendCapsNow_still ..))).trans (Port.still_fencePend _)
@[simp] theorem sendCapsNow_fenceReg (i p : Fin 32) (d : Dev) : ((sendCapsNow p d).ports[i.val]).fenceReg = (d.ports[i.val]).fenceReg :=
  ((Port.still_fenceReg _).symm.trans (congrArg Port.fenceReg (sendCapsNow_still ..))).trans (Port.still_fenceReg _)
@[simp] theorem sendCapsNow_capWatts (i p : Fin 32) (d : Dev) : ((sendCapsNow p d).ports[i.val]).capWatts = (d.ports[i.val]).capWatts :=
  ((Port.still_capWatts _).symm.trans (congrArg Port.capWatts (sendCapsNow_still ..))).trans (Port.still_capWatts _)
@[simp] theorem sendCapsNow_capMa (i p : Fin 32) (d : Dev) : ((sendCapsNow p d).ports[i.val]).capMa = (d.ports[i.val]).capMa :=
  ((Port.still_capMa _).symm.trans (congrArg Port.capMa (sendCapsNow_still ..))).trans (Port.still_capMa _)
@[simp] theorem sendCapsNow_cableFinding (i p : Fin 32) (d : Dev) : ((sendCapsNow p d).ports[i.val]).cableFinding = (d.ports[i.val]).cableFinding :=
  ((Port.still_cableFinding _).symm.trans (congrArg Port.cableFinding (sendCapsNow_still ..))).trans (Port.still_cableFinding _)
@[simp] theorem sendCapsNow_cableEpr (i p : Fin 32) (d : Dev) : ((sendCapsNow p d).ports[i.val]).cableEpr = (d.ports[i.val]).cableEpr :=
  ((Port.still_cableEpr _).symm.trans (congrArg Port.cableEpr (sendCapsNow_still ..))).trans (Port.still_cableEpr _)
@[simp] theorem sendCapsNow_cableActive (i p : Fin 32) (d : Dev) : ((sendCapsNow p d).ports[i.val]).cableActive = (d.ports[i.val]).cableActive :=
  ((Port.still_cableActive _).symm.trans (congrArg Port.cableActive (sendCapsNow_still ..))).trans (Port.still_cableActive _)
@[simp] theorem sendCapsNow_vconnOc (i p : Fin 32) (d : Dev) : ((sendCapsNow p d).ports[i.val]).vconnOc = (d.ports[i.val]).vconnOc :=
  ((Port.still_vconnOc _).symm.trans (congrArg Port.vconnOc (sendCapsNow_still ..))).trans (Port.still_vconnOc _)
@[simp] theorem sendCapsNow_cableDone (i p : Fin 32) (d : Dev) : ((sendCapsNow p d).ports[i.val]).cableDone = (d.ports[i.val]).cableDone :=
  ((Port.still_cableDone _).symm.trans (congrArg Port.cableDone (sendCapsNow_still ..))).trans (Port.still_cableDone _)
@[simp] theorem sendCapsNow_cableV (i p : Fin 32) (d : Dev) : ((sendCapsNow p d).ports[i.val]).cableV = (d.ports[i.val]).cableV :=
  ((Port.still_cableV _).symm.trans (congrArg Port.cableV (sendCapsNow_still ..))).trans (Port.still_cableV _)
@[simp] theorem sendCapsNow_cableI (i p : Fin 32) (d : Dev) : ((sendCapsNow p d).ports[i.val]).cableI = (d.ports[i.val]).cableI :=
  ((Port.still_cableI _).symm.trans (congrArg Port.cableI (sendCapsNow_still ..))).trans (Port.still_cableI _)
@[simp] theorem sendCapsNow_cableVid (i p : Fin 32) (d : Dev) : ((sendCapsNow p d).ports[i.val]).cableVid = (d.ports[i.val]).cableVid :=
  ((Port.still_cableVid _).symm.trans (congrArg Port.cableVid (sendCapsNow_still ..))).trans (Port.still_cableVid _)
@[simp] theorem sendCapsNow_cablePid (i p : Fin 32) (d : Dev) : ((sendCapsNow p d).ports[i.val]).cablePid = (d.ports[i.val]).cablePid :=
  ((Port.still_cablePid _).symm.trans (congrArg Port.cablePid (sendCapsNow_still ..))).trans (Port.still_cablePid _)
@[simp] theorem offerCaps_tc (i p : Fin 32) (d : Dev) : ((offerCaps p d).ports[i.val]).tc = (d.ports[i.val]).tc :=
  ((Port.still_tc _).symm.trans (congrArg Port.tc (offerCaps_still ..))).trans (Port.still_tc _)
@[simp] theorem offerCaps_minAtt (i p : Fin 32) (d : Dev) : ((offerCaps p d).ports[i.val]).minAtt = (d.ports[i.val]).minAtt :=
  ((Port.still_minAtt _).symm.trans (congrArg Port.minAtt (offerCaps_still ..))).trans (Port.still_minAtt _)
@[simp] theorem offerCaps_orient (i p : Fin 32) (d : Dev) : ((offerCaps p d).ports[i.val]).orient = (d.ports[i.val]).orient :=
  ((Port.still_orient _).symm.trans (congrArg Port.orient (offerCaps_still ..))).trans (Port.still_orient _)
@[simp] theorem offerCaps_vconnOn (i p : Fin 32) (d : Dev) : ((offerCaps p d).ports[i.val]).vconnOn = (d.ports[i.val]).vconnOn :=
  ((Port.still_vconnOn _).symm.trans (congrArg Port.vconnOn (offerCaps_still ..))).trans (Port.still_vconnOn _)
@[simp] theorem offerCaps_vconnPin (i p : Fin 32) (d : Dev) : ((offerCaps p d).ports[i.val]).vconnPin = (d.ports[i.val]).vconnPin :=
  ((Port.still_vconnPin _).symm.trans (congrArg Port.vconnPin (offerCaps_still ..))).trans (Port.still_vconnPin _)
@[simp] theorem offerCaps_source (i p : Fin 32) (d : Dev) : ((offerCaps p d).ports[i.val]).source = (d.ports[i.val]).source :=
  ((Port.still_source _).symm.trans (congrArg Port.source (offerCaps_still ..))).trans (Port.still_source _)
@[simp] theorem offerCaps_dfp (i p : Fin 32) (d : Dev) : ((offerCaps p d).ports[i.val]).dfp = (d.ports[i.val]).dfp :=
  ((Port.still_dfp _).symm.trans (congrArg Port.dfp (offerCaps_still ..))).trans (Port.still_dfp _)
@[simp] theorem offerCaps_servicePresent (i p : Fin 32) (d : Dev) : ((offerCaps p d).ports[i.val]).servicePresent = (d.ports[i.val]).servicePresent :=
  ((Port.still_servicePresent _).symm.trans (congrArg Port.servicePresent (offerCaps_still ..))).trans (Port.still_servicePresent _)
@[simp] theorem offerCaps_deadcar (i p : Fin 32) (d : Dev) : ((offerCaps p d).ports[i.val]).deadcar = (d.ports[i.val]).deadcar :=
  ((Port.still_deadcar _).symm.trans (congrArg Port.deadcar (offerCaps_still ..))).trans (Port.still_deadcar _)
@[simp] theorem offerCaps_enabled (i p : Fin 32) (d : Dev) : ((offerCaps p d).ports[i.val]).enabled = (d.ports[i.val]).enabled :=
  ((Port.still_enabled _).symm.trans (congrArg Port.enabled (offerCaps_still ..))).trans (Port.still_enabled _)
@[simp] theorem offerCaps_vbusHigh (i p : Fin 32) (d : Dev) : ((offerCaps p d).ports[i.val]).vbusHigh = (d.ports[i.val]).vbusHigh :=
  ((Port.still_vbusHigh _).symm.trans (congrArg Port.vbusHigh (offerCaps_still ..))).trans (Port.still_vbusHigh _)
@[simp] theorem offerCaps_startFail (i p : Fin 32) (d : Dev) : ((offerCaps p d).ports[i.val]).startFail = (d.ports[i.val]).startFail :=
  ((Port.still_startFail _).symm.trans (congrArg Port.startFail (offerCaps_still ..))).trans (Port.still_startFail _)
@[simp] theorem offerCaps_minimal (i p : Fin 32) (d : Dev) : ((offerCaps p d).ports[i.val]).minimal = (d.ports[i.val]).minimal :=
  ((Port.still_minimal _).symm.trans (congrArg Port.minimal (offerCaps_still ..))).trans (Port.still_minimal _)
@[simp] theorem offerCaps_rev (i p : Fin 32) (d : Dev) : ((offerCaps p d).ports[i.val]).rev = (d.ports[i.val]).rev :=
  ((Port.still_rev _).symm.trans (congrArg Port.rev (offerCaps_still ..))).trans (Port.still_rev _)
@[simp] theorem offerCaps_kind (i p : Fin 32) (d : Dev) : ((offerCaps p d).ports[i.val]).kind = (d.ports[i.val]).kind :=
  ((Port.still_kind _).symm.trans (congrArg Port.kind (offerCaps_still ..))).trans (Port.still_kind _)
@[simp] theorem offerCaps_position (i p : Fin 32) (d : Dev) : ((offerCaps p d).ports[i.val]).position = (d.ports[i.val]).position :=
  ((Port.still_position _).symm.trans (congrArg Port.position (offerCaps_still ..))).trans (Port.still_position _)
@[simp] theorem offerCaps_mismatch (i p : Fin 32) (d : Dev) : ((offerCaps p d).ports[i.val]).mismatch = (d.ports[i.val]).mismatch :=
  ((Port.still_mismatch _).symm.trans (congrArg Port.mismatch (offerCaps_still ..))).trans (Port.still_mismatch _)
@[simp] theorem offerCaps_swap (i p : Fin 32) (d : Dev) : ((offerCaps p d).ports[i.val]).swap = (d.ports[i.val]).swap :=
  ((Port.still_swap _).symm.trans (congrArg Port.swap (offerCaps_still ..))).trans (Port.still_swap _)
@[simp] theorem offerCaps_transition (i p : Fin 32) (d : Dev) : ((offerCaps p d).ports[i.val]).transition = (d.ports[i.val]).transition :=
  ((Port.still_transition _).symm.trans (congrArg Port.transition (offerCaps_still ..))).trans (Port.still_transition _)
@[simp] theorem offerCaps_volt (i p : Fin 32) (d : Dev) : ((offerCaps p d).ports[i.val]).volt = (d.ports[i.val]).volt :=
  ((Port.still_volt _).symm.trans (congrArg Port.volt (offerCaps_still ..))).trans (Port.still_volt _)
@[simp] theorem offerCaps_curr (i p : Fin 32) (d : Dev) : ((offerCaps p d).ports[i.val]).curr = (d.ports[i.val]).curr :=
  ((Port.still_curr _).symm.trans (congrArg Port.curr (offerCaps_still ..))).trans (Port.still_curr _)
@[simp] theorem offerCaps_rdo (i p : Fin 32) (d : Dev) : ((offerCaps p d).ports[i.val]).rdo = (d.ports[i.val]).rdo :=
  ((Port.still_rdo _).symm.trans (congrArg Port.rdo (offerCaps_still ..))).trans (Port.still_rdo _)
@[simp] theorem offerCaps_fence (i p : Fin 32) (d : Dev) : ((offerCaps p d).ports[i.val]).fence = (d.ports[i.val]).fence :=
  ((Port.still_fence _).symm.trans (congrArg Port.fence (offerCaps_still ..))).trans (Port.still_fence _)
@[simp] theorem offerCaps_fencePend (i p : Fin 32) (d : Dev) : ((offerCaps p d).ports[i.val]).fencePend = (d.ports[i.val]).fencePend :=
  ((Port.still_fencePend _).symm.trans (congrArg Port.fencePend (offerCaps_still ..))).trans (Port.still_fencePend _)
@[simp] theorem offerCaps_fenceReg (i p : Fin 32) (d : Dev) : ((offerCaps p d).ports[i.val]).fenceReg = (d.ports[i.val]).fenceReg :=
  ((Port.still_fenceReg _).symm.trans (congrArg Port.fenceReg (offerCaps_still ..))).trans (Port.still_fenceReg _)
@[simp] theorem offerCaps_capWatts (i p : Fin 32) (d : Dev) : ((offerCaps p d).ports[i.val]).capWatts = (d.ports[i.val]).capWatts :=
  ((Port.still_capWatts _).symm.trans (congrArg Port.capWatts (offerCaps_still ..))).trans (Port.still_capWatts _)
@[simp] theorem offerCaps_capMa (i p : Fin 32) (d : Dev) : ((offerCaps p d).ports[i.val]).capMa = (d.ports[i.val]).capMa :=
  ((Port.still_capMa _).symm.trans (congrArg Port.capMa (offerCaps_still ..))).trans (Port.still_capMa _)
@[simp] theorem offerCaps_cableFinding (i p : Fin 32) (d : Dev) : ((offerCaps p d).ports[i.val]).cableFinding = (d.ports[i.val]).cableFinding :=
  ((Port.still_cableFinding _).symm.trans (congrArg Port.cableFinding (offerCaps_still ..))).trans (Port.still_cableFinding _)
@[simp] theorem offerCaps_cableEpr (i p : Fin 32) (d : Dev) : ((offerCaps p d).ports[i.val]).cableEpr = (d.ports[i.val]).cableEpr :=
  ((Port.still_cableEpr _).symm.trans (congrArg Port.cableEpr (offerCaps_still ..))).trans (Port.still_cableEpr _)
@[simp] theorem offerCaps_cableActive (i p : Fin 32) (d : Dev) : ((offerCaps p d).ports[i.val]).cableActive = (d.ports[i.val]).cableActive :=
  ((Port.still_cableActive _).symm.trans (congrArg Port.cableActive (offerCaps_still ..))).trans (Port.still_cableActive _)
@[simp] theorem offerCaps_vconnOc (i p : Fin 32) (d : Dev) : ((offerCaps p d).ports[i.val]).vconnOc = (d.ports[i.val]).vconnOc :=
  ((Port.still_vconnOc _).symm.trans (congrArg Port.vconnOc (offerCaps_still ..))).trans (Port.still_vconnOc _)
@[simp] theorem offerCaps_cableDone (i p : Fin 32) (d : Dev) : ((offerCaps p d).ports[i.val]).cableDone = (d.ports[i.val]).cableDone :=
  ((Port.still_cableDone _).symm.trans (congrArg Port.cableDone (offerCaps_still ..))).trans (Port.still_cableDone _)
@[simp] theorem offerCaps_cableV (i p : Fin 32) (d : Dev) : ((offerCaps p d).ports[i.val]).cableV = (d.ports[i.val]).cableV :=
  ((Port.still_cableV _).symm.trans (congrArg Port.cableV (offerCaps_still ..))).trans (Port.still_cableV _)
@[simp] theorem offerCaps_cableI (i p : Fin 32) (d : Dev) : ((offerCaps p d).ports[i.val]).cableI = (d.ports[i.val]).cableI :=
  ((Port.still_cableI _).symm.trans (congrArg Port.cableI (offerCaps_still ..))).trans (Port.still_cableI _)
@[simp] theorem offerCaps_cableVid (i p : Fin 32) (d : Dev) : ((offerCaps p d).ports[i.val]).cableVid = (d.ports[i.val]).cableVid :=
  ((Port.still_cableVid _).symm.trans (congrArg Port.cableVid (offerCaps_still ..))).trans (Port.still_cableVid _)
@[simp] theorem offerCaps_cablePid (i p : Fin 32) (d : Dev) : ((offerCaps p d).ports[i.val]).cablePid = (d.ports[i.val]).cablePid :=
  ((Port.still_cablePid _).symm.trans (congrArg Port.cablePid (offerCaps_still ..))).trans (Port.still_cablePid _)
@[simp] theorem firstOffer_tc (i p : Fin 32) (d : Dev) : ((firstOffer p d).ports[i.val]).tc = (d.ports[i.val]).tc :=
  ((Port.still_tc _).symm.trans (congrArg Port.tc (firstOffer_still ..))).trans (Port.still_tc _)
@[simp] theorem firstOffer_minAtt (i p : Fin 32) (d : Dev) : ((firstOffer p d).ports[i.val]).minAtt = (d.ports[i.val]).minAtt :=
  ((Port.still_minAtt _).symm.trans (congrArg Port.minAtt (firstOffer_still ..))).trans (Port.still_minAtt _)
@[simp] theorem firstOffer_orient (i p : Fin 32) (d : Dev) : ((firstOffer p d).ports[i.val]).orient = (d.ports[i.val]).orient :=
  ((Port.still_orient _).symm.trans (congrArg Port.orient (firstOffer_still ..))).trans (Port.still_orient _)
@[simp] theorem firstOffer_vconnOn (i p : Fin 32) (d : Dev) : ((firstOffer p d).ports[i.val]).vconnOn = (d.ports[i.val]).vconnOn :=
  ((Port.still_vconnOn _).symm.trans (congrArg Port.vconnOn (firstOffer_still ..))).trans (Port.still_vconnOn _)
@[simp] theorem firstOffer_vconnPin (i p : Fin 32) (d : Dev) : ((firstOffer p d).ports[i.val]).vconnPin = (d.ports[i.val]).vconnPin :=
  ((Port.still_vconnPin _).symm.trans (congrArg Port.vconnPin (firstOffer_still ..))).trans (Port.still_vconnPin _)
@[simp] theorem firstOffer_source (i p : Fin 32) (d : Dev) : ((firstOffer p d).ports[i.val]).source = (d.ports[i.val]).source :=
  ((Port.still_source _).symm.trans (congrArg Port.source (firstOffer_still ..))).trans (Port.still_source _)
@[simp] theorem firstOffer_dfp (i p : Fin 32) (d : Dev) : ((firstOffer p d).ports[i.val]).dfp = (d.ports[i.val]).dfp :=
  ((Port.still_dfp _).symm.trans (congrArg Port.dfp (firstOffer_still ..))).trans (Port.still_dfp _)
@[simp] theorem firstOffer_servicePresent (i p : Fin 32) (d : Dev) : ((firstOffer p d).ports[i.val]).servicePresent = (d.ports[i.val]).servicePresent :=
  ((Port.still_servicePresent _).symm.trans (congrArg Port.servicePresent (firstOffer_still ..))).trans (Port.still_servicePresent _)
@[simp] theorem firstOffer_deadcar (i p : Fin 32) (d : Dev) : ((firstOffer p d).ports[i.val]).deadcar = (d.ports[i.val]).deadcar :=
  ((Port.still_deadcar _).symm.trans (congrArg Port.deadcar (firstOffer_still ..))).trans (Port.still_deadcar _)
@[simp] theorem firstOffer_enabled (i p : Fin 32) (d : Dev) : ((firstOffer p d).ports[i.val]).enabled = (d.ports[i.val]).enabled :=
  ((Port.still_enabled _).symm.trans (congrArg Port.enabled (firstOffer_still ..))).trans (Port.still_enabled _)
@[simp] theorem firstOffer_vbusHigh (i p : Fin 32) (d : Dev) : ((firstOffer p d).ports[i.val]).vbusHigh = (d.ports[i.val]).vbusHigh :=
  ((Port.still_vbusHigh _).symm.trans (congrArg Port.vbusHigh (firstOffer_still ..))).trans (Port.still_vbusHigh _)
@[simp] theorem firstOffer_startFail (i p : Fin 32) (d : Dev) : ((firstOffer p d).ports[i.val]).startFail = (d.ports[i.val]).startFail :=
  ((Port.still_startFail _).symm.trans (congrArg Port.startFail (firstOffer_still ..))).trans (Port.still_startFail _)
@[simp] theorem firstOffer_minimal (i p : Fin 32) (d : Dev) : ((firstOffer p d).ports[i.val]).minimal = (d.ports[i.val]).minimal :=
  ((Port.still_minimal _).symm.trans (congrArg Port.minimal (firstOffer_still ..))).trans (Port.still_minimal _)
@[simp] theorem firstOffer_rev (i p : Fin 32) (d : Dev) : ((firstOffer p d).ports[i.val]).rev = (d.ports[i.val]).rev :=
  ((Port.still_rev _).symm.trans (congrArg Port.rev (firstOffer_still ..))).trans (Port.still_rev _)
@[simp] theorem firstOffer_kind (i p : Fin 32) (d : Dev) : ((firstOffer p d).ports[i.val]).kind = (d.ports[i.val]).kind :=
  ((Port.still_kind _).symm.trans (congrArg Port.kind (firstOffer_still ..))).trans (Port.still_kind _)
@[simp] theorem firstOffer_position (i p : Fin 32) (d : Dev) : ((firstOffer p d).ports[i.val]).position = (d.ports[i.val]).position :=
  ((Port.still_position _).symm.trans (congrArg Port.position (firstOffer_still ..))).trans (Port.still_position _)
@[simp] theorem firstOffer_mismatch (i p : Fin 32) (d : Dev) : ((firstOffer p d).ports[i.val]).mismatch = (d.ports[i.val]).mismatch :=
  ((Port.still_mismatch _).symm.trans (congrArg Port.mismatch (firstOffer_still ..))).trans (Port.still_mismatch _)
@[simp] theorem firstOffer_swap (i p : Fin 32) (d : Dev) : ((firstOffer p d).ports[i.val]).swap = (d.ports[i.val]).swap :=
  ((Port.still_swap _).symm.trans (congrArg Port.swap (firstOffer_still ..))).trans (Port.still_swap _)
@[simp] theorem firstOffer_transition (i p : Fin 32) (d : Dev) : ((firstOffer p d).ports[i.val]).transition = (d.ports[i.val]).transition :=
  ((Port.still_transition _).symm.trans (congrArg Port.transition (firstOffer_still ..))).trans (Port.still_transition _)
@[simp] theorem firstOffer_volt (i p : Fin 32) (d : Dev) : ((firstOffer p d).ports[i.val]).volt = (d.ports[i.val]).volt :=
  ((Port.still_volt _).symm.trans (congrArg Port.volt (firstOffer_still ..))).trans (Port.still_volt _)
@[simp] theorem firstOffer_curr (i p : Fin 32) (d : Dev) : ((firstOffer p d).ports[i.val]).curr = (d.ports[i.val]).curr :=
  ((Port.still_curr _).symm.trans (congrArg Port.curr (firstOffer_still ..))).trans (Port.still_curr _)
@[simp] theorem firstOffer_rdo (i p : Fin 32) (d : Dev) : ((firstOffer p d).ports[i.val]).rdo = (d.ports[i.val]).rdo :=
  ((Port.still_rdo _).symm.trans (congrArg Port.rdo (firstOffer_still ..))).trans (Port.still_rdo _)
@[simp] theorem firstOffer_fence (i p : Fin 32) (d : Dev) : ((firstOffer p d).ports[i.val]).fence = (d.ports[i.val]).fence :=
  ((Port.still_fence _).symm.trans (congrArg Port.fence (firstOffer_still ..))).trans (Port.still_fence _)
@[simp] theorem firstOffer_fencePend (i p : Fin 32) (d : Dev) : ((firstOffer p d).ports[i.val]).fencePend = (d.ports[i.val]).fencePend :=
  ((Port.still_fencePend _).symm.trans (congrArg Port.fencePend (firstOffer_still ..))).trans (Port.still_fencePend _)
@[simp] theorem firstOffer_fenceReg (i p : Fin 32) (d : Dev) : ((firstOffer p d).ports[i.val]).fenceReg = (d.ports[i.val]).fenceReg :=
  ((Port.still_fenceReg _).symm.trans (congrArg Port.fenceReg (firstOffer_still ..))).trans (Port.still_fenceReg _)
@[simp] theorem firstOffer_capWatts (i p : Fin 32) (d : Dev) : ((firstOffer p d).ports[i.val]).capWatts = (d.ports[i.val]).capWatts :=
  ((Port.still_capWatts _).symm.trans (congrArg Port.capWatts (firstOffer_still ..))).trans (Port.still_capWatts _)
@[simp] theorem firstOffer_capMa (i p : Fin 32) (d : Dev) : ((firstOffer p d).ports[i.val]).capMa = (d.ports[i.val]).capMa :=
  ((Port.still_capMa _).symm.trans (congrArg Port.capMa (firstOffer_still ..))).trans (Port.still_capMa _)
@[simp] theorem firstOffer_cableFinding (i p : Fin 32) (d : Dev) : ((firstOffer p d).ports[i.val]).cableFinding = (d.ports[i.val]).cableFinding :=
  ((Port.still_cableFinding _).symm.trans (congrArg Port.cableFinding (firstOffer_still ..))).trans (Port.still_cableFinding _)
@[simp] theorem firstOffer_cableEpr (i p : Fin 32) (d : Dev) : ((firstOffer p d).ports[i.val]).cableEpr = (d.ports[i.val]).cableEpr :=
  ((Port.still_cableEpr _).symm.trans (congrArg Port.cableEpr (firstOffer_still ..))).trans (Port.still_cableEpr _)
@[simp] theorem firstOffer_cableActive (i p : Fin 32) (d : Dev) : ((firstOffer p d).ports[i.val]).cableActive = (d.ports[i.val]).cableActive :=
  ((Port.still_cableActive _).symm.trans (congrArg Port.cableActive (firstOffer_still ..))).trans (Port.still_cableActive _)
@[simp] theorem firstOffer_vconnOc (i p : Fin 32) (d : Dev) : ((firstOffer p d).ports[i.val]).vconnOc = (d.ports[i.val]).vconnOc :=
  ((Port.still_vconnOc _).symm.trans (congrArg Port.vconnOc (firstOffer_still ..))).trans (Port.still_vconnOc _)
@[simp] theorem firstOffer_cableDone (i p : Fin 32) (d : Dev) : ((firstOffer p d).ports[i.val]).cableDone = (d.ports[i.val]).cableDone :=
  ((Port.still_cableDone _).symm.trans (congrArg Port.cableDone (firstOffer_still ..))).trans (Port.still_cableDone _)
@[simp] theorem firstOffer_cableV (i p : Fin 32) (d : Dev) : ((firstOffer p d).ports[i.val]).cableV = (d.ports[i.val]).cableV :=
  ((Port.still_cableV _).symm.trans (congrArg Port.cableV (firstOffer_still ..))).trans (Port.still_cableV _)
@[simp] theorem firstOffer_cableI (i p : Fin 32) (d : Dev) : ((firstOffer p d).ports[i.val]).cableI = (d.ports[i.val]).cableI :=
  ((Port.still_cableI _).symm.trans (congrArg Port.cableI (firstOffer_still ..))).trans (Port.still_cableI _)
@[simp] theorem firstOffer_cableVid (i p : Fin 32) (d : Dev) : ((firstOffer p d).ports[i.val]).cableVid = (d.ports[i.val]).cableVid :=
  ((Port.still_cableVid _).symm.trans (congrArg Port.cableVid (firstOffer_still ..))).trans (Port.still_cableVid _)
@[simp] theorem firstOffer_cablePid (i p : Fin 32) (d : Dev) : ((firstOffer p d).ports[i.val]).cablePid = (d.ports[i.val]).cablePid :=
  ((Port.still_cablePid _).symm.trans (congrArg Port.cablePid (firstOffer_still ..))).trans (Port.still_cablePid _)
@[simp] theorem amsEnd_tc (i p : Fin 32) (d : Dev) : ((amsEnd p d).ports[i.val]).tc = (d.ports[i.val]).tc :=
  ((Port.still_tc _).symm.trans (congrArg Port.tc (amsEnd_still ..))).trans (Port.still_tc _)
@[simp] theorem amsEnd_minAtt (i p : Fin 32) (d : Dev) : ((amsEnd p d).ports[i.val]).minAtt = (d.ports[i.val]).minAtt :=
  ((Port.still_minAtt _).symm.trans (congrArg Port.minAtt (amsEnd_still ..))).trans (Port.still_minAtt _)
@[simp] theorem amsEnd_orient (i p : Fin 32) (d : Dev) : ((amsEnd p d).ports[i.val]).orient = (d.ports[i.val]).orient :=
  ((Port.still_orient _).symm.trans (congrArg Port.orient (amsEnd_still ..))).trans (Port.still_orient _)
@[simp] theorem amsEnd_vconnOn (i p : Fin 32) (d : Dev) : ((amsEnd p d).ports[i.val]).vconnOn = (d.ports[i.val]).vconnOn :=
  ((Port.still_vconnOn _).symm.trans (congrArg Port.vconnOn (amsEnd_still ..))).trans (Port.still_vconnOn _)
@[simp] theorem amsEnd_vconnPin (i p : Fin 32) (d : Dev) : ((amsEnd p d).ports[i.val]).vconnPin = (d.ports[i.val]).vconnPin :=
  ((Port.still_vconnPin _).symm.trans (congrArg Port.vconnPin (amsEnd_still ..))).trans (Port.still_vconnPin _)
@[simp] theorem amsEnd_source (i p : Fin 32) (d : Dev) : ((amsEnd p d).ports[i.val]).source = (d.ports[i.val]).source :=
  ((Port.still_source _).symm.trans (congrArg Port.source (amsEnd_still ..))).trans (Port.still_source _)
@[simp] theorem amsEnd_dfp (i p : Fin 32) (d : Dev) : ((amsEnd p d).ports[i.val]).dfp = (d.ports[i.val]).dfp :=
  ((Port.still_dfp _).symm.trans (congrArg Port.dfp (amsEnd_still ..))).trans (Port.still_dfp _)
@[simp] theorem amsEnd_servicePresent (i p : Fin 32) (d : Dev) : ((amsEnd p d).ports[i.val]).servicePresent = (d.ports[i.val]).servicePresent :=
  ((Port.still_servicePresent _).symm.trans (congrArg Port.servicePresent (amsEnd_still ..))).trans (Port.still_servicePresent _)
@[simp] theorem amsEnd_deadcar (i p : Fin 32) (d : Dev) : ((amsEnd p d).ports[i.val]).deadcar = (d.ports[i.val]).deadcar :=
  ((Port.still_deadcar _).symm.trans (congrArg Port.deadcar (amsEnd_still ..))).trans (Port.still_deadcar _)
@[simp] theorem amsEnd_enabled (i p : Fin 32) (d : Dev) : ((amsEnd p d).ports[i.val]).enabled = (d.ports[i.val]).enabled :=
  ((Port.still_enabled _).symm.trans (congrArg Port.enabled (amsEnd_still ..))).trans (Port.still_enabled _)
@[simp] theorem amsEnd_vbusHigh (i p : Fin 32) (d : Dev) : ((amsEnd p d).ports[i.val]).vbusHigh = (d.ports[i.val]).vbusHigh :=
  ((Port.still_vbusHigh _).symm.trans (congrArg Port.vbusHigh (amsEnd_still ..))).trans (Port.still_vbusHigh _)
@[simp] theorem amsEnd_startFail (i p : Fin 32) (d : Dev) : ((amsEnd p d).ports[i.val]).startFail = (d.ports[i.val]).startFail :=
  ((Port.still_startFail _).symm.trans (congrArg Port.startFail (amsEnd_still ..))).trans (Port.still_startFail _)
@[simp] theorem amsEnd_minimal (i p : Fin 32) (d : Dev) : ((amsEnd p d).ports[i.val]).minimal = (d.ports[i.val]).minimal :=
  ((Port.still_minimal _).symm.trans (congrArg Port.minimal (amsEnd_still ..))).trans (Port.still_minimal _)
@[simp] theorem amsEnd_rev (i p : Fin 32) (d : Dev) : ((amsEnd p d).ports[i.val]).rev = (d.ports[i.val]).rev :=
  ((Port.still_rev _).symm.trans (congrArg Port.rev (amsEnd_still ..))).trans (Port.still_rev _)
@[simp] theorem amsEnd_kind (i p : Fin 32) (d : Dev) : ((amsEnd p d).ports[i.val]).kind = (d.ports[i.val]).kind :=
  ((Port.still_kind _).symm.trans (congrArg Port.kind (amsEnd_still ..))).trans (Port.still_kind _)
@[simp] theorem amsEnd_position (i p : Fin 32) (d : Dev) : ((amsEnd p d).ports[i.val]).position = (d.ports[i.val]).position :=
  ((Port.still_position _).symm.trans (congrArg Port.position (amsEnd_still ..))).trans (Port.still_position _)
@[simp] theorem amsEnd_mismatch (i p : Fin 32) (d : Dev) : ((amsEnd p d).ports[i.val]).mismatch = (d.ports[i.val]).mismatch :=
  ((Port.still_mismatch _).symm.trans (congrArg Port.mismatch (amsEnd_still ..))).trans (Port.still_mismatch _)
@[simp] theorem amsEnd_swap (i p : Fin 32) (d : Dev) : ((amsEnd p d).ports[i.val]).swap = (d.ports[i.val]).swap :=
  ((Port.still_swap _).symm.trans (congrArg Port.swap (amsEnd_still ..))).trans (Port.still_swap _)
@[simp] theorem amsEnd_transition (i p : Fin 32) (d : Dev) : ((amsEnd p d).ports[i.val]).transition = (d.ports[i.val]).transition :=
  ((Port.still_transition _).symm.trans (congrArg Port.transition (amsEnd_still ..))).trans (Port.still_transition _)
@[simp] theorem amsEnd_volt (i p : Fin 32) (d : Dev) : ((amsEnd p d).ports[i.val]).volt = (d.ports[i.val]).volt :=
  ((Port.still_volt _).symm.trans (congrArg Port.volt (amsEnd_still ..))).trans (Port.still_volt _)
@[simp] theorem amsEnd_curr (i p : Fin 32) (d : Dev) : ((amsEnd p d).ports[i.val]).curr = (d.ports[i.val]).curr :=
  ((Port.still_curr _).symm.trans (congrArg Port.curr (amsEnd_still ..))).trans (Port.still_curr _)
@[simp] theorem amsEnd_rdo (i p : Fin 32) (d : Dev) : ((amsEnd p d).ports[i.val]).rdo = (d.ports[i.val]).rdo :=
  ((Port.still_rdo _).symm.trans (congrArg Port.rdo (amsEnd_still ..))).trans (Port.still_rdo _)
@[simp] theorem amsEnd_fence (i p : Fin 32) (d : Dev) : ((amsEnd p d).ports[i.val]).fence = (d.ports[i.val]).fence :=
  ((Port.still_fence _).symm.trans (congrArg Port.fence (amsEnd_still ..))).trans (Port.still_fence _)
@[simp] theorem amsEnd_fencePend (i p : Fin 32) (d : Dev) : ((amsEnd p d).ports[i.val]).fencePend = (d.ports[i.val]).fencePend :=
  ((Port.still_fencePend _).symm.trans (congrArg Port.fencePend (amsEnd_still ..))).trans (Port.still_fencePend _)
@[simp] theorem amsEnd_fenceReg (i p : Fin 32) (d : Dev) : ((amsEnd p d).ports[i.val]).fenceReg = (d.ports[i.val]).fenceReg :=
  ((Port.still_fenceReg _).symm.trans (congrArg Port.fenceReg (amsEnd_still ..))).trans (Port.still_fenceReg _)
@[simp] theorem amsEnd_capWatts (i p : Fin 32) (d : Dev) : ((amsEnd p d).ports[i.val]).capWatts = (d.ports[i.val]).capWatts :=
  ((Port.still_capWatts _).symm.trans (congrArg Port.capWatts (amsEnd_still ..))).trans (Port.still_capWatts _)
@[simp] theorem amsEnd_capMa (i p : Fin 32) (d : Dev) : ((amsEnd p d).ports[i.val]).capMa = (d.ports[i.val]).capMa :=
  ((Port.still_capMa _).symm.trans (congrArg Port.capMa (amsEnd_still ..))).trans (Port.still_capMa _)
@[simp] theorem amsEnd_cableFinding (i p : Fin 32) (d : Dev) : ((amsEnd p d).ports[i.val]).cableFinding = (d.ports[i.val]).cableFinding :=
  ((Port.still_cableFinding _).symm.trans (congrArg Port.cableFinding (amsEnd_still ..))).trans (Port.still_cableFinding _)
@[simp] theorem amsEnd_cableEpr (i p : Fin 32) (d : Dev) : ((amsEnd p d).ports[i.val]).cableEpr = (d.ports[i.val]).cableEpr :=
  ((Port.still_cableEpr _).symm.trans (congrArg Port.cableEpr (amsEnd_still ..))).trans (Port.still_cableEpr _)
@[simp] theorem amsEnd_cableActive (i p : Fin 32) (d : Dev) : ((amsEnd p d).ports[i.val]).cableActive = (d.ports[i.val]).cableActive :=
  ((Port.still_cableActive _).symm.trans (congrArg Port.cableActive (amsEnd_still ..))).trans (Port.still_cableActive _)
@[simp] theorem amsEnd_vconnOc (i p : Fin 32) (d : Dev) : ((amsEnd p d).ports[i.val]).vconnOc = (d.ports[i.val]).vconnOc :=
  ((Port.still_vconnOc _).symm.trans (congrArg Port.vconnOc (amsEnd_still ..))).trans (Port.still_vconnOc _)
@[simp] theorem amsEnd_cableDone (i p : Fin 32) (d : Dev) : ((amsEnd p d).ports[i.val]).cableDone = (d.ports[i.val]).cableDone :=
  ((Port.still_cableDone _).symm.trans (congrArg Port.cableDone (amsEnd_still ..))).trans (Port.still_cableDone _)
@[simp] theorem amsEnd_cableV (i p : Fin 32) (d : Dev) : ((amsEnd p d).ports[i.val]).cableV = (d.ports[i.val]).cableV :=
  ((Port.still_cableV _).symm.trans (congrArg Port.cableV (amsEnd_still ..))).trans (Port.still_cableV _)
@[simp] theorem amsEnd_cableI (i p : Fin 32) (d : Dev) : ((amsEnd p d).ports[i.val]).cableI = (d.ports[i.val]).cableI :=
  ((Port.still_cableI _).symm.trans (congrArg Port.cableI (amsEnd_still ..))).trans (Port.still_cableI _)
@[simp] theorem amsEnd_cableVid (i p : Fin 32) (d : Dev) : ((amsEnd p d).ports[i.val]).cableVid = (d.ports[i.val]).cableVid :=
  ((Port.still_cableVid _).symm.trans (congrArg Port.cableVid (amsEnd_still ..))).trans (Port.still_cableVid _)
@[simp] theorem amsEnd_cablePid (i p : Fin 32) (d : Dev) : ((amsEnd p d).ports[i.val]).cablePid = (d.ports[i.val]).cablePid :=
  ((Port.still_cablePid _).symm.trans (congrArg Port.cablePid (amsEnd_still ..))).trans (Port.still_cablePid _)
@[simp] theorem handFollow_tc (i p : Fin 32) (old : Port) (l : List CutOffer) (asked : Bool) (d : Dev) : ((handFollow old l p asked d).ports[i.val]).tc = (d.ports[i.val]).tc :=
  ((Port.still_tc _).symm.trans (congrArg Port.tc (handFollow_still ..))).trans (Port.still_tc _)
@[simp] theorem handFollow_minAtt (i p : Fin 32) (old : Port) (l : List CutOffer) (asked : Bool) (d : Dev) : ((handFollow old l p asked d).ports[i.val]).minAtt = (d.ports[i.val]).minAtt :=
  ((Port.still_minAtt _).symm.trans (congrArg Port.minAtt (handFollow_still ..))).trans (Port.still_minAtt _)
@[simp] theorem handFollow_orient (i p : Fin 32) (old : Port) (l : List CutOffer) (asked : Bool) (d : Dev) : ((handFollow old l p asked d).ports[i.val]).orient = (d.ports[i.val]).orient :=
  ((Port.still_orient _).symm.trans (congrArg Port.orient (handFollow_still ..))).trans (Port.still_orient _)
@[simp] theorem handFollow_vconnOn (i p : Fin 32) (old : Port) (l : List CutOffer) (asked : Bool) (d : Dev) : ((handFollow old l p asked d).ports[i.val]).vconnOn = (d.ports[i.val]).vconnOn :=
  ((Port.still_vconnOn _).symm.trans (congrArg Port.vconnOn (handFollow_still ..))).trans (Port.still_vconnOn _)
@[simp] theorem handFollow_vconnPin (i p : Fin 32) (old : Port) (l : List CutOffer) (asked : Bool) (d : Dev) : ((handFollow old l p asked d).ports[i.val]).vconnPin = (d.ports[i.val]).vconnPin :=
  ((Port.still_vconnPin _).symm.trans (congrArg Port.vconnPin (handFollow_still ..))).trans (Port.still_vconnPin _)
@[simp] theorem handFollow_source (i p : Fin 32) (old : Port) (l : List CutOffer) (asked : Bool) (d : Dev) : ((handFollow old l p asked d).ports[i.val]).source = (d.ports[i.val]).source :=
  ((Port.still_source _).symm.trans (congrArg Port.source (handFollow_still ..))).trans (Port.still_source _)
@[simp] theorem handFollow_dfp (i p : Fin 32) (old : Port) (l : List CutOffer) (asked : Bool) (d : Dev) : ((handFollow old l p asked d).ports[i.val]).dfp = (d.ports[i.val]).dfp :=
  ((Port.still_dfp _).symm.trans (congrArg Port.dfp (handFollow_still ..))).trans (Port.still_dfp _)
@[simp] theorem handFollow_servicePresent (i p : Fin 32) (old : Port) (l : List CutOffer) (asked : Bool) (d : Dev) : ((handFollow old l p asked d).ports[i.val]).servicePresent = (d.ports[i.val]).servicePresent :=
  ((Port.still_servicePresent _).symm.trans (congrArg Port.servicePresent (handFollow_still ..))).trans (Port.still_servicePresent _)
@[simp] theorem handFollow_deadcar (i p : Fin 32) (old : Port) (l : List CutOffer) (asked : Bool) (d : Dev) : ((handFollow old l p asked d).ports[i.val]).deadcar = (d.ports[i.val]).deadcar :=
  ((Port.still_deadcar _).symm.trans (congrArg Port.deadcar (handFollow_still ..))).trans (Port.still_deadcar _)
@[simp] theorem handFollow_enabled (i p : Fin 32) (old : Port) (l : List CutOffer) (asked : Bool) (d : Dev) : ((handFollow old l p asked d).ports[i.val]).enabled = (d.ports[i.val]).enabled :=
  ((Port.still_enabled _).symm.trans (congrArg Port.enabled (handFollow_still ..))).trans (Port.still_enabled _)
@[simp] theorem handFollow_vbusHigh (i p : Fin 32) (old : Port) (l : List CutOffer) (asked : Bool) (d : Dev) : ((handFollow old l p asked d).ports[i.val]).vbusHigh = (d.ports[i.val]).vbusHigh :=
  ((Port.still_vbusHigh _).symm.trans (congrArg Port.vbusHigh (handFollow_still ..))).trans (Port.still_vbusHigh _)
@[simp] theorem handFollow_startFail (i p : Fin 32) (old : Port) (l : List CutOffer) (asked : Bool) (d : Dev) : ((handFollow old l p asked d).ports[i.val]).startFail = (d.ports[i.val]).startFail :=
  ((Port.still_startFail _).symm.trans (congrArg Port.startFail (handFollow_still ..))).trans (Port.still_startFail _)
@[simp] theorem handFollow_minimal (i p : Fin 32) (old : Port) (l : List CutOffer) (asked : Bool) (d : Dev) : ((handFollow old l p asked d).ports[i.val]).minimal = (d.ports[i.val]).minimal :=
  ((Port.still_minimal _).symm.trans (congrArg Port.minimal (handFollow_still ..))).trans (Port.still_minimal _)
@[simp] theorem handFollow_rev (i p : Fin 32) (old : Port) (l : List CutOffer) (asked : Bool) (d : Dev) : ((handFollow old l p asked d).ports[i.val]).rev = (d.ports[i.val]).rev :=
  ((Port.still_rev _).symm.trans (congrArg Port.rev (handFollow_still ..))).trans (Port.still_rev _)
@[simp] theorem handFollow_kind (i p : Fin 32) (old : Port) (l : List CutOffer) (asked : Bool) (d : Dev) : ((handFollow old l p asked d).ports[i.val]).kind = (d.ports[i.val]).kind :=
  ((Port.still_kind _).symm.trans (congrArg Port.kind (handFollow_still ..))).trans (Port.still_kind _)
@[simp] theorem handFollow_position (i p : Fin 32) (old : Port) (l : List CutOffer) (asked : Bool) (d : Dev) : ((handFollow old l p asked d).ports[i.val]).position = (d.ports[i.val]).position :=
  ((Port.still_position _).symm.trans (congrArg Port.position (handFollow_still ..))).trans (Port.still_position _)
@[simp] theorem handFollow_mismatch (i p : Fin 32) (old : Port) (l : List CutOffer) (asked : Bool) (d : Dev) : ((handFollow old l p asked d).ports[i.val]).mismatch = (d.ports[i.val]).mismatch :=
  ((Port.still_mismatch _).symm.trans (congrArg Port.mismatch (handFollow_still ..))).trans (Port.still_mismatch _)
@[simp] theorem handFollow_swap (i p : Fin 32) (old : Port) (l : List CutOffer) (asked : Bool) (d : Dev) : ((handFollow old l p asked d).ports[i.val]).swap = (d.ports[i.val]).swap :=
  ((Port.still_swap _).symm.trans (congrArg Port.swap (handFollow_still ..))).trans (Port.still_swap _)
@[simp] theorem handFollow_transition (i p : Fin 32) (old : Port) (l : List CutOffer) (asked : Bool) (d : Dev) : ((handFollow old l p asked d).ports[i.val]).transition = (d.ports[i.val]).transition :=
  ((Port.still_transition _).symm.trans (congrArg Port.transition (handFollow_still ..))).trans (Port.still_transition _)
@[simp] theorem handFollow_volt (i p : Fin 32) (old : Port) (l : List CutOffer) (asked : Bool) (d : Dev) : ((handFollow old l p asked d).ports[i.val]).volt = (d.ports[i.val]).volt :=
  ((Port.still_volt _).symm.trans (congrArg Port.volt (handFollow_still ..))).trans (Port.still_volt _)
@[simp] theorem handFollow_curr (i p : Fin 32) (old : Port) (l : List CutOffer) (asked : Bool) (d : Dev) : ((handFollow old l p asked d).ports[i.val]).curr = (d.ports[i.val]).curr :=
  ((Port.still_curr _).symm.trans (congrArg Port.curr (handFollow_still ..))).trans (Port.still_curr _)
@[simp] theorem handFollow_rdo (i p : Fin 32) (old : Port) (l : List CutOffer) (asked : Bool) (d : Dev) : ((handFollow old l p asked d).ports[i.val]).rdo = (d.ports[i.val]).rdo :=
  ((Port.still_rdo _).symm.trans (congrArg Port.rdo (handFollow_still ..))).trans (Port.still_rdo _)
@[simp] theorem handFollow_fence (i p : Fin 32) (old : Port) (l : List CutOffer) (asked : Bool) (d : Dev) : ((handFollow old l p asked d).ports[i.val]).fence = (d.ports[i.val]).fence :=
  ((Port.still_fence _).symm.trans (congrArg Port.fence (handFollow_still ..))).trans (Port.still_fence _)
@[simp] theorem handFollow_fencePend (i p : Fin 32) (old : Port) (l : List CutOffer) (asked : Bool) (d : Dev) : ((handFollow old l p asked d).ports[i.val]).fencePend = (d.ports[i.val]).fencePend :=
  ((Port.still_fencePend _).symm.trans (congrArg Port.fencePend (handFollow_still ..))).trans (Port.still_fencePend _)
@[simp] theorem handFollow_fenceReg (i p : Fin 32) (old : Port) (l : List CutOffer) (asked : Bool) (d : Dev) : ((handFollow old l p asked d).ports[i.val]).fenceReg = (d.ports[i.val]).fenceReg :=
  ((Port.still_fenceReg _).symm.trans (congrArg Port.fenceReg (handFollow_still ..))).trans (Port.still_fenceReg _)
@[simp] theorem handFollow_capWatts (i p : Fin 32) (old : Port) (l : List CutOffer) (asked : Bool) (d : Dev) : ((handFollow old l p asked d).ports[i.val]).capWatts = (d.ports[i.val]).capWatts :=
  ((Port.still_capWatts _).symm.trans (congrArg Port.capWatts (handFollow_still ..))).trans (Port.still_capWatts _)
@[simp] theorem handFollow_capMa (i p : Fin 32) (old : Port) (l : List CutOffer) (asked : Bool) (d : Dev) : ((handFollow old l p asked d).ports[i.val]).capMa = (d.ports[i.val]).capMa :=
  ((Port.still_capMa _).symm.trans (congrArg Port.capMa (handFollow_still ..))).trans (Port.still_capMa _)
@[simp] theorem handFollow_cableFinding (i p : Fin 32) (old : Port) (l : List CutOffer) (asked : Bool) (d : Dev) : ((handFollow old l p asked d).ports[i.val]).cableFinding = (d.ports[i.val]).cableFinding :=
  ((Port.still_cableFinding _).symm.trans (congrArg Port.cableFinding (handFollow_still ..))).trans (Port.still_cableFinding _)
@[simp] theorem handFollow_cableEpr (i p : Fin 32) (old : Port) (l : List CutOffer) (asked : Bool) (d : Dev) : ((handFollow old l p asked d).ports[i.val]).cableEpr = (d.ports[i.val]).cableEpr :=
  ((Port.still_cableEpr _).symm.trans (congrArg Port.cableEpr (handFollow_still ..))).trans (Port.still_cableEpr _)
@[simp] theorem handFollow_cableActive (i p : Fin 32) (old : Port) (l : List CutOffer) (asked : Bool) (d : Dev) : ((handFollow old l p asked d).ports[i.val]).cableActive = (d.ports[i.val]).cableActive :=
  ((Port.still_cableActive _).symm.trans (congrArg Port.cableActive (handFollow_still ..))).trans (Port.still_cableActive _)
@[simp] theorem handFollow_vconnOc (i p : Fin 32) (old : Port) (l : List CutOffer) (asked : Bool) (d : Dev) : ((handFollow old l p asked d).ports[i.val]).vconnOc = (d.ports[i.val]).vconnOc :=
  ((Port.still_vconnOc _).symm.trans (congrArg Port.vconnOc (handFollow_still ..))).trans (Port.still_vconnOc _)
@[simp] theorem handFollow_cableDone (i p : Fin 32) (old : Port) (l : List CutOffer) (asked : Bool) (d : Dev) : ((handFollow old l p asked d).ports[i.val]).cableDone = (d.ports[i.val]).cableDone :=
  ((Port.still_cableDone _).symm.trans (congrArg Port.cableDone (handFollow_still ..))).trans (Port.still_cableDone _)
@[simp] theorem handFollow_cableV (i p : Fin 32) (old : Port) (l : List CutOffer) (asked : Bool) (d : Dev) : ((handFollow old l p asked d).ports[i.val]).cableV = (d.ports[i.val]).cableV :=
  ((Port.still_cableV _).symm.trans (congrArg Port.cableV (handFollow_still ..))).trans (Port.still_cableV _)
@[simp] theorem handFollow_cableI (i p : Fin 32) (old : Port) (l : List CutOffer) (asked : Bool) (d : Dev) : ((handFollow old l p asked d).ports[i.val]).cableI = (d.ports[i.val]).cableI :=
  ((Port.still_cableI _).symm.trans (congrArg Port.cableI (handFollow_still ..))).trans (Port.still_cableI _)
@[simp] theorem handFollow_cableVid (i p : Fin 32) (old : Port) (l : List CutOffer) (asked : Bool) (d : Dev) : ((handFollow old l p asked d).ports[i.val]).cableVid = (d.ports[i.val]).cableVid :=
  ((Port.still_cableVid _).symm.trans (congrArg Port.cableVid (handFollow_still ..))).trans (Port.still_cableVid _)
@[simp] theorem handFollow_cablePid (i p : Fin 32) (old : Port) (l : List CutOffer) (asked : Bool) (d : Dev) : ((handFollow old l p asked d).ports[i.val]).cablePid = (d.ports[i.val]).cablePid :=
  ((Port.still_cablePid _).symm.trans (congrArg Port.cablePid (handFollow_still ..))).trans (Port.still_cablePid _)
@[simp] theorem takeTarget_tc (i p : Fin 32) (t : Nat) (asked : Bool) (d : Dev) : ((takeTarget p t asked d).ports[i.val]).tc = (d.ports[i.val]).tc :=
  ((Port.still_tc _).symm.trans (congrArg Port.tc (takeTarget_still ..))).trans (Port.still_tc _)
@[simp] theorem takeTarget_minAtt (i p : Fin 32) (t : Nat) (asked : Bool) (d : Dev) : ((takeTarget p t asked d).ports[i.val]).minAtt = (d.ports[i.val]).minAtt :=
  ((Port.still_minAtt _).symm.trans (congrArg Port.minAtt (takeTarget_still ..))).trans (Port.still_minAtt _)
@[simp] theorem takeTarget_orient (i p : Fin 32) (t : Nat) (asked : Bool) (d : Dev) : ((takeTarget p t asked d).ports[i.val]).orient = (d.ports[i.val]).orient :=
  ((Port.still_orient _).symm.trans (congrArg Port.orient (takeTarget_still ..))).trans (Port.still_orient _)
@[simp] theorem takeTarget_vconnOn (i p : Fin 32) (t : Nat) (asked : Bool) (d : Dev) : ((takeTarget p t asked d).ports[i.val]).vconnOn = (d.ports[i.val]).vconnOn :=
  ((Port.still_vconnOn _).symm.trans (congrArg Port.vconnOn (takeTarget_still ..))).trans (Port.still_vconnOn _)
@[simp] theorem takeTarget_vconnPin (i p : Fin 32) (t : Nat) (asked : Bool) (d : Dev) : ((takeTarget p t asked d).ports[i.val]).vconnPin = (d.ports[i.val]).vconnPin :=
  ((Port.still_vconnPin _).symm.trans (congrArg Port.vconnPin (takeTarget_still ..))).trans (Port.still_vconnPin _)
@[simp] theorem takeTarget_source (i p : Fin 32) (t : Nat) (asked : Bool) (d : Dev) : ((takeTarget p t asked d).ports[i.val]).source = (d.ports[i.val]).source :=
  ((Port.still_source _).symm.trans (congrArg Port.source (takeTarget_still ..))).trans (Port.still_source _)
@[simp] theorem takeTarget_dfp (i p : Fin 32) (t : Nat) (asked : Bool) (d : Dev) : ((takeTarget p t asked d).ports[i.val]).dfp = (d.ports[i.val]).dfp :=
  ((Port.still_dfp _).symm.trans (congrArg Port.dfp (takeTarget_still ..))).trans (Port.still_dfp _)
@[simp] theorem takeTarget_servicePresent (i p : Fin 32) (t : Nat) (asked : Bool) (d : Dev) : ((takeTarget p t asked d).ports[i.val]).servicePresent = (d.ports[i.val]).servicePresent :=
  ((Port.still_servicePresent _).symm.trans (congrArg Port.servicePresent (takeTarget_still ..))).trans (Port.still_servicePresent _)
@[simp] theorem takeTarget_deadcar (i p : Fin 32) (t : Nat) (asked : Bool) (d : Dev) : ((takeTarget p t asked d).ports[i.val]).deadcar = (d.ports[i.val]).deadcar :=
  ((Port.still_deadcar _).symm.trans (congrArg Port.deadcar (takeTarget_still ..))).trans (Port.still_deadcar _)
@[simp] theorem takeTarget_enabled (i p : Fin 32) (t : Nat) (asked : Bool) (d : Dev) : ((takeTarget p t asked d).ports[i.val]).enabled = (d.ports[i.val]).enabled :=
  ((Port.still_enabled _).symm.trans (congrArg Port.enabled (takeTarget_still ..))).trans (Port.still_enabled _)
@[simp] theorem takeTarget_vbusHigh (i p : Fin 32) (t : Nat) (asked : Bool) (d : Dev) : ((takeTarget p t asked d).ports[i.val]).vbusHigh = (d.ports[i.val]).vbusHigh :=
  ((Port.still_vbusHigh _).symm.trans (congrArg Port.vbusHigh (takeTarget_still ..))).trans (Port.still_vbusHigh _)
@[simp] theorem takeTarget_startFail (i p : Fin 32) (t : Nat) (asked : Bool) (d : Dev) : ((takeTarget p t asked d).ports[i.val]).startFail = (d.ports[i.val]).startFail :=
  ((Port.still_startFail _).symm.trans (congrArg Port.startFail (takeTarget_still ..))).trans (Port.still_startFail _)
@[simp] theorem takeTarget_minimal (i p : Fin 32) (t : Nat) (asked : Bool) (d : Dev) : ((takeTarget p t asked d).ports[i.val]).minimal = (d.ports[i.val]).minimal :=
  ((Port.still_minimal _).symm.trans (congrArg Port.minimal (takeTarget_still ..))).trans (Port.still_minimal _)
@[simp] theorem takeTarget_rev (i p : Fin 32) (t : Nat) (asked : Bool) (d : Dev) : ((takeTarget p t asked d).ports[i.val]).rev = (d.ports[i.val]).rev :=
  ((Port.still_rev _).symm.trans (congrArg Port.rev (takeTarget_still ..))).trans (Port.still_rev _)
@[simp] theorem takeTarget_kind (i p : Fin 32) (t : Nat) (asked : Bool) (d : Dev) : ((takeTarget p t asked d).ports[i.val]).kind = (d.ports[i.val]).kind :=
  ((Port.still_kind _).symm.trans (congrArg Port.kind (takeTarget_still ..))).trans (Port.still_kind _)
@[simp] theorem takeTarget_position (i p : Fin 32) (t : Nat) (asked : Bool) (d : Dev) : ((takeTarget p t asked d).ports[i.val]).position = (d.ports[i.val]).position :=
  ((Port.still_position _).symm.trans (congrArg Port.position (takeTarget_still ..))).trans (Port.still_position _)
@[simp] theorem takeTarget_mismatch (i p : Fin 32) (t : Nat) (asked : Bool) (d : Dev) : ((takeTarget p t asked d).ports[i.val]).mismatch = (d.ports[i.val]).mismatch :=
  ((Port.still_mismatch _).symm.trans (congrArg Port.mismatch (takeTarget_still ..))).trans (Port.still_mismatch _)
@[simp] theorem takeTarget_swap (i p : Fin 32) (t : Nat) (asked : Bool) (d : Dev) : ((takeTarget p t asked d).ports[i.val]).swap = (d.ports[i.val]).swap :=
  ((Port.still_swap _).symm.trans (congrArg Port.swap (takeTarget_still ..))).trans (Port.still_swap _)
@[simp] theorem takeTarget_transition (i p : Fin 32) (t : Nat) (asked : Bool) (d : Dev) : ((takeTarget p t asked d).ports[i.val]).transition = (d.ports[i.val]).transition :=
  ((Port.still_transition _).symm.trans (congrArg Port.transition (takeTarget_still ..))).trans (Port.still_transition _)
@[simp] theorem takeTarget_volt (i p : Fin 32) (t : Nat) (asked : Bool) (d : Dev) : ((takeTarget p t asked d).ports[i.val]).volt = (d.ports[i.val]).volt :=
  ((Port.still_volt _).symm.trans (congrArg Port.volt (takeTarget_still ..))).trans (Port.still_volt _)
@[simp] theorem takeTarget_curr (i p : Fin 32) (t : Nat) (asked : Bool) (d : Dev) : ((takeTarget p t asked d).ports[i.val]).curr = (d.ports[i.val]).curr :=
  ((Port.still_curr _).symm.trans (congrArg Port.curr (takeTarget_still ..))).trans (Port.still_curr _)
@[simp] theorem takeTarget_rdo (i p : Fin 32) (t : Nat) (asked : Bool) (d : Dev) : ((takeTarget p t asked d).ports[i.val]).rdo = (d.ports[i.val]).rdo :=
  ((Port.still_rdo _).symm.trans (congrArg Port.rdo (takeTarget_still ..))).trans (Port.still_rdo _)
@[simp] theorem takeTarget_fence (i p : Fin 32) (t : Nat) (asked : Bool) (d : Dev) : ((takeTarget p t asked d).ports[i.val]).fence = (d.ports[i.val]).fence :=
  ((Port.still_fence _).symm.trans (congrArg Port.fence (takeTarget_still ..))).trans (Port.still_fence _)
@[simp] theorem takeTarget_fencePend (i p : Fin 32) (t : Nat) (asked : Bool) (d : Dev) : ((takeTarget p t asked d).ports[i.val]).fencePend = (d.ports[i.val]).fencePend :=
  ((Port.still_fencePend _).symm.trans (congrArg Port.fencePend (takeTarget_still ..))).trans (Port.still_fencePend _)
@[simp] theorem takeTarget_fenceReg (i p : Fin 32) (t : Nat) (asked : Bool) (d : Dev) : ((takeTarget p t asked d).ports[i.val]).fenceReg = (d.ports[i.val]).fenceReg :=
  ((Port.still_fenceReg _).symm.trans (congrArg Port.fenceReg (takeTarget_still ..))).trans (Port.still_fenceReg _)
@[simp] theorem takeTarget_capWatts (i p : Fin 32) (t : Nat) (asked : Bool) (d : Dev) : ((takeTarget p t asked d).ports[i.val]).capWatts = (d.ports[i.val]).capWatts :=
  ((Port.still_capWatts _).symm.trans (congrArg Port.capWatts (takeTarget_still ..))).trans (Port.still_capWatts _)
@[simp] theorem takeTarget_capMa (i p : Fin 32) (t : Nat) (asked : Bool) (d : Dev) : ((takeTarget p t asked d).ports[i.val]).capMa = (d.ports[i.val]).capMa :=
  ((Port.still_capMa _).symm.trans (congrArg Port.capMa (takeTarget_still ..))).trans (Port.still_capMa _)
@[simp] theorem takeTarget_cableFinding (i p : Fin 32) (t : Nat) (asked : Bool) (d : Dev) : ((takeTarget p t asked d).ports[i.val]).cableFinding = (d.ports[i.val]).cableFinding :=
  ((Port.still_cableFinding _).symm.trans (congrArg Port.cableFinding (takeTarget_still ..))).trans (Port.still_cableFinding _)
@[simp] theorem takeTarget_cableEpr (i p : Fin 32) (t : Nat) (asked : Bool) (d : Dev) : ((takeTarget p t asked d).ports[i.val]).cableEpr = (d.ports[i.val]).cableEpr :=
  ((Port.still_cableEpr _).symm.trans (congrArg Port.cableEpr (takeTarget_still ..))).trans (Port.still_cableEpr _)
@[simp] theorem takeTarget_cableActive (i p : Fin 32) (t : Nat) (asked : Bool) (d : Dev) : ((takeTarget p t asked d).ports[i.val]).cableActive = (d.ports[i.val]).cableActive :=
  ((Port.still_cableActive _).symm.trans (congrArg Port.cableActive (takeTarget_still ..))).trans (Port.still_cableActive _)
@[simp] theorem takeTarget_vconnOc (i p : Fin 32) (t : Nat) (asked : Bool) (d : Dev) : ((takeTarget p t asked d).ports[i.val]).vconnOc = (d.ports[i.val]).vconnOc :=
  ((Port.still_vconnOc _).symm.trans (congrArg Port.vconnOc (takeTarget_still ..))).trans (Port.still_vconnOc _)
@[simp] theorem takeTarget_cableDone (i p : Fin 32) (t : Nat) (asked : Bool) (d : Dev) : ((takeTarget p t asked d).ports[i.val]).cableDone = (d.ports[i.val]).cableDone :=
  ((Port.still_cableDone _).symm.trans (congrArg Port.cableDone (takeTarget_still ..))).trans (Port.still_cableDone _)
@[simp] theorem takeTarget_cableV (i p : Fin 32) (t : Nat) (asked : Bool) (d : Dev) : ((takeTarget p t asked d).ports[i.val]).cableV = (d.ports[i.val]).cableV :=
  ((Port.still_cableV _).symm.trans (congrArg Port.cableV (takeTarget_still ..))).trans (Port.still_cableV _)
@[simp] theorem takeTarget_cableI (i p : Fin 32) (t : Nat) (asked : Bool) (d : Dev) : ((takeTarget p t asked d).ports[i.val]).cableI = (d.ports[i.val]).cableI :=
  ((Port.still_cableI _).symm.trans (congrArg Port.cableI (takeTarget_still ..))).trans (Port.still_cableI _)
@[simp] theorem takeTarget_cableVid (i p : Fin 32) (t : Nat) (asked : Bool) (d : Dev) : ((takeTarget p t asked d).ports[i.val]).cableVid = (d.ports[i.val]).cableVid :=
  ((Port.still_cableVid _).symm.trans (congrArg Port.cableVid (takeTarget_still ..))).trans (Port.still_cableVid _)
@[simp] theorem takeTarget_cablePid (i p : Fin 32) (t : Nat) (asked : Bool) (d : Dev) : ((takeTarget p t asked d).ports[i.val]).cablePid = (d.ports[i.val]).cablePid :=
  ((Port.still_cablePid _).symm.trans (congrArg Port.cablePid (takeTarget_still ..))).trans (Port.still_cablePid _)
@[simp] theorem divide_tc (i : Fin 32) (d : Dev) : ((divide d).ports[i.val]).tc = (d.ports[i.val]).tc :=
  ((Port.still_tc _).symm.trans (congrArg Port.tc (divide_still ..))).trans (Port.still_tc _)
@[simp] theorem divide_minAtt (i : Fin 32) (d : Dev) : ((divide d).ports[i.val]).minAtt = (d.ports[i.val]).minAtt :=
  ((Port.still_minAtt _).symm.trans (congrArg Port.minAtt (divide_still ..))).trans (Port.still_minAtt _)
@[simp] theorem divide_orient (i : Fin 32) (d : Dev) : ((divide d).ports[i.val]).orient = (d.ports[i.val]).orient :=
  ((Port.still_orient _).symm.trans (congrArg Port.orient (divide_still ..))).trans (Port.still_orient _)
@[simp] theorem divide_vconnOn (i : Fin 32) (d : Dev) : ((divide d).ports[i.val]).vconnOn = (d.ports[i.val]).vconnOn :=
  ((Port.still_vconnOn _).symm.trans (congrArg Port.vconnOn (divide_still ..))).trans (Port.still_vconnOn _)
@[simp] theorem divide_vconnPin (i : Fin 32) (d : Dev) : ((divide d).ports[i.val]).vconnPin = (d.ports[i.val]).vconnPin :=
  ((Port.still_vconnPin _).symm.trans (congrArg Port.vconnPin (divide_still ..))).trans (Port.still_vconnPin _)
@[simp] theorem divide_source (i : Fin 32) (d : Dev) : ((divide d).ports[i.val]).source = (d.ports[i.val]).source :=
  ((Port.still_source _).symm.trans (congrArg Port.source (divide_still ..))).trans (Port.still_source _)
@[simp] theorem divide_dfp (i : Fin 32) (d : Dev) : ((divide d).ports[i.val]).dfp = (d.ports[i.val]).dfp :=
  ((Port.still_dfp _).symm.trans (congrArg Port.dfp (divide_still ..))).trans (Port.still_dfp _)
@[simp] theorem divide_servicePresent (i : Fin 32) (d : Dev) : ((divide d).ports[i.val]).servicePresent = (d.ports[i.val]).servicePresent :=
  ((Port.still_servicePresent _).symm.trans (congrArg Port.servicePresent (divide_still ..))).trans (Port.still_servicePresent _)
@[simp] theorem divide_deadcar (i : Fin 32) (d : Dev) : ((divide d).ports[i.val]).deadcar = (d.ports[i.val]).deadcar :=
  ((Port.still_deadcar _).symm.trans (congrArg Port.deadcar (divide_still ..))).trans (Port.still_deadcar _)
@[simp] theorem divide_enabled (i : Fin 32) (d : Dev) : ((divide d).ports[i.val]).enabled = (d.ports[i.val]).enabled :=
  ((Port.still_enabled _).symm.trans (congrArg Port.enabled (divide_still ..))).trans (Port.still_enabled _)
@[simp] theorem divide_vbusHigh (i : Fin 32) (d : Dev) : ((divide d).ports[i.val]).vbusHigh = (d.ports[i.val]).vbusHigh :=
  ((Port.still_vbusHigh _).symm.trans (congrArg Port.vbusHigh (divide_still ..))).trans (Port.still_vbusHigh _)
@[simp] theorem divide_startFail (i : Fin 32) (d : Dev) : ((divide d).ports[i.val]).startFail = (d.ports[i.val]).startFail :=
  ((Port.still_startFail _).symm.trans (congrArg Port.startFail (divide_still ..))).trans (Port.still_startFail _)
@[simp] theorem divide_minimal (i : Fin 32) (d : Dev) : ((divide d).ports[i.val]).minimal = (d.ports[i.val]).minimal :=
  ((Port.still_minimal _).symm.trans (congrArg Port.minimal (divide_still ..))).trans (Port.still_minimal _)
@[simp] theorem divide_rev (i : Fin 32) (d : Dev) : ((divide d).ports[i.val]).rev = (d.ports[i.val]).rev :=
  ((Port.still_rev _).symm.trans (congrArg Port.rev (divide_still ..))).trans (Port.still_rev _)
@[simp] theorem divide_kind (i : Fin 32) (d : Dev) : ((divide d).ports[i.val]).kind = (d.ports[i.val]).kind :=
  ((Port.still_kind _).symm.trans (congrArg Port.kind (divide_still ..))).trans (Port.still_kind _)
@[simp] theorem divide_position (i : Fin 32) (d : Dev) : ((divide d).ports[i.val]).position = (d.ports[i.val]).position :=
  ((Port.still_position _).symm.trans (congrArg Port.position (divide_still ..))).trans (Port.still_position _)
@[simp] theorem divide_mismatch (i : Fin 32) (d : Dev) : ((divide d).ports[i.val]).mismatch = (d.ports[i.val]).mismatch :=
  ((Port.still_mismatch _).symm.trans (congrArg Port.mismatch (divide_still ..))).trans (Port.still_mismatch _)
@[simp] theorem divide_swap (i : Fin 32) (d : Dev) : ((divide d).ports[i.val]).swap = (d.ports[i.val]).swap :=
  ((Port.still_swap _).symm.trans (congrArg Port.swap (divide_still ..))).trans (Port.still_swap _)
@[simp] theorem divide_transition (i : Fin 32) (d : Dev) : ((divide d).ports[i.val]).transition = (d.ports[i.val]).transition :=
  ((Port.still_transition _).symm.trans (congrArg Port.transition (divide_still ..))).trans (Port.still_transition _)
@[simp] theorem divide_volt (i : Fin 32) (d : Dev) : ((divide d).ports[i.val]).volt = (d.ports[i.val]).volt :=
  ((Port.still_volt _).symm.trans (congrArg Port.volt (divide_still ..))).trans (Port.still_volt _)
@[simp] theorem divide_curr (i : Fin 32) (d : Dev) : ((divide d).ports[i.val]).curr = (d.ports[i.val]).curr :=
  ((Port.still_curr _).symm.trans (congrArg Port.curr (divide_still ..))).trans (Port.still_curr _)
@[simp] theorem divide_rdo (i : Fin 32) (d : Dev) : ((divide d).ports[i.val]).rdo = (d.ports[i.val]).rdo :=
  ((Port.still_rdo _).symm.trans (congrArg Port.rdo (divide_still ..))).trans (Port.still_rdo _)
@[simp] theorem divide_fence (i : Fin 32) (d : Dev) : ((divide d).ports[i.val]).fence = (d.ports[i.val]).fence :=
  ((Port.still_fence _).symm.trans (congrArg Port.fence (divide_still ..))).trans (Port.still_fence _)
@[simp] theorem divide_fencePend (i : Fin 32) (d : Dev) : ((divide d).ports[i.val]).fencePend = (d.ports[i.val]).fencePend :=
  ((Port.still_fencePend _).symm.trans (congrArg Port.fencePend (divide_still ..))).trans (Port.still_fencePend _)
@[simp] theorem divide_fenceReg (i : Fin 32) (d : Dev) : ((divide d).ports[i.val]).fenceReg = (d.ports[i.val]).fenceReg :=
  ((Port.still_fenceReg _).symm.trans (congrArg Port.fenceReg (divide_still ..))).trans (Port.still_fenceReg _)
@[simp] theorem divide_capWatts (i : Fin 32) (d : Dev) : ((divide d).ports[i.val]).capWatts = (d.ports[i.val]).capWatts :=
  ((Port.still_capWatts _).symm.trans (congrArg Port.capWatts (divide_still ..))).trans (Port.still_capWatts _)
@[simp] theorem divide_capMa (i : Fin 32) (d : Dev) : ((divide d).ports[i.val]).capMa = (d.ports[i.val]).capMa :=
  ((Port.still_capMa _).symm.trans (congrArg Port.capMa (divide_still ..))).trans (Port.still_capMa _)
@[simp] theorem divide_cableFinding (i : Fin 32) (d : Dev) : ((divide d).ports[i.val]).cableFinding = (d.ports[i.val]).cableFinding :=
  ((Port.still_cableFinding _).symm.trans (congrArg Port.cableFinding (divide_still ..))).trans (Port.still_cableFinding _)
@[simp] theorem divide_cableEpr (i : Fin 32) (d : Dev) : ((divide d).ports[i.val]).cableEpr = (d.ports[i.val]).cableEpr :=
  ((Port.still_cableEpr _).symm.trans (congrArg Port.cableEpr (divide_still ..))).trans (Port.still_cableEpr _)
@[simp] theorem divide_cableActive (i : Fin 32) (d : Dev) : ((divide d).ports[i.val]).cableActive = (d.ports[i.val]).cableActive :=
  ((Port.still_cableActive _).symm.trans (congrArg Port.cableActive (divide_still ..))).trans (Port.still_cableActive _)
@[simp] theorem divide_vconnOc (i : Fin 32) (d : Dev) : ((divide d).ports[i.val]).vconnOc = (d.ports[i.val]).vconnOc :=
  ((Port.still_vconnOc _).symm.trans (congrArg Port.vconnOc (divide_still ..))).trans (Port.still_vconnOc _)
@[simp] theorem divide_cableDone (i : Fin 32) (d : Dev) : ((divide d).ports[i.val]).cableDone = (d.ports[i.val]).cableDone :=
  ((Port.still_cableDone _).symm.trans (congrArg Port.cableDone (divide_still ..))).trans (Port.still_cableDone _)
@[simp] theorem divide_cableV (i : Fin 32) (d : Dev) : ((divide d).ports[i.val]).cableV = (d.ports[i.val]).cableV :=
  ((Port.still_cableV _).symm.trans (congrArg Port.cableV (divide_still ..))).trans (Port.still_cableV _)
@[simp] theorem divide_cableI (i : Fin 32) (d : Dev) : ((divide d).ports[i.val]).cableI = (d.ports[i.val]).cableI :=
  ((Port.still_cableI _).symm.trans (congrArg Port.cableI (divide_still ..))).trans (Port.still_cableI _)
@[simp] theorem divide_cableVid (i : Fin 32) (d : Dev) : ((divide d).ports[i.val]).cableVid = (d.ports[i.val]).cableVid :=
  ((Port.still_cableVid _).symm.trans (congrArg Port.cableVid (divide_still ..))).trans (Port.still_cableVid _)
@[simp] theorem divide_cablePid (i : Fin 32) (d : Dev) : ((divide d).ports[i.val]).cablePid = (d.ports[i.val]).cablePid :=
  ((Port.still_cablePid _).symm.trans (congrArg Port.cablePid (divide_still ..))).trans (Port.still_cablePid _)

/-! Hands: nothing but a target moves one, and a division takes no hand back at once (04 R154). -/

@[simp] theorem present_hand (i p : Fin 32) (rp : RpLevel) (rd : Bool) (d : Dev) : ((present p rp rd d).ports[i.val]).hand = (d.ports[i.val]).hand := by
  unfold present
  dsimp only
  split
  · rfl
  · simp [upd_get]; split <;> simp

@[simp] theorem presentTx_hand (i p : Fin 32) (d : Dev) : ((presentTx p d).ports[i.val]).hand = (d.ports[i.val]).hand := by
  unfold presentTx presentRp
  repeat' split
  all_goals simp

@[simp] theorem sendCapsNow_hand (i p : Fin 32) (d : Dev) : ((sendCapsNow p d).ports[i.val]).hand = (d.ports[i.val]).hand := by
  unfold sendCapsNow
  dsimp only
  split
  · simp
  · simp only [pdSend_frame, portEvent_frame, onPort_ports, onPd_ports, upd_get, ite_ports, leaveEpr_ports, stopTimer_ports]
    repeat' split
    all_goals simp [upd_get]
    all_goals (try split) <;> simp_all

@[simp] theorem offerCaps_hand (i p : Fin 32) (d : Dev) : ((offerCaps p d).ports[i.val]).hand = (d.ports[i.val]).hand := by
  unfold offerCaps
  dsimp only
  repeat' split
  all_goals simp

@[simp] theorem handFollow_hand (i p : Fin 32) (old : Port) (l : List CutOffer) (asked : Bool) (d : Dev) : ((handFollow old l p asked d).ports[i.val]).hand = (d.ports[i.val]).hand := by
  unfold handFollow
  dsimp only
  repeat' split
  all_goals simp

theorem takeTarget_hand (i p : Fin 32) (t : Nat) (asked : Bool) (d : Dev) : (d.ports[i.val]).hand ≤ ((takeTarget p t asked d).ports[i.val]).hand := by
  unfold takeTarget
  dsimp only
  rw [handFollow_hand]
  split
  · simp only [stopTimer_ports, onPort_ports, onPd_ports, upd_get]
    split
    · exact Nat.le_max_left _ _
    · exact Nat.le_refl _
  · unfold onlyIf
    split <;> simp [upd_get] <;> split <;> simp

theorem divide_hand (i : Fin 32) (d : Dev) : (d.ports[i.val]).hand ≤ ((divide d).ports[i.val]).hand := by
  unfold divide
  split
  · exact Nat.le_refl _
  · refine forEach_keeps (P := fun x => (d.ports[i.val]).hand ≤ (x.ports[i.val]).hand) (fun y x h => ?_) (Nat.le_refl _)
    exact Nat.le_trans h (takeTarget_hand i y.1 y.2 false x)

theorem Port.of_still {a b : Port} (h : b.still = a.still) : b = { a with
    hand := b.hand, pend := b.pend, rp := b.rp, rd := b.rd, ccCut := b.ccCut, capsSent := b.capsSent, eprMode := b.eprMode, ppsLimited := b.ppsLimited } := by
  cases a
  cases b
  simp_all [Port.still]

theorem Guard.of_gate {a b : Guard} (h : b.gate = a.gate) : b = { a with discharge := b.discharge } := by
  cases a
  cases b
  simp_all [Guard.gate]

end Sys2Proof.Machine
end

