-- ==== Sys2Proof/Laws/Others.lean ====
section
/-! SUPPORT. A shared operation on a port leaves the registers, protocol engine, guard and loop of every other port as they were. -/

set_option linter.unusedSimpArgs false

namespace Sys2Proof.Machine

@[simp] theorem onlyIf_ports_at (c : Bool) (f : Dev → Dev) (d : Dev) (q : Fin 32) (h : (f d).ports[q.val] = d.ports[q.val]) : (onlyIf c f d).ports[q.val] = d.ports[q.val] := by
  cases c
  · rfl
  · exact h
@[simp] theorem onlyIf_pd_at (c : Bool) (f : Dev → Dev) (d : Dev) (q : Fin 32) (h : (f d).pd[q.val] = d.pd[q.val]) : (onlyIf c f d).pd[q.val] = d.pd[q.val] := by
  cases c
  · rfl
  · exact h
@[simp] theorem onlyIf_guards_at (c : Bool) (f : Dev → Dev) (d : Dev) (q : Fin 32) (h : (f d).guards[q.val] = d.guards[q.val]) : (onlyIf c f d).guards[q.val] = d.guards[q.val] := by
  cases c
  · rfl
  · exact h
@[simp] theorem onlyIf_loops_at (c : Bool) (f : Dev → Dev) (d : Dev) (q : Fin 32) (h : (f d).loops[q.val] = d.loops[q.val]) : (onlyIf c f d).loops[q.val] = d.loops[q.val] := by
  cases c
  · rfl
  · exact h

@[simp] theorem toDie_ports_at (p : Fin 32) (k : EdgeCmd) (f : Dev → Dev) (d : Dev) (q : Fin 32) (h : (f d).ports[q.val] = d.ports[q.val]) : (toDie p k f d).ports[q.val] = d.ports[q.val] := by
  unfold toDie
  split
  · rfl
  · exact h
@[simp] theorem fromDie_ports_at (l : Fin 5) (i : Instr) (f : Dev → Dev) (d : Dev) (q : Fin 32) (h : (f d).ports[q.val] = d.ports[q.val]) : (fromDie l i f d).ports[q.val] = d.ports[q.val] := by
  unfold fromDie
  split
  · simp
  · exact h
@[simp] theorem toDie_pd_at (p : Fin 32) (k : EdgeCmd) (f : Dev → Dev) (d : Dev) (q : Fin 32) (h : (f d).pd[q.val] = d.pd[q.val]) : (toDie p k f d).pd[q.val] = d.pd[q.val] := by
  unfold toDie
  split
  · rfl
  · exact h
@[simp] theorem fromDie_pd_at (l : Fin 5) (i : Instr) (f : Dev → Dev) (d : Dev) (q : Fin 32) (h : (f d).pd[q.val] = d.pd[q.val]) : (fromDie l i f d).pd[q.val] = d.pd[q.val] := by
  unfold fromDie
  split
  · simp
  · exact h
@[simp] theorem toDie_guards_at (p : Fin 32) (k : EdgeCmd) (f : Dev → Dev) (d : Dev) (q : Fin 32) (h : (f d).guards[q.val] = d.guards[q.val]) : (toDie p k f d).guards[q.val] = d.guards[q.val] := by
  unfold toDie
  split
  · rfl
  · exact h
@[simp] theorem fromDie_guards_at (l : Fin 5) (i : Instr) (f : Dev → Dev) (d : Dev) (q : Fin 32) (h : (f d).guards[q.val] = d.guards[q.val]) : (fromDie l i f d).guards[q.val] = d.guards[q.val] := by
  unfold fromDie
  split
  · simp
  · exact h
@[simp] theorem toDie_loops_at (p : Fin 32) (k : EdgeCmd) (f : Dev → Dev) (d : Dev) (q : Fin 32) (h : (f d).loops[q.val] = d.loops[q.val]) : (toDie p k f d).loops[q.val] = d.loops[q.val] := by
  unfold toDie
  split
  · rfl
  · exact h
@[simp] theorem fromDie_loops_at (l : Fin 5) (i : Instr) (f : Dev → Dev) (d : Dev) (q : Fin 32) (h : (f d).loops[q.val] = d.loops[q.val]) : (fromDie l i f d).loops[q.val] = d.loops[q.val] := by
  unfold fromDie
  split
  · simp
  · exact h

@[simp] theorem portEvent_other {q : Fin 32} (p : Fin 32) (i : Nat) (d : Dev) (h : q ≠ p) : (portEvent p i d).pd[q.val] = d.pd[q.val] := by
  unfold portEvent
  try dsimp only
  repeat' split
  all_goals first | rfl | simp [upd_other, h]
@[simp] theorem guardEvent_other {q : Fin 32} (p : Fin 32) (i : Nat) (d : Dev) (h : q ≠ p) : (guardEvent p i d).guards[q.val] = d.guards[q.val] := by
  unfold guardEvent
  try dsimp only
  repeat' split
  all_goals first | rfl | simp [upd_other, h]
@[simp] theorem present_other {q : Fin 32} (p : Fin 32) (rp : RpLevel) (rd : Bool) (d : Dev) (h : q ≠ p) : (present p rp rd d).ports[q.val] = d.ports[q.val] ∧ (present p rp rd d).guards[q.val] = d.guards[q.val] := by
  unfold present
  try dsimp only
  repeat' split
  all_goals first | rfl | simp [upd_other, h]
@[simp] theorem presentRp_other {q : Fin 32} (p : Fin 32) (d : Dev) (h : q ≠ p) : (presentRp p d).ports[q.val] = d.ports[q.val] ∧ (presentRp p d).guards[q.val] = d.guards[q.val] := by
  unfold presentRp
  try dsimp only
  repeat' split
  all_goals first | rfl | simp [upd_other, h]
@[simp] theorem presentRd_other {q : Fin 32} (p : Fin 32) (d : Dev) (h : q ≠ p) : (presentRd p d).ports[q.val] = d.ports[q.val] ∧ (presentRd p d).guards[q.val] = d.guards[q.val] := by
  unfold presentRd
  try dsimp only
  repeat' split
  all_goals first | rfl | simp [upd_other, h]
@[simp] theorem presentOpen_other {q : Fin 32} (p : Fin 32) (d : Dev) (h : q ≠ p) : (presentOpen p d).ports[q.val] = d.ports[q.val] ∧ (presentOpen p d).guards[q.val] = d.guards[q.val] := by
  unfold presentOpen
  try dsimp only
  repeat' split
  all_goals first | rfl | simp [upd_other, h]
@[simp] theorem vconnOff_other {q : Fin 32} (p : Fin 32) (d : Dev) (h : q ≠ p) : (vconnOff p d).ports[q.val] = d.ports[q.val] := by
  unfold vconnOff
  try dsimp only
  repeat' split
  all_goals first | rfl | simp [upd_other, h]
@[simp] theorem vconnEnd_other {q : Fin 32} (p : Fin 32) (d : Dev) (h : q ≠ p) : (vconnEnd p d).ports[q.val] = d.ports[q.val] := by
  unfold vconnEnd
  try dsimp only
  unfold onlyIf
  repeat' split
  all_goals first | rfl | simp [upd_other, h]
@[simp] theorem vconnOnPin_other {q : Fin 32} (p : Fin 32) (d : Dev) (h : q ≠ p) : (vconnOnPin p d).ports[q.val] = d.ports[q.val] := by
  unfold vconnOnPin
  try dsimp only
  repeat' split
  all_goals first | rfl | simp [upd_other, h]
@[simp] theorem startRamp_other {q : Fin 32} (p : Fin 32) (code slew : Nat) (why : RampFor) (d : Dev) (h : q ≠ p) : (startRamp p code slew why d).loops[q.val] = d.loops[q.val] := by
  unfold startRamp
  try dsimp only
  repeat' split
  all_goals first | rfl | simp [upd_other, h]
@[simp] theorem stopRamp_other {q : Fin 32} (p : Fin 32) (d : Dev) (h : q ≠ p) : (stopRamp p d).loops[q.val] = d.loops[q.val] := by
  unfold stopRamp
  try dsimp only
  repeat' split
  all_goals first | rfl | simp [upd_other, h]
@[simp] theorem phasesMid_other {q : Fin 32} (p : Fin 32) (d : Dev) (h : q ≠ p) : (phasesMid p d).pd[q.val] = d.pd[q.val] ∧ (phasesMid p d).loops[q.val] = d.loops[q.val] := by
  unfold phasesMid
  try dsimp only
  repeat' split
  all_goals first | rfl | simp [upd_other, h]
@[simp] theorem softStart_other {q : Fin 32} (p : Fin 32) (slew : Nat) (d : Dev) (h : q ≠ p) : (softStart p slew d).pd[q.val] = d.pd[q.val] ∧ (softStart p slew d).loops[q.val] = d.loops[q.val] := by
  unfold softStart
  try dsimp only
  repeat' split
  all_goals first | rfl | simp [upd_other, h]
@[simp] theorem startPort_other {q : Fin 32} (p : Fin 32) (d : Dev) (h : q ≠ p) : (startPort p d).pd[q.val] = d.pd[q.val] ∧ (startPort p d).loops[q.val] = d.loops[q.val] := by
  unfold startPort
  try dsimp only
  repeat' split
  all_goals first | rfl | simp [upd_other, h]
@[simp] theorem offRamp_other {q : Fin 32} (p : Fin 32) (d : Dev) (h : q ≠ p) : (offRamp p d).loops[q.val] = d.loops[q.val] := by
  unfold offRamp
  try dsimp only
  repeat' split
  all_goals first | rfl | simp [upd_other, h]
@[simp] theorem setFence_other {q : Fin 32} (p : Fin 32) (mv : Nat) (d : Dev) (h : q ≠ p) : (setFence p mv d).ports[q.val] = d.ports[q.val] := by
  unfold setFence
  try dsimp only
  repeat' split
  all_goals first | rfl | simp [upd_other, h]
@[simp] theorem resetFence_other {q : Fin 32} (p : Fin 32) (mv : Nat) (d : Dev) (h : q ≠ p) : (resetFence p mv d).ports[q.val] = d.ports[q.val] := by
  unfold resetFence
  try dsimp only
  repeat' split
  all_goals first | rfl | simp [upd_other, h]
@[simp] theorem restartFence_other {q : Fin 32} (p : Fin 32) (mv : Nat) (d : Dev) (h : q ≠ p) : (restartFence p mv d).ports[q.val] = d.ports[q.val] := by
  unfold restartFence
  try dsimp only
  repeat' split
  all_goals first | rfl | simp [upd_other, h]
@[simp] theorem clearFence_other {q : Fin 32} (p : Fin 32) (d : Dev) (h : q ≠ p) : (clearFence p d).ports[q.val] = d.ports[q.val] := by
  unfold clearFence
  try dsimp only
  repeat' split
  all_goals first | rfl | simp [upd_other, h]
@[simp] theorem discharge_other {q : Fin 32} (p : Fin 32) (b : Bool) (d : Dev) (h : q ≠ p) : (discharge p b d).guards[q.val] = d.guards[q.val] := by
  unfold discharge
  try dsimp only
  repeat' split
  all_goals first | rfl | simp [upd_other, h]
@[simp] theorem openGuard_other {q : Fin 32} (p : Fin 32) (why : Nat) (d : Dev) (h : q ≠ p) : (openGuard p why d).guards[q.val] = d.guards[q.val] := by
  unfold openGuard
  try dsimp only
  repeat' split
  all_goals first | rfl | simp [upd_other, h]
@[simp] theorem latchGuard_other {q : Fin 32} (p : Fin 32) (latchWhy openWhy : Nat) (d : Dev) (h : q ≠ p) : (latchGuard p latchWhy openWhy d).pd[q.val] = d.pd[q.val] ∧ (latchGuard p latchWhy openWhy d).guards[q.val] = d.guards[q.val] ∧ (latchGuard p latchWhy openWhy d).loops[q.val] = d.loops[q.val] := by
  unfold latchGuard
  try dsimp only
  repeat' split
  all_goals first | rfl | simp [upd_other, h]
@[simp] theorem clearGuard_other {q : Fin 32} (p : Fin 32) (d : Dev) (h : q ≠ p) : (clearGuard p d).guards[q.val] = d.guards[q.val] := by
  unfold clearGuard
  try dsimp only
  repeat' split
  all_goals first | rfl | simp [upd_other, h]
@[simp] theorem stopPort_other {q : Fin 32} (p : Fin 32) (why : Nat) (d : Dev) (h : q ≠ p) : (stopPort p why d).pd[q.val] = d.pd[q.val] ∧ (stopPort p why d).guards[q.val] = d.guards[q.val] ∧ (stopPort p why d).loops[q.val] = d.loops[q.val] := by
  unfold stopPort
  try dsimp only
  repeat' split
  all_goals first | rfl | simp [upd_other, h]
@[simp] theorem stopByHub_other {q : Fin 32} (p : Fin 32) (why : Nat) (d : Dev) (h : q ≠ p) : (stopByHub p why d).pd[q.val] = d.pd[q.val] ∧ (stopByHub p why d).guards[q.val] = d.guards[q.val] ∧ (stopByHub p why d).loops[q.val] = d.loops[q.val] := by
  unfold stopByHub
  try dsimp only
  repeat' split
  all_goals first | rfl | simp [upd_other, h]
@[simp] theorem pdAbandon_other {q : Fin 32} (p : Fin 32) (d : Dev) (h : q ≠ p) : (pdAbandon p d).ports[q.val] = d.ports[q.val] ∧ (pdAbandon p d).pd[q.val] = d.pd[q.val] := by
  unfold pdAbandon
  try dsimp only
  repeat' split
  all_goals first | rfl | simp [upd_other, h]
@[simp] theorem leaveEpr_other {q : Fin 32} (p : Fin 32) (d : Dev) (h : q ≠ p) : (leaveEpr p d).ports[q.val] = d.ports[q.val] ∧ (leaveEpr p d).pd[q.val] = d.pd[q.val] := by
  unfold leaveEpr
  try dsimp only
  repeat' split
  all_goals first | rfl | simp [upd_other, h]
@[simp] theorem clearContract_other {q : Fin 32} (p : Fin 32) (d : Dev) (h : q ≠ p) : (clearContract p d).ports[q.val] = d.ports[q.val] ∧ (clearContract p d).pd[q.val] = d.pd[q.val] ∧ (clearContract p d).loops[q.val] = d.loops[q.val] := by
  unfold clearContract
  try dsimp only
  repeat' split
  all_goals first | rfl | simp [upd_other, h]
@[simp] theorem endContract_other {q : Fin 32} (p : Fin 32) (d : Dev) (h : q ≠ p) : (endContract p d).ports[q.val] = d.ports[q.val] ∧ (endContract p d).pd[q.val] = d.pd[q.val] ∧ (endContract p d).loops[q.val] = d.loops[q.val] := by
  unfold endContract
  try dsimp only
  repeat' split
  all_goals first | rfl | simp [upd_other, h]
@[simp] theorem updateCap_other {q : Fin 32} (p : Fin 32) (d : Dev) (h : q ≠ p) : (updateCap p d).ports[q.val] = d.ports[q.val] ∧ (updateCap p d).pd[q.val] = d.pd[q.val] := by
  unfold updateCap
  try dsimp only
  repeat' split
  all_goals first | rfl | simp [upd_other, h]
@[simp] theorem setTc_other {q : Fin 32} (p : Fin 32) (t : TcState) (d : Dev) (h : q ≠ p) : (setTc p t d).ports[q.val] = d.ports[q.val] := by
  unfold setTc
  try dsimp only
  repeat' split
  all_goals first | rfl | simp [upd_other, h]
@[simp] theorem pdSend_other {q : Fin 32} (p : Fin 32) (sop : Fin 3) (kind : PdKind) (data : List Word) (d : Dev) (h : q ≠ p) : (pdSend p sop kind data d).pd[q.val] = d.pd[q.val] := by
  unfold pdSend
  try dsimp only
  repeat' split
  all_goals first | rfl | simp [upd_other, h]
@[simp] theorem notSupported_other {q : Fin 32} (p : Fin 32) (control : Bool) (d : Dev) (h : q ≠ p) : (notSupported p control d).pd[q.val] = d.pd[q.val] := by
  unfold notSupported
  try dsimp only
  repeat' split
  all_goals first | rfl | simp [upd_other, h]
@[simp] theorem presentTx_other {q : Fin 32} (p : Fin 32) (d : Dev) (h : q ≠ p) : (presentTx p d).ports[q.val] = d.ports[q.val] ∧ (presentTx p d).guards[q.val] = d.guards[q.val] := by
  unfold presentTx
  try dsimp only
  repeat' split
  all_goals first | rfl | simp [upd_other, h]
@[simp] theorem sendCapsNow_other {q : Fin 32} (p : Fin 32) (d : Dev) (h : q ≠ p) : (sendCapsNow p d).ports[q.val] = d.ports[q.val] ∧ (sendCapsNow p d).pd[q.val] = d.pd[q.val] := by
  unfold sendCapsNow
  try dsimp only
  repeat' split
  all_goals first | rfl | simp [upd_other, h]
@[simp] theorem offerCaps_other {q : Fin 32} (p : Fin 32) (d : Dev) (h : q ≠ p) : (offerCaps p d).ports[q.val] = d.ports[q.val] ∧ (offerCaps p d).pd[q.val] = d.pd[q.val] ∧ (offerCaps p d).guards[q.val] = d.guards[q.val] := by
  unfold offerCaps
  try dsimp only
  repeat' split
  all_goals first | rfl | simp [upd_other, h]
@[simp] theorem amsEnd_other {q : Fin 32} (p : Fin 32) (d : Dev) (h : q ≠ p) : (amsEnd p d).ports[q.val] = d.ports[q.val] ∧ (amsEnd p d).pd[q.val] = d.pd[q.val] ∧ (amsEnd p d).guards[q.val] = d.guards[q.val] := by
  unfold amsEnd
  try dsimp only
  repeat' split
  all_goals first | rfl | simp [upd_other, h]
@[simp] theorem offerIdle_other {q : Fin 32} (p : Fin 32) (d : Dev) (h : q ≠ p) : (offerIdle p d).ports[q.val] = d.ports[q.val] ∧ (offerIdle p d).pd[q.val] = d.pd[q.val] ∧ (offerIdle p d).guards[q.val] = d.guards[q.val] := by
  unfold offerIdle
  try dsimp only
  repeat' split
  all_goals first | rfl | simp [upd_other, h]
@[simp] theorem firstOffer_other {q : Fin 32} (p : Fin 32) (d : Dev) (h : q ≠ p) : (firstOffer p d).ports[q.val] = d.ports[q.val] ∧ (firstOffer p d).pd[q.val] = d.pd[q.val] := by
  unfold firstOffer
  try dsimp only
  repeat' split
  all_goals first | rfl | simp [upd_other, h]
@[simp] theorem handFollow_other {q : Fin 32} (old : Port) (oldOffers : List CutOffer) (p : Fin 32) (asked : Bool) (d : Dev) (h : q ≠ p) : (handFollow old oldOffers p asked d).ports[q.val] = d.ports[q.val] ∧ (handFollow old oldOffers p asked d).pd[q.val] = d.pd[q.val] ∧ (handFollow old oldOffers p asked d).guards[q.val] = d.guards[q.val] := by
  unfold handFollow
  try dsimp only
  repeat' split
  all_goals first | rfl | simp [upd_other, h]
@[simp] theorem takeTarget_other {q : Fin 32} (p : Fin 32) (t : Nat) (asked : Bool) (d : Dev) (h : q ≠ p) : (takeTarget p t asked d).ports[q.val] = d.ports[q.val] ∧ (takeTarget p t asked d).pd[q.val] = d.pd[q.val] ∧ (takeTarget p t asked d).guards[q.val] = d.guards[q.val] := by
  unfold takeTarget
  try dsimp only
  repeat' split
  all_goals first | rfl | simp [upd_other, h]
@[simp] theorem firstHand_other {q : Fin 32} (p : Fin 32) (d : Dev) (h : q ≠ p) : (firstHand p d).ports[q.val] = d.ports[q.val] ∧ (firstHand p d).pd[q.val] = d.pd[q.val] := by
  unfold firstHand
  try dsimp only
  repeat' split
  all_goals first | rfl | simp [upd_other, h]
@[simp] theorem doRearm_other {q : Fin 32} (p : Fin 32) (d : Dev) (h : q ≠ p) : (doRearm p d).guards[q.val] = d.guards[q.val] := by
  unfold doRearm
  try dsimp only
  repeat' split
  all_goals first | rfl | simp [upd_other, h]
@[simp] theorem tryRearm_other {q : Fin 32} (p : Fin 32) (d : Dev) (h : q ≠ p) : (tryRearm p d).guards[q.val] = d.guards[q.val] := by
  unfold tryRearm
  try dsimp only
  repeat' split
  all_goals first | rfl | simp [upd_other, h]
@[simp] theorem debounce_other {q : Fin 32} (p : Fin 32) (ev : Instr) (pins : Nat) (due : Nat) (d : Dev) (h : q ≠ p) : (debounce p ev pins due d).pd[q.val] = d.pd[q.val] := by
  unfold debounce
  try dsimp only
  repeat' split
  all_goals first | rfl | simp [upd_other, h]
@[simp] theorem ccEval_other {q : Fin 32} (p : Fin 32) (stamp : Nat) (d : Dev) (h : q ≠ p) : (ccEval p stamp d).ports[q.val] = d.ports[q.val] ∧ (ccEval p stamp d).pd[q.val] = d.pd[q.val] ∧ (ccEval p stamp d).guards[q.val] = d.guards[q.val] := by
  unfold ccEval
  try dsimp only
  repeat' split
  all_goals first | rfl | simp [upd_other, h]
@[simp] theorem ccSee_other {q : Fin 32} (p : Fin 32) (d : Dev) (h : q ≠ p) : (ccSee p d).ports[q.val] = d.ports[q.val] ∧ (ccSee p d).pd[q.val] = d.pd[q.val] ∧ (ccSee p d).guards[q.val] = d.guards[q.val] := by
  unfold ccSee
  try dsimp only
  repeat' split
  all_goals first | rfl | simp [upd_other, h]
@[simp] theorem toUnattached_other {q : Fin 32} (p : Fin 32) (d : Dev) (h : q ≠ p) : (toUnattached p d).ports[q.val] = d.ports[q.val] ∧ (toUnattached p d).pd[q.val] = d.pd[q.val] ∧ (toUnattached p d).guards[q.val] = d.guards[q.val] := by
  unfold toUnattached
  try dsimp only
  repeat' split
  all_goals first | rfl | simp [upd_other, h]
@[simp] theorem startDisable_other {q : Fin 32} (p : Fin 32) (d : Dev) (h : q ≠ p) : (startDisable p d).ports[q.val] = d.ports[q.val] ∧ (startDisable p d).pd[q.val] = d.pd[q.val] ∧ (startDisable p d).guards[q.val] = d.guards[q.val] ∧ (startDisable p d).loops[q.val] = d.loops[q.val] := by
  unfold startDisable
  try dsimp only
  repeat' split
  all_goals first | rfl | simp [upd_other, h]
@[simp] theorem startHiccup_other {q : Fin 32} (p : Fin 32) (why : Nat) (d : Dev) (h : q ≠ p) : (startHiccup p why d).ports[q.val] = d.ports[q.val] ∧ (startHiccup p why d).pd[q.val] = d.pd[q.val] ∧ (startHiccup p why d).guards[q.val] = d.guards[q.val] ∧ (startHiccup p why d).loops[q.val] = d.loops[q.val] := by
  unfold startHiccup
  try dsimp only
  repeat' split
  all_goals first | rfl | simp [upd_other, h]
@[simp] theorem noCable_other {q : Fin 32} (p : Fin 32) (d : Dev) (h : q ≠ p) : (noCable p d).ports[q.val] = d.ports[q.val] := by
  unfold noCable
  try dsimp only
  repeat' split
  all_goals first | rfl | simp [upd_other, h]
@[simp] theorem attachSink_other {q : Fin 32} (p : Fin 32) (d : Dev) (h : q ≠ p) : (attachSink p d).ports[q.val] = d.ports[q.val] ∧ (attachSink p d).pd[q.val] = d.pd[q.val] ∧ (attachSink p d).guards[q.val] = d.guards[q.val] := by
  unfold attachSink
  try dsimp only
  repeat' split
  all_goals first | rfl | simp [upd_other, h]
@[simp] theorem attachDebugSink_other {q : Fin 32} (p : Fin 32) (d : Dev) (h : q ≠ p) : (attachDebugSink p d).ports[q.val] = d.ports[q.val] ∧ (attachDebugSink p d).pd[q.val] = d.pd[q.val] := by
  unfold attachDebugSink
  try dsimp only
  repeat' split
  all_goals first | rfl | simp [upd_other, h]
@[simp] theorem minimalAtFive_other {q : Fin 32} (p : Fin 32) (d : Dev) (h : q ≠ p) : (minimalAtFive p d).ports[q.val] = d.ports[q.val] := by
  unfold minimalAtFive
  try dsimp only
  repeat' split
  all_goals first | rfl | simp [upd_other, h]
@[simp] theorem portEnterMinimal_other {q : Fin 32} (p : Fin 32) (d : Dev) (h : q ≠ p) : (portEnterMinimal p d).ports[q.val] = d.ports[q.val] ∧ (portEnterMinimal p d).pd[q.val] = d.pd[q.val] ∧ (portEnterMinimal p d).guards[q.val] = d.guards[q.val] ∧ (portEnterMinimal p d).loops[q.val] = d.loops[q.val] := by
  unfold portEnterMinimal
  try dsimp only
  repeat' split
  all_goals first | rfl | simp [upd_other, h]
@[simp] theorem handBackAttached_other {q : Fin 32} (p : Fin 32) (d : Dev) (h : q ≠ p) : (handBackAttached p d).ports[q.val] = d.ports[q.val] ∧ (handBackAttached p d).pd[q.val] = d.pd[q.val] ∧ (handBackAttached p d).guards[q.val] = d.guards[q.val] := by
  unfold handBackAttached
  try dsimp only
  repeat' split
  all_goals first | rfl | simp [upd_other, h]
@[simp] theorem portExitMinimal_other {q : Fin 32} (p : Fin 32) (d : Dev) (h : q ≠ p) : (portExitMinimal p d).ports[q.val] = d.ports[q.val] ∧ (portExitMinimal p d).pd[q.val] = d.pd[q.val] ∧ (portExitMinimal p d).guards[q.val] = d.guards[q.val] ∧ (portExitMinimal p d).loops[q.val] = d.loops[q.val] := by
  unfold portExitMinimal
  try dsimp only
  repeat' split
  all_goals first | rfl | simp [upd_other, h]
@[simp] theorem hardReset_other {q : Fin 32} (p : Fin 32) (d : Dev) (h : q ≠ p) : (hardReset p d).ports[q.val] = d.ports[q.val] ∧ (hardReset p d).pd[q.val] = d.pd[q.val] ∧ (hardReset p d).guards[q.val] = d.guards[q.val] ∧ (hardReset p d).loops[q.val] = d.loops[q.val] := by
  unfold hardReset
  try dsimp only
  repeat' split
  all_goals first | rfl | simp [upd_other, h]
@[simp] theorem sendSoftReset_other {q : Fin 32} (p : Fin 32) (d : Dev) (h : q ≠ p) : (sendSoftReset p d).ports[q.val] = d.ports[q.val] ∧ (sendSoftReset p d).pd[q.val] = d.pd[q.val] := by
  unfold sendSoftReset
  try dsimp only
  repeat' split
  all_goals first | rfl | simp [upd_other, h]
@[simp] theorem heard_other {q : Fin 32} (p : Fin 32) (d : Dev) (h : q ≠ p) : (heard p d).pd[q.val] = d.pd[q.val] := by
  unfold heard
  try dsimp only
  repeat' split
  all_goals first | rfl | simp [upd_other, h]
@[simp] theorem takeMsg_other {q : Fin 32} (p : Fin 32) (k : PdKind) (d : Dev) (h : q ≠ p) : (takeMsg p k d).pd[q.val] = d.pd[q.val] := by
  unfold takeMsg
  try dsimp only
  repeat' split
  all_goals first | rfl | simp [upd_other, h]
@[simp] theorem rejectAsk_other {q : Fin 32} (p : Fin 32) (d : Dev) (h : q ≠ p) : (rejectAsk p d).ports[q.val] = d.ports[q.val] ∧ (rejectAsk p d).pd[q.val] = d.pd[q.val] ∧ (rejectAsk p d).guards[q.val] = d.guards[q.val] := by
  unfold rejectAsk
  try dsimp only
  repeat' split
  all_goals first | rfl | simp [upd_other, h]
@[simp] theorem acceptAsk_other {q : Fin 32} (p : Fin 32) (a : Ask) (rdo : Word) (d : Dev) (h : q ≠ p) : (acceptAsk p a rdo d).ports[q.val] = d.ports[q.val] ∧ (acceptAsk p a rdo d).pd[q.val] = d.pd[q.val] := by
  unfold acceptAsk
  try dsimp only
  repeat' split
  all_goals first | rfl | simp [upd_other, h]
@[simp] theorem evaluate_other {q : Fin 32} (p : Fin 32) (rdo : Word) (epr : Option Word) (d : Dev) (h : q ≠ p) : (evaluate p rdo epr d).ports[q.val] = d.ports[q.val] ∧ (evaluate p rdo epr d).pd[q.val] = d.pd[q.val] ∧ (evaluate p rdo epr d).guards[q.val] = d.guards[q.val] := by
  unfold evaluate
  try dsimp only
  repeat' split
  all_goals first | rfl | simp [upd_other, h]
@[simp] theorem establish_other {q : Fin 32} (p : Fin 32) (d : Dev) (h : q ≠ p) : (establish p d).ports[q.val] = d.ports[q.val] ∧ (establish p d).pd[q.val] = d.pd[q.val] := by
  unfold establish
  try dsimp only
  repeat' split
  all_goals first | rfl | simp [upd_other, h]
@[simp] theorem tryPsRdy_other {q : Fin 32} (p : Fin 32) (d : Dev) (h : q ≠ p) : (tryPsRdy p d).ports[q.val] = d.ports[q.val] ∧ (tryPsRdy p d).pd[q.val] = d.pd[q.val] := by
  unfold tryPsRdy
  try dsimp only
  repeat' split
  all_goals first | rfl | simp [upd_other, h]
@[simp] theorem moveReference_other {q : Fin 32} (p : Fin 32) (d : Dev) (h : q ≠ p) : (moveReference p d).ports[q.val] = d.ports[q.val] ∧ (moveReference p d).pd[q.val] = d.pd[q.val] ∧ (moveReference p d).loops[q.val] = d.loops[q.val] := by
  unfold moveReference
  try dsimp only
  repeat' split
  all_goals first | rfl | simp [upd_other, h]
@[simp] theorem discover_other {q : Fin 32} (p : Fin 32) (d : Dev) (h : q ≠ p) : (discover p d).pd[q.val] = d.pd[q.val] := by
  unfold discover
  try dsimp only
  repeat' split
  all_goals first | rfl | simp [upd_other, h]
@[simp] theorem discoverEnd_other {q : Fin 32} (p : Fin 32) (d : Dev) (h : q ≠ p) : (discoverEnd p d).ports[q.val] = d.ports[q.val] ∧ (discoverEnd p d).pd[q.val] = d.pd[q.val] ∧ (discoverEnd p d).guards[q.val] = d.guards[q.val] := by
  unfold discoverEnd
  try dsimp only
  repeat' split
  all_goals first | rfl | simp [upd_other, h]
@[simp] theorem swapSnkOn_other {q : Fin 32} (p : Fin 32) (d : Dev) (h : q ≠ p) : (swapSnkOn p d).ports[q.val] = d.ports[q.val] ∧ (swapSnkOn p d).pd[q.val] = d.pd[q.val] ∧ (swapSnkOn p d).guards[q.val] = d.guards[q.val] ∧ (swapSnkOn p d).loops[q.val] = d.loops[q.val] := by
  unfold swapSnkOn
  try dsimp only
  repeat' split
  all_goals first | rfl | simp [upd_other, h]
@[simp] theorem hrAtZero_other {q : Fin 32} (p : Fin 32) (d : Dev) (h : q ≠ p) : (hrAtZero p d).ports[q.val] = d.ports[q.val] ∧ (hrAtZero p d).pd[q.val] = d.pd[q.val] ∧ (hrAtZero p d).guards[q.val] = d.guards[q.val] ∧ (hrAtZero p d).loops[q.val] = d.loops[q.val] := by
  unfold hrAtZero
  try dsimp only
  repeat' split
  all_goals first | rfl | simp [upd_other, h]
@[simp] theorem toUnattachedSnk_other {q : Fin 32} (p : Fin 32) (d : Dev) (h : q ≠ p) : (toUnattachedSnk p d).ports[q.val] = d.ports[q.val] ∧ (toUnattachedSnk p d).pd[q.val] = d.pd[q.val] ∧ (toUnattachedSnk p d).guards[q.val] = d.guards[q.val] := by
  unfold toUnattachedSnk
  try dsimp only
  repeat' split
  all_goals first | rfl | simp [upd_other, h]
@[simp] theorem enterTrySrc_other {q : Fin 32} (p : Fin 32) (d : Dev) (h : q ≠ p) : (enterTrySrc p d).ports[q.val] = d.ports[q.val] ∧ (enterTrySrc p d).pd[q.val] = d.pd[q.val] ∧ (enterTrySrc p d).guards[q.val] = d.guards[q.val] := by
  unfold enterTrySrc
  try dsimp only
  repeat' split
  all_goals first | rfl | simp [upd_other, h]
@[simp] theorem minimalAttach_other {q : Fin 32} (p : Fin 32) (d : Dev) (h : q ≠ p) : (minimalAttach p d).ports[q.val] = d.ports[q.val] ∧ (minimalAttach p d).pd[q.val] = d.pd[q.val] ∧ (minimalAttach p d).loops[q.val] = d.loops[q.val] := by
  unfold minimalAttach
  try dsimp only
  repeat' split
  all_goals first | rfl | simp [upd_other, h]
@[simp] theorem pdPop_other {q : Fin 32} (p : Fin 32) (d : Dev) (h : q ≠ p) : (pdPop p d).pd[q.val] = d.pd[q.val] := by
  unfold pdPop
  try dsimp only
  repeat' split
  all_goals first | rfl | simp [upd_other, h]
@[simp] theorem serviceAnswer_other {q : Fin 32} (p : Fin 32) (cmd : Nat) (tag : Fin 128) (status : Nat) (payload : List Byte) (d : Dev) (h : q ≠ p) : (serviceAnswer p cmd tag status payload d).pd[q.val] = d.pd[q.val] := by
  unfold serviceAnswer
  try dsimp only
  repeat' split
  all_goals first | rfl | simp [upd_other, h]
@[simp] theorem takeMessage_other {q : Fin 32} (p : Fin 32) (msg : PdMsg) (d : Dev) (h : q ≠ p) : (takeMessage p msg d).ports[q.val] = d.ports[q.val] ∧ (takeMessage p msg d).pd[q.val] = d.pd[q.val] := by
  unfold takeMessage
  try dsimp only
  repeat' split
  all_goals first | rfl | simp [upd_other, h]
@[simp] theorem sendChunk_other {q : Fin 32} (p : Fin 32) (t : PdTx) (d : Dev) (h : q ≠ p) : (sendChunk p t d).pd[q.val] = d.pd[q.val] := by
  unfold sendChunk
  try dsimp only
  repeat' split
  all_goals first | rfl | simp [upd_other, h]
@[simp] theorem acceptSent_other {q : Fin 32} (p : Fin 32) (d : Dev) (h : q ≠ p) : (acceptSent p d).ports[q.val] = d.ports[q.val] ∧ (acceptSent p d).pd[q.val] = d.pd[q.val] ∧ (acceptSent p d).guards[q.val] = d.guards[q.val] := by
  unfold acceptSent
  try dsimp only
  repeat' split
  all_goals first | rfl | simp [upd_other, h]
@[simp] theorem psRdySent_other {q : Fin 32} (p : Fin 32) (d : Dev) (h : q ≠ p) : (psRdySent p d).ports[q.val] = d.ports[q.val] ∧ (psRdySent p d).pd[q.val] = d.pd[q.val] ∧ (psRdySent p d).guards[q.val] = d.guards[q.val] := by
  unfold psRdySent
  try dsimp only
  repeat' split
  all_goals first | rfl | simp [upd_other, h]
@[simp] theorem rejectMsg_other {q : Fin 32} (p : Fin 32) (d : Dev) (h : q ≠ p) : (rejectMsg p d).pd[q.val] = d.pd[q.val] := by
  unfold rejectMsg
  try dsimp only
  repeat' split
  all_goals first | rfl | simp [upd_other, h]
@[simp] theorem acceptSwap_other {q : Fin 32} (p : Fin 32) (a : Ams) (d : Dev) (h : q ≠ p) : (acceptSwap p a d).ports[q.val] = d.ports[q.val] ∧ (acceptSwap p a d).pd[q.val] = d.pd[q.val] := by
  unfold acceptSwap
  try dsimp only
  repeat' split
  all_goals first | rfl | simp [upd_other, h]
@[simp] theorem sinkContract_other {q : Fin 32} (p : Fin 32) (d : Dev) (h : q ≠ p) : (sinkContract p d).ports[q.val] = d.ports[q.val] ∧ (sinkContract p d).pd[q.val] = d.pd[q.val] := by
  unfold sinkContract
  try dsimp only
  repeat' split
  all_goals first | rfl | simp [upd_other, h]
@[simp] theorem onClosed_other {q : Fin 32} (p : Fin 32) (d : Dev) (h : q ≠ p) : (onClosed p d).ports[q.val] = d.ports[q.val] ∧ (onClosed p d).pd[q.val] = d.pd[q.val] := by
  unfold onClosed
  try dsimp only
  repeat' split
  all_goals first | rfl | simp [upd_other, h]
@[simp] theorem enablePort_other {q : Fin 32} (p : Fin 32) (d : Dev) (h : q ≠ p) : (enablePort p d).ports[q.val] = d.ports[q.val] ∧ (enablePort p d).pd[q.val] = d.pd[q.val] ∧ (enablePort p d).guards[q.val] = d.guards[q.val] ∧ (enablePort p d).loops[q.val] = d.loops[q.val] := by
  unfold enablePort
  try dsimp only
  repeat' split
  all_goals first | rfl | simp [upd_other, h]
@[simp] theorem cmdPortEnable_other {q : Fin 32} (c : CmdRef) (p : Fin 32) (d : Dev) (h : q ≠ p) : (cmdPortEnable c p d).ports[q.val] = d.ports[q.val] ∧ (cmdPortEnable c p d).pd[q.val] = d.pd[q.val] ∧ (cmdPortEnable c p d).guards[q.val] = d.guards[q.val] ∧ (cmdPortEnable c p d).loops[q.val] = d.loops[q.val] := by
  unfold cmdPortEnable
  try dsimp only
  repeat' split
  all_goals first | rfl | simp [upd_other, h]
@[simp] theorem cmdPortDisable_other {q : Fin 32} (c : CmdRef) (p : Fin 32) (d : Dev) (h : q ≠ p) : (cmdPortDisable c p d).ports[q.val] = d.ports[q.val] ∧ (cmdPortDisable c p d).pd[q.val] = d.pd[q.val] ∧ (cmdPortDisable c p d).guards[q.val] = d.guards[q.val] ∧ (cmdPortDisable c p d).loops[q.val] = d.loops[q.val] := by
  unfold cmdPortDisable
  try dsimp only
  repeat' split
  all_goals first | rfl | simp [upd_other, h]
@[simp] theorem holdPort_other {q : Fin 32} (p : Fin 32) (d : Dev) (h : q ≠ p) : (holdPort p d).ports[q.val] = d.ports[q.val] ∧ (holdPort p d).guards[q.val] = d.guards[q.val] := by
  unfold holdPort
  try dsimp only
  repeat' split
  all_goals first | rfl | simp [upd_other, h]
@[simp] theorem standbyPort_other {q : Fin 32} (p : Fin 32) (d : Dev) (h : q ≠ p) : (standbyPort p d).ports[q.val] = d.ports[q.val] ∧ (standbyPort p d).pd[q.val] = d.pd[q.val] ∧ (standbyPort p d).guards[q.val] = d.guards[q.val] ∧ (standbyPort p d).loops[q.val] = d.loops[q.val] := by
  unfold standbyPort
  try dsimp only
  repeat' split
  all_goals first | rfl | simp [upd_other, h]
@[simp] theorem trackFence_other {q : Fin 32} (p : Fin 32) (mv : Nat) (d : Dev) (h : q ≠ p) : (trackFence p mv d).ports[q.val] = d.ports[q.val] := by
  unfold trackFence
  try dsimp only
  repeat' split
  all_goals first | rfl | simp [upd_other, h]
@[simp] theorem resumePort_other {q : Fin 32} (p : Fin 32) (d : Dev) (h : q ≠ p) : (resumePort p d).pd[q.val] = d.pd[q.val] := by
  unfold resumePort
  try dsimp only
  repeat' split
  all_goals first | rfl | simp [upd_other, h]
@[simp] theorem releasePort_other {q : Fin 32} (p : Fin 32) (d : Dev) (h : q ≠ p) : (releasePort p d).ports[q.val] = d.ports[q.val] ∧ (releasePort p d).pd[q.val] = d.pd[q.val] := by
  unfold releasePort
  try dsimp only
  repeat' split
  all_goals first | rfl | simp [upd_other, h]
@[simp] theorem tripPortEnd_other {q : Fin 32} (p : Fin 32) (d : Dev) (h : q ≠ p) : (tripPortEnd p d).ports[q.val] = d.ports[q.val] ∧ (tripPortEnd p d).pd[q.val] = d.pd[q.val] ∧ (tripPortEnd p d).guards[q.val] = d.guards[q.val] := by
  unfold tripPortEnd
  try dsimp only
  repeat' split
  all_goals first | rfl | simp [upd_other, h]
@[simp] theorem dieFence_other {q : Fin 32} (p : Fin 32) (mv : Nat) (d : Dev) (h : q ≠ p) : (dieFence p mv d).ports[q.val] = d.ports[q.val] := by
  unfold dieFence
  try dsimp only
  repeat' split
  all_goals first | rfl | simp [upd_other, h]
@[simp] theorem dieReference_other {q : Fin 32} (p : Fin 32) (mv : Nat) (k : SlewKind) (d : Dev) (h : q ≠ p) : (dieReference p mv k d).loops[q.val] = d.loops[q.val] := by
  unfold dieReference
  try dsimp only
  repeat' split
  all_goals first | rfl | simp [upd_other, h]
@[simp] theorem edgeApply_other {q : Fin 32} (p : Fin 32) (k : EdgeCmd) (d : Dev) (h : q ≠ p) : (edgeApply p k d).ports[q.val] = d.ports[q.val] ∧ (edgeApply p k d).guards[q.val] = d.guards[q.val] ∧ (edgeApply p k d).loops[q.val] = d.loops[q.val] := by
  unfold edgeApply
  try dsimp only
  repeat' split
  all_goals first | rfl | simp [upd_other, h]
@[simp] theorem countCycle_other {q : Fin 32} (p : Fin 32) (lim : List (Fin 64)) (d : Dev) (h : q ≠ p) : (countCycle p lim d).loops[q.val] = d.loops[q.val] := by
  unfold countCycle
  try dsimp only
  repeat' split
  all_goals first | rfl | simp [upd_other, h]
@[simp] theorem portCycle_other {q : Fin 32} (p : Fin 32) (d : Dev) (h : q ≠ p) : (portCycle p d).loops[q.val] = d.loops[q.val] := by
  unfold portCycle
  try dsimp only
  repeat' split
  all_goals first | rfl | simp [upd_other, h]

end Sys2Proof.Machine
end

