-- ==== Sys2Proof/Laws/Prims.lean ====
section
/-! SUPPORT. What the shared operations of the edge dies do: a guard opens, a port stops, a reference ramps. -/

namespace Sys2Proof.Machine

/-- A guard that is opened neither ramps nor conducts (07 R295). -/
theorem openGuard_self (p : Fin 32) (why : Nat) (d : Dev) : guardOn ((openGuard p why d).guards[p.val]) = false := by
  unfold openGuard
  dsimp only
  split
  · split <;> simp [discharge, guardOn]
  · rename_i h
    simpa using h

/-- A stopped port does not switch, does not ramp, and its guard is open (05 R213). -/
theorem stopPort_self (p : Fin 32) (why : Nat) (d : Dev) : guardOn ((stopPort p why d).guards[p.val]) = false ∧
    ((stopPort p why d).loops[p.val]).switching = false ∧ ((stopPort p why d).loops[p.val]).ramping = false := by
  refine ⟨openGuard_self _ _ _, ?_, ?_⟩
  · simp [stopPort, phasesMid]
  · simp [stopPort, phasesMid, stopRamp]

@[simp] theorem present_rp (p : Fin 32) (rp : RpLevel) (rd : Bool) (d : Dev) : ((present p rp rd d).ports[p.val]).rp = rp := by
  unfold present
  dsimp only
  split
  · rename_i h; simp at h; exact h.1.1
  · simp

@[simp] theorem present_rd (p : Fin 32) (rp : RpLevel) (rd : Bool) (d : Dev) : ((present p rp rd d).ports[p.val]).rd = rd := by
  unfold present
  dsimp only
  split
  · rename_i h; simp at h; exact h.1.2
  · simp

/-! With the link of its die up, a command of the port core acts at once (01 R630). The links are those of the block d that a course began with. -/

theorem lostPort_of {a b : Dev} (p : Fin 32) (h : b.sys = a.sys) : lostPort b p = lostPort a p := by
  unfold lostPort portMinimal dieMinimal
  rw [h]

theorem toDie_up {p : Fin 32} {d x : Dev} (k : EdgeCmd) (f : Dev → Dev) (h : lostPort d p = false) (hs : x.sys = d.sys) : toDie p k f x = f x := by
  unfold toDie
  simp [(lostPort_of p hs).trans h]

theorem stopByHub_up {p : Fin 32} {d x : Dev} (why : Nat) (h : lostPort d p = false) (hs : x.sys = d.sys) : stopByHub p why x = stopPort p why x := by
  unfold stopByHub
  rw [toDie_up .guardOpen (stopPort p why) h hs, toDie_up (.reference 0 .off) id h (by simp [hs]), id]

theorem startPort_up {p : Fin 32} {d x : Dev} (h : lostPort d p = false) (hs : x.sys = d.sys) : startPort p x = softStart p (diePort x p).slewSs x :=
  toDie_up _ _ h hs

theorem restartFence_up {p : Fin 32} {d x : Dev} (mv : Nat) (h : lostPort d p = false) (hs : x.sys = d.sys) : restartFence p mv x = resetFence p mv x :=
  toDie_up _ _ h hs

theorem vconnEnd_port {p : Fin 32} {d x : Dev} (h : lostPort d p = false) (hs : x.sys = d.sys) :
    (vconnEnd p x).ports[p.val] = { x.ports[p.val] with vconnOn := false } := by
  unfold vconnEnd onlyIf
  split
  · rw [toDie_up _ _ h hs]; simp [vconnOff]
  · rename_i c
    simp at c
    simp [← c]

/-- An open VCONN switch stays open. -/
theorem vconnEnd_off {p : Fin 32} {d : Dev} (h : (d.ports[p.val]).vconnOn = false) : ((vconnEnd p d).ports[p.val]).vconnOn = false := by
  unfold vconnEnd onlyIf
  simp [h]

/-- Beside the switch it leaves the port. -/
@[simp] theorem vconnEnd_kind (p i : Fin 32) (d : Dev) : ((vconnEnd p d).ports[i.val]).kind = (d.ports[i.val]).kind := by
  unfold vconnEnd onlyIf toDie vconnOff
  repeat' split
  all_goals (try simp [upd_get])
  all_goals (try split <;> rfl)
@[simp] theorem vconnEnd_eprMode (p i : Fin 32) (d : Dev) : ((vconnEnd p d).ports[i.val]).eprMode = (d.ports[i.val]).eprMode := by
  unfold vconnEnd onlyIf toDie vconnOff
  repeat' split
  all_goals (try simp [upd_get])
  all_goals (try split <;> rfl)
@[simp] theorem vconnEnd_tc (p i : Fin 32) (d : Dev) : ((vconnEnd p d).ports[i.val]).tc = (d.ports[i.val]).tc := by
  unfold vconnEnd onlyIf toDie vconnOff
  repeat' split
  all_goals (try simp [upd_get])
  all_goals (try split <;> rfl)
@[simp] theorem vconnEnd_fence (p i : Fin 32) (d : Dev) : ((vconnEnd p d).ports[i.val]).fence = (d.ports[i.val]).fence := by
  unfold vconnEnd onlyIf toDie vconnOff
  repeat' split
  all_goals (try simp [upd_get])
  all_goals (try split <;> rfl)
@[simp] theorem vconnEnd_source (p i : Fin 32) (d : Dev) : ((vconnEnd p d).ports[i.val]).source = (d.ports[i.val]).source := by
  unfold vconnEnd onlyIf toDie vconnOff
  repeat' split
  all_goals (try simp [upd_get])
  all_goals (try split <;> rfl)
@[simp] theorem vconnEnd_dfp (p i : Fin 32) (d : Dev) : ((vconnEnd p d).ports[i.val]).dfp = (d.ports[i.val]).dfp := by
  unfold vconnEnd onlyIf toDie vconnOff
  repeat' split
  all_goals (try simp [upd_get])
  all_goals (try split <;> rfl)

theorem startTimer_mem (ev : Instr) (n : Nat) (d : Dev) : (d.tmr.tb + n, ev) ∈ (startTimer ev n d).timers := by
  simp [startTimer]

@[simp] theorem setTc_tc (p : Fin 32) (t : TcState) (d : Dev) : ((setTc p t d).ports[p.val]).tc = t := by simp [setTc]

@[simp] theorem vconnOff_self (p : Fin 32) (d : Dev) : ((vconnOff p d).ports[p.val]).vconnOn = false := by simp [vconnOff]

@[simp] theorem present_eprMode (p i : Fin 32) (rp : RpLevel) (rd : Bool) (d : Dev) : ((present p rp rd d).ports[i.val]).eprMode = (d.ports[i.val]).eprMode := by
  unfold present
  dsimp only
  split
  · rfl
  · simp only [ccProgram_frame, onGuard_ports, onPort_ports, upd_get]; split <;> rfl

@[simp] theorem present_pend (p i : Fin 32) (rp : RpLevel) (rd : Bool) (d : Dev) : ((present p rp rd d).ports[i.val]).pend = (d.ports[i.val]).pend := by
  unfold present
  dsimp only
  split
  · rfl
  · simp only [ccProgram_frame, onGuard_ports, onPort_ports, upd_get]; split <;> rfl

@[simp] theorem present_capsSent (p i : Fin 32) (rp : RpLevel) (rd : Bool) (d : Dev) : ((present p rp rd d).ports[i.val]).capsSent = (d.ports[i.val]).capsSent := by
  unfold present
  dsimp only
  split
  · rfl
  · simp only [ccProgram_frame, onGuard_ports, onPort_ports, upd_get]; split <;> rfl

/-- A hold keeps the zone, and the enable, of every channel (06 R240). -/
@[simp] theorem holdChan_zone (a c : Fin 204) (d : Dev) : ((holdChan a d).chans[c.val]).zone = (d.chans[c.val]).zone := by
  unfold holdChan
  split
  · rfl
  · simp only [startTimerAt_chans, stopTimersIf_chans, onChan_chans, upd_get]
    split <;> rfl

@[simp] theorem ccProgram_zone (l : Nat × Nat) (a c : Fin 204) (d : Dev) : ((ccProgram l a d).chans[c.val]).zone = (d.chans[c.val]).zone := by
  unfold ccProgram
  rw [holdChan_zone]
  simp only [onChan_chans, upd_get]
  split <;> rfl

/-- A new termination moves thresholds, not zones (03 R101). -/
@[simp] theorem present_zone (p : Fin 32) (c : Fin 204) (rp : RpLevel) (rd : Bool) (d : Dev) :
    ((present p rp rd d).chans[c.val]).zone = (d.chans[c.val]).zone := by
  unfold present
  dsimp only
  split
  · rfl
  · simp

/-- A timer that stopped does not run, and stopping one starts none. -/
@[simp] theorem timerRuns_stopTimer_self (e : Instr) (d : Dev) : timerRuns (stopTimer e d) e = false := by
  simp [timerRuns, stopTimer]

theorem timerRuns_stopTimer {e k : Instr} {d : Dev} (h : timerRuns d k = false) : timerRuns (stopTimer e d) k = false := by
  simp [timerRuns, stopTimer] at h ⊢
  intro a b hm _
  exact h a b hm

/-! The majority filter of a threshold (06 R238): n equal samples settle it. -/

theorem filterSamples_last (n : Nat) (b : Bool) (k : Nat) (x : List Bool × Bool) :
    filterSamples n b (k + 1) x = filterSample n b (filterSamples n b k x) := by
  induction k generalizing x with
  | zero => rfl
  | succ k ih => exact ih (filterSample n b x)

theorem filterSamples_hist {n : Nat} {b : Bool} (k j : Nat) (x : List Bool × Bool) (h : x.1.take j = List.replicate j b) (hn : j + k ≤ n) :
    (filterSamples n b k x).1.take (j + k) = List.replicate (j + k) b := by
  induction k generalizing j x with
  | zero => exact h
  | succ k ih =>
    have e : (filterSample n b x).1.take (j + 1) = List.replicate (j + 1) b := by
      simp only [filterSample, List.take_take]
      rw [Nat.min_eq_left (by omega), List.take_succ_cons, h, List.replicate_succ]
    have t := ih (j + 1) (filterSample n b x) e (by omega)
    rw [Nat.add_right_comm, Nat.add_assoc] at t
    exact t

theorem filterSamples_all {n : Nat} (b : Bool) (x : List Bool × Bool) (hn : 0 < n) : filterSamples n b n x = (List.replicate n b, b) := by
  obtain ⟨m, rfl⟩ : ∃ m, n = m + 1 := ⟨n - 1, by omega⟩
  have t := filterSamples_hist (n := m + 1) (b := b) m 0 x (by simp) (by omega)
  simp only [Nat.zero_add] at t
  rw [filterSamples_last]
  have e : List.take (m + 1) (b :: (filterSamples (m + 1) b m x).1) = List.replicate (m + 1) b := by
    rw [List.take_succ_cons, t, List.replicate_succ]
  simp only [filterSample, e, List.count_replicate]
  cases b <;> cases (filterSamples (m + 1) _ m x).2 <;> simp <;> omega

theorem filterLen_pos (x : Chan) : 0 < filterLen x := by unfold filterLen; omega

/-- A channel whose filter passes zone z has both thresholds in the states z names, and full histories of them. -/
theorem chanFilter_eq {ch : Fin 204} {z : Zone} {x : Chan} (h : z ≠ .unsettled) : chanFilter ch z x =
    { x with histHi := List.replicate (filterLen x) (z == .above), tripHi := z == .above, histLo := List.replicate (filterLen x) (z == .below)
             tripLo := z == .below, zone := if isWindow ch then z else x.zone } := by
  unfold chanFilter
  simp only [filterSamples_all _ _ (filterLen_pos x)]
  cases isWindow ch <;> cases z <;> simp at h ⊢

/-- An event of a die whose link stands acts at once (01 R631). -/
theorem fromDie_now {l : Fin 5} {d : Dev} (i : Instr) (f : Dev → Dev) (h : d.sys.retraining[l.val] = false) : fromDie l i f d = f d := by
  unfold fromDie
  simp [h]

end Sys2Proof.Machine
end

