-- ==== Sys2Proof/Laws/Views.lean ====
section
/-! SUPPORT. Derived values that a named operation leaves as they were. -/

namespace Sys2Proof.Machine

@[simp] theorem isDrp_stopTimer (vp : Fin 32) (ev : Instr) (d : Dev) : isDrp (stopTimer ev d) vp = isDrp d vp := (rfl)
@[simp] theorem isDrp_stopTimers (vp : Fin 32) (l : List Instr) (d : Dev) : isDrp (stopTimers l d) vp = isDrp d vp := (rfl)
@[simp] theorem isDrp_startTimer (vp : Fin 32) (ev : Instr) (t : Nat) (d : Dev) : isDrp (startTimer ev t d) vp = isDrp d vp := (rfl)
@[simp] theorem isDrp_startTimerAt (vp : Fin 32) (ev : Instr) (t : Nat) (d : Dev) : isDrp (startTimerAt ev t d) vp = isDrp d vp := (rfl)
@[simp] theorem isDrp_portEvent (vp : Fin 32) (q : Fin 32) (i : Nat) (d : Dev) : isDrp (portEvent q i d) vp = isDrp d vp := (rfl)
@[simp] theorem isDrp_guardEvent (vp : Fin 32) (q : Fin 32) (i : Nat) (d : Dev) : isDrp (guardEvent q i d) vp = isDrp d vp := (rfl)
@[simp] theorem isDrp_post (vp : Fin 32) (ev : Instr) (d : Dev) : isDrp (post ev d) vp = isDrp d vp := (rfl)
@[simp] theorem isDrp_bumpFree (vp : Fin 32) (d : Dev) : isDrp (bumpFree d) vp = isDrp d vp := (rfl)
@[simp] theorem isDrp_setTc (vp : Fin 32) (q : Fin 32) (t : TcState) (d : Dev) : isDrp (setTc q t d) vp = isDrp d vp := (rfl)
@[simp] theorem isDrp_onPd (vp : Fin 32) (q : Fin 32) (g : PortPd → PortPd) (d : Dev) : isDrp (onPd q g d) vp = isDrp d vp := (rfl)
@[simp] theorem isDrp_onPort (vp : Fin 32) (q : Fin 32) (g : Port → Port) (d : Dev) : isDrp (onPort q g d) vp = isDrp d vp := (rfl)
@[simp] theorem isDrp_onGuard (vp : Fin 32) (q : Fin 32) (g : Guard → Guard) (d : Dev) : isDrp (onGuard q g d) vp = isDrp d vp := (rfl)
@[simp] theorem isDrp_onLoop (vp : Fin 32) (q : Fin 32) (g : Loop → Loop) (d : Dev) : isDrp (onLoop q g d) vp = isDrp d vp := (rfl)
@[simp] theorem isDrp_onHost (vp : Fin 32) (g : HostIf → HostIf) (d : Dev) : isDrp (onHost g d) vp = isDrp d vp := (rfl)
@[simp] theorem isDrp_sysEvent (vp : Fin 32) (i : Nat) (d : Dev) : isDrp (sysEvent i d) vp = isDrp d vp := (rfl)
@[simp] theorem isDrp_onColl (vp : Fin 32) (g : Collector → Collector) (d : Dev) : isDrp (onColl g d) vp = isDrp d vp := (rfl)
@[simp] theorem isDrp_onLedger (vp : Fin 32) (g : Ledger → Ledger) (d : Dev) : isDrp (onLedger g d) vp = isDrp d vp := (rfl)
@[simp] theorem isDrp_onSource (vp : Fin 32) (i : Fin 768) (g : Source → Source) (d : Dev) : isDrp (onSource i g d) vp = isDrp d vp := (rfl)
@[simp] theorem isDrp_onJrn (vp : Fin 32) (g : Journal → Journal) (d : Dev) : isDrp (onJrn g d) vp = isDrp d vp := (rfl)
@[simp] theorem isDrp_onChan (vp : Fin 32) (c : Fin 204) (g : Chan → Chan) (d : Dev) : isDrp (onChan c g d) vp = isDrp d vp := (rfl)
@[simp] theorem isDrp_onFeed (vp : Fin 32) (i : Fin 4) (g : Feed → Feed) (d : Dev) : isDrp (onFeed i g d) vp = isDrp d vp := (rfl)
@[simp] theorem isDrp_feedEvent (vp : Fin 32) (i : Fin 4) (k : Nat) (d : Dev) : isDrp (feedEvent i k d) vp = isDrp d vp := (rfl)
@[simp] theorem isDrp_onPhase (vp : Fin 32) (i : Fin 64) (g : Phase → Phase) (d : Dev) : isDrp (onPhase i g d) vp = isDrp d vp := (rfl)
@[simp] theorem isDrp_onUpd (vp : Fin 32) (g : Update → Update) (d : Dev) : isDrp (onUpd g d) vp = isDrp d vp := (rfl)
@[simp] theorem isDrp_onStore (vp : Fin 32) (g : CfgStore → CfgStore) (d : Dev) : isDrp (onStore g d) vp = isDrp d vp := (rfl)
@[simp] theorem isDrp_onTmr (vp : Fin 32) (g : Timers → Timers) (d : Dev) : isDrp (onTmr g d) vp = isDrp d vp := (rfl)
@[simp] theorem isDrp_onNet (vp : Fin 32) (g : Net → Net) (d : Dev) : isDrp (onNet g d) vp = isDrp d vp := (rfl)
@[simp] theorem isDrp_onTwin (vp : Fin 32) (g : Twin → Twin) (d : Dev) : isDrp (onTwin g d) vp = isDrp d vp := (rfl)
@[simp] theorem isDrp_onPost (vp : Fin 32) (i : Fin 3) (g : Post → Post) (d : Dev) : isDrp (onPost i g d) vp = isDrp d vp := (rfl)
@[simp] theorem isDrp_settle (vp : Fin 32) (a : Dev) (d : Dev) : isDrp (settle a d) vp = isDrp d vp := (rfl)
@[simp] theorem rolesOf_stopTimer (vp : Fin 32) (ev : Instr) (d : Dev) : rolesOf (stopTimer ev d) vp = rolesOf d vp := (rfl)
@[simp] theorem rolesOf_stopTimers (vp : Fin 32) (l : List Instr) (d : Dev) : rolesOf (stopTimers l d) vp = rolesOf d vp := (rfl)
@[simp] theorem rolesOf_startTimer (vp : Fin 32) (ev : Instr) (t : Nat) (d : Dev) : rolesOf (startTimer ev t d) vp = rolesOf d vp := (rfl)
@[simp] theorem rolesOf_startTimerAt (vp : Fin 32) (ev : Instr) (t : Nat) (d : Dev) : rolesOf (startTimerAt ev t d) vp = rolesOf d vp := (rfl)
@[simp] theorem rolesOf_portEvent (vp : Fin 32) (q : Fin 32) (i : Nat) (d : Dev) : rolesOf (portEvent q i d) vp = rolesOf d vp := (rfl)
@[simp] theorem rolesOf_guardEvent (vp : Fin 32) (q : Fin 32) (i : Nat) (d : Dev) : rolesOf (guardEvent q i d) vp = rolesOf d vp := (rfl)
@[simp] theorem rolesOf_post (vp : Fin 32) (ev : Instr) (d : Dev) : rolesOf (post ev d) vp = rolesOf d vp := (rfl)
@[simp] theorem rolesOf_bumpFree (vp : Fin 32) (d : Dev) : rolesOf (bumpFree d) vp = rolesOf d vp := (rfl)
@[simp] theorem rolesOf_setTc (vp : Fin 32) (q : Fin 32) (t : TcState) (d : Dev) : rolesOf (setTc q t d) vp = rolesOf d vp := (rfl)
@[simp] theorem rolesOf_onPd (vp : Fin 32) (q : Fin 32) (g : PortPd → PortPd) (d : Dev) : rolesOf (onPd q g d) vp = rolesOf d vp := (rfl)
@[simp] theorem rolesOf_onPort (vp : Fin 32) (q : Fin 32) (g : Port → Port) (d : Dev) : rolesOf (onPort q g d) vp = rolesOf d vp := (rfl)
@[simp] theorem rolesOf_onGuard (vp : Fin 32) (q : Fin 32) (g : Guard → Guard) (d : Dev) : rolesOf (onGuard q g d) vp = rolesOf d vp := (rfl)
@[simp] theorem rolesOf_onLoop (vp : Fin 32) (q : Fin 32) (g : Loop → Loop) (d : Dev) : rolesOf (onLoop q g d) vp = rolesOf d vp := (rfl)
@[simp] theorem rolesOf_onHost (vp : Fin 32) (g : HostIf → HostIf) (d : Dev) : rolesOf (onHost g d) vp = rolesOf d vp := (rfl)
@[simp] theorem rolesOf_sysEvent (vp : Fin 32) (i : Nat) (d : Dev) : rolesOf (sysEvent i d) vp = rolesOf d vp := (rfl)
@[simp] theorem rolesOf_onColl (vp : Fin 32) (g : Collector → Collector) (d : Dev) : rolesOf (onColl g d) vp = rolesOf d vp := (rfl)
@[simp] theorem rolesOf_onLedger (vp : Fin 32) (g : Ledger → Ledger) (d : Dev) : rolesOf (onLedger g d) vp = rolesOf d vp := (rfl)
@[simp] theorem rolesOf_onSource (vp : Fin 32) (i : Fin 768) (g : Source → Source) (d : Dev) : rolesOf (onSource i g d) vp = rolesOf d vp := (rfl)
@[simp] theorem rolesOf_onJrn (vp : Fin 32) (g : Journal → Journal) (d : Dev) : rolesOf (onJrn g d) vp = rolesOf d vp := (rfl)
@[simp] theorem rolesOf_onChan (vp : Fin 32) (c : Fin 204) (g : Chan → Chan) (d : Dev) : rolesOf (onChan c g d) vp = rolesOf d vp := (rfl)
@[simp] theorem rolesOf_onFeed (vp : Fin 32) (i : Fin 4) (g : Feed → Feed) (d : Dev) : rolesOf (onFeed i g d) vp = rolesOf d vp := (rfl)
@[simp] theorem rolesOf_feedEvent (vp : Fin 32) (i : Fin 4) (k : Nat) (d : Dev) : rolesOf (feedEvent i k d) vp = rolesOf d vp := (rfl)
@[simp] theorem rolesOf_onPhase (vp : Fin 32) (i : Fin 64) (g : Phase → Phase) (d : Dev) : rolesOf (onPhase i g d) vp = rolesOf d vp := (rfl)
@[simp] theorem rolesOf_onUpd (vp : Fin 32) (g : Update → Update) (d : Dev) : rolesOf (onUpd g d) vp = rolesOf d vp := (rfl)
@[simp] theorem rolesOf_onStore (vp : Fin 32) (g : CfgStore → CfgStore) (d : Dev) : rolesOf (onStore g d) vp = rolesOf d vp := (rfl)
@[simp] theorem rolesOf_onTmr (vp : Fin 32) (g : Timers → Timers) (d : Dev) : rolesOf (onTmr g d) vp = rolesOf d vp := (rfl)
@[simp] theorem rolesOf_onNet (vp : Fin 32) (g : Net → Net) (d : Dev) : rolesOf (onNet g d) vp = rolesOf d vp := (rfl)
@[simp] theorem rolesOf_onTwin (vp : Fin 32) (g : Twin → Twin) (d : Dev) : rolesOf (onTwin g d) vp = rolesOf d vp := (rfl)
@[simp] theorem rolesOf_onPost (vp : Fin 32) (i : Fin 3) (g : Post → Post) (d : Dev) : rolesOf (onPost i g d) vp = rolesOf d vp := (rfl)
@[simp] theorem rolesOf_settle (vp : Fin 32) (a : Dev) (d : Dev) : rolesOf (settle a d) vp = rolesOf d vp := (rfl)
@[simp] theorem portCfg_stopTimer (vp : Fin 32) (ev : Instr) (d : Dev) : portCfg (stopTimer ev d) vp = portCfg d vp := (rfl)
@[simp] theorem portCfg_stopTimers (vp : Fin 32) (l : List Instr) (d : Dev) : portCfg (stopTimers l d) vp = portCfg d vp := (rfl)
@[simp] theorem portCfg_startTimer (vp : Fin 32) (ev : Instr) (t : Nat) (d : Dev) : portCfg (startTimer ev t d) vp = portCfg d vp := (rfl)
@[simp] theorem portCfg_startTimerAt (vp : Fin 32) (ev : Instr) (t : Nat) (d : Dev) : portCfg (startTimerAt ev t d) vp = portCfg d vp := (rfl)
@[simp] theorem portCfg_portEvent (vp : Fin 32) (q : Fin 32) (i : Nat) (d : Dev) : portCfg (portEvent q i d) vp = portCfg d vp := (rfl)
@[simp] theorem portCfg_guardEvent (vp : Fin 32) (q : Fin 32) (i : Nat) (d : Dev) : portCfg (guardEvent q i d) vp = portCfg d vp := (rfl)
@[simp] theorem portCfg_post (vp : Fin 32) (ev : Instr) (d : Dev) : portCfg (post ev d) vp = portCfg d vp := (rfl)
@[simp] theorem portCfg_journal (vp : Fin 32) (c : Fin 16) (l : List Byte) (d : Dev) : portCfg (journal c l d) vp = portCfg d vp := by unfold portCfg; simp
@[simp] theorem portCfg_journalEvent (vp : Fin 32) (c : Fin 16) (x : Nat) (y : Word) (z : Nat) (d : Dev) : portCfg (journalEvent c x y z d) vp = portCfg d vp := by unfold portCfg; simp
@[simp] theorem portCfg_journalContract (vp : Fin 32) (q : Fin 32) (d : Dev) : portCfg (journalContract q d) vp = portCfg d vp := by unfold portCfg; simp
@[simp] theorem portCfg_bumpFree (vp : Fin 32) (d : Dev) : portCfg (bumpFree d) vp = portCfg d vp := (rfl)
@[simp] theorem portCfg_setTc (vp : Fin 32) (q : Fin 32) (t : TcState) (d : Dev) : portCfg (setTc q t d) vp = portCfg d vp := (rfl)
@[simp] theorem portCfg_onPd (vp : Fin 32) (q : Fin 32) (g : PortPd → PortPd) (d : Dev) : portCfg (onPd q g d) vp = portCfg d vp := (rfl)
@[simp] theorem portCfg_onPort (vp : Fin 32) (q : Fin 32) (g : Port → Port) (d : Dev) : portCfg (onPort q g d) vp = portCfg d vp := (rfl)
@[simp] theorem portCfg_onGuard (vp : Fin 32) (q : Fin 32) (g : Guard → Guard) (d : Dev) : portCfg (onGuard q g d) vp = portCfg d vp := (rfl)
@[simp] theorem portCfg_onLoop (vp : Fin 32) (q : Fin 32) (g : Loop → Loop) (d : Dev) : portCfg (onLoop q g d) vp = portCfg d vp := (rfl)
@[simp] theorem portCfg_onHost (vp : Fin 32) (g : HostIf → HostIf) (d : Dev) : portCfg (onHost g d) vp = portCfg d vp := (rfl)
@[simp] theorem portCfg_sysEvent (vp : Fin 32) (i : Nat) (d : Dev) : portCfg (sysEvent i d) vp = portCfg d vp := (rfl)
@[simp] theorem portCfg_onColl (vp : Fin 32) (g : Collector → Collector) (d : Dev) : portCfg (onColl g d) vp = portCfg d vp := (rfl)
@[simp] theorem portCfg_onLedger (vp : Fin 32) (g : Ledger → Ledger) (d : Dev) : portCfg (onLedger g d) vp = portCfg d vp := (rfl)
@[simp] theorem portCfg_onSource (vp : Fin 32) (i : Fin 768) (g : Source → Source) (d : Dev) : portCfg (onSource i g d) vp = portCfg d vp := (rfl)
@[simp] theorem portCfg_onJrn (vp : Fin 32) (g : Journal → Journal) (d : Dev) : portCfg (onJrn g d) vp = portCfg d vp := (rfl)
@[simp] theorem portCfg_onChan (vp : Fin 32) (c : Fin 204) (g : Chan → Chan) (d : Dev) : portCfg (onChan c g d) vp = portCfg d vp := (rfl)
@[simp] theorem portCfg_onFeed (vp : Fin 32) (i : Fin 4) (g : Feed → Feed) (d : Dev) : portCfg (onFeed i g d) vp = portCfg d vp := (rfl)
@[simp] theorem portCfg_feedEvent (vp : Fin 32) (i : Fin 4) (k : Nat) (d : Dev) : portCfg (feedEvent i k d) vp = portCfg d vp := (rfl)
@[simp] theorem portCfg_onPhase (vp : Fin 32) (i : Fin 64) (g : Phase → Phase) (d : Dev) : portCfg (onPhase i g d) vp = portCfg d vp := (rfl)
@[simp] theorem portCfg_onUpd (vp : Fin 32) (g : Update → Update) (d : Dev) : portCfg (onUpd g d) vp = portCfg d vp := (rfl)
@[simp] theorem portCfg_onStore (vp : Fin 32) (g : CfgStore → CfgStore) (d : Dev) : portCfg (onStore g d) vp = portCfg d vp := (rfl)
@[simp] theorem portCfg_onTmr (vp : Fin 32) (g : Timers → Timers) (d : Dev) : portCfg (onTmr g d) vp = portCfg d vp := (rfl)
@[simp] theorem portCfg_onNet (vp : Fin 32) (g : Net → Net) (d : Dev) : portCfg (onNet g d) vp = portCfg d vp := (rfl)
@[simp] theorem portCfg_onTwin (vp : Fin 32) (g : Twin → Twin) (d : Dev) : portCfg (onTwin g d) vp = portCfg d vp := (rfl)
@[simp] theorem portCfg_onPost (vp : Fin 32) (i : Fin 3) (g : Post → Post) (d : Dev) : portCfg (onPost i g d) vp = portCfg d vp := (rfl)
@[simp] theorem portCfg_settle (vp : Fin 32) (a : Dev) (d : Dev) : portCfg (settle a d) vp = portCfg d vp := (rfl)
@[simp] theorem canSource_stopTimer (vp : Fin 32) (ev : Instr) (d : Dev) : canSource (stopTimer ev d) vp = canSource d vp := (rfl)
@[simp] theorem canSource_stopTimers (vp : Fin 32) (l : List Instr) (d : Dev) : canSource (stopTimers l d) vp = canSource d vp := (rfl)
@[simp] theorem canSource_startTimer (vp : Fin 32) (ev : Instr) (t : Nat) (d : Dev) : canSource (startTimer ev t d) vp = canSource d vp := (rfl)
@[simp] theorem canSource_startTimerAt (vp : Fin 32) (ev : Instr) (t : Nat) (d : Dev) : canSource (startTimerAt ev t d) vp = canSource d vp := (rfl)
@[simp] theorem canSource_portEvent (vp : Fin 32) (q : Fin 32) (i : Nat) (d : Dev) : canSource (portEvent q i d) vp = canSource d vp := (rfl)
@[simp] theorem canSource_guardEvent (vp : Fin 32) (q : Fin 32) (i : Nat) (d : Dev) : canSource (guardEvent q i d) vp = canSource d vp := (rfl)
@[simp] theorem canSource_post (vp : Fin 32) (ev : Instr) (d : Dev) : canSource (post ev d) vp = canSource d vp := (rfl)
@[simp] theorem canSource_bumpFree (vp : Fin 32) (d : Dev) : canSource (bumpFree d) vp = canSource d vp := (rfl)
@[simp] theorem canSource_setTc (vp : Fin 32) (q : Fin 32) (t : TcState) (d : Dev) : canSource (setTc q t d) vp = canSource d vp := (rfl)
@[simp] theorem canSource_onPd (vp : Fin 32) (q : Fin 32) (g : PortPd → PortPd) (d : Dev) : canSource (onPd q g d) vp = canSource d vp := (rfl)
@[simp] theorem canSource_onPort (vp : Fin 32) (q : Fin 32) (g : Port → Port) (d : Dev) : canSource (onPort q g d) vp = canSource d vp := (rfl)
@[simp] theorem canSource_onGuard (vp : Fin 32) (q : Fin 32) (g : Guard → Guard) (d : Dev) : canSource (onGuard q g d) vp = canSource d vp := (rfl)
@[simp] theorem canSource_onLoop (vp : Fin 32) (q : Fin 32) (g : Loop → Loop) (d : Dev) : canSource (onLoop q g d) vp = canSource d vp := (rfl)
@[simp] theorem canSource_onHost (vp : Fin 32) (g : HostIf → HostIf) (d : Dev) : canSource (onHost g d) vp = canSource d vp := (rfl)
@[simp] theorem canSource_sysEvent (vp : Fin 32) (i : Nat) (d : Dev) : canSource (sysEvent i d) vp = canSource d vp := (rfl)
@[simp] theorem canSource_onColl (vp : Fin 32) (g : Collector → Collector) (d : Dev) : canSource (onColl g d) vp = canSource d vp := (rfl)
@[simp] theorem canSource_onLedger (vp : Fin 32) (g : Ledger → Ledger) (d : Dev) : canSource (onLedger g d) vp = canSource d vp := (rfl)
@[simp] theorem canSource_onSource (vp : Fin 32) (i : Fin 768) (g : Source → Source) (d : Dev) : canSource (onSource i g d) vp = canSource d vp := (rfl)
@[simp] theorem canSource_onJrn (vp : Fin 32) (g : Journal → Journal) (d : Dev) : canSource (onJrn g d) vp = canSource d vp := (rfl)
@[simp] theorem canSource_onChan (vp : Fin 32) (c : Fin 204) (g : Chan → Chan) (d : Dev) : canSource (onChan c g d) vp = canSource d vp := (rfl)
@[simp] theorem canSource_onFeed (vp : Fin 32) (i : Fin 4) (g : Feed → Feed) (d : Dev) : canSource (onFeed i g d) vp = canSource d vp := (rfl)
@[simp] theorem canSource_feedEvent (vp : Fin 32) (i : Fin 4) (k : Nat) (d : Dev) : canSource (feedEvent i k d) vp = canSource d vp := (rfl)
@[simp] theorem canSource_onPhase (vp : Fin 32) (i : Fin 64) (g : Phase → Phase) (d : Dev) : canSource (onPhase i g d) vp = canSource d vp := (rfl)
@[simp] theorem canSource_onUpd (vp : Fin 32) (g : Update → Update) (d : Dev) : canSource (onUpd g d) vp = canSource d vp := (rfl)
@[simp] theorem canSource_onStore (vp : Fin 32) (g : CfgStore → CfgStore) (d : Dev) : canSource (onStore g d) vp = canSource d vp := (rfl)
@[simp] theorem canSource_onTmr (vp : Fin 32) (g : Timers → Timers) (d : Dev) : canSource (onTmr g d) vp = canSource d vp := (rfl)
@[simp] theorem canSource_onNet (vp : Fin 32) (g : Net → Net) (d : Dev) : canSource (onNet g d) vp = canSource d vp := (rfl)
@[simp] theorem canSource_onTwin (vp : Fin 32) (g : Twin → Twin) (d : Dev) : canSource (onTwin g d) vp = canSource d vp := (rfl)
@[simp] theorem canSource_onPost (vp : Fin 32) (i : Fin 3) (g : Post → Post) (d : Dev) : canSource (onPost i g d) vp = canSource d vp := (rfl)
@[simp] theorem canSource_settle (vp : Fin 32) (a : Dev) (d : Dev) : canSource (settle a d) vp = canSource d vp := (rfl)
@[simp] theorem canSink_stopTimer (vp : Fin 32) (ev : Instr) (d : Dev) : canSink (stopTimer ev d) vp = canSink d vp := (rfl)
@[simp] theorem canSink_stopTimers (vp : Fin 32) (l : List Instr) (d : Dev) : canSink (stopTimers l d) vp = canSink d vp := (rfl)
@[simp] theorem canSink_startTimer (vp : Fin 32) (ev : Instr) (t : Nat) (d : Dev) : canSink (startTimer ev t d) vp = canSink d vp := (rfl)
@[simp] theorem canSink_startTimerAt (vp : Fin 32) (ev : Instr) (t : Nat) (d : Dev) : canSink (startTimerAt ev t d) vp = canSink d vp := (rfl)
@[simp] theorem canSink_portEvent (vp : Fin 32) (q : Fin 32) (i : Nat) (d : Dev) : canSink (portEvent q i d) vp = canSink d vp := (rfl)
@[simp] theorem canSink_guardEvent (vp : Fin 32) (q : Fin 32) (i : Nat) (d : Dev) : canSink (guardEvent q i d) vp = canSink d vp := (rfl)
@[simp] theorem canSink_post (vp : Fin 32) (ev : Instr) (d : Dev) : canSink (post ev d) vp = canSink d vp := (rfl)
@[simp] theorem canSink_bumpFree (vp : Fin 32) (d : Dev) : canSink (bumpFree d) vp = canSink d vp := (rfl)
@[simp] theorem canSink_setTc (vp : Fin 32) (q : Fin 32) (t : TcState) (d : Dev) : canSink (setTc q t d) vp = canSink d vp := (rfl)
@[simp] theorem canSink_onPd (vp : Fin 32) (q : Fin 32) (g : PortPd → PortPd) (d : Dev) : canSink (onPd q g d) vp = canSink d vp := (rfl)
@[simp] theorem canSink_onPort (vp : Fin 32) (q : Fin 32) (g : Port → Port) (d : Dev) : canSink (onPort q g d) vp = canSink d vp := (rfl)
@[simp] theorem canSink_onGuard (vp : Fin 32) (q : Fin 32) (g : Guard → Guard) (d : Dev) : canSink (onGuard q g d) vp = canSink d vp := (rfl)
@[simp] theorem canSink_onLoop (vp : Fin 32) (q : Fin 32) (g : Loop → Loop) (d : Dev) : canSink (onLoop q g d) vp = canSink d vp := (rfl)
@[simp] theorem canSink_onHost (vp : Fin 32) (g : HostIf → HostIf) (d : Dev) : canSink (onHost g d) vp = canSink d vp := (rfl)
@[simp] theorem canSink_sysEvent (vp : Fin 32) (i : Nat) (d : Dev) : canSink (sysEvent i d) vp = canSink d vp := (rfl)
@[simp] theorem canSink_onColl (vp : Fin 32) (g : Collector → Collector) (d : Dev) : canSink (onColl g d) vp = canSink d vp := (rfl)
@[simp] theorem canSink_onLedger (vp : Fin 32) (g : Ledger → Ledger) (d : Dev) : canSink (onLedger g d) vp = canSink d vp := (rfl)
@[simp] theorem canSink_onSource (vp : Fin 32) (i : Fin 768) (g : Source → Source) (d : Dev) : canSink (onSource i g d) vp = canSink d vp := (rfl)
@[simp] theorem canSink_onJrn (vp : Fin 32) (g : Journal → Journal) (d : Dev) : canSink (onJrn g d) vp = canSink d vp := (rfl)
@[simp] theorem canSink_onChan (vp : Fin 32) (c : Fin 204) (g : Chan → Chan) (d : Dev) : canSink (onChan c g d) vp = canSink d vp := (rfl)
@[simp] theorem canSink_onFeed (vp : Fin 32) (i : Fin 4) (g : Feed → Feed) (d : Dev) : canSink (onFeed i g d) vp = canSink d vp := (rfl)
@[simp] theorem canSink_feedEvent (vp : Fin 32) (i : Fin 4) (k : Nat) (d : Dev) : canSink (feedEvent i k d) vp = canSink d vp := (rfl)
@[simp] theorem canSink_onPhase (vp : Fin 32) (i : Fin 64) (g : Phase → Phase) (d : Dev) : canSink (onPhase i g d) vp = canSink d vp := (rfl)
@[simp] theorem canSink_onUpd (vp : Fin 32) (g : Update → Update) (d : Dev) : canSink (onUpd g d) vp = canSink d vp := (rfl)
@[simp] theorem canSink_onStore (vp : Fin 32) (g : CfgStore → CfgStore) (d : Dev) : canSink (onStore g d) vp = canSink d vp := (rfl)
@[simp] theorem canSink_onTmr (vp : Fin 32) (g : Timers → Timers) (d : Dev) : canSink (onTmr g d) vp = canSink d vp := (rfl)
@[simp] theorem canSink_onNet (vp : Fin 32) (g : Net → Net) (d : Dev) : canSink (onNet g d) vp = canSink d vp := (rfl)
@[simp] theorem canSink_onTwin (vp : Fin 32) (g : Twin → Twin) (d : Dev) : canSink (onTwin g d) vp = canSink d vp := (rfl)
@[simp] theorem canSink_onPost (vp : Fin 32) (i : Fin 3) (g : Post → Post) (d : Dev) : canSink (onPost i g d) vp = canSink d vp := (rfl)
@[simp] theorem canSink_settle (vp : Fin 32) (a : Dev) (d : Dev) : canSink (settle a d) vp = canSink d vp := (rfl)
@[simp] theorem anyPg_stopTimer (ev : Instr) (d : Dev) : anyPg (stopTimer ev d) = anyPg d := (rfl)
@[simp] theorem anyPg_stopTimers (l : List Instr) (d : Dev) : anyPg (stopTimers l d) = anyPg d := (rfl)
@[simp] theorem anyPg_startTimer (ev : Instr) (t : Nat) (d : Dev) : anyPg (startTimer ev t d) = anyPg d := (rfl)
@[simp] theorem anyPg_startTimerAt (ev : Instr) (t : Nat) (d : Dev) : anyPg (startTimerAt ev t d) = anyPg d := (rfl)
@[simp] theorem anyPg_portEvent (q : Fin 32) (i : Nat) (d : Dev) : anyPg (portEvent q i d) = anyPg d := (rfl)
@[simp] theorem anyPg_guardEvent (q : Fin 32) (i : Nat) (d : Dev) : anyPg (guardEvent q i d) = anyPg d := (rfl)
@[simp] theorem anyPg_post (ev : Instr) (d : Dev) : anyPg (post ev d) = anyPg d := (rfl)
@[simp] theorem anyPg_bumpFree (d : Dev) : anyPg (bumpFree d) = anyPg d := (rfl)
@[simp] theorem anyPg_setTc (q : Fin 32) (t : TcState) (d : Dev) : anyPg (setTc q t d) = anyPg d := (rfl)
@[simp] theorem anyPg_onPd (q : Fin 32) (g : PortPd → PortPd) (d : Dev) : anyPg (onPd q g d) = anyPg d := (rfl)
@[simp] theorem anyPg_onPort (q : Fin 32) (g : Port → Port) (d : Dev) : anyPg (onPort q g d) = anyPg d := (rfl)
@[simp] theorem anyPg_onGuard (q : Fin 32) (g : Guard → Guard) (d : Dev) : anyPg (onGuard q g d) = anyPg d := (rfl)
@[simp] theorem anyPg_onLoop (q : Fin 32) (g : Loop → Loop) (d : Dev) : anyPg (onLoop q g d) = anyPg d := (rfl)
@[simp] theorem anyPg_onHost (g : HostIf → HostIf) (d : Dev) : anyPg (onHost g d) = anyPg d := (rfl)
@[simp] theorem anyPg_sysEvent (i : Nat) (d : Dev) : anyPg (sysEvent i d) = anyPg d := (rfl)
@[simp] theorem anyPg_onColl (g : Collector → Collector) (d : Dev) : anyPg (onColl g d) = anyPg d := (rfl)
@[simp] theorem anyPg_onLedger (g : Ledger → Ledger) (d : Dev) : anyPg (onLedger g d) = anyPg d := (rfl)
@[simp] theorem anyPg_onSource (i : Fin 768) (g : Source → Source) (d : Dev) : anyPg (onSource i g d) = anyPg d := (rfl)
@[simp] theorem anyPg_onJrn (g : Journal → Journal) (d : Dev) : anyPg (onJrn g d) = anyPg d := (rfl)
@[simp] theorem anyPg_onChan (c : Fin 204) (g : Chan → Chan) (d : Dev) : anyPg (onChan c g d) = anyPg d := (rfl)
@[simp] theorem anyPg_onPhase (i : Fin 64) (g : Phase → Phase) (d : Dev) : anyPg (onPhase i g d) = anyPg d := (rfl)
@[simp] theorem anyPg_onUpd (g : Update → Update) (d : Dev) : anyPg (onUpd g d) = anyPg d := (rfl)
@[simp] theorem anyPg_onStore (g : CfgStore → CfgStore) (d : Dev) : anyPg (onStore g d) = anyPg d := (rfl)
@[simp] theorem anyPg_onTmr (g : Timers → Timers) (d : Dev) : anyPg (onTmr g d) = anyPg d := (rfl)
@[simp] theorem anyPg_onNet (g : Net → Net) (d : Dev) : anyPg (onNet g d) = anyPg d := (rfl)
@[simp] theorem anyPg_onTwin (g : Twin → Twin) (d : Dev) : anyPg (onTwin g d) = anyPg d := (rfl)
@[simp] theorem anyPg_onPost (i : Fin 3) (g : Post → Post) (d : Dev) : anyPg (onPost i g d) = anyPg d := (rfl)
@[simp] theorem anyPg_settle (a : Dev) (d : Dev) : anyPg (settle a d) = anyPg d := (rfl)
@[simp] theorem portPg_stopTimer (vp : Fin 32) (ev : Instr) (d : Dev) : portPg (stopTimer ev d) vp = portPg d vp := (rfl)
@[simp] theorem portPg_stopTimers (vp : Fin 32) (l : List Instr) (d : Dev) : portPg (stopTimers l d) vp = portPg d vp := (rfl)
@[simp] theorem portPg_startTimer (vp : Fin 32) (ev : Instr) (t : Nat) (d : Dev) : portPg (startTimer ev t d) vp = portPg d vp := (rfl)
@[simp] theorem portPg_startTimerAt (vp : Fin 32) (ev : Instr) (t : Nat) (d : Dev) : portPg (startTimerAt ev t d) vp = portPg d vp := (rfl)
@[simp] theorem portPg_portEvent (vp : Fin 32) (q : Fin 32) (i : Nat) (d : Dev) : portPg (portEvent q i d) vp = portPg d vp := (rfl)
@[simp] theorem portPg_guardEvent (vp : Fin 32) (q : Fin 32) (i : Nat) (d : Dev) : portPg (guardEvent q i d) vp = portPg d vp := (rfl)
@[simp] theorem portPg_post (vp : Fin 32) (ev : Instr) (d : Dev) : portPg (post ev d) vp = portPg d vp := (rfl)
@[simp] theorem portPg_bumpFree (vp : Fin 32) (d : Dev) : portPg (bumpFree d) vp = portPg d vp := (rfl)
@[simp] theorem portPg_setTc (vp : Fin 32) (q : Fin 32) (t : TcState) (d : Dev) : portPg (setTc q t d) vp = portPg d vp := (rfl)
@[simp] theorem portPg_onPd (vp : Fin 32) (q : Fin 32) (g : PortPd → PortPd) (d : Dev) : portPg (onPd q g d) vp = portPg d vp := (rfl)
@[simp] theorem portPg_onPort (vp : Fin 32) (q : Fin 32) (g : Port → Port) (d : Dev) : portPg (onPort q g d) vp = portPg d vp := (rfl)
@[simp] theorem portPg_onGuard (vp : Fin 32) (q : Fin 32) (g : Guard → Guard) (d : Dev) : portPg (onGuard q g d) vp = portPg d vp := (rfl)
@[simp] theorem portPg_onLoop (vp : Fin 32) (q : Fin 32) (g : Loop → Loop) (d : Dev) : portPg (onLoop q g d) vp = portPg d vp := (rfl)
@[simp] theorem portPg_onHost (vp : Fin 32) (g : HostIf → HostIf) (d : Dev) : portPg (onHost g d) vp = portPg d vp := (rfl)
@[simp] theorem portPg_sysEvent (vp : Fin 32) (i : Nat) (d : Dev) : portPg (sysEvent i d) vp = portPg d vp := (rfl)
@[simp] theorem portPg_onColl (vp : Fin 32) (g : Collector → Collector) (d : Dev) : portPg (onColl g d) vp = portPg d vp := (rfl)
@[simp] theorem portPg_onLedger (vp : Fin 32) (g : Ledger → Ledger) (d : Dev) : portPg (onLedger g d) vp = portPg d vp := (rfl)
@[simp] theorem portPg_onSource (vp : Fin 32) (i : Fin 768) (g : Source → Source) (d : Dev) : portPg (onSource i g d) vp = portPg d vp := (rfl)
@[simp] theorem portPg_onJrn (vp : Fin 32) (g : Journal → Journal) (d : Dev) : portPg (onJrn g d) vp = portPg d vp := (rfl)
@[simp] theorem portPg_onChan (vp : Fin 32) (c : Fin 204) (g : Chan → Chan) (d : Dev) : portPg (onChan c g d) vp = portPg d vp := (rfl)
@[simp] theorem portPg_onPhase (vp : Fin 32) (i : Fin 64) (g : Phase → Phase) (d : Dev) : portPg (onPhase i g d) vp = portPg d vp := (rfl)
@[simp] theorem portPg_onUpd (vp : Fin 32) (g : Update → Update) (d : Dev) : portPg (onUpd g d) vp = portPg d vp := (rfl)
@[simp] theorem portPg_onStore (vp : Fin 32) (g : CfgStore → CfgStore) (d : Dev) : portPg (onStore g d) vp = portPg d vp := (rfl)
@[simp] theorem portPg_onTmr (vp : Fin 32) (g : Timers → Timers) (d : Dev) : portPg (onTmr g d) vp = portPg d vp := (rfl)
@[simp] theorem portPg_onNet (vp : Fin 32) (g : Net → Net) (d : Dev) : portPg (onNet g d) vp = portPg d vp := (rfl)
@[simp] theorem portPg_onTwin (vp : Fin 32) (g : Twin → Twin) (d : Dev) : portPg (onTwin g d) vp = portPg d vp := (rfl)
@[simp] theorem portPg_onPost (vp : Fin 32) (i : Fin 3) (g : Post → Post) (d : Dev) : portPg (onPost i g d) vp = portPg d vp := (rfl)
@[simp] theorem portPg_settle (vp : Fin 32) (a : Dev) (d : Dev) : portPg (settle a d) vp = portPg d vp := (rfl)
@[simp] theorem livePhases_stopTimer (vp : Fin 32) (ev : Instr) (d : Dev) : livePhases (stopTimer ev d) vp = livePhases d vp := (rfl)
@[simp] theorem livePhases_stopTimers (vp : Fin 32) (l : List Instr) (d : Dev) : livePhases (stopTimers l d) vp = livePhases d vp := (rfl)
@[simp] theorem livePhases_startTimer (vp : Fin 32) (ev : Instr) (t : Nat) (d : Dev) : livePhases (startTimer ev t d) vp = livePhases d vp := (rfl)
@[simp] theorem livePhases_startTimerAt (vp : Fin 32) (ev : Instr) (t : Nat) (d : Dev) : livePhases (startTimerAt ev t d) vp = livePhases d vp := (rfl)
@[simp] theorem livePhases_portEvent (vp : Fin 32) (q : Fin 32) (i : Nat) (d : Dev) : livePhases (portEvent q i d) vp = livePhases d vp := (rfl)
@[simp] theorem livePhases_guardEvent (vp : Fin 32) (q : Fin 32) (i : Nat) (d : Dev) : livePhases (guardEvent q i d) vp = livePhases d vp := (rfl)
@[simp] theorem livePhases_post (vp : Fin 32) (ev : Instr) (d : Dev) : livePhases (post ev d) vp = livePhases d vp := (rfl)
@[simp] theorem livePhases_bumpFree (vp : Fin 32) (d : Dev) : livePhases (bumpFree d) vp = livePhases d vp := (rfl)
@[simp] theorem livePhases_setTc (vp : Fin 32) (q : Fin 32) (t : TcState) (d : Dev) : livePhases (setTc q t d) vp = livePhases d vp := (rfl)
@[simp] theorem livePhases_onPd (vp : Fin 32) (q : Fin 32) (g : PortPd → PortPd) (d : Dev) : livePhases (onPd q g d) vp = livePhases d vp := (rfl)
@[simp] theorem livePhases_onPort (vp : Fin 32) (q : Fin 32) (g : Port → Port) (d : Dev) : livePhases (onPort q g d) vp = livePhases d vp := (rfl)
@[simp] theorem livePhases_onGuard (vp : Fin 32) (q : Fin 32) (g : Guard → Guard) (d : Dev) : livePhases (onGuard q g d) vp = livePhases d vp := (rfl)
@[simp] theorem livePhases_onLoop (vp : Fin 32) (q : Fin 32) (g : Loop → Loop) (d : Dev) : livePhases (onLoop q g d) vp = livePhases d vp := (rfl)
@[simp] theorem livePhases_onHost (vp : Fin 32) (g : HostIf → HostIf) (d : Dev) : livePhases (onHost g d) vp = livePhases d vp := (rfl)
@[simp] theorem livePhases_sysEvent (vp : Fin 32) (i : Nat) (d : Dev) : livePhases (sysEvent i d) vp = livePhases d vp := (rfl)
@[simp] theorem livePhases_onColl (vp : Fin 32) (g : Collector → Collector) (d : Dev) : livePhases (onColl g d) vp = livePhases d vp := (rfl)
@[simp] theorem livePhases_onLedger (vp : Fin 32) (g : Ledger → Ledger) (d : Dev) : livePhases (onLedger g d) vp = livePhases d vp := (rfl)
@[simp] theorem livePhases_onSource (vp : Fin 32) (i : Fin 768) (g : Source → Source) (d : Dev) : livePhases (onSource i g d) vp = livePhases d vp := (rfl)
@[simp] theorem livePhases_onJrn (vp : Fin 32) (g : Journal → Journal) (d : Dev) : livePhases (onJrn g d) vp = livePhases d vp := (rfl)
@[simp] theorem livePhases_onChan (vp : Fin 32) (c : Fin 204) (g : Chan → Chan) (d : Dev) : livePhases (onChan c g d) vp = livePhases d vp := (rfl)
@[simp] theorem livePhases_onFeed (vp : Fin 32) (i : Fin 4) (g : Feed → Feed) (d : Dev) : livePhases (onFeed i g d) vp = livePhases d vp := (rfl)
@[simp] theorem livePhases_feedEvent (vp : Fin 32) (i : Fin 4) (k : Nat) (d : Dev) : livePhases (feedEvent i k d) vp = livePhases d vp := (rfl)
@[simp] theorem livePhases_onUpd (vp : Fin 32) (g : Update → Update) (d : Dev) : livePhases (onUpd g d) vp = livePhases d vp := (rfl)
@[simp] theorem livePhases_onStore (vp : Fin 32) (g : CfgStore → CfgStore) (d : Dev) : livePhases (onStore g d) vp = livePhases d vp := (rfl)
@[simp] theorem livePhases_onTmr (vp : Fin 32) (g : Timers → Timers) (d : Dev) : livePhases (onTmr g d) vp = livePhases d vp := (rfl)
@[simp] theorem livePhases_onNet (vp : Fin 32) (g : Net → Net) (d : Dev) : livePhases (onNet g d) vp = livePhases d vp := (rfl)
@[simp] theorem livePhases_onTwin (vp : Fin 32) (g : Twin → Twin) (d : Dev) : livePhases (onTwin g d) vp = livePhases d vp := (rfl)
@[simp] theorem livePhases_onPost (vp : Fin 32) (i : Fin 3) (g : Post → Post) (d : Dev) : livePhases (onPost i g d) vp = livePhases d vp := (rfl)
@[simp] theorem livePhases_settle (vp : Fin 32) (a : Dev) (d : Dev) : livePhases (settle a d) vp = livePhases d vp := (rfl)
@[simp] theorem phasesOf_stopTimer (vp : Fin 32) (ev : Instr) (d : Dev) : phasesOf (stopTimer ev d) vp = phasesOf d vp := (rfl)
@[simp] theorem phasesOf_stopTimers (vp : Fin 32) (l : List Instr) (d : Dev) : phasesOf (stopTimers l d) vp = phasesOf d vp := (rfl)
@[simp] theorem phasesOf_startTimer (vp : Fin 32) (ev : Instr) (t : Nat) (d : Dev) : phasesOf (startTimer ev t d) vp = phasesOf d vp := (rfl)
@[simp] theorem phasesOf_startTimerAt (vp : Fin 32) (ev : Instr) (t : Nat) (d : Dev) : phasesOf (startTimerAt ev t d) vp = phasesOf d vp := (rfl)
@[simp] theorem phasesOf_portEvent (vp : Fin 32) (q : Fin 32) (i : Nat) (d : Dev) : phasesOf (portEvent q i d) vp = phasesOf d vp := (rfl)
@[simp] theorem phasesOf_guardEvent (vp : Fin 32) (q : Fin 32) (i : Nat) (d : Dev) : phasesOf (guardEvent q i d) vp = phasesOf d vp := (rfl)
@[simp] theorem phasesOf_post (vp : Fin 32) (ev : Instr) (d : Dev) : phasesOf (post ev d) vp = phasesOf d vp := (rfl)
@[simp] theorem phasesOf_journal (vp : Fin 32) (c : Fin 16) (l : List Byte) (d : Dev) : phasesOf (journal c l d) vp = phasesOf d vp := by unfold phasesOf; simp
@[simp] theorem phasesOf_journalEvent (vp : Fin 32) (c : Fin 16) (x : Nat) (y : Word) (z : Nat) (d : Dev) : phasesOf (journalEvent c x y z d) vp = phasesOf d vp := by unfold phasesOf; simp
@[simp] theorem phasesOf_journalContract (vp : Fin 32) (q : Fin 32) (d : Dev) : phasesOf (journalContract q d) vp = phasesOf d vp := by unfold phasesOf; simp
@[simp] theorem phasesOf_bumpFree (vp : Fin 32) (d : Dev) : phasesOf (bumpFree d) vp = phasesOf d vp := (rfl)
@[simp] theorem phasesOf_setTc (vp : Fin 32) (q : Fin 32) (t : TcState) (d : Dev) : phasesOf (setTc q t d) vp = phasesOf d vp := (rfl)
@[simp] theorem phasesOf_onPd (vp : Fin 32) (q : Fin 32) (g : PortPd → PortPd) (d : Dev) : phasesOf (onPd q g d) vp = phasesOf d vp := (rfl)
@[simp] theorem phasesOf_onPort (vp : Fin 32) (q : Fin 32) (g : Port → Port) (d : Dev) : phasesOf (onPort q g d) vp = phasesOf d vp := (rfl)
@[simp] theorem phasesOf_onGuard (vp : Fin 32) (q : Fin 32) (g : Guard → Guard) (d : Dev) : phasesOf (onGuard q g d) vp = phasesOf d vp := (rfl)
@[simp] theorem phasesOf_onLoop (vp : Fin 32) (q : Fin 32) (g : Loop → Loop) (d : Dev) : phasesOf (onLoop q g d) vp = phasesOf d vp := (rfl)
@[simp] theorem phasesOf_onHost (vp : Fin 32) (g : HostIf → HostIf) (d : Dev) : phasesOf (onHost g d) vp = phasesOf d vp := (rfl)
@[simp] theorem phasesOf_sysEvent (vp : Fin 32) (i : Nat) (d : Dev) : phasesOf (sysEvent i d) vp = phasesOf d vp := (rfl)
@[simp] theorem phasesOf_onColl (vp : Fin 32) (g : Collector → Collector) (d : Dev) : phasesOf (onColl g d) vp = phasesOf d vp := (rfl)
@[simp] theorem phasesOf_onLedger (vp : Fin 32) (g : Ledger → Ledger) (d : Dev) : phasesOf (onLedger g d) vp = phasesOf d vp := (rfl)
@[simp] theorem phasesOf_onSource (vp : Fin 32) (i : Fin 768) (g : Source → Source) (d : Dev) : phasesOf (onSource i g d) vp = phasesOf d vp := (rfl)
@[simp] theorem phasesOf_onJrn (vp : Fin 32) (g : Journal → Journal) (d : Dev) : phasesOf (onJrn g d) vp = phasesOf d vp := (rfl)
@[simp] theorem phasesOf_onChan (vp : Fin 32) (c : Fin 204) (g : Chan → Chan) (d : Dev) : phasesOf (onChan c g d) vp = phasesOf d vp := (rfl)
@[simp] theorem phasesOf_onFeed (vp : Fin 32) (i : Fin 4) (g : Feed → Feed) (d : Dev) : phasesOf (onFeed i g d) vp = phasesOf d vp := (rfl)
@[simp] theorem phasesOf_feedEvent (vp : Fin 32) (i : Fin 4) (k : Nat) (d : Dev) : phasesOf (feedEvent i k d) vp = phasesOf d vp := (rfl)
@[simp] theorem phasesOf_onPhase (vp : Fin 32) (i : Fin 64) (g : Phase → Phase) (d : Dev) : phasesOf (onPhase i g d) vp = phasesOf d vp := (rfl)
@[simp] theorem phasesOf_onUpd (vp : Fin 32) (g : Update → Update) (d : Dev) : phasesOf (onUpd g d) vp = phasesOf d vp := (rfl)
@[simp] theorem phasesOf_onStore (vp : Fin 32) (g : CfgStore → CfgStore) (d : Dev) : phasesOf (onStore g d) vp = phasesOf d vp := (rfl)
@[simp] theorem phasesOf_onTmr (vp : Fin 32) (g : Timers → Timers) (d : Dev) : phasesOf (onTmr g d) vp = phasesOf d vp := (rfl)
@[simp] theorem phasesOf_onNet (vp : Fin 32) (g : Net → Net) (d : Dev) : phasesOf (onNet g d) vp = phasesOf d vp := (rfl)
@[simp] theorem phasesOf_onTwin (vp : Fin 32) (g : Twin → Twin) (d : Dev) : phasesOf (onTwin g d) vp = phasesOf d vp := (rfl)
@[simp] theorem phasesOf_onPost (vp : Fin 32) (i : Fin 3) (g : Post → Post) (d : Dev) : phasesOf (onPost i g d) vp = phasesOf d vp := (rfl)
@[simp] theorem phasesOf_settle (vp : Fin 32) (a : Dev) (d : Dev) : phasesOf (settle a d) vp = phasesOf d vp := (rfl)
@[simp] theorem hasPort_stopTimer (vp : Fin 32) (ev : Instr) (d : Dev) : hasPort (stopTimer ev d) vp = hasPort d vp := (rfl)
@[simp] theorem hasPort_stopTimers (vp : Fin 32) (l : List Instr) (d : Dev) : hasPort (stopTimers l d) vp = hasPort d vp := (rfl)
@[simp] theorem hasPort_startTimer (vp : Fin 32) (ev : Instr) (t : Nat) (d : Dev) : hasPort (startTimer ev t d) vp = hasPort d vp := (rfl)
@[simp] theorem hasPort_startTimerAt (vp : Fin 32) (ev : Instr) (t : Nat) (d : Dev) : hasPort (startTimerAt ev t d) vp = hasPort d vp := (rfl)
@[simp] theorem hasPort_portEvent (vp : Fin 32) (q : Fin 32) (i : Nat) (d : Dev) : hasPort (portEvent q i d) vp = hasPort d vp := (rfl)
@[simp] theorem hasPort_guardEvent (vp : Fin 32) (q : Fin 32) (i : Nat) (d : Dev) : hasPort (guardEvent q i d) vp = hasPort d vp := (rfl)
@[simp] theorem hasPort_post (vp : Fin 32) (ev : Instr) (d : Dev) : hasPort (post ev d) vp = hasPort d vp := (rfl)
@[simp] theorem hasPort_journal (vp : Fin 32) (c : Fin 16) (l : List Byte) (d : Dev) : hasPort (journal c l d) vp = hasPort d vp := by unfold hasPort; simp
@[simp] theorem hasPort_journalEvent (vp : Fin 32) (c : Fin 16) (x : Nat) (y : Word) (z : Nat) (d : Dev) : hasPort (journalEvent c x y z d) vp = hasPort d vp := by unfold hasPort; simp
@[simp] theorem hasPort_journalContract (vp : Fin 32) (q : Fin 32) (d : Dev) : hasPort (journalContract q d) vp = hasPort d vp := by unfold hasPort; simp
@[simp] theorem hasPort_bumpFree (vp : Fin 32) (d : Dev) : hasPort (bumpFree d) vp = hasPort d vp := (rfl)
@[simp] theorem hasPort_setTc (vp : Fin 32) (q : Fin 32) (t : TcState) (d : Dev) : hasPort (setTc q t d) vp = hasPort d vp := (rfl)
@[simp] theorem hasPort_onPd (vp : Fin 32) (q : Fin 32) (g : PortPd → PortPd) (d : Dev) : hasPort (onPd q g d) vp = hasPort d vp := (rfl)
@[simp] theorem hasPort_onPort (vp : Fin 32) (q : Fin 32) (g : Port → Port) (d : Dev) : hasPort (onPort q g d) vp = hasPort d vp := (rfl)
@[simp] theorem hasPort_onGuard (vp : Fin 32) (q : Fin 32) (g : Guard → Guard) (d : Dev) : hasPort (onGuard q g d) vp = hasPort d vp := (rfl)
@[simp] theorem hasPort_onLoop (vp : Fin 32) (q : Fin 32) (g : Loop → Loop) (d : Dev) : hasPort (onLoop q g d) vp = hasPort d vp := (rfl)
@[simp] theorem hasPort_onHost (vp : Fin 32) (g : HostIf → HostIf) (d : Dev) : hasPort (onHost g d) vp = hasPort d vp := (rfl)
@[simp] theorem hasPort_sysEvent (vp : Fin 32) (i : Nat) (d : Dev) : hasPort (sysEvent i d) vp = hasPort d vp := (rfl)
@[simp] theorem hasPort_onColl (vp : Fin 32) (g : Collector → Collector) (d : Dev) : hasPort (onColl g d) vp = hasPort d vp := (rfl)
@[simp] theorem hasPort_onLedger (vp : Fin 32) (g : Ledger → Ledger) (d : Dev) : hasPort (onLedger g d) vp = hasPort d vp := (rfl)
@[simp] theorem hasPort_onSource (vp : Fin 32) (i : Fin 768) (g : Source → Source) (d : Dev) : hasPort (onSource i g d) vp = hasPort d vp := (rfl)
@[simp] theorem hasPort_onJrn (vp : Fin 32) (g : Journal → Journal) (d : Dev) : hasPort (onJrn g d) vp = hasPort d vp := (rfl)
@[simp] theorem hasPort_onChan (vp : Fin 32) (c : Fin 204) (g : Chan → Chan) (d : Dev) : hasPort (onChan c g d) vp = hasPort d vp := (rfl)
@[simp] theorem hasPort_onFeed (vp : Fin 32) (i : Fin 4) (g : Feed → Feed) (d : Dev) : hasPort (onFeed i g d) vp = hasPort d vp := (rfl)
@[simp] theorem hasPort_feedEvent (vp : Fin 32) (i : Fin 4) (k : Nat) (d : Dev) : hasPort (feedEvent i k d) vp = hasPort d vp := (rfl)
@[simp] theorem hasPort_onPhase (vp : Fin 32) (i : Fin 64) (g : Phase → Phase) (d : Dev) : hasPort (onPhase i g d) vp = hasPort d vp := (rfl)
@[simp] theorem hasPort_onUpd (vp : Fin 32) (g : Update → Update) (d : Dev) : hasPort (onUpd g d) vp = hasPort d vp := (rfl)
@[simp] theorem hasPort_onStore (vp : Fin 32) (g : CfgStore → CfgStore) (d : Dev) : hasPort (onStore g d) vp = hasPort d vp := (rfl)
@[simp] theorem hasPort_onTmr (vp : Fin 32) (g : Timers → Timers) (d : Dev) : hasPort (onTmr g d) vp = hasPort d vp := (rfl)
@[simp] theorem hasPort_onNet (vp : Fin 32) (g : Net → Net) (d : Dev) : hasPort (onNet g d) vp = hasPort d vp := (rfl)
@[simp] theorem hasPort_onTwin (vp : Fin 32) (g : Twin → Twin) (d : Dev) : hasPort (onTwin g d) vp = hasPort d vp := (rfl)
@[simp] theorem hasPort_onPost (vp : Fin 32) (i : Fin 3) (g : Post → Post) (d : Dev) : hasPort (onPost i g d) vp = hasPort d vp := (rfl)
@[simp] theorem hasPort_settle (vp : Fin 32) (a : Dev) (d : Dev) : hasPort (settle a d) vp = hasPort d vp := (rfl)
@[simp] theorem diePort_stopTimer (vp : Fin 32) (ev : Instr) (d : Dev) : diePort (stopTimer ev d) vp = diePort d vp := (rfl)
@[simp] theorem diePort_stopTimers (vp : Fin 32) (l : List Instr) (d : Dev) : diePort (stopTimers l d) vp = diePort d vp := (rfl)
@[simp] theorem diePort_startTimer (vp : Fin 32) (ev : Instr) (t : Nat) (d : Dev) : diePort (startTimer ev t d) vp = diePort d vp := (rfl)
@[simp] theorem diePort_startTimerAt (vp : Fin 32) (ev : Instr) (t : Nat) (d : Dev) : diePort (startTimerAt ev t d) vp = diePort d vp := (rfl)
@[simp] theorem diePort_portEvent (vp : Fin 32) (q : Fin 32) (i : Nat) (d : Dev) : diePort (portEvent q i d) vp = diePort d vp := (rfl)
@[simp] theorem diePort_guardEvent (vp : Fin 32) (q : Fin 32) (i : Nat) (d : Dev) : diePort (guardEvent q i d) vp = diePort d vp := (rfl)
@[simp] theorem diePort_post (vp : Fin 32) (ev : Instr) (d : Dev) : diePort (post ev d) vp = diePort d vp := (rfl)
@[simp] theorem diePort_journal (vp : Fin 32) (c : Fin 16) (l : List Byte) (d : Dev) : diePort (journal c l d) vp = diePort d vp := by unfold diePort; simp
@[simp] theorem diePort_journalEvent (vp : Fin 32) (c : Fin 16) (x : Nat) (y : Word) (z : Nat) (d : Dev) : diePort (journalEvent c x y z d) vp = diePort d vp := by unfold diePort; simp
@[simp] theorem diePort_journalContract (vp : Fin 32) (q : Fin 32) (d : Dev) : diePort (journalContract q d) vp = diePort d vp := by unfold diePort; simp
@[simp] theorem diePort_bumpFree (vp : Fin 32) (d : Dev) : diePort (bumpFree d) vp = diePort d vp := (rfl)
@[simp] theorem diePort_setTc (vp : Fin 32) (q : Fin 32) (t : TcState) (d : Dev) : diePort (setTc q t d) vp = diePort d vp := (rfl)
@[simp] theorem diePort_onPd (vp : Fin 32) (q : Fin 32) (g : PortPd → PortPd) (d : Dev) : diePort (onPd q g d) vp = diePort d vp := (rfl)
@[simp] theorem diePort_onPort (vp : Fin 32) (q : Fin 32) (g : Port → Port) (d : Dev) : diePort (onPort q g d) vp = diePort d vp := (rfl)
@[simp] theorem diePort_onGuard (vp : Fin 32) (q : Fin 32) (g : Guard → Guard) (d : Dev) : diePort (onGuard q g d) vp = diePort d vp := (rfl)
@[simp] theorem diePort_onLoop (vp : Fin 32) (q : Fin 32) (g : Loop → Loop) (d : Dev) : diePort (onLoop q g d) vp = diePort d vp := (rfl)
@[simp] theorem diePort_onHost (vp : Fin 32) (g : HostIf → HostIf) (d : Dev) : diePort (onHost g d) vp = diePort d vp := (rfl)
@[simp] theorem diePort_sysEvent (vp : Fin 32) (i : Nat) (d : Dev) : diePort (sysEvent i d) vp = diePort d vp := (rfl)
@[simp] theorem diePort_onColl (vp : Fin 32) (g : Collector → Collector) (d : Dev) : diePort (onColl g d) vp = diePort d vp := (rfl)
@[simp] theorem diePort_onLedger (vp : Fin 32) (g : Ledger → Ledger) (d : Dev) : diePort (onLedger g d) vp = diePort d vp := (rfl)
@[simp] theorem diePort_onSource (vp : Fin 32) (i : Fin 768) (g : Source → Source) (d : Dev) : diePort (onSource i g d) vp = diePort d vp := (rfl)
@[simp] theorem diePort_onJrn (vp : Fin 32) (g : Journal → Journal) (d : Dev) : diePort (onJrn g d) vp = diePort d vp := (rfl)
@[simp] theorem diePort_onChan (vp : Fin 32) (c : Fin 204) (g : Chan → Chan) (d : Dev) : diePort (onChan c g d) vp = diePort d vp := (rfl)
@[simp] theorem diePort_onFeed (vp : Fin 32) (i : Fin 4) (g : Feed → Feed) (d : Dev) : diePort (onFeed i g d) vp = diePort d vp := (rfl)
@[simp] theorem diePort_feedEvent (vp : Fin 32) (i : Fin 4) (k : Nat) (d : Dev) : diePort (feedEvent i k d) vp = diePort d vp := (rfl)
@[simp] theorem diePort_onPhase (vp : Fin 32) (i : Fin 64) (g : Phase → Phase) (d : Dev) : diePort (onPhase i g d) vp = diePort d vp := (rfl)
@[simp] theorem diePort_onUpd (vp : Fin 32) (g : Update → Update) (d : Dev) : diePort (onUpd g d) vp = diePort d vp := (rfl)
@[simp] theorem diePort_onStore (vp : Fin 32) (g : CfgStore → CfgStore) (d : Dev) : diePort (onStore g d) vp = diePort d vp := (rfl)
@[simp] theorem diePort_onTmr (vp : Fin 32) (g : Timers → Timers) (d : Dev) : diePort (onTmr g d) vp = diePort d vp := (rfl)
@[simp] theorem diePort_onNet (vp : Fin 32) (g : Net → Net) (d : Dev) : diePort (onNet g d) vp = diePort d vp := (rfl)
@[simp] theorem diePort_onTwin (vp : Fin 32) (g : Twin → Twin) (d : Dev) : diePort (onTwin g d) vp = diePort d vp := (rfl)
@[simp] theorem diePort_onPost (vp : Fin 32) (i : Fin 3) (g : Post → Post) (d : Dev) : diePort (onPost i g d) vp = diePort d vp := (rfl)
@[simp] theorem diePort_settle (vp : Fin 32) (a : Dev) (d : Dev) : diePort (settle a d) vp = diePort d vp := (rfl)
@[simp] theorem lostLink_stopTimer (vm : Fin 768) (ev : Instr) (d : Dev) : lostLink (stopTimer ev d) vm = lostLink d vm := (rfl)
@[simp] theorem lostLink_stopTimers (vm : Fin 768) (l : List Instr) (d : Dev) : lostLink (stopTimers l d) vm = lostLink d vm := (rfl)
@[simp] theorem lostLink_startTimer (vm : Fin 768) (ev : Instr) (t : Nat) (d : Dev) : lostLink (startTimer ev t d) vm = lostLink d vm := (rfl)
@[simp] theorem lostLink_startTimerAt (vm : Fin 768) (ev : Instr) (t : Nat) (d : Dev) : lostLink (startTimerAt ev t d) vm = lostLink d vm := (rfl)
@[simp] theorem lostLink_portEvent (vm : Fin 768) (q : Fin 32) (i : Nat) (d : Dev) : lostLink (portEvent q i d) vm = lostLink d vm := (rfl)
@[simp] theorem lostLink_guardEvent (vm : Fin 768) (q : Fin 32) (i : Nat) (d : Dev) : lostLink (guardEvent q i d) vm = lostLink d vm := (rfl)
@[simp] theorem lostLink_post (vm : Fin 768) (ev : Instr) (d : Dev) : lostLink (post ev d) vm = lostLink d vm := (rfl)
@[simp] theorem lostLink_journal (vm : Fin 768) (c : Fin 16) (l : List Byte) (d : Dev) : lostLink (journal c l d) vm = lostLink d vm := by unfold lostLink; simp
@[simp] theorem lostLink_journalEvent (vm : Fin 768) (c : Fin 16) (x : Nat) (y : Word) (z : Nat) (d : Dev) : lostLink (journalEvent c x y z d) vm = lostLink d vm := by unfold lostLink; simp
@[simp] theorem lostLink_journalContract (vm : Fin 768) (q : Fin 32) (d : Dev) : lostLink (journalContract q d) vm = lostLink d vm := by unfold lostLink; simp
@[simp] theorem lostLink_bumpFree (vm : Fin 768) (d : Dev) : lostLink (bumpFree d) vm = lostLink d vm := (rfl)
@[simp] theorem lostLink_setTc (vm : Fin 768) (q : Fin 32) (t : TcState) (d : Dev) : lostLink (setTc q t d) vm = lostLink d vm := (rfl)
@[simp] theorem lostLink_onPd (vm : Fin 768) (q : Fin 32) (g : PortPd → PortPd) (d : Dev) : lostLink (onPd q g d) vm = lostLink d vm := (rfl)
@[simp] theorem lostLink_onPort (vm : Fin 768) (q : Fin 32) (g : Port → Port) (d : Dev) : lostLink (onPort q g d) vm = lostLink d vm := (rfl)
@[simp] theorem lostLink_onGuard (vm : Fin 768) (q : Fin 32) (g : Guard → Guard) (d : Dev) : lostLink (onGuard q g d) vm = lostLink d vm := (rfl)
@[simp] theorem lostLink_onLoop (vm : Fin 768) (q : Fin 32) (g : Loop → Loop) (d : Dev) : lostLink (onLoop q g d) vm = lostLink d vm := (rfl)
@[simp] theorem lostLink_onHost (vm : Fin 768) (g : HostIf → HostIf) (d : Dev) : lostLink (onHost g d) vm = lostLink d vm := (rfl)
@[simp] theorem lostLink_sysEvent (vm : Fin 768) (i : Nat) (d : Dev) : lostLink (sysEvent i d) vm = lostLink d vm := (rfl)
@[simp] theorem lostLink_onColl (vm : Fin 768) (g : Collector → Collector) (d : Dev) : lostLink (onColl g d) vm = lostLink d vm := (rfl)
@[simp] theorem lostLink_onLedger (vm : Fin 768) (g : Ledger → Ledger) (d : Dev) : lostLink (onLedger g d) vm = lostLink d vm := (rfl)
@[simp] theorem lostLink_onSource (vm : Fin 768) (i : Fin 768) (g : Source → Source) (d : Dev) : lostLink (onSource i g d) vm = lostLink d vm := (rfl)
@[simp] theorem lostLink_onJrn (vm : Fin 768) (g : Journal → Journal) (d : Dev) : lostLink (onJrn g d) vm = lostLink d vm := (rfl)
@[simp] theorem lostLink_onChan (vm : Fin 768) (c : Fin 204) (g : Chan → Chan) (d : Dev) : lostLink (onChan c g d) vm = lostLink d vm := (rfl)
@[simp] theorem lostLink_onFeed (vm : Fin 768) (i : Fin 4) (g : Feed → Feed) (d : Dev) : lostLink (onFeed i g d) vm = lostLink d vm := (rfl)
@[simp] theorem lostLink_feedEvent (vm : Fin 768) (i : Fin 4) (k : Nat) (d : Dev) : lostLink (feedEvent i k d) vm = lostLink d vm := (rfl)
@[simp] theorem lostLink_onPhase (vm : Fin 768) (i : Fin 64) (g : Phase → Phase) (d : Dev) : lostLink (onPhase i g d) vm = lostLink d vm := (rfl)
@[simp] theorem lostLink_onUpd (vm : Fin 768) (g : Update → Update) (d : Dev) : lostLink (onUpd g d) vm = lostLink d vm := (rfl)
@[simp] theorem lostLink_onStore (vm : Fin 768) (g : CfgStore → CfgStore) (d : Dev) : lostLink (onStore g d) vm = lostLink d vm := (rfl)
@[simp] theorem lostLink_onTmr (vm : Fin 768) (g : Timers → Timers) (d : Dev) : lostLink (onTmr g d) vm = lostLink d vm := (rfl)
@[simp] theorem lostLink_onNet (vm : Fin 768) (g : Net → Net) (d : Dev) : lostLink (onNet g d) vm = lostLink d vm := (rfl)
@[simp] theorem lostLink_onTwin (vm : Fin 768) (g : Twin → Twin) (d : Dev) : lostLink (onTwin g d) vm = lostLink d vm := (rfl)
@[simp] theorem lostLink_onPost (vm : Fin 768) (i : Fin 3) (g : Post → Post) (d : Dev) : lostLink (onPost i g d) vm = lostLink d vm := (rfl)
@[simp] theorem lostLink_settle (vm : Fin 768) (a : Dev) (d : Dev) : lostLink (settle a d) vm = lostLink d vm := (rfl)
@[simp] theorem lostPort_stopTimer (vp : Fin 32) (ev : Instr) (d : Dev) : lostPort (stopTimer ev d) vp = lostPort d vp := (rfl)
@[simp] theorem lostPort_stopTimers (vp : Fin 32) (l : List Instr) (d : Dev) : lostPort (stopTimers l d) vp = lostPort d vp := (rfl)
@[simp] theorem lostPort_startTimer (vp : Fin 32) (ev : Instr) (t : Nat) (d : Dev) : lostPort (startTimer ev t d) vp = lostPort d vp := (rfl)
@[simp] theorem lostPort_startTimerAt (vp : Fin 32) (ev : Instr) (t : Nat) (d : Dev) : lostPort (startTimerAt ev t d) vp = lostPort d vp := (rfl)
@[simp] theorem lostPort_portEvent (vp : Fin 32) (q : Fin 32) (i : Nat) (d : Dev) : lostPort (portEvent q i d) vp = lostPort d vp := (rfl)
@[simp] theorem lostPort_guardEvent (vp : Fin 32) (q : Fin 32) (i : Nat) (d : Dev) : lostPort (guardEvent q i d) vp = lostPort d vp := (rfl)
@[simp] theorem lostPort_post (vp : Fin 32) (ev : Instr) (d : Dev) : lostPort (post ev d) vp = lostPort d vp := (rfl)
@[simp] theorem lostPort_bumpFree (vp : Fin 32) (d : Dev) : lostPort (bumpFree d) vp = lostPort d vp := (rfl)
@[simp] theorem lostPort_setTc (vp : Fin 32) (q : Fin 32) (t : TcState) (d : Dev) : lostPort (setTc q t d) vp = lostPort d vp := (rfl)
@[simp] theorem lostPort_onPd (vp : Fin 32) (q : Fin 32) (g : PortPd → PortPd) (d : Dev) : lostPort (onPd q g d) vp = lostPort d vp := (rfl)
@[simp] theorem lostPort_onPort (vp : Fin 32) (q : Fin 32) (g : Port → Port) (d : Dev) : lostPort (onPort q g d) vp = lostPort d vp := (rfl)
@[simp] theorem lostPort_onGuard (vp : Fin 32) (q : Fin 32) (g : Guard → Guard) (d : Dev) : lostPort (onGuard q g d) vp = lostPort d vp := (rfl)
@[simp] theorem lostPort_onLoop (vp : Fin 32) (q : Fin 32) (g : Loop → Loop) (d : Dev) : lostPort (onLoop q g d) vp = lostPort d vp := (rfl)
@[simp] theorem lostPort_onHost (vp : Fin 32) (g : HostIf → HostIf) (d : Dev) : lostPort (onHost g d) vp = lostPort d vp := (rfl)
@[simp] theorem lostPort_sysEvent (vp : Fin 32) (i : Nat) (d : Dev) : lostPort (sysEvent i d) vp = lostPort d vp := (rfl)
@[simp] theorem lostPort_onColl (vp : Fin 32) (g : Collector → Collector) (d : Dev) : lostPort (onColl g d) vp = lostPort d vp := (rfl)
@[simp] theorem lostPort_onLedger (vp : Fin 32) (g : Ledger → Ledger) (d : Dev) : lostPort (onLedger g d) vp = lostPort d vp := (rfl)
@[simp] theorem lostPort_onSource (vp : Fin 32) (i : Fin 768) (g : Source → Source) (d : Dev) : lostPort (onSource i g d) vp = lostPort d vp := (rfl)
@[simp] theorem lostPort_onJrn (vp : Fin 32) (g : Journal → Journal) (d : Dev) : lostPort (onJrn g d) vp = lostPort d vp := (rfl)
@[simp] theorem lostPort_onChan (vp : Fin 32) (c : Fin 204) (g : Chan → Chan) (d : Dev) : lostPort (onChan c g d) vp = lostPort d vp := (rfl)
@[simp] theorem lostPort_onFeed (vp : Fin 32) (i : Fin 4) (g : Feed → Feed) (d : Dev) : lostPort (onFeed i g d) vp = lostPort d vp := (rfl)
@[simp] theorem lostPort_feedEvent (vp : Fin 32) (i : Fin 4) (k : Nat) (d : Dev) : lostPort (feedEvent i k d) vp = lostPort d vp := (rfl)
@[simp] theorem lostPort_onPhase (vp : Fin 32) (i : Fin 64) (g : Phase → Phase) (d : Dev) : lostPort (onPhase i g d) vp = lostPort d vp := (rfl)
@[simp] theorem lostPort_onUpd (vp : Fin 32) (g : Update → Update) (d : Dev) : lostPort (onUpd g d) vp = lostPort d vp := (rfl)
@[simp] theorem lostPort_onStore (vp : Fin 32) (g : CfgStore → CfgStore) (d : Dev) : lostPort (onStore g d) vp = lostPort d vp := (rfl)
@[simp] theorem lostPort_onTmr (vp : Fin 32) (g : Timers → Timers) (d : Dev) : lostPort (onTmr g d) vp = lostPort d vp := (rfl)
@[simp] theorem lostPort_onNet (vp : Fin 32) (g : Net → Net) (d : Dev) : lostPort (onNet g d) vp = lostPort d vp := (rfl)
@[simp] theorem lostPort_onTwin (vp : Fin 32) (g : Twin → Twin) (d : Dev) : lostPort (onTwin g d) vp = lostPort d vp := (rfl)
@[simp] theorem lostPort_onPost (vp : Fin 32) (i : Fin 3) (g : Post → Post) (d : Dev) : lostPort (onPost i g d) vp = lostPort d vp := (rfl)
@[simp] theorem lostPort_settle (vp : Fin 32) (a : Dev) (d : Dev) : lostPort (settle a d) vp = lostPort d vp := (rfl)
@[simp] theorem extest_stopTimer (ev : Instr) (d : Dev) : extest (stopTimer ev d) = extest d := (rfl)
@[simp] theorem extest_stopTimers (l : List Instr) (d : Dev) : extest (stopTimers l d) = extest d := (rfl)
@[simp] theorem extest_startTimer (ev : Instr) (t : Nat) (d : Dev) : extest (startTimer ev t d) = extest d := (rfl)
@[simp] theorem extest_startTimerAt (ev : Instr) (t : Nat) (d : Dev) : extest (startTimerAt ev t d) = extest d := (rfl)
@[simp] theorem extest_portEvent (q : Fin 32) (i : Nat) (d : Dev) : extest (portEvent q i d) = extest d := (rfl)
@[simp] theorem extest_guardEvent (q : Fin 32) (i : Nat) (d : Dev) : extest (guardEvent q i d) = extest d := (rfl)
@[simp] theorem extest_post (ev : Instr) (d : Dev) : extest (post ev d) = extest d := (rfl)
@[simp] theorem extest_journal (c : Fin 16) (l : List Byte) (d : Dev) : extest (journal c l d) = extest d := by unfold extest; simp
@[simp] theorem extest_journalEvent (c : Fin 16) (x : Nat) (y : Word) (z : Nat) (d : Dev) : extest (journalEvent c x y z d) = extest d := by unfold extest; simp
@[simp] theorem extest_journalContract (q : Fin 32) (d : Dev) : extest (journalContract q d) = extest d := by unfold extest; simp
@[simp] theorem extest_bumpFree (d : Dev) : extest (bumpFree d) = extest d := (rfl)
@[simp] theorem extest_setTc (q : Fin 32) (t : TcState) (d : Dev) : extest (setTc q t d) = extest d := (rfl)
@[simp] theorem extest_onPd (q : Fin 32) (g : PortPd → PortPd) (d : Dev) : extest (onPd q g d) = extest d := (rfl)
@[simp] theorem extest_onPort (q : Fin 32) (g : Port → Port) (d : Dev) : extest (onPort q g d) = extest d := (rfl)
@[simp] theorem extest_onGuard (q : Fin 32) (g : Guard → Guard) (d : Dev) : extest (onGuard q g d) = extest d := (rfl)
@[simp] theorem extest_onLoop (q : Fin 32) (g : Loop → Loop) (d : Dev) : extest (onLoop q g d) = extest d := (rfl)
@[simp] theorem extest_onHost (g : HostIf → HostIf) (d : Dev) : extest (onHost g d) = extest d := (rfl)
@[simp] theorem extest_sysEvent (i : Nat) (d : Dev) : extest (sysEvent i d) = extest d := (rfl)
@[simp] theorem extest_onColl (g : Collector → Collector) (d : Dev) : extest (onColl g d) = extest d := (rfl)
@[simp] theorem extest_onLedger (g : Ledger → Ledger) (d : Dev) : extest (onLedger g d) = extest d := (rfl)
@[simp] theorem extest_onSource (i : Fin 768) (g : Source → Source) (d : Dev) : extest (onSource i g d) = extest d := (rfl)
@[simp] theorem extest_onJrn (g : Journal → Journal) (d : Dev) : extest (onJrn g d) = extest d := (rfl)
@[simp] theorem extest_onChan (c : Fin 204) (g : Chan → Chan) (d : Dev) : extest (onChan c g d) = extest d := (rfl)
@[simp] theorem extest_onFeed (i : Fin 4) (g : Feed → Feed) (d : Dev) : extest (onFeed i g d) = extest d := (rfl)
@[simp] theorem extest_feedEvent (i : Fin 4) (k : Nat) (d : Dev) : extest (feedEvent i k d) = extest d := (rfl)
@[simp] theorem extest_onPhase (i : Fin 64) (g : Phase → Phase) (d : Dev) : extest (onPhase i g d) = extest d := (rfl)
@[simp] theorem extest_onUpd (g : Update → Update) (d : Dev) : extest (onUpd g d) = extest d := (rfl)
@[simp] theorem extest_onStore (g : CfgStore → CfgStore) (d : Dev) : extest (onStore g d) = extest d := (rfl)
@[simp] theorem extest_onTmr (g : Timers → Timers) (d : Dev) : extest (onTmr g d) = extest d := (rfl)
@[simp] theorem extest_onNet (g : Net → Net) (d : Dev) : extest (onNet g d) = extest d := (rfl)
@[simp] theorem extest_onTwin (g : Twin → Twin) (d : Dev) : extest (onTwin g d) = extest d := (rfl)
@[simp] theorem extest_onPost (i : Fin 3) (g : Post → Post) (d : Dev) : extest (onPost i g d) = extest d := (rfl)
@[simp] theorem extest_settle (a : Dev) (d : Dev) : extest (settle a d) = extest d := (rfl)
@[simp] theorem elfLost_stopTimer (ev : Instr) (d : Dev) : elfLost (stopTimer ev d) = elfLost d := (rfl)
@[simp] theorem elfLost_stopTimers (l : List Instr) (d : Dev) : elfLost (stopTimers l d) = elfLost d := (rfl)
@[simp] theorem elfLost_startTimer (ev : Instr) (t : Nat) (d : Dev) : elfLost (startTimer ev t d) = elfLost d := (rfl)
@[simp] theorem elfLost_startTimerAt (ev : Instr) (t : Nat) (d : Dev) : elfLost (startTimerAt ev t d) = elfLost d := (rfl)
@[simp] theorem elfLost_portEvent (q : Fin 32) (i : Nat) (d : Dev) : elfLost (portEvent q i d) = elfLost d := (rfl)
@[simp] theorem elfLost_guardEvent (q : Fin 32) (i : Nat) (d : Dev) : elfLost (guardEvent q i d) = elfLost d := (rfl)
@[simp] theorem elfLost_post (ev : Instr) (d : Dev) : elfLost (post ev d) = elfLost d := (rfl)
@[simp] theorem elfLost_journal (c : Fin 16) (l : List Byte) (d : Dev) : elfLost (journal c l d) = elfLost d := by unfold elfLost; simp
@[simp] theorem elfLost_journalEvent (c : Fin 16) (x : Nat) (y : Word) (z : Nat) (d : Dev) : elfLost (journalEvent c x y z d) = elfLost d := by unfold elfLost; simp
@[simp] theorem elfLost_journalContract (q : Fin 32) (d : Dev) : elfLost (journalContract q d) = elfLost d := by unfold elfLost; simp
@[simp] theorem elfLost_bumpFree (d : Dev) : elfLost (bumpFree d) = elfLost d := (rfl)
@[simp] theorem elfLost_setTc (q : Fin 32) (t : TcState) (d : Dev) : elfLost (setTc q t d) = elfLost d := (rfl)
@[simp] theorem elfLost_onPd (q : Fin 32) (g : PortPd → PortPd) (d : Dev) : elfLost (onPd q g d) = elfLost d := (rfl)
@[simp] theorem elfLost_onPort (q : Fin 32) (g : Port → Port) (d : Dev) : elfLost (onPort q g d) = elfLost d := (rfl)
@[simp] theorem elfLost_onGuard (q : Fin 32) (g : Guard → Guard) (d : Dev) : elfLost (onGuard q g d) = elfLost d := (rfl)
@[simp] theorem elfLost_onLoop (q : Fin 32) (g : Loop → Loop) (d : Dev) : elfLost (onLoop q g d) = elfLost d := (rfl)
@[simp] theorem elfLost_onHost (g : HostIf → HostIf) (d : Dev) : elfLost (onHost g d) = elfLost d := (rfl)
@[simp] theorem elfLost_sysEvent (i : Nat) (d : Dev) : elfLost (sysEvent i d) = elfLost d := (rfl)
@[simp] theorem elfLost_onColl (g : Collector → Collector) (d : Dev) : elfLost (onColl g d) = elfLost d := (rfl)
@[simp] theorem elfLost_onLedger (g : Ledger → Ledger) (d : Dev) : elfLost (onLedger g d) = elfLost d := (rfl)
@[simp] theorem elfLost_onSource (i : Fin 768) (g : Source → Source) (d : Dev) : elfLost (onSource i g d) = elfLost d := (rfl)
@[simp] theorem elfLost_onJrn (g : Journal → Journal) (d : Dev) : elfLost (onJrn g d) = elfLost d := (rfl)
@[simp] theorem elfLost_onChan (c : Fin 204) (g : Chan → Chan) (d : Dev) : elfLost (onChan c g d) = elfLost d := (rfl)
@[simp] theorem elfLost_onFeed (i : Fin 4) (g : Feed → Feed) (d : Dev) : elfLost (onFeed i g d) = elfLost d := (rfl)
@[simp] theorem elfLost_feedEvent (i : Fin 4) (k : Nat) (d : Dev) : elfLost (feedEvent i k d) = elfLost d := (rfl)
@[simp] theorem elfLost_onPhase (i : Fin 64) (g : Phase → Phase) (d : Dev) : elfLost (onPhase i g d) = elfLost d := (rfl)
@[simp] theorem elfLost_onUpd (g : Update → Update) (d : Dev) : elfLost (onUpd g d) = elfLost d := (rfl)
@[simp] theorem elfLost_onStore (g : CfgStore → CfgStore) (d : Dev) : elfLost (onStore g d) = elfLost d := (rfl)
@[simp] theorem elfLost_onTmr (g : Timers → Timers) (d : Dev) : elfLost (onTmr g d) = elfLost d := (rfl)
@[simp] theorem elfLost_onNet (g : Net → Net) (d : Dev) : elfLost (onNet g d) = elfLost d := (rfl)
@[simp] theorem elfLost_onTwin (g : Twin → Twin) (d : Dev) : elfLost (onTwin g d) = elfLost d := (rfl)
@[simp] theorem elfLost_onPost (i : Fin 3) (g : Post → Post) (d : Dev) : elfLost (onPost i g d) = elfLost d := (rfl)
@[simp] theorem elfLost_settle (a : Dev) (d : Dev) : elfLost (settle a d) = elfLost d := (rfl)
@[simp] theorem feedEnabled_stopTimer (vf : Fin 4) (ev : Instr) (d : Dev) : feedEnabled (stopTimer ev d) vf = feedEnabled d vf := (rfl)
@[simp] theorem feedEnabled_stopTimers (vf : Fin 4) (l : List Instr) (d : Dev) : feedEnabled (stopTimers l d) vf = feedEnabled d vf := (rfl)
@[simp] theorem feedEnabled_startTimer (vf : Fin 4) (ev : Instr) (t : Nat) (d : Dev) : feedEnabled (startTimer ev t d) vf = feedEnabled d vf := (rfl)
@[simp] theorem feedEnabled_startTimerAt (vf : Fin 4) (ev : Instr) (t : Nat) (d : Dev) : feedEnabled (startTimerAt ev t d) vf = feedEnabled d vf := (rfl)
@[simp] theorem feedEnabled_portEvent (vf : Fin 4) (q : Fin 32) (i : Nat) (d : Dev) : feedEnabled (portEvent q i d) vf = feedEnabled d vf := (rfl)
@[simp] theorem feedEnabled_guardEvent (vf : Fin 4) (q : Fin 32) (i : Nat) (d : Dev) : feedEnabled (guardEvent q i d) vf = feedEnabled d vf := (rfl)
@[simp] theorem feedEnabled_post (vf : Fin 4) (ev : Instr) (d : Dev) : feedEnabled (post ev d) vf = feedEnabled d vf := (rfl)
@[simp] theorem feedEnabled_journal (vf : Fin 4) (c : Fin 16) (l : List Byte) (d : Dev) : feedEnabled (journal c l d) vf = feedEnabled d vf := by unfold feedEnabled; simp
@[simp] theorem feedEnabled_journalEvent (vf : Fin 4) (c : Fin 16) (x : Nat) (y : Word) (z : Nat) (d : Dev) : feedEnabled (journalEvent c x y z d) vf = feedEnabled d vf := by unfold feedEnabled; simp
@[simp] theorem feedEnabled_journalContract (vf : Fin 4) (q : Fin 32) (d : Dev) : feedEnabled (journalContract q d) vf = feedEnabled d vf := by unfold feedEnabled; simp
@[simp] theorem feedEnabled_bumpFree (vf : Fin 4) (d : Dev) : feedEnabled (bumpFree d) vf = feedEnabled d vf := (rfl)
@[simp] theorem feedEnabled_setTc (vf : Fin 4) (q : Fin 32) (t : TcState) (d : Dev) : feedEnabled (setTc q t d) vf = feedEnabled d vf := (rfl)
@[simp] theorem feedEnabled_onPd (vf : Fin 4) (q : Fin 32) (g : PortPd → PortPd) (d : Dev) : feedEnabled (onPd q g d) vf = feedEnabled d vf := (rfl)
@[simp] theorem feedEnabled_onPort (vf : Fin 4) (q : Fin 32) (g : Port → Port) (d : Dev) : feedEnabled (onPort q g d) vf = feedEnabled d vf := (rfl)
@[simp] theorem feedEnabled_onGuard (vf : Fin 4) (q : Fin 32) (g : Guard → Guard) (d : Dev) : feedEnabled (onGuard q g d) vf = feedEnabled d vf := (rfl)
@[simp] theorem feedEnabled_onLoop (vf : Fin 4) (q : Fin 32) (g : Loop → Loop) (d : Dev) : feedEnabled (onLoop q g d) vf = feedEnabled d vf := (rfl)
@[simp] theorem feedEnabled_onHost (vf : Fin 4) (g : HostIf → HostIf) (d : Dev) : feedEnabled (onHost g d) vf = feedEnabled d vf := (rfl)
@[simp] theorem feedEnabled_sysEvent (vf : Fin 4) (i : Nat) (d : Dev) : feedEnabled (sysEvent i d) vf = feedEnabled d vf := (rfl)
@[simp] theorem feedEnabled_onColl (vf : Fin 4) (g : Collector → Collector) (d : Dev) : feedEnabled (onColl g d) vf = feedEnabled d vf := (rfl)
@[simp] theorem feedEnabled_onLedger (vf : Fin 4) (g : Ledger → Ledger) (d : Dev) : feedEnabled (onLedger g d) vf = feedEnabled d vf := (rfl)
@[simp] theorem feedEnabled_onSource (vf : Fin 4) (i : Fin 768) (g : Source → Source) (d : Dev) : feedEnabled (onSource i g d) vf = feedEnabled d vf := (rfl)
@[simp] theorem feedEnabled_onJrn (vf : Fin 4) (g : Journal → Journal) (d : Dev) : feedEnabled (onJrn g d) vf = feedEnabled d vf := (rfl)
@[simp] theorem feedEnabled_onChan (vf : Fin 4) (c : Fin 204) (g : Chan → Chan) (d : Dev) : feedEnabled (onChan c g d) vf = feedEnabled d vf := (rfl)
@[simp] theorem feedEnabled_onPhase (vf : Fin 4) (i : Fin 64) (g : Phase → Phase) (d : Dev) : feedEnabled (onPhase i g d) vf = feedEnabled d vf := (rfl)
@[simp] theorem feedEnabled_onUpd (vf : Fin 4) (g : Update → Update) (d : Dev) : feedEnabled (onUpd g d) vf = feedEnabled d vf := (rfl)
@[simp] theorem feedEnabled_onStore (vf : Fin 4) (g : CfgStore → CfgStore) (d : Dev) : feedEnabled (onStore g d) vf = feedEnabled d vf := (rfl)
@[simp] theorem feedEnabled_onTmr (vf : Fin 4) (g : Timers → Timers) (d : Dev) : feedEnabled (onTmr g d) vf = feedEnabled d vf := (rfl)
@[simp] theorem feedEnabled_onNet (vf : Fin 4) (g : Net → Net) (d : Dev) : feedEnabled (onNet g d) vf = feedEnabled d vf := (rfl)
@[simp] theorem feedEnabled_onTwin (vf : Fin 4) (g : Twin → Twin) (d : Dev) : feedEnabled (onTwin g d) vf = feedEnabled d vf := (rfl)
@[simp] theorem feedEnabled_onPost (vf : Fin 4) (i : Fin 3) (g : Post → Post) (d : Dev) : feedEnabled (onPost i g d) vf = feedEnabled d vf := (rfl)
@[simp] theorem feedEnabled_settle (vf : Fin 4) (a : Dev) (d : Dev) : feedEnabled (settle a d) vf = feedEnabled d vf := (rfl)
@[simp] theorem hears_stopTimer (vp : Fin 32) (ev : Instr) (d : Dev) : hears (stopTimer ev d) vp = hears d vp := (rfl)
@[simp] theorem hears_stopTimers (vp : Fin 32) (l : List Instr) (d : Dev) : hears (stopTimers l d) vp = hears d vp := (rfl)
@[simp] theorem hears_startTimer (vp : Fin 32) (ev : Instr) (t : Nat) (d : Dev) : hears (startTimer ev t d) vp = hears d vp := (rfl)
@[simp] theorem hears_startTimerAt (vp : Fin 32) (ev : Instr) (t : Nat) (d : Dev) : hears (startTimerAt ev t d) vp = hears d vp := (rfl)
@[simp] theorem hears_guardEvent (vp : Fin 32) (q : Fin 32) (i : Nat) (d : Dev) : hears (guardEvent q i d) vp = hears d vp := (rfl)
@[simp] theorem hears_post (vp : Fin 32) (ev : Instr) (d : Dev) : hears (post ev d) vp = hears d vp := (rfl)
@[simp] theorem hears_bumpFree (vp : Fin 32) (d : Dev) : hears (bumpFree d) vp = hears d vp := (rfl)
@[simp] theorem hears_onGuard (vp : Fin 32) (q : Fin 32) (g : Guard → Guard) (d : Dev) : hears (onGuard q g d) vp = hears d vp := (rfl)
@[simp] theorem hears_onLoop (vp : Fin 32) (q : Fin 32) (g : Loop → Loop) (d : Dev) : hears (onLoop q g d) vp = hears d vp := (rfl)
@[simp] theorem hears_onHost (vp : Fin 32) (g : HostIf → HostIf) (d : Dev) : hears (onHost g d) vp = hears d vp := (rfl)
@[simp] theorem hears_sysEvent (vp : Fin 32) (i : Nat) (d : Dev) : hears (sysEvent i d) vp = hears d vp := (rfl)
@[simp] theorem hears_onColl (vp : Fin 32) (g : Collector → Collector) (d : Dev) : hears (onColl g d) vp = hears d vp := (rfl)
@[simp] theorem hears_onLedger (vp : Fin 32) (g : Ledger → Ledger) (d : Dev) : hears (onLedger g d) vp = hears d vp := (rfl)
@[simp] theorem hears_onSource (vp : Fin 32) (i : Fin 768) (g : Source → Source) (d : Dev) : hears (onSource i g d) vp = hears d vp := (rfl)
@[simp] theorem hears_onJrn (vp : Fin 32) (g : Journal → Journal) (d : Dev) : hears (onJrn g d) vp = hears d vp := (rfl)
@[simp] theorem hears_onChan (vp : Fin 32) (c : Fin 204) (g : Chan → Chan) (d : Dev) : hears (onChan c g d) vp = hears d vp := (rfl)
@[simp] theorem hears_onFeed (vp : Fin 32) (i : Fin 4) (g : Feed → Feed) (d : Dev) : hears (onFeed i g d) vp = hears d vp := (rfl)
@[simp] theorem hears_feedEvent (vp : Fin 32) (i : Fin 4) (k : Nat) (d : Dev) : hears (feedEvent i k d) vp = hears d vp := (rfl)
@[simp] theorem hears_onPhase (vp : Fin 32) (i : Fin 64) (g : Phase → Phase) (d : Dev) : hears (onPhase i g d) vp = hears d vp := (rfl)
@[simp] theorem hears_onUpd (vp : Fin 32) (g : Update → Update) (d : Dev) (h : (g d.upd).paused = d.upd.paused) :
    hears (onUpd g d) vp = hears d vp := by
  unfold hears corePaused onUpd
  simp [h]
  rfl
@[simp] theorem hears_onStore (vp : Fin 32) (g : CfgStore → CfgStore) (d : Dev) : hears (onStore g d) vp = hears d vp := (rfl)
@[simp] theorem hears_onTmr (vp : Fin 32) (g : Timers → Timers) (d : Dev) : hears (onTmr g d) vp = hears d vp := (rfl)
@[simp] theorem hears_onNet (vp : Fin 32) (g : Net → Net) (d : Dev) : hears (onNet g d) vp = hears d vp := (rfl)
@[simp] theorem hears_onPost (vp : Fin 32) (i : Fin 3) (g : Post → Post) (d : Dev) : hears (onPost i g d) vp = hears d vp := (rfl)
@[simp] theorem ready_stopTimer (vp : Fin 32) (ev : Instr) (d : Dev) : ready (stopTimer ev d) vp = ready d vp := (rfl)
@[simp] theorem ready_stopTimers (vp : Fin 32) (l : List Instr) (d : Dev) : ready (stopTimers l d) vp = ready d vp := (rfl)
@[simp] theorem ready_startTimer (vp : Fin 32) (ev : Instr) (t : Nat) (d : Dev) : ready (startTimer ev t d) vp = ready d vp := (rfl)
@[simp] theorem ready_startTimerAt (vp : Fin 32) (ev : Instr) (t : Nat) (d : Dev) : ready (startTimerAt ev t d) vp = ready d vp := (rfl)
@[simp] theorem ready_guardEvent (vp : Fin 32) (q : Fin 32) (i : Nat) (d : Dev) : ready (guardEvent q i d) vp = ready d vp := (rfl)
@[simp] theorem ready_post (vp : Fin 32) (ev : Instr) (d : Dev) : ready (post ev d) vp = ready d vp := (rfl)
@[simp] theorem ready_journal (vp : Fin 32) (c : Fin 16) (l : List Byte) (d : Dev) : ready (journal c l d) vp = ready d vp := by unfold ready; simp
@[simp] theorem ready_journalEvent (vp : Fin 32) (c : Fin 16) (x : Nat) (y : Word) (z : Nat) (d : Dev) : ready (journalEvent c x y z d) vp = ready d vp := by unfold ready; simp
@[simp] theorem ready_journalContract (vp : Fin 32) (q : Fin 32) (d : Dev) : ready (journalContract q d) vp = ready d vp := by unfold ready; simp
@[simp] theorem ready_bumpFree (vp : Fin 32) (d : Dev) : ready (bumpFree d) vp = ready d vp := (rfl)
@[simp] theorem ready_setTc (vp : Fin 32) (q : Fin 32) (t : TcState) (d : Dev) : ready (setTc q t d) vp = ready d vp := (rfl)
@[simp] theorem ready_onPort (vp : Fin 32) (q : Fin 32) (g : Port → Port) (d : Dev) : ready (onPort q g d) vp = ready d vp := (rfl)
@[simp] theorem ready_onGuard (vp : Fin 32) (q : Fin 32) (g : Guard → Guard) (d : Dev) : ready (onGuard q g d) vp = ready d vp := (rfl)
@[simp] theorem ready_onLoop (vp : Fin 32) (q : Fin 32) (g : Loop → Loop) (d : Dev) : ready (onLoop q g d) vp = ready d vp := (rfl)
@[simp] theorem ready_onHost (vp : Fin 32) (g : HostIf → HostIf) (d : Dev) : ready (onHost g d) vp = ready d vp := (rfl)
@[simp] theorem ready_sysEvent (vp : Fin 32) (i : Nat) (d : Dev) : ready (sysEvent i d) vp = ready d vp := (rfl)
@[simp] theorem ready_onColl (vp : Fin 32) (g : Collector → Collector) (d : Dev) : ready (onColl g d) vp = ready d vp := (rfl)
@[simp] theorem ready_onLedger (vp : Fin 32) (g : Ledger → Ledger) (d : Dev) : ready (onLedger g d) vp = ready d vp := (rfl)
@[simp] theorem ready_onSource (vp : Fin 32) (i : Fin 768) (g : Source → Source) (d : Dev) : ready (onSource i g d) vp = ready d vp := (rfl)
@[simp] theorem ready_onJrn (vp : Fin 32) (g : Journal → Journal) (d : Dev) : ready (onJrn g d) vp = ready d vp := (rfl)
@[simp] theorem ready_onChan (vp : Fin 32) (c : Fin 204) (g : Chan → Chan) (d : Dev) : ready (onChan c g d) vp = ready d vp := (rfl)
@[simp] theorem ready_onFeed (vp : Fin 32) (i : Fin 4) (g : Feed → Feed) (d : Dev) : ready (onFeed i g d) vp = ready d vp := (rfl)
@[simp] theorem ready_feedEvent (vp : Fin 32) (i : Fin 4) (k : Nat) (d : Dev) : ready (feedEvent i k d) vp = ready d vp := (rfl)
@[simp] theorem ready_onPhase (vp : Fin 32) (i : Fin 64) (g : Phase → Phase) (d : Dev) : ready (onPhase i g d) vp = ready d vp := (rfl)
@[simp] theorem ready_onUpd (vp : Fin 32) (g : Update → Update) (d : Dev) : ready (onUpd g d) vp = ready d vp := (rfl)
@[simp] theorem ready_onStore (vp : Fin 32) (g : CfgStore → CfgStore) (d : Dev) : ready (onStore g d) vp = ready d vp := (rfl)
@[simp] theorem ready_onTmr (vp : Fin 32) (g : Timers → Timers) (d : Dev) : ready (onTmr g d) vp = ready d vp := (rfl)
@[simp] theorem ready_onNet (vp : Fin 32) (g : Net → Net) (d : Dev) : ready (onNet g d) vp = ready d vp := (rfl)
@[simp] theorem ready_onTwin (vp : Fin 32) (g : Twin → Twin) (d : Dev) : ready (onTwin g d) vp = ready d vp := (rfl)
@[simp] theorem ready_onPost (vp : Fin 32) (i : Fin 3) (g : Post → Post) (d : Dev) : ready (onPost i g d) vp = ready d vp := (rfl)
@[simp] theorem ready_settle (vp : Fin 32) (a : Dev) (d : Dev) : ready (settle a d) vp = ready d vp := (rfl)
@[simp] theorem loopCfg_stopTimer (vp : Fin 32) (ev : Instr) (d : Dev) : loopCfg (stopTimer ev d) vp = loopCfg d vp := (rfl)
@[simp] theorem loopCfg_stopTimers (vp : Fin 32) (l : List Instr) (d : Dev) : loopCfg (stopTimers l d) vp = loopCfg d vp := (rfl)
@[simp] theorem loopCfg_startTimer (vp : Fin 32) (ev : Instr) (t : Nat) (d : Dev) : loopCfg (startTimer ev t d) vp = loopCfg d vp := (rfl)
@[simp] theorem loopCfg_startTimerAt (vp : Fin 32) (ev : Instr) (t : Nat) (d : Dev) : loopCfg (startTimerAt ev t d) vp = loopCfg d vp := (rfl)
@[simp] theorem loopCfg_portEvent (vp : Fin 32) (q : Fin 32) (i : Nat) (d : Dev) : loopCfg (portEvent q i d) vp = loopCfg d vp := (rfl)
@[simp] theorem loopCfg_guardEvent (vp : Fin 32) (q : Fin 32) (i : Nat) (d : Dev) : loopCfg (guardEvent q i d) vp = loopCfg d vp := (rfl)
@[simp] theorem loopCfg_post (vp : Fin 32) (ev : Instr) (d : Dev) : loopCfg (post ev d) vp = loopCfg d vp := (rfl)
@[simp] theorem loopCfg_journal (vp : Fin 32) (c : Fin 16) (l : List Byte) (d : Dev) : loopCfg (journal c l d) vp = loopCfg d vp := by unfold loopCfg; simp
@[simp] theorem loopCfg_journalEvent (vp : Fin 32) (c : Fin 16) (x : Nat) (y : Word) (z : Nat) (d : Dev) : loopCfg (journalEvent c x y z d) vp = loopCfg d vp := by unfold loopCfg; simp
@[simp] theorem loopCfg_journalContract (vp : Fin 32) (q : Fin 32) (d : Dev) : loopCfg (journalContract q d) vp = loopCfg d vp := by unfold loopCfg; simp
@[simp] theorem loopCfg_bumpFree (vp : Fin 32) (d : Dev) : loopCfg (bumpFree d) vp = loopCfg d vp := (rfl)
@[simp] theorem loopCfg_setTc (vp : Fin 32) (q : Fin 32) (t : TcState) (d : Dev) : loopCfg (setTc q t d) vp = loopCfg d vp := (rfl)
@[simp] theorem loopCfg_onPd (vp : Fin 32) (q : Fin 32) (g : PortPd → PortPd) (d : Dev) : loopCfg (onPd q g d) vp = loopCfg d vp := (rfl)
@[simp] theorem loopCfg_onPort (vp : Fin 32) (q : Fin 32) (g : Port → Port) (d : Dev) : loopCfg (onPort q g d) vp = loopCfg d vp := (rfl)
@[simp] theorem loopCfg_onGuard (vp : Fin 32) (q : Fin 32) (g : Guard → Guard) (d : Dev) : loopCfg (onGuard q g d) vp = loopCfg d vp := (rfl)
@[simp] theorem loopCfg_onLoop (vp : Fin 32) (q : Fin 32) (g : Loop → Loop) (d : Dev) : loopCfg (onLoop q g d) vp = loopCfg d vp := (rfl)
@[simp] theorem loopCfg_onHost (vp : Fin 32) (g : HostIf → HostIf) (d : Dev) : loopCfg (onHost g d) vp = loopCfg d vp := (rfl)
@[simp] theorem loopCfg_sysEvent (vp : Fin 32) (i : Nat) (d : Dev) : loopCfg (sysEvent i d) vp = loopCfg d vp := (rfl)
@[simp] theorem loopCfg_onColl (vp : Fin 32) (g : Collector → Collector) (d : Dev) : loopCfg (onColl g d) vp = loopCfg d vp := (rfl)
@[simp] theorem loopCfg_onLedger (vp : Fin 32) (g : Ledger → Ledger) (d : Dev) : loopCfg (onLedger g d) vp = loopCfg d vp := (rfl)
@[simp] theorem loopCfg_onSource (vp : Fin 32) (i : Fin 768) (g : Source → Source) (d : Dev) : loopCfg (onSource i g d) vp = loopCfg d vp := (rfl)
@[simp] theorem loopCfg_onJrn (vp : Fin 32) (g : Journal → Journal) (d : Dev) : loopCfg (onJrn g d) vp = loopCfg d vp := (rfl)
@[simp] theorem loopCfg_onChan (vp : Fin 32) (c : Fin 204) (g : Chan → Chan) (d : Dev) : loopCfg (onChan c g d) vp = loopCfg d vp := (rfl)
@[simp] theorem loopCfg_onFeed (vp : Fin 32) (i : Fin 4) (g : Feed → Feed) (d : Dev) : loopCfg (onFeed i g d) vp = loopCfg d vp := (rfl)
@[simp] theorem loopCfg_feedEvent (vp : Fin 32) (i : Fin 4) (k : Nat) (d : Dev) : loopCfg (feedEvent i k d) vp = loopCfg d vp := (rfl)
@[simp] theorem loopCfg_onPhase (vp : Fin 32) (i : Fin 64) (g : Phase → Phase) (d : Dev) : loopCfg (onPhase i g d) vp = loopCfg d vp := (rfl)
@[simp] theorem loopCfg_onUpd (vp : Fin 32) (g : Update → Update) (d : Dev) : loopCfg (onUpd g d) vp = loopCfg d vp := (rfl)
@[simp] theorem loopCfg_onStore (vp : Fin 32) (g : CfgStore → CfgStore) (d : Dev) : loopCfg (onStore g d) vp = loopCfg d vp := (rfl)
@[simp] theorem loopCfg_onTmr (vp : Fin 32) (g : Timers → Timers) (d : Dev) : loopCfg (onTmr g d) vp = loopCfg d vp := (rfl)
@[simp] theorem loopCfg_onNet (vp : Fin 32) (g : Net → Net) (d : Dev) : loopCfg (onNet g d) vp = loopCfg d vp := (rfl)
@[simp] theorem loopCfg_onTwin (vp : Fin 32) (g : Twin → Twin) (d : Dev) : loopCfg (onTwin g d) vp = loopCfg d vp := (rfl)
@[simp] theorem loopCfg_onPost (vp : Fin 32) (i : Fin 3) (g : Post → Post) (d : Dev) : loopCfg (onPost i g d) vp = loopCfg d vp := (rfl)
@[simp] theorem loopCfg_settle (vp : Fin 32) (a : Dev) (d : Dev) : loopCfg (settle a d) vp = loopCfg d vp := (rfl)
@[simp] theorem rpOf_stopTimer (vp : Fin 32) (ev : Instr) (d : Dev) : rpOf (stopTimer ev d) vp = rpOf d vp := (rfl)
@[simp] theorem rpOf_stopTimers (vp : Fin 32) (l : List Instr) (d : Dev) : rpOf (stopTimers l d) vp = rpOf d vp := (rfl)
@[simp] theorem rpOf_startTimer (vp : Fin 32) (ev : Instr) (t : Nat) (d : Dev) : rpOf (startTimer ev t d) vp = rpOf d vp := (rfl)
@[simp] theorem rpOf_startTimerAt (vp : Fin 32) (ev : Instr) (t : Nat) (d : Dev) : rpOf (startTimerAt ev t d) vp = rpOf d vp := (rfl)
@[simp] theorem rpOf_portEvent (vp : Fin 32) (q : Fin 32) (i : Nat) (d : Dev) : rpOf (portEvent q i d) vp = rpOf d vp := (rfl)
@[simp] theorem rpOf_guardEvent (vp : Fin 32) (q : Fin 32) (i : Nat) (d : Dev) : rpOf (guardEvent q i d) vp = rpOf d vp := (rfl)
@[simp] theorem rpOf_post (vp : Fin 32) (ev : Instr) (d : Dev) : rpOf (post ev d) vp = rpOf d vp := (rfl)
@[simp] theorem rpOf_journal (vp : Fin 32) (c : Fin 16) (l : List Byte) (d : Dev) : rpOf (journal c l d) vp = rpOf d vp := by unfold rpOf; simp
@[simp] theorem rpOf_journalEvent (vp : Fin 32) (c : Fin 16) (x : Nat) (y : Word) (z : Nat) (d : Dev) : rpOf (journalEvent c x y z d) vp = rpOf d vp := by unfold rpOf; simp
@[simp] theorem rpOf_journalContract (vp : Fin 32) (q : Fin 32) (d : Dev) : rpOf (journalContract q d) vp = rpOf d vp := by unfold rpOf; simp
@[simp] theorem rpOf_bumpFree (vp : Fin 32) (d : Dev) : rpOf (bumpFree d) vp = rpOf d vp := (rfl)
@[simp] theorem rpOf_setTc (vp : Fin 32) (q : Fin 32) (t : TcState) (d : Dev) : rpOf (setTc q t d) vp = rpOf d vp := (rfl)
@[simp] theorem rpOf_onPd (vp : Fin 32) (q : Fin 32) (g : PortPd → PortPd) (d : Dev) : rpOf (onPd q g d) vp = rpOf d vp := (rfl)
@[simp] theorem rpOf_onPort (vp : Fin 32) (q : Fin 32) (g : Port → Port) (d : Dev) : rpOf (onPort q g d) vp = rpOf d vp := (rfl)
@[simp] theorem rpOf_onGuard (vp : Fin 32) (q : Fin 32) (g : Guard → Guard) (d : Dev) : rpOf (onGuard q g d) vp = rpOf d vp := (rfl)
@[simp] theorem rpOf_onLoop (vp : Fin 32) (q : Fin 32) (g : Loop → Loop) (d : Dev) : rpOf (onLoop q g d) vp = rpOf d vp := (rfl)
@[simp] theorem rpOf_onHost (vp : Fin 32) (g : HostIf → HostIf) (d : Dev) : rpOf (onHost g d) vp = rpOf d vp := (rfl)
@[simp] theorem rpOf_sysEvent (vp : Fin 32) (i : Nat) (d : Dev) : rpOf (sysEvent i d) vp = rpOf d vp := (rfl)
@[simp] theorem rpOf_onColl (vp : Fin 32) (g : Collector → Collector) (d : Dev) : rpOf (onColl g d) vp = rpOf d vp := (rfl)
@[simp] theorem rpOf_onLedger (vp : Fin 32) (g : Ledger → Ledger) (d : Dev) : rpOf (onLedger g d) vp = rpOf d vp := (rfl)
@[simp] theorem rpOf_onSource (vp : Fin 32) (i : Fin 768) (g : Source → Source) (d : Dev) : rpOf (onSource i g d) vp = rpOf d vp := (rfl)
@[simp] theorem rpOf_onJrn (vp : Fin 32) (g : Journal → Journal) (d : Dev) : rpOf (onJrn g d) vp = rpOf d vp := (rfl)
@[simp] theorem rpOf_onChan (vp : Fin 32) (c : Fin 204) (g : Chan → Chan) (d : Dev) : rpOf (onChan c g d) vp = rpOf d vp := (rfl)
@[simp] theorem rpOf_onFeed (vp : Fin 32) (i : Fin 4) (g : Feed → Feed) (d : Dev) : rpOf (onFeed i g d) vp = rpOf d vp := (rfl)
@[simp] theorem rpOf_feedEvent (vp : Fin 32) (i : Fin 4) (k : Nat) (d : Dev) : rpOf (feedEvent i k d) vp = rpOf d vp := (rfl)
@[simp] theorem rpOf_onPhase (vp : Fin 32) (i : Fin 64) (g : Phase → Phase) (d : Dev) : rpOf (onPhase i g d) vp = rpOf d vp := (rfl)
@[simp] theorem rpOf_onUpd (vp : Fin 32) (g : Update → Update) (d : Dev) : rpOf (onUpd g d) vp = rpOf d vp := (rfl)
@[simp] theorem rpOf_onStore (vp : Fin 32) (g : CfgStore → CfgStore) (d : Dev) : rpOf (onStore g d) vp = rpOf d vp := (rfl)
@[simp] theorem rpOf_onTmr (vp : Fin 32) (g : Timers → Timers) (d : Dev) : rpOf (onTmr g d) vp = rpOf d vp := (rfl)
@[simp] theorem rpOf_onNet (vp : Fin 32) (g : Net → Net) (d : Dev) : rpOf (onNet g d) vp = rpOf d vp := (rfl)
@[simp] theorem rpOf_onTwin (vp : Fin 32) (g : Twin → Twin) (d : Dev) : rpOf (onTwin g d) vp = rpOf d vp := (rfl)
@[simp] theorem rpOf_onPost (vp : Fin 32) (i : Fin 3) (g : Post → Post) (d : Dev) : rpOf (onPost i g d) vp = rpOf d vp := (rfl)
@[simp] theorem rpOf_settle (vp : Fin 32) (a : Dev) (d : Dev) : rpOf (settle a d) vp = rpOf d vp := (rfl)
@[simp] theorem portMinimal_stopTimer (vp : Fin 32) (ev : Instr) (d : Dev) : portMinimal (stopTimer ev d) vp = portMinimal d vp := (rfl)
@[simp] theorem portMinimal_stopTimers (vp : Fin 32) (l : List Instr) (d : Dev) : portMinimal (stopTimers l d) vp = portMinimal d vp := (rfl)
@[simp] theorem portMinimal_startTimer (vp : Fin 32) (ev : Instr) (t : Nat) (d : Dev) : portMinimal (startTimer ev t d) vp = portMinimal d vp := (rfl)
@[simp] theorem portMinimal_startTimerAt (vp : Fin 32) (ev : Instr) (t : Nat) (d : Dev) : portMinimal (startTimerAt ev t d) vp = portMinimal d vp := (rfl)
@[simp] theorem portMinimal_portEvent (vp : Fin 32) (q : Fin 32) (i : Nat) (d : Dev) : portMinimal (portEvent q i d) vp = portMinimal d vp := (rfl)
@[simp] theorem portMinimal_guardEvent (vp : Fin 32) (q : Fin 32) (i : Nat) (d : Dev) : portMinimal (guardEvent q i d) vp = portMinimal d vp := (rfl)
@[simp] theorem portMinimal_post (vp : Fin 32) (ev : Instr) (d : Dev) : portMinimal (post ev d) vp = portMinimal d vp := (rfl)
@[simp] theorem portMinimal_bumpFree (vp : Fin 32) (d : Dev) : portMinimal (bumpFree d) vp = portMinimal d vp := (rfl)
@[simp] theorem portMinimal_setTc (vp : Fin 32) (q : Fin 32) (t : TcState) (d : Dev) : portMinimal (setTc q t d) vp = portMinimal d vp := (rfl)
@[simp] theorem portMinimal_onPd (vp : Fin 32) (q : Fin 32) (g : PortPd → PortPd) (d : Dev) : portMinimal (onPd q g d) vp = portMinimal d vp := (rfl)
@[simp] theorem portMinimal_onPort (vp : Fin 32) (q : Fin 32) (g : Port → Port) (d : Dev) : portMinimal (onPort q g d) vp = portMinimal d vp := (rfl)
@[simp] theorem portMinimal_onGuard (vp : Fin 32) (q : Fin 32) (g : Guard → Guard) (d : Dev) : portMinimal (onGuard q g d) vp = portMinimal d vp := (rfl)
@[simp] theorem portMinimal_onLoop (vp : Fin 32) (q : Fin 32) (g : Loop → Loop) (d : Dev) : portMinimal (onLoop q g d) vp = portMinimal d vp := (rfl)
@[simp] theorem portMinimal_onHost (vp : Fin 32) (g : HostIf → HostIf) (d : Dev) : portMinimal (onHost g d) vp = portMinimal d vp := (rfl)
@[simp] theorem portMinimal_sysEvent (vp : Fin 32) (i : Nat) (d : Dev) : portMinimal (sysEvent i d) vp = portMinimal d vp := (rfl)
@[simp] theorem portMinimal_onColl (vp : Fin 32) (g : Collector → Collector) (d : Dev) : portMinimal (onColl g d) vp = portMinimal d vp := (rfl)
@[simp] theorem portMinimal_onLedger (vp : Fin 32) (g : Ledger → Ledger) (d : Dev) : portMinimal (onLedger g d) vp = portMinimal d vp := (rfl)
@[simp] theorem portMinimal_onSource (vp : Fin 32) (i : Fin 768) (g : Source → Source) (d : Dev) : portMinimal (onSource i g d) vp = portMinimal d vp := (rfl)
@[simp] theorem portMinimal_onJrn (vp : Fin 32) (g : Journal → Journal) (d : Dev) : portMinimal (onJrn g d) vp = portMinimal d vp := (rfl)
@[simp] theorem portMinimal_onChan (vp : Fin 32) (c : Fin 204) (g : Chan → Chan) (d : Dev) : portMinimal (onChan c g d) vp = portMinimal d vp := (rfl)
@[simp] theorem portMinimal_onFeed (vp : Fin 32) (i : Fin 4) (g : Feed → Feed) (d : Dev) : portMinimal (onFeed i g d) vp = portMinimal d vp := (rfl)
@[simp] theorem portMinimal_feedEvent (vp : Fin 32) (i : Fin 4) (k : Nat) (d : Dev) : portMinimal (feedEvent i k d) vp = portMinimal d vp := (rfl)
@[simp] theorem portMinimal_onPhase (vp : Fin 32) (i : Fin 64) (g : Phase → Phase) (d : Dev) : portMinimal (onPhase i g d) vp = portMinimal d vp := (rfl)
@[simp] theorem portMinimal_onUpd (vp : Fin 32) (g : Update → Update) (d : Dev) : portMinimal (onUpd g d) vp = portMinimal d vp := (rfl)
@[simp] theorem portMinimal_onStore (vp : Fin 32) (g : CfgStore → CfgStore) (d : Dev) : portMinimal (onStore g d) vp = portMinimal d vp := (rfl)
@[simp] theorem portMinimal_onTmr (vp : Fin 32) (g : Timers → Timers) (d : Dev) : portMinimal (onTmr g d) vp = portMinimal d vp := (rfl)
@[simp] theorem portMinimal_onNet (vp : Fin 32) (g : Net → Net) (d : Dev) : portMinimal (onNet g d) vp = portMinimal d vp := (rfl)
@[simp] theorem portMinimal_onTwin (vp : Fin 32) (g : Twin → Twin) (d : Dev) : portMinimal (onTwin g d) vp = portMinimal d vp := (rfl)
@[simp] theorem portMinimal_onPost (vp : Fin 32) (i : Fin 3) (g : Post → Post) (d : Dev) : portMinimal (onPost i g d) vp = portMinimal d vp := (rfl)
@[simp] theorem portMinimal_settle (vp : Fin 32) (a : Dev) (d : Dev) : portMinimal (settle a d) vp = portMinimal d vp := (rfl)
@[simp] theorem ccSettled_stopTimer (vp : Fin 32) (ev : Instr) (d : Dev) : ccSettled (stopTimer ev d) vp = ccSettled d vp := (rfl)
@[simp] theorem ccSettled_stopTimers (vp : Fin 32) (l : List Instr) (d : Dev) : ccSettled (stopTimers l d) vp = ccSettled d vp := (rfl)
@[simp] theorem ccSettled_startTimer (vp : Fin 32) (ev : Instr) (t : Nat) (d : Dev) : ccSettled (startTimer ev t d) vp = ccSettled d vp := (rfl)
@[simp] theorem ccSettled_startTimerAt (vp : Fin 32) (ev : Instr) (t : Nat) (d : Dev) : ccSettled (startTimerAt ev t d) vp = ccSettled d vp := (rfl)
@[simp] theorem ccSettled_portEvent (vp : Fin 32) (q : Fin 32) (i : Nat) (d : Dev) : ccSettled (portEvent q i d) vp = ccSettled d vp := (rfl)
@[simp] theorem ccSettled_guardEvent (vp : Fin 32) (q : Fin 32) (i : Nat) (d : Dev) : ccSettled (guardEvent q i d) vp = ccSettled d vp := (rfl)
@[simp] theorem ccSettled_post (vp : Fin 32) (ev : Instr) (d : Dev) : ccSettled (post ev d) vp = ccSettled d vp := (rfl)
@[simp] theorem ccSettled_bumpFree (vp : Fin 32) (d : Dev) : ccSettled (bumpFree d) vp = ccSettled d vp := (rfl)
@[simp] theorem ccSettled_setTc (vp : Fin 32) (q : Fin 32) (t : TcState) (d : Dev) : ccSettled (setTc q t d) vp = ccSettled d vp := (rfl)
@[simp] theorem ccSettled_onPd (vp : Fin 32) (q : Fin 32) (g : PortPd → PortPd) (d : Dev) : ccSettled (onPd q g d) vp = ccSettled d vp := (rfl)
@[simp] theorem ccSettled_onPort (vp : Fin 32) (q : Fin 32) (g : Port → Port) (d : Dev) : ccSettled (onPort q g d) vp = ccSettled d vp := (rfl)
@[simp] theorem ccSettled_onGuard (vp : Fin 32) (q : Fin 32) (g : Guard → Guard) (d : Dev) : ccSettled (onGuard q g d) vp = ccSettled d vp := (rfl)
@[simp] theorem ccSettled_onLoop (vp : Fin 32) (q : Fin 32) (g : Loop → Loop) (d : Dev) : ccSettled (onLoop q g d) vp = ccSettled d vp := (rfl)
@[simp] theorem ccSettled_onHost (vp : Fin 32) (g : HostIf → HostIf) (d : Dev) : ccSettled (onHost g d) vp = ccSettled d vp := (rfl)
@[simp] theorem ccSettled_sysEvent (vp : Fin 32) (i : Nat) (d : Dev) : ccSettled (sysEvent i d) vp = ccSettled d vp := (rfl)
@[simp] theorem ccSettled_onColl (vp : Fin 32) (g : Collector → Collector) (d : Dev) : ccSettled (onColl g d) vp = ccSettled d vp := (rfl)
@[simp] theorem ccSettled_onLedger (vp : Fin 32) (g : Ledger → Ledger) (d : Dev) : ccSettled (onLedger g d) vp = ccSettled d vp := (rfl)
@[simp] theorem ccSettled_onSource (vp : Fin 32) (i : Fin 768) (g : Source → Source) (d : Dev) : ccSettled (onSource i g d) vp = ccSettled d vp := (rfl)
@[simp] theorem ccSettled_onJrn (vp : Fin 32) (g : Journal → Journal) (d : Dev) : ccSettled (onJrn g d) vp = ccSettled d vp := (rfl)
@[simp] theorem ccSettled_onFeed (vp : Fin 32) (i : Fin 4) (g : Feed → Feed) (d : Dev) : ccSettled (onFeed i g d) vp = ccSettled d vp := (rfl)
@[simp] theorem ccSettled_feedEvent (vp : Fin 32) (i : Fin 4) (k : Nat) (d : Dev) : ccSettled (feedEvent i k d) vp = ccSettled d vp := (rfl)
@[simp] theorem ccSettled_onPhase (vp : Fin 32) (i : Fin 64) (g : Phase → Phase) (d : Dev) : ccSettled (onPhase i g d) vp = ccSettled d vp := (rfl)
@[simp] theorem ccSettled_onUpd (vp : Fin 32) (g : Update → Update) (d : Dev) : ccSettled (onUpd g d) vp = ccSettled d vp := (rfl)
@[simp] theorem ccSettled_onStore (vp : Fin 32) (g : CfgStore → CfgStore) (d : Dev) : ccSettled (onStore g d) vp = ccSettled d vp := (rfl)
@[simp] theorem ccSettled_onTmr (vp : Fin 32) (g : Timers → Timers) (d : Dev) : ccSettled (onTmr g d) vp = ccSettled d vp := (rfl)
@[simp] theorem ccSettled_onNet (vp : Fin 32) (g : Net → Net) (d : Dev) : ccSettled (onNet g d) vp = ccSettled d vp := (rfl)
@[simp] theorem ccSettled_onTwin (vp : Fin 32) (g : Twin → Twin) (d : Dev) : ccSettled (onTwin g d) vp = ccSettled d vp := (rfl)
@[simp] theorem ccSettled_onPost (vp : Fin 32) (i : Fin 3) (g : Post → Post) (d : Dev) : ccSettled (onPost i g d) vp = ccSettled d vp := (rfl)
@[simp] theorem ccSettled_settle (vp : Fin 32) (a : Dev) (d : Dev) : ccSettled (settle a d) vp = ccSettled d vp := (rfl)
@[simp] theorem rdOne_stopTimer (vp : Fin 32) (ev : Instr) (d : Dev) : rdOne (stopTimer ev d) vp = rdOne d vp := (rfl)
@[simp] theorem rdOne_stopTimers (vp : Fin 32) (l : List Instr) (d : Dev) : rdOne (stopTimers l d) vp = rdOne d vp := (rfl)
@[simp] theorem rdOne_startTimer (vp : Fin 32) (ev : Instr) (t : Nat) (d : Dev) : rdOne (startTimer ev t d) vp = rdOne d vp := (rfl)
@[simp] theorem rdOne_startTimerAt (vp : Fin 32) (ev : Instr) (t : Nat) (d : Dev) : rdOne (startTimerAt ev t d) vp = rdOne d vp := (rfl)
@[simp] theorem rdOne_portEvent (vp : Fin 32) (q : Fin 32) (i : Nat) (d : Dev) : rdOne (portEvent q i d) vp = rdOne d vp := (rfl)
@[simp] theorem rdOne_guardEvent (vp : Fin 32) (q : Fin 32) (i : Nat) (d : Dev) : rdOne (guardEvent q i d) vp = rdOne d vp := (rfl)
@[simp] theorem rdOne_post (vp : Fin 32) (ev : Instr) (d : Dev) : rdOne (post ev d) vp = rdOne d vp := (rfl)
@[simp] theorem rdOne_bumpFree (vp : Fin 32) (d : Dev) : rdOne (bumpFree d) vp = rdOne d vp := (rfl)
@[simp] theorem rdOne_setTc (vp : Fin 32) (q : Fin 32) (t : TcState) (d : Dev) : rdOne (setTc q t d) vp = rdOne d vp := (rfl)
@[simp] theorem rdOne_onPd (vp : Fin 32) (q : Fin 32) (g : PortPd → PortPd) (d : Dev) : rdOne (onPd q g d) vp = rdOne d vp := (rfl)
@[simp] theorem rdOne_onPort (vp : Fin 32) (q : Fin 32) (g : Port → Port) (d : Dev) : rdOne (onPort q g d) vp = rdOne d vp := (rfl)
@[simp] theorem rdOne_onGuard (vp : Fin 32) (q : Fin 32) (g : Guard → Guard) (d : Dev) : rdOne (onGuard q g d) vp = rdOne d vp := (rfl)
@[simp] theorem rdOne_onLoop (vp : Fin 32) (q : Fin 32) (g : Loop → Loop) (d : Dev) : rdOne (onLoop q g d) vp = rdOne d vp := (rfl)
@[simp] theorem rdOne_onHost (vp : Fin 32) (g : HostIf → HostIf) (d : Dev) : rdOne (onHost g d) vp = rdOne d vp := (rfl)
@[simp] theorem rdOne_sysEvent (vp : Fin 32) (i : Nat) (d : Dev) : rdOne (sysEvent i d) vp = rdOne d vp := (rfl)
@[simp] theorem rdOne_onColl (vp : Fin 32) (g : Collector → Collector) (d : Dev) : rdOne (onColl g d) vp = rdOne d vp := (rfl)
@[simp] theorem rdOne_onLedger (vp : Fin 32) (g : Ledger → Ledger) (d : Dev) : rdOne (onLedger g d) vp = rdOne d vp := (rfl)
@[simp] theorem rdOne_onSource (vp : Fin 32) (i : Fin 768) (g : Source → Source) (d : Dev) : rdOne (onSource i g d) vp = rdOne d vp := (rfl)
@[simp] theorem rdOne_onJrn (vp : Fin 32) (g : Journal → Journal) (d : Dev) : rdOne (onJrn g d) vp = rdOne d vp := (rfl)
@[simp] theorem rdOne_onFeed (vp : Fin 32) (i : Fin 4) (g : Feed → Feed) (d : Dev) : rdOne (onFeed i g d) vp = rdOne d vp := (rfl)
@[simp] theorem rdOne_feedEvent (vp : Fin 32) (i : Fin 4) (k : Nat) (d : Dev) : rdOne (feedEvent i k d) vp = rdOne d vp := (rfl)
@[simp] theorem rdOne_onPhase (vp : Fin 32) (i : Fin 64) (g : Phase → Phase) (d : Dev) : rdOne (onPhase i g d) vp = rdOne d vp := (rfl)
@[simp] theorem rdOne_onUpd (vp : Fin 32) (g : Update → Update) (d : Dev) : rdOne (onUpd g d) vp = rdOne d vp := (rfl)
@[simp] theorem rdOne_onStore (vp : Fin 32) (g : CfgStore → CfgStore) (d : Dev) : rdOne (onStore g d) vp = rdOne d vp := (rfl)
@[simp] theorem rdOne_onTmr (vp : Fin 32) (g : Timers → Timers) (d : Dev) : rdOne (onTmr g d) vp = rdOne d vp := (rfl)
@[simp] theorem rdOne_onNet (vp : Fin 32) (g : Net → Net) (d : Dev) : rdOne (onNet g d) vp = rdOne d vp := (rfl)
@[simp] theorem rdOne_onTwin (vp : Fin 32) (g : Twin → Twin) (d : Dev) : rdOne (onTwin g d) vp = rdOne d vp := (rfl)
@[simp] theorem rdOne_onPost (vp : Fin 32) (i : Fin 3) (g : Post → Post) (d : Dev) : rdOne (onPost i g d) vp = rdOne d vp := (rfl)
@[simp] theorem rdOne_settle (vp : Fin 32) (a : Dev) (d : Dev) : rdOne (settle a d) vp = rdOne d vp := (rfl)
@[simp] theorem rpOne_stopTimer (vp : Fin 32) (ev : Instr) (d : Dev) : rpOne (stopTimer ev d) vp = rpOne d vp := (rfl)
@[simp] theorem rpOne_stopTimers (vp : Fin 32) (l : List Instr) (d : Dev) : rpOne (stopTimers l d) vp = rpOne d vp := (rfl)
@[simp] theorem rpOne_startTimer (vp : Fin 32) (ev : Instr) (t : Nat) (d : Dev) : rpOne (startTimer ev t d) vp = rpOne d vp := (rfl)
@[simp] theorem rpOne_startTimerAt (vp : Fin 32) (ev : Instr) (t : Nat) (d : Dev) : rpOne (startTimerAt ev t d) vp = rpOne d vp := (rfl)
@[simp] theorem rpOne_portEvent (vp : Fin 32) (q : Fin 32) (i : Nat) (d : Dev) : rpOne (portEvent q i d) vp = rpOne d vp := (rfl)
@[simp] theorem rpOne_guardEvent (vp : Fin 32) (q : Fin 32) (i : Nat) (d : Dev) : rpOne (guardEvent q i d) vp = rpOne d vp := (rfl)
@[simp] theorem rpOne_post (vp : Fin 32) (ev : Instr) (d : Dev) : rpOne (post ev d) vp = rpOne d vp := (rfl)
@[simp] theorem rpOne_bumpFree (vp : Fin 32) (d : Dev) : rpOne (bumpFree d) vp = rpOne d vp := (rfl)
@[simp] theorem rpOne_setTc (vp : Fin 32) (q : Fin 32) (t : TcState) (d : Dev) : rpOne (setTc q t d) vp = rpOne d vp := (rfl)
@[simp] theorem rpOne_onPd (vp : Fin 32) (q : Fin 32) (g : PortPd → PortPd) (d : Dev) : rpOne (onPd q g d) vp = rpOne d vp := (rfl)
@[simp] theorem rpOne_onPort (vp : Fin 32) (q : Fin 32) (g : Port → Port) (d : Dev) : rpOne (onPort q g d) vp = rpOne d vp := (rfl)
@[simp] theorem rpOne_onGuard (vp : Fin 32) (q : Fin 32) (g : Guard → Guard) (d : Dev) : rpOne (onGuard q g d) vp = rpOne d vp := (rfl)
@[simp] theorem rpOne_onLoop (vp : Fin 32) (q : Fin 32) (g : Loop → Loop) (d : Dev) : rpOne (onLoop q g d) vp = rpOne d vp := (rfl)
@[simp] theorem rpOne_onHost (vp : Fin 32) (g : HostIf → HostIf) (d : Dev) : rpOne (onHost g d) vp = rpOne d vp := (rfl)
@[simp] theorem rpOne_sysEvent (vp : Fin 32) (i : Nat) (d : Dev) : rpOne (sysEvent i d) vp = rpOne d vp := (rfl)
@[simp] theorem rpOne_onColl (vp : Fin 32) (g : Collector → Collector) (d : Dev) : rpOne (onColl g d) vp = rpOne d vp := (rfl)
@[simp] theorem rpOne_onLedger (vp : Fin 32) (g : Ledger → Ledger) (d : Dev) : rpOne (onLedger g d) vp = rpOne d vp := (rfl)
@[simp] theorem rpOne_onSource (vp : Fin 32) (i : Fin 768) (g : Source → Source) (d : Dev) : rpOne (onSource i g d) vp = rpOne d vp := (rfl)
@[simp] theorem rpOne_onJrn (vp : Fin 32) (g : Journal → Journal) (d : Dev) : rpOne (onJrn g d) vp = rpOne d vp := (rfl)
@[simp] theorem rpOne_onFeed (vp : Fin 32) (i : Fin 4) (g : Feed → Feed) (d : Dev) : rpOne (onFeed i g d) vp = rpOne d vp := (rfl)
@[simp] theorem rpOne_feedEvent (vp : Fin 32) (i : Fin 4) (k : Nat) (d : Dev) : rpOne (feedEvent i k d) vp = rpOne d vp := (rfl)
@[simp] theorem rpOne_onPhase (vp : Fin 32) (i : Fin 64) (g : Phase → Phase) (d : Dev) : rpOne (onPhase i g d) vp = rpOne d vp := (rfl)
@[simp] theorem rpOne_onUpd (vp : Fin 32) (g : Update → Update) (d : Dev) : rpOne (onUpd g d) vp = rpOne d vp := (rfl)
@[simp] theorem rpOne_onStore (vp : Fin 32) (g : CfgStore → CfgStore) (d : Dev) : rpOne (onStore g d) vp = rpOne d vp := (rfl)
@[simp] theorem rpOne_onTmr (vp : Fin 32) (g : Timers → Timers) (d : Dev) : rpOne (onTmr g d) vp = rpOne d vp := (rfl)
@[simp] theorem rpOne_onNet (vp : Fin 32) (g : Net → Net) (d : Dev) : rpOne (onNet g d) vp = rpOne d vp := (rfl)
@[simp] theorem rpOne_onTwin (vp : Fin 32) (g : Twin → Twin) (d : Dev) : rpOne (onTwin g d) vp = rpOne d vp := (rfl)
@[simp] theorem rpOne_onPost (vp : Fin 32) (i : Fin 3) (g : Post → Post) (d : Dev) : rpOne (onPost i g d) vp = rpOne d vp := (rfl)
@[simp] theorem rpOne_settle (vp : Fin 32) (a : Dev) (d : Dev) : rpOne (settle a d) vp = rpOne d vp := (rfl)
@[simp] theorem rdBoth_stopTimer (vp : Fin 32) (ev : Instr) (d : Dev) : rdBoth (stopTimer ev d) vp = rdBoth d vp := (rfl)
@[simp] theorem rdBoth_stopTimers (vp : Fin 32) (l : List Instr) (d : Dev) : rdBoth (stopTimers l d) vp = rdBoth d vp := (rfl)
@[simp] theorem rdBoth_startTimer (vp : Fin 32) (ev : Instr) (t : Nat) (d : Dev) : rdBoth (startTimer ev t d) vp = rdBoth d vp := (rfl)
@[simp] theorem rdBoth_startTimerAt (vp : Fin 32) (ev : Instr) (t : Nat) (d : Dev) : rdBoth (startTimerAt ev t d) vp = rdBoth d vp := (rfl)
@[simp] theorem rdBoth_portEvent (vp : Fin 32) (q : Fin 32) (i : Nat) (d : Dev) : rdBoth (portEvent q i d) vp = rdBoth d vp := (rfl)
@[simp] theorem rdBoth_guardEvent (vp : Fin 32) (q : Fin 32) (i : Nat) (d : Dev) : rdBoth (guardEvent q i d) vp = rdBoth d vp := (rfl)
@[simp] theorem rdBoth_post (vp : Fin 32) (ev : Instr) (d : Dev) : rdBoth (post ev d) vp = rdBoth d vp := (rfl)
@[simp] theorem rdBoth_bumpFree (vp : Fin 32) (d : Dev) : rdBoth (bumpFree d) vp = rdBoth d vp := (rfl)
@[simp] theorem rdBoth_setTc (vp : Fin 32) (q : Fin 32) (t : TcState) (d : Dev) : rdBoth (setTc q t d) vp = rdBoth d vp := (rfl)
@[simp] theorem rdBoth_onPd (vp : Fin 32) (q : Fin 32) (g : PortPd → PortPd) (d : Dev) : rdBoth (onPd q g d) vp = rdBoth d vp := (rfl)
@[simp] theorem rdBoth_onPort (vp : Fin 32) (q : Fin 32) (g : Port → Port) (d : Dev) : rdBoth (onPort q g d) vp = rdBoth d vp := (rfl)
@[simp] theorem rdBoth_onGuard (vp : Fin 32) (q : Fin 32) (g : Guard → Guard) (d : Dev) : rdBoth (onGuard q g d) vp = rdBoth d vp := (rfl)
@[simp] theorem rdBoth_onLoop (vp : Fin 32) (q : Fin 32) (g : Loop → Loop) (d : Dev) : rdBoth (onLoop q g d) vp = rdBoth d vp := (rfl)
@[simp] theorem rdBoth_onHost (vp : Fin 32) (g : HostIf → HostIf) (d : Dev) : rdBoth (onHost g d) vp = rdBoth d vp := (rfl)
@[simp] theorem rdBoth_sysEvent (vp : Fin 32) (i : Nat) (d : Dev) : rdBoth (sysEvent i d) vp = rdBoth d vp := (rfl)
@[simp] theorem rdBoth_onColl (vp : Fin 32) (g : Collector → Collector) (d : Dev) : rdBoth (onColl g d) vp = rdBoth d vp := (rfl)
@[simp] theorem rdBoth_onLedger (vp : Fin 32) (g : Ledger → Ledger) (d : Dev) : rdBoth (onLedger g d) vp = rdBoth d vp := (rfl)
@[simp] theorem rdBoth_onSource (vp : Fin 32) (i : Fin 768) (g : Source → Source) (d : Dev) : rdBoth (onSource i g d) vp = rdBoth d vp := (rfl)
@[simp] theorem rdBoth_onJrn (vp : Fin 32) (g : Journal → Journal) (d : Dev) : rdBoth (onJrn g d) vp = rdBoth d vp := (rfl)
@[simp] theorem rdBoth_onFeed (vp : Fin 32) (i : Fin 4) (g : Feed → Feed) (d : Dev) : rdBoth (onFeed i g d) vp = rdBoth d vp := (rfl)
@[simp] theorem rdBoth_feedEvent (vp : Fin 32) (i : Fin 4) (k : Nat) (d : Dev) : rdBoth (feedEvent i k d) vp = rdBoth d vp := (rfl)
@[simp] theorem rdBoth_onPhase (vp : Fin 32) (i : Fin 64) (g : Phase → Phase) (d : Dev) : rdBoth (onPhase i g d) vp = rdBoth d vp := (rfl)
@[simp] theorem rdBoth_onUpd (vp : Fin 32) (g : Update → Update) (d : Dev) : rdBoth (onUpd g d) vp = rdBoth d vp := (rfl)
@[simp] theorem rdBoth_onStore (vp : Fin 32) (g : CfgStore → CfgStore) (d : Dev) : rdBoth (onStore g d) vp = rdBoth d vp := (rfl)
@[simp] theorem rdBoth_onTmr (vp : Fin 32) (g : Timers → Timers) (d : Dev) : rdBoth (onTmr g d) vp = rdBoth d vp := (rfl)
@[simp] theorem rdBoth_onNet (vp : Fin 32) (g : Net → Net) (d : Dev) : rdBoth (onNet g d) vp = rdBoth d vp := (rfl)
@[simp] theorem rdBoth_onTwin (vp : Fin 32) (g : Twin → Twin) (d : Dev) : rdBoth (onTwin g d) vp = rdBoth d vp := (rfl)
@[simp] theorem rdBoth_onPost (vp : Fin 32) (i : Fin 3) (g : Post → Post) (d : Dev) : rdBoth (onPost i g d) vp = rdBoth d vp := (rfl)
@[simp] theorem rdBoth_settle (vp : Fin 32) (a : Dev) (d : Dev) : rdBoth (settle a d) vp = rdBoth d vp := (rfl)
@[simp] theorem rpBoth_stopTimer (vp : Fin 32) (ev : Instr) (d : Dev) : rpBoth (stopTimer ev d) vp = rpBoth d vp := (rfl)
@[simp] theorem rpBoth_stopTimers (vp : Fin 32) (l : List Instr) (d : Dev) : rpBoth (stopTimers l d) vp = rpBoth d vp := (rfl)
@[simp] theorem rpBoth_startTimer (vp : Fin 32) (ev : Instr) (t : Nat) (d : Dev) : rpBoth (startTimer ev t d) vp = rpBoth d vp := (rfl)
@[simp] theorem rpBoth_startTimerAt (vp : Fin 32) (ev : Instr) (t : Nat) (d : Dev) : rpBoth (startTimerAt ev t d) vp = rpBoth d vp := (rfl)
@[simp] theorem rpBoth_portEvent (vp : Fin 32) (q : Fin 32) (i : Nat) (d : Dev) : rpBoth (portEvent q i d) vp = rpBoth d vp := (rfl)
@[simp] theorem rpBoth_guardEvent (vp : Fin 32) (q : Fin 32) (i : Nat) (d : Dev) : rpBoth (guardEvent q i d) vp = rpBoth d vp := (rfl)
@[simp] theorem rpBoth_post (vp : Fin 32) (ev : Instr) (d : Dev) : rpBoth (post ev d) vp = rpBoth d vp := (rfl)
@[simp] theorem rpBoth_bumpFree (vp : Fin 32) (d : Dev) : rpBoth (bumpFree d) vp = rpBoth d vp := (rfl)
@[simp] theorem rpBoth_setTc (vp : Fin 32) (q : Fin 32) (t : TcState) (d : Dev) : rpBoth (setTc q t d) vp = rpBoth d vp := (rfl)
@[simp] theorem rpBoth_onPd (vp : Fin 32) (q : Fin 32) (g : PortPd → PortPd) (d : Dev) : rpBoth (onPd q g d) vp = rpBoth d vp := (rfl)
@[simp] theorem rpBoth_onPort (vp : Fin 32) (q : Fin 32) (g : Port → Port) (d : Dev) : rpBoth (onPort q g d) vp = rpBoth d vp := (rfl)
@[simp] theorem rpBoth_onGuard (vp : Fin 32) (q : Fin 32) (g : Guard → Guard) (d : Dev) : rpBoth (onGuard q g d) vp = rpBoth d vp := (rfl)
@[simp] theorem rpBoth_onLoop (vp : Fin 32) (q : Fin 32) (g : Loop → Loop) (d : Dev) : rpBoth (onLoop q g d) vp = rpBoth d vp := (rfl)
@[simp] theorem rpBoth_onHost (vp : Fin 32) (g : HostIf → HostIf) (d : Dev) : rpBoth (onHost g d) vp = rpBoth d vp := (rfl)
@[simp] theorem rpBoth_sysEvent (vp : Fin 32) (i : Nat) (d : Dev) : rpBoth (sysEvent i d) vp = rpBoth d vp := (rfl)
@[simp] theorem rpBoth_onColl (vp : Fin 32) (g : Collector → Collector) (d : Dev) : rpBoth (onColl g d) vp = rpBoth d vp := (rfl)
@[simp] theorem rpBoth_onLedger (vp : Fin 32) (g : Ledger → Ledger) (d : Dev) : rpBoth (onLedger g d) vp = rpBoth d vp := (rfl)
@[simp] theorem rpBoth_onSource (vp : Fin 32) (i : Fin 768) (g : Source → Source) (d : Dev) : rpBoth (onSource i g d) vp = rpBoth d vp := (rfl)
@[simp] theorem rpBoth_onJrn (vp : Fin 32) (g : Journal → Journal) (d : Dev) : rpBoth (onJrn g d) vp = rpBoth d vp := (rfl)
@[simp] theorem rpBoth_onFeed (vp : Fin 32) (i : Fin 4) (g : Feed → Feed) (d : Dev) : rpBoth (onFeed i g d) vp = rpBoth d vp := (rfl)
@[simp] theorem rpBoth_feedEvent (vp : Fin 32) (i : Fin 4) (k : Nat) (d : Dev) : rpBoth (feedEvent i k d) vp = rpBoth d vp := (rfl)
@[simp] theorem rpBoth_onPhase (vp : Fin 32) (i : Fin 64) (g : Phase → Phase) (d : Dev) : rpBoth (onPhase i g d) vp = rpBoth d vp := (rfl)
@[simp] theorem rpBoth_onUpd (vp : Fin 32) (g : Update → Update) (d : Dev) : rpBoth (onUpd g d) vp = rpBoth d vp := (rfl)
@[simp] theorem rpBoth_onStore (vp : Fin 32) (g : CfgStore → CfgStore) (d : Dev) : rpBoth (onStore g d) vp = rpBoth d vp := (rfl)
@[simp] theorem rpBoth_onTmr (vp : Fin 32) (g : Timers → Timers) (d : Dev) : rpBoth (onTmr g d) vp = rpBoth d vp := (rfl)
@[simp] theorem rpBoth_onNet (vp : Fin 32) (g : Net → Net) (d : Dev) : rpBoth (onNet g d) vp = rpBoth d vp := (rfl)
@[simp] theorem rpBoth_onTwin (vp : Fin 32) (g : Twin → Twin) (d : Dev) : rpBoth (onTwin g d) vp = rpBoth d vp := (rfl)
@[simp] theorem rpBoth_onPost (vp : Fin 32) (i : Fin 3) (g : Post → Post) (d : Dev) : rpBoth (onPost i g d) vp = rpBoth d vp := (rfl)
@[simp] theorem rpBoth_settle (vp : Fin 32) (a : Dev) (d : Dev) : rpBoth (settle a d) vp = rpBoth d vp := (rfl)
@[simp] theorem vbusLow_stopTimer (vp : Fin 32) (ev : Instr) (d : Dev) : vbusLow (stopTimer ev d) vp = vbusLow d vp := (rfl)
@[simp] theorem vbusLow_stopTimers (vp : Fin 32) (l : List Instr) (d : Dev) : vbusLow (stopTimers l d) vp = vbusLow d vp := (rfl)
@[simp] theorem vbusLow_startTimer (vp : Fin 32) (ev : Instr) (t : Nat) (d : Dev) : vbusLow (startTimer ev t d) vp = vbusLow d vp := (rfl)
@[simp] theorem vbusLow_startTimerAt (vp : Fin 32) (ev : Instr) (t : Nat) (d : Dev) : vbusLow (startTimerAt ev t d) vp = vbusLow d vp := (rfl)
@[simp] theorem vbusLow_portEvent (vp : Fin 32) (q : Fin 32) (i : Nat) (d : Dev) : vbusLow (portEvent q i d) vp = vbusLow d vp := (rfl)
@[simp] theorem vbusLow_guardEvent (vp : Fin 32) (q : Fin 32) (i : Nat) (d : Dev) : vbusLow (guardEvent q i d) vp = vbusLow d vp := (rfl)
@[simp] theorem vbusLow_post (vp : Fin 32) (ev : Instr) (d : Dev) : vbusLow (post ev d) vp = vbusLow d vp := (rfl)
@[simp] theorem vbusLow_journal (vp : Fin 32) (c : Fin 16) (l : List Byte) (d : Dev) : vbusLow (journal c l d) vp = vbusLow d vp := by unfold vbusLow; simp
@[simp] theorem vbusLow_journalEvent (vp : Fin 32) (c : Fin 16) (x : Nat) (y : Word) (z : Nat) (d : Dev) : vbusLow (journalEvent c x y z d) vp = vbusLow d vp := by unfold vbusLow; simp
@[simp] theorem vbusLow_journalContract (vp : Fin 32) (q : Fin 32) (d : Dev) : vbusLow (journalContract q d) vp = vbusLow d vp := by unfold vbusLow; simp
@[simp] theorem vbusLow_bumpFree (vp : Fin 32) (d : Dev) : vbusLow (bumpFree d) vp = vbusLow d vp := (rfl)
@[simp] theorem vbusLow_setTc (vp : Fin 32) (q : Fin 32) (t : TcState) (d : Dev) : vbusLow (setTc q t d) vp = vbusLow d vp := (rfl)
@[simp] theorem vbusLow_onPd (vp : Fin 32) (q : Fin 32) (g : PortPd → PortPd) (d : Dev) : vbusLow (onPd q g d) vp = vbusLow d vp := (rfl)
@[simp] theorem vbusLow_onPort (vp : Fin 32) (q : Fin 32) (g : Port → Port) (d : Dev) : vbusLow (onPort q g d) vp = vbusLow d vp := (rfl)
@[simp] theorem vbusLow_onGuard (vp : Fin 32) (q : Fin 32) (g : Guard → Guard) (d : Dev) : vbusLow (onGuard q g d) vp = vbusLow d vp := (rfl)
@[simp] theorem vbusLow_onLoop (vp : Fin 32) (q : Fin 32) (g : Loop → Loop) (d : Dev) : vbusLow (onLoop q g d) vp = vbusLow d vp := (rfl)
@[simp] theorem vbusLow_onHost (vp : Fin 32) (g : HostIf → HostIf) (d : Dev) : vbusLow (onHost g d) vp = vbusLow d vp := (rfl)
@[simp] theorem vbusLow_sysEvent (vp : Fin 32) (i : Nat) (d : Dev) : vbusLow (sysEvent i d) vp = vbusLow d vp := (rfl)
@[simp] theorem vbusLow_onColl (vp : Fin 32) (g : Collector → Collector) (d : Dev) : vbusLow (onColl g d) vp = vbusLow d vp := (rfl)
@[simp] theorem vbusLow_onLedger (vp : Fin 32) (g : Ledger → Ledger) (d : Dev) : vbusLow (onLedger g d) vp = vbusLow d vp := (rfl)
@[simp] theorem vbusLow_onSource (vp : Fin 32) (i : Fin 768) (g : Source → Source) (d : Dev) : vbusLow (onSource i g d) vp = vbusLow d vp := (rfl)
@[simp] theorem vbusLow_onJrn (vp : Fin 32) (g : Journal → Journal) (d : Dev) : vbusLow (onJrn g d) vp = vbusLow d vp := (rfl)
@[simp] theorem vbusLow_onFeed (vp : Fin 32) (i : Fin 4) (g : Feed → Feed) (d : Dev) : vbusLow (onFeed i g d) vp = vbusLow d vp := (rfl)
@[simp] theorem vbusLow_feedEvent (vp : Fin 32) (i : Fin 4) (k : Nat) (d : Dev) : vbusLow (feedEvent i k d) vp = vbusLow d vp := (rfl)
@[simp] theorem vbusLow_onPhase (vp : Fin 32) (i : Fin 64) (g : Phase → Phase) (d : Dev) : vbusLow (onPhase i g d) vp = vbusLow d vp := (rfl)
@[simp] theorem vbusLow_onUpd (vp : Fin 32) (g : Update → Update) (d : Dev) : vbusLow (onUpd g d) vp = vbusLow d vp := (rfl)
@[simp] theorem vbusLow_onStore (vp : Fin 32) (g : CfgStore → CfgStore) (d : Dev) : vbusLow (onStore g d) vp = vbusLow d vp := (rfl)
@[simp] theorem vbusLow_onTmr (vp : Fin 32) (g : Timers → Timers) (d : Dev) : vbusLow (onTmr g d) vp = vbusLow d vp := (rfl)
@[simp] theorem vbusLow_onNet (vp : Fin 32) (g : Net → Net) (d : Dev) : vbusLow (onNet g d) vp = vbusLow d vp := (rfl)
@[simp] theorem vbusLow_onTwin (vp : Fin 32) (g : Twin → Twin) (d : Dev) : vbusLow (onTwin g d) vp = vbusLow d vp := (rfl)
@[simp] theorem vbusLow_onPost (vp : Fin 32) (i : Fin 3) (g : Post → Post) (d : Dev) : vbusLow (onPost i g d) vp = vbusLow d vp := (rfl)
@[simp] theorem vbusLow_settle (vp : Fin 32) (a : Dev) (d : Dev) : vbusLow (settle a d) vp = vbusLow d vp := (rfl)
@[simp] theorem vbusHigh4_stopTimer (vp : Fin 32) (ev : Instr) (d : Dev) : vbusHigh4 (stopTimer ev d) vp = vbusHigh4 d vp := (rfl)
@[simp] theorem vbusHigh4_stopTimers (vp : Fin 32) (l : List Instr) (d : Dev) : vbusHigh4 (stopTimers l d) vp = vbusHigh4 d vp := (rfl)
@[simp] theorem vbusHigh4_startTimer (vp : Fin 32) (ev : Instr) (t : Nat) (d : Dev) : vbusHigh4 (startTimer ev t d) vp = vbusHigh4 d vp := (rfl)
@[simp] theorem vbusHigh4_startTimerAt (vp : Fin 32) (ev : Instr) (t : Nat) (d : Dev) : vbusHigh4 (startTimerAt ev t d) vp = vbusHigh4 d vp := (rfl)
@[simp] theorem vbusHigh4_portEvent (vp : Fin 32) (q : Fin 32) (i : Nat) (d : Dev) : vbusHigh4 (portEvent q i d) vp = vbusHigh4 d vp := (rfl)
@[simp] theorem vbusHigh4_guardEvent (vp : Fin 32) (q : Fin 32) (i : Nat) (d : Dev) : vbusHigh4 (guardEvent q i d) vp = vbusHigh4 d vp := (rfl)
@[simp] theorem vbusHigh4_post (vp : Fin 32) (ev : Instr) (d : Dev) : vbusHigh4 (post ev d) vp = vbusHigh4 d vp := (rfl)
@[simp] theorem vbusHigh4_journal (vp : Fin 32) (c : Fin 16) (l : List Byte) (d : Dev) : vbusHigh4 (journal c l d) vp = vbusHigh4 d vp := by unfold vbusHigh4; simp
@[simp] theorem vbusHigh4_journalEvent (vp : Fin 32) (c : Fin 16) (x : Nat) (y : Word) (z : Nat) (d : Dev) : vbusHigh4 (journalEvent c x y z d) vp = vbusHigh4 d vp := by unfold vbusHigh4; simp
@[simp] theorem vbusHigh4_journalContract (vp : Fin 32) (q : Fin 32) (d : Dev) : vbusHigh4 (journalContract q d) vp = vbusHigh4 d vp := by unfold vbusHigh4; simp
@[simp] theorem vbusHigh4_bumpFree (vp : Fin 32) (d : Dev) : vbusHigh4 (bumpFree d) vp = vbusHigh4 d vp := (rfl)
@[simp] theorem vbusHigh4_setTc (vp : Fin 32) (q : Fin 32) (t : TcState) (d : Dev) : vbusHigh4 (setTc q t d) vp = vbusHigh4 d vp := (rfl)
@[simp] theorem vbusHigh4_onPd (vp : Fin 32) (q : Fin 32) (g : PortPd → PortPd) (d : Dev) : vbusHigh4 (onPd q g d) vp = vbusHigh4 d vp := (rfl)
@[simp] theorem vbusHigh4_onPort (vp : Fin 32) (q : Fin 32) (g : Port → Port) (d : Dev) : vbusHigh4 (onPort q g d) vp = vbusHigh4 d vp := (rfl)
@[simp] theorem vbusHigh4_onGuard (vp : Fin 32) (q : Fin 32) (g : Guard → Guard) (d : Dev) : vbusHigh4 (onGuard q g d) vp = vbusHigh4 d vp := (rfl)
@[simp] theorem vbusHigh4_onLoop (vp : Fin 32) (q : Fin 32) (g : Loop → Loop) (d : Dev) : vbusHigh4 (onLoop q g d) vp = vbusHigh4 d vp := (rfl)
@[simp] theorem vbusHigh4_onHost (vp : Fin 32) (g : HostIf → HostIf) (d : Dev) : vbusHigh4 (onHost g d) vp = vbusHigh4 d vp := (rfl)
@[simp] theorem vbusHigh4_sysEvent (vp : Fin 32) (i : Nat) (d : Dev) : vbusHigh4 (sysEvent i d) vp = vbusHigh4 d vp := (rfl)
@[simp] theorem vbusHigh4_onColl (vp : Fin 32) (g : Collector → Collector) (d : Dev) : vbusHigh4 (onColl g d) vp = vbusHigh4 d vp := (rfl)
@[simp] theorem vbusHigh4_onLedger (vp : Fin 32) (g : Ledger → Ledger) (d : Dev) : vbusHigh4 (onLedger g d) vp = vbusHigh4 d vp := (rfl)
@[simp] theorem vbusHigh4_onSource (vp : Fin 32) (i : Fin 768) (g : Source → Source) (d : Dev) : vbusHigh4 (onSource i g d) vp = vbusHigh4 d vp := (rfl)
@[simp] theorem vbusHigh4_onJrn (vp : Fin 32) (g : Journal → Journal) (d : Dev) : vbusHigh4 (onJrn g d) vp = vbusHigh4 d vp := (rfl)
@[simp] theorem vbusHigh4_onFeed (vp : Fin 32) (i : Fin 4) (g : Feed → Feed) (d : Dev) : vbusHigh4 (onFeed i g d) vp = vbusHigh4 d vp := (rfl)
@[simp] theorem vbusHigh4_feedEvent (vp : Fin 32) (i : Fin 4) (k : Nat) (d : Dev) : vbusHigh4 (feedEvent i k d) vp = vbusHigh4 d vp := (rfl)
@[simp] theorem vbusHigh4_onPhase (vp : Fin 32) (i : Fin 64) (g : Phase → Phase) (d : Dev) : vbusHigh4 (onPhase i g d) vp = vbusHigh4 d vp := (rfl)
@[simp] theorem vbusHigh4_onUpd (vp : Fin 32) (g : Update → Update) (d : Dev) : vbusHigh4 (onUpd g d) vp = vbusHigh4 d vp := (rfl)
@[simp] theorem vbusHigh4_onStore (vp : Fin 32) (g : CfgStore → CfgStore) (d : Dev) : vbusHigh4 (onStore g d) vp = vbusHigh4 d vp := (rfl)
@[simp] theorem vbusHigh4_onTmr (vp : Fin 32) (g : Timers → Timers) (d : Dev) : vbusHigh4 (onTmr g d) vp = vbusHigh4 d vp := (rfl)
@[simp] theorem vbusHigh4_onNet (vp : Fin 32) (g : Net → Net) (d : Dev) : vbusHigh4 (onNet g d) vp = vbusHigh4 d vp := (rfl)
@[simp] theorem vbusHigh4_onTwin (vp : Fin 32) (g : Twin → Twin) (d : Dev) : vbusHigh4 (onTwin g d) vp = vbusHigh4 d vp := (rfl)
@[simp] theorem vbusHigh4_onPost (vp : Fin 32) (i : Fin 3) (g : Post → Post) (d : Dev) : vbusHigh4 (onPost i g d) vp = vbusHigh4 d vp := (rfl)
@[simp] theorem vbusHigh4_settle (vp : Fin 32) (a : Dev) (d : Dev) : vbusHigh4 (settle a d) vp = vbusHigh4 d vp := (rfl)
@[simp] theorem isShadow_stopTimer (ev : Instr) (d : Dev) : isShadow (stopTimer ev d) = isShadow d := (rfl)
@[simp] theorem isShadow_stopTimers (l : List Instr) (d : Dev) : isShadow (stopTimers l d) = isShadow d := (rfl)
@[simp] theorem isShadow_startTimer (ev : Instr) (t : Nat) (d : Dev) : isShadow (startTimer ev t d) = isShadow d := (rfl)
@[simp] theorem isShadow_startTimerAt (ev : Instr) (t : Nat) (d : Dev) : isShadow (startTimerAt ev t d) = isShadow d := (rfl)
@[simp] theorem isShadow_portEvent (q : Fin 32) (i : Nat) (d : Dev) : isShadow (portEvent q i d) = isShadow d := (rfl)
@[simp] theorem isShadow_guardEvent (q : Fin 32) (i : Nat) (d : Dev) : isShadow (guardEvent q i d) = isShadow d := (rfl)
@[simp] theorem isShadow_post (ev : Instr) (d : Dev) : isShadow (post ev d) = isShadow d := (rfl)
@[simp] theorem isShadow_journal (c : Fin 16) (l : List Byte) (d : Dev) : isShadow (journal c l d) = isShadow d := by unfold isShadow; simp
@[simp] theorem isShadow_journalEvent (c : Fin 16) (x : Nat) (y : Word) (z : Nat) (d : Dev) : isShadow (journalEvent c x y z d) = isShadow d := by unfold isShadow; simp
@[simp] theorem isShadow_journalContract (q : Fin 32) (d : Dev) : isShadow (journalContract q d) = isShadow d := by unfold isShadow; simp
@[simp] theorem isShadow_bumpFree (d : Dev) : isShadow (bumpFree d) = isShadow d := (rfl)
@[simp] theorem isShadow_setTc (q : Fin 32) (t : TcState) (d : Dev) : isShadow (setTc q t d) = isShadow d := (rfl)
@[simp] theorem isShadow_onPd (q : Fin 32) (g : PortPd → PortPd) (d : Dev) : isShadow (onPd q g d) = isShadow d := (rfl)
@[simp] theorem isShadow_onPort (q : Fin 32) (g : Port → Port) (d : Dev) : isShadow (onPort q g d) = isShadow d := (rfl)
@[simp] theorem isShadow_onGuard (q : Fin 32) (g : Guard → Guard) (d : Dev) : isShadow (onGuard q g d) = isShadow d := (rfl)
@[simp] theorem isShadow_onLoop (q : Fin 32) (g : Loop → Loop) (d : Dev) : isShadow (onLoop q g d) = isShadow d := (rfl)
@[simp] theorem isShadow_onHost (g : HostIf → HostIf) (d : Dev) : isShadow (onHost g d) = isShadow d := (rfl)
@[simp] theorem isShadow_sysEvent (i : Nat) (d : Dev) : isShadow (sysEvent i d) = isShadow d := (rfl)
@[simp] theorem isShadow_onColl (g : Collector → Collector) (d : Dev) : isShadow (onColl g d) = isShadow d := (rfl)
@[simp] theorem isShadow_onLedger (g : Ledger → Ledger) (d : Dev) : isShadow (onLedger g d) = isShadow d := (rfl)
@[simp] theorem isShadow_onSource (i : Fin 768) (g : Source → Source) (d : Dev) : isShadow (onSource i g d) = isShadow d := (rfl)
@[simp] theorem isShadow_onJrn (g : Journal → Journal) (d : Dev) : isShadow (onJrn g d) = isShadow d := (rfl)
@[simp] theorem isShadow_onChan (c : Fin 204) (g : Chan → Chan) (d : Dev) : isShadow (onChan c g d) = isShadow d := (rfl)
@[simp] theorem isShadow_onFeed (i : Fin 4) (g : Feed → Feed) (d : Dev) : isShadow (onFeed i g d) = isShadow d := (rfl)
@[simp] theorem isShadow_feedEvent (i : Fin 4) (k : Nat) (d : Dev) : isShadow (feedEvent i k d) = isShadow d := (rfl)
@[simp] theorem isShadow_onPhase (i : Fin 64) (g : Phase → Phase) (d : Dev) : isShadow (onPhase i g d) = isShadow d := (rfl)
@[simp] theorem isShadow_onUpd (g : Update → Update) (d : Dev) : isShadow (onUpd g d) = isShadow d := (rfl)
@[simp] theorem isShadow_onStore (g : CfgStore → CfgStore) (d : Dev) : isShadow (onStore g d) = isShadow d := (rfl)
@[simp] theorem isShadow_onTmr (g : Timers → Timers) (d : Dev) : isShadow (onTmr g d) = isShadow d := (rfl)
@[simp] theorem isShadow_onNet (g : Net → Net) (d : Dev) : isShadow (onNet g d) = isShadow d := (rfl)
@[simp] theorem isShadow_onPost (i : Fin 3) (g : Post → Post) (d : Dev) : isShadow (onPost i g d) = isShadow d := (rfl)
@[simp] theorem debugOn_stopTimer (vp : Fin 32) (ev : Instr) (d : Dev) : debugOn (stopTimer ev d) vp = debugOn d vp := (rfl)
@[simp] theorem debugOn_stopTimers (vp : Fin 32) (l : List Instr) (d : Dev) : debugOn (stopTimers l d) vp = debugOn d vp := (rfl)
@[simp] theorem debugOn_startTimer (vp : Fin 32) (ev : Instr) (t : Nat) (d : Dev) : debugOn (startTimer ev t d) vp = debugOn d vp := (rfl)
@[simp] theorem debugOn_startTimerAt (vp : Fin 32) (ev : Instr) (t : Nat) (d : Dev) : debugOn (startTimerAt ev t d) vp = debugOn d vp := (rfl)
@[simp] theorem debugOn_portEvent (vp : Fin 32) (q : Fin 32) (i : Nat) (d : Dev) : debugOn (portEvent q i d) vp = debugOn d vp := (rfl)
@[simp] theorem debugOn_guardEvent (vp : Fin 32) (q : Fin 32) (i : Nat) (d : Dev) : debugOn (guardEvent q i d) vp = debugOn d vp := (rfl)
@[simp] theorem debugOn_post (vp : Fin 32) (ev : Instr) (d : Dev) : debugOn (post ev d) vp = debugOn d vp := (rfl)
@[simp] theorem debugOn_bumpFree (vp : Fin 32) (d : Dev) : debugOn (bumpFree d) vp = debugOn d vp := (rfl)
@[simp] theorem debugOn_setTc (vp : Fin 32) (q : Fin 32) (t : TcState) (d : Dev) : debugOn (setTc q t d) vp = debugOn d vp := (rfl)
@[simp] theorem debugOn_onPd (vp : Fin 32) (q : Fin 32) (g : PortPd → PortPd) (d : Dev) : debugOn (onPd q g d) vp = debugOn d vp := (rfl)
@[simp] theorem debugOn_onPort (vp : Fin 32) (q : Fin 32) (g : Port → Port) (d : Dev) : debugOn (onPort q g d) vp = debugOn d vp := (rfl)
@[simp] theorem debugOn_onGuard (vp : Fin 32) (q : Fin 32) (g : Guard → Guard) (d : Dev) : debugOn (onGuard q g d) vp = debugOn d vp := (rfl)
@[simp] theorem debugOn_onLoop (vp : Fin 32) (q : Fin 32) (g : Loop → Loop) (d : Dev) : debugOn (onLoop q g d) vp = debugOn d vp := (rfl)
@[simp] theorem debugOn_onHost (vp : Fin 32) (g : HostIf → HostIf) (d : Dev) : debugOn (onHost g d) vp = debugOn d vp := (rfl)
@[simp] theorem debugOn_sysEvent (vp : Fin 32) (i : Nat) (d : Dev) : debugOn (sysEvent i d) vp = debugOn d vp := (rfl)
@[simp] theorem debugOn_onColl (vp : Fin 32) (g : Collector → Collector) (d : Dev) : debugOn (onColl g d) vp = debugOn d vp := (rfl)
@[simp] theorem debugOn_onLedger (vp : Fin 32) (g : Ledger → Ledger) (d : Dev) : debugOn (onLedger g d) vp = debugOn d vp := (rfl)
@[simp] theorem debugOn_onSource (vp : Fin 32) (i : Fin 768) (g : Source → Source) (d : Dev) : debugOn (onSource i g d) vp = debugOn d vp := (rfl)
@[simp] theorem debugOn_onJrn (vp : Fin 32) (g : Journal → Journal) (d : Dev) : debugOn (onJrn g d) vp = debugOn d vp := (rfl)
@[simp] theorem debugOn_onChan (vp : Fin 32) (c : Fin 204) (g : Chan → Chan) (d : Dev) : debugOn (onChan c g d) vp = debugOn d vp := (rfl)
@[simp] theorem debugOn_onFeed (vp : Fin 32) (i : Fin 4) (g : Feed → Feed) (d : Dev) : debugOn (onFeed i g d) vp = debugOn d vp := (rfl)
@[simp] theorem debugOn_feedEvent (vp : Fin 32) (i : Fin 4) (k : Nat) (d : Dev) : debugOn (feedEvent i k d) vp = debugOn d vp := (rfl)
@[simp] theorem debugOn_onPhase (vp : Fin 32) (i : Fin 64) (g : Phase → Phase) (d : Dev) : debugOn (onPhase i g d) vp = debugOn d vp := (rfl)
@[simp] theorem debugOn_onUpd (vp : Fin 32) (g : Update → Update) (d : Dev) : debugOn (onUpd g d) vp = debugOn d vp := (rfl)
@[simp] theorem debugOn_onStore (vp : Fin 32) (g : CfgStore → CfgStore) (d : Dev) : debugOn (onStore g d) vp = debugOn d vp := (rfl)
@[simp] theorem debugOn_onTmr (vp : Fin 32) (g : Timers → Timers) (d : Dev) : debugOn (onTmr g d) vp = debugOn d vp := (rfl)
@[simp] theorem debugOn_onNet (vp : Fin 32) (g : Net → Net) (d : Dev) : debugOn (onNet g d) vp = debugOn d vp := (rfl)
@[simp] theorem debugOn_onTwin (vp : Fin 32) (g : Twin → Twin) (d : Dev) : debugOn (onTwin g d) vp = debugOn d vp := (rfl)
@[simp] theorem debugOn_onPost (vp : Fin 32) (i : Fin 3) (g : Post → Post) (d : Dev) : debugOn (onPost i g d) vp = debugOn d vp := (rfl)
@[simp] theorem debugOn_settle (vp : Fin 32) (a : Dev) (d : Dev) : debugOn (settle a d) vp = debugOn d vp := (rfl)
@[simp] theorem trySrcOn_stopTimer (vp : Fin 32) (ev : Instr) (d : Dev) : trySrcOn (stopTimer ev d) vp = trySrcOn d vp := (rfl)
@[simp] theorem trySrcOn_stopTimers (vp : Fin 32) (l : List Instr) (d : Dev) : trySrcOn (stopTimers l d) vp = trySrcOn d vp := (rfl)
@[simp] theorem trySrcOn_startTimer (vp : Fin 32) (ev : Instr) (t : Nat) (d : Dev) : trySrcOn (startTimer ev t d) vp = trySrcOn d vp := (rfl)
@[simp] theorem trySrcOn_startTimerAt (vp : Fin 32) (ev : Instr) (t : Nat) (d : Dev) : trySrcOn (startTimerAt ev t d) vp = trySrcOn d vp := (rfl)
@[simp] theorem trySrcOn_portEvent (vp : Fin 32) (q : Fin 32) (i : Nat) (d : Dev) : trySrcOn (portEvent q i d) vp = trySrcOn d vp := (rfl)
@[simp] theorem trySrcOn_guardEvent (vp : Fin 32) (q : Fin 32) (i : Nat) (d : Dev) : trySrcOn (guardEvent q i d) vp = trySrcOn d vp := (rfl)
@[simp] theorem trySrcOn_post (vp : Fin 32) (ev : Instr) (d : Dev) : trySrcOn (post ev d) vp = trySrcOn d vp := (rfl)
@[simp] theorem trySrcOn_bumpFree (vp : Fin 32) (d : Dev) : trySrcOn (bumpFree d) vp = trySrcOn d vp := (rfl)
@[simp] theorem trySrcOn_setTc (vp : Fin 32) (q : Fin 32) (t : TcState) (d : Dev) : trySrcOn (setTc q t d) vp = trySrcOn d vp := (rfl)
@[simp] theorem trySrcOn_onPd (vp : Fin 32) (q : Fin 32) (g : PortPd → PortPd) (d : Dev) : trySrcOn (onPd q g d) vp = trySrcOn d vp := (rfl)
@[simp] theorem trySrcOn_onPort (vp : Fin 32) (q : Fin 32) (g : Port → Port) (d : Dev) : trySrcOn (onPort q g d) vp = trySrcOn d vp := (rfl)
@[simp] theorem trySrcOn_onGuard (vp : Fin 32) (q : Fin 32) (g : Guard → Guard) (d : Dev) : trySrcOn (onGuard q g d) vp = trySrcOn d vp := (rfl)
@[simp] theorem trySrcOn_onLoop (vp : Fin 32) (q : Fin 32) (g : Loop → Loop) (d : Dev) : trySrcOn (onLoop q g d) vp = trySrcOn d vp := (rfl)
@[simp] theorem trySrcOn_onHost (vp : Fin 32) (g : HostIf → HostIf) (d : Dev) : trySrcOn (onHost g d) vp = trySrcOn d vp := (rfl)
@[simp] theorem trySrcOn_sysEvent (vp : Fin 32) (i : Nat) (d : Dev) : trySrcOn (sysEvent i d) vp = trySrcOn d vp := (rfl)
@[simp] theorem trySrcOn_onColl (vp : Fin 32) (g : Collector → Collector) (d : Dev) : trySrcOn (onColl g d) vp = trySrcOn d vp := (rfl)
@[simp] theorem trySrcOn_onLedger (vp : Fin 32) (g : Ledger → Ledger) (d : Dev) : trySrcOn (onLedger g d) vp = trySrcOn d vp := (rfl)
@[simp] theorem trySrcOn_onSource (vp : Fin 32) (i : Fin 768) (g : Source → Source) (d : Dev) : trySrcOn (onSource i g d) vp = trySrcOn d vp := (rfl)
@[simp] theorem trySrcOn_onJrn (vp : Fin 32) (g : Journal → Journal) (d : Dev) : trySrcOn (onJrn g d) vp = trySrcOn d vp := (rfl)
@[simp] theorem trySrcOn_onChan (vp : Fin 32) (c : Fin 204) (g : Chan → Chan) (d : Dev) : trySrcOn (onChan c g d) vp = trySrcOn d vp := (rfl)
@[simp] theorem trySrcOn_onPhase (vp : Fin 32) (i : Fin 64) (g : Phase → Phase) (d : Dev) : trySrcOn (onPhase i g d) vp = trySrcOn d vp := (rfl)
@[simp] theorem trySrcOn_onUpd (vp : Fin 32) (g : Update → Update) (d : Dev) : trySrcOn (onUpd g d) vp = trySrcOn d vp := (rfl)
@[simp] theorem trySrcOn_onStore (vp : Fin 32) (g : CfgStore → CfgStore) (d : Dev) : trySrcOn (onStore g d) vp = trySrcOn d vp := (rfl)
@[simp] theorem trySrcOn_onTmr (vp : Fin 32) (g : Timers → Timers) (d : Dev) : trySrcOn (onTmr g d) vp = trySrcOn d vp := (rfl)
@[simp] theorem trySrcOn_onNet (vp : Fin 32) (g : Net → Net) (d : Dev) : trySrcOn (onNet g d) vp = trySrcOn d vp := (rfl)
@[simp] theorem trySrcOn_onTwin (vp : Fin 32) (g : Twin → Twin) (d : Dev) : trySrcOn (onTwin g d) vp = trySrcOn d vp := (rfl)
@[simp] theorem trySrcOn_onPost (vp : Fin 32) (i : Fin 3) (g : Post → Post) (d : Dev) : trySrcOn (onPost i g d) vp = trySrcOn d vp := (rfl)
@[simp] theorem trySrcOn_settle (vp : Fin 32) (a : Dev) (d : Dev) : trySrcOn (settle a d) vp = trySrcOn d vp := (rfl)
@[simp] theorem censusOpen_stopTimer (vp : Fin 32) (ev : Instr) (d : Dev) : censusOpen (stopTimer ev d) vp = censusOpen d vp := (rfl)
@[simp] theorem censusOpen_stopTimers (vp : Fin 32) (l : List Instr) (d : Dev) : censusOpen (stopTimers l d) vp = censusOpen d vp := (rfl)
@[simp] theorem censusOpen_startTimer (vp : Fin 32) (ev : Instr) (t : Nat) (d : Dev) : censusOpen (startTimer ev t d) vp = censusOpen d vp := (rfl)
@[simp] theorem censusOpen_startTimerAt (vp : Fin 32) (ev : Instr) (t : Nat) (d : Dev) : censusOpen (startTimerAt ev t d) vp = censusOpen d vp := (rfl)
@[simp] theorem censusOpen_portEvent (vp : Fin 32) (q : Fin 32) (i : Nat) (d : Dev) : censusOpen (portEvent q i d) vp = censusOpen d vp := (rfl)
@[simp] theorem censusOpen_guardEvent (vp : Fin 32) (q : Fin 32) (i : Nat) (d : Dev) : censusOpen (guardEvent q i d) vp = censusOpen d vp := (rfl)
@[simp] theorem censusOpen_post (vp : Fin 32) (ev : Instr) (d : Dev) : censusOpen (post ev d) vp = censusOpen d vp := (rfl)
@[simp] theorem censusOpen_journal (vp : Fin 32) (c : Fin 16) (l : List Byte) (d : Dev) : censusOpen (journal c l d) vp = censusOpen d vp := by unfold censusOpen; simp
@[simp] theorem censusOpen_journalEvent (vp : Fin 32) (c : Fin 16) (x : Nat) (y : Word) (z : Nat) (d : Dev) : censusOpen (journalEvent c x y z d) vp = censusOpen d vp := by unfold censusOpen; simp
@[simp] theorem censusOpen_journalContract (vp : Fin 32) (q : Fin 32) (d : Dev) : censusOpen (journalContract q d) vp = censusOpen d vp := by unfold censusOpen; simp
@[simp] theorem censusOpen_bumpFree (vp : Fin 32) (d : Dev) : censusOpen (bumpFree d) vp = censusOpen d vp := (rfl)
@[simp] theorem censusOpen_setTc (vp : Fin 32) (q : Fin 32) (t : TcState) (d : Dev) : censusOpen (setTc q t d) vp = censusOpen d vp := (rfl)
@[simp] theorem censusOpen_onPd (vp : Fin 32) (q : Fin 32) (g : PortPd → PortPd) (d : Dev) : censusOpen (onPd q g d) vp = censusOpen d vp := (rfl)
@[simp] theorem censusOpen_onPort (vp : Fin 32) (q : Fin 32) (g : Port → Port) (d : Dev) : censusOpen (onPort q g d) vp = censusOpen d vp := (rfl)
@[simp] theorem censusOpen_onGuard (vp : Fin 32) (q : Fin 32) (g : Guard → Guard) (d : Dev) : censusOpen (onGuard q g d) vp = censusOpen d vp := (rfl)
@[simp] theorem censusOpen_onLoop (vp : Fin 32) (q : Fin 32) (g : Loop → Loop) (d : Dev) : censusOpen (onLoop q g d) vp = censusOpen d vp := (rfl)
@[simp] theorem censusOpen_onHost (vp : Fin 32) (g : HostIf → HostIf) (d : Dev) : censusOpen (onHost g d) vp = censusOpen d vp := (rfl)
@[simp] theorem censusOpen_sysEvent (vp : Fin 32) (i : Nat) (d : Dev) : censusOpen (sysEvent i d) vp = censusOpen d vp := (rfl)
@[simp] theorem censusOpen_onColl (vp : Fin 32) (g : Collector → Collector) (d : Dev) : censusOpen (onColl g d) vp = censusOpen d vp := (rfl)
@[simp] theorem censusOpen_onLedger (vp : Fin 32) (g : Ledger → Ledger) (d : Dev) : censusOpen (onLedger g d) vp = censusOpen d vp := (rfl)
@[simp] theorem censusOpen_onSource (vp : Fin 32) (i : Fin 768) (g : Source → Source) (d : Dev) : censusOpen (onSource i g d) vp = censusOpen d vp := (rfl)
@[simp] theorem censusOpen_onJrn (vp : Fin 32) (g : Journal → Journal) (d : Dev) : censusOpen (onJrn g d) vp = censusOpen d vp := (rfl)
@[simp] theorem censusOpen_onChan (vp : Fin 32) (c : Fin 204) (g : Chan → Chan) (d : Dev) : censusOpen (onChan c g d) vp = censusOpen d vp := (rfl)
@[simp] theorem censusOpen_onFeed (vp : Fin 32) (i : Fin 4) (g : Feed → Feed) (d : Dev) : censusOpen (onFeed i g d) vp = censusOpen d vp := (rfl)
@[simp] theorem censusOpen_feedEvent (vp : Fin 32) (i : Fin 4) (k : Nat) (d : Dev) : censusOpen (feedEvent i k d) vp = censusOpen d vp := (rfl)
@[simp] theorem censusOpen_onUpd (vp : Fin 32) (g : Update → Update) (d : Dev) : censusOpen (onUpd g d) vp = censusOpen d vp := (rfl)
@[simp] theorem censusOpen_onStore (vp : Fin 32) (g : CfgStore → CfgStore) (d : Dev) : censusOpen (onStore g d) vp = censusOpen d vp := (rfl)
@[simp] theorem censusOpen_onTmr (vp : Fin 32) (g : Timers → Timers) (d : Dev) : censusOpen (onTmr g d) vp = censusOpen d vp := (rfl)
@[simp] theorem censusOpen_onNet (vp : Fin 32) (g : Net → Net) (d : Dev) : censusOpen (onNet g d) vp = censusOpen d vp := (rfl)
@[simp] theorem censusOpen_onTwin (vp : Fin 32) (g : Twin → Twin) (d : Dev) : censusOpen (onTwin g d) vp = censusOpen d vp := (rfl)
@[simp] theorem censusOpen_onPost (vp : Fin 32) (i : Fin 3) (g : Post → Post) (d : Dev) : censusOpen (onPost i g d) vp = censusOpen d vp := (rfl)
@[simp] theorem censusOpen_settle (vp : Fin 32) (a : Dev) (d : Dev) : censusOpen (settle a d) vp = censusOpen d vp := (rfl)
@[simp] theorem attachHeld_stopTimer (vp : Fin 32) (ev : Instr) (d : Dev) : attachHeld (stopTimer ev d) vp = attachHeld d vp := (rfl)
@[simp] theorem attachHeld_stopTimers (vp : Fin 32) (l : List Instr) (d : Dev) : attachHeld (stopTimers l d) vp = attachHeld d vp := (rfl)
@[simp] theorem attachHeld_startTimer (vp : Fin 32) (ev : Instr) (t : Nat) (d : Dev) : attachHeld (startTimer ev t d) vp = attachHeld d vp := (rfl)
@[simp] theorem attachHeld_startTimerAt (vp : Fin 32) (ev : Instr) (t : Nat) (d : Dev) : attachHeld (startTimerAt ev t d) vp = attachHeld d vp := (rfl)
@[simp] theorem attachHeld_post (vp : Fin 32) (ev : Instr) (d : Dev) : attachHeld (post ev d) vp = attachHeld d vp := (rfl)
@[simp] theorem attachHeld_bumpFree (vp : Fin 32) (d : Dev) : attachHeld (bumpFree d) vp = attachHeld d vp := (rfl)
@[simp] theorem attachHeld_onLoop (vp : Fin 32) (q : Fin 32) (g : Loop → Loop) (d : Dev) : attachHeld (onLoop q g d) vp = attachHeld d vp := (rfl)
@[simp] theorem attachHeld_onHost (vp : Fin 32) (g : HostIf → HostIf) (d : Dev) : attachHeld (onHost g d) vp = attachHeld d vp := (rfl)
@[simp] theorem attachHeld_sysEvent (vp : Fin 32) (i : Nat) (d : Dev) : attachHeld (sysEvent i d) vp = attachHeld d vp := (rfl)
@[simp] theorem attachHeld_onColl (vp : Fin 32) (g : Collector → Collector) (d : Dev) : attachHeld (onColl g d) vp = attachHeld d vp := (rfl)
@[simp] theorem attachHeld_onLedger (vp : Fin 32) (g : Ledger → Ledger) (d : Dev) : attachHeld (onLedger g d) vp = attachHeld d vp := (rfl)
@[simp] theorem attachHeld_onSource (vp : Fin 32) (i : Fin 768) (g : Source → Source) (d : Dev) : attachHeld (onSource i g d) vp = attachHeld d vp := (rfl)
@[simp] theorem attachHeld_onJrn (vp : Fin 32) (g : Journal → Journal) (d : Dev) : attachHeld (onJrn g d) vp = attachHeld d vp := (rfl)
@[simp] theorem attachHeld_onChan (vp : Fin 32) (c : Fin 204) (g : Chan → Chan) (d : Dev) : attachHeld (onChan c g d) vp = attachHeld d vp := (rfl)
@[simp] theorem attachHeld_onUpd (vp : Fin 32) (g : Update → Update) (d : Dev) : attachHeld (onUpd g d) vp = attachHeld d vp := (rfl)
@[simp] theorem attachHeld_onStore (vp : Fin 32) (g : CfgStore → CfgStore) (d : Dev) : attachHeld (onStore g d) vp = attachHeld d vp := (rfl)
@[simp] theorem attachHeld_onTmr (vp : Fin 32) (g : Timers → Timers) (d : Dev) : attachHeld (onTmr g d) vp = attachHeld d vp := (rfl)
@[simp] theorem attachHeld_onNet (vp : Fin 32) (g : Net → Net) (d : Dev) : attachHeld (onNet g d) vp = attachHeld d vp := (rfl)
@[simp] theorem attachHeld_onTwin (vp : Fin 32) (g : Twin → Twin) (d : Dev) : attachHeld (onTwin g d) vp = attachHeld d vp := (rfl)
@[simp] theorem attachHeld_onPost (vp : Fin 32) (i : Fin 3) (g : Post → Post) (d : Dev) : attachHeld (onPost i g d) vp = attachHeld d vp := (rfl)
@[simp] theorem attachHeld_settle (vp : Fin 32) (a : Dev) (d : Dev) : attachHeld (settle a d) vp = attachHeld d vp := (rfl)
@[simp] theorem thermHigh_stopTimer (vp : Fin 32) (ev : Instr) (d : Dev) : thermHigh (stopTimer ev d) vp = thermHigh d vp := (rfl)
@[simp] theorem thermHigh_stopTimers (vp : Fin 32) (l : List Instr) (d : Dev) : thermHigh (stopTimers l d) vp = thermHigh d vp := (rfl)
@[simp] theorem thermHigh_startTimer (vp : Fin 32) (ev : Instr) (t : Nat) (d : Dev) : thermHigh (startTimer ev t d) vp = thermHigh d vp := (rfl)
@[simp] theorem thermHigh_startTimerAt (vp : Fin 32) (ev : Instr) (t : Nat) (d : Dev) : thermHigh (startTimerAt ev t d) vp = thermHigh d vp := (rfl)
@[simp] theorem thermHigh_portEvent (vp : Fin 32) (q : Fin 32) (i : Nat) (d : Dev) : thermHigh (portEvent q i d) vp = thermHigh d vp := (rfl)
@[simp] theorem thermHigh_post (vp : Fin 32) (ev : Instr) (d : Dev) : thermHigh (post ev d) vp = thermHigh d vp := (rfl)
@[simp] theorem thermHigh_journal (vp : Fin 32) (c : Fin 16) (l : List Byte) (d : Dev) : thermHigh (journal c l d) vp = thermHigh d vp := by unfold thermHigh; simp
@[simp] theorem thermHigh_journalEvent (vp : Fin 32) (c : Fin 16) (x : Nat) (y : Word) (z : Nat) (d : Dev) : thermHigh (journalEvent c x y z d) vp = thermHigh d vp := by unfold thermHigh; simp
@[simp] theorem thermHigh_journalContract (vp : Fin 32) (q : Fin 32) (d : Dev) : thermHigh (journalContract q d) vp = thermHigh d vp := by unfold thermHigh; simp
@[simp] theorem thermHigh_bumpFree (vp : Fin 32) (d : Dev) : thermHigh (bumpFree d) vp = thermHigh d vp := (rfl)
@[simp] theorem thermHigh_setTc (vp : Fin 32) (q : Fin 32) (t : TcState) (d : Dev) : thermHigh (setTc q t d) vp = thermHigh d vp := (rfl)
@[simp] theorem thermHigh_onPd (vp : Fin 32) (q : Fin 32) (g : PortPd → PortPd) (d : Dev) : thermHigh (onPd q g d) vp = thermHigh d vp := (rfl)
@[simp] theorem thermHigh_onPort (vp : Fin 32) (q : Fin 32) (g : Port → Port) (d : Dev) : thermHigh (onPort q g d) vp = thermHigh d vp := (rfl)
@[simp] theorem thermHigh_onLoop (vp : Fin 32) (q : Fin 32) (g : Loop → Loop) (d : Dev) : thermHigh (onLoop q g d) vp = thermHigh d vp := (rfl)
@[simp] theorem thermHigh_onHost (vp : Fin 32) (g : HostIf → HostIf) (d : Dev) : thermHigh (onHost g d) vp = thermHigh d vp := (rfl)
@[simp] theorem thermHigh_sysEvent (vp : Fin 32) (i : Nat) (d : Dev) : thermHigh (sysEvent i d) vp = thermHigh d vp := (rfl)
@[simp] theorem thermHigh_onColl (vp : Fin 32) (g : Collector → Collector) (d : Dev) : thermHigh (onColl g d) vp = thermHigh d vp := (rfl)
@[simp] theorem thermHigh_onLedger (vp : Fin 32) (g : Ledger → Ledger) (d : Dev) : thermHigh (onLedger g d) vp = thermHigh d vp := (rfl)
@[simp] theorem thermHigh_onSource (vp : Fin 32) (i : Fin 768) (g : Source → Source) (d : Dev) : thermHigh (onSource i g d) vp = thermHigh d vp := (rfl)
@[simp] theorem thermHigh_onJrn (vp : Fin 32) (g : Journal → Journal) (d : Dev) : thermHigh (onJrn g d) vp = thermHigh d vp := (rfl)
@[simp] theorem thermHigh_onChan (vp : Fin 32) (c : Fin 204) (g : Chan → Chan) (d : Dev) : thermHigh (onChan c g d) vp = thermHigh d vp := (rfl)
@[simp] theorem thermHigh_onFeed (vp : Fin 32) (i : Fin 4) (g : Feed → Feed) (d : Dev) : thermHigh (onFeed i g d) vp = thermHigh d vp := (rfl)
@[simp] theorem thermHigh_feedEvent (vp : Fin 32) (i : Fin 4) (k : Nat) (d : Dev) : thermHigh (feedEvent i k d) vp = thermHigh d vp := (rfl)
@[simp] theorem thermHigh_onPhase (vp : Fin 32) (i : Fin 64) (g : Phase → Phase) (d : Dev) : thermHigh (onPhase i g d) vp = thermHigh d vp := (rfl)
@[simp] theorem thermHigh_onUpd (vp : Fin 32) (g : Update → Update) (d : Dev) : thermHigh (onUpd g d) vp = thermHigh d vp := (rfl)
@[simp] theorem thermHigh_onStore (vp : Fin 32) (g : CfgStore → CfgStore) (d : Dev) : thermHigh (onStore g d) vp = thermHigh d vp := (rfl)
@[simp] theorem thermHigh_onTmr (vp : Fin 32) (g : Timers → Timers) (d : Dev) : thermHigh (onTmr g d) vp = thermHigh d vp := (rfl)
@[simp] theorem thermHigh_onNet (vp : Fin 32) (g : Net → Net) (d : Dev) : thermHigh (onNet g d) vp = thermHigh d vp := (rfl)
@[simp] theorem thermHigh_onTwin (vp : Fin 32) (g : Twin → Twin) (d : Dev) : thermHigh (onTwin g d) vp = thermHigh d vp := (rfl)
@[simp] theorem thermHigh_onPost (vp : Fin 32) (i : Fin 3) (g : Post → Post) (d : Dev) : thermHigh (onPost i g d) vp = thermHigh d vp := (rfl)
@[simp] theorem thermHigh_settle (vp : Fin 32) (a : Dev) (d : Dev) : thermHigh (settle a d) vp = thermHigh d vp := (rfl)
@[simp] theorem explicit_stopTimer (vp : Fin 32) (ev : Instr) (d : Dev) : explicit (stopTimer ev d) vp = explicit d vp := (rfl)
@[simp] theorem explicit_stopTimers (vp : Fin 32) (l : List Instr) (d : Dev) : explicit (stopTimers l d) vp = explicit d vp := (rfl)
@[simp] theorem explicit_startTimer (vp : Fin 32) (ev : Instr) (t : Nat) (d : Dev) : explicit (startTimer ev t d) vp = explicit d vp := (rfl)
@[simp] theorem explicit_startTimerAt (vp : Fin 32) (ev : Instr) (t : Nat) (d : Dev) : explicit (startTimerAt ev t d) vp = explicit d vp := (rfl)
@[simp] theorem explicit_portEvent (vp : Fin 32) (q : Fin 32) (i : Nat) (d : Dev) : explicit (portEvent q i d) vp = explicit d vp := (rfl)
@[simp] theorem explicit_guardEvent (vp : Fin 32) (q : Fin 32) (i : Nat) (d : Dev) : explicit (guardEvent q i d) vp = explicit d vp := (rfl)
@[simp] theorem explicit_post (vp : Fin 32) (ev : Instr) (d : Dev) : explicit (post ev d) vp = explicit d vp := (rfl)
@[simp] theorem explicit_journal (vp : Fin 32) (c : Fin 16) (l : List Byte) (d : Dev) : explicit (journal c l d) vp = explicit d vp := by unfold explicit; simp
@[simp] theorem explicit_journalEvent (vp : Fin 32) (c : Fin 16) (x : Nat) (y : Word) (z : Nat) (d : Dev) : explicit (journalEvent c x y z d) vp = explicit d vp := by unfold explicit; simp
@[simp] theorem explicit_journalContract (vp : Fin 32) (q : Fin 32) (d : Dev) : explicit (journalContract q d) vp = explicit d vp := by unfold explicit; simp
@[simp] theorem explicit_bumpFree (vp : Fin 32) (d : Dev) : explicit (bumpFree d) vp = explicit d vp := (rfl)
@[simp] theorem explicit_onPd (vp : Fin 32) (q : Fin 32) (g : PortPd → PortPd) (d : Dev) : explicit (onPd q g d) vp = explicit d vp := (rfl)
@[simp] theorem explicit_onGuard (vp : Fin 32) (q : Fin 32) (g : Guard → Guard) (d : Dev) : explicit (onGuard q g d) vp = explicit d vp := (rfl)
@[simp] theorem explicit_onLoop (vp : Fin 32) (q : Fin 32) (g : Loop → Loop) (d : Dev) : explicit (onLoop q g d) vp = explicit d vp := (rfl)
@[simp] theorem explicit_onHost (vp : Fin 32) (g : HostIf → HostIf) (d : Dev) : explicit (onHost g d) vp = explicit d vp := (rfl)
@[simp] theorem explicit_sysEvent (vp : Fin 32) (i : Nat) (d : Dev) : explicit (sysEvent i d) vp = explicit d vp := (rfl)
@[simp] theorem explicit_onColl (vp : Fin 32) (g : Collector → Collector) (d : Dev) : explicit (onColl g d) vp = explicit d vp := (rfl)
@[simp] theorem explicit_onLedger (vp : Fin 32) (g : Ledger → Ledger) (d : Dev) : explicit (onLedger g d) vp = explicit d vp := (rfl)
@[simp] theorem explicit_onSource (vp : Fin 32) (i : Fin 768) (g : Source → Source) (d : Dev) : explicit (onSource i g d) vp = explicit d vp := (rfl)
@[simp] theorem explicit_onJrn (vp : Fin 32) (g : Journal → Journal) (d : Dev) : explicit (onJrn g d) vp = explicit d vp := (rfl)
@[simp] theorem explicit_onChan (vp : Fin 32) (c : Fin 204) (g : Chan → Chan) (d : Dev) : explicit (onChan c g d) vp = explicit d vp := (rfl)
@[simp] theorem explicit_onFeed (vp : Fin 32) (i : Fin 4) (g : Feed → Feed) (d : Dev) : explicit (onFeed i g d) vp = explicit d vp := (rfl)
@[simp] theorem explicit_feedEvent (vp : Fin 32) (i : Fin 4) (k : Nat) (d : Dev) : explicit (feedEvent i k d) vp = explicit d vp := (rfl)
@[simp] theorem explicit_onPhase (vp : Fin 32) (i : Fin 64) (g : Phase → Phase) (d : Dev) : explicit (onPhase i g d) vp = explicit d vp := (rfl)
@[simp] theorem explicit_onUpd (vp : Fin 32) (g : Update → Update) (d : Dev) : explicit (onUpd g d) vp = explicit d vp := (rfl)
@[simp] theorem explicit_onStore (vp : Fin 32) (g : CfgStore → CfgStore) (d : Dev) : explicit (onStore g d) vp = explicit d vp := (rfl)
@[simp] theorem explicit_onTmr (vp : Fin 32) (g : Timers → Timers) (d : Dev) : explicit (onTmr g d) vp = explicit d vp := (rfl)
@[simp] theorem explicit_onNet (vp : Fin 32) (g : Net → Net) (d : Dev) : explicit (onNet g d) vp = explicit d vp := (rfl)
@[simp] theorem explicit_onTwin (vp : Fin 32) (g : Twin → Twin) (d : Dev) : explicit (onTwin g d) vp = explicit d vp := (rfl)
@[simp] theorem explicit_onPost (vp : Fin 32) (i : Fin 3) (g : Post → Post) (d : Dev) : explicit (onPost i g d) vp = explicit d vp := (rfl)
@[simp] theorem explicit_settle (vp : Fin 32) (a : Dev) (d : Dev) : explicit (settle a d) vp = explicit d vp := (rfl)
@[simp] theorem pdSource_stopTimer (vp : Fin 32) (ev : Instr) (d : Dev) : pdSource (stopTimer ev d) vp = pdSource d vp := (rfl)
@[simp] theorem pdSource_stopTimers (vp : Fin 32) (l : List Instr) (d : Dev) : pdSource (stopTimers l d) vp = pdSource d vp := (rfl)
@[simp] theorem pdSource_startTimer (vp : Fin 32) (ev : Instr) (t : Nat) (d : Dev) : pdSource (startTimer ev t d) vp = pdSource d vp := (rfl)
@[simp] theorem pdSource_startTimerAt (vp : Fin 32) (ev : Instr) (t : Nat) (d : Dev) : pdSource (startTimerAt ev t d) vp = pdSource d vp := (rfl)
@[simp] theorem pdSource_guardEvent (vp : Fin 32) (q : Fin 32) (i : Nat) (d : Dev) : pdSource (guardEvent q i d) vp = pdSource d vp := (rfl)
@[simp] theorem pdSource_post (vp : Fin 32) (ev : Instr) (d : Dev) : pdSource (post ev d) vp = pdSource d vp := (rfl)
@[simp] theorem pdSource_bumpFree (vp : Fin 32) (d : Dev) : pdSource (bumpFree d) vp = pdSource d vp := (rfl)
@[simp] theorem pdSource_onGuard (vp : Fin 32) (q : Fin 32) (g : Guard → Guard) (d : Dev) : pdSource (onGuard q g d) vp = pdSource d vp := (rfl)
@[simp] theorem pdSource_onLoop (vp : Fin 32) (q : Fin 32) (g : Loop → Loop) (d : Dev) : pdSource (onLoop q g d) vp = pdSource d vp := (rfl)
@[simp] theorem pdSource_onHost (vp : Fin 32) (g : HostIf → HostIf) (d : Dev) : pdSource (onHost g d) vp = pdSource d vp := (rfl)
@[simp] theorem pdSource_sysEvent (vp : Fin 32) (i : Nat) (d : Dev) : pdSource (sysEvent i d) vp = pdSource d vp := (rfl)
@[simp] theorem pdSource_onColl (vp : Fin 32) (g : Collector → Collector) (d : Dev) : pdSource (onColl g d) vp = pdSource d vp := (rfl)
@[simp] theorem pdSource_onLedger (vp : Fin 32) (g : Ledger → Ledger) (d : Dev) : pdSource (onLedger g d) vp = pdSource d vp := (rfl)
@[simp] theorem pdSource_onSource (vp : Fin 32) (i : Fin 768) (g : Source → Source) (d : Dev) : pdSource (onSource i g d) vp = pdSource d vp := (rfl)
@[simp] theorem pdSource_onJrn (vp : Fin 32) (g : Journal → Journal) (d : Dev) : pdSource (onJrn g d) vp = pdSource d vp := (rfl)
@[simp] theorem pdSource_onChan (vp : Fin 32) (c : Fin 204) (g : Chan → Chan) (d : Dev) : pdSource (onChan c g d) vp = pdSource d vp := (rfl)
@[simp] theorem pdSource_onFeed (vp : Fin 32) (i : Fin 4) (g : Feed → Feed) (d : Dev) : pdSource (onFeed i g d) vp = pdSource d vp := (rfl)
@[simp] theorem pdSource_feedEvent (vp : Fin 32) (i : Fin 4) (k : Nat) (d : Dev) : pdSource (feedEvent i k d) vp = pdSource d vp := (rfl)
@[simp] theorem pdSource_onPhase (vp : Fin 32) (i : Fin 64) (g : Phase → Phase) (d : Dev) : pdSource (onPhase i g d) vp = pdSource d vp := (rfl)
@[simp] theorem pdSource_onUpd (vp : Fin 32) (g : Update → Update) (d : Dev) : pdSource (onUpd g d) vp = pdSource d vp := (rfl)
@[simp] theorem pdSource_onStore (vp : Fin 32) (g : CfgStore → CfgStore) (d : Dev) : pdSource (onStore g d) vp = pdSource d vp := (rfl)
@[simp] theorem pdSource_onTmr (vp : Fin 32) (g : Timers → Timers) (d : Dev) : pdSource (onTmr g d) vp = pdSource d vp := (rfl)
@[simp] theorem pdSource_onNet (vp : Fin 32) (g : Net → Net) (d : Dev) : pdSource (onNet g d) vp = pdSource d vp := (rfl)
@[simp] theorem pdSource_onPost (vp : Fin 32) (i : Fin 3) (g : Post → Post) (d : Dev) : pdSource (onPost i g d) vp = pdSource d vp := (rfl)
@[simp] theorem pdLive_stopTimer (vp : Fin 32) (ev : Instr) (d : Dev) : pdLive (stopTimer ev d) vp = pdLive d vp := (rfl)
@[simp] theorem pdLive_stopTimers (vp : Fin 32) (l : List Instr) (d : Dev) : pdLive (stopTimers l d) vp = pdLive d vp := (rfl)
@[simp] theorem pdLive_startTimer (vp : Fin 32) (ev : Instr) (t : Nat) (d : Dev) : pdLive (startTimer ev t d) vp = pdLive d vp := (rfl)
@[simp] theorem pdLive_startTimerAt (vp : Fin 32) (ev : Instr) (t : Nat) (d : Dev) : pdLive (startTimerAt ev t d) vp = pdLive d vp := (rfl)
@[simp] theorem pdLive_guardEvent (vp : Fin 32) (q : Fin 32) (i : Nat) (d : Dev) : pdLive (guardEvent q i d) vp = pdLive d vp := (rfl)
@[simp] theorem pdLive_post (vp : Fin 32) (ev : Instr) (d : Dev) : pdLive (post ev d) vp = pdLive d vp := (rfl)
@[simp] theorem pdLive_bumpFree (vp : Fin 32) (d : Dev) : pdLive (bumpFree d) vp = pdLive d vp := (rfl)
@[simp] theorem pdLive_onGuard (vp : Fin 32) (q : Fin 32) (g : Guard → Guard) (d : Dev) : pdLive (onGuard q g d) vp = pdLive d vp := (rfl)
@[simp] theorem pdLive_onLoop (vp : Fin 32) (q : Fin 32) (g : Loop → Loop) (d : Dev) : pdLive (onLoop q g d) vp = pdLive d vp := (rfl)
@[simp] theorem pdLive_onHost (vp : Fin 32) (g : HostIf → HostIf) (d : Dev) : pdLive (onHost g d) vp = pdLive d vp := (rfl)
@[simp] theorem pdLive_sysEvent (vp : Fin 32) (i : Nat) (d : Dev) : pdLive (sysEvent i d) vp = pdLive d vp := (rfl)
@[simp] theorem pdLive_onColl (vp : Fin 32) (g : Collector → Collector) (d : Dev) : pdLive (onColl g d) vp = pdLive d vp := (rfl)
@[simp] theorem pdLive_onLedger (vp : Fin 32) (g : Ledger → Ledger) (d : Dev) : pdLive (onLedger g d) vp = pdLive d vp := (rfl)
@[simp] theorem pdLive_onSource (vp : Fin 32) (i : Fin 768) (g : Source → Source) (d : Dev) : pdLive (onSource i g d) vp = pdLive d vp := (rfl)
@[simp] theorem pdLive_onJrn (vp : Fin 32) (g : Journal → Journal) (d : Dev) : pdLive (onJrn g d) vp = pdLive d vp := (rfl)
@[simp] theorem pdLive_onChan (vp : Fin 32) (c : Fin 204) (g : Chan → Chan) (d : Dev) : pdLive (onChan c g d) vp = pdLive d vp := (rfl)
@[simp] theorem pdLive_onFeed (vp : Fin 32) (i : Fin 4) (g : Feed → Feed) (d : Dev) : pdLive (onFeed i g d) vp = pdLive d vp := (rfl)
@[simp] theorem pdLive_feedEvent (vp : Fin 32) (i : Fin 4) (k : Nat) (d : Dev) : pdLive (feedEvent i k d) vp = pdLive d vp := (rfl)
@[simp] theorem pdLive_onPhase (vp : Fin 32) (i : Fin 64) (g : Phase → Phase) (d : Dev) : pdLive (onPhase i g d) vp = pdLive d vp := (rfl)
@[simp] theorem pdLive_onUpd (vp : Fin 32) (g : Update → Update) (d : Dev) : pdLive (onUpd g d) vp = pdLive d vp := (rfl)
@[simp] theorem pdLive_onStore (vp : Fin 32) (g : CfgStore → CfgStore) (d : Dev) : pdLive (onStore g d) vp = pdLive d vp := (rfl)
@[simp] theorem pdLive_onTmr (vp : Fin 32) (g : Timers → Timers) (d : Dev) : pdLive (onTmr g d) vp = pdLive d vp := (rfl)
@[simp] theorem pdLive_onNet (vp : Fin 32) (g : Net → Net) (d : Dev) : pdLive (onNet g d) vp = pdLive d vp := (rfl)
@[simp] theorem pdLive_onPost (vp : Fin 32) (i : Fin 3) (g : Post → Post) (d : Dev) : pdLive (onPost i g d) vp = pdLive d vp := (rfl)
@[simp] theorem servicePort_stopTimer (vp : Fin 32) (ev : Instr) (d : Dev) : servicePort (stopTimer ev d) vp = servicePort d vp := (rfl)
@[simp] theorem servicePort_stopTimers (vp : Fin 32) (l : List Instr) (d : Dev) : servicePort (stopTimers l d) vp = servicePort d vp := (rfl)
@[simp] theorem servicePort_startTimer (vp : Fin 32) (ev : Instr) (t : Nat) (d : Dev) : servicePort (startTimer ev t d) vp = servicePort d vp := (rfl)
@[simp] theorem servicePort_startTimerAt (vp : Fin 32) (ev : Instr) (t : Nat) (d : Dev) : servicePort (startTimerAt ev t d) vp = servicePort d vp := (rfl)
@[simp] theorem servicePort_portEvent (vp : Fin 32) (q : Fin 32) (i : Nat) (d : Dev) : servicePort (portEvent q i d) vp = servicePort d vp := (rfl)
@[simp] theorem servicePort_guardEvent (vp : Fin 32) (q : Fin 32) (i : Nat) (d : Dev) : servicePort (guardEvent q i d) vp = servicePort d vp := (rfl)
@[simp] theorem servicePort_post (vp : Fin 32) (ev : Instr) (d : Dev) : servicePort (post ev d) vp = servicePort d vp := (rfl)
@[simp] theorem servicePort_journal (vp : Fin 32) (c : Fin 16) (l : List Byte) (d : Dev) : servicePort (journal c l d) vp = servicePort d vp := by unfold servicePort; simp
@[simp] theorem servicePort_journalEvent (vp : Fin 32) (c : Fin 16) (x : Nat) (y : Word) (z : Nat) (d : Dev) : servicePort (journalEvent c x y z d) vp = servicePort d vp := by unfold servicePort; simp
@[simp] theorem servicePort_journalContract (vp : Fin 32) (q : Fin 32) (d : Dev) : servicePort (journalContract q d) vp = servicePort d vp := by unfold servicePort; simp
@[simp] theorem servicePort_bumpFree (vp : Fin 32) (d : Dev) : servicePort (bumpFree d) vp = servicePort d vp := (rfl)
@[simp] theorem servicePort_onPd (vp : Fin 32) (q : Fin 32) (g : PortPd → PortPd) (d : Dev) : servicePort (onPd q g d) vp = servicePort d vp := (rfl)
@[simp] theorem servicePort_onGuard (vp : Fin 32) (q : Fin 32) (g : Guard → Guard) (d : Dev) : servicePort (onGuard q g d) vp = servicePort d vp := (rfl)
@[simp] theorem servicePort_onLoop (vp : Fin 32) (q : Fin 32) (g : Loop → Loop) (d : Dev) : servicePort (onLoop q g d) vp = servicePort d vp := (rfl)
@[simp] theorem servicePort_onHost (vp : Fin 32) (g : HostIf → HostIf) (d : Dev) : servicePort (onHost g d) vp = servicePort d vp := (rfl)
@[simp] theorem servicePort_sysEvent (vp : Fin 32) (i : Nat) (d : Dev) : servicePort (sysEvent i d) vp = servicePort d vp := (rfl)
@[simp] theorem servicePort_onColl (vp : Fin 32) (g : Collector → Collector) (d : Dev) : servicePort (onColl g d) vp = servicePort d vp := (rfl)
@[simp] theorem servicePort_onLedger (vp : Fin 32) (g : Ledger → Ledger) (d : Dev) : servicePort (onLedger g d) vp = servicePort d vp := (rfl)
@[simp] theorem servicePort_onSource (vp : Fin 32) (i : Fin 768) (g : Source → Source) (d : Dev) : servicePort (onSource i g d) vp = servicePort d vp := (rfl)
@[simp] theorem servicePort_onJrn (vp : Fin 32) (g : Journal → Journal) (d : Dev) : servicePort (onJrn g d) vp = servicePort d vp := (rfl)
@[simp] theorem servicePort_onChan (vp : Fin 32) (c : Fin 204) (g : Chan → Chan) (d : Dev) : servicePort (onChan c g d) vp = servicePort d vp := (rfl)
@[simp] theorem servicePort_onFeed (vp : Fin 32) (i : Fin 4) (g : Feed → Feed) (d : Dev) : servicePort (onFeed i g d) vp = servicePort d vp := (rfl)
@[simp] theorem servicePort_feedEvent (vp : Fin 32) (i : Fin 4) (k : Nat) (d : Dev) : servicePort (feedEvent i k d) vp = servicePort d vp := (rfl)
@[simp] theorem servicePort_onPhase (vp : Fin 32) (i : Fin 64) (g : Phase → Phase) (d : Dev) : servicePort (onPhase i g d) vp = servicePort d vp := (rfl)
@[simp] theorem servicePort_onUpd (vp : Fin 32) (g : Update → Update) (d : Dev) : servicePort (onUpd g d) vp = servicePort d vp := (rfl)
@[simp] theorem servicePort_onStore (vp : Fin 32) (g : CfgStore → CfgStore) (d : Dev) : servicePort (onStore g d) vp = servicePort d vp := (rfl)
@[simp] theorem servicePort_onTmr (vp : Fin 32) (g : Timers → Timers) (d : Dev) : servicePort (onTmr g d) vp = servicePort d vp := (rfl)
@[simp] theorem servicePort_onNet (vp : Fin 32) (g : Net → Net) (d : Dev) : servicePort (onNet g d) vp = servicePort d vp := (rfl)
@[simp] theorem servicePort_onTwin (vp : Fin 32) (g : Twin → Twin) (d : Dev) : servicePort (onTwin g d) vp = servicePort d vp := (rfl)
@[simp] theorem servicePort_onPost (vp : Fin 32) (i : Fin 3) (g : Post → Post) (d : Dev) : servicePort (onPost i g d) vp = servicePort d vp := (rfl)
@[simp] theorem servicePort_settle (vp : Fin 32) (a : Dev) (d : Dev) : servicePort (settle a d) vp = servicePort d vp := (rfl)
@[simp] theorem wantsVconn_stopTimer (vp : Fin 32) (ev : Instr) (d : Dev) : wantsVconn (stopTimer ev d) vp = wantsVconn d vp := (rfl)
@[simp] theorem wantsVconn_stopTimers (vp : Fin 32) (l : List Instr) (d : Dev) : wantsVconn (stopTimers l d) vp = wantsVconn d vp := (rfl)
@[simp] theorem wantsVconn_startTimer (vp : Fin 32) (ev : Instr) (t : Nat) (d : Dev) : wantsVconn (startTimer ev t d) vp = wantsVconn d vp := (rfl)
@[simp] theorem wantsVconn_startTimerAt (vp : Fin 32) (ev : Instr) (t : Nat) (d : Dev) : wantsVconn (startTimerAt ev t d) vp = wantsVconn d vp := (rfl)
@[simp] theorem wantsVconn_portEvent (vp : Fin 32) (q : Fin 32) (i : Nat) (d : Dev) : wantsVconn (portEvent q i d) vp = wantsVconn d vp := (rfl)
@[simp] theorem wantsVconn_guardEvent (vp : Fin 32) (q : Fin 32) (i : Nat) (d : Dev) : wantsVconn (guardEvent q i d) vp = wantsVconn d vp := (rfl)
@[simp] theorem wantsVconn_post (vp : Fin 32) (ev : Instr) (d : Dev) : wantsVconn (post ev d) vp = wantsVconn d vp := (rfl)
@[simp] theorem wantsVconn_bumpFree (vp : Fin 32) (d : Dev) : wantsVconn (bumpFree d) vp = wantsVconn d vp := (rfl)
@[simp] theorem wantsVconn_onPd (vp : Fin 32) (q : Fin 32) (g : PortPd → PortPd) (d : Dev) : wantsVconn (onPd q g d) vp = wantsVconn d vp := (rfl)
@[simp] theorem wantsVconn_onGuard (vp : Fin 32) (q : Fin 32) (g : Guard → Guard) (d : Dev) : wantsVconn (onGuard q g d) vp = wantsVconn d vp := (rfl)
@[simp] theorem wantsVconn_onLoop (vp : Fin 32) (q : Fin 32) (g : Loop → Loop) (d : Dev) : wantsVconn (onLoop q g d) vp = wantsVconn d vp := (rfl)
@[simp] theorem wantsVconn_onHost (vp : Fin 32) (g : HostIf → HostIf) (d : Dev) : wantsVconn (onHost g d) vp = wantsVconn d vp := (rfl)
@[simp] theorem wantsVconn_sysEvent (vp : Fin 32) (i : Nat) (d : Dev) : wantsVconn (sysEvent i d) vp = wantsVconn d vp := (rfl)
@[simp] theorem wantsVconn_onColl (vp : Fin 32) (g : Collector → Collector) (d : Dev) : wantsVconn (onColl g d) vp = wantsVconn d vp := (rfl)
@[simp] theorem wantsVconn_onLedger (vp : Fin 32) (g : Ledger → Ledger) (d : Dev) : wantsVconn (onLedger g d) vp = wantsVconn d vp := (rfl)
@[simp] theorem wantsVconn_onSource (vp : Fin 32) (i : Fin 768) (g : Source → Source) (d : Dev) : wantsVconn (onSource i g d) vp = wantsVconn d vp := (rfl)
@[simp] theorem wantsVconn_onJrn (vp : Fin 32) (g : Journal → Journal) (d : Dev) : wantsVconn (onJrn g d) vp = wantsVconn d vp := (rfl)
@[simp] theorem wantsVconn_onFeed (vp : Fin 32) (i : Fin 4) (g : Feed → Feed) (d : Dev) : wantsVconn (onFeed i g d) vp = wantsVconn d vp := (rfl)
@[simp] theorem wantsVconn_feedEvent (vp : Fin 32) (i : Fin 4) (k : Nat) (d : Dev) : wantsVconn (feedEvent i k d) vp = wantsVconn d vp := (rfl)
@[simp] theorem wantsVconn_onPhase (vp : Fin 32) (i : Fin 64) (g : Phase → Phase) (d : Dev) : wantsVconn (onPhase i g d) vp = wantsVconn d vp := (rfl)
@[simp] theorem wantsVconn_onUpd (vp : Fin 32) (g : Update → Update) (d : Dev) : wantsVconn (onUpd g d) vp = wantsVconn d vp := (rfl)
@[simp] theorem wantsVconn_onStore (vp : Fin 32) (g : CfgStore → CfgStore) (d : Dev) : wantsVconn (onStore g d) vp = wantsVconn d vp := (rfl)
@[simp] theorem wantsVconn_onTmr (vp : Fin 32) (g : Timers → Timers) (d : Dev) : wantsVconn (onTmr g d) vp = wantsVconn d vp := (rfl)
@[simp] theorem wantsVconn_onNet (vp : Fin 32) (g : Net → Net) (d : Dev) : wantsVconn (onNet g d) vp = wantsVconn d vp := (rfl)
@[simp] theorem wantsVconn_onTwin (vp : Fin 32) (g : Twin → Twin) (d : Dev) : wantsVconn (onTwin g d) vp = wantsVconn d vp := (rfl)
@[simp] theorem wantsVconn_onPost (vp : Fin 32) (i : Fin 3) (g : Post → Post) (d : Dev) : wantsVconn (onPost i g d) vp = wantsVconn d vp := (rfl)
@[simp] theorem wantsVconn_settle (vp : Fin 32) (a : Dev) (d : Dev) : wantsVconn (settle a d) vp = wantsVconn d vp := (rfl)
@[simp] theorem reachOf_stopTimer (vp : Fin 32) (ev : Instr) (d : Dev) : reachOf (stopTimer ev d) vp = reachOf d vp := (rfl)
@[simp] theorem reachOf_stopTimers (vp : Fin 32) (l : List Instr) (d : Dev) : reachOf (stopTimers l d) vp = reachOf d vp := (rfl)
@[simp] theorem reachOf_startTimer (vp : Fin 32) (ev : Instr) (t : Nat) (d : Dev) : reachOf (startTimer ev t d) vp = reachOf d vp := (rfl)
@[simp] theorem reachOf_startTimerAt (vp : Fin 32) (ev : Instr) (t : Nat) (d : Dev) : reachOf (startTimerAt ev t d) vp = reachOf d vp := (rfl)
@[simp] theorem reachOf_guardEvent (vp : Fin 32) (q : Fin 32) (i : Nat) (d : Dev) : reachOf (guardEvent q i d) vp = reachOf d vp := (rfl)
@[simp] theorem reachOf_post (vp : Fin 32) (ev : Instr) (d : Dev) : reachOf (post ev d) vp = reachOf d vp := (rfl)
@[simp] theorem reachOf_bumpFree (vp : Fin 32) (d : Dev) : reachOf (bumpFree d) vp = reachOf d vp := (rfl)
@[simp] theorem reachOf_onGuard (vp : Fin 32) (q : Fin 32) (g : Guard → Guard) (d : Dev) : reachOf (onGuard q g d) vp = reachOf d vp := (rfl)
@[simp] theorem reachOf_onLoop (vp : Fin 32) (q : Fin 32) (g : Loop → Loop) (d : Dev) : reachOf (onLoop q g d) vp = reachOf d vp := (rfl)
@[simp] theorem reachOf_onHost (vp : Fin 32) (g : HostIf → HostIf) (d : Dev) : reachOf (onHost g d) vp = reachOf d vp := (rfl)
@[simp] theorem reachOf_sysEvent (vp : Fin 32) (i : Nat) (d : Dev) : reachOf (sysEvent i d) vp = reachOf d vp := (rfl)
@[simp] theorem reachOf_onColl (vp : Fin 32) (g : Collector → Collector) (d : Dev) : reachOf (onColl g d) vp = reachOf d vp := (rfl)
@[simp] theorem reachOf_onSource (vp : Fin 32) (i : Fin 768) (g : Source → Source) (d : Dev) : reachOf (onSource i g d) vp = reachOf d vp := (rfl)
@[simp] theorem reachOf_onJrn (vp : Fin 32) (g : Journal → Journal) (d : Dev) : reachOf (onJrn g d) vp = reachOf d vp := (rfl)
@[simp] theorem reachOf_onChan (vp : Fin 32) (c : Fin 204) (g : Chan → Chan) (d : Dev) : reachOf (onChan c g d) vp = reachOf d vp := (rfl)
@[simp] theorem reachOf_onFeed (vp : Fin 32) (i : Fin 4) (g : Feed → Feed) (d : Dev) : reachOf (onFeed i g d) vp = reachOf d vp := (rfl)
@[simp] theorem reachOf_feedEvent (vp : Fin 32) (i : Fin 4) (k : Nat) (d : Dev) : reachOf (feedEvent i k d) vp = reachOf d vp := (rfl)
@[simp] theorem reachOf_onPhase (vp : Fin 32) (i : Fin 64) (g : Phase → Phase) (d : Dev) : reachOf (onPhase i g d) vp = reachOf d vp := (rfl)
@[simp] theorem reachOf_onUpd (vp : Fin 32) (g : Update → Update) (d : Dev) : reachOf (onUpd g d) vp = reachOf d vp := (rfl)
@[simp] theorem reachOf_onStore (vp : Fin 32) (g : CfgStore → CfgStore) (d : Dev) : reachOf (onStore g d) vp = reachOf d vp := (rfl)
@[simp] theorem reachOf_onTmr (vp : Fin 32) (g : Timers → Timers) (d : Dev) : reachOf (onTmr g d) vp = reachOf d vp := (rfl)
@[simp] theorem reachOf_onNet (vp : Fin 32) (g : Net → Net) (d : Dev) : reachOf (onNet g d) vp = reachOf d vp := (rfl)
@[simp] theorem reachOf_onTwin (vp : Fin 32) (g : Twin → Twin) (d : Dev) : reachOf (onTwin g d) vp = reachOf d vp := (rfl)
@[simp] theorem reachOf_onPost (vp : Fin 32) (i : Fin 3) (g : Post → Post) (d : Dev) : reachOf (onPost i g d) vp = reachOf d vp := (rfl)
@[simp] theorem reachOf_settle (vp : Fin 32) (a : Dev) (d : Dev) : reachOf (settle a d) vp = reachOf d vp := (rfl)
@[simp] theorem cutInstant_stopTimer (ev : Instr) (d : Dev) : cutInstant (stopTimer ev d) = cutInstant d := (rfl)
@[simp] theorem cutInstant_stopTimers (l : List Instr) (d : Dev) : cutInstant (stopTimers l d) = cutInstant d := (rfl)
@[simp] theorem cutInstant_startTimer (ev : Instr) (t : Nat) (d : Dev) : cutInstant (startTimer ev t d) = cutInstant d := (rfl)
@[simp] theorem cutInstant_startTimerAt (ev : Instr) (t : Nat) (d : Dev) : cutInstant (startTimerAt ev t d) = cutInstant d := (rfl)
@[simp] theorem cutInstant_portEvent (q : Fin 32) (i : Nat) (d : Dev) : cutInstant (portEvent q i d) = cutInstant d := (rfl)
@[simp] theorem cutInstant_guardEvent (q : Fin 32) (i : Nat) (d : Dev) : cutInstant (guardEvent q i d) = cutInstant d := (rfl)
@[simp] theorem cutInstant_post (ev : Instr) (d : Dev) : cutInstant (post ev d) = cutInstant d := (rfl)
@[simp] theorem cutInstant_bumpFree (d : Dev) : cutInstant (bumpFree d) = cutInstant d := (rfl)
@[simp] theorem cutInstant_setTc (q : Fin 32) (t : TcState) (d : Dev) : cutInstant (setTc q t d) = cutInstant d := (rfl)
@[simp] theorem cutInstant_onPd (q : Fin 32) (g : PortPd → PortPd) (d : Dev) : cutInstant (onPd q g d) = cutInstant d := (rfl)
@[simp] theorem cutInstant_onPort (q : Fin 32) (g : Port → Port) (d : Dev) : cutInstant (onPort q g d) = cutInstant d := (rfl)
@[simp] theorem cutInstant_onGuard (q : Fin 32) (g : Guard → Guard) (d : Dev) : cutInstant (onGuard q g d) = cutInstant d := (rfl)
@[simp] theorem cutInstant_onLoop (q : Fin 32) (g : Loop → Loop) (d : Dev) : cutInstant (onLoop q g d) = cutInstant d := (rfl)
@[simp] theorem cutInstant_onHost (g : HostIf → HostIf) (d : Dev) : cutInstant (onHost g d) = cutInstant d := (rfl)
@[simp] theorem cutInstant_sysEvent (i : Nat) (d : Dev) : cutInstant (sysEvent i d) = cutInstant d := (rfl)
@[simp] theorem cutInstant_onColl (g : Collector → Collector) (d : Dev) : cutInstant (onColl g d) = cutInstant d := (rfl)
@[simp] theorem cutInstant_onSource (i : Fin 768) (g : Source → Source) (d : Dev) : cutInstant (onSource i g d) = cutInstant d := (rfl)
@[simp] theorem cutInstant_onJrn (g : Journal → Journal) (d : Dev) : cutInstant (onJrn g d) = cutInstant d := (rfl)
@[simp] theorem cutInstant_onChan (c : Fin 204) (g : Chan → Chan) (d : Dev) : cutInstant (onChan c g d) = cutInstant d := (rfl)
@[simp] theorem cutInstant_onFeed (i : Fin 4) (g : Feed → Feed) (d : Dev) : cutInstant (onFeed i g d) = cutInstant d := (rfl)
@[simp] theorem cutInstant_feedEvent (i : Fin 4) (k : Nat) (d : Dev) : cutInstant (feedEvent i k d) = cutInstant d := (rfl)
@[simp] theorem cutInstant_onPhase (i : Fin 64) (g : Phase → Phase) (d : Dev) : cutInstant (onPhase i g d) = cutInstant d := (rfl)
@[simp] theorem cutInstant_onUpd (g : Update → Update) (d : Dev) : cutInstant (onUpd g d) = cutInstant d := (rfl)
@[simp] theorem cutInstant_onStore (g : CfgStore → CfgStore) (d : Dev) : cutInstant (onStore g d) = cutInstant d := (rfl)
@[simp] theorem cutInstant_onNet (g : Net → Net) (d : Dev) : cutInstant (onNet g d) = cutInstant d := (rfl)
@[simp] theorem cutInstant_onTwin (g : Twin → Twin) (d : Dev) : cutInstant (onTwin g d) = cutInstant d := (rfl)
@[simp] theorem cutInstant_onPost (i : Fin 3) (g : Post → Post) (d : Dev) : cutInstant (onPost i g d) = cutInstant d := (rfl)
@[simp] theorem cutInstant_settle (a : Dev) (d : Dev) : cutInstant (settle a d) = cutInstant d := (rfl)
@[simp] theorem notSwitching_stopTimer (vp : Fin 32) (ev : Instr) (d : Dev) : notSwitching (stopTimer ev d) vp = notSwitching d vp := (rfl)
@[simp] theorem notSwitching_stopTimers (vp : Fin 32) (l : List Instr) (d : Dev) : notSwitching (stopTimers l d) vp = notSwitching d vp := (rfl)
@[simp] theorem notSwitching_startTimer (vp : Fin 32) (ev : Instr) (t : Nat) (d : Dev) : notSwitching (startTimer ev t d) vp = notSwitching d vp := (rfl)
@[simp] theorem notSwitching_startTimerAt (vp : Fin 32) (ev : Instr) (t : Nat) (d : Dev) : notSwitching (startTimerAt ev t d) vp = notSwitching d vp := (rfl)
@[simp] theorem notSwitching_portEvent (vp : Fin 32) (q : Fin 32) (i : Nat) (d : Dev) : notSwitching (portEvent q i d) vp = notSwitching d vp := (rfl)
@[simp] theorem notSwitching_guardEvent (vp : Fin 32) (q : Fin 32) (i : Nat) (d : Dev) : notSwitching (guardEvent q i d) vp = notSwitching d vp := (rfl)
@[simp] theorem notSwitching_post (vp : Fin 32) (ev : Instr) (d : Dev) : notSwitching (post ev d) vp = notSwitching d vp := (rfl)
@[simp] theorem notSwitching_journal (vp : Fin 32) (c : Fin 16) (l : List Byte) (d : Dev) : notSwitching (journal c l d) vp = notSwitching d vp := by unfold notSwitching; simp
@[simp] theorem notSwitching_journalEvent (vp : Fin 32) (c : Fin 16) (x : Nat) (y : Word) (z : Nat) (d : Dev) : notSwitching (journalEvent c x y z d) vp = notSwitching d vp := by unfold notSwitching; simp
@[simp] theorem notSwitching_journalContract (vp : Fin 32) (q : Fin 32) (d : Dev) : notSwitching (journalContract q d) vp = notSwitching d vp := by unfold notSwitching; simp
@[simp] theorem notSwitching_bumpFree (vp : Fin 32) (d : Dev) : notSwitching (bumpFree d) vp = notSwitching d vp := (rfl)
@[simp] theorem notSwitching_setTc (vp : Fin 32) (q : Fin 32) (t : TcState) (d : Dev) : notSwitching (setTc q t d) vp = notSwitching d vp := (rfl)
@[simp] theorem notSwitching_onPd (vp : Fin 32) (q : Fin 32) (g : PortPd → PortPd) (d : Dev) : notSwitching (onPd q g d) vp = notSwitching d vp := (rfl)
@[simp] theorem notSwitching_onPort (vp : Fin 32) (q : Fin 32) (g : Port → Port) (d : Dev) : notSwitching (onPort q g d) vp = notSwitching d vp := (rfl)
@[simp] theorem notSwitching_onGuard (vp : Fin 32) (q : Fin 32) (g : Guard → Guard) (d : Dev) : notSwitching (onGuard q g d) vp = notSwitching d vp := (rfl)
@[simp] theorem notSwitching_onHost (vp : Fin 32) (g : HostIf → HostIf) (d : Dev) : notSwitching (onHost g d) vp = notSwitching d vp := (rfl)
@[simp] theorem notSwitching_sysEvent (vp : Fin 32) (i : Nat) (d : Dev) : notSwitching (sysEvent i d) vp = notSwitching d vp := (rfl)
@[simp] theorem notSwitching_onColl (vp : Fin 32) (g : Collector → Collector) (d : Dev) : notSwitching (onColl g d) vp = notSwitching d vp := (rfl)
@[simp] theorem notSwitching_onLedger (vp : Fin 32) (g : Ledger → Ledger) (d : Dev) : notSwitching (onLedger g d) vp = notSwitching d vp := (rfl)
@[simp] theorem notSwitching_onSource (vp : Fin 32) (i : Fin 768) (g : Source → Source) (d : Dev) : notSwitching (onSource i g d) vp = notSwitching d vp := (rfl)
@[simp] theorem notSwitching_onJrn (vp : Fin 32) (g : Journal → Journal) (d : Dev) : notSwitching (onJrn g d) vp = notSwitching d vp := (rfl)
@[simp] theorem notSwitching_onChan (vp : Fin 32) (c : Fin 204) (g : Chan → Chan) (d : Dev) : notSwitching (onChan c g d) vp = notSwitching d vp := (rfl)
@[simp] theorem notSwitching_onFeed (vp : Fin 32) (i : Fin 4) (g : Feed → Feed) (d : Dev) : notSwitching (onFeed i g d) vp = notSwitching d vp := (rfl)
@[simp] theorem notSwitching_feedEvent (vp : Fin 32) (i : Fin 4) (k : Nat) (d : Dev) : notSwitching (feedEvent i k d) vp = notSwitching d vp := (rfl)
@[simp] theorem notSwitching_onPhase (vp : Fin 32) (i : Fin 64) (g : Phase → Phase) (d : Dev) : notSwitching (onPhase i g d) vp = notSwitching d vp := (rfl)
@[simp] theorem notSwitching_onUpd (vp : Fin 32) (g : Update → Update) (d : Dev) : notSwitching (onUpd g d) vp = notSwitching d vp := (rfl)
@[simp] theorem notSwitching_onStore (vp : Fin 32) (g : CfgStore → CfgStore) (d : Dev) : notSwitching (onStore g d) vp = notSwitching d vp := (rfl)
@[simp] theorem notSwitching_onTmr (vp : Fin 32) (g : Timers → Timers) (d : Dev) : notSwitching (onTmr g d) vp = notSwitching d vp := (rfl)
@[simp] theorem notSwitching_onNet (vp : Fin 32) (g : Net → Net) (d : Dev) : notSwitching (onNet g d) vp = notSwitching d vp := (rfl)
@[simp] theorem notSwitching_onTwin (vp : Fin 32) (g : Twin → Twin) (d : Dev) : notSwitching (onTwin g d) vp = notSwitching d vp := (rfl)
@[simp] theorem notSwitching_onPost (vp : Fin 32) (i : Fin 3) (g : Post → Post) (d : Dev) : notSwitching (onPost i g d) vp = notSwitching d vp := (rfl)
@[simp] theorem notSwitching_settle (vp : Fin 32) (a : Dev) (d : Dev) : notSwitching (settle a d) vp = notSwitching d vp := (rfl)
@[simp] theorem stageLocked_stopTimer (ev : Instr) (d : Dev) : stageLocked (stopTimer ev d) = stageLocked d := (rfl)
@[simp] theorem stageLocked_stopTimers (l : List Instr) (d : Dev) : stageLocked (stopTimers l d) = stageLocked d := (rfl)
@[simp] theorem stageLocked_startTimer (ev : Instr) (t : Nat) (d : Dev) : stageLocked (startTimer ev t d) = stageLocked d := (rfl)
@[simp] theorem stageLocked_startTimerAt (ev : Instr) (t : Nat) (d : Dev) : stageLocked (startTimerAt ev t d) = stageLocked d := (rfl)
@[simp] theorem stageLocked_portEvent (q : Fin 32) (i : Nat) (d : Dev) : stageLocked (portEvent q i d) = stageLocked d := (rfl)
@[simp] theorem stageLocked_guardEvent (q : Fin 32) (i : Nat) (d : Dev) : stageLocked (guardEvent q i d) = stageLocked d := (rfl)
@[simp] theorem stageLocked_post (ev : Instr) (d : Dev) : stageLocked (post ev d) = stageLocked d := (rfl)
@[simp] theorem stageLocked_bumpFree (d : Dev) : stageLocked (bumpFree d) = stageLocked d := (rfl)
@[simp] theorem stageLocked_setTc (q : Fin 32) (t : TcState) (d : Dev) : stageLocked (setTc q t d) = stageLocked d := (rfl)
@[simp] theorem stageLocked_onPd (q : Fin 32) (g : PortPd → PortPd) (d : Dev) : stageLocked (onPd q g d) = stageLocked d := (rfl)
@[simp] theorem stageLocked_onPort (q : Fin 32) (g : Port → Port) (d : Dev) : stageLocked (onPort q g d) = stageLocked d := (rfl)
@[simp] theorem stageLocked_onGuard (q : Fin 32) (g : Guard → Guard) (d : Dev) : stageLocked (onGuard q g d) = stageLocked d := (rfl)
@[simp] theorem stageLocked_onLoop (q : Fin 32) (g : Loop → Loop) (d : Dev) : stageLocked (onLoop q g d) = stageLocked d := (rfl)
@[simp] theorem stageLocked_onHost (g : HostIf → HostIf) (d : Dev) : stageLocked (onHost g d) = stageLocked d := (rfl)
@[simp] theorem stageLocked_sysEvent (i : Nat) (d : Dev) : stageLocked (sysEvent i d) = stageLocked d := (rfl)
@[simp] theorem stageLocked_onColl (g : Collector → Collector) (d : Dev) : stageLocked (onColl g d) = stageLocked d := (rfl)
@[simp] theorem stageLocked_onSource (i : Fin 768) (g : Source → Source) (d : Dev) : stageLocked (onSource i g d) = stageLocked d := (rfl)
@[simp] theorem stageLocked_onJrn (g : Journal → Journal) (d : Dev) : stageLocked (onJrn g d) = stageLocked d := (rfl)
@[simp] theorem stageLocked_onChan (c : Fin 204) (g : Chan → Chan) (d : Dev) : stageLocked (onChan c g d) = stageLocked d := (rfl)
@[simp] theorem stageLocked_onFeed (i : Fin 4) (g : Feed → Feed) (d : Dev) : stageLocked (onFeed i g d) = stageLocked d := (rfl)
@[simp] theorem stageLocked_feedEvent (i : Fin 4) (k : Nat) (d : Dev) : stageLocked (feedEvent i k d) = stageLocked d := (rfl)
@[simp] theorem stageLocked_onPhase (i : Fin 64) (g : Phase → Phase) (d : Dev) : stageLocked (onPhase i g d) = stageLocked d := (rfl)
@[simp] theorem stageLocked_onUpd (g : Update → Update) (d : Dev) : stageLocked (onUpd g d) = stageLocked d := (rfl)
@[simp] theorem stageLocked_onTmr (g : Timers → Timers) (d : Dev) : stageLocked (onTmr g d) = stageLocked d := (rfl)
@[simp] theorem stageLocked_onNet (g : Net → Net) (d : Dev) : stageLocked (onNet g d) = stageLocked d := (rfl)
@[simp] theorem stageLocked_onTwin (g : Twin → Twin) (d : Dev) : stageLocked (onTwin g d) = stageLocked d := (rfl)
@[simp] theorem stageLocked_onPost (i : Fin 3) (g : Post → Post) (d : Dev) : stageLocked (onPost i g d) = stageLocked d := (rfl)
@[simp] theorem stageLocked_settle (a : Dev) (d : Dev) : stageLocked (settle a d) = stageLocked d := (rfl)
@[simp] theorem dieTripped_stopTimer (ve : Fin 4) (ev : Instr) (d : Dev) : dieTripped (stopTimer ev d) ve = dieTripped d ve := (rfl)
@[simp] theorem dieTripped_stopTimers (ve : Fin 4) (l : List Instr) (d : Dev) : dieTripped (stopTimers l d) ve = dieTripped d ve := (rfl)
@[simp] theorem dieTripped_startTimer (ve : Fin 4) (ev : Instr) (t : Nat) (d : Dev) : dieTripped (startTimer ev t d) ve = dieTripped d ve := (rfl)
@[simp] theorem dieTripped_startTimerAt (ve : Fin 4) (ev : Instr) (t : Nat) (d : Dev) : dieTripped (startTimerAt ev t d) ve = dieTripped d ve := (rfl)
@[simp] theorem dieTripped_portEvent (ve : Fin 4) (q : Fin 32) (i : Nat) (d : Dev) : dieTripped (portEvent q i d) ve = dieTripped d ve := (rfl)
@[simp] theorem dieTripped_guardEvent (ve : Fin 4) (q : Fin 32) (i : Nat) (d : Dev) : dieTripped (guardEvent q i d) ve = dieTripped d ve := (rfl)
@[simp] theorem dieTripped_post (ve : Fin 4) (ev : Instr) (d : Dev) : dieTripped (post ev d) ve = dieTripped d ve := (rfl)
@[simp] theorem dieTripped_journal (ve : Fin 4) (c : Fin 16) (l : List Byte) (d : Dev) : dieTripped (journal c l d) ve = dieTripped d ve := by unfold dieTripped; simp
@[simp] theorem dieTripped_journalEvent (ve : Fin 4) (c : Fin 16) (x : Nat) (y : Word) (z : Nat) (d : Dev) : dieTripped (journalEvent c x y z d) ve = dieTripped d ve := by unfold dieTripped; simp
@[simp] theorem dieTripped_journalContract (ve : Fin 4) (q : Fin 32) (d : Dev) : dieTripped (journalContract q d) ve = dieTripped d ve := by unfold dieTripped; simp
@[simp] theorem dieTripped_bumpFree (ve : Fin 4) (d : Dev) : dieTripped (bumpFree d) ve = dieTripped d ve := (rfl)
@[simp] theorem dieTripped_setTc (ve : Fin 4) (q : Fin 32) (t : TcState) (d : Dev) : dieTripped (setTc q t d) ve = dieTripped d ve := (rfl)
@[simp] theorem dieTripped_onPd (ve : Fin 4) (q : Fin 32) (g : PortPd → PortPd) (d : Dev) : dieTripped (onPd q g d) ve = dieTripped d ve := (rfl)
@[simp] theorem dieTripped_onPort (ve : Fin 4) (q : Fin 32) (g : Port → Port) (d : Dev) : dieTripped (onPort q g d) ve = dieTripped d ve := (rfl)
@[simp] theorem dieTripped_onGuard (ve : Fin 4) (q : Fin 32) (g : Guard → Guard) (d : Dev) : dieTripped (onGuard q g d) ve = dieTripped d ve := (rfl)
@[simp] theorem dieTripped_onLoop (ve : Fin 4) (q : Fin 32) (g : Loop → Loop) (d : Dev) : dieTripped (onLoop q g d) ve = dieTripped d ve := (rfl)
@[simp] theorem dieTripped_onHost (ve : Fin 4) (g : HostIf → HostIf) (d : Dev) : dieTripped (onHost g d) ve = dieTripped d ve := (rfl)
@[simp] theorem dieTripped_sysEvent (ve : Fin 4) (i : Nat) (d : Dev) : dieTripped (sysEvent i d) ve = dieTripped d ve := (rfl)
@[simp] theorem dieTripped_onColl (ve : Fin 4) (g : Collector → Collector) (d : Dev) : dieTripped (onColl g d) ve = dieTripped d ve := (rfl)
@[simp] theorem dieTripped_onLedger (ve : Fin 4) (g : Ledger → Ledger) (d : Dev) : dieTripped (onLedger g d) ve = dieTripped d ve := (rfl)
@[simp] theorem dieTripped_onSource (ve : Fin 4) (i : Fin 768) (g : Source → Source) (d : Dev) : dieTripped (onSource i g d) ve = dieTripped d ve := (rfl)
@[simp] theorem dieTripped_onJrn (ve : Fin 4) (g : Journal → Journal) (d : Dev) : dieTripped (onJrn g d) ve = dieTripped d ve := (rfl)
@[simp] theorem dieTripped_onChan (ve : Fin 4) (c : Fin 204) (g : Chan → Chan) (d : Dev) : dieTripped (onChan c g d) ve = dieTripped d ve := (rfl)
@[simp] theorem dieTripped_onFeed (ve : Fin 4) (i : Fin 4) (g : Feed → Feed) (d : Dev) : dieTripped (onFeed i g d) ve = dieTripped d ve := (rfl)
@[simp] theorem dieTripped_feedEvent (ve : Fin 4) (i : Fin 4) (k : Nat) (d : Dev) : dieTripped (feedEvent i k d) ve = dieTripped d ve := (rfl)
@[simp] theorem dieTripped_onPhase (ve : Fin 4) (i : Fin 64) (g : Phase → Phase) (d : Dev) : dieTripped (onPhase i g d) ve = dieTripped d ve := (rfl)
@[simp] theorem dieTripped_onUpd (ve : Fin 4) (g : Update → Update) (d : Dev) : dieTripped (onUpd g d) ve = dieTripped d ve := (rfl)
@[simp] theorem dieTripped_onStore (ve : Fin 4) (g : CfgStore → CfgStore) (d : Dev) : dieTripped (onStore g d) ve = dieTripped d ve := (rfl)
@[simp] theorem dieTripped_onTmr (ve : Fin 4) (g : Timers → Timers) (d : Dev) : dieTripped (onTmr g d) ve = dieTripped d ve := (rfl)
@[simp] theorem dieTripped_onNet (ve : Fin 4) (g : Net → Net) (d : Dev) : dieTripped (onNet g d) ve = dieTripped d ve := (rfl)
@[simp] theorem dieTripped_onTwin (ve : Fin 4) (g : Twin → Twin) (d : Dev) : dieTripped (onTwin g d) ve = dieTripped d ve := (rfl)
@[simp] theorem dieTripped_onPost (ve : Fin 4) (i : Fin 3) (g : Post → Post) (d : Dev) : dieTripped (onPost i g d) ve = dieTripped d ve := (rfl)
@[simp] theorem dieTripped_settle (ve : Fin 4) (a : Dev) (d : Dev) : dieTripped (settle a d) ve = dieTripped d ve := (rfl)
@[simp] theorem dieMinimal_stopTimer (ve : Fin 4) (ev : Instr) (d : Dev) : dieMinimal (stopTimer ev d) ve = dieMinimal d ve := (rfl)
@[simp] theorem dieMinimal_stopTimers (ve : Fin 4) (l : List Instr) (d : Dev) : dieMinimal (stopTimers l d) ve = dieMinimal d ve := (rfl)
@[simp] theorem dieMinimal_startTimer (ve : Fin 4) (ev : Instr) (t : Nat) (d : Dev) : dieMinimal (startTimer ev t d) ve = dieMinimal d ve := (rfl)
@[simp] theorem dieMinimal_startTimerAt (ve : Fin 4) (ev : Instr) (t : Nat) (d : Dev) : dieMinimal (startTimerAt ev t d) ve = dieMinimal d ve := (rfl)
@[simp] theorem dieMinimal_portEvent (ve : Fin 4) (q : Fin 32) (i : Nat) (d : Dev) : dieMinimal (portEvent q i d) ve = dieMinimal d ve := (rfl)
@[simp] theorem dieMinimal_guardEvent (ve : Fin 4) (q : Fin 32) (i : Nat) (d : Dev) : dieMinimal (guardEvent q i d) ve = dieMinimal d ve := (rfl)
@[simp] theorem dieMinimal_post (ve : Fin 4) (ev : Instr) (d : Dev) : dieMinimal (post ev d) ve = dieMinimal d ve := (rfl)
@[simp] theorem dieMinimal_journal (ve : Fin 4) (c : Fin 16) (l : List Byte) (d : Dev) : dieMinimal (journal c l d) ve = dieMinimal d ve := by unfold dieMinimal; simp
@[simp] theorem dieMinimal_journalEvent (ve : Fin 4) (c : Fin 16) (x : Nat) (y : Word) (z : Nat) (d : Dev) : dieMinimal (journalEvent c x y z d) ve = dieMinimal d ve := by unfold dieMinimal; simp
@[simp] theorem dieMinimal_journalContract (ve : Fin 4) (q : Fin 32) (d : Dev) : dieMinimal (journalContract q d) ve = dieMinimal d ve := by unfold dieMinimal; simp
@[simp] theorem dieMinimal_bumpFree (ve : Fin 4) (d : Dev) : dieMinimal (bumpFree d) ve = dieMinimal d ve := (rfl)
@[simp] theorem dieMinimal_setTc (ve : Fin 4) (q : Fin 32) (t : TcState) (d : Dev) : dieMinimal (setTc q t d) ve = dieMinimal d ve := (rfl)
@[simp] theorem dieMinimal_onPd (ve : Fin 4) (q : Fin 32) (g : PortPd → PortPd) (d : Dev) : dieMinimal (onPd q g d) ve = dieMinimal d ve := (rfl)
@[simp] theorem dieMinimal_onPort (ve : Fin 4) (q : Fin 32) (g : Port → Port) (d : Dev) : dieMinimal (onPort q g d) ve = dieMinimal d ve := (rfl)
@[simp] theorem dieMinimal_onGuard (ve : Fin 4) (q : Fin 32) (g : Guard → Guard) (d : Dev) : dieMinimal (onGuard q g d) ve = dieMinimal d ve := (rfl)
@[simp] theorem dieMinimal_onLoop (ve : Fin 4) (q : Fin 32) (g : Loop → Loop) (d : Dev) : dieMinimal (onLoop q g d) ve = dieMinimal d ve := (rfl)
@[simp] theorem dieMinimal_onHost (ve : Fin 4) (g : HostIf → HostIf) (d : Dev) : dieMinimal (onHost g d) ve = dieMinimal d ve := (rfl)
@[simp] theorem dieMinimal_sysEvent (ve : Fin 4) (i : Nat) (d : Dev) : dieMinimal (sysEvent i d) ve = dieMinimal d ve := (rfl)
@[simp] theorem dieMinimal_onColl (ve : Fin 4) (g : Collector → Collector) (d : Dev) : dieMinimal (onColl g d) ve = dieMinimal d ve := (rfl)
@[simp] theorem dieMinimal_onLedger (ve : Fin 4) (g : Ledger → Ledger) (d : Dev) : dieMinimal (onLedger g d) ve = dieMinimal d ve := (rfl)
@[simp] theorem dieMinimal_onSource (ve : Fin 4) (i : Fin 768) (g : Source → Source) (d : Dev) : dieMinimal (onSource i g d) ve = dieMinimal d ve := (rfl)
@[simp] theorem dieMinimal_onJrn (ve : Fin 4) (g : Journal → Journal) (d : Dev) : dieMinimal (onJrn g d) ve = dieMinimal d ve := (rfl)
@[simp] theorem dieMinimal_onChan (ve : Fin 4) (c : Fin 204) (g : Chan → Chan) (d : Dev) : dieMinimal (onChan c g d) ve = dieMinimal d ve := (rfl)
@[simp] theorem dieMinimal_onFeed (ve : Fin 4) (i : Fin 4) (g : Feed → Feed) (d : Dev) : dieMinimal (onFeed i g d) ve = dieMinimal d ve := (rfl)
@[simp] theorem dieMinimal_feedEvent (ve : Fin 4) (i : Fin 4) (k : Nat) (d : Dev) : dieMinimal (feedEvent i k d) ve = dieMinimal d ve := (rfl)
@[simp] theorem dieMinimal_onPhase (ve : Fin 4) (i : Fin 64) (g : Phase → Phase) (d : Dev) : dieMinimal (onPhase i g d) ve = dieMinimal d ve := (rfl)
@[simp] theorem dieMinimal_onUpd (ve : Fin 4) (g : Update → Update) (d : Dev) : dieMinimal (onUpd g d) ve = dieMinimal d ve := (rfl)
@[simp] theorem dieMinimal_onStore (ve : Fin 4) (g : CfgStore → CfgStore) (d : Dev) : dieMinimal (onStore g d) ve = dieMinimal d ve := (rfl)
@[simp] theorem dieMinimal_onTmr (ve : Fin 4) (g : Timers → Timers) (d : Dev) : dieMinimal (onTmr g d) ve = dieMinimal d ve := (rfl)
@[simp] theorem dieMinimal_onNet (ve : Fin 4) (g : Net → Net) (d : Dev) : dieMinimal (onNet g d) ve = dieMinimal d ve := (rfl)
@[simp] theorem dieMinimal_onTwin (ve : Fin 4) (g : Twin → Twin) (d : Dev) : dieMinimal (onTwin g d) ve = dieMinimal d ve := (rfl)
@[simp] theorem dieMinimal_onPost (ve : Fin 4) (i : Fin 3) (g : Post → Post) (d : Dev) : dieMinimal (onPost i g d) ve = dieMinimal d ve := (rfl)
@[simp] theorem dieMinimal_settle (ve : Fin 4) (a : Dev) (d : Dev) : dieMinimal (settle a d) ve = dieMinimal d ve := (rfl)
@[simp] theorem feedCfg_stopTimer (vf : Fin 4) (ev : Instr) (d : Dev) : feedCfg (stopTimer ev d) vf = feedCfg d vf := (rfl)
@[simp] theorem feedCfg_stopTimers (vf : Fin 4) (l : List Instr) (d : Dev) : feedCfg (stopTimers l d) vf = feedCfg d vf := (rfl)
@[simp] theorem feedCfg_startTimer (vf : Fin 4) (ev : Instr) (t : Nat) (d : Dev) : feedCfg (startTimer ev t d) vf = feedCfg d vf := (rfl)
@[simp] theorem feedCfg_startTimerAt (vf : Fin 4) (ev : Instr) (t : Nat) (d : Dev) : feedCfg (startTimerAt ev t d) vf = feedCfg d vf := (rfl)
@[simp] theorem feedCfg_portEvent (vf : Fin 4) (q : Fin 32) (i : Nat) (d : Dev) : feedCfg (portEvent q i d) vf = feedCfg d vf := (rfl)
@[simp] theorem feedCfg_guardEvent (vf : Fin 4) (q : Fin 32) (i : Nat) (d : Dev) : feedCfg (guardEvent q i d) vf = feedCfg d vf := (rfl)
@[simp] theorem feedCfg_post (vf : Fin 4) (ev : Instr) (d : Dev) : feedCfg (post ev d) vf = feedCfg d vf := (rfl)
@[simp] theorem feedCfg_journal (vf : Fin 4) (c : Fin 16) (l : List Byte) (d : Dev) : feedCfg (journal c l d) vf = feedCfg d vf := by unfold feedCfg; simp
@[simp] theorem feedCfg_journalEvent (vf : Fin 4) (c : Fin 16) (x : Nat) (y : Word) (z : Nat) (d : Dev) : feedCfg (journalEvent c x y z d) vf = feedCfg d vf := by unfold feedCfg; simp
@[simp] theorem feedCfg_journalContract (vf : Fin 4) (q : Fin 32) (d : Dev) : feedCfg (journalContract q d) vf = feedCfg d vf := by unfold feedCfg; simp
@[simp] theorem feedCfg_bumpFree (vf : Fin 4) (d : Dev) : feedCfg (bumpFree d) vf = feedCfg d vf := (rfl)
@[simp] theorem feedCfg_setTc (vf : Fin 4) (q : Fin 32) (t : TcState) (d : Dev) : feedCfg (setTc q t d) vf = feedCfg d vf := (rfl)
@[simp] theorem feedCfg_onPd (vf : Fin 4) (q : Fin 32) (g : PortPd → PortPd) (d : Dev) : feedCfg (onPd q g d) vf = feedCfg d vf := (rfl)
@[simp] theorem feedCfg_onPort (vf : Fin 4) (q : Fin 32) (g : Port → Port) (d : Dev) : feedCfg (onPort q g d) vf = feedCfg d vf := (rfl)
@[simp] theorem feedCfg_onGuard (vf : Fin 4) (q : Fin 32) (g : Guard → Guard) (d : Dev) : feedCfg (onGuard q g d) vf = feedCfg d vf := (rfl)
@[simp] theorem feedCfg_onLoop (vf : Fin 4) (q : Fin 32) (g : Loop → Loop) (d : Dev) : feedCfg (onLoop q g d) vf = feedCfg d vf := (rfl)
@[simp] theorem feedCfg_onHost (vf : Fin 4) (g : HostIf → HostIf) (d : Dev) : feedCfg (onHost g d) vf = feedCfg d vf := (rfl)
@[simp] theorem feedCfg_sysEvent (vf : Fin 4) (i : Nat) (d : Dev) : feedCfg (sysEvent i d) vf = feedCfg d vf := (rfl)
@[simp] theorem feedCfg_onColl (vf : Fin 4) (g : Collector → Collector) (d : Dev) : feedCfg (onColl g d) vf = feedCfg d vf := (rfl)
@[simp] theorem feedCfg_onLedger (vf : Fin 4) (g : Ledger → Ledger) (d : Dev) : feedCfg (onLedger g d) vf = feedCfg d vf := (rfl)
@[simp] theorem feedCfg_onSource (vf : Fin 4) (i : Fin 768) (g : Source → Source) (d : Dev) : feedCfg (onSource i g d) vf = feedCfg d vf := (rfl)
@[simp] theorem feedCfg_onJrn (vf : Fin 4) (g : Journal → Journal) (d : Dev) : feedCfg (onJrn g d) vf = feedCfg d vf := (rfl)
@[simp] theorem feedCfg_onChan (vf : Fin 4) (c : Fin 204) (g : Chan → Chan) (d : Dev) : feedCfg (onChan c g d) vf = feedCfg d vf := (rfl)
@[simp] theorem feedCfg_onFeed (vf : Fin 4) (i : Fin 4) (g : Feed → Feed) (d : Dev) : feedCfg (onFeed i g d) vf = feedCfg d vf := (rfl)
@[simp] theorem feedCfg_feedEvent (vf : Fin 4) (i : Fin 4) (k : Nat) (d : Dev) : feedCfg (feedEvent i k d) vf = feedCfg d vf := (rfl)
@[simp] theorem feedCfg_onPhase (vf : Fin 4) (i : Fin 64) (g : Phase → Phase) (d : Dev) : feedCfg (onPhase i g d) vf = feedCfg d vf := (rfl)
@[simp] theorem feedCfg_onUpd (vf : Fin 4) (g : Update → Update) (d : Dev) : feedCfg (onUpd g d) vf = feedCfg d vf := (rfl)
@[simp] theorem feedCfg_onStore (vf : Fin 4) (g : CfgStore → CfgStore) (d : Dev) : feedCfg (onStore g d) vf = feedCfg d vf := (rfl)
@[simp] theorem feedCfg_onTmr (vf : Fin 4) (g : Timers → Timers) (d : Dev) : feedCfg (onTmr g d) vf = feedCfg d vf := (rfl)
@[simp] theorem feedCfg_onNet (vf : Fin 4) (g : Net → Net) (d : Dev) : feedCfg (onNet g d) vf = feedCfg d vf := (rfl)
@[simp] theorem feedCfg_onTwin (vf : Fin 4) (g : Twin → Twin) (d : Dev) : feedCfg (onTwin g d) vf = feedCfg d vf := (rfl)
@[simp] theorem feedCfg_onPost (vf : Fin 4) (i : Fin 3) (g : Post → Post) (d : Dev) : feedCfg (onPost i g d) vf = feedCfg d vf := (rfl)
@[simp] theorem feedCfg_settle (vf : Fin 4) (a : Dev) (d : Dev) : feedCfg (settle a d) vf = feedCfg d vf := (rfl)
@[simp] theorem busPg_stopTimer (vb : Bool) (ev : Instr) (d : Dev) : busPg (stopTimer ev d) vb = busPg d vb := (rfl)
@[simp] theorem busPg_stopTimers (vb : Bool) (l : List Instr) (d : Dev) : busPg (stopTimers l d) vb = busPg d vb := (rfl)
@[simp] theorem busPg_startTimer (vb : Bool) (ev : Instr) (t : Nat) (d : Dev) : busPg (startTimer ev t d) vb = busPg d vb := (rfl)
@[simp] theorem busPg_startTimerAt (vb : Bool) (ev : Instr) (t : Nat) (d : Dev) : busPg (startTimerAt ev t d) vb = busPg d vb := (rfl)
@[simp] theorem busPg_portEvent (vb : Bool) (q : Fin 32) (i : Nat) (d : Dev) : busPg (portEvent q i d) vb = busPg d vb := (rfl)
@[simp] theorem busPg_guardEvent (vb : Bool) (q : Fin 32) (i : Nat) (d : Dev) : busPg (guardEvent q i d) vb = busPg d vb := (rfl)
@[simp] theorem busPg_post (vb : Bool) (ev : Instr) (d : Dev) : busPg (post ev d) vb = busPg d vb := (rfl)
@[simp] theorem busPg_journal (vb : Bool) (c : Fin 16) (l : List Byte) (d : Dev) : busPg (journal c l d) vb = busPg d vb := by unfold busPg; simp
@[simp] theorem busPg_journalEvent (vb : Bool) (c : Fin 16) (x : Nat) (y : Word) (z : Nat) (d : Dev) : busPg (journalEvent c x y z d) vb = busPg d vb := by unfold busPg; simp
@[simp] theorem busPg_journalContract (vb : Bool) (q : Fin 32) (d : Dev) : busPg (journalContract q d) vb = busPg d vb := by unfold busPg; simp
@[simp] theorem busPg_bumpFree (vb : Bool) (d : Dev) : busPg (bumpFree d) vb = busPg d vb := (rfl)
@[simp] theorem busPg_setTc (vb : Bool) (q : Fin 32) (t : TcState) (d : Dev) : busPg (setTc q t d) vb = busPg d vb := (rfl)
@[simp] theorem busPg_onPd (vb : Bool) (q : Fin 32) (g : PortPd → PortPd) (d : Dev) : busPg (onPd q g d) vb = busPg d vb := (rfl)
@[simp] theorem busPg_onPort (vb : Bool) (q : Fin 32) (g : Port → Port) (d : Dev) : busPg (onPort q g d) vb = busPg d vb := (rfl)
@[simp] theorem busPg_onGuard (vb : Bool) (q : Fin 32) (g : Guard → Guard) (d : Dev) : busPg (onGuard q g d) vb = busPg d vb := (rfl)
@[simp] theorem busPg_onLoop (vb : Bool) (q : Fin 32) (g : Loop → Loop) (d : Dev) : busPg (onLoop q g d) vb = busPg d vb := (rfl)
@[simp] theorem busPg_onHost (vb : Bool) (g : HostIf → HostIf) (d : Dev) : busPg (onHost g d) vb = busPg d vb := (rfl)
@[simp] theorem busPg_sysEvent (vb : Bool) (i : Nat) (d : Dev) : busPg (sysEvent i d) vb = busPg d vb := (rfl)
@[simp] theorem busPg_onColl (vb : Bool) (g : Collector → Collector) (d : Dev) : busPg (onColl g d) vb = busPg d vb := (rfl)
@[simp] theorem busPg_onLedger (vb : Bool) (g : Ledger → Ledger) (d : Dev) : busPg (onLedger g d) vb = busPg d vb := (rfl)
@[simp] theorem busPg_onSource (vb : Bool) (i : Fin 768) (g : Source → Source) (d : Dev) : busPg (onSource i g d) vb = busPg d vb := (rfl)
@[simp] theorem busPg_onJrn (vb : Bool) (g : Journal → Journal) (d : Dev) : busPg (onJrn g d) vb = busPg d vb := (rfl)
@[simp] theorem busPg_onChan (vb : Bool) (c : Fin 204) (g : Chan → Chan) (d : Dev) : busPg (onChan c g d) vb = busPg d vb := (rfl)
@[simp] theorem busPg_onPhase (vb : Bool) (i : Fin 64) (g : Phase → Phase) (d : Dev) : busPg (onPhase i g d) vb = busPg d vb := (rfl)
@[simp] theorem busPg_onUpd (vb : Bool) (g : Update → Update) (d : Dev) : busPg (onUpd g d) vb = busPg d vb := (rfl)
@[simp] theorem busPg_onStore (vb : Bool) (g : CfgStore → CfgStore) (d : Dev) : busPg (onStore g d) vb = busPg d vb := (rfl)
@[simp] theorem busPg_onTmr (vb : Bool) (g : Timers → Timers) (d : Dev) : busPg (onTmr g d) vb = busPg d vb := (rfl)
@[simp] theorem busPg_onNet (vb : Bool) (g : Net → Net) (d : Dev) : busPg (onNet g d) vb = busPg d vb := (rfl)
@[simp] theorem busPg_onTwin (vb : Bool) (g : Twin → Twin) (d : Dev) : busPg (onTwin g d) vb = busPg d vb := (rfl)
@[simp] theorem busPg_onPost (vb : Bool) (i : Fin 3) (g : Post → Post) (d : Dev) : busPg (onPost i g d) vb = busPg d vb := (rfl)
@[simp] theorem busPg_settle (vb : Bool) (a : Dev) (d : Dev) : busPg (settle a d) vb = busPg d vb := (rfl)
@[simp] theorem phasePg_stopTimer (vn : Fin 64) (ev : Instr) (d : Dev) : phasePg (stopTimer ev d) vn = phasePg d vn := (rfl)
@[simp] theorem phasePg_stopTimers (vn : Fin 64) (l : List Instr) (d : Dev) : phasePg (stopTimers l d) vn = phasePg d vn := (rfl)
@[simp] theorem phasePg_startTimer (vn : Fin 64) (ev : Instr) (t : Nat) (d : Dev) : phasePg (startTimer ev t d) vn = phasePg d vn := (rfl)
@[simp] theorem phasePg_startTimerAt (vn : Fin 64) (ev : Instr) (t : Nat) (d : Dev) : phasePg (startTimerAt ev t d) vn = phasePg d vn := (rfl)
@[simp] theorem phasePg_portEvent (vn : Fin 64) (q : Fin 32) (i : Nat) (d : Dev) : phasePg (portEvent q i d) vn = phasePg d vn := (rfl)
@[simp] theorem phasePg_guardEvent (vn : Fin 64) (q : Fin 32) (i : Nat) (d : Dev) : phasePg (guardEvent q i d) vn = phasePg d vn := (rfl)
@[simp] theorem phasePg_post (vn : Fin 64) (ev : Instr) (d : Dev) : phasePg (post ev d) vn = phasePg d vn := (rfl)
@[simp] theorem phasePg_journal (vn : Fin 64) (c : Fin 16) (l : List Byte) (d : Dev) : phasePg (journal c l d) vn = phasePg d vn := by unfold phasePg; simp
@[simp] theorem phasePg_journalEvent (vn : Fin 64) (c : Fin 16) (x : Nat) (y : Word) (z : Nat) (d : Dev) : phasePg (journalEvent c x y z d) vn = phasePg d vn := by unfold phasePg; simp
@[simp] theorem phasePg_journalContract (vn : Fin 64) (q : Fin 32) (d : Dev) : phasePg (journalContract q d) vn = phasePg d vn := by unfold phasePg; simp
@[simp] theorem phasePg_bumpFree (vn : Fin 64) (d : Dev) : phasePg (bumpFree d) vn = phasePg d vn := (rfl)
@[simp] theorem phasePg_setTc (vn : Fin 64) (q : Fin 32) (t : TcState) (d : Dev) : phasePg (setTc q t d) vn = phasePg d vn := (rfl)
@[simp] theorem phasePg_onPd (vn : Fin 64) (q : Fin 32) (g : PortPd → PortPd) (d : Dev) : phasePg (onPd q g d) vn = phasePg d vn := (rfl)
@[simp] theorem phasePg_onPort (vn : Fin 64) (q : Fin 32) (g : Port → Port) (d : Dev) : phasePg (onPort q g d) vn = phasePg d vn := (rfl)
@[simp] theorem phasePg_onGuard (vn : Fin 64) (q : Fin 32) (g : Guard → Guard) (d : Dev) : phasePg (onGuard q g d) vn = phasePg d vn := (rfl)
@[simp] theorem phasePg_onLoop (vn : Fin 64) (q : Fin 32) (g : Loop → Loop) (d : Dev) : phasePg (onLoop q g d) vn = phasePg d vn := (rfl)
@[simp] theorem phasePg_onHost (vn : Fin 64) (g : HostIf → HostIf) (d : Dev) : phasePg (onHost g d) vn = phasePg d vn := (rfl)
@[simp] theorem phasePg_sysEvent (vn : Fin 64) (i : Nat) (d : Dev) : phasePg (sysEvent i d) vn = phasePg d vn := (rfl)
@[simp] theorem phasePg_onColl (vn : Fin 64) (g : Collector → Collector) (d : Dev) : phasePg (onColl g d) vn = phasePg d vn := (rfl)
@[simp] theorem phasePg_onLedger (vn : Fin 64) (g : Ledger → Ledger) (d : Dev) : phasePg (onLedger g d) vn = phasePg d vn := (rfl)
@[simp] theorem phasePg_onSource (vn : Fin 64) (i : Fin 768) (g : Source → Source) (d : Dev) : phasePg (onSource i g d) vn = phasePg d vn := (rfl)
@[simp] theorem phasePg_onJrn (vn : Fin 64) (g : Journal → Journal) (d : Dev) : phasePg (onJrn g d) vn = phasePg d vn := (rfl)
@[simp] theorem phasePg_onChan (vn : Fin 64) (c : Fin 204) (g : Chan → Chan) (d : Dev) : phasePg (onChan c g d) vn = phasePg d vn := (rfl)
@[simp] theorem phasePg_onPhase (vn : Fin 64) (i : Fin 64) (g : Phase → Phase) (d : Dev) : phasePg (onPhase i g d) vn = phasePg d vn := (rfl)
@[simp] theorem phasePg_onUpd (vn : Fin 64) (g : Update → Update) (d : Dev) : phasePg (onUpd g d) vn = phasePg d vn := (rfl)
@[simp] theorem phasePg_onStore (vn : Fin 64) (g : CfgStore → CfgStore) (d : Dev) : phasePg (onStore g d) vn = phasePg d vn := (rfl)
@[simp] theorem phasePg_onTmr (vn : Fin 64) (g : Timers → Timers) (d : Dev) : phasePg (onTmr g d) vn = phasePg d vn := (rfl)
@[simp] theorem phasePg_onNet (vn : Fin 64) (g : Net → Net) (d : Dev) : phasePg (onNet g d) vn = phasePg d vn := (rfl)
@[simp] theorem phasePg_onTwin (vn : Fin 64) (g : Twin → Twin) (d : Dev) : phasePg (onTwin g d) vn = phasePg d vn := (rfl)
@[simp] theorem phasePg_onPost (vn : Fin 64) (i : Fin 3) (g : Post → Post) (d : Dev) : phasePg (onPost i g d) vn = phasePg d vn := (rfl)
@[simp] theorem phasePg_settle (vn : Fin 64) (a : Dev) (d : Dev) : phasePg (settle a d) vn = phasePg d vn := (rfl)
@[simp] theorem portOfPhase_stopTimer (vn : Fin 64) (ev : Instr) (d : Dev) : portOfPhase (stopTimer ev d) vn = portOfPhase d vn := (rfl)
@[simp] theorem portOfPhase_stopTimers (vn : Fin 64) (l : List Instr) (d : Dev) : portOfPhase (stopTimers l d) vn = portOfPhase d vn := (rfl)
@[simp] theorem portOfPhase_startTimer (vn : Fin 64) (ev : Instr) (t : Nat) (d : Dev) : portOfPhase (startTimer ev t d) vn = portOfPhase d vn := (rfl)
@[simp] theorem portOfPhase_startTimerAt (vn : Fin 64) (ev : Instr) (t : Nat) (d : Dev) : portOfPhase (startTimerAt ev t d) vn = portOfPhase d vn := (rfl)
@[simp] theorem portOfPhase_portEvent (vn : Fin 64) (q : Fin 32) (i : Nat) (d : Dev) : portOfPhase (portEvent q i d) vn = portOfPhase d vn := (rfl)
@[simp] theorem portOfPhase_guardEvent (vn : Fin 64) (q : Fin 32) (i : Nat) (d : Dev) : portOfPhase (guardEvent q i d) vn = portOfPhase d vn := (rfl)
@[simp] theorem portOfPhase_post (vn : Fin 64) (ev : Instr) (d : Dev) : portOfPhase (post ev d) vn = portOfPhase d vn := (rfl)
@[simp] theorem portOfPhase_journal (vn : Fin 64) (c : Fin 16) (l : List Byte) (d : Dev) : portOfPhase (journal c l d) vn = portOfPhase d vn := by unfold portOfPhase; simp
@[simp] theorem portOfPhase_journalEvent (vn : Fin 64) (c : Fin 16) (x : Nat) (y : Word) (z : Nat) (d : Dev) : portOfPhase (journalEvent c x y z d) vn = portOfPhase d vn := by unfold portOfPhase; simp
@[simp] theorem portOfPhase_journalContract (vn : Fin 64) (q : Fin 32) (d : Dev) : portOfPhase (journalContract q d) vn = portOfPhase d vn := by unfold portOfPhase; simp
@[simp] theorem portOfPhase_bumpFree (vn : Fin 64) (d : Dev) : portOfPhase (bumpFree d) vn = portOfPhase d vn := (rfl)
@[simp] theorem portOfPhase_setTc (vn : Fin 64) (q : Fin 32) (t : TcState) (d : Dev) : portOfPhase (setTc q t d) vn = portOfPhase d vn := (rfl)
@[simp] theorem portOfPhase_onPd (vn : Fin 64) (q : Fin 32) (g : PortPd → PortPd) (d : Dev) : portOfPhase (onPd q g d) vn = portOfPhase d vn := (rfl)
@[simp] theorem portOfPhase_onPort (vn : Fin 64) (q : Fin 32) (g : Port → Port) (d : Dev) : portOfPhase (onPort q g d) vn = portOfPhase d vn := (rfl)
@[simp] theorem portOfPhase_onGuard (vn : Fin 64) (q : Fin 32) (g : Guard → Guard) (d : Dev) : portOfPhase (onGuard q g d) vn = portOfPhase d vn := (rfl)
@[simp] theorem portOfPhase_onLoop (vn : Fin 64) (q : Fin 32) (g : Loop → Loop) (d : Dev) : portOfPhase (onLoop q g d) vn = portOfPhase d vn := (rfl)
@[simp] theorem portOfPhase_onHost (vn : Fin 64) (g : HostIf → HostIf) (d : Dev) : portOfPhase (onHost g d) vn = portOfPhase d vn := (rfl)
@[simp] theorem portOfPhase_sysEvent (vn : Fin 64) (i : Nat) (d : Dev) : portOfPhase (sysEvent i d) vn = portOfPhase d vn := (rfl)
@[simp] theorem portOfPhase_onColl (vn : Fin 64) (g : Collector → Collector) (d : Dev) : portOfPhase (onColl g d) vn = portOfPhase d vn := (rfl)
@[simp] theorem portOfPhase_onLedger (vn : Fin 64) (g : Ledger → Ledger) (d : Dev) : portOfPhase (onLedger g d) vn = portOfPhase d vn := (rfl)
@[simp] theorem portOfPhase_onSource (vn : Fin 64) (i : Fin 768) (g : Source → Source) (d : Dev) : portOfPhase (onSource i g d) vn = portOfPhase d vn := (rfl)
@[simp] theorem portOfPhase_onJrn (vn : Fin 64) (g : Journal → Journal) (d : Dev) : portOfPhase (onJrn g d) vn = portOfPhase d vn := (rfl)
@[simp] theorem portOfPhase_onChan (vn : Fin 64) (c : Fin 204) (g : Chan → Chan) (d : Dev) : portOfPhase (onChan c g d) vn = portOfPhase d vn := (rfl)
@[simp] theorem portOfPhase_onFeed (vn : Fin 64) (i : Fin 4) (g : Feed → Feed) (d : Dev) : portOfPhase (onFeed i g d) vn = portOfPhase d vn := (rfl)
@[simp] theorem portOfPhase_feedEvent (vn : Fin 64) (i : Fin 4) (k : Nat) (d : Dev) : portOfPhase (feedEvent i k d) vn = portOfPhase d vn := (rfl)
@[simp] theorem portOfPhase_onPhase (vn : Fin 64) (i : Fin 64) (g : Phase → Phase) (d : Dev) : portOfPhase (onPhase i g d) vn = portOfPhase d vn := (rfl)
@[simp] theorem portOfPhase_onUpd (vn : Fin 64) (g : Update → Update) (d : Dev) : portOfPhase (onUpd g d) vn = portOfPhase d vn := (rfl)
@[simp] theorem portOfPhase_onStore (vn : Fin 64) (g : CfgStore → CfgStore) (d : Dev) : portOfPhase (onStore g d) vn = portOfPhase d vn := (rfl)
@[simp] theorem portOfPhase_onTmr (vn : Fin 64) (g : Timers → Timers) (d : Dev) : portOfPhase (onTmr g d) vn = portOfPhase d vn := (rfl)
@[simp] theorem portOfPhase_onNet (vn : Fin 64) (g : Net → Net) (d : Dev) : portOfPhase (onNet g d) vn = portOfPhase d vn := (rfl)
@[simp] theorem portOfPhase_onTwin (vn : Fin 64) (g : Twin → Twin) (d : Dev) : portOfPhase (onTwin g d) vn = portOfPhase d vn := (rfl)
@[simp] theorem portOfPhase_onPost (vn : Fin 64) (i : Fin 3) (g : Post → Post) (d : Dev) : portOfPhase (onPost i g d) vn = portOfPhase d vn := (rfl)
@[simp] theorem portOfPhase_settle (vn : Fin 64) (a : Dev) (d : Dev) : portOfPhase (settle a d) vn = portOfPhase d vn := (rfl)
@[simp] theorem ipeakOf_stopTimer (vn : Fin 64) (ev : Instr) (d : Dev) : ipeakOf (stopTimer ev d) vn = ipeakOf d vn := (rfl)
@[simp] theorem ipeakOf_stopTimers (vn : Fin 64) (l : List Instr) (d : Dev) : ipeakOf (stopTimers l d) vn = ipeakOf d vn := (rfl)
@[simp] theorem ipeakOf_startTimer (vn : Fin 64) (ev : Instr) (t : Nat) (d : Dev) : ipeakOf (startTimer ev t d) vn = ipeakOf d vn := (rfl)
@[simp] theorem ipeakOf_startTimerAt (vn : Fin 64) (ev : Instr) (t : Nat) (d : Dev) : ipeakOf (startTimerAt ev t d) vn = ipeakOf d vn := (rfl)
@[simp] theorem ipeakOf_portEvent (vn : Fin 64) (q : Fin 32) (i : Nat) (d : Dev) : ipeakOf (portEvent q i d) vn = ipeakOf d vn := (rfl)
@[simp] theorem ipeakOf_guardEvent (vn : Fin 64) (q : Fin 32) (i : Nat) (d : Dev) : ipeakOf (guardEvent q i d) vn = ipeakOf d vn := (rfl)
@[simp] theorem ipeakOf_post (vn : Fin 64) (ev : Instr) (d : Dev) : ipeakOf (post ev d) vn = ipeakOf d vn := (rfl)
@[simp] theorem ipeakOf_journal (vn : Fin 64) (c : Fin 16) (l : List Byte) (d : Dev) : ipeakOf (journal c l d) vn = ipeakOf d vn := by unfold ipeakOf; simp
@[simp] theorem ipeakOf_journalEvent (vn : Fin 64) (c : Fin 16) (x : Nat) (y : Word) (z : Nat) (d : Dev) : ipeakOf (journalEvent c x y z d) vn = ipeakOf d vn := by unfold ipeakOf; simp
@[simp] theorem ipeakOf_journalContract (vn : Fin 64) (q : Fin 32) (d : Dev) : ipeakOf (journalContract q d) vn = ipeakOf d vn := by unfold ipeakOf; simp
@[simp] theorem ipeakOf_bumpFree (vn : Fin 64) (d : Dev) : ipeakOf (bumpFree d) vn = ipeakOf d vn := (rfl)
@[simp] theorem ipeakOf_setTc (vn : Fin 64) (q : Fin 32) (t : TcState) (d : Dev) : ipeakOf (setTc q t d) vn = ipeakOf d vn := (rfl)
@[simp] theorem ipeakOf_onPd (vn : Fin 64) (q : Fin 32) (g : PortPd → PortPd) (d : Dev) : ipeakOf (onPd q g d) vn = ipeakOf d vn := (rfl)
@[simp] theorem ipeakOf_onPort (vn : Fin 64) (q : Fin 32) (g : Port → Port) (d : Dev) : ipeakOf (onPort q g d) vn = ipeakOf d vn := (rfl)
@[simp] theorem ipeakOf_onGuard (vn : Fin 64) (q : Fin 32) (g : Guard → Guard) (d : Dev) : ipeakOf (onGuard q g d) vn = ipeakOf d vn := (rfl)
@[simp] theorem ipeakOf_onLoop (vn : Fin 64) (q : Fin 32) (g : Loop → Loop) (d : Dev) : ipeakOf (onLoop q g d) vn = ipeakOf d vn := (rfl)
@[simp] theorem ipeakOf_onHost (vn : Fin 64) (g : HostIf → HostIf) (d : Dev) : ipeakOf (onHost g d) vn = ipeakOf d vn := (rfl)
@[simp] theorem ipeakOf_sysEvent (vn : Fin 64) (i : Nat) (d : Dev) : ipeakOf (sysEvent i d) vn = ipeakOf d vn := (rfl)
@[simp] theorem ipeakOf_onColl (vn : Fin 64) (g : Collector → Collector) (d : Dev) : ipeakOf (onColl g d) vn = ipeakOf d vn := (rfl)
@[simp] theorem ipeakOf_onLedger (vn : Fin 64) (g : Ledger → Ledger) (d : Dev) : ipeakOf (onLedger g d) vn = ipeakOf d vn := (rfl)
@[simp] theorem ipeakOf_onSource (vn : Fin 64) (i : Fin 768) (g : Source → Source) (d : Dev) : ipeakOf (onSource i g d) vn = ipeakOf d vn := (rfl)
@[simp] theorem ipeakOf_onJrn (vn : Fin 64) (g : Journal → Journal) (d : Dev) : ipeakOf (onJrn g d) vn = ipeakOf d vn := (rfl)
@[simp] theorem ipeakOf_onChan (vn : Fin 64) (c : Fin 204) (g : Chan → Chan) (d : Dev) : ipeakOf (onChan c g d) vn = ipeakOf d vn := (rfl)
@[simp] theorem ipeakOf_onFeed (vn : Fin 64) (i : Fin 4) (g : Feed → Feed) (d : Dev) : ipeakOf (onFeed i g d) vn = ipeakOf d vn := (rfl)
@[simp] theorem ipeakOf_feedEvent (vn : Fin 64) (i : Fin 4) (k : Nat) (d : Dev) : ipeakOf (feedEvent i k d) vn = ipeakOf d vn := (rfl)
@[simp] theorem ipeakOf_onPhase (vn : Fin 64) (i : Fin 64) (g : Phase → Phase) (d : Dev) : ipeakOf (onPhase i g d) vn = ipeakOf d vn := (rfl)
@[simp] theorem ipeakOf_onUpd (vn : Fin 64) (g : Update → Update) (d : Dev) : ipeakOf (onUpd g d) vn = ipeakOf d vn := (rfl)
@[simp] theorem ipeakOf_onStore (vn : Fin 64) (g : CfgStore → CfgStore) (d : Dev) : ipeakOf (onStore g d) vn = ipeakOf d vn := (rfl)
@[simp] theorem ipeakOf_onTmr (vn : Fin 64) (g : Timers → Timers) (d : Dev) : ipeakOf (onTmr g d) vn = ipeakOf d vn := (rfl)
@[simp] theorem ipeakOf_onNet (vn : Fin 64) (g : Net → Net) (d : Dev) : ipeakOf (onNet g d) vn = ipeakOf d vn := (rfl)
@[simp] theorem ipeakOf_onTwin (vn : Fin 64) (g : Twin → Twin) (d : Dev) : ipeakOf (onTwin g d) vn = ipeakOf d vn := (rfl)
@[simp] theorem ipeakOf_onPost (vn : Fin 64) (i : Fin 3) (g : Post → Post) (d : Dev) : ipeakOf (onPost i g d) vn = ipeakOf d vn := (rfl)
@[simp] theorem ipeakOf_settle (vn : Fin 64) (a : Dev) (d : Dev) : ipeakOf (settle a d) vn = ipeakOf d vn := (rfl)
@[simp] theorem pinRd_stopTimer (vp : Fin 32) (vb : Bool) (ev : Instr) (d : Dev) : pinRd (stopTimer ev d) vp vb = pinRd d vp vb := (rfl)
@[simp] theorem pinRd_stopTimers (vp : Fin 32) (vb : Bool) (l : List Instr) (d : Dev) : pinRd (stopTimers l d) vp vb = pinRd d vp vb := (rfl)
@[simp] theorem pinRd_startTimer (vp : Fin 32) (vb : Bool) (ev : Instr) (t : Nat) (d : Dev) : pinRd (startTimer ev t d) vp vb = pinRd d vp vb := (rfl)
@[simp] theorem pinRd_startTimerAt (vp : Fin 32) (vb : Bool) (ev : Instr) (t : Nat) (d : Dev) : pinRd (startTimerAt ev t d) vp vb = pinRd d vp vb := (rfl)
@[simp] theorem pinRd_portEvent (vp : Fin 32) (vb : Bool) (q : Fin 32) (i : Nat) (d : Dev) : pinRd (portEvent q i d) vp vb = pinRd d vp vb := (rfl)
@[simp] theorem pinRd_guardEvent (vp : Fin 32) (vb : Bool) (q : Fin 32) (i : Nat) (d : Dev) : pinRd (guardEvent q i d) vp vb = pinRd d vp vb := (rfl)
@[simp] theorem pinRd_post (vp : Fin 32) (vb : Bool) (ev : Instr) (d : Dev) : pinRd (post ev d) vp vb = pinRd d vp vb := (rfl)
@[simp] theorem pinRd_bumpFree (vp : Fin 32) (vb : Bool) (d : Dev) : pinRd (bumpFree d) vp vb = pinRd d vp vb := (rfl)
@[simp] theorem pinRd_setTc (vp : Fin 32) (vb : Bool) (q : Fin 32) (t : TcState) (d : Dev) : pinRd (setTc q t d) vp vb = pinRd d vp vb := (rfl)
@[simp] theorem pinRd_onPd (vp : Fin 32) (vb : Bool) (q : Fin 32) (g : PortPd → PortPd) (d : Dev) : pinRd (onPd q g d) vp vb = pinRd d vp vb := (rfl)
@[simp] theorem pinRd_onPort (vp : Fin 32) (vb : Bool) (q : Fin 32) (g : Port → Port) (d : Dev) : pinRd (onPort q g d) vp vb = pinRd d vp vb := (rfl)
@[simp] theorem pinRd_onGuard (vp : Fin 32) (vb : Bool) (q : Fin 32) (g : Guard → Guard) (d : Dev) : pinRd (onGuard q g d) vp vb = pinRd d vp vb := (rfl)
@[simp] theorem pinRd_onLoop (vp : Fin 32) (vb : Bool) (q : Fin 32) (g : Loop → Loop) (d : Dev) : pinRd (onLoop q g d) vp vb = pinRd d vp vb := (rfl)
@[simp] theorem pinRd_onHost (vp : Fin 32) (vb : Bool) (g : HostIf → HostIf) (d : Dev) : pinRd (onHost g d) vp vb = pinRd d vp vb := (rfl)
@[simp] theorem pinRd_sysEvent (vp : Fin 32) (vb : Bool) (i : Nat) (d : Dev) : pinRd (sysEvent i d) vp vb = pinRd d vp vb := (rfl)
@[simp] theorem pinRd_onColl (vp : Fin 32) (vb : Bool) (g : Collector → Collector) (d : Dev) : pinRd (onColl g d) vp vb = pinRd d vp vb := (rfl)
@[simp] theorem pinRd_onLedger (vp : Fin 32) (vb : Bool) (g : Ledger → Ledger) (d : Dev) : pinRd (onLedger g d) vp vb = pinRd d vp vb := (rfl)
@[simp] theorem pinRd_onSource (vp : Fin 32) (vb : Bool) (i : Fin 768) (g : Source → Source) (d : Dev) : pinRd (onSource i g d) vp vb = pinRd d vp vb := (rfl)
@[simp] theorem pinRd_onJrn (vp : Fin 32) (vb : Bool) (g : Journal → Journal) (d : Dev) : pinRd (onJrn g d) vp vb = pinRd d vp vb := (rfl)
@[simp] theorem pinRd_onFeed (vp : Fin 32) (vb : Bool) (i : Fin 4) (g : Feed → Feed) (d : Dev) : pinRd (onFeed i g d) vp vb = pinRd d vp vb := (rfl)
@[simp] theorem pinRd_feedEvent (vp : Fin 32) (vb : Bool) (i : Fin 4) (k : Nat) (d : Dev) : pinRd (feedEvent i k d) vp vb = pinRd d vp vb := (rfl)
@[simp] theorem pinRd_onPhase (vp : Fin 32) (vb : Bool) (i : Fin 64) (g : Phase → Phase) (d : Dev) : pinRd (onPhase i g d) vp vb = pinRd d vp vb := (rfl)
@[simp] theorem pinRd_onUpd (vp : Fin 32) (vb : Bool) (g : Update → Update) (d : Dev) : pinRd (onUpd g d) vp vb = pinRd d vp vb := (rfl)
@[simp] theorem pinRd_onStore (vp : Fin 32) (vb : Bool) (g : CfgStore → CfgStore) (d : Dev) : pinRd (onStore g d) vp vb = pinRd d vp vb := (rfl)
@[simp] theorem pinRd_onTmr (vp : Fin 32) (vb : Bool) (g : Timers → Timers) (d : Dev) : pinRd (onTmr g d) vp vb = pinRd d vp vb := (rfl)
@[simp] theorem pinRd_onNet (vp : Fin 32) (vb : Bool) (g : Net → Net) (d : Dev) : pinRd (onNet g d) vp vb = pinRd d vp vb := (rfl)
@[simp] theorem pinRd_onTwin (vp : Fin 32) (vb : Bool) (g : Twin → Twin) (d : Dev) : pinRd (onTwin g d) vp vb = pinRd d vp vb := (rfl)
@[simp] theorem pinRd_onPost (vp : Fin 32) (vb : Bool) (i : Fin 3) (g : Post → Post) (d : Dev) : pinRd (onPost i g d) vp vb = pinRd d vp vb := (rfl)
@[simp] theorem pinRd_settle (vp : Fin 32) (vb : Bool) (a : Dev) (d : Dev) : pinRd (settle a d) vp vb = pinRd d vp vb := (rfl)
@[simp] theorem pinRp_stopTimer (vp : Fin 32) (vb : Bool) (ev : Instr) (d : Dev) : pinRp (stopTimer ev d) vp vb = pinRp d vp vb := (rfl)
@[simp] theorem pinRp_stopTimers (vp : Fin 32) (vb : Bool) (l : List Instr) (d : Dev) : pinRp (stopTimers l d) vp vb = pinRp d vp vb := (rfl)
@[simp] theorem pinRp_startTimer (vp : Fin 32) (vb : Bool) (ev : Instr) (t : Nat) (d : Dev) : pinRp (startTimer ev t d) vp vb = pinRp d vp vb := (rfl)
@[simp] theorem pinRp_startTimerAt (vp : Fin 32) (vb : Bool) (ev : Instr) (t : Nat) (d : Dev) : pinRp (startTimerAt ev t d) vp vb = pinRp d vp vb := (rfl)
@[simp] theorem pinRp_portEvent (vp : Fin 32) (vb : Bool) (q : Fin 32) (i : Nat) (d : Dev) : pinRp (portEvent q i d) vp vb = pinRp d vp vb := (rfl)
@[simp] theorem pinRp_guardEvent (vp : Fin 32) (vb : Bool) (q : Fin 32) (i : Nat) (d : Dev) : pinRp (guardEvent q i d) vp vb = pinRp d vp vb := (rfl)
@[simp] theorem pinRp_post (vp : Fin 32) (vb : Bool) (ev : Instr) (d : Dev) : pinRp (post ev d) vp vb = pinRp d vp vb := (rfl)
@[simp] theorem pinRp_bumpFree (vp : Fin 32) (vb : Bool) (d : Dev) : pinRp (bumpFree d) vp vb = pinRp d vp vb := (rfl)
@[simp] theorem pinRp_setTc (vp : Fin 32) (vb : Bool) (q : Fin 32) (t : TcState) (d : Dev) : pinRp (setTc q t d) vp vb = pinRp d vp vb := (rfl)
@[simp] theorem pinRp_onPd (vp : Fin 32) (vb : Bool) (q : Fin 32) (g : PortPd → PortPd) (d : Dev) : pinRp (onPd q g d) vp vb = pinRp d vp vb := (rfl)
@[simp] theorem pinRp_onPort (vp : Fin 32) (vb : Bool) (q : Fin 32) (g : Port → Port) (d : Dev) : pinRp (onPort q g d) vp vb = pinRp d vp vb := (rfl)
@[simp] theorem pinRp_onGuard (vp : Fin 32) (vb : Bool) (q : Fin 32) (g : Guard → Guard) (d : Dev) : pinRp (onGuard q g d) vp vb = pinRp d vp vb := (rfl)
@[simp] theorem pinRp_onLoop (vp : Fin 32) (vb : Bool) (q : Fin 32) (g : Loop → Loop) (d : Dev) : pinRp (onLoop q g d) vp vb = pinRp d vp vb := (rfl)
@[simp] theorem pinRp_onHost (vp : Fin 32) (vb : Bool) (g : HostIf → HostIf) (d : Dev) : pinRp (onHost g d) vp vb = pinRp d vp vb := (rfl)
@[simp] theorem pinRp_sysEvent (vp : Fin 32) (vb : Bool) (i : Nat) (d : Dev) : pinRp (sysEvent i d) vp vb = pinRp d vp vb := (rfl)
@[simp] theorem pinRp_onColl (vp : Fin 32) (vb : Bool) (g : Collector → Collector) (d : Dev) : pinRp (onColl g d) vp vb = pinRp d vp vb := (rfl)
@[simp] theorem pinRp_onLedger (vp : Fin 32) (vb : Bool) (g : Ledger → Ledger) (d : Dev) : pinRp (onLedger g d) vp vb = pinRp d vp vb := (rfl)
@[simp] theorem pinRp_onSource (vp : Fin 32) (vb : Bool) (i : Fin 768) (g : Source → Source) (d : Dev) : pinRp (onSource i g d) vp vb = pinRp d vp vb := (rfl)
@[simp] theorem pinRp_onJrn (vp : Fin 32) (vb : Bool) (g : Journal → Journal) (d : Dev) : pinRp (onJrn g d) vp vb = pinRp d vp vb := (rfl)
@[simp] theorem pinRp_onFeed (vp : Fin 32) (vb : Bool) (i : Fin 4) (g : Feed → Feed) (d : Dev) : pinRp (onFeed i g d) vp vb = pinRp d vp vb := (rfl)
@[simp] theorem pinRp_feedEvent (vp : Fin 32) (vb : Bool) (i : Fin 4) (k : Nat) (d : Dev) : pinRp (feedEvent i k d) vp vb = pinRp d vp vb := (rfl)
@[simp] theorem pinRp_onPhase (vp : Fin 32) (vb : Bool) (i : Fin 64) (g : Phase → Phase) (d : Dev) : pinRp (onPhase i g d) vp vb = pinRp d vp vb := (rfl)
@[simp] theorem pinRp_onUpd (vp : Fin 32) (vb : Bool) (g : Update → Update) (d : Dev) : pinRp (onUpd g d) vp vb = pinRp d vp vb := (rfl)
@[simp] theorem pinRp_onStore (vp : Fin 32) (vb : Bool) (g : CfgStore → CfgStore) (d : Dev) : pinRp (onStore g d) vp vb = pinRp d vp vb := (rfl)
@[simp] theorem pinRp_onTmr (vp : Fin 32) (vb : Bool) (g : Timers → Timers) (d : Dev) : pinRp (onTmr g d) vp vb = pinRp d vp vb := (rfl)
@[simp] theorem pinRp_onNet (vp : Fin 32) (vb : Bool) (g : Net → Net) (d : Dev) : pinRp (onNet g d) vp vb = pinRp d vp vb := (rfl)
@[simp] theorem pinRp_onTwin (vp : Fin 32) (vb : Bool) (g : Twin → Twin) (d : Dev) : pinRp (onTwin g d) vp vb = pinRp d vp vb := (rfl)
@[simp] theorem pinRp_onPost (vp : Fin 32) (vb : Bool) (i : Fin 3) (g : Post → Post) (d : Dev) : pinRp (onPost i g d) vp vb = pinRp d vp vb := (rfl)
@[simp] theorem pinRp_settle (vp : Fin 32) (vb : Bool) (a : Dev) (d : Dev) : pinRp (settle a d) vp vb = pinRp d vp vb := (rfl)
@[simp] theorem ccZone_stopTimer (vp : Fin 32) (vb : Bool) (ev : Instr) (d : Dev) : ccZone (stopTimer ev d) vp vb = ccZone d vp vb := (rfl)
@[simp] theorem ccZone_stopTimers (vp : Fin 32) (vb : Bool) (l : List Instr) (d : Dev) : ccZone (stopTimers l d) vp vb = ccZone d vp vb := (rfl)
@[simp] theorem ccZone_startTimer (vp : Fin 32) (vb : Bool) (ev : Instr) (t : Nat) (d : Dev) : ccZone (startTimer ev t d) vp vb = ccZone d vp vb := (rfl)
@[simp] theorem ccZone_startTimerAt (vp : Fin 32) (vb : Bool) (ev : Instr) (t : Nat) (d : Dev) : ccZone (startTimerAt ev t d) vp vb = ccZone d vp vb := (rfl)
@[simp] theorem ccZone_portEvent (vp : Fin 32) (vb : Bool) (q : Fin 32) (i : Nat) (d : Dev) : ccZone (portEvent q i d) vp vb = ccZone d vp vb := (rfl)
@[simp] theorem ccZone_guardEvent (vp : Fin 32) (vb : Bool) (q : Fin 32) (i : Nat) (d : Dev) : ccZone (guardEvent q i d) vp vb = ccZone d vp vb := (rfl)
@[simp] theorem ccZone_post (vp : Fin 32) (vb : Bool) (ev : Instr) (d : Dev) : ccZone (post ev d) vp vb = ccZone d vp vb := (rfl)
@[simp] theorem ccZone_journal (vp : Fin 32) (vb : Bool) (c : Fin 16) (l : List Byte) (d : Dev) : ccZone (journal c l d) vp vb = ccZone d vp vb := by unfold ccZone; simp
@[simp] theorem ccZone_journalEvent (vp : Fin 32) (vb : Bool) (c : Fin 16) (x : Nat) (y : Word) (z : Nat) (d : Dev) : ccZone (journalEvent c x y z d) vp vb = ccZone d vp vb := by unfold ccZone; simp
@[simp] theorem ccZone_journalContract (vp : Fin 32) (vb : Bool) (q : Fin 32) (d : Dev) : ccZone (journalContract q d) vp vb = ccZone d vp vb := by unfold ccZone; simp
@[simp] theorem ccZone_bumpFree (vp : Fin 32) (vb : Bool) (d : Dev) : ccZone (bumpFree d) vp vb = ccZone d vp vb := (rfl)
@[simp] theorem ccZone_setTc (vp : Fin 32) (vb : Bool) (q : Fin 32) (t : TcState) (d : Dev) : ccZone (setTc q t d) vp vb = ccZone d vp vb := (rfl)
@[simp] theorem ccZone_onPd (vp : Fin 32) (vb : Bool) (q : Fin 32) (g : PortPd → PortPd) (d : Dev) : ccZone (onPd q g d) vp vb = ccZone d vp vb := (rfl)
@[simp] theorem ccZone_onPort (vp : Fin 32) (vb : Bool) (q : Fin 32) (g : Port → Port) (d : Dev) : ccZone (onPort q g d) vp vb = ccZone d vp vb := (rfl)
@[simp] theorem ccZone_onGuard (vp : Fin 32) (vb : Bool) (q : Fin 32) (g : Guard → Guard) (d : Dev) : ccZone (onGuard q g d) vp vb = ccZone d vp vb := (rfl)
@[simp] theorem ccZone_onLoop (vp : Fin 32) (vb : Bool) (q : Fin 32) (g : Loop → Loop) (d : Dev) : ccZone (onLoop q g d) vp vb = ccZone d vp vb := (rfl)
@[simp] theorem ccZone_onHost (vp : Fin 32) (vb : Bool) (g : HostIf → HostIf) (d : Dev) : ccZone (onHost g d) vp vb = ccZone d vp vb := (rfl)
@[simp] theorem ccZone_sysEvent (vp : Fin 32) (vb : Bool) (i : Nat) (d : Dev) : ccZone (sysEvent i d) vp vb = ccZone d vp vb := (rfl)
@[simp] theorem ccZone_onColl (vp : Fin 32) (vb : Bool) (g : Collector → Collector) (d : Dev) : ccZone (onColl g d) vp vb = ccZone d vp vb := (rfl)
@[simp] theorem ccZone_onLedger (vp : Fin 32) (vb : Bool) (g : Ledger → Ledger) (d : Dev) : ccZone (onLedger g d) vp vb = ccZone d vp vb := (rfl)
@[simp] theorem ccZone_onSource (vp : Fin 32) (vb : Bool) (i : Fin 768) (g : Source → Source) (d : Dev) : ccZone (onSource i g d) vp vb = ccZone d vp vb := (rfl)
@[simp] theorem ccZone_onJrn (vp : Fin 32) (vb : Bool) (g : Journal → Journal) (d : Dev) : ccZone (onJrn g d) vp vb = ccZone d vp vb := (rfl)
@[simp] theorem ccZone_onFeed (vp : Fin 32) (vb : Bool) (i : Fin 4) (g : Feed → Feed) (d : Dev) : ccZone (onFeed i g d) vp vb = ccZone d vp vb := (rfl)
@[simp] theorem ccZone_feedEvent (vp : Fin 32) (vb : Bool) (i : Fin 4) (k : Nat) (d : Dev) : ccZone (feedEvent i k d) vp vb = ccZone d vp vb := (rfl)
@[simp] theorem ccZone_onPhase (vp : Fin 32) (vb : Bool) (i : Fin 64) (g : Phase → Phase) (d : Dev) : ccZone (onPhase i g d) vp vb = ccZone d vp vb := (rfl)
@[simp] theorem ccZone_onUpd (vp : Fin 32) (vb : Bool) (g : Update → Update) (d : Dev) : ccZone (onUpd g d) vp vb = ccZone d vp vb := (rfl)
@[simp] theorem ccZone_onStore (vp : Fin 32) (vb : Bool) (g : CfgStore → CfgStore) (d : Dev) : ccZone (onStore g d) vp vb = ccZone d vp vb := (rfl)
@[simp] theorem ccZone_onTmr (vp : Fin 32) (vb : Bool) (g : Timers → Timers) (d : Dev) : ccZone (onTmr g d) vp vb = ccZone d vp vb := (rfl)
@[simp] theorem ccZone_onNet (vp : Fin 32) (vb : Bool) (g : Net → Net) (d : Dev) : ccZone (onNet g d) vp vb = ccZone d vp vb := (rfl)
@[simp] theorem ccZone_onTwin (vp : Fin 32) (vb : Bool) (g : Twin → Twin) (d : Dev) : ccZone (onTwin g d) vp vb = ccZone d vp vb := (rfl)
@[simp] theorem ccZone_onPost (vp : Fin 32) (vb : Bool) (i : Fin 3) (g : Post → Post) (d : Dev) : ccZone (onPost i g d) vp vb = ccZone d vp vb := (rfl)
@[simp] theorem ccZone_settle (vp : Fin 32) (vb : Bool) (a : Dev) (d : Dev) : ccZone (settle a d) vp vb = ccZone d vp vb := (rfl)
@[simp] theorem pflag_stopTimer (vp : Fin 32) (vk : Nat) (ev : Instr) (d : Dev) : pflag (stopTimer ev d) vp vk = pflag d vp vk := (rfl)
@[simp] theorem pflag_stopTimers (vp : Fin 32) (vk : Nat) (l : List Instr) (d : Dev) : pflag (stopTimers l d) vp vk = pflag d vp vk := (rfl)
@[simp] theorem pflag_startTimer (vp : Fin 32) (vk : Nat) (ev : Instr) (t : Nat) (d : Dev) : pflag (startTimer ev t d) vp vk = pflag d vp vk := (rfl)
@[simp] theorem pflag_startTimerAt (vp : Fin 32) (vk : Nat) (ev : Instr) (t : Nat) (d : Dev) : pflag (startTimerAt ev t d) vp vk = pflag d vp vk := (rfl)
@[simp] theorem pflag_portEvent (vp : Fin 32) (vk : Nat) (q : Fin 32) (i : Nat) (d : Dev) : pflag (portEvent q i d) vp vk = pflag d vp vk := (rfl)
@[simp] theorem pflag_guardEvent (vp : Fin 32) (vk : Nat) (q : Fin 32) (i : Nat) (d : Dev) : pflag (guardEvent q i d) vp vk = pflag d vp vk := (rfl)
@[simp] theorem pflag_post (vp : Fin 32) (vk : Nat) (ev : Instr) (d : Dev) : pflag (post ev d) vp vk = pflag d vp vk := (rfl)
@[simp] theorem pflag_journal (vp : Fin 32) (vk : Nat) (c : Fin 16) (l : List Byte) (d : Dev) : pflag (journal c l d) vp vk = pflag d vp vk := by unfold pflag; simp
@[simp] theorem pflag_journalEvent (vp : Fin 32) (vk : Nat) (c : Fin 16) (x : Nat) (y : Word) (z : Nat) (d : Dev) : pflag (journalEvent c x y z d) vp vk = pflag d vp vk := by unfold pflag; simp
@[simp] theorem pflag_journalContract (vp : Fin 32) (vk : Nat) (q : Fin 32) (d : Dev) : pflag (journalContract q d) vp vk = pflag d vp vk := by unfold pflag; simp
@[simp] theorem pflag_bumpFree (vp : Fin 32) (vk : Nat) (d : Dev) : pflag (bumpFree d) vp vk = pflag d vp vk := (rfl)
@[simp] theorem pflag_setTc (vp : Fin 32) (vk : Nat) (q : Fin 32) (t : TcState) (d : Dev) : pflag (setTc q t d) vp vk = pflag d vp vk := (rfl)
@[simp] theorem pflag_onPd (vp : Fin 32) (vk : Nat) (q : Fin 32) (g : PortPd → PortPd) (d : Dev) : pflag (onPd q g d) vp vk = pflag d vp vk := (rfl)
@[simp] theorem pflag_onPort (vp : Fin 32) (vk : Nat) (q : Fin 32) (g : Port → Port) (d : Dev) : pflag (onPort q g d) vp vk = pflag d vp vk := (rfl)
@[simp] theorem pflag_onGuard (vp : Fin 32) (vk : Nat) (q : Fin 32) (g : Guard → Guard) (d : Dev) : pflag (onGuard q g d) vp vk = pflag d vp vk := (rfl)
@[simp] theorem pflag_onLoop (vp : Fin 32) (vk : Nat) (q : Fin 32) (g : Loop → Loop) (d : Dev) : pflag (onLoop q g d) vp vk = pflag d vp vk := (rfl)
@[simp] theorem pflag_onHost (vp : Fin 32) (vk : Nat) (g : HostIf → HostIf) (d : Dev) : pflag (onHost g d) vp vk = pflag d vp vk := (rfl)
@[simp] theorem pflag_sysEvent (vp : Fin 32) (vk : Nat) (i : Nat) (d : Dev) : pflag (sysEvent i d) vp vk = pflag d vp vk := (rfl)
@[simp] theorem pflag_onColl (vp : Fin 32) (vk : Nat) (g : Collector → Collector) (d : Dev) : pflag (onColl g d) vp vk = pflag d vp vk := (rfl)
@[simp] theorem pflag_onLedger (vp : Fin 32) (vk : Nat) (g : Ledger → Ledger) (d : Dev) : pflag (onLedger g d) vp vk = pflag d vp vk := (rfl)
@[simp] theorem pflag_onSource (vp : Fin 32) (vk : Nat) (i : Fin 768) (g : Source → Source) (d : Dev) : pflag (onSource i g d) vp vk = pflag d vp vk := (rfl)
@[simp] theorem pflag_onJrn (vp : Fin 32) (vk : Nat) (g : Journal → Journal) (d : Dev) : pflag (onJrn g d) vp vk = pflag d vp vk := (rfl)
@[simp] theorem pflag_onChan (vp : Fin 32) (vk : Nat) (c : Fin 204) (g : Chan → Chan) (d : Dev) : pflag (onChan c g d) vp vk = pflag d vp vk := (rfl)
@[simp] theorem pflag_onFeed (vp : Fin 32) (vk : Nat) (i : Fin 4) (g : Feed → Feed) (d : Dev) : pflag (onFeed i g d) vp vk = pflag d vp vk := (rfl)
@[simp] theorem pflag_feedEvent (vp : Fin 32) (vk : Nat) (i : Fin 4) (k : Nat) (d : Dev) : pflag (feedEvent i k d) vp vk = pflag d vp vk := (rfl)
@[simp] theorem pflag_onPhase (vp : Fin 32) (vk : Nat) (i : Fin 64) (g : Phase → Phase) (d : Dev) : pflag (onPhase i g d) vp vk = pflag d vp vk := (rfl)
@[simp] theorem pflag_onUpd (vp : Fin 32) (vk : Nat) (g : Update → Update) (d : Dev) : pflag (onUpd g d) vp vk = pflag d vp vk := (rfl)
@[simp] theorem pflag_onStore (vp : Fin 32) (vk : Nat) (g : CfgStore → CfgStore) (d : Dev) : pflag (onStore g d) vp vk = pflag d vp vk := (rfl)
@[simp] theorem pflag_onTmr (vp : Fin 32) (vk : Nat) (g : Timers → Timers) (d : Dev) : pflag (onTmr g d) vp vk = pflag d vp vk := (rfl)
@[simp] theorem pflag_onNet (vp : Fin 32) (vk : Nat) (g : Net → Net) (d : Dev) : pflag (onNet g d) vp vk = pflag d vp vk := (rfl)
@[simp] theorem pflag_onTwin (vp : Fin 32) (vk : Nat) (g : Twin → Twin) (d : Dev) : pflag (onTwin g d) vp vk = pflag d vp vk := (rfl)
@[simp] theorem pflag_onPost (vp : Fin 32) (vk : Nat) (i : Fin 3) (g : Post → Post) (d : Dev) : pflag (onPost i g d) vp vk = pflag d vp vk := (rfl)
@[simp] theorem pflag_settle (vp : Fin 32) (vk : Nat) (a : Dev) (d : Dev) : pflag (settle a d) vp vk = pflag d vp vk := (rfl)

end Sys2Proof.Machine
end

