-- ==== Sys2Proof/Laws/Attach.lean ====
section
/-! SUPPORT. What attaching and detaching do to the port they act on (03 R107, R109, R114, 04 R153, R162). -/

namespace Sys2Proof.Machine

@[simp] theorem setPhases_loops (p : Fin 32) (st : PhaseState) (d : Dev) : (setPhases p st d).loops = d.loops := by
  unfold setPhases; simp

theorem softStart_pg {p : Fin 32} {d : Dev} (slew : Nat) (h : portPg d p = true) :
    ((softStart p slew d).loops[p.val]).switching = true ∧ ((softStart p slew d).loops[p.val]).region = pickRegion (4 * ((freeValue d).toNat % 12001)) (vinSample d 1) ∧
    ((softStart p slew d).loops[p.val]).target = refCode 5000 ∧ ((softStart p slew d).loops[p.val]).ramping = true ∧
    ((softStart p slew d).loops[p.val]).slew = slew ∧ ((softStart p slew d).loops[p.val]).softStart = true ∧
    ((softStart p slew d).loops[p.val]).deForced = true := by
  unfold softStart phasesGo
  simp [h, startRamp]
  all_goals simp [startRamp]

theorem firstHand_kitty (p : Fin 32) (d : Dev) : (firstHand p d).ledger.kittyHeld = d.ledger.kittyHeld - max 25 (min (reachOf d p) d.ledger.kittyHeld) := by
  simp [firstHand]

@[simp] theorem vconnOnPin_still (p : Fin 32) (d : Dev) :
    ((vconnOnPin p d).ports[p.val]).tc = (d.ports[p.val]).tc ∧ ((vconnOnPin p d).ports[p.val]).orient = (d.ports[p.val]).orient ∧
    ((vconnOnPin p d).ports[p.val]).source = (d.ports[p.val]).source ∧ ((vconnOnPin p d).ports[p.val]).dfp = (d.ports[p.val]).dfp := by
  unfold vconnOnPin toDie onlyIf
  split
  · simp
  · split <;> split <;> simp

/-- What an attach as source comes to with the link of its die up. -/
theorem attachSource_up {p : Fin 32} {d : Dev} (h : lostPort d p = false) : ∃ x, x.sys = d.sys ∧ x.ledger = d.ledger ∧ x.cfg = d.cfg ∧ x.feeds = d.feeds ∧
    (x.ports[p.val]).tc = .attachedSrc ∧ (x.ports[p.val]).orient = pinRd d p true ∧ (x.ports[p.val]).source = true ∧ (x.ports[p.val]).dfp = true ∧
    attachSource p d = divide (journalContract p (portEvent p 0 (softStart p (diePort d p).slewSs (firstHand p (resetFence p 5000 x))))) := by
  refine ⟨onPd p (fun x => { x with leaving := false, discoverTries := 0, lastCapsTb := 0 }) (onlyIf (wantsVconn (onPort p (fun q => { q with
    tc := .attachedSrc, orient := pinRd d p true, source := true, dfp := true, capsSent := 0 }) (stopTimers (tcTimers p) d)) p) (vconnOnPin p)
      (noCable p (onPort p (fun q => { q with tc := .attachedSrc, orient := pinRd d p true, source := true, dfp := true, capsSent := 0 }) (stopTimers (tcTimers p) d)))),
    ?_, ?_, ?_, ?_, ?_, ?_, ?_, ?_, ?_⟩
  · unfold onlyIf; split <;> simp [noCable]
  · unfold onlyIf; split <;> simp [noCable]
  · unfold onlyIf; split <;> simp [noCable]
  · unfold onlyIf; split <;> simp [noCable]
  · unfold onlyIf; split <;> simp [noCable]
  · unfold onlyIf; split <;> simp [noCable]
  · unfold onlyIf; split <;> simp [noCable]
  · unfold onlyIf; split <;> simp [noCable]
  · unfold attachSource
    dsimp only
    rw [restartFence_up 5000 h (by unfold onlyIf; split <;> simp [noCable]),
      startPort_up h (by unfold onlyIf; split <;> simp [noCable])]
    have e : ∀ x : Dev, x.sys = d.sys → x.cfg = d.cfg → diePort x p = diePort d p := by
      intro x h1 h2; unfold diePort portCfg; rw [h1, h2]
    rw [e _ (by unfold onlyIf; split <;> simp [noCable]) (by unfold onlyIf; split <;> simp [noCable])]

theorem attachSource_port {p : Fin 32} {d : Dev} (h : lostPort d p = false) :
    ((attachSource p d).ports[p.val]).tc = .attachedSrc ∧ ((attachSource p d).ports[p.val]).orient = pinRd d p true ∧
    ((attachSource p d).ports[p.val]).source = true ∧ ((attachSource p d).ports[p.val]).dfp = true ∧
    ((attachSource p d).ports[p.val]).fence = fenceOf 5000 ∧ ((attachSource p d).ports[p.val]).fencePend = none := by
  obtain ⟨x, -, -, -, -, h1, h2, h3, h4, e⟩ := attachSource_up h
  rw [e]
  simp only [divide_tc, divide_orient, divide_source, divide_dfp, divide_fence, divide_fencePend, journalContract_frame, portEvent_frame, softStart_frame]
  simp [firstHand, resetFence, h1, h2, h3, h4]

/-- What a division leaves of the ports. -/
theorem divide_handsOnly (p : Fin 32) (d : Dev) : HandsOnly p d (divide d) := fun q _ =>
  ⟨by simp, Guard.of_gate (divide_gate q d), Port.of_still (divide_still q d)⟩

theorem HandsOnly.trans {p : Fin 32} {a b c : Dev} (h : HandsOnly p a b) (k : HandsOnly p b c) : HandsOnly p a c := fun q hq => by
  obtain ⟨h1, h2, h3⟩ := h q hq
  obtain ⟨k1, k2, k3⟩ := k q hq
  refine ⟨k1.trans h1, ?_, ?_⟩
  · rw [h2] at k2; exact k2
  · rw [h3] at k3; exact k3

theorem HandsOnly.of_only {p : Fin 32} {a b : Dev} (h : ∀ q : Fin 32, q ≠ p → b.ports[q.val] = a.ports[q.val] ∧ b.guards[q.val] = a.guards[q.val] ∧ b.loops[q.val] = a.loops[q.val]) :
    HandsOnly p a b := fun q hq => by
  obtain ⟨h1, h2, h3⟩ := h q hq
  simp only [Fin.getElem_fin, h1, h2, h3, and_self]

/-- The first hand comes out of the kitty, at least 2.5 W as far as it holds (04 R153); the division that follows leaves the kitty, and takes
nothing from the port. -/
theorem attachSource_hand {p : Fin 32} {d : Dev} (h : lostPort d p = false) :
    ∃ h, 25 ≤ h ∧ h ≤ ((attachSource p d).ports[p.val]).hand ∧ (attachSource p d).ledger.kittyHeld = d.ledger.kittyHeld - h := by
  obtain ⟨x, -, hl, -, -, -, -, -, -, e⟩ := attachSource_up h
  rw [e]
  simp only [divide_frame, journalContract_frame, portEvent_frame, softStart_frame, firstHand_kitty]
  have hk : (resetFence p 5000 x).ledger = d.ledger := by simp [resetFence, hl]
  simp only [hk]
  refine ⟨_, Nat.le_max_left _ _, Nat.le_trans (Nat.le_of_eq ?_) (divide_hand p _), rfl⟩
  simp only [journalContract_frame, portEvent_frame, softStart_frame]
  simp [firstHand, resetFence, hl]

/-- An attach as source touches the other ports only by its division. -/
theorem attachSource_others (p : Fin 32) (d : Dev) : HandsOnly p d (attachSource p d) := by
  unfold attachSource
  dsimp only
  refine HandsOnly.trans (HandsOnly.of_only fun q hq => ?_) (divide_handsOnly p _)
  refine ⟨?_, ?_, ?_⟩ <;> simp [hq, noCable, onlyIf, upd_other] <;> (try split) <;> simp [hq, upd_other]

/-! What a port sees of its pins at the entry into a state (03 R101, R107). -/

/-- While a channel of the port holds its zone it waits. -/
theorem ccSee_held {p : Fin 32} {d : Dev} (h : ccHeld d p = true) : ccSee p d = d := by
  unfold ccSee ccEval
  split
  · rfl
  · simp [h]

theorem ccProgram_held (l : Nat × Nat) (c k : Fin 204) (d : Dev) (h : (d.chans[k.val]).frozen = true) : ((ccProgram l c d).chans[k.val]).frozen = true := by
  unfold ccProgram holdChan
  dsimp only
  split
  · simp only [onChan_chans, upd_get]; split <;> simp [h]
  · simp only [startTimerAt_chans, stopTimersIf_chans, onChan_chans, upd_get]; split <;> simp [h]

/-- A change of the termination holds the zones of an enabled CC channel (03 R101). -/
theorem present_held {p : Fin 32} {rp : RpLevel} {rd : Bool} {d : Dev} (h : (d.chans[(cc1 p).val]).enabled = true)
    (hc : ((d.ports[p.val]).rp == rp && (d.ports[p.val]).rd == rd && (d.ports[p.val]).ccCut == 0) = false) : ccHeld (present p rp rd d) p = true := by
  have k : ((present p rp rd d).chans[(cc1 p).val]).frozen = true := by
    unfold present
    simp only [Fin.getElem_fin, hc, Bool.false_eq_true, if_false]
    refine ccProgram_held _ _ _ _ ?_
    unfold ccProgram holdChan
    simp [h]
  unfold ccHeld
  simp only [Fin.getElem_fin, k, Bool.true_or]

/-- An unattached sink whose pins read no Rp stays. -/
theorem ccSee_snk {p : Fin 32} {d : Dev} (h : (d.ports[p.val]).tc = .unattachedSnk) (h1 : pinRp d p false = false) (h2 : pinRp d p true = false) : ccSee p d = d := by
  unfold ccSee ccEval
  simp [h, h1, h2]

/-- An unattached source one of whose channels is unsettled stays. -/
theorem ccSee_src {p : Fin 32} {d : Dev} (h : (d.ports[p.val]).tc = .unattachedSrc) (h1 : ccSettled d p = false) : ccSee p d = d := by
  unfold ccSee ccEval
  have : rdPins d p = 0 := by simp [rdPins, rdOne, h1]
  simp [h, h1, this]

theorem attachSource_loop {p : Fin 32} {d : Dev} (h : portPg d p = true) (hl : lostPort d p = false) : ((attachSource p d).loops[p.val]).switching = true ∧
    ((attachSource p d).loops[p.val]).target = refCode 5000 := by
  obtain ⟨x, -, -, h1, h2, -, -, -, -, e⟩ := attachSource_up hl
  have g : portPg (firstHand p (resetFence p 5000 x)) p = true := by
    rw [← h]; unfold portPg portBus phasesOf busPg
    simp [resetFence, h1, h2]
  rw [e]
  simp only [divide_frame, journalContract_frame, portEvent_frame]
  exact ⟨(softStart_pg _ g).1, (softStart_pg _ g).2.2.1⟩

end Sys2Proof.Machine
end

