-- ==== Sys2Proof/Laws/Pd.lean ====
section
/-! SUPPORT. What taking and sending a message do to a port's protocol engine (04 R139, R140). -/

namespace Sys2Proof.Machine

/-- The engine without what a received message touches. -/
def PortPd.unheard (x : PortPd) : PortPd := { x with rxQueue := [], rxTb := 0 }

theorem PortPd.unheard_ams (x : PortPd) : x.unheard.ams = x.ams := rfl
theorem PortPd.unheard_attachCensus (x : PortPd) : x.unheard.attachCensus = x.attachCensus := rfl
theorem PortPd.unheard_base (x : PortPd) : x.unheard.base = x.base := rfl
theorem PortPd.unheard_bistData (x : PortPd) : x.unheard.bistData = x.bistData := rfl
theorem PortPd.unheard_breachTb (x : PortPd) : x.unheard.breachTb = x.breachTb := rfl
theorem PortPd.unheard_capsDue (x : PortPd) : x.unheard.capsDue = x.capsDue := rfl
theorem PortPd.unheard_chunks (x : PortPd) : x.unheard.chunks = x.chunks := rfl
theorem PortPd.unheard_deb (x : PortPd) : x.unheard.deb = x.deb := rfl
theorem PortPd.unheard_disabling (x : PortPd) : x.unheard.disabling = x.disabling := rfl
theorem PortPd.unheard_discoverTries (x : PortPd) : x.unheard.discoverTries = x.discoverTries := rfl
theorem PortPd.unheard_eprRating (x : PortPd) : x.unheard.eprRating = x.eprRating := rfl
theorem PortPd.unheard_event (x : PortPd) : x.unheard.event = x.event := rfl
theorem PortPd.unheard_fault (x : PortPd) : x.unheard.fault = x.fault := rfl
theorem PortPd.unheard_guardTripTb (x : PortPd) : x.unheard.guardTripTb = x.guardTripTb := rfl
theorem PortPd.unheard_hardResets (x : PortPd) : x.unheard.hardResets = x.hardResets := rfl
theorem PortPd.unheard_hiccupRestart (x : PortPd) : x.unheard.hiccupRestart = x.hiccupRestart := rfl
theorem PortPd.unheard_hrDischarge (x : PortPd) : x.unheard.hrDischarge = x.hrDischarge := rfl
theorem PortPd.unheard_hrRx (x : PortPd) : x.unheard.hrRx = x.hrRx := rfl
theorem PortPd.unheard_hrTx (x : PortPd) : x.unheard.hrTx = x.hrTx := rfl
theorem PortPd.unheard_inWindow (x : PortPd) : x.unheard.inWindow = x.inWindow := rfl
theorem PortPd.unheard_irqen (x : PortPd) : x.unheard.irqen = x.irqen := rfl
theorem PortPd.unheard_lastCapsTb (x : PortPd) : x.unheard.lastCapsTb = x.lastCapsTb := rfl
theorem PortPd.unheard_lastRdoEpr (x : PortPd) : x.unheard.lastRdoEpr = x.lastRdoEpr := rfl
theorem PortPd.unheard_leaving (x : PortPd) : x.unheard.leaving = x.leaving := rfl
theorem PortPd.unheard_limit (x : PortPd) : x.unheard.limit = x.limit := rfl
theorem PortPd.unheard_newCurr (x : PortPd) : x.unheard.newCurr = x.newCurr := rfl
theorem PortPd.unheard_newKind (x : PortPd) : x.unheard.newKind = x.newKind := rfl
theorem PortPd.unheard_newPos (x : PortPd) : x.unheard.newPos = x.newPos := rfl
theorem PortPd.unheard_newRdo (x : PortPd) : x.unheard.newRdo = x.newRdo := rfl
theorem PortPd.unheard_newVolt (x : PortPd) : x.unheard.newVolt = x.newVolt := rfl
theorem PortPd.unheard_pdos (x : PortPd) : x.unheard.pdos = x.pdos := rfl
theorem PortPd.unheard_reach (x : PortPd) : x.unheard.reach = x.reach := rfl
theorem PortPd.unheard_retries (x : PortPd) : x.unheard.retries = x.retries := rfl
theorem PortPd.unheard_rxId (x : PortPd) : x.unheard.rxId = x.rxId := rfl
theorem PortPd.unheard_sentEpr (x : PortPd) : x.unheard.sentEpr = x.sentEpr := rfl
theorem PortPd.unheard_sentLims (x : PortPd) : x.unheard.sentLims = x.sentLims := rfl
theorem PortPd.unheard_sentPdos (x : PortPd) : x.unheard.sentPdos = x.sentPdos := rfl
theorem PortPd.unheard_sentSink (x : PortPd) : x.unheard.sentSink = x.sentSink := rfl
theorem PortPd.unheard_sentSpr (x : PortPd) : x.unheard.sentSpr = x.sentSpr := rfl
theorem PortPd.unheard_sinkPdp (x : PortPd) : x.unheard.sinkPdp = x.sinkPdp := rfl
theorem PortPd.unheard_sinkTxNg (x : PortPd) : x.unheard.sinkTxNg = x.sinkTxNg := rfl
theorem PortPd.unheard_softs (x : PortPd) : x.unheard.softs = x.softs := rfl
theorem PortPd.unheard_sopSecond (x : PortPd) : x.unheard.sopSecond = x.sopSecond := rfl
theorem PortPd.unheard_sprRating (x : PortPd) : x.unheard.sprRating = x.sprRating := rfl
theorem PortPd.unheard_ssDue (x : PortPd) : x.unheard.ssDue = x.ssDue := rfl
theorem PortPd.unheard_target (x : PortPd) : x.unheard.target = x.target := rfl
theorem PortPd.unheard_txId (x : PortPd) : x.unheard.txId = x.txId := rfl
theorem PortPd.unheard_txId1 (x : PortPd) : x.unheard.txId1 = x.txId1 := rfl
theorem PortPd.unheard_txQueue (x : PortPd) : x.unheard.txQueue = x.txQueue := rfl

@[simp] theorem takeMsg_unheard (p i : Fin 32) (k : PdKind) (d : Dev) : ((takeMsg p k d).pd[i.val]).unheard = (d.pd[i.val]).unheard := by
  unfold takeMsg heard onlyIf
  split
  · simp only [onPd_pd, upd_get]; split <;> rfl
  · split <;> simp only [startTimer_pd, onPd_pd, upd_get] <;> split <;> rfl

@[simp] theorem takeMsg_txQueue (p i : Fin 32) (k : PdKind) (d : Dev) : ((takeMsg p k d).pd[i.val]).txQueue = (d.pd[i.val]).txQueue :=
  ((PortPd.unheard_txQueue _).symm.trans (congrArg PortPd.txQueue (takeMsg_unheard ..))).trans (PortPd.unheard_txQueue _)
@[simp] theorem takeMsg_ams (p i : Fin 32) (k : PdKind) (d : Dev) : ((takeMsg p k d).pd[i.val]).ams = (d.pd[i.val]).ams :=
  ((PortPd.unheard_ams _).symm.trans (congrArg PortPd.ams (takeMsg_unheard ..))).trans (PortPd.unheard_ams _)
@[simp] theorem takeMsg_event (p i : Fin 32) (k : PdKind) (d : Dev) : ((takeMsg p k d).pd[i.val]).event = (d.pd[i.val]).event :=
  ((PortPd.unheard_event _).symm.trans (congrArg PortPd.event (takeMsg_unheard ..))).trans (PortPd.unheard_event _)

/-- A message joins the end of the transmit queue (04 R139). -/
@[simp] theorem pdSend_txQueue (p : Fin 32) (sop : Fin 3) (k : PdKind) (w : List Word) (d : Dev) :
    ((pdSend p sop k w d).pd[p.val]).txQueue = (d.pd[p.val]).txQueue ++ [{ sop := sop, kind := k, data := w, tries := 0 }] := by
  unfold pdSend
  dsimp only
  split <;> simp

/-- The engine without its transmit queue. -/
def PortPd.unsent (x : PortPd) : PortPd := { x with txQueue := [] }

theorem PortPd.unsent_ams (x : PortPd) : x.unsent.ams = x.ams := rfl
theorem PortPd.unsent_attachCensus (x : PortPd) : x.unsent.attachCensus = x.attachCensus := rfl
theorem PortPd.unsent_base (x : PortPd) : x.unsent.base = x.base := rfl
theorem PortPd.unsent_bistData (x : PortPd) : x.unsent.bistData = x.bistData := rfl
theorem PortPd.unsent_breachTb (x : PortPd) : x.unsent.breachTb = x.breachTb := rfl
theorem PortPd.unsent_capsDue (x : PortPd) : x.unsent.capsDue = x.capsDue := rfl
theorem PortPd.unsent_chunks (x : PortPd) : x.unsent.chunks = x.chunks := rfl
theorem PortPd.unsent_deb (x : PortPd) : x.unsent.deb = x.deb := rfl
theorem PortPd.unsent_disabling (x : PortPd) : x.unsent.disabling = x.disabling := rfl
theorem PortPd.unsent_discoverTries (x : PortPd) : x.unsent.discoverTries = x.discoverTries := rfl
theorem PortPd.unsent_eprRating (x : PortPd) : x.unsent.eprRating = x.eprRating := rfl
theorem PortPd.unsent_event (x : PortPd) : x.unsent.event = x.event := rfl
theorem PortPd.unsent_fault (x : PortPd) : x.unsent.fault = x.fault := rfl
theorem PortPd.unsent_guardTripTb (x : PortPd) : x.unsent.guardTripTb = x.guardTripTb := rfl
theorem PortPd.unsent_hardResets (x : PortPd) : x.unsent.hardResets = x.hardResets := rfl
theorem PortPd.unsent_hiccupRestart (x : PortPd) : x.unsent.hiccupRestart = x.hiccupRestart := rfl
theorem PortPd.unsent_hrDischarge (x : PortPd) : x.unsent.hrDischarge = x.hrDischarge := rfl
theorem PortPd.unsent_hrRx (x : PortPd) : x.unsent.hrRx = x.hrRx := rfl
theorem PortPd.unsent_hrTx (x : PortPd) : x.unsent.hrTx = x.hrTx := rfl
theorem PortPd.unsent_inWindow (x : PortPd) : x.unsent.inWindow = x.inWindow := rfl
theorem PortPd.unsent_irqen (x : PortPd) : x.unsent.irqen = x.irqen := rfl
theorem PortPd.unsent_lastCapsTb (x : PortPd) : x.unsent.lastCapsTb = x.lastCapsTb := rfl
theorem PortPd.unsent_lastRdoEpr (x : PortPd) : x.unsent.lastRdoEpr = x.lastRdoEpr := rfl
theorem PortPd.unsent_leaving (x : PortPd) : x.unsent.leaving = x.leaving := rfl
theorem PortPd.unsent_limit (x : PortPd) : x.unsent.limit = x.limit := rfl
theorem PortPd.unsent_newCurr (x : PortPd) : x.unsent.newCurr = x.newCurr := rfl
theorem PortPd.unsent_newKind (x : PortPd) : x.unsent.newKind = x.newKind := rfl
theorem PortPd.unsent_newPos (x : PortPd) : x.unsent.newPos = x.newPos := rfl
theorem PortPd.unsent_newRdo (x : PortPd) : x.unsent.newRdo = x.newRdo := rfl
theorem PortPd.unsent_newVolt (x : PortPd) : x.unsent.newVolt = x.newVolt := rfl
theorem PortPd.unsent_pdos (x : PortPd) : x.unsent.pdos = x.pdos := rfl
theorem PortPd.unsent_reach (x : PortPd) : x.unsent.reach = x.reach := rfl
theorem PortPd.unsent_retries (x : PortPd) : x.unsent.retries = x.retries := rfl
theorem PortPd.unsent_rxId (x : PortPd) : x.unsent.rxId = x.rxId := rfl
theorem PortPd.unsent_rxQueue (x : PortPd) : x.unsent.rxQueue = x.rxQueue := rfl
theorem PortPd.unsent_rxTb (x : PortPd) : x.unsent.rxTb = x.rxTb := rfl
theorem PortPd.unsent_sentEpr (x : PortPd) : x.unsent.sentEpr = x.sentEpr := rfl
theorem PortPd.unsent_sentLims (x : PortPd) : x.unsent.sentLims = x.sentLims := rfl
theorem PortPd.unsent_sentPdos (x : PortPd) : x.unsent.sentPdos = x.sentPdos := rfl
theorem PortPd.unsent_sentSink (x : PortPd) : x.unsent.sentSink = x.sentSink := rfl
theorem PortPd.unsent_sentSpr (x : PortPd) : x.unsent.sentSpr = x.sentSpr := rfl
theorem PortPd.unsent_sinkPdp (x : PortPd) : x.unsent.sinkPdp = x.sinkPdp := rfl
theorem PortPd.unsent_sinkTxNg (x : PortPd) : x.unsent.sinkTxNg = x.sinkTxNg := rfl
theorem PortPd.unsent_softs (x : PortPd) : x.unsent.softs = x.softs := rfl
theorem PortPd.unsent_sopSecond (x : PortPd) : x.unsent.sopSecond = x.sopSecond := rfl
theorem PortPd.unsent_sprRating (x : PortPd) : x.unsent.sprRating = x.sprRating := rfl
theorem PortPd.unsent_ssDue (x : PortPd) : x.unsent.ssDue = x.ssDue := rfl
theorem PortPd.unsent_target (x : PortPd) : x.unsent.target = x.target := rfl
theorem PortPd.unsent_txId (x : PortPd) : x.unsent.txId = x.txId := rfl
theorem PortPd.unsent_txId1 (x : PortPd) : x.unsent.txId1 = x.txId1 := rfl

@[simp] theorem pdSend_unsent (p i : Fin 32) (sop : Fin 3) (k : PdKind) (w : List Word) (d : Dev) :
    ((pdSend p sop k w d).pd[i.val]).unsent = (d.pd[i.val]).unsent := by
  unfold pdSend
  dsimp only
  split <;> simp only [startTimer_pd, onPd_pd, upd_get] <;> split <;> rfl

@[simp] theorem pdSend_limit (p i : Fin 32) (sop : Fin 3) (k : PdKind) (w : List Word) (d : Dev) : ((pdSend p sop k w d).pd[i.val]).limit = (d.pd[i.val]).limit :=
  ((PortPd.unsent_limit _).symm.trans (congrArg PortPd.limit (pdSend_unsent ..))).trans (PortPd.unsent_limit _)
@[simp] theorem pdSend_event (p i : Fin 32) (sop : Fin 3) (k : PdKind) (w : List Word) (d : Dev) : ((pdSend p sop k w d).pd[i.val]).event = (d.pd[i.val]).event :=
  ((PortPd.unsent_event _).symm.trans (congrArg PortPd.event (pdSend_unsent ..))).trans (PortPd.unsent_event _)
@[simp] theorem pdSend_irqen (p i : Fin 32) (sop : Fin 3) (k : PdKind) (w : List Word) (d : Dev) : ((pdSend p sop k w d).pd[i.val]).irqen = (d.pd[i.val]).irqen :=
  ((PortPd.unsent_irqen _).symm.trans (congrArg PortPd.irqen (pdSend_unsent ..))).trans (PortPd.unsent_irqen _)
@[simp] theorem pdSend_fault (p i : Fin 32) (sop : Fin 3) (k : PdKind) (w : List Word) (d : Dev) : ((pdSend p sop k w d).pd[i.val]).fault = (d.pd[i.val]).fault :=
  ((PortPd.unsent_fault _).symm.trans (congrArg PortPd.fault (pdSend_unsent ..))).trans (PortPd.unsent_fault _)
@[simp] theorem pdSend_hrTx (p i : Fin 32) (sop : Fin 3) (k : PdKind) (w : List Word) (d : Dev) : ((pdSend p sop k w d).pd[i.val]).hrTx = (d.pd[i.val]).hrTx :=
  ((PortPd.unsent_hrTx _).symm.trans (congrArg PortPd.hrTx (pdSend_unsent ..))).trans (PortPd.unsent_hrTx _)
@[simp] theorem pdSend_hrRx (p i : Fin 32) (sop : Fin 3) (k : PdKind) (w : List Word) (d : Dev) : ((pdSend p sop k w d).pd[i.val]).hrRx = (d.pd[i.val]).hrRx :=
  ((PortPd.unsent_hrRx _).symm.trans (congrArg PortPd.hrRx (pdSend_unsent ..))).trans (PortPd.unsent_hrRx _)
@[simp] theorem pdSend_softs (p i : Fin 32) (sop : Fin 3) (k : PdKind) (w : List Word) (d : Dev) : ((pdSend p sop k w d).pd[i.val]).softs = (d.pd[i.val]).softs :=
  ((PortPd.unsent_softs _).symm.trans (congrArg PortPd.softs (pdSend_unsent ..))).trans (PortPd.unsent_softs _)
@[simp] theorem pdSend_retries (p i : Fin 32) (sop : Fin 3) (k : PdKind) (w : List Word) (d : Dev) : ((pdSend p sop k w d).pd[i.val]).retries = (d.pd[i.val]).retries :=
  ((PortPd.unsent_retries _).symm.trans (congrArg PortPd.retries (pdSend_unsent ..))).trans (PortPd.unsent_retries _)
@[simp] theorem pdSend_pdos (p i : Fin 32) (sop : Fin 3) (k : PdKind) (w : List Word) (d : Dev) : ((pdSend p sop k w d).pd[i.val]).pdos = (d.pd[i.val]).pdos :=
  ((PortPd.unsent_pdos _).symm.trans (congrArg PortPd.pdos (pdSend_unsent ..))).trans (PortPd.unsent_pdos _)
@[simp] theorem pdSend_sinkPdp (p i : Fin 32) (sop : Fin 3) (k : PdKind) (w : List Word) (d : Dev) : ((pdSend p sop k w d).pd[i.val]).sinkPdp = (d.pd[i.val]).sinkPdp :=
  ((PortPd.unsent_sinkPdp _).symm.trans (congrArg PortPd.sinkPdp (pdSend_unsent ..))).trans (PortPd.unsent_sinkPdp _)
@[simp] theorem pdSend_sprRating (p i : Fin 32) (sop : Fin 3) (k : PdKind) (w : List Word) (d : Dev) : ((pdSend p sop k w d).pd[i.val]).sprRating = (d.pd[i.val]).sprRating :=
  ((PortPd.unsent_sprRating _).symm.trans (congrArg PortPd.sprRating (pdSend_unsent ..))).trans (PortPd.unsent_sprRating _)
@[simp] theorem pdSend_eprRating (p i : Fin 32) (sop : Fin 3) (k : PdKind) (w : List Word) (d : Dev) : ((pdSend p sop k w d).pd[i.val]).eprRating = (d.pd[i.val]).eprRating :=
  ((PortPd.unsent_eprRating _).symm.trans (congrArg PortPd.eprRating (pdSend_unsent ..))).trans (PortPd.unsent_eprRating _)
@[simp] theorem pdSend_reach (p i : Fin 32) (sop : Fin 3) (k : PdKind) (w : List Word) (d : Dev) : ((pdSend p sop k w d).pd[i.val]).reach = (d.pd[i.val]).reach :=
  ((PortPd.unsent_reach _).symm.trans (congrArg PortPd.reach (pdSend_unsent ..))).trans (PortPd.unsent_reach _)
@[simp] theorem pdSend_base (p i : Fin 32) (sop : Fin 3) (k : PdKind) (w : List Word) (d : Dev) : ((pdSend p sop k w d).pd[i.val]).base = (d.pd[i.val]).base :=
  ((PortPd.unsent_base _).symm.trans (congrArg PortPd.base (pdSend_unsent ..))).trans (PortPd.unsent_base _)
@[simp] theorem pdSend_rxQueue (p i : Fin 32) (sop : Fin 3) (k : PdKind) (w : List Word) (d : Dev) : ((pdSend p sop k w d).pd[i.val]).rxQueue = (d.pd[i.val]).rxQueue :=
  ((PortPd.unsent_rxQueue _).symm.trans (congrArg PortPd.rxQueue (pdSend_unsent ..))).trans (PortPd.unsent_rxQueue _)
@[simp] theorem pdSend_rxId (p i : Fin 32) (sop : Fin 3) (k : PdKind) (w : List Word) (d : Dev) : ((pdSend p sop k w d).pd[i.val]).rxId = (d.pd[i.val]).rxId :=
  ((PortPd.unsent_rxId _).symm.trans (congrArg PortPd.rxId (pdSend_unsent ..))).trans (PortPd.unsent_rxId _)
@[simp] theorem pdSend_txId (p i : Fin 32) (sop : Fin 3) (k : PdKind) (w : List Word) (d : Dev) : ((pdSend p sop k w d).pd[i.val]).txId = (d.pd[i.val]).txId :=
  ((PortPd.unsent_txId _).symm.trans (congrArg PortPd.txId (pdSend_unsent ..))).trans (PortPd.unsent_txId _)
@[simp] theorem pdSend_txId1 (p i : Fin 32) (sop : Fin 3) (k : PdKind) (w : List Word) (d : Dev) : ((pdSend p sop k w d).pd[i.val]).txId1 = (d.pd[i.val]).txId1 :=
  ((PortPd.unsent_txId1 _).symm.trans (congrArg PortPd.txId1 (pdSend_unsent ..))).trans (PortPd.unsent_txId1 _)
@[simp] theorem pdSend_ams (p i : Fin 32) (sop : Fin 3) (k : PdKind) (w : List Word) (d : Dev) : ((pdSend p sop k w d).pd[i.val]).ams = (d.pd[i.val]).ams :=
  ((PortPd.unsent_ams _).symm.trans (congrArg PortPd.ams (pdSend_unsent ..))).trans (PortPd.unsent_ams _)
@[simp] theorem pdSend_sinkTxNg (p i : Fin 32) (sop : Fin 3) (k : PdKind) (w : List Word) (d : Dev) : ((pdSend p sop k w d).pd[i.val]).sinkTxNg = (d.pd[i.val]).sinkTxNg :=
  ((PortPd.unsent_sinkTxNg _).symm.trans (congrArg PortPd.sinkTxNg (pdSend_unsent ..))).trans (PortPd.unsent_sinkTxNg _)
@[simp] theorem pdSend_newVolt (p i : Fin 32) (sop : Fin 3) (k : PdKind) (w : List Word) (d : Dev) : ((pdSend p sop k w d).pd[i.val]).newVolt = (d.pd[i.val]).newVolt :=
  ((PortPd.unsent_newVolt _).symm.trans (congrArg PortPd.newVolt (pdSend_unsent ..))).trans (PortPd.unsent_newVolt _)
@[simp] theorem pdSend_newCurr (p i : Fin 32) (sop : Fin 3) (k : PdKind) (w : List Word) (d : Dev) : ((pdSend p sop k w d).pd[i.val]).newCurr = (d.pd[i.val]).newCurr :=
  ((PortPd.unsent_newCurr _).symm.trans (congrArg PortPd.newCurr (pdSend_unsent ..))).trans (PortPd.unsent_newCurr _)
@[simp] theorem pdSend_newRdo (p i : Fin 32) (sop : Fin 3) (k : PdKind) (w : List Word) (d : Dev) : ((pdSend p sop k w d).pd[i.val]).newRdo = (d.pd[i.val]).newRdo :=
  ((PortPd.unsent_newRdo _).symm.trans (congrArg PortPd.newRdo (pdSend_unsent ..))).trans (PortPd.unsent_newRdo _)
@[simp] theorem pdSend_newKind (p i : Fin 32) (sop : Fin 3) (k : PdKind) (w : List Word) (d : Dev) : ((pdSend p sop k w d).pd[i.val]).newKind = (d.pd[i.val]).newKind :=
  ((PortPd.unsent_newKind _).symm.trans (congrArg PortPd.newKind (pdSend_unsent ..))).trans (PortPd.unsent_newKind _)
@[simp] theorem pdSend_newPos (p i : Fin 32) (sop : Fin 3) (k : PdKind) (w : List Word) (d : Dev) : ((pdSend p sop k w d).pd[i.val]).newPos = (d.pd[i.val]).newPos :=
  ((PortPd.unsent_newPos _).symm.trans (congrArg PortPd.newPos (pdSend_unsent ..))).trans (PortPd.unsent_newPos _)
@[simp] theorem pdSend_hardResets (p i : Fin 32) (sop : Fin 3) (k : PdKind) (w : List Word) (d : Dev) : ((pdSend p sop k w d).pd[i.val]).hardResets = (d.pd[i.val]).hardResets :=
  ((PortPd.unsent_hardResets _).symm.trans (congrArg PortPd.hardResets (pdSend_unsent ..))).trans (PortPd.unsent_hardResets _)
@[simp] theorem pdSend_discoverTries (p i : Fin 32) (sop : Fin 3) (k : PdKind) (w : List Word) (d : Dev) : ((pdSend p sop k w d).pd[i.val]).discoverTries = (d.pd[i.val]).discoverTries :=
  ((PortPd.unsent_discoverTries _).symm.trans (congrArg PortPd.discoverTries (pdSend_unsent ..))).trans (PortPd.unsent_discoverTries _)
@[simp] theorem pdSend_bistData (p i : Fin 32) (sop : Fin 3) (k : PdKind) (w : List Word) (d : Dev) : ((pdSend p sop k w d).pd[i.val]).bistData = (d.pd[i.val]).bistData :=
  ((PortPd.unsent_bistData _).symm.trans (congrArg PortPd.bistData (pdSend_unsent ..))).trans (PortPd.unsent_bistData _)
@[simp] theorem pdSend_lastRdoEpr (p i : Fin 32) (sop : Fin 3) (k : PdKind) (w : List Word) (d : Dev) : ((pdSend p sop k w d).pd[i.val]).lastRdoEpr = (d.pd[i.val]).lastRdoEpr :=
  ((PortPd.unsent_lastRdoEpr _).symm.trans (congrArg PortPd.lastRdoEpr (pdSend_unsent ..))).trans (PortPd.unsent_lastRdoEpr _)
@[simp] theorem pdSend_lastCapsTb (p i : Fin 32) (sop : Fin 3) (k : PdKind) (w : List Word) (d : Dev) : ((pdSend p sop k w d).pd[i.val]).lastCapsTb = (d.pd[i.val]).lastCapsTb :=
  ((PortPd.unsent_lastCapsTb _).symm.trans (congrArg PortPd.lastCapsTb (pdSend_unsent ..))).trans (PortPd.unsent_lastCapsTb _)
@[simp] theorem pdSend_breachTb (p i : Fin 32) (sop : Fin 3) (k : PdKind) (w : List Word) (d : Dev) : ((pdSend p sop k w d).pd[i.val]).breachTb = (d.pd[i.val]).breachTb :=
  ((PortPd.unsent_breachTb _).symm.trans (congrArg PortPd.breachTb (pdSend_unsent ..))).trans (PortPd.unsent_breachTb _)
@[simp] theorem pdSend_guardTripTb (p i : Fin 32) (sop : Fin 3) (k : PdKind) (w : List Word) (d : Dev) : ((pdSend p sop k w d).pd[i.val]).guardTripTb = (d.pd[i.val]).guardTripTb :=
  ((PortPd.unsent_guardTripTb _).symm.trans (congrArg PortPd.guardTripTb (pdSend_unsent ..))).trans (PortPd.unsent_guardTripTb _)
@[simp] theorem pdSend_disabling (p i : Fin 32) (sop : Fin 3) (k : PdKind) (w : List Word) (d : Dev) : ((pdSend p sop k w d).pd[i.val]).disabling = (d.pd[i.val]).disabling :=
  ((PortPd.unsent_disabling _).symm.trans (congrArg PortPd.disabling (pdSend_unsent ..))).trans (PortPd.unsent_disabling _)
@[simp] theorem pdSend_hrDischarge (p i : Fin 32) (sop : Fin 3) (k : PdKind) (w : List Word) (d : Dev) : ((pdSend p sop k w d).pd[i.val]).hrDischarge = (d.pd[i.val]).hrDischarge :=
  ((PortPd.unsent_hrDischarge _).symm.trans (congrArg PortPd.hrDischarge (pdSend_unsent ..))).trans (PortPd.unsent_hrDischarge _)
@[simp] theorem pdSend_hiccupRestart (p i : Fin 32) (sop : Fin 3) (k : PdKind) (w : List Word) (d : Dev) : ((pdSend p sop k w d).pd[i.val]).hiccupRestart = (d.pd[i.val]).hiccupRestart :=
  ((PortPd.unsent_hiccupRestart _).symm.trans (congrArg PortPd.hiccupRestart (pdSend_unsent ..))).trans (PortPd.unsent_hiccupRestart _)
@[simp] theorem pdSend_chunks (p i : Fin 32) (sop : Fin 3) (k : PdKind) (w : List Word) (d : Dev) : ((pdSend p sop k w d).pd[i.val]).chunks = (d.pd[i.val]).chunks :=
  ((PortPd.unsent_chunks _).symm.trans (congrArg PortPd.chunks (pdSend_unsent ..))).trans (PortPd.unsent_chunks _)
@[simp] theorem pdSend_rxTb (p i : Fin 32) (sop : Fin 3) (k : PdKind) (w : List Word) (d : Dev) : ((pdSend p sop k w d).pd[i.val]).rxTb = (d.pd[i.val]).rxTb :=
  ((PortPd.unsent_rxTb _).symm.trans (congrArg PortPd.rxTb (pdSend_unsent ..))).trans (PortPd.unsent_rxTb _)
@[simp] theorem pdSend_attachCensus (p i : Fin 32) (sop : Fin 3) (k : PdKind) (w : List Word) (d : Dev) : ((pdSend p sop k w d).pd[i.val]).attachCensus = (d.pd[i.val]).attachCensus :=
  ((PortPd.unsent_attachCensus _).symm.trans (congrArg PortPd.attachCensus (pdSend_unsent ..))).trans (PortPd.unsent_attachCensus _)
@[simp] theorem pdSend_leaving (p i : Fin 32) (sop : Fin 3) (k : PdKind) (w : List Word) (d : Dev) : ((pdSend p sop k w d).pd[i.val]).leaving = (d.pd[i.val]).leaving :=
  ((PortPd.unsent_leaving _).symm.trans (congrArg PortPd.leaving (pdSend_unsent ..))).trans (PortPd.unsent_leaving _)
@[simp] theorem pdSend_ssDue (p i : Fin 32) (sop : Fin 3) (k : PdKind) (w : List Word) (d : Dev) : ((pdSend p sop k w d).pd[i.val]).ssDue = (d.pd[i.val]).ssDue :=
  ((PortPd.unsent_ssDue _).symm.trans (congrArg PortPd.ssDue (pdSend_unsent ..))).trans (PortPd.unsent_ssDue _)
@[simp] theorem pdSend_capsDue (p i : Fin 32) (sop : Fin 3) (k : PdKind) (w : List Word) (d : Dev) : ((pdSend p sop k w d).pd[i.val]).capsDue = (d.pd[i.val]).capsDue :=
  ((PortPd.unsent_capsDue _).symm.trans (congrArg PortPd.capsDue (pdSend_unsent ..))).trans (PortPd.unsent_capsDue _)
@[simp] theorem pdSend_deb (p i : Fin 32) (sop : Fin 3) (k : PdKind) (w : List Word) (d : Dev) : ((pdSend p sop k w d).pd[i.val]).deb = (d.pd[i.val]).deb :=
  ((PortPd.unsent_deb _).symm.trans (congrArg PortPd.deb (pdSend_unsent ..))).trans (PortPd.unsent_deb _)
@[simp] theorem pdSend_inWindow (p i : Fin 32) (sop : Fin 3) (k : PdKind) (w : List Word) (d : Dev) : ((pdSend p sop k w d).pd[i.val]).inWindow = (d.pd[i.val]).inWindow :=
  ((PortPd.unsent_inWindow _).symm.trans (congrArg PortPd.inWindow (pdSend_unsent ..))).trans (PortPd.unsent_inWindow _)
@[simp] theorem pdSend_sentPdos (p i : Fin 32) (sop : Fin 3) (k : PdKind) (w : List Word) (d : Dev) : ((pdSend p sop k w d).pd[i.val]).sentPdos = (d.pd[i.val]).sentPdos :=
  ((PortPd.unsent_sentPdos _).symm.trans (congrArg PortPd.sentPdos (pdSend_unsent ..))).trans (PortPd.unsent_sentPdos _)
@[simp] theorem pdSend_sentSink (p i : Fin 32) (sop : Fin 3) (k : PdKind) (w : List Word) (d : Dev) : ((pdSend p sop k w d).pd[i.val]).sentSink = (d.pd[i.val]).sentSink :=
  ((PortPd.unsent_sentSink _).symm.trans (congrArg PortPd.sentSink (pdSend_unsent ..))).trans (PortPd.unsent_sentSink _)
@[simp] theorem pdSend_sentSpr (p i : Fin 32) (sop : Fin 3) (k : PdKind) (w : List Word) (d : Dev) : ((pdSend p sop k w d).pd[i.val]).sentSpr = (d.pd[i.val]).sentSpr :=
  ((PortPd.unsent_sentSpr _).symm.trans (congrArg PortPd.sentSpr (pdSend_unsent ..))).trans (PortPd.unsent_sentSpr _)
@[simp] theorem pdSend_sentEpr (p i : Fin 32) (sop : Fin 3) (k : PdKind) (w : List Word) (d : Dev) : ((pdSend p sop k w d).pd[i.val]).sentEpr = (d.pd[i.val]).sentEpr :=
  ((PortPd.unsent_sentEpr _).symm.trans (congrArg PortPd.sentEpr (pdSend_unsent ..))).trans (PortPd.unsent_sentEpr _)
@[simp] theorem pdSend_sentLims (p i : Fin 32) (sop : Fin 3) (k : PdKind) (w : List Word) (d : Dev) : ((pdSend p sop k w d).pd[i.val]).sentLims = (d.pd[i.val]).sentLims :=
  ((PortPd.unsent_sentLims _).symm.trans (congrArg PortPd.sentLims (pdSend_unsent ..))).trans (PortPd.unsent_sentLims _)
@[simp] theorem pdSend_target (p i : Fin 32) (sop : Fin 3) (k : PdKind) (w : List Word) (d : Dev) : ((pdSend p sop k w d).pd[i.val]).target = (d.pd[i.val]).target :=
  ((PortPd.unsent_target _).symm.trans (congrArg PortPd.target (pdSend_unsent ..))).trans (PortPd.unsent_target _)
@[simp] theorem pdSend_sopSecond (p i : Fin 32) (sop : Fin 3) (k : PdKind) (w : List Word) (d : Dev) : ((pdSend p sop k w d).pd[i.val]).sopSecond = (d.pd[i.val]).sopSecond :=
  ((PortPd.unsent_sopSecond _).symm.trans (congrArg PortPd.sopSecond (pdSend_unsent ..))).trans (PortPd.unsent_sopSecond _)
@[simp] theorem takeMsg_limit (p i : Fin 32) (k : PdKind) (d : Dev) : ((takeMsg p k d).pd[i.val]).limit = (d.pd[i.val]).limit :=
  ((PortPd.unheard_limit _).symm.trans (congrArg PortPd.limit (takeMsg_unheard ..))).trans (PortPd.unheard_limit _)
@[simp] theorem takeMsg_irqen (p i : Fin 32) (k : PdKind) (d : Dev) : ((takeMsg p k d).pd[i.val]).irqen = (d.pd[i.val]).irqen :=
  ((PortPd.unheard_irqen _).symm.trans (congrArg PortPd.irqen (takeMsg_unheard ..))).trans (PortPd.unheard_irqen _)
@[simp] theorem takeMsg_fault (p i : Fin 32) (k : PdKind) (d : Dev) : ((takeMsg p k d).pd[i.val]).fault = (d.pd[i.val]).fault :=
  ((PortPd.unheard_fault _).symm.trans (congrArg PortPd.fault (takeMsg_unheard ..))).trans (PortPd.unheard_fault _)
@[simp] theorem takeMsg_hrTx (p i : Fin 32) (k : PdKind) (d : Dev) : ((takeMsg p k d).pd[i.val]).hrTx = (d.pd[i.val]).hrTx :=
  ((PortPd.unheard_hrTx _).symm.trans (congrArg PortPd.hrTx (takeMsg_unheard ..))).trans (PortPd.unheard_hrTx _)
@[simp] theorem takeMsg_hrRx (p i : Fin 32) (k : PdKind) (d : Dev) : ((takeMsg p k d).pd[i.val]).hrRx = (d.pd[i.val]).hrRx :=
  ((PortPd.unheard_hrRx _).symm.trans (congrArg PortPd.hrRx (takeMsg_unheard ..))).trans (PortPd.unheard_hrRx _)
@[simp] theorem takeMsg_softs (p i : Fin 32) (k : PdKind) (d : Dev) : ((takeMsg p k d).pd[i.val]).softs = (d.pd[i.val]).softs :=
  ((PortPd.unheard_softs _).symm.trans (congrArg PortPd.softs (takeMsg_unheard ..))).trans (PortPd.unheard_softs _)
@[simp] theorem takeMsg_retries (p i : Fin 32) (k : PdKind) (d : Dev) : ((takeMsg p k d).pd[i.val]).retries = (d.pd[i.val]).retries :=
  ((PortPd.unheard_retries _).symm.trans (congrArg PortPd.retries (takeMsg_unheard ..))).trans (PortPd.unheard_retries _)
@[simp] theorem takeMsg_pdos (p i : Fin 32) (k : PdKind) (d : Dev) : ((takeMsg p k d).pd[i.val]).pdos = (d.pd[i.val]).pdos :=
  ((PortPd.unheard_pdos _).symm.trans (congrArg PortPd.pdos (takeMsg_unheard ..))).trans (PortPd.unheard_pdos _)
@[simp] theorem takeMsg_sinkPdp (p i : Fin 32) (k : PdKind) (d : Dev) : ((takeMsg p k d).pd[i.val]).sinkPdp = (d.pd[i.val]).sinkPdp :=
  ((PortPd.unheard_sinkPdp _).symm.trans (congrArg PortPd.sinkPdp (takeMsg_unheard ..))).trans (PortPd.unheard_sinkPdp _)
@[simp] theorem takeMsg_sprRating (p i : Fin 32) (k : PdKind) (d : Dev) : ((takeMsg p k d).pd[i.val]).sprRating = (d.pd[i.val]).sprRating :=
  ((PortPd.unheard_sprRating _).symm.trans (congrArg PortPd.sprRating (takeMsg_unheard ..))).trans (PortPd.unheard_sprRating _)
@[simp] theorem takeMsg_eprRating (p i : Fin 32) (k : PdKind) (d : Dev) : ((takeMsg p k d).pd[i.val]).eprRating = (d.pd[i.val]).eprRating :=
  ((PortPd.unheard_eprRating _).symm.trans (congrArg PortPd.eprRating (takeMsg_unheard ..))).trans (PortPd.unheard_eprRating _)
@[simp] theorem takeMsg_reach (p i : Fin 32) (k : PdKind) (d : Dev) : ((takeMsg p k d).pd[i.val]).reach = (d.pd[i.val]).reach :=
  ((PortPd.unheard_reach _).symm.trans (congrArg PortPd.reach (takeMsg_unheard ..))).trans (PortPd.unheard_reach _)
@[simp] theorem takeMsg_base (p i : Fin 32) (k : PdKind) (d : Dev) : ((takeMsg p k d).pd[i.val]).base = (d.pd[i.val]).base :=
  ((PortPd.unheard_base _).symm.trans (congrArg PortPd.base (takeMsg_unheard ..))).trans (PortPd.unheard_base _)
@[simp] theorem takeMsg_rxId (p i : Fin 32) (k : PdKind) (d : Dev) : ((takeMsg p k d).pd[i.val]).rxId = (d.pd[i.val]).rxId :=
  ((PortPd.unheard_rxId _).symm.trans (congrArg PortPd.rxId (takeMsg_unheard ..))).trans (PortPd.unheard_rxId _)
@[simp] theorem takeMsg_txId (p i : Fin 32) (k : PdKind) (d : Dev) : ((takeMsg p k d).pd[i.val]).txId = (d.pd[i.val]).txId :=
  ((PortPd.unheard_txId _).symm.trans (congrArg PortPd.txId (takeMsg_unheard ..))).trans (PortPd.unheard_txId _)
@[simp] theorem takeMsg_txId1 (p i : Fin 32) (k : PdKind) (d : Dev) : ((takeMsg p k d).pd[i.val]).txId1 = (d.pd[i.val]).txId1 :=
  ((PortPd.unheard_txId1 _).symm.trans (congrArg PortPd.txId1 (takeMsg_unheard ..))).trans (PortPd.unheard_txId1 _)
@[simp] theorem takeMsg_sinkTxNg (p i : Fin 32) (k : PdKind) (d : Dev) : ((takeMsg p k d).pd[i.val]).sinkTxNg = (d.pd[i.val]).sinkTxNg :=
  ((PortPd.unheard_sinkTxNg _).symm.trans (congrArg PortPd.sinkTxNg (takeMsg_unheard ..))).trans (PortPd.unheard_sinkTxNg _)
@[simp] theorem takeMsg_newVolt (p i : Fin 32) (k : PdKind) (d : Dev) : ((takeMsg p k d).pd[i.val]).newVolt = (d.pd[i.val]).newVolt :=
  ((PortPd.unheard_newVolt _).symm.trans (congrArg PortPd.newVolt (takeMsg_unheard ..))).trans (PortPd.unheard_newVolt _)
@[simp] theorem takeMsg_newCurr (p i : Fin 32) (k : PdKind) (d : Dev) : ((takeMsg p k d).pd[i.val]).newCurr = (d.pd[i.val]).newCurr :=
  ((PortPd.unheard_newCurr _).symm.trans (congrArg PortPd.newCurr (takeMsg_unheard ..))).trans (PortPd.unheard_newCurr _)
@[simp] theorem takeMsg_newRdo (p i : Fin 32) (k : PdKind) (d : Dev) : ((takeMsg p k d).pd[i.val]).newRdo = (d.pd[i.val]).newRdo :=
  ((PortPd.unheard_newRdo _).symm.trans (congrArg PortPd.newRdo (takeMsg_unheard ..))).trans (PortPd.unheard_newRdo _)
@[simp] theorem takeMsg_newKind (p i : Fin 32) (k : PdKind) (d : Dev) : ((takeMsg p k d).pd[i.val]).newKind = (d.pd[i.val]).newKind :=
  ((PortPd.unheard_newKind _).symm.trans (congrArg PortPd.newKind (takeMsg_unheard ..))).trans (PortPd.unheard_newKind _)
@[simp] theorem takeMsg_newPos (p i : Fin 32) (k : PdKind) (d : Dev) : ((takeMsg p k d).pd[i.val]).newPos = (d.pd[i.val]).newPos :=
  ((PortPd.unheard_newPos _).symm.trans (congrArg PortPd.newPos (takeMsg_unheard ..))).trans (PortPd.unheard_newPos _)
@[simp] theorem takeMsg_hardResets (p i : Fin 32) (k : PdKind) (d : Dev) : ((takeMsg p k d).pd[i.val]).hardResets = (d.pd[i.val]).hardResets :=
  ((PortPd.unheard_hardResets _).symm.trans (congrArg PortPd.hardResets (takeMsg_unheard ..))).trans (PortPd.unheard_hardResets _)
@[simp] theorem takeMsg_discoverTries (p i : Fin 32) (k : PdKind) (d : Dev) : ((takeMsg p k d).pd[i.val]).discoverTries = (d.pd[i.val]).discoverTries :=
  ((PortPd.unheard_discoverTries _).symm.trans (congrArg PortPd.discoverTries (takeMsg_unheard ..))).trans (PortPd.unheard_discoverTries _)
@[simp] theorem takeMsg_bistData (p i : Fin 32) (k : PdKind) (d : Dev) : ((takeMsg p k d).pd[i.val]).bistData = (d.pd[i.val]).bistData :=
  ((PortPd.unheard_bistData _).symm.trans (congrArg PortPd.bistData (takeMsg_unheard ..))).trans (PortPd.unheard_bistData _)
@[simp] theorem takeMsg_lastRdoEpr (p i : Fin 32) (k : PdKind) (d : Dev) : ((takeMsg p k d).pd[i.val]).lastRdoEpr = (d.pd[i.val]).lastRdoEpr :=
  ((PortPd.unheard_lastRdoEpr _).symm.trans (congrArg PortPd.lastRdoEpr (takeMsg_unheard ..))).trans (PortPd.unheard_lastRdoEpr _)
@[simp] theorem takeMsg_lastCapsTb (p i : Fin 32) (k : PdKind) (d : Dev) : ((takeMsg p k d).pd[i.val]).lastCapsTb = (d.pd[i.val]).lastCapsTb :=
  ((PortPd.unheard_lastCapsTb _).symm.trans (congrArg PortPd.lastCapsTb (takeMsg_unheard ..))).trans (PortPd.unheard_lastCapsTb _)
@[simp] theorem takeMsg_breachTb (p i : Fin 32) (k : PdKind) (d : Dev) : ((takeMsg p k d).pd[i.val]).breachTb = (d.pd[i.val]).breachTb :=
  ((PortPd.unheard_breachTb _).symm.trans (congrArg PortPd.breachTb (takeMsg_unheard ..))).trans (PortPd.unheard_breachTb _)
@[simp] theorem takeMsg_guardTripTb (p i : Fin 32) (k : PdKind) (d : Dev) : ((takeMsg p k d).pd[i.val]).guardTripTb = (d.pd[i.val]).guardTripTb :=
  ((PortPd.unheard_guardTripTb _).symm.trans (congrArg PortPd.guardTripTb (takeMsg_unheard ..))).trans (PortPd.unheard_guardTripTb _)
@[simp] theorem takeMsg_disabling (p i : Fin 32) (k : PdKind) (d : Dev) : ((takeMsg p k d).pd[i.val]).disabling = (d.pd[i.val]).disabling :=
  ((PortPd.unheard_disabling _).symm.trans (congrArg PortPd.disabling (takeMsg_unheard ..))).trans (PortPd.unheard_disabling _)
@[simp] theorem takeMsg_hrDischarge (p i : Fin 32) (k : PdKind) (d : Dev) : ((takeMsg p k d).pd[i.val]).hrDischarge = (d.pd[i.val]).hrDischarge :=
  ((PortPd.unheard_hrDischarge _).symm.trans (congrArg PortPd.hrDischarge (takeMsg_unheard ..))).trans (PortPd.unheard_hrDischarge _)
@[simp] theorem takeMsg_hiccupRestart (p i : Fin 32) (k : PdKind) (d : Dev) : ((takeMsg p k d).pd[i.val]).hiccupRestart = (d.pd[i.val]).hiccupRestart :=
  ((PortPd.unheard_hiccupRestart _).symm.trans (congrArg PortPd.hiccupRestart (takeMsg_unheard ..))).trans (PortPd.unheard_hiccupRestart _)
@[simp] theorem takeMsg_chunks (p i : Fin 32) (k : PdKind) (d : Dev) : ((takeMsg p k d).pd[i.val]).chunks = (d.pd[i.val]).chunks :=
  ((PortPd.unheard_chunks _).symm.trans (congrArg PortPd.chunks (takeMsg_unheard ..))).trans (PortPd.unheard_chunks _)
@[simp] theorem takeMsg_attachCensus (p i : Fin 32) (k : PdKind) (d : Dev) : ((takeMsg p k d).pd[i.val]).attachCensus = (d.pd[i.val]).attachCensus :=
  ((PortPd.unheard_attachCensus _).symm.trans (congrArg PortPd.attachCensus (takeMsg_unheard ..))).trans (PortPd.unheard_attachCensus _)
@[simp] theorem takeMsg_leaving (p i : Fin 32) (k : PdKind) (d : Dev) : ((takeMsg p k d).pd[i.val]).leaving = (d.pd[i.val]).leaving :=
  ((PortPd.unheard_leaving _).symm.trans (congrArg PortPd.leaving (takeMsg_unheard ..))).trans (PortPd.unheard_leaving _)
@[simp] theorem takeMsg_ssDue (p i : Fin 32) (k : PdKind) (d : Dev) : ((takeMsg p k d).pd[i.val]).ssDue = (d.pd[i.val]).ssDue :=
  ((PortPd.unheard_ssDue _).symm.trans (congrArg PortPd.ssDue (takeMsg_unheard ..))).trans (PortPd.unheard_ssDue _)
@[simp] theorem takeMsg_capsDue (p i : Fin 32) (k : PdKind) (d : Dev) : ((takeMsg p k d).pd[i.val]).capsDue = (d.pd[i.val]).capsDue :=
  ((PortPd.unheard_capsDue _).symm.trans (congrArg PortPd.capsDue (takeMsg_unheard ..))).trans (PortPd.unheard_capsDue _)
@[simp] theorem takeMsg_deb (p i : Fin 32) (k : PdKind) (d : Dev) : ((takeMsg p k d).pd[i.val]).deb = (d.pd[i.val]).deb :=
  ((PortPd.unheard_deb _).symm.trans (congrArg PortPd.deb (takeMsg_unheard ..))).trans (PortPd.unheard_deb _)
@[simp] theorem takeMsg_inWindow (p i : Fin 32) (k : PdKind) (d : Dev) : ((takeMsg p k d).pd[i.val]).inWindow = (d.pd[i.val]).inWindow :=
  ((PortPd.unheard_inWindow _).symm.trans (congrArg PortPd.inWindow (takeMsg_unheard ..))).trans (PortPd.unheard_inWindow _)
@[simp] theorem takeMsg_sentPdos (p i : Fin 32) (k : PdKind) (d : Dev) : ((takeMsg p k d).pd[i.val]).sentPdos = (d.pd[i.val]).sentPdos :=
  ((PortPd.unheard_sentPdos _).symm.trans (congrArg PortPd.sentPdos (takeMsg_unheard ..))).trans (PortPd.unheard_sentPdos _)
@[simp] theorem takeMsg_sentSink (p i : Fin 32) (k : PdKind) (d : Dev) : ((takeMsg p k d).pd[i.val]).sentSink = (d.pd[i.val]).sentSink :=
  ((PortPd.unheard_sentSink _).symm.trans (congrArg PortPd.sentSink (takeMsg_unheard ..))).trans (PortPd.unheard_sentSink _)
@[simp] theorem takeMsg_sentSpr (p i : Fin 32) (k : PdKind) (d : Dev) : ((takeMsg p k d).pd[i.val]).sentSpr = (d.pd[i.val]).sentSpr :=
  ((PortPd.unheard_sentSpr _).symm.trans (congrArg PortPd.sentSpr (takeMsg_unheard ..))).trans (PortPd.unheard_sentSpr _)
@[simp] theorem takeMsg_sentEpr (p i : Fin 32) (k : PdKind) (d : Dev) : ((takeMsg p k d).pd[i.val]).sentEpr = (d.pd[i.val]).sentEpr :=
  ((PortPd.unheard_sentEpr _).symm.trans (congrArg PortPd.sentEpr (takeMsg_unheard ..))).trans (PortPd.unheard_sentEpr _)
@[simp] theorem takeMsg_sentLims (p i : Fin 32) (k : PdKind) (d : Dev) : ((takeMsg p k d).pd[i.val]).sentLims = (d.pd[i.val]).sentLims :=
  ((PortPd.unheard_sentLims _).symm.trans (congrArg PortPd.sentLims (takeMsg_unheard ..))).trans (PortPd.unheard_sentLims _)
@[simp] theorem takeMsg_target (p i : Fin 32) (k : PdKind) (d : Dev) : ((takeMsg p k d).pd[i.val]).target = (d.pd[i.val]).target :=
  ((PortPd.unheard_target _).symm.trans (congrArg PortPd.target (takeMsg_unheard ..))).trans (PortPd.unheard_target _)
@[simp] theorem takeMsg_sopSecond (p i : Fin 32) (k : PdKind) (d : Dev) : ((takeMsg p k d).pd[i.val]).sopSecond = (d.pd[i.val]).sopSecond :=
  ((PortPd.unheard_sopSecond _).symm.trans (congrArg PortPd.sopSecond (takeMsg_unheard ..))).trans (PortPd.unheard_sopSecond _)

@[simp] theorem setBit_get (w : Word) (i : Nat) (h : i < 32) : (setBit w i)[i] = true := by
  unfold setBit
  rw [BitVec.getElem_or, ← BitVec.getLsbD_eq_getElem (x := BitVec.ofNat 32 (2 ^ i)), BitVec.getLsbD_ofNat, Nat.testBit_two_pow_self]
  simp [h]

theorem setBit_keeps {w : Word} {i j : Nat} (hj : j < 32) (h : w[j] = true) : (setBit w i)[j] = true := by
  simp [setBit, h]

@[simp] theorem portEvent_pd (p : Fin 32) (i : Nat) (d : Dev) : (portEvent p i d).pd = upd d.pd p (fun x => { x with event := setBit x.event i }) := (rfl)

@[simp] theorem answerHeader_takeMsg (p : Fin 32) (k : PdKind) (c : Nat) (tag : Fin 128) (d : Dev) : answerHeader (takeMsg p k d) c tag = answerHeader d c tag := by
  simp [answerHeader]

@[simp] theorem isShadow_takeMsg (p : Fin 32) (k1 : PdKind) (d : Dev) : isShadow (takeMsg p k1 d) = isShadow d := by
  unfold isShadow; simp
@[simp] theorem isShadow_pdSend (p : Fin 32) (sop : Fin 3) (k1 : PdKind) (w : List Word) (d : Dev) : isShadow (pdSend p sop k1 w d) = isShadow d := by
  unfold isShadow; simp
@[simp] theorem portCfg_takeMsg (v : Fin 32) (p : Fin 32) (k1 : PdKind) (d : Dev) : portCfg (takeMsg p k1 d) v = portCfg d v := by
  unfold portCfg; simp
@[simp] theorem portCfg_pdSend (v : Fin 32) (p : Fin 32) (sop : Fin 3) (k1 : PdKind) (w : List Word) (d : Dev) : portCfg (pdSend p sop k1 w d) v = portCfg d v := by
  unfold portCfg; simp
@[simp] theorem rolesOf_takeMsg (v : Fin 32) (p : Fin 32) (k1 : PdKind) (d : Dev) : rolesOf (takeMsg p k1 d) v = rolesOf d v := by
  unfold rolesOf; simp
@[simp] theorem rolesOf_pdSend (v : Fin 32) (p : Fin 32) (sop : Fin 3) (k1 : PdKind) (w : List Word) (d : Dev) : rolesOf (pdSend p sop k1 w d) v = rolesOf d v := by
  unfold rolesOf; simp
@[simp] theorem hasPort_takeMsg (v : Fin 32) (p : Fin 32) (k1 : PdKind) (d : Dev) : hasPort (takeMsg p k1 d) v = hasPort d v := by
  unfold hasPort; simp
@[simp] theorem hasPort_pdSend (v : Fin 32) (p : Fin 32) (sop : Fin 3) (k1 : PdKind) (w : List Word) (d : Dev) : hasPort (pdSend p sop k1 w d) v = hasPort d v := by
  unfold hasPort; simp
@[simp] theorem isDrp_takeMsg (v : Fin 32) (p : Fin 32) (k1 : PdKind) (d : Dev) : isDrp (takeMsg p k1 d) v = isDrp d v := by
  unfold isDrp; simp
@[simp] theorem isDrp_pdSend (v : Fin 32) (p : Fin 32) (sop : Fin 3) (k1 : PdKind) (w : List Word) (d : Dev) : isDrp (pdSend p sop k1 w d) v = isDrp d v := by
  unfold isDrp; simp
@[simp] theorem canSource_takeMsg (v : Fin 32) (p : Fin 32) (k1 : PdKind) (d : Dev) : canSource (takeMsg p k1 d) v = canSource d v := by
  unfold canSource; simp
@[simp] theorem canSource_pdSend (v : Fin 32) (p : Fin 32) (sop : Fin 3) (k1 : PdKind) (w : List Word) (d : Dev) : canSource (pdSend p sop k1 w d) v = canSource d v := by
  unfold canSource; simp
@[simp] theorem canSink_takeMsg (v : Fin 32) (p : Fin 32) (k1 : PdKind) (d : Dev) : canSink (takeMsg p k1 d) v = canSink d v := by
  unfold canSink; simp
@[simp] theorem canSink_pdSend (v : Fin 32) (p : Fin 32) (sop : Fin 3) (k1 : PdKind) (w : List Word) (d : Dev) : canSink (pdSend p sop k1 w d) v = canSink d v := by
  unfold canSink; simp
@[simp] theorem explicit_takeMsg (v : Fin 32) (p : Fin 32) (k1 : PdKind) (d : Dev) : explicit (takeMsg p k1 d) v = explicit d v := by
  unfold explicit; simp
@[simp] theorem explicit_pdSend (v : Fin 32) (p : Fin 32) (sop : Fin 3) (k1 : PdKind) (w : List Word) (d : Dev) : explicit (pdSend p sop k1 w d) v = explicit d v := by
  unfold explicit; simp
@[simp] theorem pflag_takeMsg (v : Fin 32) (k : Nat) (p : Fin 32) (k1 : PdKind) (d : Dev) : pflag (takeMsg p k1 d) v k = pflag d v k := by
  unfold pflag; simp
@[simp] theorem pflag_pdSend (v : Fin 32) (k : Nat) (p : Fin 32) (sop : Fin 3) (k1 : PdKind) (w : List Word) (d : Dev) : pflag (pdSend p sop k1 w d) v k = pflag d v k := by
  unfold pflag; simp
@[simp] theorem pdLive_takeMsg (v : Fin 32) (p : Fin 32) (k1 : PdKind) (d : Dev) : pdLive (takeMsg p k1 d) v = pdLive d v := by
  unfold pdLive; simp
@[simp] theorem pdLive_pdSend (v : Fin 32) (p : Fin 32) (sop : Fin 3) (k1 : PdKind) (w : List Word) (d : Dev) : pdLive (pdSend p sop k1 w d) v = pdLive d v := by
  unfold pdLive; simp
@[simp] theorem pdSource_takeMsg (v : Fin 32) (p : Fin 32) (k1 : PdKind) (d : Dev) : pdSource (takeMsg p k1 d) v = pdSource d v := by
  unfold pdSource; simp
@[simp] theorem pdSource_pdSend (v : Fin 32) (p : Fin 32) (sop : Fin 3) (k1 : PdKind) (w : List Word) (d : Dev) : pdSource (pdSend p sop k1 w d) v = pdSource d v := by
  unfold pdSource; simp
@[simp] theorem pdSink_takeMsg (v : Fin 32) (p : Fin 32) (k1 : PdKind) (d : Dev) : pdSink (takeMsg p k1 d) v = pdSink d v := by
  unfold pdSink; simp
@[simp] theorem pdSink_pdSend (v : Fin 32) (p : Fin 32) (sop : Fin 3) (k1 : PdKind) (w : List Word) (d : Dev) : pdSink (pdSend p sop k1 w d) v = pdSink d v := by
  unfold pdSink; simp
@[simp] theorem vbusLow_takeMsg (v : Fin 32) (p : Fin 32) (k1 : PdKind) (d : Dev) : vbusLow (takeMsg p k1 d) v = vbusLow d v := by
  unfold vbusLow; simp
@[simp] theorem vbusLow_pdSend (v : Fin 32) (p : Fin 32) (sop : Fin 3) (k1 : PdKind) (w : List Word) (d : Dev) : vbusLow (pdSend p sop k1 w d) v = vbusLow d v := by
  unfold vbusLow; simp

/-- Leaving EPR mode changes the port engine only at EPR_EXIT (04 R186). -/
@[simp] theorem leaveEpr_pd (p : Fin 32) (d : Dev) :
    (leaveEpr p d).pd = upd d.pd p (fun x => { x with event := if (d.ports[p.val]).eprMode then setBit x.event 10 else x.event }) := by
  unfold leaveEpr onlyIf
  cases h : (d.ports[p.val]).eprMode
  · simp only [Fin.getElem_fin, onPort_pd, h, upd, if_false, Bool.false_eq_true]
    exact (Vector.set_getElem_self _).symm
  · simp [h, upd]

/-- A Hard Reset of a source (04 R174): the exchange and the contract end, VCONN opens, the off-ramp is due after tPSHardReset. -/
theorem hardReset_source {p : Fin 32} {d : Dev} (h : (d.ports[p.val]).tc = .attachedSrc) (hl : lostPort d p = false) :
    ((hardReset p d).ports[p.val]).kind = .none ∧ ((hardReset p d).ports[p.val]).eprMode = false ∧ ((hardReset p d).ports[p.val]).vconnOn = false ∧
    ((hardReset p d).ports[p.val]).fence = (d.ports[p.val]).fence ∧ ((hardReset p d).pd[p.val]).txQueue = [] ∧ ((hardReset p d).pd[p.val]).rxQueue = [] ∧
    ((hardReset p d).pd[p.val]).ams = .none ∧ ((hardReset p d).pd[p.val]).hrDischarge = true ∧
    ((hardReset p d).pd[p.val]).hrRx = (d.pd[p.val]).hrRx ∧ ((hardReset p d).pd[p.val]).hrTx = (d.pd[p.val]).hrTx ∧
    ((hardReset p d).pd[p.val]).hardResets = (d.pd[p.val]).hardResets ∧ (d.tmr.tb + ticksOfMs 30, .tpshardresetExpiry p) ∈ (hardReset p d).timers := by
  have e : isSrcAttached (d.ports[p.val]).tc = true := by simp [h, isSrcAttached]
  unfold hardReset
  simp [e, presentRp, pdAbandon, vconnEnd_port hl]

/-! A discovery that ends leaves the cable's limits. -/

@[simp] theorem discoverEnd_still (i p : Fin 32) (d : Dev) : ((discoverEnd p d).ports[i.val]).still = (d.ports[i.val]).still := by
  unfold discoverEnd
  split <;> simp
@[simp] theorem discoverEnd_cableDone (i p : Fin 32) (d : Dev) : ((discoverEnd p d).ports[i.val]).cableDone = (d.ports[i.val]).cableDone :=
  ((Port.still_cableDone _).symm.trans (congrArg Port.cableDone (discoverEnd_still ..))).trans (Port.still_cableDone _)
@[simp] theorem discoverEnd_cableV (i p : Fin 32) (d : Dev) : ((discoverEnd p d).ports[i.val]).cableV = (d.ports[i.val]).cableV :=
  ((Port.still_cableV _).symm.trans (congrArg Port.cableV (discoverEnd_still ..))).trans (Port.still_cableV _)
@[simp] theorem discoverEnd_cableI (i p : Fin 32) (d : Dev) : ((discoverEnd p d).ports[i.val]).cableI = (d.ports[i.val]).cableI :=
  ((Port.still_cableI _).symm.trans (congrArg Port.cableI (discoverEnd_still ..))).trans (Port.still_cableI _)
@[simp] theorem discoverEnd_cableEpr (i p : Fin 32) (d : Dev) : ((discoverEnd p d).ports[i.val]).cableEpr = (d.ports[i.val]).cableEpr :=
  ((Port.still_cableEpr _).symm.trans (congrArg Port.cableEpr (discoverEnd_still ..))).trans (Port.still_cableEpr _)

end Sys2Proof.Machine
end

