-- ==== Sys2Proof/Laws/Raise.lean ====
section
/-! SUPPORT. What a report of a source does (11 R446), and what a raise does whose source has the action NONE (11 R435, R436): it latches, counts and reports, and carries nothing out. -/

namespace Sys2Proof.Machine

/-- The part without its FAULT register. -/
def PortPd.noFault (x : PortPd) : PortPd := { x with fault := 0 }

@[simp] theorem faultBit_pd (p : Fin 32) (n : Fin 768) (b : Bool) (d : Dev) : ((faultBit n b d).pd[p.val]).noFault = (d.pd[p.val]).noFault := by
  unfold faultBit
  split
  all_goals first
    | (simp only [onPd_pd, upd_get]; split <;> simp [PortPd.noFault])
    | simp

@[simp] theorem report_pd (p : Fin 32) (n : Fin 768) (k : Report) (sb g : Bool) (stamp master index : Nat) (d : Dev) :
    ((report n k sb g stamp master index d).pd[p.val]).noFault = (d.pd[p.val]).noFault := by
  unfold report
  dsimp only
  repeat' split
  all_goals simp

/-- The part without its FAULT register. -/
def Phase.noFault (x : Phase) : Phase := { x with fault := 0 }

@[simp] theorem faultBit_phases (i : Fin 64) (n : Fin 768) (b : Bool) (d : Dev) : ((faultBit n b d).phases[i.val]).noFault = (d.phases[i.val]).noFault := by
  unfold faultBit
  split
  all_goals first
    | (simp only [onPhase_phases, upd_get]; split <;> simp [Phase.noFault])
    | simp

@[simp] theorem report_phases (i : Fin 64) (n : Fin 768) (k : Report) (sb g : Bool) (stamp master index : Nat) (d : Dev) :
    ((report n k sb g stamp master index d).phases[i.val]).noFault = (d.phases[i.val]).noFault := by
  unfold report
  dsimp only
  repeat' split
  all_goals simp

/-- The part without its FAULT register. -/
def Feed.noFault (x : Feed) : Feed := { x with fault := 0 }

@[simp] theorem faultBit_feeds (f : Fin 4) (n : Fin 768) (b : Bool) (d : Dev) : ((faultBit n b d).feeds[f.val]).noFault = (d.feeds[f.val]).noFault := by
  unfold faultBit
  split
  all_goals first
    | (simp only [onFeed_feeds, upd_get]; split <;> simp [Feed.noFault])
    | simp

@[simp] theorem report_feeds (f : Fin 4) (n : Fin 768) (k : Report) (sb g : Bool) (stamp master index : Nat) (d : Dev) :
    ((report n k sb g stamp master index d).feeds[f.val]).noFault = (d.feeds[f.val]).noFault := by
  unfold report
  dsimp only
  repeat' split
  all_goals simp

theorem actionDue_none {again : Fin 768 → Dev → Dev} {n : Fin 768} {index : Nat} {grace : Bool} {d : Dev} (h : (d.sources[n]).action = 0) :
    actionDue again n index grace d = d := by
  unfold actionDue
  rw [if_pos h]

@[simp] theorem onSource_action (n m : Fin 768) (f : Source → Source) (d : Dev) (hf : ∀ s, (f s).action = s.action) :
    ((onSource n f d).sources[m.val]).action = (d.sources[m.val]).action := by
  simp only [onSource_sources]
  rw [upd_get]
  split
  · exact hf _
  · rfl

@[simp] theorem stopGrace_action (n m : Fin 768) (d : Dev) : ((stopGrace n d).sources[m.val]).action = (d.sources[m.val]).action := by
  unfold stopGrace
  simp only [stopTimer_sources, onColl_sources]
  exact onSource_action n m _ d fun _ => rfl

/-- A property that the latches, the collector, the timers and the reports do not touch. -/
structure RaiseClosed (P : Dev → Prop) : Prop where
  sources : ∀ d v, P d → P { d with sources := v }
  coll : ∀ d v, P d → P { d with coll := v }
  timers : ∀ d v, P d → P { d with timers := v }
  report : ∀ n k sb g stamp master index d, P d → P (report n k sb g stamp master index d)

theorem applySeverity_keeps {P : Dev → Prop} (hP : RaiseClosed P) {again : Fin 768 → Dev → Dev} {n : Fin 768} {stamp index master : Nat} {act fresh : Bool} {d : Dev}
    (h : (d.sources[n]).action = 0) (hd : P d) : P (applySeverity again n stamp index master act fresh d) := by
  unfold applySeverity
  dsimp only
  split
  · rw [if_pos (by simp at h; simp [h])]
    exact hP.report _ _ _ _ _ _ _ _ hd
  · split
    · rw [actionDue_none (by simp at h ⊢; exact h)]
      exact hP.timers _ _ (hP.coll _ _ (hP.sources _ _ hd))
    · exact hd

/-- What a raise leaves unchanged where the action of its source is NONE: every such property. -/
theorem raiseWith_keeps {P : Dev → Prop} (hP : RaiseClosed P) {again : Fin 768 → Dev → Dev} {n : Fin 768} {stamp index : Nat} {forced : Option (Fin 5)} {act : Bool} {d : Dev}
    (h : (takeLater d.sources[n]).action = 0) (hd : P d) : P (raiseWith again n stamp index forced act d) := by
  have ha : (raiseSource d n stamp index forced).1.action = 0 := h
  unfold raiseWith
  split
  · exact hd
  · dsimp only
    have h2 : ∀ x, P x → P (onlyIf (raiseSource d n stamp index forced).2 (fun x => Machine.report n .escalated false false x.tmr.tb 0xFF index (collEvent 2 x)) x) :=
      fun x hx => onlyIf_keeps (fun hx => hP.report _ _ _ _ _ _ _ _ (hP.coll _ _ hx)) hx
    have h3 : ∀ c k x, P x → P (onlyIf c (startTimerAt (.severityRelax n) k) x) := fun c k x hx => onlyIf_keeps (fun hx => hP.timers _ _ hx) hx
    have hb := h3 (decide ((raiseSource d n stamp index forced).1.sev < (raiseSource d n stamp index forced).1.eff)) (stamp + ticksOfS 60) _
      (h2 _ (hP.coll _ { d.coll with lastSrc := n.val, lastSev := (raiseSource d n stamp index forced).1.eff, lastTb := stamp }
        (hP.sources d (d.sources.set n (raiseSource d n stamp index forced).1) hd)))
    repeat' split
    · exact applySeverity_keeps hP (by simp [ha]) (hP.coll _ _ hb)
    · exact applySeverity_keeps hP (by simp [ha]) (hP.report _ _ _ _ _ _ _ _ (hP.sources _ _ hb))
    · exact applySeverity_keeps hP (by simp [ha]) (hP.coll _ _ hb)

/-- What a raise leaves unchanged where the action of its source is NONE, part by part. -/
theorem raiseWith_quiet {again : Fin 768 → Dev → Dev} {n : Fin 768} {stamp index : Nat} {forced : Option (Fin 5)} {act : Bool} {d : Dev}
    (h : (takeLater d.sources[n]).action = 0) : (raiseWith again n stamp index forced act d).cfg = d.cfg ∧ (raiseWith again n stamp index forced act d).cfgNew = d.cfgNew ∧ (raiseWith again n stamp index forced act d).ports = d.ports ∧ (raiseWith again n stamp index forced act d).guards = d.guards ∧ (raiseWith again n stamp index forced act d).loops = d.loops ∧ (raiseWith again n stamp index forced act d).chans = d.chans ∧ (raiseWith again n stamp index forced act d).groups = d.groups ∧ (raiseWith again n stamp index forced act d).convs = d.convs ∧ (raiseWith again n stamp index forced act d).posts = d.posts ∧ (raiseWith again n stamp index forced act d).ledger = d.ledger ∧ (raiseWith again n stamp index forced act d).twin = d.twin ∧ (raiseWith again n stamp index forced act d).tmr = d.tmr ∧ (raiseWith again n stamp index forced act d).alarms = d.alarms ∧ (raiseWith again n stamp index forced act d).itms = d.itms ∧ (raiseWith again n stamp index forced act d).net = d.net ∧ (raiseWith again n stamp index forced act d).upd = d.upd ∧ (raiseWith again n stamp index forced act d).store = d.store ∧ (raiseWith again n stamp index forced act d).sys = d.sys ∧ (raiseWith again n stamp index forced act d).loss = d.loss ∧ (raiseWith again n stamp index forced act d).tap = d.tap ∧ (raiseWith again n stamp index forced act d).parcel = d.parcel ∧ (raiseWith again n stamp index forced act d).freeCtr = d.freeCtr ∧ (raiseWith again n stamp index forced act d).host.event = d.host.event ∧ (raiseWith again n stamp index forced act d).host.irqen = d.host.irqen ∧ (raiseWith again n stamp index forced act d).host.owner = d.host.owner ∧ (raiseWith again n stamp index forced act d).host.successor = d.host.successor ∧ (raiseWith again n stamp index forced act d).host.window = d.host.window ∧ (raiseWith again n stamp index forced act d).host.changes = d.host.changes ∧ (raiseWith again n stamp index forced act d).host.leaseEnd = d.host.leaseEnd ∧ (raiseWith again n stamp index forced act d).host.hostLoaded = d.host.hostLoaded ∧ (raiseWith again n stamp index forced act d).host.irqA = d.host.irqA ∧ (raiseWith again n stamp index forced act d).host.irqB = d.host.irqB ∧ (raiseWith again n stamp index forced act d).host.spiDummy = d.host.spiDummy ∧ (raiseWith again n stamp index forced act d).host.spiCount = d.host.spiCount ∧ (raiseWith again n stamp index forced act d).host.spiCrc = d.host.spiCrc ∧ (raiseWith again n stamp index forced act d).host.spiAbort = d.host.spiAbort ∧ (raiseWith again n stamp index forced act d).host.baud = d.host.baud ∧ (raiseWith again n stamp index forced act d).host.uartFrames = d.host.uartFrames ∧ (raiseWith again n stamp index forced act d).host.uartCrc = d.host.uartCrc ∧ (raiseWith again n stamp index forced act d).host.uartDrops = d.host.uartDrops ∧ (raiseWith again n stamp index forced act d).host.jobs = d.host.jobs ∧ (raiseWith again n stamp index forced act d).host.masters = d.host.masters ∧ (raiseWith again n stamp index forced act d).host.kept = d.host.kept := by
  have h_cfg := raiseWith_keeps (again := again) (stamp := stamp) (index := index) (forced := forced) (act := act) (P := fun x => x.cfg = d.cfg) ⟨fun _ _ e => e, fun _ _ e => e, fun _ _ e => e, fun _ _ _ _ _ _ _ _ e => Eq.trans (by simp) e⟩ h rfl
  have h_cfgNew := raiseWith_keeps (again := again) (stamp := stamp) (index := index) (forced := forced) (act := act) (P := fun x => x.cfgNew = d.cfgNew) ⟨fun _ _ e => e, fun _ _ e => e, fun _ _ e => e, fun _ _ _ _ _ _ _ _ e => Eq.trans (by simp) e⟩ h rfl
  have h_ports := raiseWith_keeps (again := again) (stamp := stamp) (index := index) (forced := forced) (act := act) (P := fun x => x.ports = d.ports) ⟨fun _ _ e => e, fun _ _ e => e, fun _ _ e => e, fun _ _ _ _ _ _ _ _ e => Eq.trans (by simp) e⟩ h rfl
  have h_guards := raiseWith_keeps (again := again) (stamp := stamp) (index := index) (forced := forced) (act := act) (P := fun x => x.guards = d.guards) ⟨fun _ _ e => e, fun _ _ e => e, fun _ _ e => e, fun _ _ _ _ _ _ _ _ e => Eq.trans (by simp) e⟩ h rfl
  have h_loops := raiseWith_keeps (again := again) (stamp := stamp) (index := index) (forced := forced) (act := act) (P := fun x => x.loops = d.loops) ⟨fun _ _ e => e, fun _ _ e => e, fun _ _ e => e, fun _ _ _ _ _ _ _ _ e => Eq.trans (by simp) e⟩ h rfl
  have h_chans := raiseWith_keeps (again := again) (stamp := stamp) (index := index) (forced := forced) (act := act) (P := fun x => x.chans = d.chans) ⟨fun _ _ e => e, fun _ _ e => e, fun _ _ e => e, fun _ _ _ _ _ _ _ _ e => Eq.trans (by simp) e⟩ h rfl
  have h_groups := raiseWith_keeps (again := again) (stamp := stamp) (index := index) (forced := forced) (act := act) (P := fun x => x.groups = d.groups) ⟨fun _ _ e => e, fun _ _ e => e, fun _ _ e => e, fun _ _ _ _ _ _ _ _ e => Eq.trans (by simp) e⟩ h rfl
  have h_convs := raiseWith_keeps (again := again) (stamp := stamp) (index := index) (forced := forced) (act := act) (P := fun x => x.convs = d.convs) ⟨fun _ _ e => e, fun _ _ e => e, fun _ _ e => e, fun _ _ _ _ _ _ _ _ e => Eq.trans (by simp) e⟩ h rfl
  have h_posts := raiseWith_keeps (again := again) (stamp := stamp) (index := index) (forced := forced) (act := act) (P := fun x => x.posts = d.posts) ⟨fun _ _ e => e, fun _ _ e => e, fun _ _ e => e, fun _ _ _ _ _ _ _ _ e => Eq.trans (by simp) e⟩ h rfl
  have h_ledger := raiseWith_keeps (again := again) (stamp := stamp) (index := index) (forced := forced) (act := act) (P := fun x => x.ledger = d.ledger) ⟨fun _ _ e => e, fun _ _ e => e, fun _ _ e => e, fun _ _ _ _ _ _ _ _ e => Eq.trans (by simp) e⟩ h rfl
  have h_twin := raiseWith_keeps (again := again) (stamp := stamp) (index := index) (forced := forced) (act := act) (P := fun x => x.twin = d.twin) ⟨fun _ _ e => e, fun _ _ e => e, fun _ _ e => e, fun _ _ _ _ _ _ _ _ e => Eq.trans (by simp) e⟩ h rfl
  have h_tmr := raiseWith_keeps (again := again) (stamp := stamp) (index := index) (forced := forced) (act := act) (P := fun x => x.tmr = d.tmr) ⟨fun _ _ e => e, fun _ _ e => e, fun _ _ e => e, fun _ _ _ _ _ _ _ _ e => Eq.trans (by simp) e⟩ h rfl
  have h_alarms := raiseWith_keeps (again := again) (stamp := stamp) (index := index) (forced := forced) (act := act) (P := fun x => x.alarms = d.alarms) ⟨fun _ _ e => e, fun _ _ e => e, fun _ _ e => e, fun _ _ _ _ _ _ _ _ e => Eq.trans (by simp) e⟩ h rfl
  have h_itms := raiseWith_keeps (again := again) (stamp := stamp) (index := index) (forced := forced) (act := act) (P := fun x => x.itms = d.itms) ⟨fun _ _ e => e, fun _ _ e => e, fun _ _ e => e, fun _ _ _ _ _ _ _ _ e => Eq.trans (by simp) e⟩ h rfl
  have h_net := raiseWith_keeps (again := again) (stamp := stamp) (index := index) (forced := forced) (act := act) (P := fun x => x.net = d.net) ⟨fun _ _ e => e, fun _ _ e => e, fun _ _ e => e, fun _ _ _ _ _ _ _ _ e => Eq.trans (by simp) e⟩ h rfl
  have h_upd := raiseWith_keeps (again := again) (stamp := stamp) (index := index) (forced := forced) (act := act) (P := fun x => x.upd = d.upd) ⟨fun _ _ e => e, fun _ _ e => e, fun _ _ e => e, fun _ _ _ _ _ _ _ _ e => Eq.trans (by simp) e⟩ h rfl
  have h_store := raiseWith_keeps (again := again) (stamp := stamp) (index := index) (forced := forced) (act := act) (P := fun x => x.store = d.store) ⟨fun _ _ e => e, fun _ _ e => e, fun _ _ e => e, fun _ _ _ _ _ _ _ _ e => Eq.trans (by simp) e⟩ h rfl
  have h_sys := raiseWith_keeps (again := again) (stamp := stamp) (index := index) (forced := forced) (act := act) (P := fun x => x.sys = d.sys) ⟨fun _ _ e => e, fun _ _ e => e, fun _ _ e => e, fun _ _ _ _ _ _ _ _ e => Eq.trans (by simp) e⟩ h rfl
  have h_loss := raiseWith_keeps (again := again) (stamp := stamp) (index := index) (forced := forced) (act := act) (P := fun x => x.loss = d.loss) ⟨fun _ _ e => e, fun _ _ e => e, fun _ _ e => e, fun _ _ _ _ _ _ _ _ e => Eq.trans (by simp) e⟩ h rfl
  have h_tap := raiseWith_keeps (again := again) (stamp := stamp) (index := index) (forced := forced) (act := act) (P := fun x => x.tap = d.tap) ⟨fun _ _ e => e, fun _ _ e => e, fun _ _ e => e, fun _ _ _ _ _ _ _ _ e => Eq.trans (by simp) e⟩ h rfl
  have h_parcel := raiseWith_keeps (again := again) (stamp := stamp) (index := index) (forced := forced) (act := act) (P := fun x => x.parcel = d.parcel) ⟨fun _ _ e => e, fun _ _ e => e, fun _ _ e => e, fun _ _ _ _ _ _ _ _ e => Eq.trans (by simp) e⟩ h rfl
  have h_freeCtr := raiseWith_keeps (again := again) (stamp := stamp) (index := index) (forced := forced) (act := act) (P := fun x => x.freeCtr = d.freeCtr) ⟨fun _ _ e => e, fun _ _ e => e, fun _ _ e => e, fun _ _ _ _ _ _ _ _ e => Eq.trans (by simp) e⟩ h rfl
  have h_host_event := raiseWith_keeps (again := again) (stamp := stamp) (index := index) (forced := forced) (act := act) (P := fun x => x.host.event = d.host.event) ⟨fun _ _ e => e, fun _ _ e => e, fun _ _ e => e, fun _ _ _ _ _ _ _ _ e => Eq.trans (by simp) e⟩ h rfl
  have h_host_irqen := raiseWith_keeps (again := again) (stamp := stamp) (index := index) (forced := forced) (act := act) (P := fun x => x.host.irqen = d.host.irqen) ⟨fun _ _ e => e, fun _ _ e => e, fun _ _ e => e, fun _ _ _ _ _ _ _ _ e => Eq.trans (by simp) e⟩ h rfl
  have h_host_owner := raiseWith_keeps (again := again) (stamp := stamp) (index := index) (forced := forced) (act := act) (P := fun x => x.host.owner = d.host.owner) ⟨fun _ _ e => e, fun _ _ e => e, fun _ _ e => e, fun _ _ _ _ _ _ _ _ e => Eq.trans (by simp) e⟩ h rfl
  have h_host_successor := raiseWith_keeps (again := again) (stamp := stamp) (index := index) (forced := forced) (act := act) (P := fun x => x.host.successor = d.host.successor) ⟨fun _ _ e => e, fun _ _ e => e, fun _ _ e => e, fun _ _ _ _ _ _ _ _ e => Eq.trans (by simp) e⟩ h rfl
  have h_host_window := raiseWith_keeps (again := again) (stamp := stamp) (index := index) (forced := forced) (act := act) (P := fun x => x.host.window = d.host.window) ⟨fun _ _ e => e, fun _ _ e => e, fun _ _ e => e, fun _ _ _ _ _ _ _ _ e => Eq.trans (by simp) e⟩ h rfl
  have h_host_changes := raiseWith_keeps (again := again) (stamp := stamp) (index := index) (forced := forced) (act := act) (P := fun x => x.host.changes = d.host.changes) ⟨fun _ _ e => e, fun _ _ e => e, fun _ _ e => e, fun _ _ _ _ _ _ _ _ e => Eq.trans (by simp) e⟩ h rfl
  have h_host_leaseEnd := raiseWith_keeps (again := again) (stamp := stamp) (index := index) (forced := forced) (act := act) (P := fun x => x.host.leaseEnd = d.host.leaseEnd) ⟨fun _ _ e => e, fun _ _ e => e, fun _ _ e => e, fun _ _ _ _ _ _ _ _ e => Eq.trans (by simp) e⟩ h rfl
  have h_host_hostLoaded := raiseWith_keeps (again := again) (stamp := stamp) (index := index) (forced := forced) (act := act) (P := fun x => x.host.hostLoaded = d.host.hostLoaded) ⟨fun _ _ e => e, fun _ _ e => e, fun _ _ e => e, fun _ _ _ _ _ _ _ _ e => Eq.trans (by simp) e⟩ h rfl
  have h_host_irqA := raiseWith_keeps (again := again) (stamp := stamp) (index := index) (forced := forced) (act := act) (P := fun x => x.host.irqA = d.host.irqA) ⟨fun _ _ e => e, fun _ _ e => e, fun _ _ e => e, fun _ _ _ _ _ _ _ _ e => Eq.trans (by simp) e⟩ h rfl
  have h_host_irqB := raiseWith_keeps (again := again) (stamp := stamp) (index := index) (forced := forced) (act := act) (P := fun x => x.host.irqB = d.host.irqB) ⟨fun _ _ e => e, fun _ _ e => e, fun _ _ e => e, fun _ _ _ _ _ _ _ _ e => Eq.trans (by simp) e⟩ h rfl
  have h_host_spiDummy := raiseWith_keeps (again := again) (stamp := stamp) (index := index) (forced := forced) (act := act) (P := fun x => x.host.spiDummy = d.host.spiDummy) ⟨fun _ _ e => e, fun _ _ e => e, fun _ _ e => e, fun _ _ _ _ _ _ _ _ e => Eq.trans (by simp) e⟩ h rfl
  have h_host_spiCount := raiseWith_keeps (again := again) (stamp := stamp) (index := index) (forced := forced) (act := act) (P := fun x => x.host.spiCount = d.host.spiCount) ⟨fun _ _ e => e, fun _ _ e => e, fun _ _ e => e, fun _ _ _ _ _ _ _ _ e => Eq.trans (by simp) e⟩ h rfl
  have h_host_spiCrc := raiseWith_keeps (again := again) (stamp := stamp) (index := index) (forced := forced) (act := act) (P := fun x => x.host.spiCrc = d.host.spiCrc) ⟨fun _ _ e => e, fun _ _ e => e, fun _ _ e => e, fun _ _ _ _ _ _ _ _ e => Eq.trans (by simp) e⟩ h rfl
  have h_host_spiAbort := raiseWith_keeps (again := again) (stamp := stamp) (index := index) (forced := forced) (act := act) (P := fun x => x.host.spiAbort = d.host.spiAbort) ⟨fun _ _ e => e, fun _ _ e => e, fun _ _ e => e, fun _ _ _ _ _ _ _ _ e => Eq.trans (by simp) e⟩ h rfl
  have h_host_baud := raiseWith_keeps (again := again) (stamp := stamp) (index := index) (forced := forced) (act := act) (P := fun x => x.host.baud = d.host.baud) ⟨fun _ _ e => e, fun _ _ e => e, fun _ _ e => e, fun _ _ _ _ _ _ _ _ e => Eq.trans (by simp) e⟩ h rfl
  have h_host_uartFrames := raiseWith_keeps (again := again) (stamp := stamp) (index := index) (forced := forced) (act := act) (P := fun x => x.host.uartFrames = d.host.uartFrames) ⟨fun _ _ e => e, fun _ _ e => e, fun _ _ e => e, fun _ _ _ _ _ _ _ _ e => Eq.trans (by simp) e⟩ h rfl
  have h_host_uartCrc := raiseWith_keeps (again := again) (stamp := stamp) (index := index) (forced := forced) (act := act) (P := fun x => x.host.uartCrc = d.host.uartCrc) ⟨fun _ _ e => e, fun _ _ e => e, fun _ _ e => e, fun _ _ _ _ _ _ _ _ e => Eq.trans (by simp) e⟩ h rfl
  have h_host_uartDrops := raiseWith_keeps (again := again) (stamp := stamp) (index := index) (forced := forced) (act := act) (P := fun x => x.host.uartDrops = d.host.uartDrops) ⟨fun _ _ e => e, fun _ _ e => e, fun _ _ e => e, fun _ _ _ _ _ _ _ _ e => Eq.trans (by simp) e⟩ h rfl
  have h_host_jobs := raiseWith_keeps (again := again) (stamp := stamp) (index := index) (forced := forced) (act := act) (P := fun x => x.host.jobs = d.host.jobs) ⟨fun _ _ e => e, fun _ _ e => e, fun _ _ e => e, fun _ _ _ _ _ _ _ _ e => Eq.trans (by simp) e⟩ h rfl
  have h_host_masters := raiseWith_keeps (again := again) (stamp := stamp) (index := index) (forced := forced) (act := act) (P := fun x => x.host.masters = d.host.masters) ⟨fun _ _ e => e, fun _ _ e => e, fun _ _ e => e, fun _ _ _ _ _ _ _ _ e => Eq.trans (by simp) e⟩ h rfl
  have h_host_kept := raiseWith_keeps (again := again) (stamp := stamp) (index := index) (forced := forced) (act := act) (P := fun x => x.host.kept = d.host.kept) ⟨fun _ _ e => e, fun _ _ e => e, fun _ _ e => e, fun _ _ _ _ _ _ _ _ e => Eq.trans (by simp) e⟩ h rfl
  exact ⟨h_cfg, h_cfgNew, h_ports, h_guards, h_loops, h_chans, h_groups, h_convs, h_posts, h_ledger, h_twin, h_tmr, h_alarms, h_itms, h_net, h_upd, h_store, h_sys, h_loss, h_tap, h_parcel, h_freeCtr, h_host_event, h_host_irqen, h_host_owner, h_host_successor, h_host_window, h_host_changes, h_host_leaseEnd, h_host_hostLoaded, h_host_irqA, h_host_irqB, h_host_spiDummy, h_host_spiCount, h_host_spiCrc, h_host_spiAbort, h_host_baud, h_host_uartFrames, h_host_uartCrc, h_host_uartDrops, h_host_jobs, h_host_masters, h_host_kept⟩

theorem raiseWith_quiet_pd {again : Fin 768 → Dev → Dev} {n : Fin 768} {stamp index : Nat} {forced : Option (Fin 5)} {act : Bool} {d : Dev}
    (h : (takeLater d.sources[n]).action = 0) (p : Fin 32) : ((raiseWith again n stamp index forced act d).pd[p.val]).noFault = (d.pd[p.val]).noFault :=
  raiseWith_keeps (P := fun x => (x.pd[p.val]).noFault = (d.pd[p.val]).noFault) ⟨fun _ _ e => e, fun _ _ e => e, fun _ _ e => e, fun _ _ _ _ _ _ _ _ e => Eq.trans (by simp) e⟩ h rfl

theorem raiseWith_quiet_phases {again : Fin 768 → Dev → Dev} {n : Fin 768} {stamp index : Nat} {forced : Option (Fin 5)} {act : Bool} {d : Dev}
    (h : (takeLater d.sources[n]).action = 0) (i : Fin 64) : ((raiseWith again n stamp index forced act d).phases[i.val]).noFault = (d.phases[i.val]).noFault :=
  raiseWith_keeps (P := fun x => (x.phases[i.val]).noFault = (d.phases[i.val]).noFault) ⟨fun _ _ e => e, fun _ _ e => e, fun _ _ e => e, fun _ _ _ _ _ _ _ _ e => Eq.trans (by simp) e⟩ h rfl

theorem raiseWith_quiet_feeds {again : Fin 768 → Dev → Dev} {n : Fin 768} {stamp index : Nat} {forced : Option (Fin 5)} {act : Bool} {d : Dev}
    (h : (takeLater d.sources[n]).action = 0) (f : Fin 4) : ((raiseWith again n stamp index forced act d).feeds[f.val]).noFault = (d.feeds[f.val]).noFault :=
  raiseWith_keeps (P := fun x => (x.feeds[f.val]).noFault = (d.feeds[f.val]).noFault) ⟨fun _ _ e => e, fun _ _ e => e, fun _ _ e => e, fun _ _ _ _ _ _ _ _ e => Eq.trans (by simp) e⟩ h rfl

theorem applySeverity_quiet_latch {again : Fin 768 → Dev → Dev} {n : Fin 768} {stamp index master : Nat} {act fresh : Bool} {d : Dev}
    (h : (d.sources[n]).action = 0) (m : Fin 768) : ((applySeverity again n stamp index master act fresh d).sources[m.val]).latch = (d.sources[m.val]).latch := by
  unfold applySeverity stopGrace
  dsimp only
  split
  · rw [if_pos (by simp at h; simp [h])]
    simp
  · split
    · rw [actionDue_none (by simp at h ⊢; exact h)]
      simp [upd_get]
      split <;> simp_all
    · rfl

theorem applySeverity_quiet_action {again : Fin 768 → Dev → Dev} {n : Fin 768} {stamp index master : Nat} {act fresh : Bool} {d : Dev}
    (h : (d.sources[n]).action = 0) (m : Fin 768) : ((applySeverity again n stamp index master act fresh d).sources[m.val]).action = (d.sources[m.val]).action := by
  unfold applySeverity stopGrace
  dsimp only
  split
  · rw [if_pos (by simp at h; simp [h])]
    simp
  · split
    · rw [actionDue_none (by simp at h ⊢; exact h)]
      simp [upd_get]
      split <;> simp_all
    · rfl

theorem applySeverity_quiet_later {again : Fin 768 → Dev → Dev} {n : Fin 768} {stamp index master : Nat} {act fresh : Bool} {d : Dev}
    (h : (d.sources[n]).action = 0) (m : Fin 768) : ((applySeverity again n stamp index master act fresh d).sources[m.val]).later = (d.sources[m.val]).later := by
  unfold applySeverity stopGrace
  dsimp only
  split
  · rw [if_pos (by simp at h; simp [h])]
    simp
  · split
    · rw [actionDue_none (by simp at h ⊢; exact h)]
      simp [upd_get]
      split <;> simp_all
    · rfl

/-- The action of a source at its next event rests on two of its fields (02 R91). -/
theorem takeLater_action_of {s t : Source} (ha : s.action = t.action) (hl : s.later = t.later) : (takeLater s).action = (takeLater t).action := by
  unfold takeLater
  rw [hl]
  split <;> first | rfl | exact ha

/-- A raise leaves the action that every source has at its next event (11 R439, 02 R91). -/
theorem raiseWith_quiet_next {again : Fin 768 → Dev → Dev} {n : Fin 768} {stamp index : Nat} {forced : Option (Fin 5)} {act : Bool} {d : Dev}
    (h : (takeLater d.sources[n]).action = 0) (m : Fin 768) : (takeLater ((raiseWith again n stamp index forced act d).sources[m.val])).action = (takeLater d.sources[m.val]).action := by
  have ha : (raiseSource d n stamp index forced).1.action = 0 := h
  unfold raiseWith
  split
  · rfl
  · dsimp only
    by_cases hv : n.val = m.val
    · have hm : m = n := Fin.ext hv.symm
      subst hm
      have hl : (raiseSource d m stamp index forced).1.later = none := by
        show (takeLater d.sources[m]).later = none
        unfold takeLater
        split
        · rfl
        · assumption
      have h' : (takeLater d.sources[m.val]).action = 0 := h
      have key : ∀ x : Source, x.action = 0 → x.later = none → (takeLater x).action = (takeLater d.sources[m.val]).action := fun x h1 h2 => by
        rw [h']
        unfold takeLater
        rw [h2]
        exact h1
      repeat' split
      all_goals
        apply key
        · simp [applySeverity_quiet_action, ha]
        · simp [applySeverity_quiet_later, ha, hl]
    · have hm : ¬ m = n := fun e => hv (congrArg Fin.val e.symm)
      repeat' split
      all_goals
        apply takeLater_action_of
        · simp [applySeverity_quiet_action, ha, Vector.getElem_set_ne, hv, upd_get, hm]
        · simp [applySeverity_quiet_later, ha, Vector.getElem_set_ne, hv, upd_get, hm]

/-- A raise sets the latch of its source (11 R439). -/
theorem raiseWith_latch {again : Fin 768 → Dev → Dev} {n : Fin 768} {stamp index : Nat} {forced : Option (Fin 5)} {act : Bool} {d : Dev}
    (h : (takeLater d.sources[n]).action = 0) (hr : (srcRow n.val).isSome = true) : ((raiseWith again n stamp index forced act d).sources[n.val]).latch = true := by
  have ha : (raiseSource d n stamp index forced).1.action = 0 := h
  have hl : (raiseSource d n stamp index forced).1.latch = true := rfl
  unfold raiseWith
  rw [if_neg (by cases hx : srcRow n.val <;> simp_all)]
  dsimp only
  repeat' split
  all_goals simp [applySeverity_quiet_latch, ha, hl]

/-- A quiet raise leaves its source without an action (11 R439). -/
theorem raiseWith_action {again : Fin 768 → Dev → Dev} {n : Fin 768} {stamp index : Nat} {forced : Option (Fin 5)} {act : Bool} {d : Dev}
    (h : (takeLater d.sources[n]).action = 0) (hr : (srcRow n.val).isSome = true) : ((raiseWith again n stamp index forced act d).sources[n.val]).action = 0 := by
  have ha : (raiseSource d n stamp index forced).1.action = 0 := h
  unfold raiseWith
  rw [if_neg (by cases hx : srcRow n.val <;> simp_all)]
  dsimp only
  repeat' split
  all_goals simp [applySeverity_quiet_action, ha]

/-- A raise leaves the latches of other sources (11 R439). -/
theorem raiseWith_latch_other {again : Fin 768 → Dev → Dev} {n : Fin 768} {stamp index : Nat} {forced : Option (Fin 5)} {act : Bool} {d : Dev}
    (h : (takeLater d.sources[n]).action = 0) {m : Fin 768} (hm : m ≠ n) : ((raiseWith again n stamp index forced act d).sources[m.val]).latch = (d.sources[m.val]).latch := by
  have ha : (raiseSource d n stamp index forced).1.action = 0 := h
  have hv : n.val ≠ m.val := fun e => hm (Fin.ext e.symm)
  unfold raiseWith
  split
  · rfl
  · dsimp only
    repeat' split
    all_goals simp [applySeverity_quiet_latch, ha, upd_get, hm, hv]

/-- The next action of a source and the link of its die are what a quiet raise rests on. -/
theorem quiet_of {n : Fin 768} {a b : Dev} (h : Quiet a n) (hs : (takeLater (b.sources[n.val])).action = (takeLater (a.sources[n.val])).action) (hy : b.sys = a.sys) : Quiet b n :=
  ⟨hs.trans h.1, by unfold lostLink; rw [hy]; exact h.2⟩

/-- A source of the hub needs no link. -/
theorem quiet_hub {n : Fin 768} {d : Dev} (hl : srcLink n = none) (h : (takeLater d.sources[n]).action = 0) : Quiet d n :=
  ⟨h, by unfold lostLink; rw [hl]; rfl⟩

/-- With its link up a raise reaches the collector at once (01 R631). -/
theorem raiseStamped_up {n : Fin 768} {stamp : Nat} {d : Dev} (h : lostLink d n = none) : raiseStamped n stamp d = raiseWith raiseInner n stamp 0 none true d := by
  unfold raiseStamped
  rw [h]

theorem raise_quiet {n : Fin 768} {d : Dev} (h : Quiet d n) : (raise n d).cfg = d.cfg ∧ (raise n d).cfgNew = d.cfgNew ∧ (raise n d).ports = d.ports ∧ (raise n d).guards = d.guards ∧ (raise n d).loops = d.loops ∧ (raise n d).chans = d.chans ∧ (raise n d).groups = d.groups ∧ (raise n d).convs = d.convs ∧ (raise n d).posts = d.posts ∧ (raise n d).ledger = d.ledger ∧ (raise n d).twin = d.twin ∧ (raise n d).tmr = d.tmr ∧ (raise n d).alarms = d.alarms ∧ (raise n d).itms = d.itms ∧ (raise n d).net = d.net ∧ (raise n d).upd = d.upd ∧ (raise n d).store = d.store ∧ (raise n d).sys = d.sys ∧ (raise n d).loss = d.loss ∧ (raise n d).tap = d.tap ∧ (raise n d).parcel = d.parcel ∧ (raise n d).freeCtr = d.freeCtr ∧ (raise n d).host.event = d.host.event ∧ (raise n d).host.irqen = d.host.irqen ∧ (raise n d).host.owner = d.host.owner ∧ (raise n d).host.successor = d.host.successor ∧ (raise n d).host.window = d.host.window ∧ (raise n d).host.changes = d.host.changes ∧ (raise n d).host.leaseEnd = d.host.leaseEnd ∧ (raise n d).host.hostLoaded = d.host.hostLoaded ∧ (raise n d).host.irqA = d.host.irqA ∧ (raise n d).host.irqB = d.host.irqB ∧ (raise n d).host.spiDummy = d.host.spiDummy ∧ (raise n d).host.spiCount = d.host.spiCount ∧ (raise n d).host.spiCrc = d.host.spiCrc ∧ (raise n d).host.spiAbort = d.host.spiAbort ∧ (raise n d).host.baud = d.host.baud ∧ (raise n d).host.uartFrames = d.host.uartFrames ∧ (raise n d).host.uartCrc = d.host.uartCrc ∧ (raise n d).host.uartDrops = d.host.uartDrops ∧ (raise n d).host.jobs = d.host.jobs ∧ (raise n d).host.masters = d.host.masters ∧ (raise n d).host.kept = d.host.kept := by unfold raise; rw [raiseStamped_up h.2]; exact raiseWith_quiet h.1
theorem raise_quiet_pd {n : Fin 768} {d : Dev} (h : Quiet d n) (p : Fin 32) : ((raise n d).pd[p.val]).limit = (d.pd[p.val]).limit ∧ ((raise n d).pd[p.val]).event = (d.pd[p.val]).event ∧ ((raise n d).pd[p.val]).irqen = (d.pd[p.val]).irqen ∧ ((raise n d).pd[p.val]).hrTx = (d.pd[p.val]).hrTx ∧ ((raise n d).pd[p.val]).hrRx = (d.pd[p.val]).hrRx ∧ ((raise n d).pd[p.val]).softs = (d.pd[p.val]).softs ∧ ((raise n d).pd[p.val]).retries = (d.pd[p.val]).retries ∧ ((raise n d).pd[p.val]).pdos = (d.pd[p.val]).pdos ∧ ((raise n d).pd[p.val]).sinkPdp = (d.pd[p.val]).sinkPdp ∧ ((raise n d).pd[p.val]).sprRating = (d.pd[p.val]).sprRating ∧ ((raise n d).pd[p.val]).eprRating = (d.pd[p.val]).eprRating ∧ ((raise n d).pd[p.val]).reach = (d.pd[p.val]).reach ∧ ((raise n d).pd[p.val]).base = (d.pd[p.val]).base ∧ ((raise n d).pd[p.val]).rxQueue = (d.pd[p.val]).rxQueue ∧ ((raise n d).pd[p.val]).rxId = (d.pd[p.val]).rxId ∧ ((raise n d).pd[p.val]).txId = (d.pd[p.val]).txId ∧ ((raise n d).pd[p.val]).txId1 = (d.pd[p.val]).txId1 ∧ ((raise n d).pd[p.val]).txQueue = (d.pd[p.val]).txQueue ∧ ((raise n d).pd[p.val]).ams = (d.pd[p.val]).ams ∧ ((raise n d).pd[p.val]).sinkTxNg = (d.pd[p.val]).sinkTxNg ∧ ((raise n d).pd[p.val]).newVolt = (d.pd[p.val]).newVolt ∧ ((raise n d).pd[p.val]).newCurr = (d.pd[p.val]).newCurr ∧ ((raise n d).pd[p.val]).newRdo = (d.pd[p.val]).newRdo ∧ ((raise n d).pd[p.val]).newKind = (d.pd[p.val]).newKind ∧ ((raise n d).pd[p.val]).newPos = (d.pd[p.val]).newPos ∧ ((raise n d).pd[p.val]).hardResets = (d.pd[p.val]).hardResets ∧ ((raise n d).pd[p.val]).discoverTries = (d.pd[p.val]).discoverTries ∧ ((raise n d).pd[p.val]).bistData = (d.pd[p.val]).bistData ∧ ((raise n d).pd[p.val]).lastRdoEpr = (d.pd[p.val]).lastRdoEpr ∧ ((raise n d).pd[p.val]).lastCapsTb = (d.pd[p.val]).lastCapsTb ∧ ((raise n d).pd[p.val]).breachTb = (d.pd[p.val]).breachTb ∧ ((raise n d).pd[p.val]).guardTripTb = (d.pd[p.val]).guardTripTb ∧ ((raise n d).pd[p.val]).disabling = (d.pd[p.val]).disabling ∧ ((raise n d).pd[p.val]).hrDischarge = (d.pd[p.val]).hrDischarge ∧ ((raise n d).pd[p.val]).hiccupRestart = (d.pd[p.val]).hiccupRestart ∧ ((raise n d).pd[p.val]).chunks = (d.pd[p.val]).chunks ∧ ((raise n d).pd[p.val]).rxTb = (d.pd[p.val]).rxTb ∧ ((raise n d).pd[p.val]).attachCensus = (d.pd[p.val]).attachCensus ∧ ((raise n d).pd[p.val]).leaving = (d.pd[p.val]).leaving ∧ ((raise n d).pd[p.val]).ssDue = (d.pd[p.val]).ssDue ∧ ((raise n d).pd[p.val]).capsDue = (d.pd[p.val]).capsDue ∧ ((raise n d).pd[p.val]).riseDue = (d.pd[p.val]).riseDue ∧ ((raise n d).pd[p.val]).discDue = (d.pd[p.val]).discDue ∧ ((raise n d).pd[p.val]).deb = (d.pd[p.val]).deb ∧ ((raise n d).pd[p.val]).debPins = (d.pd[p.val]).debPins ∧ ((raise n d).pd[p.val]).inWindow = (d.pd[p.val]).inWindow ∧ ((raise n d).pd[p.val]).sentPdos = (d.pd[p.val]).sentPdos ∧ ((raise n d).pd[p.val]).sentSink = (d.pd[p.val]).sentSink ∧ ((raise n d).pd[p.val]).sentSpr = (d.pd[p.val]).sentSpr ∧ ((raise n d).pd[p.val]).sentEpr = (d.pd[p.val]).sentEpr ∧ ((raise n d).pd[p.val]).sentLims = (d.pd[p.val]).sentLims ∧ ((raise n d).pd[p.val]).target = (d.pd[p.val]).target ∧ ((raise n d).pd[p.val]).sopSecond = (d.pd[p.val]).sopSecond :=
  have q : ((raise n d).pd[p.val]).noFault = (d.pd[p.val]).noFault := by unfold raise; rw [raiseStamped_up h.2]; exact raiseWith_quiet_pd h.1 p
  ⟨(congrArg PortPd.limit q :), (congrArg PortPd.event q :), (congrArg PortPd.irqen q :), (congrArg PortPd.hrTx q :), (congrArg PortPd.hrRx q :), (congrArg PortPd.softs q :), (congrArg PortPd.retries q :), (congrArg PortPd.pdos q :), (congrArg PortPd.sinkPdp q :), (congrArg PortPd.sprRating q :), (congrArg PortPd.eprRating q :), (congrArg PortPd.reach q :), (congrArg PortPd.base q :), (congrArg PortPd.rxQueue q :), (congrArg PortPd.rxId q :), (congrArg PortPd.txId q :), (congrArg PortPd.txId1 q :), (congrArg PortPd.txQueue q :), (congrArg PortPd.ams q :), (congrArg PortPd.sinkTxNg q :), (congrArg PortPd.newVolt q :), (congrArg PortPd.newCurr q :), (congrArg PortPd.newRdo q :), (congrArg PortPd.newKind q :), (congrArg PortPd.newPos q :), (congrArg PortPd.hardResets q :), (congrArg PortPd.discoverTries q :), (congrArg PortPd.bistData q :), (congrArg PortPd.lastRdoEpr q :), (congrArg PortPd.lastCapsTb q :), (congrArg PortPd.breachTb q :), (congrArg PortPd.guardTripTb q :), (congrArg PortPd.disabling q :), (congrArg PortPd.hrDischarge q :), (congrArg PortPd.hiccupRestart q :), (congrArg PortPd.chunks q :), (congrArg PortPd.rxTb q :), (congrArg PortPd.attachCensus q :), (congrArg PortPd.leaving q :), (congrArg PortPd.ssDue q :), (congrArg PortPd.capsDue q :), (congrArg PortPd.riseDue q :), (congrArg PortPd.discDue q :), (congrArg PortPd.deb q :), (congrArg PortPd.debPins q :), (congrArg PortPd.inWindow q :), (congrArg PortPd.sentPdos q :), (congrArg PortPd.sentSink q :), (congrArg PortPd.sentSpr q :), (congrArg PortPd.sentEpr q :), (congrArg PortPd.sentLims q :), (congrArg PortPd.target q :), (congrArg PortPd.sopSecond q :)⟩
theorem raise_quiet_phases {n : Fin 768} {d : Dev} (h : Quiet d n) (i : Fin 64) : ((raise n d).phases[i.val]).state = (d.phases[i.val]).state ∧ ((raise n d).phases[i.val]).de = (d.phases[i.val]).de ∧ ((raise n d).phases[i.val]).skip = (d.phases[i.val]).skip ∧ ((raise n d).phases[i.val]).sf = (d.phases[i.val]).sf ∧ ((raise n d).phases[i.val]).why = (d.phases[i.val]).why ∧ ((raise n d).phases[i.val]).census = (d.phases[i.val]).census ∧ ((raise n d).phases[i.val]).minimal = (d.phases[i.val]).minimal ∧ ((raise n d).phases[i.val]).due = (d.phases[i.val]).due ∧ ((raise n d).phases[i.val]).retire = (d.phases[i.val]).retire ∧ ((raise n d).phases[i.val]).imonPeak = (d.phases[i.val]).imonPeak ∧ ((raise n d).phases[i.val]).imonAvg = (d.phases[i.val]).imonAvg ∧ ((raise n d).phases[i.val]).dutyA = (d.phases[i.val]).dutyA ∧ ((raise n d).phases[i.val]).dutyB = (d.phases[i.val]).dutyB ∧ ((raise n d).phases[i.val]).event = (d.phases[i.val]).event ∧ ((raise n d).phases[i.val]).evSeen = (d.phases[i.val]).evSeen ∧ ((raise n d).phases[i.val]).irqen = (d.phases[i.val]).irqen ∧ ((raise n d).phases[i.val]).limited = (d.phases[i.val]).limited ∧ ((raise n d).phases[i.val]).truncs = (d.phases[i.val]).truncs ∧ ((raise n d).phases[i.val]).hiccups = (d.phases[i.val]).hiccups ∧ ((raise n d).phases[i.val]).zeroMv = (d.phases[i.val]).zeroMv ∧ ((raise n d).phases[i.val]).ownRise = (d.phases[i.val]).ownRise ∧ ((raise n d).phases[i.val]).foreignPort = (d.phases[i.val]).foreignPort ∧ ((raise n d).phases[i.val]).foreignRise = (d.phases[i.val]).foreignRise :=
  have q : ((raise n d).phases[i.val]).noFault = (d.phases[i.val]).noFault := by unfold raise; rw [raiseStamped_up h.2]; exact raiseWith_quiet_phases h.1 i
  ⟨(congrArg Phase.state q :), (congrArg Phase.de q :), (congrArg Phase.skip q :), (congrArg Phase.sf q :), (congrArg Phase.why q :), (congrArg Phase.census q :), (congrArg Phase.minimal q :), (congrArg Phase.due q :), (congrArg Phase.retire q :), (congrArg Phase.imonPeak q :), (congrArg Phase.imonAvg q :), (congrArg Phase.dutyA q :), (congrArg Phase.dutyB q :), (congrArg Phase.event q :), (congrArg Phase.evSeen q :), (congrArg Phase.irqen q :), (congrArg Phase.limited q :), (congrArg Phase.truncs q :), (congrArg Phase.hiccups q :), (congrArg Phase.zeroMv q :), (congrArg Phase.ownRise q :), (congrArg Phase.foreignPort q :), (congrArg Phase.foreignRise q :)⟩
theorem raise_quiet_feeds {n : Fin 768} {d : Dev} (h : Quiet d n) (f : Fin 4) : ((raise n d).feeds[f.val]).en = (d.feeds[f.val]).en ∧ ((raise n d).feeds[f.val]).fen = (d.feeds[f.val]).fen ∧ ((raise n d).feeds[f.val]).state = (d.feeds[f.val]).state ∧ ((raise n d).feeds[f.val]).inUv = (d.feeds[f.val]).inUv ∧ ((raise n d).feeds[f.val]).inOv = (d.feeds[f.val]).inOv ∧ ((raise n d).feeds[f.val]).inWindow = (d.feeds[f.val]).inWindow ∧ ((raise n d).feeds[f.val]).limiting = (d.feeds[f.val]).limiting ∧ ((raise n d).feeds[f.val]).foldback = (d.feeds[f.val]).foldback ∧ ((raise n d).feeds[f.val]).timer = (d.feeds[f.val]).timer ∧ ((raise n d).feeds[f.val]).pg = (d.feeds[f.val]).pg ∧ ((raise n d).feeds[f.val]).pgWarn = (d.feeds[f.val]).pgWarn ∧ ((raise n d).feeds[f.val]).diodeOn = (d.feeds[f.val]).diodeOn ∧ ((raise n d).feeds[f.val]).blocking = (d.feeds[f.val]).blocking ∧ ((raise n d).feeds[f.val]).hubLost = (d.feeds[f.val]).hubLost ∧ ((raise n d).feeds[f.val]).enHeld = (d.feeds[f.val]).enHeld ∧ ((raise n d).feeds[f.val]).model = (d.feeds[f.val]).model ∧ ((raise n d).feeds[f.val]).latchWhy = (d.feeds[f.val]).latchWhy ∧ ((raise n d).feeds[f.val]).hot = (d.feeds[f.val]).hot ∧ ((raise n d).feeds[f.val]).event = (d.feeds[f.val]).event ∧ ((raise n d).feeds[f.val]).evSeen = (d.feeds[f.val]).evSeen ∧ ((raise n d).feeds[f.val]).irqen = (d.feeds[f.val]).irqen ∧ ((raise n d).feeds[f.val]).temp = (d.feeds[f.val]).temp ∧ ((raise n d).feeds[f.val]).trips = (d.feeds[f.val]).trips ∧ ((raise n d).feeds[f.val]).reverses = (d.feeds[f.val]).reverses ∧ ((raise n d).feeds[f.val]).pgLosses = (d.feeds[f.val]).pgLosses ∧ ((raise n d).feeds[f.val]).inserts = (d.feeds[f.val]).inserts :=
  have q : ((raise n d).feeds[f.val]).noFault = (d.feeds[f.val]).noFault := by unfold raise; rw [raiseStamped_up h.2]; exact raiseWith_quiet_feeds h.1 f
  ⟨(congrArg Feed.en q :), (congrArg Feed.fen q :), (congrArg Feed.state q :), (congrArg Feed.inUv q :), (congrArg Feed.inOv q :), (congrArg Feed.inWindow q :), (congrArg Feed.limiting q :), (congrArg Feed.foldback q :), (congrArg Feed.timer q :), (congrArg Feed.pg q :), (congrArg Feed.pgWarn q :), (congrArg Feed.diodeOn q :), (congrArg Feed.blocking q :), (congrArg Feed.hubLost q :), (congrArg Feed.enHeld q :), (congrArg Feed.model q :), (congrArg Feed.latchWhy q :), (congrArg Feed.hot q :), (congrArg Feed.event q :), (congrArg Feed.evSeen q :), (congrArg Feed.irqen q :), (congrArg Feed.temp q :), (congrArg Feed.trips q :), (congrArg Feed.reverses q :), (congrArg Feed.pgLosses q :), (congrArg Feed.inserts q :)⟩
theorem raise_latch {n : Fin 768} {d : Dev} (h : Quiet d n) (hr : (srcRow n.val).isSome = true) : ((raise n d).sources[n.val]).latch = true := by unfold raise; rw [raiseStamped_up h.2]; exact raiseWith_latch h.1 hr
theorem raise_quiet_next {n : Fin 768} {d : Dev} (h : Quiet d n) (m : Fin 768) : (takeLater ((raise n d).sources[m.val])).action = (takeLater d.sources[m.val]).action := by unfold raise; rw [raiseStamped_up h.2]; exact raiseWith_quiet_next h.1 m
theorem raise_latch_other {n : Fin 768} {d : Dev} (h : Quiet d n) {m : Fin 768} (hm : m ≠ n) : ((raise n d).sources[m.val]).latch = (d.sources[m.val]).latch := by unfold raise; rw [raiseStamped_up h.2]; exact raiseWith_latch_other h.1 hm
theorem raise_quiet_other {n : Fin 768} {d : Dev} (h : Quiet d n) {m : Fin 768} (k : Quiet d m) : Quiet (raise n d) m :=
  quiet_of k (raise_quiet_next h m) (by obtain ⟨-, -, -, -, -, -, -, -, -, -, -, -, -, -, -, -, -, e, -, -, -, -, -, -, -, -, -, -, -, -, -, -, -, -, -, -, -, -, -, -, -, -, -⟩ := raise_quiet h; exact e)

theorem raiseAt_quiet {n : Fin 768} {index : Nat} {d : Dev} (h : Quiet d n) : (raiseAt n index d).cfg = d.cfg ∧ (raiseAt n index d).cfgNew = d.cfgNew ∧ (raiseAt n index d).ports = d.ports ∧ (raiseAt n index d).guards = d.guards ∧ (raiseAt n index d).loops = d.loops ∧ (raiseAt n index d).chans = d.chans ∧ (raiseAt n index d).groups = d.groups ∧ (raiseAt n index d).convs = d.convs ∧ (raiseAt n index d).posts = d.posts ∧ (raiseAt n index d).ledger = d.ledger ∧ (raiseAt n index d).twin = d.twin ∧ (raiseAt n index d).tmr = d.tmr ∧ (raiseAt n index d).alarms = d.alarms ∧ (raiseAt n index d).itms = d.itms ∧ (raiseAt n index d).net = d.net ∧ (raiseAt n index d).upd = d.upd ∧ (raiseAt n index d).store = d.store ∧ (raiseAt n index d).sys = d.sys ∧ (raiseAt n index d).loss = d.loss ∧ (raiseAt n index d).tap = d.tap ∧ (raiseAt n index d).parcel = d.parcel ∧ (raiseAt n index d).freeCtr = d.freeCtr ∧ (raiseAt n index d).host.event = d.host.event ∧ (raiseAt n index d).host.irqen = d.host.irqen ∧ (raiseAt n index d).host.owner = d.host.owner ∧ (raiseAt n index d).host.successor = d.host.successor ∧ (raiseAt n index d).host.window = d.host.window ∧ (raiseAt n index d).host.changes = d.host.changes ∧ (raiseAt n index d).host.leaseEnd = d.host.leaseEnd ∧ (raiseAt n index d).host.hostLoaded = d.host.hostLoaded ∧ (raiseAt n index d).host.irqA = d.host.irqA ∧ (raiseAt n index d).host.irqB = d.host.irqB ∧ (raiseAt n index d).host.spiDummy = d.host.spiDummy ∧ (raiseAt n index d).host.spiCount = d.host.spiCount ∧ (raiseAt n index d).host.spiCrc = d.host.spiCrc ∧ (raiseAt n index d).host.spiAbort = d.host.spiAbort ∧ (raiseAt n index d).host.baud = d.host.baud ∧ (raiseAt n index d).host.uartFrames = d.host.uartFrames ∧ (raiseAt n index d).host.uartCrc = d.host.uartCrc ∧ (raiseAt n index d).host.uartDrops = d.host.uartDrops ∧ (raiseAt n index d).host.jobs = d.host.jobs ∧ (raiseAt n index d).host.masters = d.host.masters ∧ (raiseAt n index d).host.kept = d.host.kept := raiseWith_quiet h.1
theorem raiseAt_quiet_pd {n : Fin 768} {index : Nat} {d : Dev} (h : Quiet d n) (p : Fin 32) : ((raiseAt n index d).pd[p.val]).limit = (d.pd[p.val]).limit ∧ ((raiseAt n index d).pd[p.val]).event = (d.pd[p.val]).event ∧ ((raiseAt n index d).pd[p.val]).irqen = (d.pd[p.val]).irqen ∧ ((raiseAt n index d).pd[p.val]).hrTx = (d.pd[p.val]).hrTx ∧ ((raiseAt n index d).pd[p.val]).hrRx = (d.pd[p.val]).hrRx ∧ ((raiseAt n index d).pd[p.val]).softs = (d.pd[p.val]).softs ∧ ((raiseAt n index d).pd[p.val]).retries = (d.pd[p.val]).retries ∧ ((raiseAt n index d).pd[p.val]).pdos = (d.pd[p.val]).pdos ∧ ((raiseAt n index d).pd[p.val]).sinkPdp = (d.pd[p.val]).sinkPdp ∧ ((raiseAt n index d).pd[p.val]).sprRating = (d.pd[p.val]).sprRating ∧ ((raiseAt n index d).pd[p.val]).eprRating = (d.pd[p.val]).eprRating ∧ ((raiseAt n index d).pd[p.val]).reach = (d.pd[p.val]).reach ∧ ((raiseAt n index d).pd[p.val]).base = (d.pd[p.val]).base ∧ ((raiseAt n index d).pd[p.val]).rxQueue = (d.pd[p.val]).rxQueue ∧ ((raiseAt n index d).pd[p.val]).rxId = (d.pd[p.val]).rxId ∧ ((raiseAt n index d).pd[p.val]).txId = (d.pd[p.val]).txId ∧ ((raiseAt n index d).pd[p.val]).txId1 = (d.pd[p.val]).txId1 ∧ ((raiseAt n index d).pd[p.val]).txQueue = (d.pd[p.val]).txQueue ∧ ((raiseAt n index d).pd[p.val]).ams = (d.pd[p.val]).ams ∧ ((raiseAt n index d).pd[p.val]).sinkTxNg = (d.pd[p.val]).sinkTxNg ∧ ((raiseAt n index d).pd[p.val]).newVolt = (d.pd[p.val]).newVolt ∧ ((raiseAt n index d).pd[p.val]).newCurr = (d.pd[p.val]).newCurr ∧ ((raiseAt n index d).pd[p.val]).newRdo = (d.pd[p.val]).newRdo ∧ ((raiseAt n index d).pd[p.val]).newKind = (d.pd[p.val]).newKind ∧ ((raiseAt n index d).pd[p.val]).newPos = (d.pd[p.val]).newPos ∧ ((raiseAt n index d).pd[p.val]).hardResets = (d.pd[p.val]).hardResets ∧ ((raiseAt n index d).pd[p.val]).discoverTries = (d.pd[p.val]).discoverTries ∧ ((raiseAt n index d).pd[p.val]).bistData = (d.pd[p.val]).bistData ∧ ((raiseAt n index d).pd[p.val]).lastRdoEpr = (d.pd[p.val]).lastRdoEpr ∧ ((raiseAt n index d).pd[p.val]).lastCapsTb = (d.pd[p.val]).lastCapsTb ∧ ((raiseAt n index d).pd[p.val]).breachTb = (d.pd[p.val]).breachTb ∧ ((raiseAt n index d).pd[p.val]).guardTripTb = (d.pd[p.val]).guardTripTb ∧ ((raiseAt n index d).pd[p.val]).disabling = (d.pd[p.val]).disabling ∧ ((raiseAt n index d).pd[p.val]).hrDischarge = (d.pd[p.val]).hrDischarge ∧ ((raiseAt n index d).pd[p.val]).hiccupRestart = (d.pd[p.val]).hiccupRestart ∧ ((raiseAt n index d).pd[p.val]).chunks = (d.pd[p.val]).chunks ∧ ((raiseAt n index d).pd[p.val]).rxTb = (d.pd[p.val]).rxTb ∧ ((raiseAt n index d).pd[p.val]).attachCensus = (d.pd[p.val]).attachCensus ∧ ((raiseAt n index d).pd[p.val]).leaving = (d.pd[p.val]).leaving ∧ ((raiseAt n index d).pd[p.val]).ssDue = (d.pd[p.val]).ssDue ∧ ((raiseAt n index d).pd[p.val]).capsDue = (d.pd[p.val]).capsDue ∧ ((raiseAt n index d).pd[p.val]).riseDue = (d.pd[p.val]).riseDue ∧ ((raiseAt n index d).pd[p.val]).discDue = (d.pd[p.val]).discDue ∧ ((raiseAt n index d).pd[p.val]).deb = (d.pd[p.val]).deb ∧ ((raiseAt n index d).pd[p.val]).debPins = (d.pd[p.val]).debPins ∧ ((raiseAt n index d).pd[p.val]).inWindow = (d.pd[p.val]).inWindow ∧ ((raiseAt n index d).pd[p.val]).sentPdos = (d.pd[p.val]).sentPdos ∧ ((raiseAt n index d).pd[p.val]).sentSink = (d.pd[p.val]).sentSink ∧ ((raiseAt n index d).pd[p.val]).sentSpr = (d.pd[p.val]).sentSpr ∧ ((raiseAt n index d).pd[p.val]).sentEpr = (d.pd[p.val]).sentEpr ∧ ((raiseAt n index d).pd[p.val]).sentLims = (d.pd[p.val]).sentLims ∧ ((raiseAt n index d).pd[p.val]).target = (d.pd[p.val]).target ∧ ((raiseAt n index d).pd[p.val]).sopSecond = (d.pd[p.val]).sopSecond :=
  have q : ((raiseAt n index d).pd[p.val]).noFault = (d.pd[p.val]).noFault := raiseWith_quiet_pd h.1 p
  ⟨(congrArg PortPd.limit q :), (congrArg PortPd.event q :), (congrArg PortPd.irqen q :), (congrArg PortPd.hrTx q :), (congrArg PortPd.hrRx q :), (congrArg PortPd.softs q :), (congrArg PortPd.retries q :), (congrArg PortPd.pdos q :), (congrArg PortPd.sinkPdp q :), (congrArg PortPd.sprRating q :), (congrArg PortPd.eprRating q :), (congrArg PortPd.reach q :), (congrArg PortPd.base q :), (congrArg PortPd.rxQueue q :), (congrArg PortPd.rxId q :), (congrArg PortPd.txId q :), (congrArg PortPd.txId1 q :), (congrArg PortPd.txQueue q :), (congrArg PortPd.ams q :), (congrArg PortPd.sinkTxNg q :), (congrArg PortPd.newVolt q :), (congrArg PortPd.newCurr q :), (congrArg PortPd.newRdo q :), (congrArg PortPd.newKind q :), (congrArg PortPd.newPos q :), (congrArg PortPd.hardResets q :), (congrArg PortPd.discoverTries q :), (congrArg PortPd.bistData q :), (congrArg PortPd.lastRdoEpr q :), (congrArg PortPd.lastCapsTb q :), (congrArg PortPd.breachTb q :), (congrArg PortPd.guardTripTb q :), (congrArg PortPd.disabling q :), (congrArg PortPd.hrDischarge q :), (congrArg PortPd.hiccupRestart q :), (congrArg PortPd.chunks q :), (congrArg PortPd.rxTb q :), (congrArg PortPd.attachCensus q :), (congrArg PortPd.leaving q :), (congrArg PortPd.ssDue q :), (congrArg PortPd.capsDue q :), (congrArg PortPd.riseDue q :), (congrArg PortPd.discDue q :), (congrArg PortPd.deb q :), (congrArg PortPd.debPins q :), (congrArg PortPd.inWindow q :), (congrArg PortPd.sentPdos q :), (congrArg PortPd.sentSink q :), (congrArg PortPd.sentSpr q :), (congrArg PortPd.sentEpr q :), (congrArg PortPd.sentLims q :), (congrArg PortPd.target q :), (congrArg PortPd.sopSecond q :)⟩
theorem raiseAt_quiet_phases {n : Fin 768} {index : Nat} {d : Dev} (h : Quiet d n) (i : Fin 64) : ((raiseAt n index d).phases[i.val]).state = (d.phases[i.val]).state ∧ ((raiseAt n index d).phases[i.val]).de = (d.phases[i.val]).de ∧ ((raiseAt n index d).phases[i.val]).skip = (d.phases[i.val]).skip ∧ ((raiseAt n index d).phases[i.val]).sf = (d.phases[i.val]).sf ∧ ((raiseAt n index d).phases[i.val]).why = (d.phases[i.val]).why ∧ ((raiseAt n index d).phases[i.val]).census = (d.phases[i.val]).census ∧ ((raiseAt n index d).phases[i.val]).minimal = (d.phases[i.val]).minimal ∧ ((raiseAt n index d).phases[i.val]).due = (d.phases[i.val]).due ∧ ((raiseAt n index d).phases[i.val]).retire = (d.phases[i.val]).retire ∧ ((raiseAt n index d).phases[i.val]).imonPeak = (d.phases[i.val]).imonPeak ∧ ((raiseAt n index d).phases[i.val]).imonAvg = (d.phases[i.val]).imonAvg ∧ ((raiseAt n index d).phases[i.val]).dutyA = (d.phases[i.val]).dutyA ∧ ((raiseAt n index d).phases[i.val]).dutyB = (d.phases[i.val]).dutyB ∧ ((raiseAt n index d).phases[i.val]).event = (d.phases[i.val]).event ∧ ((raiseAt n index d).phases[i.val]).evSeen = (d.phases[i.val]).evSeen ∧ ((raiseAt n index d).phases[i.val]).irqen = (d.phases[i.val]).irqen ∧ ((raiseAt n index d).phases[i.val]).limited = (d.phases[i.val]).limited ∧ ((raiseAt n index d).phases[i.val]).truncs = (d.phases[i.val]).truncs ∧ ((raiseAt n index d).phases[i.val]).hiccups = (d.phases[i.val]).hiccups ∧ ((raiseAt n index d).phases[i.val]).zeroMv = (d.phases[i.val]).zeroMv ∧ ((raiseAt n index d).phases[i.val]).ownRise = (d.phases[i.val]).ownRise ∧ ((raiseAt n index d).phases[i.val]).foreignPort = (d.phases[i.val]).foreignPort ∧ ((raiseAt n index d).phases[i.val]).foreignRise = (d.phases[i.val]).foreignRise :=
  have q : ((raiseAt n index d).phases[i.val]).noFault = (d.phases[i.val]).noFault := raiseWith_quiet_phases h.1 i
  ⟨(congrArg Phase.state q :), (congrArg Phase.de q :), (congrArg Phase.skip q :), (congrArg Phase.sf q :), (congrArg Phase.why q :), (congrArg Phase.census q :), (congrArg Phase.minimal q :), (congrArg Phase.due q :), (congrArg Phase.retire q :), (congrArg Phase.imonPeak q :), (congrArg Phase.imonAvg q :), (congrArg Phase.dutyA q :), (congrArg Phase.dutyB q :), (congrArg Phase.event q :), (congrArg Phase.evSeen q :), (congrArg Phase.irqen q :), (congrArg Phase.limited q :), (congrArg Phase.truncs q :), (congrArg Phase.hiccups q :), (congrArg Phase.zeroMv q :), (congrArg Phase.ownRise q :), (congrArg Phase.foreignPort q :), (congrArg Phase.foreignRise q :)⟩
theorem raiseAt_quiet_feeds {n : Fin 768} {index : Nat} {d : Dev} (h : Quiet d n) (f : Fin 4) : ((raiseAt n index d).feeds[f.val]).en = (d.feeds[f.val]).en ∧ ((raiseAt n index d).feeds[f.val]).fen = (d.feeds[f.val]).fen ∧ ((raiseAt n index d).feeds[f.val]).state = (d.feeds[f.val]).state ∧ ((raiseAt n index d).feeds[f.val]).inUv = (d.feeds[f.val]).inUv ∧ ((raiseAt n index d).feeds[f.val]).inOv = (d.feeds[f.val]).inOv ∧ ((raiseAt n index d).feeds[f.val]).inWindow = (d.feeds[f.val]).inWindow ∧ ((raiseAt n index d).feeds[f.val]).limiting = (d.feeds[f.val]).limiting ∧ ((raiseAt n index d).feeds[f.val]).foldback = (d.feeds[f.val]).foldback ∧ ((raiseAt n index d).feeds[f.val]).timer = (d.feeds[f.val]).timer ∧ ((raiseAt n index d).feeds[f.val]).pg = (d.feeds[f.val]).pg ∧ ((raiseAt n index d).feeds[f.val]).pgWarn = (d.feeds[f.val]).pgWarn ∧ ((raiseAt n index d).feeds[f.val]).diodeOn = (d.feeds[f.val]).diodeOn ∧ ((raiseAt n index d).feeds[f.val]).blocking = (d.feeds[f.val]).blocking ∧ ((raiseAt n index d).feeds[f.val]).hubLost = (d.feeds[f.val]).hubLost ∧ ((raiseAt n index d).feeds[f.val]).enHeld = (d.feeds[f.val]).enHeld ∧ ((raiseAt n index d).feeds[f.val]).model = (d.feeds[f.val]).model ∧ ((raiseAt n index d).feeds[f.val]).latchWhy = (d.feeds[f.val]).latchWhy ∧ ((raiseAt n index d).feeds[f.val]).hot = (d.feeds[f.val]).hot ∧ ((raiseAt n index d).feeds[f.val]).event = (d.feeds[f.val]).event ∧ ((raiseAt n index d).feeds[f.val]).evSeen = (d.feeds[f.val]).evSeen ∧ ((raiseAt n index d).feeds[f.val]).irqen = (d.feeds[f.val]).irqen ∧ ((raiseAt n index d).feeds[f.val]).temp = (d.feeds[f.val]).temp ∧ ((raiseAt n index d).feeds[f.val]).trips = (d.feeds[f.val]).trips ∧ ((raiseAt n index d).feeds[f.val]).reverses = (d.feeds[f.val]).reverses ∧ ((raiseAt n index d).feeds[f.val]).pgLosses = (d.feeds[f.val]).pgLosses ∧ ((raiseAt n index d).feeds[f.val]).inserts = (d.feeds[f.val]).inserts :=
  have q : ((raiseAt n index d).feeds[f.val]).noFault = (d.feeds[f.val]).noFault := raiseWith_quiet_feeds h.1 f
  ⟨(congrArg Feed.en q :), (congrArg Feed.fen q :), (congrArg Feed.state q :), (congrArg Feed.inUv q :), (congrArg Feed.inOv q :), (congrArg Feed.inWindow q :), (congrArg Feed.limiting q :), (congrArg Feed.foldback q :), (congrArg Feed.timer q :), (congrArg Feed.pg q :), (congrArg Feed.pgWarn q :), (congrArg Feed.diodeOn q :), (congrArg Feed.blocking q :), (congrArg Feed.hubLost q :), (congrArg Feed.enHeld q :), (congrArg Feed.model q :), (congrArg Feed.latchWhy q :), (congrArg Feed.hot q :), (congrArg Feed.event q :), (congrArg Feed.evSeen q :), (congrArg Feed.irqen q :), (congrArg Feed.temp q :), (congrArg Feed.trips q :), (congrArg Feed.reverses q :), (congrArg Feed.pgLosses q :), (congrArg Feed.inserts q :)⟩
theorem raiseAt_latch {n : Fin 768} {index : Nat} {d : Dev} (h : Quiet d n) (hr : (srcRow n.val).isSome = true) : ((raiseAt n index d).sources[n.val]).latch = true := raiseWith_latch h.1 hr
theorem raiseAt_quiet_next {n : Fin 768} {index : Nat} {d : Dev} (h : Quiet d n) (m : Fin 768) : (takeLater ((raiseAt n index d).sources[m.val])).action = (takeLater d.sources[m.val]).action := raiseWith_quiet_next h.1 m
theorem raiseAt_latch_other {n : Fin 768} {index : Nat} {d : Dev} (h : Quiet d n) {m : Fin 768} (hm : m ≠ n) : ((raiseAt n index d).sources[m.val]).latch = (d.sources[m.val]).latch := raiseWith_latch_other h.1 hm
theorem raiseAt_quiet_other {n : Fin 768} {index : Nat} {d : Dev} (h : Quiet d n) {m : Fin 768} (k : Quiet d m) : Quiet (raiseAt n index d) m :=
  quiet_of k (raiseAt_quiet_next h m) (by obtain ⟨-, -, -, -, -, -, -, -, -, -, -, -, -, -, -, -, -, e, -, -, -, -, -, -, -, -, -, -, -, -, -, -, -, -, -, -, -, -, -, -, -, -, -⟩ := raiseAt_quiet (index := index) h; exact e)

theorem raiseStamped_quiet {n : Fin 768} {stamp : Nat} {d : Dev} (h : Quiet d n) : (raiseStamped n stamp d).cfg = d.cfg ∧ (raiseStamped n stamp d).cfgNew = d.cfgNew ∧ (raiseStamped n stamp d).ports = d.ports ∧ (raiseStamped n stamp d).guards = d.guards ∧ (raiseStamped n stamp d).loops = d.loops ∧ (raiseStamped n stamp d).chans = d.chans ∧ (raiseStamped n stamp d).groups = d.groups ∧ (raiseStamped n stamp d).convs = d.convs ∧ (raiseStamped n stamp d).posts = d.posts ∧ (raiseStamped n stamp d).ledger = d.ledger ∧ (raiseStamped n stamp d).twin = d.twin ∧ (raiseStamped n stamp d).tmr = d.tmr ∧ (raiseStamped n stamp d).alarms = d.alarms ∧ (raiseStamped n stamp d).itms = d.itms ∧ (raiseStamped n stamp d).net = d.net ∧ (raiseStamped n stamp d).upd = d.upd ∧ (raiseStamped n stamp d).store = d.store ∧ (raiseStamped n stamp d).sys = d.sys ∧ (raiseStamped n stamp d).loss = d.loss ∧ (raiseStamped n stamp d).tap = d.tap ∧ (raiseStamped n stamp d).parcel = d.parcel ∧ (raiseStamped n stamp d).freeCtr = d.freeCtr ∧ (raiseStamped n stamp d).host.event = d.host.event ∧ (raiseStamped n stamp d).host.irqen = d.host.irqen ∧ (raiseStamped n stamp d).host.owner = d.host.owner ∧ (raiseStamped n stamp d).host.successor = d.host.successor ∧ (raiseStamped n stamp d).host.window = d.host.window ∧ (raiseStamped n stamp d).host.changes = d.host.changes ∧ (raiseStamped n stamp d).host.leaseEnd = d.host.leaseEnd ∧ (raiseStamped n stamp d).host.hostLoaded = d.host.hostLoaded ∧ (raiseStamped n stamp d).host.irqA = d.host.irqA ∧ (raiseStamped n stamp d).host.irqB = d.host.irqB ∧ (raiseStamped n stamp d).host.spiDummy = d.host.spiDummy ∧ (raiseStamped n stamp d).host.spiCount = d.host.spiCount ∧ (raiseStamped n stamp d).host.spiCrc = d.host.spiCrc ∧ (raiseStamped n stamp d).host.spiAbort = d.host.spiAbort ∧ (raiseStamped n stamp d).host.baud = d.host.baud ∧ (raiseStamped n stamp d).host.uartFrames = d.host.uartFrames ∧ (raiseStamped n stamp d).host.uartCrc = d.host.uartCrc ∧ (raiseStamped n stamp d).host.uartDrops = d.host.uartDrops ∧ (raiseStamped n stamp d).host.jobs = d.host.jobs ∧ (raiseStamped n stamp d).host.masters = d.host.masters ∧ (raiseStamped n stamp d).host.kept = d.host.kept := by rw [raiseStamped_up h.2]; exact raiseWith_quiet h.1
theorem raiseStamped_quiet_pd {n : Fin 768} {stamp : Nat} {d : Dev} (h : Quiet d n) (p : Fin 32) : ((raiseStamped n stamp d).pd[p.val]).limit = (d.pd[p.val]).limit ∧ ((raiseStamped n stamp d).pd[p.val]).event = (d.pd[p.val]).event ∧ ((raiseStamped n stamp d).pd[p.val]).irqen = (d.pd[p.val]).irqen ∧ ((raiseStamped n stamp d).pd[p.val]).hrTx = (d.pd[p.val]).hrTx ∧ ((raiseStamped n stamp d).pd[p.val]).hrRx = (d.pd[p.val]).hrRx ∧ ((raiseStamped n stamp d).pd[p.val]).softs = (d.pd[p.val]).softs ∧ ((raiseStamped n stamp d).pd[p.val]).retries = (d.pd[p.val]).retries ∧ ((raiseStamped n stamp d).pd[p.val]).pdos = (d.pd[p.val]).pdos ∧ ((raiseStamped n stamp d).pd[p.val]).sinkPdp = (d.pd[p.val]).sinkPdp ∧ ((raiseStamped n stamp d).pd[p.val]).sprRating = (d.pd[p.val]).sprRating ∧ ((raiseStamped n stamp d).pd[p.val]).eprRating = (d.pd[p.val]).eprRating ∧ ((raiseStamped n stamp d).pd[p.val]).reach = (d.pd[p.val]).reach ∧ ((raiseStamped n stamp d).pd[p.val]).base = (d.pd[p.val]).base ∧ ((raiseStamped n stamp d).pd[p.val]).rxQueue = (d.pd[p.val]).rxQueue ∧ ((raiseStamped n stamp d).pd[p.val]).rxId = (d.pd[p.val]).rxId ∧ ((raiseStamped n stamp d).pd[p.val]).txId = (d.pd[p.val]).txId ∧ ((raiseStamped n stamp d).pd[p.val]).txId1 = (d.pd[p.val]).txId1 ∧ ((raiseStamped n stamp d).pd[p.val]).txQueue = (d.pd[p.val]).txQueue ∧ ((raiseStamped n stamp d).pd[p.val]).ams = (d.pd[p.val]).ams ∧ ((raiseStamped n stamp d).pd[p.val]).sinkTxNg = (d.pd[p.val]).sinkTxNg ∧ ((raiseStamped n stamp d).pd[p.val]).newVolt = (d.pd[p.val]).newVolt ∧ ((raiseStamped n stamp d).pd[p.val]).newCurr = (d.pd[p.val]).newCurr ∧ ((raiseStamped n stamp d).pd[p.val]).newRdo = (d.pd[p.val]).newRdo ∧ ((raiseStamped n stamp d).pd[p.val]).newKind = (d.pd[p.val]).newKind ∧ ((raiseStamped n stamp d).pd[p.val]).newPos = (d.pd[p.val]).newPos ∧ ((raiseStamped n stamp d).pd[p.val]).hardResets = (d.pd[p.val]).hardResets ∧ ((raiseStamped n stamp d).pd[p.val]).discoverTries = (d.pd[p.val]).discoverTries ∧ ((raiseStamped n stamp d).pd[p.val]).bistData = (d.pd[p.val]).bistData ∧ ((raiseStamped n stamp d).pd[p.val]).lastRdoEpr = (d.pd[p.val]).lastRdoEpr ∧ ((raiseStamped n stamp d).pd[p.val]).lastCapsTb = (d.pd[p.val]).lastCapsTb ∧ ((raiseStamped n stamp d).pd[p.val]).breachTb = (d.pd[p.val]).breachTb ∧ ((raiseStamped n stamp d).pd[p.val]).guardTripTb = (d.pd[p.val]).guardTripTb ∧ ((raiseStamped n stamp d).pd[p.val]).disabling = (d.pd[p.val]).disabling ∧ ((raiseStamped n stamp d).pd[p.val]).hrDischarge = (d.pd[p.val]).hrDischarge ∧ ((raiseStamped n stamp d).pd[p.val]).hiccupRestart = (d.pd[p.val]).hiccupRestart ∧ ((raiseStamped n stamp d).pd[p.val]).chunks = (d.pd[p.val]).chunks ∧ ((raiseStamped n stamp d).pd[p.val]).rxTb = (d.pd[p.val]).rxTb ∧ ((raiseStamped n stamp d).pd[p.val]).attachCensus = (d.pd[p.val]).attachCensus ∧ ((raiseStamped n stamp d).pd[p.val]).leaving = (d.pd[p.val]).leaving ∧ ((raiseStamped n stamp d).pd[p.val]).ssDue = (d.pd[p.val]).ssDue ∧ ((raiseStamped n stamp d).pd[p.val]).capsDue = (d.pd[p.val]).capsDue ∧ ((raiseStamped n stamp d).pd[p.val]).riseDue = (d.pd[p.val]).riseDue ∧ ((raiseStamped n stamp d).pd[p.val]).discDue = (d.pd[p.val]).discDue ∧ ((raiseStamped n stamp d).pd[p.val]).deb = (d.pd[p.val]).deb ∧ ((raiseStamped n stamp d).pd[p.val]).debPins = (d.pd[p.val]).debPins ∧ ((raiseStamped n stamp d).pd[p.val]).inWindow = (d.pd[p.val]).inWindow ∧ ((raiseStamped n stamp d).pd[p.val]).sentPdos = (d.pd[p.val]).sentPdos ∧ ((raiseStamped n stamp d).pd[p.val]).sentSink = (d.pd[p.val]).sentSink ∧ ((raiseStamped n stamp d).pd[p.val]).sentSpr = (d.pd[p.val]).sentSpr ∧ ((raiseStamped n stamp d).pd[p.val]).sentEpr = (d.pd[p.val]).sentEpr ∧ ((raiseStamped n stamp d).pd[p.val]).sentLims = (d.pd[p.val]).sentLims ∧ ((raiseStamped n stamp d).pd[p.val]).target = (d.pd[p.val]).target ∧ ((raiseStamped n stamp d).pd[p.val]).sopSecond = (d.pd[p.val]).sopSecond :=
  have q : ((raiseStamped n stamp d).pd[p.val]).noFault = (d.pd[p.val]).noFault := by rw [raiseStamped_up h.2]; exact raiseWith_quiet_pd h.1 p
  ⟨(congrArg PortPd.limit q :), (congrArg PortPd.event q :), (congrArg PortPd.irqen q :), (congrArg PortPd.hrTx q :), (congrArg PortPd.hrRx q :), (congrArg PortPd.softs q :), (congrArg PortPd.retries q :), (congrArg PortPd.pdos q :), (congrArg PortPd.sinkPdp q :), (congrArg PortPd.sprRating q :), (congrArg PortPd.eprRating q :), (congrArg PortPd.reach q :), (congrArg PortPd.base q :), (congrArg PortPd.rxQueue q :), (congrArg PortPd.rxId q :), (congrArg PortPd.txId q :), (congrArg PortPd.txId1 q :), (congrArg PortPd.txQueue q :), (congrArg PortPd.ams q :), (congrArg PortPd.sinkTxNg q :), (congrArg PortPd.newVolt q :), (congrArg PortPd.newCurr q :), (congrArg PortPd.newRdo q :), (congrArg PortPd.newKind q :), (congrArg PortPd.newPos q :), (congrArg PortPd.hardResets q :), (congrArg PortPd.discoverTries q :), (congrArg PortPd.bistData q :), (congrArg PortPd.lastRdoEpr q :), (congrArg PortPd.lastCapsTb q :), (congrArg PortPd.breachTb q :), (congrArg PortPd.guardTripTb q :), (congrArg PortPd.disabling q :), (congrArg PortPd.hrDischarge q :), (congrArg PortPd.hiccupRestart q :), (congrArg PortPd.chunks q :), (congrArg PortPd.rxTb q :), (congrArg PortPd.attachCensus q :), (congrArg PortPd.leaving q :), (congrArg PortPd.ssDue q :), (congrArg PortPd.capsDue q :), (congrArg PortPd.riseDue q :), (congrArg PortPd.discDue q :), (congrArg PortPd.deb q :), (congrArg PortPd.debPins q :), (congrArg PortPd.inWindow q :), (congrArg PortPd.sentPdos q :), (congrArg PortPd.sentSink q :), (congrArg PortPd.sentSpr q :), (congrArg PortPd.sentEpr q :), (congrArg PortPd.sentLims q :), (congrArg PortPd.target q :), (congrArg PortPd.sopSecond q :)⟩
theorem raiseStamped_quiet_phases {n : Fin 768} {stamp : Nat} {d : Dev} (h : Quiet d n) (i : Fin 64) : ((raiseStamped n stamp d).phases[i.val]).state = (d.phases[i.val]).state ∧ ((raiseStamped n stamp d).phases[i.val]).de = (d.phases[i.val]).de ∧ ((raiseStamped n stamp d).phases[i.val]).skip = (d.phases[i.val]).skip ∧ ((raiseStamped n stamp d).phases[i.val]).sf = (d.phases[i.val]).sf ∧ ((raiseStamped n stamp d).phases[i.val]).why = (d.phases[i.val]).why ∧ ((raiseStamped n stamp d).phases[i.val]).census = (d.phases[i.val]).census ∧ ((raiseStamped n stamp d).phases[i.val]).minimal = (d.phases[i.val]).minimal ∧ ((raiseStamped n stamp d).phases[i.val]).due = (d.phases[i.val]).due ∧ ((raiseStamped n stamp d).phases[i.val]).retire = (d.phases[i.val]).retire ∧ ((raiseStamped n stamp d).phases[i.val]).imonPeak = (d.phases[i.val]).imonPeak ∧ ((raiseStamped n stamp d).phases[i.val]).imonAvg = (d.phases[i.val]).imonAvg ∧ ((raiseStamped n stamp d).phases[i.val]).dutyA = (d.phases[i.val]).dutyA ∧ ((raiseStamped n stamp d).phases[i.val]).dutyB = (d.phases[i.val]).dutyB ∧ ((raiseStamped n stamp d).phases[i.val]).event = (d.phases[i.val]).event ∧ ((raiseStamped n stamp d).phases[i.val]).evSeen = (d.phases[i.val]).evSeen ∧ ((raiseStamped n stamp d).phases[i.val]).irqen = (d.phases[i.val]).irqen ∧ ((raiseStamped n stamp d).phases[i.val]).limited = (d.phases[i.val]).limited ∧ ((raiseStamped n stamp d).phases[i.val]).truncs = (d.phases[i.val]).truncs ∧ ((raiseStamped n stamp d).phases[i.val]).hiccups = (d.phases[i.val]).hiccups ∧ ((raiseStamped n stamp d).phases[i.val]).zeroMv = (d.phases[i.val]).zeroMv ∧ ((raiseStamped n stamp d).phases[i.val]).ownRise = (d.phases[i.val]).ownRise ∧ ((raiseStamped n stamp d).phases[i.val]).foreignPort = (d.phases[i.val]).foreignPort ∧ ((raiseStamped n stamp d).phases[i.val]).foreignRise = (d.phases[i.val]).foreignRise :=
  have q : ((raiseStamped n stamp d).phases[i.val]).noFault = (d.phases[i.val]).noFault := by rw [raiseStamped_up h.2]; exact raiseWith_quiet_phases h.1 i
  ⟨(congrArg Phase.state q :), (congrArg Phase.de q :), (congrArg Phase.skip q :), (congrArg Phase.sf q :), (congrArg Phase.why q :), (congrArg Phase.census q :), (congrArg Phase.minimal q :), (congrArg Phase.due q :), (congrArg Phase.retire q :), (congrArg Phase.imonPeak q :), (congrArg Phase.imonAvg q :), (congrArg Phase.dutyA q :), (congrArg Phase.dutyB q :), (congrArg Phase.event q :), (congrArg Phase.evSeen q :), (congrArg Phase.irqen q :), (congrArg Phase.limited q :), (congrArg Phase.truncs q :), (congrArg Phase.hiccups q :), (congrArg Phase.zeroMv q :), (congrArg Phase.ownRise q :), (congrArg Phase.foreignPort q :), (congrArg Phase.foreignRise q :)⟩
theorem raiseStamped_quiet_feeds {n : Fin 768} {stamp : Nat} {d : Dev} (h : Quiet d n) (f : Fin 4) : ((raiseStamped n stamp d).feeds[f.val]).en = (d.feeds[f.val]).en ∧ ((raiseStamped n stamp d).feeds[f.val]).fen = (d.feeds[f.val]).fen ∧ ((raiseStamped n stamp d).feeds[f.val]).state = (d.feeds[f.val]).state ∧ ((raiseStamped n stamp d).feeds[f.val]).inUv = (d.feeds[f.val]).inUv ∧ ((raiseStamped n stamp d).feeds[f.val]).inOv = (d.feeds[f.val]).inOv ∧ ((raiseStamped n stamp d).feeds[f.val]).inWindow = (d.feeds[f.val]).inWindow ∧ ((raiseStamped n stamp d).feeds[f.val]).limiting = (d.feeds[f.val]).limiting ∧ ((raiseStamped n stamp d).feeds[f.val]).foldback = (d.feeds[f.val]).foldback ∧ ((raiseStamped n stamp d).feeds[f.val]).timer = (d.feeds[f.val]).timer ∧ ((raiseStamped n stamp d).feeds[f.val]).pg = (d.feeds[f.val]).pg ∧ ((raiseStamped n stamp d).feeds[f.val]).pgWarn = (d.feeds[f.val]).pgWarn ∧ ((raiseStamped n stamp d).feeds[f.val]).diodeOn = (d.feeds[f.val]).diodeOn ∧ ((raiseStamped n stamp d).feeds[f.val]).blocking = (d.feeds[f.val]).blocking ∧ ((raiseStamped n stamp d).feeds[f.val]).hubLost = (d.feeds[f.val]).hubLost ∧ ((raiseStamped n stamp d).feeds[f.val]).enHeld = (d.feeds[f.val]).enHeld ∧ ((raiseStamped n stamp d).feeds[f.val]).model = (d.feeds[f.val]).model ∧ ((raiseStamped n stamp d).feeds[f.val]).latchWhy = (d.feeds[f.val]).latchWhy ∧ ((raiseStamped n stamp d).feeds[f.val]).hot = (d.feeds[f.val]).hot ∧ ((raiseStamped n stamp d).feeds[f.val]).event = (d.feeds[f.val]).event ∧ ((raiseStamped n stamp d).feeds[f.val]).evSeen = (d.feeds[f.val]).evSeen ∧ ((raiseStamped n stamp d).feeds[f.val]).irqen = (d.feeds[f.val]).irqen ∧ ((raiseStamped n stamp d).feeds[f.val]).temp = (d.feeds[f.val]).temp ∧ ((raiseStamped n stamp d).feeds[f.val]).trips = (d.feeds[f.val]).trips ∧ ((raiseStamped n stamp d).feeds[f.val]).reverses = (d.feeds[f.val]).reverses ∧ ((raiseStamped n stamp d).feeds[f.val]).pgLosses = (d.feeds[f.val]).pgLosses ∧ ((raiseStamped n stamp d).feeds[f.val]).inserts = (d.feeds[f.val]).inserts :=
  have q : ((raiseStamped n stamp d).feeds[f.val]).noFault = (d.feeds[f.val]).noFault := by rw [raiseStamped_up h.2]; exact raiseWith_quiet_feeds h.1 f
  ⟨(congrArg Feed.en q :), (congrArg Feed.fen q :), (congrArg Feed.state q :), (congrArg Feed.inUv q :), (congrArg Feed.inOv q :), (congrArg Feed.inWindow q :), (congrArg Feed.limiting q :), (congrArg Feed.foldback q :), (congrArg Feed.timer q :), (congrArg Feed.pg q :), (congrArg Feed.pgWarn q :), (congrArg Feed.diodeOn q :), (congrArg Feed.blocking q :), (congrArg Feed.hubLost q :), (congrArg Feed.enHeld q :), (congrArg Feed.model q :), (congrArg Feed.latchWhy q :), (congrArg Feed.hot q :), (congrArg Feed.event q :), (congrArg Feed.evSeen q :), (congrArg Feed.irqen q :), (congrArg Feed.temp q :), (congrArg Feed.trips q :), (congrArg Feed.reverses q :), (congrArg Feed.pgLosses q :), (congrArg Feed.inserts q :)⟩
theorem raiseStamped_latch {n : Fin 768} {stamp : Nat} {d : Dev} (h : Quiet d n) (hr : (srcRow n.val).isSome = true) : ((raiseStamped n stamp d).sources[n.val]).latch = true := by rw [raiseStamped_up h.2]; exact raiseWith_latch h.1 hr
theorem raiseStamped_action {n : Fin 768} {stamp : Nat} {d : Dev} (h : Quiet d n) (hr : (srcRow n.val).isSome = true) : ((raiseStamped n stamp d).sources[n.val]).action = 0 := by rw [raiseStamped_up h.2]; exact raiseWith_action h.1 hr
theorem raiseStamped_quiet_next {n : Fin 768} {stamp : Nat} {d : Dev} (h : Quiet d n) (m : Fin 768) : (takeLater ((raiseStamped n stamp d).sources[m.val])).action = (takeLater d.sources[m.val]).action := by rw [raiseStamped_up h.2]; exact raiseWith_quiet_next h.1 m
theorem raiseStamped_latch_other {n : Fin 768} {stamp : Nat} {d : Dev} (h : Quiet d n) {m : Fin 768} (hm : m ≠ n) : ((raiseStamped n stamp d).sources[m.val]).latch = (d.sources[m.val]).latch := by rw [raiseStamped_up h.2]; exact raiseWith_latch_other h.1 hm
theorem raiseStamped_quiet_other {n : Fin 768} {stamp : Nat} {d : Dev} (h : Quiet d n) {m : Fin 768} (k : Quiet d m) : Quiet (raiseStamped n stamp d) m :=
  quiet_of k (raiseStamped_quiet_next h m) (by obtain ⟨-, -, -, -, -, -, -, -, -, -, -, -, -, -, -, -, -, e, -, -, -, -, -, -, -, -, -, -, -, -, -, -, -, -, -, -, -, -, -, -, -, -, -⟩ := raiseStamped_quiet (stamp := stamp) h; exact e)

/-- What follows a RESET_BLOCK follows only one that was just carried out (11 R432). -/
theorem blockFollow_else {n : Fin 768} {was d : Dev} (h : (d.sources[n.val]).action ≠ 6 ∨ ((d.sources[n.val]).acted = true → (was.sources[n.val]).acted = true)) :
    blockFollow n was d = d := by
  unfold blockFollow
  rw [if_pos]
  rcases h with h | h
  · simp [h]
  · cases e : (d.sources[n.val]).acted <;> simp_all

end Sys2Proof.Machine
end

