-- ==== Sys2Proof/Laws/Courses.lean ====
section
/-! SUPPORT. What the courses of a port do: ErrorRecovery (03 R105, R107). -/

namespace Sys2Proof.Machine

theorem guardOn_state (g : Guard) : guardOn g = (g.state == .closing || g.state == .closed || g.state == .limiting) := rfl

/-- A loop without its region, which a census chooses anew (05 R207). -/
def Loop.noRegion (l : Loop) : Loop := { l with region := .buck }

@[simp] theorem censusBegin_noRegion (n : Fin 64) (i : Fin 32) (d : Dev) : ((censusBegin n d).loops[i.val]).noRegion = (d.loops[i.val]).noRegion := by
  unfold censusBegin
  dsimp only
  split
  · simp only [bumpFree_loops, onLoop_loops, onPhase_loops, upd_get]; split <;> rfl
  · simp

@[simp] theorem censusNext_noRegion (e : Fin 4) (i : Fin 32) (d : Dev) : ((censusNext e d).loops[i.val]).noRegion = (d.loops[i.val]).noRegion := by
  unfold censusNext
  dsimp only
  repeat' split
  all_goals simp

@[simp] theorem censusStart_noRegion (l : List (Fin 64)) (i : Fin 32) (d : Dev) : ((censusStart l d).loops[i.val]).noRegion = (d.loops[i.val]).noRegion := by
  unfold censusStart
  refine (forEach_keeps (P := fun x => (x.loops[i.val]).noRegion = (d.loops[i.val]).noRegion) (fun e x h => (censusNext_noRegion e i x).trans h) ?_)
  simp

@[simp] theorem takePhases_noRegion (f : Fin 64 → Bool) (new : ImageCfg) (i : Fin 32) (d : Dev) : ((takePhases f new d).loops[i.val]).noRegion = (d.loops[i.val]).noRegion := by
  unfold takePhases
  simp

@[simp] theorem takeDeferred_noRegion (p i : Fin 32) (d : Dev) : ((takeDeferred p d).loops[i.val]).noRegion = (d.loops[i.val]).noRegion := by
  unfold takeDeferred
  split <;> simp

theorem Loop.noRegion_switching (l : Loop) : l.noRegion.switching = l.switching := rfl
@[simp] theorem takeDeferred_switching (p i : Fin 32) (d : Dev) : ((takeDeferred p d).loops[i.val]).switching = (d.loops[i.val]).switching :=
  ((Loop.noRegion_switching _).symm.trans (congrArg Loop.switching (takeDeferred_noRegion ..))).trans (Loop.noRegion_switching _)

@[simp] theorem dropAttach_switching (p i : Fin 32) (d : Dev) : ((dropAttach p d).loops[i.val]).switching = (d.loops[i.val]).switching := by
  unfold dropAttach
  dsimp only
  split
  · simp [endContract, clearContract, upd_get]
    split <;> rfl
  · simp

/-- VCONN stays off, and is off once an attach is dropped (03 R107, R116). -/
@[simp] theorem updateCap_vconnOn (p i : Fin 32) (d : Dev) : ((updateCap p d).ports[i.val]).vconnOn = (d.ports[i.val]).vconnOn := by
  unfold updateCap onlyIf
  dsimp only
  split <;> simp [upd_get] <;> split <;> rfl

@[simp] theorem takeDeferred_vconnOn (p i : Fin 32) (d : Dev) : ((takeDeferred p d).ports[i.val]).vconnOn = (d.ports[i.val]).vconnOn := by
  unfold takeDeferred
  dsimp only
  split <;> simp [takePhases]

theorem dropAttach_vconnOn {p : Fin 32} {d : Dev} (h : (d.ports[p.val]).vconnOn = false) : ((dropAttach p d).ports[p.val]).vconnOn = false := by
  unfold dropAttach
  dsimp only
  split
  · simp
    refine vconnEnd_off ?_
    simp [endContract, clearContract, leaveEpr, pdAbandon, h]
  · simp [pdAbandon]
    exact vconnEnd_off h

theorem errorRecovery_vconnOn {p : Fin 32} {d : Dev} (why : Nat) (h : (d.ports[p.val]).vconnOn = false) :
    ((errorRecovery p why d).ports[p.val]).vconnOn = false := by
  have k : ∀ x : Dev, x.ports = d.ports → ((dropAttach p (startTimer (.terrorrecoveryExpiry p) (ticksOfMs 30) (stopTimer (.hiccupOffTimeExpiry p)
      (present p .none false x)))).ports[p.val]).vconnOn = false := fun x hx => dropAttach_vconnOn (by simp [hx, h])
  unfold errorRecovery onlyIf
  dsimp only
  split
  · exact h
  · repeat' split
    all_goals simp [presentOpen, setTc, h, k]

/-- The state of the port after ErrorRecovery, whether or not its link stands (03 R100, 01 R630). -/
theorem errorRecovery_tc {p : Fin 32} {d : Dev} (why : Nat) (h1 : hasPort d p = true) (h2 : (d.ports[p.val]).tc ≠ .disabled)
    (h3 : (d.ports[p.val]).tc ≠ .errorRecovery) (h4 : (d.pd[p.val]).disabling = false) (h5 : (d.ports[p.val]).tc ≠ .minimal) :
    ((errorRecovery p why d).ports[p.val]).tc = .errorRecovery := by
  unfold errorRecovery
  simp [h1, h2, h3, h4, h5]
  split <;> simp [presentOpen]

/-- A port in ErrorRecovery presents nothing, does not switch, and its guard neither ramps nor conducts. -/
theorem errorRecovery_port {p : Fin 32} {d : Dev} (why : Nat) (h1 : hasPort d p = true) (h2 : (d.ports[p.val]).tc ≠ .disabled)
    (h3 : (d.ports[p.val]).tc ≠ .errorRecovery) (h4 : (d.pd[p.val]).disabling = false) (h5 : (d.ports[p.val]).tc ≠ .minimal)
    (h6 : lostPort d p = false) :
    ((errorRecovery p why d).ports[p.val]).tc = .errorRecovery ∧ ((errorRecovery p why d).loops[p.val]).switching = false ∧
    guardOn ((errorRecovery p why d).guards[p.val]) = false := by
  have t1 := openGuard_self p why (phasesMid p (stopTimers (tcTimers p) d))
  have t2 := stopPort_self p why (stopTimers (tcTimers p) d)
  rw [guardOn_state] at t1
  unfold errorRecovery
  rw [guardOn_state]
  simp [h1, h2, h3, h4, h5, stopByHub_up why h6, t2]
  simp [stopPort] at t1 ⊢
  split <;> simp [presentOpen, t1]

@[simp] theorem sendCapsNow_limit (p i : Fin 32) (d : Dev) : ((sendCapsNow p d).pd[i.val]).limit = (d.pd[i.val]).limit := by
  unfold sendCapsNow
  dsimp only
  repeat' split
  all_goals simp [upd_get]
  all_goals repeat' split
  all_goals simp

@[simp] theorem offerCaps_limit (p i : Fin 32) (d : Dev) : ((offerCaps p d).pd[i.val]).limit = (d.pd[i.val]).limit := by
  unfold offerCaps
  dsimp only
  repeat' split
  all_goals simp [upd_get]
  all_goals repeat' split
  all_goals rfl

@[simp] theorem handFollow_limit (p i : Fin 32) (old : Port) (l : List CutOffer) (asked : Bool) (d : Dev) : ((handFollow old l p asked d).pd[i.val]).limit = (d.pd[i.val]).limit := by
  unfold handFollow
  dsimp only
  repeat' split
  all_goals simp [upd_get]
  all_goals repeat' split
  all_goals rfl

@[simp] theorem takeTarget_limit (p i : Fin 32) (t : Nat) (asked : Bool) (d : Dev) : ((takeTarget p t asked d).pd[i.val]).limit = (d.pd[i.val]).limit := by
  unfold takeTarget
  dsimp only
  rw [handFollow_limit]
  split
  · simp [upd_get]; split <;> rfl
  · unfold onlyIf
    split <;> simp [upd_get] <;> split <;> rfl

theorem forEach_takeTarget_limit (p i : Fin 32) (l : List (Fin 32 × Nat)) (d : Dev) :
    ((forEach l (fun x => takeTarget x.1 x.2 (x.1 == p)) d).pd[i.val]).limit = (d.pd[i.val]).limit := by
  unfold forEach
  induction l generalizing d with
  | nil => rfl
  | cons x l ih => rw [List.foldl_cons, ih, takeTarget_limit]

/-- A division leaves PORTn_LIMIT (04 R181). -/
theorem divideFor_limit (p i : Fin 32) (d : Dev) : ((divideFor p d).pd[i.val]).limit = (d.pd[i.val]).limit := by
  unfold divideFor
  split
  · rfl
  · exact forEach_takeTarget_limit p i _ d

/-- The rises that follow a pending hand leave a port whose target is no higher than its hand (04 R154). -/
theorem raiseHands_at {p : Fin 32} {d : Dev} (h : (d.pd[p.val]).target ≤ (d.ports[p.val]).hand) : (raiseHands d).ports[p.val] = d.ports[p.val] ∧
    (raiseHands d).pd[p.val] = d.pd[p.val] := by
  unfold raiseHands
  refine forEach_keeps (P := fun x => x.ports[p.val] = d.ports[p.val] ∧ x.pd[p.val] = d.pd[p.val]) (fun q x e => ?_) ⟨rfl, rfl⟩
  by_cases hq : p = q
  · subst hq
    have : ¬ (d.ports[p.val]).hand < (d.pd[p.val]).target := by omega
    simp [this, e]
  · split
    · simp [hq, e]
    · exact e

theorem portSrc6_row : ∀ p : Fin 32, (srcRow (portSrc p 6).val).isSome = true := by decide

/-- PD_PROTOCOL belongs to the hub: it needs no link. -/
theorem portSrc6_hub : ∀ p : Fin 32, srcLink (portSrc p 6) = none := by decide

/-- A raise leaves no latch cleared (11 R435). -/
theorem raise_latch_keeps {n : Fin 768} {d : Dev} (h : Quiet d n) (hr : (srcRow n.val).isSome = true) {m : Fin 768}
    (hm : (d.sources[m.val]).latch = true) : ((raise n d).sources[m.val]).latch = true := by
  by_cases e : m = n
  · subst e; exact raise_latch h hr
  · rw [raise_latch_other h e]; exact hm

/-- The device sends Hard Reset (04 R175): the contract ends, the count moves on, PD_PROTOCOL is latched, other ports stay. -/
theorem sendHardReset_any {p : Fin 32} {d : Dev} (h : pdLive d p = true) (h1 : (d.pd[p.val]).hardResets < 2) (h2 : (takeLater d.sources[(portSrc p 6).val]).action = 0) :
    ((sendHardReset p d).ports[p.val]).kind = .none ∧ ((sendHardReset p d).ports[p.val]).eprMode = false ∧
    ((sendHardReset p d).pd[p.val]).hardResets = (d.pd[p.val]).hardResets + 1 ∧ ((sendHardReset p d).sources[(portSrc p 6).val]).latch = true ∧
    ((sendHardReset p d).loops[p.val]).uv = (d.loops[p.val]).uv ∧
    (∀ n : Fin 768, (d.sources[n.val]).latch = true → ((sendHardReset p d).sources[n.val]).latch = true) ∧
    ∀ q, q ≠ p → (sendHardReset p d).ports[q.val] = d.ports[q.val] := by
  have g : ¬ 2 ≤ (d.pd[p.val]).hardResets := by omega
  obtain ⟨y, hy⟩ : ∃ y, y = hardReset p (onPd p (fun x => { x with hardResets := x.hardResets + 1, hrTx := inc8 x.hrTx }) (portEvent p 3 d)) := ⟨_, rfl⟩
  obtain ⟨x, hx⟩ : ∃ x, x = forEach (y.host.jobs.filter fun j => j.opcode == opPortHardReset && j.port == some p) (fun j z => complete j.ref j.opcode .done [] z) y := ⟨_, rfl⟩
  have e : sendHardReset p d = raise (portSrc p 6) x := by
    rw [hx, hy]
    unfold sendHardReset
    simp only [h, Fin.getElem_fin, g, Bool.not_true, Bool.false_eq_true, if_false]
  have hs : ∀ m : Fin 768, x.sources[m.val] = d.sources[m.val] := fun m => by simp [hx, hy]
  have k : Quiet x (portSrc p 6) := quiet_hub (portSrc6_hub p) (by simp only [Fin.getElem_fin, hs, h2])
  have hl : ∀ n : Fin 768, (d.sources[n.val]).latch = true → ((raise (portSrc p 6) x).sources[n.val]).latch = true :=
    fun n hn => raise_latch_keeps k (portSrc6_row p) (by rw [hs]; exact hn)
  simp only [e, raise_quiet k, raise_quiet_pd k, raise_latch k (portSrc6_row p), true_and]
  refine ⟨?_, ?_, ?_, ?_, hl, ?_⟩ <;> simp [hx, hy, hardReset, onlyIf, pdAbandon]
  all_goals (split <;> try simp +contextual [presentRp, upd_other])
  all_goals (split <;> simp [stopRamp])

theorem startHiccup_port (p : Fin 32) (why : Nat) (d : Dev) :
    ((startHiccup p why d).loops[p.val]).hiccup = true ∧ ((startHiccup p why d).loops[p.val]).hc = sat 15 ((d.loops[p.val]).hc + 1) ∧
    ((startHiccup p why d).loops[p.val]).switching = false ∧ guardOn ((startHiccup p why d).guards[p.val]) = false ∧
    ((startHiccup p why d).ports[p.val]).kind = .none ∧ ((startHiccup p why d).ports[p.val]).tc = (d.ports[p.val]).tc := by
  have t := stopPort_self p why d
  unfold startHiccup
  simp [endContract, clearContract, pdAbandon, t]
  simp [stopPort, phasesMid, stopRamp]

/-- A phase without its state. -/
def Phase.stateless (f : Phase) : Phase := { f with state := .unused }

theorem setPhases_stateless (p : Fin 32) (st : PhaseState) (n : Fin 64) (d : Dev) : ((setPhases p st d).phases[n.val]).stateless = (d.phases[n.val]).stateless := by
  unfold setPhases
  refine forEach_keeps (P := fun x => (x.phases[n.val]).stateless = (d.phases[n.val]).stateless) (fun m x e => ?_) rfl
  rw [← e]
  simp only [onPhase_phases, upd_get]
  split
  · split <;> rfl
  · rfl

theorem Phase.stateless_de (x : Phase) : x.stateless.de = x.de := rfl
@[simp] theorem setPhases_de (p : Fin 32) (st : PhaseState) (n : Fin 64) (d : Dev) : ((setPhases p st d).phases[n.val]).de = (d.phases[n.val]).de :=
  ((Phase.stateless_de _).symm.trans (congrArg Phase.de (setPhases_stateless ..))).trans (Phase.stateless_de _)
theorem Phase.stateless_skip (x : Phase) : x.stateless.skip = x.skip := rfl
@[simp] theorem setPhases_skip (p : Fin 32) (st : PhaseState) (n : Fin 64) (d : Dev) : ((setPhases p st d).phases[n.val]).skip = (d.phases[n.val]).skip :=
  ((Phase.stateless_skip _).symm.trans (congrArg Phase.skip (setPhases_stateless ..))).trans (Phase.stateless_skip _)
theorem Phase.stateless_sf (x : Phase) : x.stateless.sf = x.sf := rfl
@[simp] theorem setPhases_sf (p : Fin 32) (st : PhaseState) (n : Fin 64) (d : Dev) : ((setPhases p st d).phases[n.val]).sf = (d.phases[n.val]).sf :=
  ((Phase.stateless_sf _).symm.trans (congrArg Phase.sf (setPhases_stateless ..))).trans (Phase.stateless_sf _)
theorem Phase.stateless_why (x : Phase) : x.stateless.why = x.why := rfl
@[simp] theorem setPhases_why (p : Fin 32) (st : PhaseState) (n : Fin 64) (d : Dev) : ((setPhases p st d).phases[n.val]).why = (d.phases[n.val]).why :=
  ((Phase.stateless_why _).symm.trans (congrArg Phase.why (setPhases_stateless ..))).trans (Phase.stateless_why _)
theorem Phase.stateless_census (x : Phase) : x.stateless.census = x.census := rfl
@[simp] theorem setPhases_census (p : Fin 32) (st : PhaseState) (n : Fin 64) (d : Dev) : ((setPhases p st d).phases[n.val]).census = (d.phases[n.val]).census :=
  ((Phase.stateless_census _).symm.trans (congrArg Phase.census (setPhases_stateless ..))).trans (Phase.stateless_census _)
theorem Phase.stateless_minimal (x : Phase) : x.stateless.minimal = x.minimal := rfl
@[simp] theorem setPhases_minimal (p : Fin 32) (st : PhaseState) (n : Fin 64) (d : Dev) : ((setPhases p st d).phases[n.val]).minimal = (d.phases[n.val]).minimal :=
  ((Phase.stateless_minimal _).symm.trans (congrArg Phase.minimal (setPhases_stateless ..))).trans (Phase.stateless_minimal _)
theorem Phase.stateless_due (x : Phase) : x.stateless.due = x.due := rfl
@[simp] theorem setPhases_due (p : Fin 32) (st : PhaseState) (n : Fin 64) (d : Dev) : ((setPhases p st d).phases[n.val]).due = (d.phases[n.val]).due :=
  ((Phase.stateless_due _).symm.trans (congrArg Phase.due (setPhases_stateless ..))).trans (Phase.stateless_due _)
theorem Phase.stateless_retire (x : Phase) : x.stateless.retire = x.retire := rfl
@[simp] theorem setPhases_retire (p : Fin 32) (st : PhaseState) (n : Fin 64) (d : Dev) : ((setPhases p st d).phases[n.val]).retire = (d.phases[n.val]).retire :=
  ((Phase.stateless_retire _).symm.trans (congrArg Phase.retire (setPhases_stateless ..))).trans (Phase.stateless_retire _)
theorem Phase.stateless_imonPeak (x : Phase) : x.stateless.imonPeak = x.imonPeak := rfl
@[simp] theorem setPhases_imonPeak (p : Fin 32) (st : PhaseState) (n : Fin 64) (d : Dev) : ((setPhases p st d).phases[n.val]).imonPeak = (d.phases[n.val]).imonPeak :=
  ((Phase.stateless_imonPeak _).symm.trans (congrArg Phase.imonPeak (setPhases_stateless ..))).trans (Phase.stateless_imonPeak _)
theorem Phase.stateless_event (x : Phase) : x.stateless.event = x.event := rfl
@[simp] theorem setPhases_event (p : Fin 32) (st : PhaseState) (n : Fin 64) (d : Dev) : ((setPhases p st d).phases[n.val]).event = (d.phases[n.val]).event :=
  ((Phase.stateless_event _).symm.trans (congrArg Phase.event (setPhases_stateless ..))).trans (Phase.stateless_event _)
theorem Phase.stateless_fault (x : Phase) : x.stateless.fault = x.fault := rfl
@[simp] theorem setPhases_fault (p : Fin 32) (st : PhaseState) (n : Fin 64) (d : Dev) : ((setPhases p st d).phases[n.val]).fault = (d.phases[n.val]).fault :=
  ((Phase.stateless_fault _).symm.trans (congrArg Phase.fault (setPhases_stateless ..))).trans (Phase.stateless_fault _)
theorem Phase.stateless_limited (x : Phase) : x.stateless.limited = x.limited := rfl
@[simp] theorem setPhases_limited (p : Fin 32) (st : PhaseState) (n : Fin 64) (d : Dev) : ((setPhases p st d).phases[n.val]).limited = (d.phases[n.val]).limited :=
  ((Phase.stateless_limited _).symm.trans (congrArg Phase.limited (setPhases_stateless ..))).trans (Phase.stateless_limited _)
theorem Phase.stateless_truncs (x : Phase) : x.stateless.truncs = x.truncs := rfl
@[simp] theorem setPhases_truncs (p : Fin 32) (st : PhaseState) (n : Fin 64) (d : Dev) : ((setPhases p st d).phases[n.val]).truncs = (d.phases[n.val]).truncs :=
  ((Phase.stateless_truncs _).symm.trans (congrArg Phase.truncs (setPhases_stateless ..))).trans (Phase.stateless_truncs _)
theorem Phase.stateless_hiccups (x : Phase) : x.stateless.hiccups = x.hiccups := rfl
@[simp] theorem setPhases_hiccups (p : Fin 32) (st : PhaseState) (n : Fin 64) (d : Dev) : ((setPhases p st d).phases[n.val]).hiccups = (d.phases[n.val]).hiccups :=
  ((Phase.stateless_hiccups _).symm.trans (congrArg Phase.hiccups (setPhases_stateless ..))).trans (Phase.stateless_hiccups _)
theorem Phase.stateless_zeroMv (x : Phase) : x.stateless.zeroMv = x.zeroMv := rfl
@[simp] theorem setPhases_zeroMv (p : Fin 32) (st : PhaseState) (n : Fin 64) (d : Dev) : ((setPhases p st d).phases[n.val]).zeroMv = (d.phases[n.val]).zeroMv :=
  ((Phase.stateless_zeroMv _).symm.trans (congrArg Phase.zeroMv (setPhases_stateless ..))).trans (Phase.stateless_zeroMv _)
theorem Phase.stateless_ownRise (x : Phase) : x.stateless.ownRise = x.ownRise := rfl
@[simp] theorem setPhases_ownRise (p : Fin 32) (st : PhaseState) (n : Fin 64) (d : Dev) : ((setPhases p st d).phases[n.val]).ownRise = (d.phases[n.val]).ownRise :=
  ((Phase.stateless_ownRise _).symm.trans (congrArg Phase.ownRise (setPhases_stateless ..))).trans (Phase.stateless_ownRise _)
theorem Phase.stateless_foreignPort (x : Phase) : x.stateless.foreignPort = x.foreignPort := rfl
@[simp] theorem setPhases_foreignPort (p : Fin 32) (st : PhaseState) (n : Fin 64) (d : Dev) : ((setPhases p st d).phases[n.val]).foreignPort = (d.phases[n.val]).foreignPort :=
  ((Phase.stateless_foreignPort _).symm.trans (congrArg Phase.foreignPort (setPhases_stateless ..))).trans (Phase.stateless_foreignPort _)
theorem Phase.stateless_foreignRise (x : Phase) : x.stateless.foreignRise = x.foreignRise := rfl
@[simp] theorem setPhases_foreignRise (p : Fin 32) (st : PhaseState) (n : Fin 64) (d : Dev) : ((setPhases p st d).phases[n.val]).foreignRise = (d.phases[n.val]).foreignRise :=
  ((Phase.stateless_foreignRise _).symm.trans (congrArg Phase.foreignRise (setPhases_stateless ..))).trans (Phase.stateless_foreignRise _)

end Sys2Proof.Machine
end

