-- ==== Sys2Proof/Laws/Retire.lean ====
section
/-! SUPPORT. A retired phase stays as it is while its port stops or is offered anew (05 R223). -/

namespace Sys2Proof.Machine

theorem setPhases_retired {n : Fin 64} {d : Dev} (p : Fin 32) (st : PhaseState) (h : (d.phases[n.val]).state = .retired) :
    (setPhases p st d).phases[n.val] = d.phases[n.val] := by
  unfold setPhases
  refine forEach_keeps (P := fun x => x.phases[n.val] = d.phases[n.val]) (fun m x e => ?_) rfl
  rw [← e]
  simp only [onPhase_phases, upd_get]
  split
  · simp [e, h]
  · rfl

theorem phasesMid_retired {n : Fin 64} {d : Dev} (p : Fin 32) (h : (d.phases[n.val]).state = .retired) :
    (phasesMid p d).phases[n.val] = d.phases[n.val] := by
  unfold phasesMid
  rw [setPhases_retired _ _ (by simpa using h)]
  simp

/-- A census that starts changes the phase it measures. -/
theorem censusBegin_other {n m : Fin 64} (h : n ≠ m) (d : Dev) : (censusBegin m d).phases[n.val] = d.phases[n.val] := by
  unfold censusBegin
  dsimp only
  split <;> simp [upd_other _ _ h]

theorem censusBegin_self (n : Fin 64) (d : Dev) : ((censusBegin n d).phases[n.val]).state = .census := by
  unfold censusBegin
  dsimp only
  split <;> simp

theorem censusNext_retired {n : Fin 64} {d : Dev} (e : Fin 4) (h : (d.phases[n.val]).due = false) :
    (censusNext e d).phases[n.val] = d.phases[n.val] := by
  unfold censusNext
  dsimp only
  split
  · rfl
  · split
    · rename_i m hm
      have := List.find?_some hm
      exact censusBegin_other (fun e => by subst e; simp [h] at this) d
    · rfl

theorem censusStart_retired {n : Fin 64} {d : Dev} (l : List (Fin 64)) (hn : n ∉ l) (h : (d.phases[n.val]).due = false) :
    (censusStart l d).phases[n.val] = d.phases[n.val] := by
  have a : (forEach l (fun n x => onPhase n (fun f =>
    if phasePg x n || f.state == .switching then { f with due := true } else { f with state := .pending, census := 3 }) x) d).phases[n.val] = d.phases[n.val] := by
    clear h
    induction l generalizing d with
    | nil => rfl
    | cons m l ih =>
      have : n ≠ m := fun e => hn (e ▸ List.mem_cons_self ..)
      show (forEach l _ (onPhase m _ d)).phases[n.val] = _
      rw [ih (fun e => hn (List.mem_cons_of_mem _ e))]
      simp [upd_other _ _ this]
  unfold censusStart
  refine forEach_keeps (P := fun x => x.phases[n.val] = d.phases[n.val]) (fun e x hx => ?_) a
  rw [censusNext_retired _ (by rw [hx, h]), hx]

theorem takePhases_retired {n : Fin 64} {d : Dev} (f : Fin 64 → Bool) (new : ImageCfg) (h : (d.phases[n.val]).state = .retired)
    (hd : (d.phases[n.val]).due = false) : (takePhases f new d).phases[n.val] = d.phases[n.val] := by
  have a : ∀ (l : List (Fin 64)) (x : Dev), x.phases = d.phases → (forEach l (fun n => onPhase n fun x =>
      if x.state == .retired then x else if (new.phases[n]).isSome then { x with state := .idle } else { x with state := .unused, due := false }) x).phases[n.val] = d.phases[n.val] := by
    intro l x e
    refine forEach_keeps (P := fun x => x.phases[n.val] = d.phases[n.val]) (fun m y e => ?_) (by rw [e])
    rw [← e]
    simp only [onPhase_phases, upd_get]
    split
    · simp [e, h]
    · rfl
  have c : ∀ (l : List (Fin 64)) (x : Dev), n ∉ l → x.phases[n.val] = d.phases[n.val] → (censusStart l x).phases[n.val] = d.phases[n.val] :=
    fun l x hn e => (censusStart_retired l hn (by rw [e, hd])).trans e
  unfold takePhases
  dsimp only
  refine c _ _ ?_ ?_
  · simp [h]
  · refine a _ _ ?_
    rfl

theorem updateCap_phases (p : Fin 32) (d : Dev) : (updateCap p d).phases = d.phases := by
  unfold updateCap onlyIf
  dsimp only
  split <;> simp

theorem takeDeferred_retired {n : Fin 64} {d : Dev} (p : Fin 32) (h : (d.phases[n.val]).state = .retired) (hd : (d.phases[n.val]).due = false) :
    (takeDeferred p d).phases[n.val] = d.phases[n.val] := by
  unfold takeDeferred
  split
  · rfl
  · dsimp only
    simp only [applyChans_frame, updateCap_phases]
    refine (takePhases_retired _ _ ?_ ?_).trans ?_
    · exact h
    · exact hd
    · rfl

theorem dropAttach_retired {n : Fin 64} {d : Dev} (p : Fin 32) (h : (d.phases[n.val]).state = .retired) (hd : (d.phases[n.val]).due = false) :
    (dropAttach p d).phases[n.val] = d.phases[n.val] := by
  unfold dropAttach
  dsimp only
  split
  · rw [takeDeferred_retired _ (by simpa using h) (by simpa using hd)]
    simp
  · rw [takeDeferred_retired _ (by simpa using h) (by simpa using hd)]
    simp

theorem errorRecovery_retired {n : Fin 64} {d : Dev} (p : Fin 32) (why : Nat) (h : (d.phases[n.val]).state = .retired)
    (hd : (d.phases[n.val]).due = false) : (errorRecovery p why d).phases[n.val] = d.phases[n.val] := by
  have t : (stopByHub p why (stopTimers (tcTimers p) d)).phases[n.val] = d.phases[n.val] := by
    have t := phasesMid_retired (d := stopTimers (tcTimers p) d) p (by simpa using h)
    unfold stopByHub toDie
    split
    · split <;> simp
    · split <;> simpa [stopPort] using t
  unfold errorRecovery
  dsimp only
  simp only [apply_ite Dev.phases]
  simp only [setTc_frame, divide_frame, ite_self]
  split
  · rfl
  · split
    · simpa [onlyIf] using t
    · rw [dropAttach_retired _ (by simp [t, h]) (by simp [t, hd])]
      simp [t]

theorem afterRetire_retired {n : Fin 64} {d : Dev} (m : Fin 64) (h : (d.phases[n.val]).state = .retired)
    (hd : (d.phases[n.val]).due = false) :
    (afterRetire m d).phases[n.val] = d.phases[n.val] := by
  unfold afterRetire
  split
  · rfl
  · split
    · exact errorRecovery_retired _ _ h hd
    · split <;> simp

/-- What a retired phase shows (05 R223). -/
theorem retire_self {n : Fin 64} {d : Dev} (why : Nat) (h : (d.phases[n.val]).state ≠ .retired) :
    (retire n why d).phases[n.val] =
      { d.phases[n.val] with state := .retired, why := why, retire := true, due := false, de := false, skip := false, event := setBit (d.phases[n.val]).event 0 } := by
  have t : (retirePhase n why d).phases[n.val] =
      { d.phases[n.val] with state := .retired, why := why, retire := true, due := false, de := false, skip := false, event := setBit (d.phases[n.val]).event 0 } := by
    unfold retirePhase
    simp only [Fin.getElem_fin, beq_iff_eq, h, if_false]
    split <;> simp [updateCap, onlyIf] <;> (try split) <;> simp
  unfold retire
  simp only [Fin.getElem_fin, beq_iff_eq, h, if_false]
  rw [afterRetire_retired _ (by rw [t]) (by rw [t])]
  exact t

@[simp] theorem retire_frame (n : Fin 64) (why : Nat) (d : Dev) : (retire n why d).cfgNew = d.cfgNew ∧ (retire n why d).groups = d.groups ∧ (retire n why d).convs = d.convs ∧ (retire n why d).posts = d.posts ∧ (retire n why d).ledger = d.ledger ∧ (retire n why d).twin = d.twin ∧ (retire n why d).tmr = d.tmr ∧ (retire n why d).alarms = d.alarms ∧ (retire n why d).itms = d.itms ∧ (retire n why d).sources = d.sources ∧ (retire n why d).net = d.net ∧ (retire n why d).upd = d.upd ∧ (retire n why d).parcel = d.parcel ∧ (retire n why d).tap = d.tap ∧ (retire n why d).host.jobs = d.host.jobs := by
  unfold retire
  split <;> simp

theorem retire_mode (n : Fin 64) (why : Nat) (d : Dev) : (retire n why d).sys.mode = d.sys.mode := by
  unfold retire
  split
  · rfl
  · simp only [afterRetire_frame]
    unfold retirePhase
    split
    · rfl
    · dsimp only
      split <;> simp [setRetired]

/-- A retirement brings and loses no link (05 R223), so what was quiet before it is so after it. -/
theorem retire_links (n : Fin 64) (why : Nat) (d : Dev) : (retire n why d).sys.retraining = d.sys.retraining := by
  unfold retire
  split
  · rfl
  · simp only [afterRetire_frame]
    unfold retirePhase
    split
    · rfl
    · dsimp only
      split <;> simp [setRetired]

theorem retire_quiet {m : Fin 768} {d : Dev} (n : Fin 64) (why : Nat) (h : Quiet d m) : Quiet (retire n why d) m :=
  ⟨by have := h.1; simpa using this, by unfold lostLink; rw [retire_links]; exact h.2⟩

/-! The debounce of a port stays (03 R107). -/

@[simp] theorem sendCapsNow_deb (p i : Fin 32) (d : Dev) : ((sendCapsNow p d).pd[i.val]).deb = (d.pd[i.val]).deb := by
  unfold sendCapsNow
  dsimp only
  repeat' split
  all_goals simp [upd_get]
  all_goals repeat' split
  all_goals simp

@[simp] theorem offerCaps_deb (p i : Fin 32) (d : Dev) : ((offerCaps p d).pd[i.val]).deb = (d.pd[i.val]).deb := by
  unfold offerCaps
  dsimp only
  repeat' split
  all_goals simp [upd_get]
  all_goals repeat' split
  all_goals rfl

@[simp] theorem handFollow_deb (p i : Fin 32) (old : Port) (l : List CutOffer) (asked : Bool) (d : Dev) : ((handFollow old l p asked d).pd[i.val]).deb = (d.pd[i.val]).deb := by
  unfold handFollow
  dsimp only
  repeat' split
  all_goals simp [upd_get]
  all_goals repeat' split
  all_goals rfl

@[simp] theorem takeTarget_deb (p i : Fin 32) (t : Nat) (asked : Bool) (d : Dev) : ((takeTarget p t asked d).pd[i.val]).deb = (d.pd[i.val]).deb := by
  unfold takeTarget
  dsimp only
  rw [handFollow_deb]
  split
  · simp [upd_get]; split <;> rfl
  · unfold onlyIf
    split <;> simp [upd_get] <;> split <;> rfl

theorem forEach_takeTarget_deb (p i : Fin 32) (l : List (Fin 32 × Nat)) (d : Dev) :
    ((forEach l (fun x => takeTarget x.1 x.2 (x.1 == p)) d).pd[i.val]).deb = (d.pd[i.val]).deb := by
  unfold forEach
  induction l generalizing d with
  | nil => rfl
  | cons x l ih => rw [List.foldl_cons, ih, takeTarget_deb]

@[simp] theorem divide_deb (i : Fin 32) (d : Dev) : ((divide d).pd[i.val]).deb = (d.pd[i.val]).deb := by
  unfold divide
  split
  · rfl
  · refine forEach_keeps (P := fun x => (x.pd[i.val]).deb = (d.pd[i.val]).deb) (fun m x e => ?_) rfl
    rw [takeTarget_deb, e]

@[simp] theorem pdAbandon_deb (p i : Fin 32) (d : Dev) : ((pdAbandon p d).pd[i.val]).deb = (d.pd[i.val]).deb := by
  simp [pdAbandon, upd_get]; split <;> rfl

@[simp] theorem endContract_deb (p i : Fin 32) (d : Dev) : ((endContract p d).pd[i.val]).deb = (d.pd[i.val]).deb := by
  simp [endContract, clearContract, upd_get]; split <;> rfl

@[simp] theorem updateCap_deb (p i : Fin 32) (d : Dev) : ((updateCap p d).pd[i.val]).deb = (d.pd[i.val]).deb := by
  unfold updateCap onlyIf
  dsimp only
  split
  · simp [portEvent, upd_get]; split <;> rfl
  · simp

@[simp] theorem takeDeferred_deb (p i : Fin 32) (d : Dev) : ((takeDeferred p d).pd[i.val]).deb = (d.pd[i.val]).deb := by
  unfold takeDeferred
  split
  · rfl
  · simp

@[simp] theorem dropAttach_deb (p i : Fin 32) (d : Dev) : ((dropAttach p d).pd[i.val]).deb = (d.pd[i.val]).deb := by
  unfold dropAttach
  dsimp only
  split
  · rw [takeDeferred_deb]
    have e : ((portEvent p 1 d).pd[i.val]).deb = (d.pd[i.val]).deb := by
      simp only [portEvent_pd, upd_get]
      split <;> rfl
    simp [upd_get]
    split <;> simp_all [upd_get]
  · rw [takeDeferred_deb]
    simp

@[simp] theorem stopPort_deb (p i : Fin 32) (why : Nat) (d : Dev) : ((stopPort p why d).pd[i.val]).deb = (d.pd[i.val]).deb := by
  simp [stopPort, phasesMid, upd_get]; split <;> rfl

@[simp] theorem stopByHub_deb (p i : Fin 32) (why : Nat) (d : Dev) : ((stopByHub p why d).pd[i.val]).deb = (d.pd[i.val]).deb := by
  unfold stopByHub toDie
  repeat' split
  all_goals simp
@[simp] theorem presentOpen_deb (p i : Fin 32) (d : Dev) : ((presentOpen p d).pd[i.val]).deb = (d.pd[i.val]).deb := by
  simp [presentOpen]

@[simp] theorem portEvent_deb (p i : Fin 32) (k : Nat) (d : Dev) : ((portEvent p k d).pd[i.val]).deb = (d.pd[i.val]).deb := by
  simp only [portEvent_pd, upd_get]
  split <;> rfl

@[simp] theorem errorRecovery_deb (p i : Fin 32) (why : Nat) (d : Dev) : ((errorRecovery p why d).pd[i.val]).deb = (d.pd[i.val]).deb := by
  unfold errorRecovery
  dsimp only
  split
  · rfl
  · split
    · unfold onlyIf
      split
      · rw [portEvent_deb]
        simp
      · simp
    · split <;> simp

@[simp] theorem afterRetire_deb (n : Fin 64) (i : Fin 32) (d : Dev) : ((afterRetire n d).pd[i.val]).deb = (d.pd[i.val]).deb := by
  unfold afterRetire
  split
  · rfl
  · split
    · simp
    · split <;> simp

@[simp] theorem retirePhase_deb (n : Fin 64) (i : Fin 32) (why : Nat) (d : Dev) : ((retirePhase n why d).pd[i.val]).deb = (d.pd[i.val]).deb := by
  unfold retirePhase
  split
  · rfl
  · dsimp only
    split
    · rw [updateCap_deb]; simp
    · simp

@[simp] theorem retire_deb (n : Fin 64) (i : Fin 32) (why : Nat) (d : Dev) : ((retire n why d).pd[i.val]).deb = (d.pd[i.val]).deb := by
  unfold retire
  split <;> simp

/-- A port that is not debounced attaches nothing (03 R107, R108). -/
theorem tryAttachAll_idle {d : Dev} (h : ∀ q : Fin 32, (d.pd[q.val]).deb = false) : tryAttachAll d = d := by
  unfold tryAttachAll
  refine forEach_keeps (P := fun x => x = d) (fun q x e => ?_) rfl
  subst e
  unfold tryAttach
  simp [h]

/-! A report leaves the graces that run (11 R435). -/

theorem backlogDrain_graces (k : Nat) (d : Dev) : (backlogDrain k d).coll.graces = d.coll.graces := by
  induction k generalizing d with
  | zero => rfl
  | succ k ih =>
    unfold backlogDrain
    split
    · split
      · split
        · rw [ih]; simp
        · rfl
      · rfl
    · rfl

@[simp] theorem report_graces (n : Fin 768) (k : Report) (sb g : Bool) (stamp master index : Nat) (d : Dev) :
    (report n k sb g stamp master index d).coll.graces = d.coll.graces := by
  have f : ∀ b x, (faultBit n b x).coll.graces = x.coll.graces := by
    intro b x; unfold faultBit; split <;> simp [onlyIf]; split <;> simp [collEvent]
  unfold report
  dsimp only
  split
  · unfold sendMsg backlogPut
    rw [backlogDrain_graces]
    dsimp only
    split <;> simp [collEvent]
  · split <;> simp [f]

end Sys2Proof.Machine
end

