-- ==== Sys2Proof/Laws/Complete.lean ====
section
/-! SUPPORT. What the completion of a command and a discard leave of the host interface: everything but the accepted commands and the rings (12 R478, R481, R495). -/

namespace Sys2Proof.Machine

@[simp] theorem complete_host (c : CmdRef) (op : Nat) (k : Code) (r : List Byte) (d : Dev) : (complete c op k r d).host.event = d.host.event ∧ (complete c op k r d).host.irqen = d.host.irqen ∧ (complete c op k r d).host.owner = d.host.owner ∧ (complete c op k r d).host.successor = d.host.successor ∧ (complete c op k r d).host.window = d.host.window ∧ (complete c op k r d).host.changes = d.host.changes ∧ (complete c op k r d).host.leaseEnd = d.host.leaseEnd ∧ (complete c op k r d).host.hostLoaded = d.host.hostLoaded ∧ (complete c op k r d).host.irqA = d.host.irqA ∧ (complete c op k r d).host.irqB = d.host.irqB ∧ (complete c op k r d).host.spiDummy = d.host.spiDummy ∧ (complete c op k r d).host.spiCount = d.host.spiCount ∧ (complete c op k r d).host.spiCrc = d.host.spiCrc ∧ (complete c op k r d).host.spiAbort = d.host.spiAbort ∧ (complete c op k r d).host.baud = d.host.baud ∧ (complete c op k r d).host.uartFrames = d.host.uartFrames ∧ (complete c op k r d).host.uartCrc = d.host.uartCrc ∧ (complete c op k r d).host.uartDrops = d.host.uartDrops ∧ (complete c op k r d).host.masters = d.host.masters ∧ (complete c op k r d).host.kept = d.host.kept := by
  unfold complete
  dsimp only
  split <;> simp

@[simp] theorem discardJobs_host (f : Job → Bool) (d : Dev) : (discardJobs f d).host.event = d.host.event ∧ (discardJobs f d).host.irqen = d.host.irqen ∧ (discardJobs f d).host.owner = d.host.owner ∧ (discardJobs f d).host.successor = d.host.successor ∧ (discardJobs f d).host.window = d.host.window ∧ (discardJobs f d).host.changes = d.host.changes ∧ (discardJobs f d).host.leaseEnd = d.host.leaseEnd ∧ (discardJobs f d).host.hostLoaded = d.host.hostLoaded ∧ (discardJobs f d).host.irqA = d.host.irqA ∧ (discardJobs f d).host.irqB = d.host.irqB ∧ (discardJobs f d).host.spiDummy = d.host.spiDummy ∧ (discardJobs f d).host.spiCount = d.host.spiCount ∧ (discardJobs f d).host.spiCrc = d.host.spiCrc ∧ (discardJobs f d).host.spiAbort = d.host.spiAbort ∧ (discardJobs f d).host.baud = d.host.baud ∧ (discardJobs f d).host.uartFrames = d.host.uartFrames ∧ (discardJobs f d).host.uartCrc = d.host.uartCrc ∧ (discardJobs f d).host.uartDrops = d.host.uartDrops ∧ (discardJobs f d).host.masters = d.host.masters ∧ (discardJobs f d).host.kept = d.host.kept := by
  unfold discardJobs
  refine ⟨?_, ?_, ?_, ?_, ?_, ?_, ?_, ?_, ?_, ?_, ?_, ?_, ?_, ?_, ?_, ?_, ?_, ?_, ?_, ?_⟩
  · exact forEach_keeps (P := fun x => x.host.event = d.host.event) (fun j x e => by simpa using e) rfl
  · exact forEach_keeps (P := fun x => x.host.irqen = d.host.irqen) (fun j x e => by simpa using e) rfl
  · exact forEach_keeps (P := fun x => x.host.owner = d.host.owner) (fun j x e => by simpa using e) rfl
  · exact forEach_keeps (P := fun x => x.host.successor = d.host.successor) (fun j x e => by simpa using e) rfl
  · exact forEach_keeps (P := fun x => x.host.window = d.host.window) (fun j x e => by simpa using e) rfl
  · exact forEach_keeps (P := fun x => x.host.changes = d.host.changes) (fun j x e => by simpa using e) rfl
  · exact forEach_keeps (P := fun x => x.host.leaseEnd = d.host.leaseEnd) (fun j x e => by simpa using e) rfl
  · exact forEach_keeps (P := fun x => x.host.hostLoaded = d.host.hostLoaded) (fun j x e => by simpa using e) rfl
  · exact forEach_keeps (P := fun x => x.host.irqA = d.host.irqA) (fun j x e => by simpa using e) rfl
  · exact forEach_keeps (P := fun x => x.host.irqB = d.host.irqB) (fun j x e => by simpa using e) rfl
  · exact forEach_keeps (P := fun x => x.host.spiDummy = d.host.spiDummy) (fun j x e => by simpa using e) rfl
  · exact forEach_keeps (P := fun x => x.host.spiCount = d.host.spiCount) (fun j x e => by simpa using e) rfl
  · exact forEach_keeps (P := fun x => x.host.spiCrc = d.host.spiCrc) (fun j x e => by simpa using e) rfl
  · exact forEach_keeps (P := fun x => x.host.spiAbort = d.host.spiAbort) (fun j x e => by simpa using e) rfl
  · exact forEach_keeps (P := fun x => x.host.baud = d.host.baud) (fun j x e => by simpa using e) rfl
  · exact forEach_keeps (P := fun x => x.host.uartFrames = d.host.uartFrames) (fun j x e => by simpa using e) rfl
  · exact forEach_keeps (P := fun x => x.host.uartCrc = d.host.uartCrc) (fun j x e => by simpa using e) rfl
  · exact forEach_keeps (P := fun x => x.host.uartDrops = d.host.uartDrops) (fun j x e => by simpa using e) rfl
  · exact forEach_keeps (P := fun x => x.host.masters = d.host.masters) (fun j x e => by simpa using e) rfl
  · exact forEach_keeps (P := fun x => x.host.kept = d.host.kept) (fun j x e => by simpa using e) rfl

/-! A port that is being disabled (03 R125). -/

@[simp] theorem sendCapsNow_disabling (p i : Fin 32) (d : Dev) : ((sendCapsNow p d).pd[i.val]).disabling = (d.pd[i.val]).disabling := by
  unfold sendCapsNow
  dsimp only
  repeat' split
  all_goals simp [upd_get]
  all_goals repeat' split
  all_goals simp

@[simp] theorem offerCaps_disabling (p i : Fin 32) (d : Dev) : ((offerCaps p d).pd[i.val]).disabling = (d.pd[i.val]).disabling := by
  unfold offerCaps
  dsimp only
  repeat' split
  all_goals simp [upd_get]
  all_goals repeat' split
  all_goals rfl

@[simp] theorem handFollow_disabling (p i : Fin 32) (old : Port) (l : List CutOffer) (asked : Bool) (d : Dev) : ((handFollow old l p asked d).pd[i.val]).disabling = (d.pd[i.val]).disabling := by
  unfold handFollow
  dsimp only
  repeat' split
  all_goals simp [upd_get]
  all_goals repeat' split
  all_goals rfl

@[simp] theorem takeTarget_disabling (p i : Fin 32) (t : Nat) (asked : Bool) (d : Dev) : ((takeTarget p t asked d).pd[i.val]).disabling = (d.pd[i.val]).disabling := by
  unfold takeTarget
  dsimp only
  rw [handFollow_disabling]
  split
  · simp [upd_get]; split <;> rfl
  · unfold onlyIf
    split <;> simp [upd_get] <;> split <;> rfl

theorem forEach_takeTarget_disabling (p i : Fin 32) (l : List (Fin 32 × Nat)) (d : Dev) :
    ((forEach l (fun x => takeTarget x.1 x.2 (x.1 == p)) d).pd[i.val]).disabling = (d.pd[i.val]).disabling := by
  unfold forEach
  induction l generalizing d with
  | nil => rfl
  | cons x l ih => rw [List.foldl_cons, ih, takeTarget_disabling]

@[simp] theorem divide_disabling (i : Fin 32) (d : Dev) : ((divide d).pd[i.val]).disabling = (d.pd[i.val]).disabling := by
  unfold divide
  split
  · rfl
  · refine forEach_keeps (P := fun x => (x.pd[i.val]).disabling = (d.pd[i.val]).disabling) (fun m x e => ?_) rfl
    rw [takeTarget_disabling, e]


/-- A port that has entered Disabled (03 R125, R127). -/
theorem enterDisabled_self {p : Fin 32} {d : Dev} (high : Bool) (hl : lostPort d p = false) : ((enterDisabled p high d).pd[p.val]).disabling = false ∧
    ((enterDisabled p high d).ports[p.val]).tc = .disabled ∧ ((enterDisabled p high d).ports[p.val]).enabled = false ∧
    ((enterDisabled p high d).ports[p.val]).vbusHigh = high ∧ ((enterDisabled p high d).loops[p.val]).switching = false ∧
    guardOn ((enterDisabled p high d).guards[p.val]) = false := by
  have t := stopPort_self p 0 (dropAttach p (stopTimers (.portDisableTimeout p :: .hiccupOffTimeExpiry p :: .hiccupAgeOut p :: tcTimers p) d))
  have k : ∀ (l : List Job) (r : List Byte) (x : Dev), (forEach l (fun j x => complete j.ref j.opcode .done r x) x).pd = x.pd ∧
      (forEach l (fun j x => complete j.ref j.opcode .done r x) x).ports = x.ports ∧ (forEach l (fun j x => complete j.ref j.opcode .done r x) x).loops = x.loops ∧
      (forEach l (fun j x => complete j.ref j.opcode .done r x) x).guards = x.guards := by intro l r x; simp
  generalize hx : clearFence p (clearGuard p (stopPort p 0 (dropAttach p (stopTimers (.portDisableTimeout p :: .hiccupOffTimeExpiry p :: .hiccupAgeOut p :: tcTimers p) d)))) = x
  have x1 : (x.loops[p.val]).switching = false ∧ guardOn (x.guards[p.val]) = false := by
    rw [← hx]
    refine ⟨by simpa [clearFence, clearGuard] using t.2.1, ?_⟩
    have g := t.1
    simp only [guardOn_state] at g ⊢
    simp [clearFence, clearGuard]
    split <;> simp_all
  generalize hy : discharge p (!isSnkAttached (d.ports[p]).tc) (onPd p (fun x => { x with disabling := false, leaving := false }) (presentOpen p
    (onPort p (fun q => { q with tc := .disabled, startFail := false, vbusHigh := high, enabled := false, minAtt := false })
      (onLoop p (fun l => { l with hc := 0, hiccup := false, latched := false, lc := 0 }) x)))) = y
  have y1 : (y.pd[p.val]).disabling = false ∧ (y.ports[p.val]).tc = .disabled ∧ (y.ports[p.val]).enabled = false ∧ (y.ports[p.val]).vbusHigh = high ∧
      (y.loops[p.val]).switching = false ∧ guardOn (y.guards[p.val]) = false := by
    have g := x1.2
    rw [guardOn_state] at g
    rw [← hy, guardOn_state]
    refine ⟨?_, ?_, ?_, ?_, ?_, ?_⟩ <;> simp [presentOpen, discharge, x1]
    simpa using g
  have e : enterDisabled p high d = if isSrcAttached (d.ports[p]).tc then divide (forEach (y.host.jobs.filter fun j => j.opcode == opPortDisable && j.port == some p)
      (fun j x => complete j.ref j.opcode .done [if high then 1 else 0] x) y)
    else forEach (y.host.jobs.filter fun j => j.opcode == opPortDisable && j.port == some p) (fun j x => complete j.ref j.opcode .done [if high then 1 else 0] x) y := by
    unfold enterDisabled
    dsimp only
    rw [stopByHub_up 0 hl (by simp), hx, hy]
  have g := y1.2.2.2.2.2
  rw [e]
  rw [guardOn_state] at g ⊢
  split
  · simpa [k, y1] using g
  · simpa [k, y1] using g

/-! Rings: what a completion leaves of the rings that are not its own, and a fetch that is due. -/

@[simp] theorem putCompletion_ring (c : CmdRef) (b : List Byte) (r : Fin 16) (d : Dev) (h : pairOf d c.ring ≠ some r) :
    ((putCompletion c b d).host.rings[r.val]) = d.host.rings[r.val] := by
  unfold putCompletion
  split
  · rfl
  · rename_i q e
    have n : r ≠ q := fun k => h (k ▸ e)
    split
    · rfl
    · have n' : (q : Nat) ≠ (r : Nat) := fun k => n (Fin.ext k.symm)
      split <;> simp [ringPut, upd_other, n, n']

theorem complete_ring (c : CmdRef) (op : Nat) (k : Code) (l : List Byte) (r : Fin 16) (d : Dev) (h : pairOf d c.ring ≠ some r)
    (hop : op / 256 ≠ 2) : ((complete c op k l d).host.rings[r.val]) = d.host.rings[r.val] := by
  unfold complete
  simp only [hop, if_false]
  rw [putCompletion_ring]
  · simp
  · simpa [pairOf] using h

theorem refetch_runs (r : Fin 16) (d : Dev) : timerRuns (refetch r d) (.commandFetch r) = true := by
  unfold refetch
  split
  · assumption
  · simp [timerRuns, post]

/-- A source port that has a live phase goes to Unattached.SRC, where it sees its pins (03 R107). -/
theorem toUnattached_source {p : Fin 32} {d : Dev} (h1 : canSource d p = true) (h2 : isDrp d p = false) (h3 : livePhases d p ≠ []) :
    toUnattached p d = ccSee p (presentRp p (setTc p .unattachedSrc (stopTimers (tcTimers p) d))) := by
  have r : rolesOf d p ≠ 1 := by intro k; simp [canSource, k] at h1
  simp [toUnattached, h1, h2, h3, r]

end Sys2Proof.Machine
end

