-- ==== Sys2Proof/Laws/Feeds.lean ====
section
/-! SUPPORT. What the feed guards' shared operations leave in a feed: its gate off, its latch, its power-good lost (07 R276, R278, R282, R291). -/

namespace Sys2Proof.Machine

theorem get_upd_feed (v : Vector Feed 4) (i j : Fin 4) (g : Feed → Feed) : (upd v i g)[j.val] = if j = i then g v[j.val] else v[j.val] := upd_get v i j g

/-- A gate that is off (07 R276): no limit, the fault timer reset, no power-good; the state as it was. -/
theorem gateOff_feed (f : Fin 4) (d : Dev) : ((gateOff f d).feeds[f.val]).limiting = false ∧ ((gateOff f d).feeds[f.val]).foldback = false ∧
    ((gateOff f d).feeds[f.val]).pg = false ∧ ((gateOff f d).feeds[f.val]).pgWarn = false ∧
    ((gateOff f d).feeds[f.val]).state = (d.feeds[f.val]).state ∧ ((gateOff f d).feeds[f.val]).inWindow = (d.feeds[f.val]).inWindow ∧
    ((gateOff f d).feeds[f.val]).inUv = (d.feeds[f.val]).inUv ∧ ((gateOff f d).feeds[f.val]).inOv = (d.feeds[f.val]).inOv ∧
    ((gateOff f d).feeds[f.val]).hot = (d.feeds[f.val]).hot ∧ ((gateOff f d).feeds[f.val]).fen = (d.feeds[f.val]).fen ∧
    ((gateOff f d).feeds[f.val]).latchWhy = (d.feeds[f.val]).latchWhy ∧ ((gateOff f d).feeds[f.val]).blocking = (d.feeds[f.val]).blocking ∧
    ((gateOff f d).feeds[f.val]).trips = (d.feeds[f.val]).trips := by
  unfold gateOff onlyIf
  dsimp only
  split <;> simp [feedEvent]

theorem gateOff_other (f i : Fin 4) (d : Dev) (h : i ≠ f) : (gateOff f d).feeds[i.val] = d.feeds[i.val] := by
  unfold gateOff onlyIf
  dsimp only
  split <;> simp [feedEvent, upd_other _ _ h]

/-- A feed that returns to WAIT (07 R278). -/
theorem feedToWait_feed (f : Fin 4) (d : Dev) : ((feedToWait f d).feeds[f.val]).state = .wait ∧ ((feedToWait f d).feeds[f.val]).pg = false ∧
    ((feedToWait f d).feeds[f.val]).inWindow = (d.feeds[f.val]).inWindow ∧
    ((feedToWait f d).feeds[f.val]).inUv = (d.feeds[f.val]).inUv ∧ ((feedToWait f d).feeds[f.val]).inOv = (d.feeds[f.val]).inOv := by
  have g := gateOff_feed f d
  simp [feedToWait, g]

theorem feedToWait_other (f i : Fin 4) (d : Dev) (h : i ≠ f) : (feedToWait f d).feeds[i.val] = d.feeds[i.val] := by
  simp [feedToWait, upd_other _ _ h, gateOff_other _ _ _ h]

/-- A feed that latches (07 R282). -/
theorem latchFeed_feed (f : Fin 4) (why : Nat) (d : Dev) : ((latchFeed f why d).feeds[f.val]).state = .latched ∧ ((latchFeed f why d).feeds[f.val]).pg = false ∧
    ((latchFeed f why d).feeds[f.val]).latchWhy = why ∧ ((latchFeed f why d).feeds[f.val]).trips = inc8 (d.feeds[f.val]).trips ∧
    ((latchFeed f why d).feeds[f.val]).hot = (d.feeds[f.val]).hot := by
  have g := gateOff_feed f d
  simp [latchFeed, g]

/-- A gate that goes off with PG_LOSS (07 R291): what follows of the feed is as if it went off alone. -/
theorem gateOffLoss_feed {f : Fin 4} {after : Dev → Dev} {d : Dev} (h : Quiet d (feedSrc f 6)) (ha : ∀ x, (after x).sources = x.sources)
    (hy : ∀ x, (after x).sys = x.sys) :
    ∃ x : Dev, x.sources = d.sources ∧ (∀ i : Fin 4, (x.feeds[i.val]).state = (d.feeds[i.val]).state ∧ (x.feeds[i.val]).hot = (d.feeds[i.val]).hot ∧
        (x.feeds[i.val]).trips = (d.feeds[i.val]).trips ∧ (x.feeds[i.val]).inUv = (d.feeds[i.val]).inUv ∧ (x.feeds[i.val]).inOv = (d.feeds[i.val]).inOv ∧
        (x.feeds[i.val]).inWindow = (d.feeds[i.val]).inWindow) ∧
      (∀ i : Fin 4, ((gateOffLoss f after d).feeds[i.val]).noFault = ((after x).feeds[i.val]).noFault) ∧
      (∀ m : Fin 768, (takeLater ((gateOffLoss f after d).sources[m.val])).action = (takeLater d.sources[m.val]).action) ∧
      ((d.feeds[f.val]).pg = true → ((gateOffLoss f after d).sources[(feedSrc f 6).val]).latch = true) := by
  have hr : ∀ f : Fin 4, (srcRow (feedSrc f 6).val).isSome = true := by decide
  have k : Quiet (after (onFeed f (fun x => { x with pgLosses := inc8 x.pgLosses }) d)) (feedSrc f 6) := quiet_of h (by rw [ha]; rfl) (by rw [hy]; rfl)
  by_cases g : (d.feeds[f.val]).pg = true
  · refine ⟨onFeed f (fun x => { x with pgLosses := inc8 x.pgLosses }) d, rfl, fun i => ?_, ?_, ?_, ?_⟩
    · simp only [onFeed_feeds, upd_get]
      split <;> simp
    · intro i
      unfold gateOffLoss
      rw [if_pos (by simpa using g)]
      unfold raise
      rw [raiseStamped_up k.2]
      exact raiseWith_quiet_feeds k.1 i
    · intro m
      unfold gateOffLoss
      rw [if_pos (by simpa using g)]
      rw [raise_quiet_next k]
      simp [ha]
    · intro _
      unfold gateOffLoss
      rw [if_pos (by simpa using g)]
      exact raise_latch k (hr f)
  · refine ⟨d, rfl, fun i => by simp, ?_, ?_, fun k => absurd k g⟩
    · intro i
      unfold gateOffLoss
      rw [if_neg (by simpa using g)]
    · intro m
      unfold gateOffLoss
      rw [if_neg (by simpa using g), ha]

/-- A gate that goes off with PG_LOSS touches no port, guard, loop or channel, no configuration and not the system block. -/
theorem gateOffLoss_quiet {f : Fin 4} {after : Dev → Dev} {d : Dev} (h : Quiet d (feedSrc f 6)) (hs : ∀ x, (after x).sources = x.sources)
    (h1 : ∀ x, (after x).ports = x.ports) (h2 : ∀ x, (after x).guards = x.guards) (h3 : ∀ x, (after x).loops = x.loops)
    (h4 : ∀ x, (after x).chans = x.chans) (h5 : ∀ x, (after x).cfg = x.cfg) (h6 : ∀ x, (after x).sys = x.sys) :
    (gateOffLoss f after d).ports = d.ports ∧ (gateOffLoss f after d).guards = d.guards ∧ (gateOffLoss f after d).loops = d.loops ∧
    (gateOffLoss f after d).chans = d.chans ∧ (gateOffLoss f after d).cfg = d.cfg ∧ (gateOffLoss f after d).sys = d.sys := by
  unfold gateOffLoss
  split
  · have q := raise_quiet (n := feedSrc f 6) (d := after (onFeed f (fun x => { x with pgLosses := inc8 x.pgLosses }) d)) (quiet_of h (by rw [hs]; rfl) (by rw [h6]; rfl))
    simp [q, h1, h2, h3, h4, h5, h6]
  · simp [h1, h2, h3, h4, h5, h6]

end Sys2Proof.Machine
end

