-- ==== Sys2Proof/Laws/Owner.lean ====
section
/-! SUPPORT. What a change of owner leaves (12 R491 to R496). -/

namespace Sys2Proof.Machine

theorem ringPut_jobs (r : Fin 16) (c : RingCfg) (b : List Byte) (d : Dev) : (ringPut r c b d).host.jobs = d.host.jobs := rfl

theorem putCompletion_jobs (c : CmdRef) (b : List Byte) (d : Dev) : (putCompletion c b d).host.jobs = d.host.jobs := by
  unfold putCompletion
  split
  · rfl
  · split
    · rfl
    · split <;> simp

/-- A completed command is accepted no more (12 R478). -/
theorem complete_jobs (c : CmdRef) (op : Nat) (k : Code) (l : List Byte) (d : Dev) :
    (complete c op k l d).host.jobs = d.host.jobs.filter fun j => j.ref != c := by
  unfold complete
  dsimp only
  split <;> simp

theorem discard_mem {l : List Job} {d : Dev} {k : Job}
    (h : k ∈ (forEach l (fun j x => complete j.ref j.opcode .discarded [] (discardClean j x)) d).host.jobs) :
    k ∈ d.host.jobs ∧ ∀ j, j ∈ l → k.ref ≠ j.ref := by
  induction l generalizing d with
  | nil => exact ⟨h, fun j hj => absurd hj (List.not_mem_nil)⟩
  | cons j l ih =>
    have g := ih (d := complete j.ref j.opcode .discarded [] (discardClean j d)) h
    rw [complete_jobs] at g
    have m := List.mem_filter.mp g.1
    refine ⟨by simpa using m.1, fun i hi => ?_⟩
    rcases List.mem_cons.mp hi with e | e
    · subst e
      simpa using m.2
    · exact g.2 i e

theorem post_mem {t : Nat × Instr} {ev : Instr} {d : Dev} (h : t ∈ d.timers) : t ∈ (post ev d).timers := by
  simp [post, h]

theorem journal_mem {t : Nat × Instr} {cls : Fin 16} {l : List Byte} {d : Dev} (h : t ∈ d.timers) (n : t.2 ≠ .shedRecord) :
    t ∈ (journal cls l d).timers := by
  unfold journal journalM
  refine forEach_keeps (P := fun x => t ∈ x.timers) (fun _ x e => post_mem e) ?_
  unfold appendRaw
  split
  · exact h
  · dsimp only
    split <;> simp [startTimer, h, n]

/-- A change of owner (12 R495, R496). -/
theorem ownerChange_changes (o : Option (Fin 5)) (m : Nat) (d : Dev) : OwnerChanges o d (ownerChange o m d) := by
  have k : ∀ x, x ∈ (ownerChange o m d).host.jobs → x ∈ (discardJobs (ownerDiscards d) d).host.jobs := by
    intro x hx
    unfold ownerChange at hx
    cases o <;> simpa [leaseStart, leaseStop, sysEvent] using hx
  refine ⟨?_, ?_, ?_, ?_⟩
  · unfold ownerChange; cases o <;> simp [leaseStart, leaseStop, sysEvent]
  · unfold ownerChange; cases o <;> simp [leaseStart, leaseStop, sysEvent]
  · unfold ownerChange; cases o <;> simp [leaseStart, leaseStop, sysEvent]
  · intro j hj hd x hx
    exact (discard_mem (k x hx)).2 j (List.mem_filter.mpr ⟨hj, hd⟩)

/-- The new owner has a full lease (12 R493). -/
theorem ownerChange_lease (w : Fin 5) (m : Nat) (d : Dev) : FullLease d (ownerChange (some w) m d) := by
  unfold ownerChange
  refine ⟨?_, ?_, ?_⟩
  · simp [leaseStart, sysEvent]
  · refine journal_mem ?_ (by simp)
    simp [leaseStart, sysEvent, startTimer]
  · refine journal_mem ?_ (by simp)
    simp [leaseStart, sysEvent, startTimer]

/-- The better of two claimants, the earlier one where they are equal. -/
theorem best_stays (p : Fin 5 → Nat) (l : List (Fin 5)) (m : Fin 5) (h : ∀ n, n ∈ l → p n ≤ p m) :
    l.foldl (fun (a : Option (Fin 5)) n => match a with | none => some n | some b => if p b < p n then some n else some b) (some m) = some m := by
  induction l with
  | nil => rfl
  | cons n l ih =>
    have g : ¬ p m < p n := Nat.not_lt.mpr (h n (List.mem_cons_self ..))
    simp only [List.foldl_cons, g, if_false]
    exact ih fun i hi => h i (List.mem_cons_of_mem _ hi)

theorem best_found (p : Fin 5 → Nat) (l1 l2 : List (Fin 5)) (m : Fin 5) (a : Option (Fin 5)) (ha : ∀ b, a = some b → p b < p m)
    (h1 : ∀ n, n ∈ l1 → p n < p m) (h2 : ∀ n, n ∈ l2 → p n ≤ p m) :
    (l1 ++ m :: l2).foldl (fun (a : Option (Fin 5)) n => match a with | none => some n | some b => if p b < p n then some n else some b) a = some m := by
  induction l1 generalizing a with
  | nil =>
    have g := best_stays p l2 m h2
    cases a with
    | none => exact g
    | some b => simpa [ha b rfl] using g
  | cons n l1 ih =>
    refine ih _ ?_ fun i hi => h1 i (List.mem_cons_of_mem _ hi)
    have hn := h1 n (List.mem_cons_self ..)
    intro b hb
    cases a with
    | none => simp at hb; exact hb ▸ hn
    | some c =>
      have hc := ha c rfl
      dsimp only at hb
      split at hb <;> (simp at hb; subst hb; assumption)

/-- The claimant of the highest PRIO, and of equal PRIO the lowest index, wins (12 R491). -/
theorem winner_eq {d : Dev} {m : Fin 5} (h : (d.host.masters[m]).claiming = true)
    (k : ∀ n : Fin 5, n ≠ m → (d.host.masters[n]).claiming = true → (masterCfg d n).prio < (masterCfg d m).prio ∨
      ((masterCfg d n).prio = (masterCfg d m).prio ∧ m < n)) : winner d = some m := by
  have s : ∃ l1 l2, indices 5 = l1 ++ m :: l2 ∧ (∀ n, n ∈ l1 → n < m) ∧ ∀ n, n ∈ l2 → m < n := by
    have mm : m = 0 ∨ m = 1 ∨ m = 2 ∨ m = 3 ∨ m = 4 := by omega
    rcases mm with rfl | rfl | rfl | rfl | rfl
    · exact ⟨[], [1, 2, 3, 4], by decide⟩
    · exact ⟨[0], [2, 3, 4], by decide⟩
    · exact ⟨[0, 1], [3, 4], by decide⟩
    · exact ⟨[0, 1, 2], [4], by decide⟩
    · exact ⟨[0, 1, 2, 3], [], by decide⟩
  obtain ⟨l1, l2, e, b1, b2⟩ := s
  have f : (indices 5).filter (fun m => (d.host.masters[m]).claiming) =
      l1.filter (fun m => (d.host.masters[m]).claiming) ++ m :: l2.filter (fun m => (d.host.masters[m]).claiming) := by
    rw [e, List.filter_append, List.filter_cons, if_pos h]
  unfold winner
  rw [f]
  refine best_found (fun n => (masterCfg d n).prio) _ _ m none (by simp) ?_ ?_
  · intro n hn
    have g := List.mem_filter.mp hn
    have o := b1 n g.1
    rcases k n (by omega) g.2 with c | c
    · exact c
    · omega
  · intro n hn
    have g := List.mem_filter.mp hn
    have o := b2 n g.1
    rcases k n (by omega) g.2 with c | c <;> omega

end Sys2Proof.Machine
end

