-- ==== Sys2Proof/Laws/Ledger.lean ====
section
/-! SUPPORT. What the checks of the ledger leave where their sources have the action NONE (08 R346, R354), and frames sent. -/

namespace Sys2Proof.Machine

theorem levelSource_quiet {n : Fin 768} {b : Bool} {d : Dev} (h : Quiet d n) : (levelSource n b d).cfg = d.cfg ∧ (levelSource n b d).cfgNew = d.cfgNew ∧ (levelSource n b d).ports = d.ports ∧ (levelSource n b d).guards = d.guards ∧ (levelSource n b d).loops = d.loops ∧ (levelSource n b d).chans = d.chans ∧ (levelSource n b d).groups = d.groups ∧ (levelSource n b d).convs = d.convs ∧ (levelSource n b d).ledger = d.ledger ∧ (levelSource n b d).twin = d.twin ∧ (levelSource n b d).tmr = d.tmr ∧ (levelSource n b d).alarms = d.alarms ∧ (levelSource n b d).itms = d.itms ∧ (levelSource n b d).net = d.net ∧ (levelSource n b d).upd = d.upd ∧ (levelSource n b d).store = d.store ∧ (levelSource n b d).sys = d.sys ∧ (levelSource n b d).posts = d.posts := by
  unfold levelSource
  split
  · simp [raise_quiet h]
  · split <;> simp

theorem levelSource_next {n m : Fin 768} {b : Bool} {d : Dev} (h : Quiet d n) :
    (takeLater ((levelSource n b d).sources[m.val])).action = (takeLater d.sources[m.val]).action := by
  unfold levelSource
  split
  · exact raise_quiet_next h m
  · split
    · refine takeLater_action_of ?_ ?_ <;> (simp [condEnd, upd_get]; split <;> rfl)
    · rfl

/-- What stays at rest over the check of a level. -/
theorem levelSource_other {n m : Fin 768} {b : Bool} {d : Dev} (h : Quiet d n) (k : Quiet d m) : Quiet (levelSource n b d) m :=
  quiet_of k (levelSource_next h) (by simp only [levelSource_quiet h])

/-- A post link but for its discord with the neighbour. -/
def Post.link (x : Post) : Post := { x with peerDiscord := false, event := 0 }

theorem concordLoop (l : List (Fin 3)) (f : Fin 3 → Dev → Bool) (g : Fin 3 → Dev → Bool) (d : Dev) (i : Fin 3) :
    ((forEach l (fun i x => onlyIf (g i x) (postEvent i 3) (onPost i (fun p => { p with peerDiscord := f i x }) x)) d).posts[i.val]).link = (d.posts[i.val]).link := by
  refine forEach_keeps (P := fun y => (y.posts[i.val]).link = (d.posts[i.val]).link) (fun k y e => ?_) rfl
  rw [← e]
  unfold onlyIf
  split <;> (simp [postEvent, upd_get]; split <;> simp_all [Post.link])

theorem concordCheck_quiet {d : Dev} (h : Quiet d srcConcord) : (concordCheck d).cfg = d.cfg ∧ (concordCheck d).cfgNew = d.cfgNew ∧ (concordCheck d).ports = d.ports ∧ (concordCheck d).guards = d.guards ∧ (concordCheck d).loops = d.loops ∧ (concordCheck d).chans = d.chans ∧ (concordCheck d).groups = d.groups ∧ (concordCheck d).convs = d.convs ∧ (concordCheck d).ledger = d.ledger ∧ (concordCheck d).twin = d.twin ∧ (concordCheck d).tmr = d.tmr ∧ (concordCheck d).alarms = d.alarms ∧ (concordCheck d).itms = d.itms ∧ (concordCheck d).net = d.net ∧ (concordCheck d).upd = d.upd ∧ (concordCheck d).store = d.store ∧ (concordCheck d).sys = d.sys := by
  unfold concordCheck
  dsimp only
  generalize hX : forEach (indices 3) _ d = X
  have a : Quiet X srcConcord := quiet_of h (by rw [← hX]; simp) (by rw [← hX]; simp)
  obtain ⟨q0, q1, q2, q3, q4, q5, q6, q7, q8, q9, q10, q11, q12, q13, q14, q15, q16, -⟩ := levelSource_quiet (b := _) a
  exact ⟨q0.trans (by rw [← hX]; simp), q1.trans (by rw [← hX]; simp), q2.trans (by rw [← hX]; simp), q3.trans (by rw [← hX]; simp), q4.trans (by rw [← hX]; simp), q5.trans (by rw [← hX]; simp), q6.trans (by rw [← hX]; simp), q7.trans (by rw [← hX]; simp), q8.trans (by rw [← hX]; simp), q9.trans (by rw [← hX]; simp), q10.trans (by rw [← hX]; simp), q11.trans (by rw [← hX]; simp), q12.trans (by rw [← hX]; simp), q13.trans (by rw [← hX]; simp), q14.trans (by rw [← hX]; simp), q15.trans (by rw [← hX]; simp), q16.trans (by rw [← hX]; simp)⟩

/-- The links as concordance leaves them. -/
theorem concordCheck_link {d : Dev} (h : Quiet d srcConcord) (i : Fin 3) : ((concordCheck d).posts[i.val]).link = (d.posts[i.val]).link := by
  unfold concordCheck
  dsimp only
  generalize hX : forEach (indices 3) _ d = X
  have a : Quiet X srcConcord := quiet_of h (by rw [← hX]; simp) (by rw [← hX]; simp)
  have k : (X.posts[i.val]).link = (d.posts[i.val]).link := by rw [← hX]; exact concordLoop _ _ _ d i
  have q := fun b => (levelSource_quiet (b := b) a).2.2.2.2.2.2.2.2.2.2.2.2.2.2.2.2.2
  exact (congrArg (fun v : Vector Post 3 => (v[i.val]).link) (q _)).trans k


theorem PowerStill.refl (a : Dev) : PowerStill a a := ⟨rfl, rfl, rfl, rfl, rfl, rfl, rfl, rfl, rfl⟩

theorem PowerStill.trans {a b c : Dev} (h : PowerStill a b) (k : PowerStill b c) : PowerStill a c := by
  obtain ⟨h1, h2, h3, h4, h5, h6, h7, h8, h9⟩ := h
  obtain ⟨k1, k2, k3, k4, k5, k6, k7, k8, k9⟩ := k
  exact ⟨k1.trans h1, k2.trans h2, k3.trans h3, k4.trans h4, k5.trans h5, k6.trans h6, k7.trans h7, k8.trans h8, k9.trans h9⟩

theorem concordCheck_still {d : Dev} (h : Quiet d srcConcord) : PowerStill d (concordCheck d) := by
  simp [PowerStill, concordCheck_quiet h]

theorem levelSource_still {n : Fin 768} {b : Bool} {d : Dev} (h : Quiet d n) : PowerStill d (levelSource n b d) := by
  simp [PowerStill, levelSource_quiet h]

theorem concordCheck_post {d : Dev} (h : Quiet d srcConcord) (i : Fin 3) : ((concordCheck d).posts[i.val]).state = (d.posts[i.val]).state ∧ ((concordCheck d).posts[i.val]).en = (d.posts[i.val]).en ∧ ((concordCheck d).posts[i.val]).lock = (d.posts[i.val]).lock ∧ ((concordCheck d).posts[i.val]).holdoff = (d.posts[i.val]).holdoff ∧ ((concordCheck d).posts[i.val]).hellos = (d.posts[i.val]).hellos ∧ ((concordCheck d).posts[i.val]).peer = (d.posts[i.val]).peer ∧ ((concordCheck d).posts[i.val]).peerPm = (d.posts[i.val]).peerPm ∧ ((concordCheck d).posts[i.val]).rxFrames = (d.posts[i.val]).rxFrames ∧ ((concordCheck d).posts[i.val]).txFrames = (d.posts[i.val]).txFrames ∧ ((concordCheck d).posts[i.val]).delay = (d.posts[i.val]).delay ∧ ((concordCheck d).posts[i.val]).errors = (d.posts[i.val]).errors ∧ ((concordCheck d).posts[i.val]).crcErrs = (d.posts[i.val]).crcErrs ∧ ((concordCheck d).posts[i.val]).rxOk = (d.posts[i.val]).rxOk ∧ ((concordCheck d).posts[i.val]).foreign = (d.posts[i.val]).foreign ∧ ((concordCheck d).posts[i.val]).irqen = (d.posts[i.val]).irqen := by
  have q := concordCheck_link h i
  exact ⟨(congrArg Post.state q :), (congrArg Post.en q :), (congrArg Post.lock q :), (congrArg Post.holdoff q :), (congrArg Post.hellos q :), (congrArg Post.peer q :), (congrArg Post.peerPm q :), (congrArg Post.rxFrames q :), (congrArg Post.txFrames q :), (congrArg Post.delay q :), (congrArg Post.errors q :), (congrArg Post.crcErrs q :), (congrArg Post.rxOk q :), (congrArg Post.foreign q :), (congrArg Post.irqen q :)⟩

/-- A link that leaves UP (08 R313, R314). -/
theorem linkDown_up {l : Fin 3} {d : Dev} (h1 : (d.posts[l]).state = .up) (h2 : Quiet d (srcPostDown l))
    (h3 : Quiet d srcConcord) : ((linkDown l d).posts[l.val]).state = .down ∧ ((linkDown l d).posts[l.val]).holdoff = true ∧
    ((linkDown l d).posts[l.val]).lock = false ∧ (∀ k : Fin 3, k ≠ l → ((linkDown l d).posts[k.val]).state = (d.posts[k.val]).state) ∧
    (linkDown l d).ledger = d.ledger ∧ PowerStill d (linkDown l d) := by
  simp at h1
  have e : linkDown l d = concordCheck (levelSource (srcPostDown l) true (onPost l (fun p => { p with foreign := false, crcErrs := [] }) (postDown l d))) := by
    simp [linkDown, h1]
  have a1 : Quiet (onPost l (fun p => { p with foreign := false, crcErrs := [] }) (postDown l d)) (srcPostDown l) := quiet_of h2 (by simp) (by simp)
  have a2 : Quiet (levelSource (srcPostDown l) true (onPost l (fun p => { p with foreign := false, crcErrs := [] }) (postDown l d))) srcConcord :=
    levelSource_other a1 (quiet_of h3 (by simp) (by simp))
  have q := levelSource_quiet (b := true) a1
  have y := levelSource_still (b := true) a1
  rw [e]
  generalize levelSource (srcPostDown l) true _ = Y at *
  have yp : Y.posts = (onPost l (fun p => { p with foreign := false, crcErrs := [] }) (postDown l d)).posts := q.2.2.2.2.2.2.2.2.2.2.2.2.2.2.2.2.2
  refine ⟨?_, ?_, ?_, ?_, ?_, ?_⟩
  · rw [(concordCheck_post a2 l).1, yp]; simp [postDown, h1]
  · rw [(concordCheck_post a2 l).2.2.2.1, yp]; simp [postDown, h1]
  · rw [(concordCheck_post a2 l).2.2.1, yp]; simp [postDown, h1]
  · intro k hk; rw [(concordCheck_post a2 k).1, yp]; simp [postDown, h1, upd_other, hk]
  · simp [concordCheck_quiet a2, q]
  · refine PowerStill.trans ?_ (concordCheck_still a2)
    refine PowerStill.trans ?_ y
    simp [PowerStill]

/-- A frame that may leave (08 R312). -/
def mayLeave (st : LinkState) (o : PostOut) : Bool := match st, o with
  | .up, _ => true
  | .train, .hello _ => true
  | _, _ => false

/-- A frame of this device on one link (08 R316). -/
theorem postSend_one {l : Fin 3} {o : PostOut} {d : Dev} (h1 : isShadow d = false) (h2 : mayLeave (d.posts[l]).state o = true) :
    (postSend [l] o d).ledger = { d.ledger with seq := d.ledger.seq + 1, sent :=
      ((l, (⟨d.ledger.seq, 0, seatKey d, d.ledger.discordant, d.store.postmark⟩ : PostHdr), o) :: d.ledger.sent).take 64 } ∧
    (postSend [l] o d).posts = upd d.posts l (fun x => { x with txFrames := wrapInc 16 x.txFrames }) := by
  unfold mayLeave at h2
  split at h2
  · rename_i e
    simp at e
    simp [postSend, forEach, postPut, h1, e]
  · rename_i e
    simp at e
    simp [postSend, forEach, postPut, h1, e]
  · exact absurd h2 (by decide)

/-- A frame just sent stays in the list of frames sent while a CARD follows it (08 R322). -/
theorem postPut_cases (l : Fin 3) (h : PostHdr) (o : PostOut) (d : Dev) : postPut l h o d = d ∨
    postPut l h o d = onLedger (fun x => { x with sent := ((l, h, o) :: x.sent).take 64 }) (onPost l (fun x => { x with txFrames := wrapInc 16 x.txFrames }) d) := by
  exact (Decidable.em _).elim (fun c => .inl (if_pos c)) (fun c => .inr (if_neg c))

theorem postPut_sent {x : Fin 3 × PostHdr × PostOut} {l : Fin 3} {h : PostHdr} {o : PostOut} {d : Dev} (k : x ∈ d.ledger.sent.take 63) :
    x ∈ (postPut l h o d).ledger.sent := by
  rcases postPut_cases l h o d with e | e <;> rw [e]
  · exact List.mem_of_mem_take k
  · exact List.mem_cons_of_mem _ k

theorem sendCard_sent {x : Fin 3 × PostHdr × PostOut} {d : Dev} (h : x ∈ d.ledger.sent.take 63) : x ∈ (sendCard d).ledger.sent := by
  have k : x ∈ d.ledger.sent := List.mem_of_mem_take h
  unfold sendCard
  split
  · exact postPut_sent h
  · exact k

theorem cardCheck_sent {x : Fin 3 × PostHdr × PostOut} {d : Dev} (h : x ∈ d.ledger.sent.take 63) : x ∈ (cardCheck d).ledger.sent := by
  unfold cardCheck
  split
  · exact sendCard_sent h
  · exact List.mem_of_mem_take h

theorem head_sent {α : Type} (x : α) (l : List α) : x ∈ ((x :: l).take 64).take 63 := by
  simp [List.take_take]

/-- A CARD changes nothing of a link but its count of frames. -/
theorem cardCheck_post (d : Dev) (i : Fin 3) : ((cardCheck d).posts[i.val]).state = (d.posts[i.val]).state ∧ ((cardCheck d).posts[i.val]).peer = (d.posts[i.val]).peer := by
  have k : ∀ (l : Fin 3) (h : PostHdr) (o : PostOut) (x : Dev), ((postPut l h o x).posts[i.val]).state = (x.posts[i.val]).state ∧
      ((postPut l h o x).posts[i.val]).peer = (x.posts[i.val]).peer := by
    intro l h o x
    rcases postPut_cases l h o x with e | e <;> rw [e]
    · exact ⟨rfl, rfl⟩
    · simp only [onLedger_posts, onPost_posts]
      rw [upd_get]
      split <;> exact ⟨rfl, rfl⟩
  unfold cardCheck sendCard
  split
  · split
    · exact k _ _ _ _
    · exact ⟨rfl, rfl⟩
  · exact ⟨rfl, rfl⟩

/-- A forwarded frame changes nothing of the ledger that election reads. -/
theorem fwd (ls : List (Fin 3)) (h : PostHdr) (o : PostOut) (d : Dev) : (postForward ls h o d).ledger.bestKey = d.ledger.bestKey ∧
    (postForward ls h o d).ledger.bestId = d.ledger.bestId ∧ (postForward ls h o d).ledger.role = d.ledger.role ∧
    (postForward ls h o d).ledger.seen = d.ledger.seen := by
  unfold postForward
  refine forEach_keeps (P := fun y => y.ledger.bestKey = d.ledger.bestKey ∧ y.ledger.bestId = d.ledger.bestId ∧ y.ledger.role = d.ledger.role ∧
    y.ledger.seen = d.ledger.seen) (fun k y e => ?_) ⟨rfl, rfl, rfl, rfl⟩
  rcases postPut_cases k { h with hops := h.hops + 1, postmark := d.store.postmark } o y with q | q <;> rw [q]
  · exact e
  · exact e
/-- What a valid frame leaves of its link before it is taken. -/
def rxBase (l : Fin 3) (h : PostHdr) (d : Dev) : Dev := startTimer (.postFrameTimeout l) (ticksOfMs 3)
  (onPost l (fun p => { p with rxFrames := wrapInc 16 p.rxFrames, peerPm := h.postmark }) d)
/-- A valid frame on a link that is UP. -/
theorem rxUp {l : Fin 3} {h : PostHdr} {f : Dev → Dev} {d : Dev} (h1 : (d.posts[l]).state = .up) (h2 : isShadow d = false) :
    rxFrame l h f d = concordCheck (f (rxBase l h d)) := by
  have q : isShadow (rxBase l h d) = false := h2
  simp at h1
  simp only [rxFrame]
  rw [if_neg (by simp [h1])]
  show (if isShadow (rxBase l h d) = true then rxBase l h d else concordCheck (f (rxBase l h d))) = _
  rw [if_neg (by simp [q])]

/-- A ledger but for its frames sent, its CARD and its event bits. -/
def Ledger.core (g : Ledger) : Ledger := { g with sent := [], seq := 0, lastCard := none, lastCardDeal := 0, event := 0 }

theorem ledgerEvent_core (i : Nat) (d : Dev) : (ledgerEvent i d).ledger.core = d.ledger.core := by
  simp [ledgerEvent, onlyIf, Ledger.core]

theorem postPut_core (l : Fin 3) (h : PostHdr) (o : PostOut) (d : Dev) : (postPut l h o d).ledger.core = d.ledger.core := by
  rcases postPut_cases l h o d with e | e <;> rw [e] <;> rfl

theorem postForward_core (ls : List (Fin 3)) (h : PostHdr) (o : PostOut) (d : Dev) : (postForward ls h o d).ledger.core = d.ledger.core := by
  unfold postForward
  exact forEach_keeps (P := fun y => y.ledger.core = d.ledger.core) (fun k y e => (postPut_core _ _ _ _).trans e) rfl

theorem postSend_core (ls : List (Fin 3)) (o : PostOut) (d : Dev) : (postSend ls o d).ledger.core = d.ledger.core := by
  unfold postSend
  exact forEach_keeps (P := fun y => y.ledger.core = d.ledger.core) (fun k y e => (postPut_core _ _ _ _).trans e) rfl

theorem sendCard_core (d : Dev) : (sendCard d).ledger.core = d.ledger.core := by
  unfold sendCard
  split
  · exact (postSend_core _ _ _).trans rfl
  · rfl

theorem cardCheck_core (d : Dev) : (cardCheck d).ledger.core = d.ledger.core := by
  unfold cardCheck
  split
  · exact sendCard_core d
  · rfl

theorem concordCheck_core {d : Dev} (h : Quiet d srcConcord) : (concordCheck d).ledger.core = d.ledger.core :=
  congrArg Ledger.core (concordCheck_quiet h).2.2.2.2.2.2.2.2.1

end Sys2Proof.Machine
end

