-- ==== Sys2Proof/Laws/Links.lean ====
section
/-! SUPPORT. What the loss of an edge link does where its source has the action NONE (01 R22). -/

namespace Sys2Proof.Machine

theorem srcLinkLoss_hub (l : Fin 5) : srcLink (srcLinkLoss l) = none := by revert l; decide

theorem srcLinkLoss_row (l : Fin 5) : (srcRow (srcLinkLoss l).val).isSome = true := by revert l; decide

/-- Freezing the events of a die changes nothing else of its guards (01 R631). -/
theorem freezeEvents_guards (l : Fin 5) (p : Fin 32) (d : Dev) : ∃ v, (freezeEvents l d).guards[p.val] = { d.guards[p.val] with evSeen := v } := by
  unfold freezeEvents
  rw [updAll_get]
  split
  · exact ⟨_, rfl⟩
  · exact ⟨_, rfl⟩

/-- A lost link is down and retrains, and the ports, references and guards of its die are frozen (01 R22, R29). -/
theorem linkLost_quiet (l : Fin 5) (d : Dev) (h : (takeLater d.sources[(srcLinkLoss l).val]).action = 0) :
    (linkLost l d).sys.edgeUp[l.val] = false ∧ (linkLost l d).ports = d.ports ∧ (linkLost l d).loops = d.loops ∧
      ∀ p : Fin 32, ∃ v, (linkLost l d).guards[p.val] = { d.guards[p.val] with evSeen := v } := by
  unfold linkLost
  dsimp only
  split
  · rename_i hh
    simp at hh
    exact ⟨hh, rfl, rfl, fun p => ⟨_, rfl⟩⟩
  · rename_i hh
    have hq : Quiet (onSys (fun s => { s with crcRetries := s.crcRetries.set l 0 }) (linkRetrain l (ticksOfMs 2 - ticksOfUs 50) d)) (srcLinkLoss l) := by
      refine quiet_hub (srcLinkLoss_hub l) ?_
      simpa using h
    simp at hh
    have e := raise_quiet hq
    simp only [e, onSys_sys, onSys_ports, onSys_loops, onSys_guards]
    have r : linkRetrain l (ticksOfMs 2 - ticksOfUs 50) d = startTimer (lossTimer l) (ticksOfMs 2 - ticksOfUs 50) (onSys (fun s => { s with
        edgeUp := s.edgeUp.set l false, retraining := s.retraining.set l true, held := s.held.set l (s.held[l] <|> some (dieParams d.cfg)) }) (freezeEvents l d)) :=
      if_neg (by simp [hh])
    refine ⟨by simp [r], by simp [r], by simp [r], fun p => ?_⟩
    obtain ⟨v, hv⟩ := freezeEvents_guards l p d
    have g : (linkRetrain l (ticksOfMs 2 - ticksOfUs 50) d).guards = (freezeEvents l d).guards := by simp [r]
    refine ⟨v, ?_⟩
    simp only [g]
    exact hv

end Sys2Proof.Machine
end

