-- ==== Sys2Proof/Laws/Memory.lean ====
section
/-! SUPPORT. Memories keep their canonical form, a read after a write gives the byte written, other bytes stay. -/

namespace Sys2Proof.Machine

theorem Memory.read_below {n a : Nat} {m : Memory} (h : Memory.wfFrom n m = true) (ha : a < n) :
    Memory.read m a = Memory.blank := by
  cases m with
  | nil => rfl
  | cons c r =>
    obtain ⟨k, v⟩ := c
    simp only [Memory.wfFrom, Bool.and_eq_true, decide_eq_true_eq] at h
    have : a < k := by omega
    simp [Memory.read, this]

theorem Memory.wfFrom_mono {n k : Nat} {m : Memory} (h : Memory.wfFrom n m = true) (hk : k ≤ n) :
    Memory.wfFrom k m = true := by
  cases m with
  | nil => rfl
  | cons c r =>
    obtain ⟨q, v⟩ := c
    simp only [Memory.wfFrom, Bool.and_eq_true, decide_eq_true_eq] at h ⊢
    exact ⟨⟨by omega, h.1.2⟩, h.2⟩

theorem Memory.write_wfFrom {n a : Nat} {b : Byte} {m : Memory} (h : Memory.wfFrom n m = true) (ha : n ≤ a) :
    Memory.wfFrom n (Memory.write m a b) = true := by
  induction m generalizing n with
  | nil =>
    by_cases hb : b = Memory.blank <;> simp [Memory.write, Memory.wfFrom, hb, ha]
  | cons c r ih =>
    obtain ⟨k, v⟩ := c
    simp only [Memory.wfFrom, Bool.and_eq_true, decide_eq_true_eq] at h
    obtain ⟨⟨h1, h2⟩, h3⟩ := h
    unfold Memory.write
    split
    · split
      · simp [Memory.wfFrom, h1, h2, h3]
      · rename_i hlt hb
        simp only [Memory.wfFrom, Bool.and_eq_true, decide_eq_true_eq]
        exact ⟨⟨ha, hb⟩, ⟨by omega, h2⟩, h3⟩
    · split
      · split
        · exact Memory.wfFrom_mono h3 (by omega)
        · rename_i hb
          simp only [Memory.wfFrom, Bool.and_eq_true, decide_eq_true_eq]
          exact ⟨⟨h1, hb⟩, h3⟩
      · simp only [Memory.wfFrom, Bool.and_eq_true, decide_eq_true_eq]
        exact ⟨⟨h1, h2⟩, ih h3 (by omega)⟩

/-- A write keeps the canonical form. -/
theorem Memory.write_wf {m : Memory} (a : Nat) (b : Byte) (h : Memory.wf m = true) :
    Memory.wf (Memory.write m a b) = true := Memory.write_wfFrom h (Nat.zero_le a)

/-- Writing a string keeps the canonical form. -/
theorem Memory.writeBytes_wf {m : Memory} (l : List Byte) (a : Nat) (h : Memory.wf m = true) :
    Memory.wf (Memory.writeBytes m a l) = true := by
  induction l generalizing m a with
  | nil => exact h
  | cons b r ih => exact ih (a + 1) (Memory.write_wf a b h)

/-- Writing a word keeps the canonical form. -/
theorem Memory.writeWord_wf {m : Memory} (a : Nat) (w : Word) (h : Memory.wf m = true) :
    Memory.wf (Memory.writeWord m a w) = true := Memory.writeBytes_wf _ a h

theorem Memory.read_write_self {n : Nat} {m : Memory} (a : Nat) (b : Byte) (h : Memory.wfFrom n m = true) :
    Memory.read (Memory.write m a b) a = b := by
  induction m generalizing n with
  | nil =>
    by_cases hb : b = Memory.blank <;> simp [Memory.write, Memory.read, hb]
  | cons c r ih =>
    obtain ⟨k, v⟩ := c
    simp only [Memory.wfFrom, Bool.and_eq_true, decide_eq_true_eq] at h
    obtain ⟨⟨h1, h2⟩, h3⟩ := h
    unfold Memory.write
    split
    · split
      · rename_i hlt hb; simp [Memory.read, hlt, hb]
      · simp [Memory.read]
    · split
      · split
        · rename_i hn he hb
          rw [hb]; exact Memory.read_below h3 (by omega)
        · rename_i he hb; simp [Memory.read, he]
      · rename_i hn he
        simp [Memory.read, hn, he, ih h3]

theorem Memory.read_write_other {n : Nat} {m : Memory} {a c : Nat} (b : Byte) (h : Memory.wfFrom n m = true)
    (hac : c ≠ a) : Memory.read (Memory.write m a b) c = Memory.read m c := by
  induction m generalizing n with
  | nil =>
    by_cases hb : b = Memory.blank <;> simp [Memory.write, Memory.read, hb, hac]
  | cons q r ih =>
    obtain ⟨k, v⟩ := q
    simp only [Memory.wfFrom, Bool.and_eq_true, decide_eq_true_eq] at h
    obtain ⟨⟨h1, h2⟩, h3⟩ := h
    unfold Memory.write
    split
    · split
      · rfl
      · rename_i hlt hb
        by_cases hca : c < a
        · have hck : c < k := by omega
          simp [Memory.read, hca, hck]
        · simp [Memory.read, hca, hac]
    · split
      · rename_i hn he
        split
        · by_cases hck : c < k
          · simp only [Memory.read, hck, if_true]; exact Memory.read_below h3 (by omega)
          · have : c ≠ k := by omega
            simp [Memory.read, hck, this]
        · have : c ≠ k := by omega
          simp [Memory.read, this]
      · simp [Memory.read, ih h3]

end Sys2Proof.Machine
end

