-- ==== Sys2Proof/Laws/Transact.lean ====
section
/-! SUPPORT. The status byte of a transaction, bit by bit, and what its frame leaves (12 R461). -/

namespace Sys2Proof.Machine

theorem OnlyMaster.refl (m : Fin 5) (a : Dev) : OnlyMaster m a a := ⟨rfl, fun _ _ => rfl⟩

theorem OnlyMaster.trans {m : Fin 5} {a b c : Dev} (h : OnlyMaster m a b) (k : OnlyMaster m b c) : OnlyMaster m a c :=
  ⟨by rw [k.1, h.1], fun n hn => by rw [k.2 n hn, h.2 n hn]⟩

theorem onMaster_only (m : Fin 5) (f : Master → Master) (d : Dev) : OnlyMaster m d (onMaster m f d) :=
  ⟨rfl, fun k hk => by simp [upd_other, hk]⟩

theorem statusBit_only (m : Fin 5) (i : Nat) (d : Dev) : OnlyMaster m d (statusBit m i d) := onMaster_only m _ d

theorem onlyIf_only {m : Fin 5} {f : Dev → Dev} {d : Dev} (b : Bool) (h : OnlyMaster m d (f d)) : OnlyMaster m d (onlyIf b f d) := by
  cases b
  · exact .refl m d
  · exact h

theorem beginTx_only (m : Fin 5) (b : Bool) (d : Dev) : OnlyMaster m d (beginTx m b d) := onMaster_only m _ d

theorem endTx_only (m : Fin 5) (d : Dev) : OnlyMaster m d (endTx m d) := by
  unfold endTx
  exact (onlyIf_only _ (statusBit_only m 5 d)).trans (onlyIf_only _ (statusBit_only m 6 _))

theorem refuse_only (m : Fin 5) (d : Dev) : OnlyMaster m d (refuse m d) := onMaster_only m _ d

@[simp] theorem statusBit_host (m : Fin 5) (i : Nat) (d : Dev) : (statusBit m i d).host.event = d.host.event ∧ (statusBit m i d).host.irqen = d.host.irqen ∧ (statusBit m i d).host.owner = d.host.owner ∧ (statusBit m i d).host.successor = d.host.successor ∧ (statusBit m i d).host.window = d.host.window ∧ (statusBit m i d).host.changes = d.host.changes ∧ (statusBit m i d).host.leaseEnd = d.host.leaseEnd ∧ (statusBit m i d).host.hostLoaded = d.host.hostLoaded ∧ (statusBit m i d).host.irqA = d.host.irqA ∧ (statusBit m i d).host.irqB = d.host.irqB ∧ (statusBit m i d).host.spiDummy = d.host.spiDummy ∧ (statusBit m i d).host.spiCount = d.host.spiCount ∧ (statusBit m i d).host.spiCrc = d.host.spiCrc ∧ (statusBit m i d).host.spiAbort = d.host.spiAbort ∧ (statusBit m i d).host.baud = d.host.baud ∧ (statusBit m i d).host.uartFrames = d.host.uartFrames ∧ (statusBit m i d).host.uartCrc = d.host.uartCrc ∧ (statusBit m i d).host.uartDrops = d.host.uartDrops ∧ (statusBit m i d).host.rings = d.host.rings ∧ (statusBit m i d).host.jobs = d.host.jobs ∧ (statusBit m i d).host.kept = d.host.kept := by simp [statusBit]

@[simp] theorem beginTx_host (m : Fin 5) (b : Bool) (d : Dev) : (beginTx m b d).host.event = d.host.event ∧ (beginTx m b d).host.irqen = d.host.irqen ∧ (beginTx m b d).host.owner = d.host.owner ∧ (beginTx m b d).host.successor = d.host.successor ∧ (beginTx m b d).host.window = d.host.window ∧ (beginTx m b d).host.changes = d.host.changes ∧ (beginTx m b d).host.leaseEnd = d.host.leaseEnd ∧ (beginTx m b d).host.hostLoaded = d.host.hostLoaded ∧ (beginTx m b d).host.irqA = d.host.irqA ∧ (beginTx m b d).host.irqB = d.host.irqB ∧ (beginTx m b d).host.spiDummy = d.host.spiDummy ∧ (beginTx m b d).host.spiCount = d.host.spiCount ∧ (beginTx m b d).host.spiCrc = d.host.spiCrc ∧ (beginTx m b d).host.spiAbort = d.host.spiAbort ∧ (beginTx m b d).host.baud = d.host.baud ∧ (beginTx m b d).host.uartFrames = d.host.uartFrames ∧ (beginTx m b d).host.uartCrc = d.host.uartCrc ∧ (beginTx m b d).host.uartDrops = d.host.uartDrops ∧ (beginTx m b d).host.rings = d.host.rings ∧ (beginTx m b d).host.jobs = d.host.jobs ∧ (beginTx m b d).host.kept = d.host.kept := by simp [beginTx]

@[simp] theorem endTx_host (m : Fin 5) (d : Dev) : (endTx m d).host.event = d.host.event ∧ (endTx m d).host.irqen = d.host.irqen ∧ (endTx m d).host.owner = d.host.owner ∧ (endTx m d).host.successor = d.host.successor ∧ (endTx m d).host.window = d.host.window ∧ (endTx m d).host.changes = d.host.changes ∧ (endTx m d).host.leaseEnd = d.host.leaseEnd ∧ (endTx m d).host.hostLoaded = d.host.hostLoaded ∧ (endTx m d).host.irqA = d.host.irqA ∧ (endTx m d).host.irqB = d.host.irqB ∧ (endTx m d).host.spiDummy = d.host.spiDummy ∧ (endTx m d).host.spiCount = d.host.spiCount ∧ (endTx m d).host.spiCrc = d.host.spiCrc ∧ (endTx m d).host.spiAbort = d.host.spiAbort ∧ (endTx m d).host.baud = d.host.baud ∧ (endTx m d).host.uartFrames = d.host.uartFrames ∧ (endTx m d).host.uartCrc = d.host.uartCrc ∧ (endTx m d).host.uartDrops = d.host.uartDrops ∧ (endTx m d).host.rings = d.host.rings ∧ (endTx m d).host.jobs = d.host.jobs ∧ (endTx m d).host.kept = d.host.kept := by
  have h := (endTx_only m d).1
  refine ⟨?_, ?_, ?_, ?_, ?_, ?_, ?_, ?_, ?_, ?_, ?_, ?_, ?_, ?_, ?_, ?_, ?_, ?_, ?_, ?_, ?_⟩ <;> rw [h]

@[simp] theorem refuse_host (m : Fin 5) (d : Dev) : (refuse m d).host.event = d.host.event ∧ (refuse m d).host.irqen = d.host.irqen ∧ (refuse m d).host.owner = d.host.owner ∧ (refuse m d).host.successor = d.host.successor ∧ (refuse m d).host.window = d.host.window ∧ (refuse m d).host.changes = d.host.changes ∧ (refuse m d).host.leaseEnd = d.host.leaseEnd ∧ (refuse m d).host.hostLoaded = d.host.hostLoaded ∧ (refuse m d).host.irqA = d.host.irqA ∧ (refuse m d).host.irqB = d.host.irqB ∧ (refuse m d).host.spiDummy = d.host.spiDummy ∧ (refuse m d).host.spiCount = d.host.spiCount ∧ (refuse m d).host.spiCrc = d.host.spiCrc ∧ (refuse m d).host.spiAbort = d.host.spiAbort ∧ (refuse m d).host.baud = d.host.baud ∧ (refuse m d).host.uartFrames = d.host.uartFrames ∧ (refuse m d).host.uartCrc = d.host.uartCrc ∧ (refuse m d).host.uartDrops = d.host.uartDrops ∧ (refuse m d).host.rings = d.host.rings ∧ (refuse m d).host.jobs = d.host.jobs ∧ (refuse m d).host.kept = d.host.kept := by simp [refuse]

theorem statusBit_at (m : Fin 5) (i j : Nat) (d : Dev) (h : j < 8) : ((statusBit m i d).host.masters[m.val]).status.getLsbD j =
    (((d.host.masters[m.val]).status.getLsbD j) || decide (i = j)) := by
  simp only [statusBit, onMaster_host, upd_self, BitVec.getLsbD_or, BitVec.getLsbD_ofNat, Nat.testBit_two_pow, h, decide_true, Bool.true_and]

@[simp] theorem statusBit_master (m : Fin 5) (i : Nat) (d : Dev) : ((statusBit m i d).host.masters[m.val]).reply = (d.host.masters[m.val]).reply ∧
    ((statusBit m i d).host.masters[m.val]).refused = (d.host.masters[m.val]).refused ∧
    ((statusBit m i d).host.masters[m.val]).crcErr = (d.host.masters[m.val]).crcErr ∧
    ((statusBit m i d).host.masters[m.val]).sawReset = (d.host.masters[m.val]).sawReset := by simp [statusBit]

@[simp] theorem beginTx_master (m : Fin 5) (b : Bool) (d : Dev) : ((beginTx m b d).host.masters[m.val]).reply = [] ∧
    ((beginTx m b d).host.masters[m.val]).refused = (d.host.masters[m.val]).refused ∧
    ((beginTx m b d).host.masters[m.val]).crcErr = (d.host.masters[m.val]).crcErr ∧
    ((beginTx m b d).host.masters[m.val]).sawReset = (d.host.masters[m.val]).sawReset := by simp [beginTx]

theorem beginTx_status (m : Fin 5) (b : Bool) (d : Dev) : ((beginTx m b d).host.masters[m.val]).status = BitVec.ofNat 8 (b2n b + 16 * b2n (isOwner d m)) := by
  simp [beginTx]

@[simp] theorem endTx_master (m : Fin 5) (d : Dev) : ((endTx m d).host.masters[m.val]).reply = (d.host.masters[m.val]).reply ∧
    ((endTx m d).host.masters[m.val]).refused = (d.host.masters[m.val]).refused ∧
    ((endTx m d).host.masters[m.val]).crcErr = (d.host.masters[m.val]).crcErr ∧
    ((endTx m d).host.masters[m.val]).sawReset = (d.host.masters[m.val]).sawReset := by
  unfold endTx onlyIf
  dsimp only
  repeat' split
  all_goals simp

/-- The bits of the status byte that the end of a transaction leaves. -/
theorem endTx_status (m : Fin 5) (j : Nat) (d : Dev) (h : j < 8) (h5 : j ≠ 5) (h6 : j ≠ 6) :
    ((endTx m d).host.masters[m.val]).status.getLsbD j = (d.host.masters[m.val]).status.getLsbD j := by
  unfold endTx onlyIf
  dsimp only
  repeat' split
  all_goals simp only [statusBit_at _ _ _ _ h, h5.symm, h6.symm, decide_false, Bool.or_false]

/-- RESET stands in the status byte until a STATUS request (12 R461, R468). -/
theorem endTx_reset (m : Fin 5) (d : Dev) : ((endTx m d).host.masters[m.val]).status.getLsbD 6 =
    (((d.host.masters[m.val]).status.getLsbD 6) || (d.host.masters[m.val]).sawReset) := by
  unfold endTx
  dsimp only
  generalize (if m.val = 0 then _ else _ : Bool) = q
  have e : ∀ x : Dev, ((onlyIf q (statusBit m 5) x).host.masters[m.val]).status.getLsbD 6 = (x.host.masters[m.val]).status.getLsbD 6 := by
    intro x
    cases q
    · rfl
    · simp only [onlyIf_true, statusBit_at _ _ _ _ (show 6 < 8 by decide), decide_false, Bool.or_false, Nat.reduceEqDiff]
  cases h : (d.host.masters[m]).sawReset
  · simp only [Fin.getElem_fin] at h
    simp only [onlyIf_false, e, Bool.or_false]
  · simp only [Fin.getElem_fin] at h
    simp only [onlyIf_true, statusBit_at _ _ _ _ (show 6 < 8 by decide), decide_true, Bool.or_true]

/-- The other transports have no IRQ bit (12 R461). -/
theorem endTx_irq (m : Fin 5) (d : Dev) (h : 2 ≤ m.val) : ((endTx m d).host.masters[m.val]).status.getLsbD 5 = (d.host.masters[m.val]).status.getLsbD 5 := by
  have n0 : m.val ≠ 0 := by omega
  have n1 : m.val ≠ 1 := by omega
  unfold endTx
  simp only [n0, n1, if_false, onlyIf_false]
  unfold onlyIf
  split <;> simp only [statusBit_at _ _ _ _ (show 5 < 8 by decide), decide_false, Bool.or_false, Nat.reduceEqDiff]

end Sys2Proof.Machine
end

