-- ==== Sys2Proof/Laws/Twin.lean ====
section
/-! SUPPORT. What the twin block notes of a command (09 R381 to R383, R388): nothing new to mirror, frames sent, event bits. -/

namespace Sys2Proof.Machine

/-- A command that leaves what is mirrored as it was has no news. -/
theorem mirrorNews_quiet {a b : Dev} (h1 : b.ports = a.ports) (h2 : b.pd = a.pd) (h3 : b.phases = a.phases) (h4 : b.ledger = a.ledger) (h5 : b.jrn = a.jrn)
    (h6 : b.store = a.store) (h7 : b.sys = a.sys) : mirrorNews a b = [] := by
  unfold mirrorNews censusNews protoMoved
  simp only [h1, h2, h3, h4, h5, h6, h7]
  simp
  exact ⟨fun k _ h => by simp [h], fun m h => ⟨m, h, rfl⟩, fun o h w => ⟨o, h, w, rfl, rfl⟩⟩

/-- Without news the frames sent are those the command sent. -/
theorem settle_sent {a b : Dev} (h : mirrorNews a b = []) (x : MirrorOut) (k : x ∈ b.twin.sent.take 64) : x ∈ (settleTwin a b).sent := by
  unfold settleTwin
  generalize whyNot b = w
  simp only [h]
  split
  · split
    · simpa [mirrorLog] using k
    · exact List.mem_of_mem_take k
  · split
    · exact List.mem_of_mem_take k
    · split <;> exact List.mem_of_mem_take k

/-- No event bit is lost. -/
theorem settle_event {a b : Dev} {i : Nat} (hi : i < 32) (h : b.twin.event.getLsbD i = true) : (settleTwin a b).event.getLsbD i = true := by
  have k : ∀ j, (setBit b.twin.event j).getLsbD i = true := fun j => by simp [setBit, h, hi]
  unfold settleTwin
  generalize mirrorNews a b = l
  generalize whyNot b = w
  dsimp only
  split
  · split
    · simpa [mirrorLog] using h
    · exact h
  · split
    · dsimp only
      split
      · exact k 2
      · split
        · exact k 3
        · exact h
    · split
      · exact h
      · exact h

end Sys2Proof.Machine
end

