-- ==== Sys2Proof/WellFormed.lean ====
section
/-! DEFINITION. Which terms of Instr are commands that a sender or the environment can form: every number fits the field the spec gives it. -/

namespace Sys2Proof

/-- A reference to a command entry: its ring index has 16 bits (12 R472). -/
def refWf (c : CmdRef) : Bool := decide (c.index < 2 ^ 16)

/-- A well-formed command: each of its numbers fits its field, each of its lists its frame. -/
def Instr.wf (i : Instr) : Bool :=
  match i with
  | .registerWrite _ addr _ => decide (addr < 2 ^ 32)
  | .edgeLinkCrcError _ => true
  | .edgeLinkLost _ => true
  | .edgeLinkRetrained _ => true
  | .lossQueueDrained _ => true
  | .edgeDieMinimalTimeout _ => true
  | .feedLinkHold => true
  | .clockCheckFail _ => true
  | .edgeControlFrame _ _ => true
  | .tbSyncFrame _ => true
  | .imageCheck c => refWf c
  | .admissionCheckEnd us => decide (us < 2 ^ 32)
  | .imageStore c _ => refWf c
  | .imageSlotWritten _ => true
  | .imageSwitch c _ tb => refWf c && decide (tb < 2 ^ 64)
  | .switchEffective => true
  | .amendApply c => refWf c
  | .amendCommit => true
  | .imageFloor c => refWf c
  | .keyEnrol c _ _ => refWf c
  | .keyRevoke c _ _ => refWf c
  | .monitorZoneChange _ _ stamp => decide (stamp < 2 ^ 64)
  | .tccdebounceExpiry _ => true
  | .tpddebounceExpiry _ => true
  | .tdrpExpiry _ => true
  | .tdrptryExpiry _ => true
  | .ttryccdebounceExpiry _ => true
  | .tdrptrywaitExpiry _ => true
  | .terrorrecoveryExpiry _ => true
  | .ccOvervoltage _ _ => true
  | .vconnOvercurrent _ => true
  | .vconnReverseBlock _ => true
  | .tvconnstableExpiry _ => true
  | .discoverIdentityRetry _ => true
  | .cableIdentityAnswer _ _ _ => true
  | .minimalAttachDebounce _ => true
  | .minimalDetachDebounce _ => true
  | .ident _ _ => true
  | .serviceState _ _ => true
  | .jtail _ _ arg => decide (arg < 2 ^ 16)
  | .jread _ _ arg => decide (arg < 2 ^ 16)
  | .serviceFaults _ _ arg => decide (arg < 2 ^ 16)
  | .serviceUnknownCmd _ _ _ => true
  | .pdMessageReceived _ _ => true
  | .pdGoodcrcReceived _ => true
  | .tcrcreceiveExpiry _ => true
  | .sourceCapabilities _ pdos => decide (pdos.length ≤ 11)
  | .request _ _ => true
  | .eprRequest _ _ _ => true
  | .getSourceCap _ => true
  | .getSinkCap _ => true
  | .getSourceCapExtended _ => true
  | .eprModeEnter _ pdp => decide (pdp < 256)
  | .eprModeExit _ => true
  | .eprGetSourceCap _ => true
  | .eprKeepalive _ => true
  | .getStatus _ => true
  | .getPpsStatus _ => true
  | .getRevision _ => true
  | .getSourceInfo _ => true
  | .prSwap _ => true
  | .drSwap _ => true
  | .vconnSwap _ => true
  | .accept _ => true
  | .reject _ => true
  | .psRdy _ => true
  | .softReset _ => true
  | .vendorDefined _ _ body => decide (body.length ≤ 6)
  | .alert _ => true
  | .ping _ => true
  | .bistCarrierMode _ => true
  | .bistTestData _ => true
  | .chunkRequest _ n => decide (n < 16)
  | .unsupportedMessage _ _ => true
  | .hardResetReceived _ => true
  | .portHardReset c _ => refWf c
  | .tsenderresponseExpiry _ => true
  | .ttypecsendsourcecapExpiry _ => true
  | .tsinktxExpiry _ => true
  | .tsrctransitionExpiry _ => true
  | .tsourceeprkeepaliveExpiry _ => true
  | .tppstimeoutExpiry _ => true
  | .tpshardresetExpiry _ => true
  | .tsrcrecoverExpiry _ => true
  | .tpssourceoffExpiry _ => true
  | .tpssourceonExpiry _ => true
  | .tswapsourcestartExpiry _ => true
  | .tvconnsourcetimeoutExpiry _ => true
  | .tchunksenderrequestExpiry _ => true
  | .tbistcontmodeExpiry _ => true
  | .tpstransitionExpiry _ => true
  | .vbusInWindow _ => true
  | .vbusOvFence _ => true
  | .fenceLower _ => true
  | .contractBreachOvercurrent _ => true
  | .pendingHandEffective _ => true
  | .portLimitWrite _ _ _ => true
  | .guardCloseStart _ => true
  | .guardClosed _ => true
  | .offRampEnd _ => true
  | .regionChange _ _ => true
  | .truncationStart _ => true
  | .truncationEnd _ => true
  | .limitAllowanceExceeded _ _ => true
  | .hiccupOffTimeExpiry _ => true
  | .hiccupAgeOut _ => true
  | .stageFault _ => true
  | .phaseSilent _ => true
  | .senseImplausible _ => true
  | .phaseRetireCmd _ _ => true
  | .restorePhase c _ => refWf c
  | .pendingCensus _ => true
  | .censusComplete _ _ => true
  | .busVinLow _ _ => true
  | .busVinRecover _ _ => true
  | .vbusUv _ => true
  | .channelSettle _ _ stamp => decide (stamp < 2 ^ 64)
  | .settle _ _ _ _ => true
  | .calNext _ _ => true
  | .channelHoldEnd _ _ stamp => decide (stamp < 2 ^ 64)
  | .calStep _ _ => true
  | .calAgreement _ _ => true
  | .calRetry _ => true
  | .trimWrite => true
  | .monCalCtlWrite _ _ => true
  | .converterTrigger _ _ stamp => decide (stamp < 2 ^ 64)
  | .sequenceComplete _ results => decide (results.length ≤ 16)
  | .continuousResult _ _ => true
  | .cvxTrig _ _ _ => true
  | .seqEnDisable _ _ _ => true
  | .contEnClear _ _ => true
  | .ressStampLoRead _ _ _ => true
  | .feedEnableRise _ => true
  | .feedEnableFall _ => true
  | .feedWindowEnter _ => true
  | .insDelayExpiry _ => true
  | .insTimeoutExpiry _ => true
  | .feedUvBreach _ => true
  | .feedOvBreach _ => true
  | .feedLimitStart _ _ => true
  | .feedFaultTimerExpiry _ => true
  | .feedOvercurrentTrip _ => true
  | .fetTempTrip _ => true
  | .fetTempRelease _ => true
  | .feedModelStep _ _ _ => true
  | .feedPowerGood _ => true
  | .feedReverseTurnOff _ => true
  | .diodeRedrive _ => true
  | .vgdLow => true
  | .vgdBelowStartLevel => true
  | .vgdRecover => true
  | .guardLimitStart _ _ => true
  | .guardFaultTimerExpiry _ => true
  | .guardShortTrip _ => true
  | .guardTemp _ _ => true
  | .deferredRearm _ => true
  | .dischargeDone _ => true
  | .postSymbolLock _ => true
  | .postLockLoss _ => true
  | .postFrameTimeout _ => true
  | .postTrainTimeout _ => true
  | .postHoldoffEnd _ => true
  | .postBadFrame _ _ => true
  | .postEnableWrite _ _ _ => true
  | .helloTimer _ => true
  | .hello _ _ _ => true
  | .bid _ _ _ => true
  | .deal _ _ _ => true
  | .sync _ _ t1 t2 t3 => decide (t1 < 2 ^ 64) && decide (t2 < 2 ^ 64) && decide (t3 < 2 ^ 64)
  | .syncReply _ _ t1 t2 t3 t4 => decide (t1 < 2 ^ 64) && decide (t2 < 2 ^ 64) && decide (t3 < 2 ^ 64) && decide (t4 < 2 ^ 64)
  | .elect _ _ _ => true
  | .order _ _ _ => true
  | .card _ _ _ => true
  | .ledgerCmdCard _ => true
  | .dealPeriodBoundary => true
  | .bidSlot => true
  | .dealerDealSlot => true
  | .dealMissCheck => true
  | .syncSlot => true
  | .dealerAccession => true
  | .orderEffective => true
  | .mirrorLock => true
  | .mirrorLinkDown => true
  | .mirrorFrameTimeout => true
  | .mirrorBadFrame _ => true
  | .mhello _ => true
  | .mirrorFence _ mv => decide (mv < 2 ^ 16)
  | .loopSnapshot => true
  | .loopState stamp recs => decide (stamp < 2 ^ 64) && decide (recs.length ≤ 32)
  | .msync t1 t2 t3 t4 => decide (t1 < 2 ^ 64) && decide (t2 < 2 ^ 64) && decide (t3 < 2 ^ 64) && decide (t4 < 2 ^ 64)
  | .protocolRecord _ => true
  | .mirrorLedger _ => true
  | .mirrorJournal _ payload => decide (payload.length ≤ 2028)
  | .mirrorControl _ => true
  | .heartbeatLoss => true
  | .partnerRoleAssert => true
  | .handover _ => true
  | .handoverInstant => true
  | .twinCmdTakeover _ => true
  | .cold _ => true
  | .replaceTimeout => true
  | .twinRoleHoldoff => true
  | .almCmpLoWrite _ _ _ => true
  | .almCmpHiWrite _ _ _ => true
  | .alarmCommit _ => true
  | .alarmFire _ _ => true
  | .cancel _ _ => true
  | .itmZero _ => true
  | .itmReloadWrite _ _ _ => true
  | .itmStart _ _ => true
  | .itmStop _ _ => true
  | .tmrGo _ _ => true
  | .tmrGoDatedRelease => true
  | .capPop _ _ => true
  | .tbLoRead _ => true
  | .faultRaise _ stamp => decide (stamp < 2 ^ 64)
  | .graceExpiry _ => true
  | .faultClear _ _ => true
  | .faultLatchBitClear _ _ => true
  | .faultForce _ _ => true
  | .severityRelax _ => true
  | .faultBacklogDrain => true
  | .minimalAutoExit _ => true
  | .spiWrite _ addr words crc => decide (addr < 2 ^ 32) && decide (words.length ≤ 256) && (crc.all fun x => decide (x < 2 ^ 16))
  | .spiRead _ addr count crc read => decide (addr < 2 ^ 32) && decide (count < 257) && (crc.all fun x => decide (x < 2 ^ 16)) && decide (read < 2 ^ 32)
  | .spiStatus _ => true
  | .spiUnknownCommand _ => true
  | .uartRead addr count => decide (addr < 2 ^ 32) && decide (count < 257)
  | .uartWrite addr words => decide (addr < 2 ^ 32) && decide (words.length ≤ 256)
  | .uartStatus => true
  | .uartFrameDrop _ => true
  | .mgmtRead _ ep seq addr count => decide (ep < 2 ^ 48) && decide (seq < 2 ^ 32) && decide (addr < 2 ^ 32) && decide (count < 257)
  | .mgmtWrite _ ep seq addr words => decide (ep < 2 ^ 48) && decide (seq < 2 ^ 32) && decide (addr < 2 ^ 32) && decide (words.length ≤ 256)
  | .mgmtStatus _ ep seq => decide (ep < 2 ^ 48) && decide (seq < 2 ^ 32)
  | .mgmtRetry ep seq => decide (ep < 2 ^ 48) && decide (seq < 2 ^ 32)
  | .ringTailWrite _ _ _ => true
  | .ringHeadWrite _ _ _ => true
  | .ringCtlWrite _ _ _ => true
  | .ringReset _ _ => true
  | .commandFetch _ => true
  | .completionRingRoom _ => true
  | .nop c => refWf c
  | .portEnable c _ => refWf c
  | .portDisable c _ => refWf c
  | .portDisableDone _ => true
  | .portDisableTimeout _ => true
  | .ledgerOrder c no kind rcount tOrder param => refWf c && decide (no < 2 ^ 32) && decide (kind < 2 ^ 8) && decide (rcount < 2 ^ 8) && decide (tOrder < 2 ^ 64) && decide (param < 2 ^ 64)
  | .ledgerOrderTimeout => true
  | .minimalEnter c => refWf c
  | .minimalExit c => refWf c
  | .enterStandby c => refWf c
  | .enterDormant c secs => refWf c && decide (secs < 2 ^ 32)
  | .deviceReset c _ => refWf c
  | .updateOpen c _ count => refWf c && decide (count < 2 ^ 16)
  | .parcelWrite c ofs crc => refWf c && decide (ofs < 2 ^ 32) && decide (crc < 2 ^ 32)
  | .updateVerify c => refWf c
  | .updateActivate c _ => refWf c
  | .updateQuietMoment => true
  | .quietWaitTimeout => true
  | .updateConfirm c => refWf c
  | .updateAbort c => refWf c
  | .updateFloor c _ => refWf c
  | .healthTimerExpiry => true
  | .journalMark c note => refWf c && decide (note.length ≤ 32)
  | .journalWindow c start => refWf c && decide (start < 2 ^ 32)
  | .telemetrySet c _ addrs => refWf c && decide (addrs.length ≤ 12)
  | .claim _ => true
  | .claimWindowClose => true
  | .renew _ => true
  | .leaseWarn => true
  | .leaseExpiry => true
  | .ownerHandover _ _ => true
  | .sysAccept _ => true
  | .sysRelease _ => true
  | .handoverLapse => true
  | .mdioPoll _ => true
  | .phyLinkRise _ => true
  | .netMdioGo _ _ => true
  | .mdioComplete _ => true
  | .arpRequest ip mac target => decide (ip < 2 ^ 32) && decide (mac < 2 ^ 48) && decide (target < 2 ^ 32)
  | .arpAgeOut ip => decide (ip < 2 ^ 32)
  | .icmpEchoRequest src len => decide (src < 2 ^ 32) && decide (len < 2 ^ 16)
  | .igmpQuery group => decide (group < 2 ^ 32)
  | .trdpPdReceive _ => true
  | .trdpPublish _ => true
  | .trdpTimeout _ => true
  | .mdNotification _ => true
  | .mdRequest comId => decide (comId < 2 ^ 32)
  | .ptpEventMessage _ _ _ stamp => decide (stamp < 2 ^ 64)
  | .netPtpPop _ => true
  | .recOpen _ => true
  | .recParcel _ => true
  | .recVerify _ => true
  | .recInstall _ => true
  | .recClose _ => true
  | .resetAssert => true
  | .supplyOutOfRange _ => true
  | .vaonLoss => true
  | .bootStart _ => true
  | .bootTimeout => true
  | .wakePin => true
  | .wakeTimerExpiry => true
  | .deadcarFeedRise _ => true
  | .journalProgram => true
  | .shedRecord => true
  | .watchdogExpiry _ _ => true
  | .faultConditionEnd _ => true
  | .supplyInRange _ => true
  | .referenceRampEnd _ => true
  | .guardLimitEnd _ => true
  | .feedLimitEnd _ => true
  | .rearmAgeOut _ => true
  | .mhelloTimer => true
  | .msyncTimer => true
  | .heartbeatFound => true
  | .partnerRoleDeassert => true
  | .loopFrameOverdue => true
  | .slotEraseDone _ => true
  | .parcelProgrammed _ => true
  | .packageVerifyDone => true
  | .otpWriteDone => true
  | .activationDone _ => true

end Sys2Proof
end

