-- ==== Sys2Proof/Tests/Slice0.lean ====
section
/-! SUPPORT. Tests: ill-formed commands are refused by the check, the statements' hypotheses are met by concrete states, and a few single steps with
results taken from the spec's words. -/

set_option maxRecDepth 4000

namespace Sys2Proof.Tests

open Machine

/-! ### Well-formedness: one ill-formed term for each check -/

/-- A reference to an entry of ring 0. -/
def ref : CmdRef := ⟨0, 0, 7⟩
/-- A reference whose index does not fit 16 bits. -/
def far : CmdRef := ⟨0, 65536, 7⟩
def die : DieId := ⟨0, 0, 0, 0⟩
def hdr : PostHdr := ⟨1, 0, 0x20, false, 0⟩

theorem test_wf_refuses_a_ring_index_of_17_bits : ([Instr.imageCheck far, .imageStore far 0, .imageSwitch far 0 0, .amendApply far, .imageFloor far,
    .keyEnrol far 0 0, .keyRevoke far 0 0, .portHardReset far 0, .restorePhase far 0, .nop far, .portEnable far 0, .portDisable far 0,
    .ledgerOrder far 0 1 0 0 0, .minimalEnter far, .minimalExit far, .enterStandby far, .enterDormant far 0, .deviceReset far 0, .updateOpen far 0 1,
    .parcelWrite far 0 0, .updateVerify far, .updateActivate far 0, .updateConfirm far, .updateAbort far, .updateFloor far 0,
    .journalMark far (List.replicate 32 0), .journalWindow far 0, .telemetrySet far 0 []].all fun i => !i.wf) = true := by decide

theorem test_wf_refuses_wide_numbers : ([Instr.registerWrite 0 (2 ^ 32) 0, .admissionCheckEnd (2 ^ 32), .imageSwitch ref 0 (2 ^ 64),
    .monitorZoneChange 0 .below (2 ^ 64), .jtail 0 0 65536, .jread 0 0 65536, .serviceFaults 0 0 65536, .eprModeEnter 0 256, .chunkRequest 0 16,
    .channelSettle 0 .below (2 ^ 64), .channelHoldEnd 0 .below (2 ^ 64), .converterTrigger 0 1 (2 ^ 64), .mirrorFence 0 65536,
    .faultRaise 0 (2 ^ 64), .ledgerOrder ref (2 ^ 32) 1 0 0 0, .ledgerOrder ref 0 256 0 0 0, .ledgerOrder ref 0 1 256 0 0,
    .ledgerOrder ref 0 1 0 (2 ^ 64) 0, .ledgerOrder ref 0 1 0 0 (2 ^ 64), .enterDormant ref (2 ^ 32), .updateOpen ref 0 65536,
    .parcelWrite ref (2 ^ 32) 0, .parcelWrite ref 0 (2 ^ 32), .journalWindow ref (2 ^ 32)].all fun i => !i.wf) = true := by decide

theorem test_wf_refuses_wide_stamps : ([Instr.sync 0 hdr (2 ^ 64) 0 0, .sync 0 hdr 0 (2 ^ 64) 0, .sync 0 hdr 0 0 (2 ^ 64), .syncReply 0 hdr (2 ^ 64) 0 0 0,
    .syncReply 0 hdr 0 (2 ^ 64) 0 0, .syncReply 0 hdr 0 0 (2 ^ 64) 0, .syncReply 0 hdr 0 0 0 (2 ^ 64), .loopState (2 ^ 64) [],
    .msync (2 ^ 64) 0 0 0, .msync 0 (2 ^ 64) 0 0, .msync 0 0 (2 ^ 64) 0, .msync 0 0 0 (2 ^ 64), .ptpEventMessage false 0 0 (2 ^ 64)].all
    fun i => !i.wf) = true := by decide

theorem test_wf_refuses_long_lists : ([Instr.sourceCapabilities 0 (List.replicate 12 0), .vendorDefined 0 0 (List.replicate 7 0),
    .sequenceComplete 0 (List.replicate 17 0), .journalMark ref (List.replicate 33 0),
    .telemetrySet ref 0 (List.replicate 13 0)].all fun i => !i.wf) = true := by decide

theorem test_wf_refuses_a_long_mirror_record : (Instr.mirrorJournal 0 (List.replicate 2029 0)).wf = false := by
  show decide ((List.replicate 2029 (0 : Byte)).length ≤ 2028) = false
  rw [List.length_replicate]; rfl

theorem test_wf_refuses_transactions : ([Instr.spiWrite 0 (2 ^ 32) [] none, .spiWrite 0 0 (List.replicate 257 0) none, .spiWrite 0 0 [] (some 65536),
    .spiRead 0 (2 ^ 32) 0 none 0, .spiRead 0 0 257 none 0, .spiRead 0 0 0 (some 65536) 0, .spiRead 0 0 0 none (2 ^ 32), .uartRead (2 ^ 32) 0,
    .uartRead 0 257, .uartWrite (2 ^ 32) [], .uartWrite 0 (List.replicate 257 0), .mgmtRead true (2 ^ 48) 0 0 0, .mgmtRead true 0 (2 ^ 32) 0 0,
    .mgmtRead true 0 0 (2 ^ 32) 0, .mgmtRead true 0 0 0 257, .mgmtWrite true (2 ^ 48) 0 0 [], .mgmtWrite true 0 (2 ^ 32) 0 [],
    .mgmtWrite true 0 0 (2 ^ 32) [], .mgmtWrite true 0 0 0 (List.replicate 257 0), .mgmtStatus true (2 ^ 48) 0, .mgmtStatus true 0 (2 ^ 32),
    .mgmtRetry (2 ^ 48) 0, .mgmtRetry 0 (2 ^ 32)].all fun i => !i.wf) = true := by decide

theorem test_wf_refuses_network_addresses : ([Instr.arpRequest (2 ^ 32) 0 0, .arpRequest 0 (2 ^ 48) 0, .arpRequest 0 0 (2 ^ 32), .arpAgeOut (2 ^ 32),
    .icmpEchoRequest (2 ^ 32) 0, .icmpEchoRequest 0 65536, .igmpQuery (2 ^ 32), .mdRequest (2 ^ 32)].all fun i => !i.wf) = true := by decide

theorem test_wf_takes_bounds : ([Instr.registerWrite 0 (2 ^ 32 - 1) 0, .nop ⟨15, 65535, 0⟩, .chunkRequest 0 15, .spiRead 0 0 256 (some 65535) 0,
    .journalMark ref (List.replicate 32 0), .telemetrySet ref 0 (List.replicate 12 0)].all fun i => i.wf) = true := by decide

/-! ### Witnesses: a block in SERVICE, with port 0 mapped to phase 0 on bus A, and states near it -/

/-- Port 0 a source with FENCE raised at boot, ring 0 of master 0 for commands, ring 1 for their completions, ring 2 for fault messages. -/
def image : ImageCfg :=
  { ports := (Vector.replicate 32 none).set 0 (some { pflags := 1 }), phases := (Vector.replicate 64 none).set 0 (some {})
    host := { rings := (((Vector.replicate 16 none).set 0 (some { pair := 1 })).set 1 (some { kind := 1, base := 8 })).set 2 (some { kind := 2, base := 16 }) }
    ledger := { seatKey := 0x30, floor := 10 } }

def sys0 : Sys := { mode := .service, bootStep := 15, attachHold := false, edgeUp := Vector.replicate 5 true }

/-- The block in SERVICE, master 0 its owner, no source with an action. -/
def svc : Dev :=
  { cfg := image, cfgNew := image, sys := sys0, host := { hostLoaded := true, owner := some 0, leaseEnd := 1000 }, upd := { svRun := true, coreRun := 0xF }
    sources := Vector.replicate 768 {}, feeds := (Vector.replicate 4 {}).set 0 { state := .on, pg := true }
    phases := (Vector.replicate 64 {}).set 0 { state := .idle }, twin := { role := 0 } }

/-- `Quiet`, spelled out so that it can be decided. -/
abbrev quiet (d : Dev) (n : Fin 768) : Prop := (takeLater d.sources[n]).action = 0 ∧ lostLink d n = none
theorem quiet_spells_quiet (d : Dev) (n : Fin 768) : Quiet d n ↔ quiet d n := Iff.rfl

/-- A state whose block is given, with an empty queue. -/
def st (d : Dev) : State := { dev := d }

/-- Port 0 of the block in SERVICE changed. -/
def port0 (q : Port) : Dev := { svc with ports := svc.ports.set 0 q }

/-- Port 0 and its protocol engine changed. -/
def port0pd (q : Port) (e : PortPd) : Dev := { port0 q with pd := svc.pd.set 0 e }

def sysOf (s : Sys) : Dev := { svc with sys := s }

theorem test_witness_EmptyQueueCountsOneTick : (st svc).pending = [] ∧
    (let d := (st { svc with host := {} }).dev; d.sys.inReset = false ∧ d.sys.mode ≠ .dormant ∧ d.host.hostLoaded = false ∧ d.tmr.steer = 0) ∧
    (sysOf { sys0 with inReset := true }).sys.inReset = true ∧ (sysOf { sys0 with mode := .dormant }).sys.mode = .dormant := by decide

theorem test_witness_RingEntriesDecodeAsEncoded : (∃ e, encodeEntry true (.imageSwitch ref 3 (2 ^ 64 - 1)) = some e) ∧
    entryFits (.imageSwitch ref 3 (2 ^ 64 - 1)) = true ∧ entryFits (.telemetrySet ref 15 (List.replicate 12 (2 ^ 32 - 1))) = true := by
  refine ⟨⟨_, rfl⟩, ?_, ?_⟩ <;> decide

theorem test_witness_MemoriesStayCanonical : (st svc).inv ∧ ∃ t, step (st svc) = .next t := ⟨⟨rfl, rfl, rfl, rfl⟩, ⟨_, rfl⟩⟩

theorem test_witness_RefusedClaimsHaveNoEffect : svc.host.owner ≠ none ∧ (sysOf { sys0 with deadcar := true }).sys.deadcar = true ∧
    (sysOf { sys0 with mode := .recovery }).sys.mode = .recovery ∧ (State.reset.dev).host.hostLoaded = false ∧
    (let d : Dev := { svc with cfg := { image with host := { masters := Vector.replicate 5 { mayClaim := false } } } }; (masterCfg d 4).mayClaim = false) ∧
    (let d : Dev := { svc with host := { hostLoaded := true, window := true, masters := Vector.replicate 5 { claiming := true } } }
     (masterCfg d 4).mayClaim = true ∧ d.host.owner = none ∧ d.host.hostLoaded = true ∧ d.sys.deadcar = false ∧ d.sys.mode ≠ .recovery ∧
     d.host.window = true ∧ (d.host.masters[4]).claiming = true) := by decide

theorem test_witness_PastCompareMissesOrFiresLate :
    (let d : Dev := { svc with alarms := Vector.replicate 32 { commitHi := some 0 } }
     (d.alarms[31]).commitHi = some 0 ∧ isAhead d ((d.alarms[31]).commitLo + 0 * 2 ^ 32) = false ∧ (d.alarms[31]).late = false) ∧
    (let d : Dev := { svc with alarms := Vector.replicate 32 { commitHi := some 0x80000000, late := true, tkind := 3, tindex := 15 } }
     (d.alarms[0]).commitHi = some 0x80000000 ∧ isAhead d ((d.alarms[0]).commitLo + 0x80000000 * 2 ^ 32) = false ∧ (d.alarms[0]).late = true ∧
     (d.alarms[0]).tkind = 3 ∧ (d.alarms[0]).tindex = (15 : Fin 16).val) := by decide

theorem test_witness_EdgeLinksFreezeAndReturn : svc.sys.edgeUp[(4 : Fin 5)] = true ∧ quiet svc (srcLinkLoss 4) ∧
    (sysOf { sys0 with retraining := Vector.replicate 5 true }).sys.retraining[(4 : Fin 5)] = true ∧
    (let d : Dev := { svc with loss := { unconfirmed := [(31, .currentLimit 5000)] } }
     d.sys.edgeUp[linkOf (edgeOf 31)] = true ∧ d.loss.queue[linkOf (edgeOf 31)] = [] ∧ d.loss.marks = [] ∧ d.loss.unconfirmed = [(31, .currentLimit 5000)] ∧
     portMinimal d 31 = false) ∧
    (svc.sys.inReset = false ∧ svc.sys.edgeOn[(3 : Fin 4)] = true ∧ svc.sys.mode = .service ∧ (∃ f : Fin 4, f ≠ 3 ∧ svc.sys.edgeMin[f] = false) ∧
     quiet svc (srcEdgeMinimal 3)) ∧
    quiet svc (srcClock .aon) ∧ quiet svc (srcClock (.edge 3)) ∧ quiet svc (srcLinkLoss (linkOf 3)) := by decide

theorem test_witness_EdgeCommandsReachTheDie : svc.sys.edgeUp[linkOf (edgeOf 31)] = true ∧ portMinimal svc 31 = false ∧
    ((port0 { fence := 5000 }).ports[(0 : Fin 32)]).fence ≤ 5000 ∧ 4999 < ((port0 { fence := 5000 }).ports[(0 : Fin 32)]).fence ∧
    portMinimal (sysOf { sys0 with edgeMin := Vector.replicate 4 true }) 31 = true ∧
    (∀ x ∈ svc.loss.unconfirmed, x.1 ≠ 31) ∧ (∃ x ∈ ({ svc with loss := { unconfirmed := [(31, .vconnOff)] } } : Dev).loss.unconfirmed, x.1 = 31) ∧
    (sysOf { sys0 with edgeUp := Vector.replicate 5 false }).sys.edgeUp[linkOf (edgeOf 31)] = false := by decide

/-- A command that ring 0 of the owner may run. -/
theorem test_witness_ImagesAreCheckedAndStored : checkCode480 svc ref opImageCheck true none = none ∧ checkCode480 svc ref opImageStore true none = none ∧
    checkCode480 svc ref opAmendApply true none = none ∧ keyFault svc = false ∧ (svc.store.slots[(3 : Fin 4)]).state ≠ .active ∧ svc.store.switchAt = none ∧
    (let d : Dev := { svc with store := { slots := Vector.replicate 4 { state := .active }, switchAt := some (3, 0) } }
     checkCode480 d ref opImageStore true none = none ∧ (d.store.slots[(3 : Fin 4)]).state = .active ∧ d.store.switchAt ≠ none) ∧
    (let d : Dev := { svc with host := { svc.host with jobs := [{ ref := ref, opcode := opImageStore, arg := 3 }] }, store := { check := .running, writing := some 3 } }
     checkJob d = some { ref := ref, opcode := opImageStore, arg := 3 } ∧ d.store.check = .running ∧ (verdictFor d opImageStore).result ≠ 0 ∧ keyFault d = false ∧
     d.store.writing = some 3 ∧ jobOf d opImageStore = some { ref := ref, opcode := opImageStore, arg := 3 } ∧ jobOf svc opImageStore = none) := by decide

theorem test_witness_SwitchesAndAmendmentsComeIntoForce : checkCode480 svc ref opImageSwitch (switchTimeOk svc (3 * dealTicks svc)) none = none ∧
    3 * dealTicks svc - 1 < svc.tmr.tb + 3 * dealTicks svc ∧ checkCode480 svc ref opImageSwitch false none = some .badParam ∧
    (let d : Dev := { svc with store := { slots := Vector.replicate 4 { state := .stored } } }; (d.store.slots[(3 : Fin 4)]).state = .stored ∧ d.store.switchAt = none) ∧
    (let d : Dev := { svc with cfg := { image with ledger := {} }, store := { slots := Vector.replicate 4 { state := .stored }, switchAt := some (3, 7) } }
     d.store.switchAt = some (3, 7) ∧ (d.store.slots[(3 : Fin 4)]).state = .stored ∧ d.cfg.ledger = (cfgOf (slotSects d.store.slots[(3 : Fin 4)])).ledger) ∧
    (let d : Dev := { svc with store := { switchAt := some (3, 7) } }; d.store.switchAt = some (3, 7) ∧ (d.store.slots[(3 : Fin 4)]).state ≠ .stored) := by decide

theorem test_witness_FloorsAndKeysAreWritten : checkCode480 svc ref opImageFloor true none = none ∧ svc.store.floors.length < 64 ∧
    64 ≤ ({ svc with store := { floors := List.replicate 64 1 } } : Dev).store.floors.length ∧ checkCode480 svc ref opKeyEnrol true none = none ∧
    (∀ i : Fin 4, keyState svc.store.keys[i] = 0) ∧
    (let d : Dev := { svc with store := { keys := (Vector.replicate 4 {}).set 3 { hash := 5, key := [1] } } }
     keyState d.store.keys[(3 : Fin 4)] ≠ 0 ∧ keyState d.store.keys[(0 : Fin 4)] = 0 ∧ keyBroken d (0 : Fin 4).val = false ∧ stagedSigned d 0 64 64 = false) ∧
    checkCode480 svc ref opKeyRevoke true none = none ∧ keyBroken svc (3 : Fin 4).val = false ∧
    ({ svc with store := { otpWrite := some (2, 3) } } : Dev).store.otpWrite = some (2, 3) := by decide

/-- Port 0 a source whose Rd is debounced on CC1, with VBUS low. -/
def attaching : Dev :=
  { port0pd { tc := .attachWaitSrc, capWatts := 150, enabled := true } { deb := true } with
    chans := ((svc.chans.set (vbusCh 0) { zone := .below }).set (cc1 0) { zone := .inWin }).set (cc2 0) { zone := .above } }

theorem test_witness_TypeCTimersMoveThePort_source : (attaching.ports[(0 : Fin 32)]).tc = .attachWaitSrc ∧ (attaching.pd[(0 : Fin 32)]).deb = true ∧
    attachHeld attaching 0 = false ∧ vbusLow attaching 0 = true ∧ rdOne attaching 0 = true := by decide

def role (r : Nat) (q : Port) (d : Dev) : Dev :=
  { d with cfg := { image with ports := (Vector.replicate 32 none).set 0 (some { pflags := 3, roles := r }) }, ports := svc.ports.set 0 q, pd := svc.pd.set 0 { deb := true } }

/-- One pin of port 0 sees Rp, VBUS is present. -/
def sinking (r : Nat) : Dev := role r { tc := .attachWaitSnk, rd := true }
  { svc with chans := ((svc.chans.set (vbusCh 0) { zone := .above }).set (cc1 0) { zone := .inWin }).set (cc2 0) { zone := .below } }

theorem test_witness_TypeCTimersMoveThePort_sink :
    (let d := sinking 1; (d.ports[(0 : Fin 32)]).tc = .attachWaitSnk ∧ (d.pd[(0 : Fin 32)]).deb = true ∧ rpOne d 0 = true ∧ trySrcOn d 0 = false ∧
      vbusHigh4 d 0 = true ∧ isDrp d 0 = false) ∧
    (let d := role 1 { tc := .attachWaitSnk, rd := true } svc; isDrp d 0 = false ∧ pinRp d 0 false = false ∧ pinRp d 0 true = false) ∧
    (let d := sinking 2; (d.ports[(0 : Fin 32)]).tc = .attachWaitSnk ∧ (d.pd[(0 : Fin 32)]).deb = true ∧ rpOne d 0 = true ∧ trySrcOn d 0 = true) ∧
    (let d := role 2 { tc := .unattachedSrc } svc; (d.ports[(0 : Fin 32)]).tc = .unattachedSrc ∧ isDrp d 0 = true ∧ (d.ports[(0 : Fin 32)]).rd = false ∧
      (d.chans[cc1 0]).enabled = true) ∧
    (let d := role 2 { tc := .unattachedSnk, rd := true } svc; (d.ports[(0 : Fin 32)]).tc = .unattachedSnk ∧ isDrp d 0 = true ∧ anyPg d = true ∧ livePhases d 0 ≠ [] ∧
      (d.ports[(0 : Fin 32)]).rd = true ∧ (d.chans[cc1 0]).enabled = true) ∧
    (let d := role 2 { tc := .trySrc } { svc with chans := attaching.chans }; (d.ports[(0 : Fin 32)]).tc = .trySrc ∧ rdOne d 0 = true ∧ lostPort d 0 = false) ∧
    (let d := role 2 { tc := .tryWaitSnk } svc; (d.ports[(0 : Fin 32)]).tc = .tryWaitSnk ∧ vbusHigh4 d 0 = false ∧
      pinRp d 0 false = false ∧ pinRp d 0 true = false) ∧
    (let d := role 0 { tc := .errorRecovery } svc; (d.ports[(0 : Fin 32)]).tc = .errorRecovery ∧ dieTripped d (edgeOf 0) = false ∧ canSource d 0 = true ∧
      isDrp d 0 = false ∧ livePhases d 0 ≠ [] ∧ (d.ports[(0 : Fin 32)]).rp = .none ∧ (d.chans[cc1 0]).enabled = true) := by decide

/-! ### Ports and Power Delivery -/

theorem test_witness_CableAndVconnOfAPort : quiet svc (portSrc 31 4) ∧ quiet svc (portSrc 31 5) ∧ hasPort svc 31 = false ∧
    (let d := port0 { tc := .attachedSrc }
     hasPort d 0 = true ∧ (d.ports[(0 : Fin 32)]).tc ≠ .disabled ∧ (d.ports[(0 : Fin 32)]).tc ≠ .errorRecovery ∧ (d.ports[(0 : Fin 32)]).tc ≠ .minimal ∧
      (d.pd[(0 : Fin 32)]).disabling = false ∧ lostPort d 0 = false ∧ quiet d (portSrc 0 4)) ∧
    (let d := port0pd { tc := .attachedSrc, vconnOn := true } { discoverTries := 2 }
     pdLive d 0 = true ∧ (d.ports[(0 : Fin 32)]).vconnOn = true ∧ (d.ports[(0 : Fin 32)]).cableDone = false ∧ explicit d 0 = false ∧
      (d.pd[(0 : Fin 32)]).sinkTxNg = false ∧ (d.pd[(0 : Fin 32)]).discoverTries < 3) ∧
    (let d := port0pd { tc := .attachedSrc, vconnOn := true, kind := .sprFixed } { discoverTries := 2 }
     (d.ports[(0 : Fin 32)]).vconnOn = true ∧ pdLive d 0 = true ∧ pdSource d 0 = true ∧ (d.ports[(0 : Fin 32)]).cableDone = false ∧ (d.pd[(0 : Fin 32)]).discoverTries < 20 ∧
      explicit d 0 = true ∧ (d.pd[(0 : Fin 32)]).sinkTxNg = false ∧ (d.pd[(0 : Fin 32)]).ams = .none ∧ (d.ports[(0 : Fin 32)]).transition = false ∧
      (d.pd[(0 : Fin 32)]).txQueue = [] ∧ (d.pd[(0 : Fin 32)]).discoverTries ≠ 0) ∧
    (let d := port0pd { tc := .attachedSrc, vconnOn := true, kind := .sprFixed } { discoverTries := 20 }
     pdLive d 0 = true ∧ (d.ports[(0 : Fin 32)]).cableDone = false ∧ 20 ≤ (d.pd[(0 : Fin 32)]).discoverTries ∧ explicit d 0 = true ∧ (d.pd[(0 : Fin 32)]).sinkTxNg = false) := by decide

theorem test_witness_MinimalPortAttachesAndDetaches :
    (let d : Dev := { port0pd { tc := .minimal } { deb := true } with chans := attaching.chans, sys := { sys0 with dieRec := Vector.replicate 4 (some (dieParams image)) } }
     (d.ports[(0 : Fin 32)]).tc = .minimal ∧ (d.ports[(0 : Fin 32)]).minAtt = false ∧ rdOne d 0 = true ∧ vbusLow d 0 = true ∧
     (d.guards[(0 : Fin 32)]).state ≠ .latched ∧ (d.ports[(0 : Fin 32)]).startFail = false ∧ dieHolds d 0 = false ∧ (d.sys.dieRec[edgeOf 0]).isSome = true ∧
     portPg d 0 = true ∧ livePhases d 0 ≠ [] ∧ censusOpen d 0 = false ∧ (d.pd[(0 : Fin 32)]).deb = true ∧ timerRuns d (.tccdebounceExpiry 0) = false ∧ timerRuns d (.terrorrecoveryExpiry 0) = false) ∧
    (let d := port0 { tc := .minimal, minAtt := true }
     (d.ports[(0 : Fin 32)]).minAtt = true ∧ lostPort d 0 = false ∧ bit d.store.pendPorts (0 : Fin 32).val = false) := by decide

/-- A SERVICE port under a contract. -/
def serving : Dev :=
  { port0pd { tc := .attachedSrc, kind := .sprFixed, volt := 5000, curr := 3000 } {} with
    cfg := { image with ports := (Vector.replicate 32 none).set 0 (some { cls := 3, pflags := 1 }) } }

theorem test_witness_ServiceReadoutAnswers : (let d := port0 { tc := .attachedSrc }; pdLive d 0 = true ∧ servicePort d 0 = false ∧ (d.ports[(0 : Fin 32)]).rev ≠ 1 ∧
      ((d.pd[(0 : Fin 32)]).bistData || corePaused d 0) = false ∧ (d.pd[(0 : Fin 32)]).ams = .none ∧ (d.pd[(0 : Fin 32)]).txQueue = []) ∧
    ((serving.pd[(0 : Fin 32)]).bistData || corePaused serving 0) = false ∧ pdLive serving 0 = true ∧ servicePort serving 0 = true ∧ (serving.pd[(0 : Fin 32)]).ams = .none ∧
    (serving.pd[(0 : Fin 32)]).txQueue = [] ∧ serving.sys.storeOk = true ∧ serving.jrn.busy = false ∧ serving.jrn.written.length ≤ 0 ∧
    (let d : Dev := { serving with jrn := { written := [(0, ⟨0, List.replicate 20 0⟩)] } }
     pdLive d 0 = true ∧ servicePort d 0 = true ∧ 0 < d.jrn.written.length ∧ (16 : Nat) % 4 = 0 ∧ journalWritten d 16 = true) ∧
    (let d : Dev := { serving with jrn := { busy := true } }; pdLive d 0 = true ∧ servicePort d 0 = true ∧ d.jrn.busy = true) := by decide

def source (q : Port) (f : BitVec 8) : Dev :=
  { port0pd { q with tc := .attachedSrc } {} with cfg := { image with ports := (Vector.replicate 32 none).set 0 (some { pflags := f }) } }
def drp (q : Port) (f : BitVec 8) : Dev :=
  { port0pd q {} with cfg := { image with ports := (Vector.replicate 32 none).set 0 (some { pflags := f, roles := 2 }) } }

theorem test_witness_PdQuestionsAreAnswered :
    (let d := source {} 1; pdLive d 0 = true ∧ ((d.pd[(0 : Fin 32)]).bistData || corePaused d 0) = false ∧ (d.pd[(0 : Fin 32)]).ams = .none ∧ (d.ports[(0 : Fin 32)]).rev ≠ 1 ∧ canSink d 0 = false ∧ pdSource d 0 = true ∧ pflag d 0 3 = false ∧
      (d.ports[(0 : Fin 32)]).kind ≠ .pps ∧ servicePort d 0 = false) ∧
    (let d := source { kind := .pps, eprMode := true } 9; pdSource d 0 = true ∧ (d.ports[(0 : Fin 32)]).kind = .pps ∧ (d.ports[(0 : Fin 32)]).eprMode = true ∧ pflag d 0 3 = true) ∧
    (let d := source { rev := 2 } 9; pdSource d 0 = true ∧ (d.ports[(0 : Fin 32)]).rev ≠ 1 ∧ (d.ports[(0 : Fin 32)]).eprMode = false ∧ pflag d 0 3 = true) ∧
    (let d := drp { tc := .attachedSnk } 1; pdLive d 0 = true ∧ pdSink d 0 = true ∧ canSink d 0 = true ∧ pdSource d 0 = false ∧ isDrp d 0 = true) := by decide

/-- Port 0 offers 5 V at 3 A at position 1 and, in EPR mode, 28 V at 5 A at position 8; its hand is 240 W. -/
def offering (e : Bool) : Dev :=
  { source { hand := 2400, eprMode := e, kind := .sprFixed, cableDone := true, cableV := 50, cableI := 5000, cableEpr := true, capWatts := 240, capMa := 5000 } 9 with
    pd := svc.pd.set 0 { sentPdos := ((Vector.replicate 11 0).set 0 0x1912C).set 7 0x8C1F4 } }

theorem test_witness_RequestsAndContracts_source :
    (let d := offering false; pdSource d 0 = true ∧ ((d.pd[(0 : Fin 32)]).bistData || corePaused d 0) = false ∧ lostPort d 0 = false ∧ (d.pd[(0 : Fin 32)]).ams = .none ∧ (d.ports[(0 : Fin 32)]).transition = false ∧
      askOf d 0 0x1004B12C = some ⟨.sprFixed, 1, 5000, 3000, false, false⟩ ∧ askGood d 0 ⟨.sprFixed, 1, 5000, 3000, false, false⟩ none = true ∧
      explicit d 0 = true ∧ (d.pd[(0 : Fin 32)]).capsDue = false ∧ askOf d 0 0 = none) ∧
    (let d := offering true; pdSource d 0 = true ∧ ((d.pd[(0 : Fin 32)]).bistData || corePaused d 0) = false ∧ lostPort d 0 = false ∧ (d.pd[(0 : Fin 32)]).ams = .none ∧
      (d.ports[(0 : Fin 32)]).eprMode = true ∧ (d.ports[(0 : Fin 32)]).transition = false ∧ askOf d 0 0x8047D1F4 = some ⟨.eprFixed, 8, 28000, 5000, false, true⟩ ∧
      askGood d 0 ⟨.eprFixed, 8, 28000, 5000, false, true⟩ (some 0x8C1F4) = true) := by decide

theorem test_witness_RequestsAndContracts_sink :
    (let d := { drp { tc := .attachedSnk } 1 with pd := svc.pd.set 0 { ams := .sinkRequest } }; pdSink d 0 = true ∧ pdLive d 0 = true ∧
      (d.pd[(0 : Fin 32)]).ams = .sinkRequest ∧ (d.pd[(0 : Fin 32)]).capsDue = false ∧ ((d.pd[(0 : Fin 32)]).bistData || corePaused d 0) = false) ∧
    (let d := { drp { tc := .attachedSnk } 1 with pd := svc.pd.set 0 { ams := .sinkTransition } }; pdLive d 0 = true ∧ (d.pd[(0 : Fin 32)]).ams = .sinkTransition) ∧
    (let d := drp { tc := .attachedSnk } 1; pdSink d 0 = true ∧ pdLive d 0 = true ∧ (d.pd[(0 : Fin 32)]).ams = .none ∧ ((d.pd[(0 : Fin 32)]).bistData || corePaused d 0) = false) := by decide

theorem test_witness_EprModeSwapsAndBist :
    (let d := source { kind := .sprFixed } 9; pdSource d 0 = true ∧ (d.ports[(0 : Fin 32)]).kind = .sprFixed ∧ (d.ports[(0 : Fin 32)]).eprMode = false ∧
      (d.ports[(0 : Fin 32)]).rev ≠ 1 ∧ ((d.pd[(0 : Fin 32)]).bistData || corePaused d 0) = false ∧ (d.pd[(0 : Fin 32)]).ams = .none) ∧
    (let d := source { kind := .sprFixed, eprMode := true } 9; pdSource d 0 = true ∧ (d.ports[(0 : Fin 32)]).kind = .sprFixed ∧ (d.ports[(0 : Fin 32)]).eprMode = true) ∧
    (let d := drp { tc := .attachedSrc, vconnOn := true } 0x71; pdLive d 0 = true ∧ isDrp d 0 = true ∧ pflag d 0 4 = true ∧ pflag d 0 5 = true ∧ pflag d 0 6 = true ∧
      (d.ports[(0 : Fin 32)]).eprMode = false ∧ (d.ports[(0 : Fin 32)]).transition = false ∧ (d.ports[(0 : Fin 32)]).swap = false ∧ pdSource d 0 = true ∧
      (d.ports[(0 : Fin 32)]).vconnOn = true) ∧
    (let d := drp { tc := .attachedSrc } 1; pdLive d 0 = true ∧ isDrp d 0 = true ∧ pflag d 0 4 = false ∧ pflag d 0 5 = false) ∧
    (atFive serving 0 = true ∧ pdLive serving 0 = true ∧ (serving.pd[(0 : Fin 32)]).ams = .none) ∧
    (let t : PdTx := ⟨0, .eprSourceCapabilities, List.replicate 8 0, 0, 0⟩
     let d := port0pd { tc := .attachedSrc } { chunks := some t }; pdLive d 0 = true ∧ (d.pd[(0 : Fin 32)]).chunks = some t ∧ ((d.pd[(0 : Fin 32)]).bistData || corePaused d 0) = false ∧ 26 * 1 < dataBytes t) := by decide

theorem test_witness_ResetsOfAPort :
    (let d := source { kind := .sprFixed } 1; pdLive d 0 = true ∧ pdSource d 0 = true ∧ checkCode480 d ref opPortHardReset true (some (edgeOf 0)) = none ∧
      explicit d 0 = true ∧ (d.pd[(0 : Fin 32)]).hardResets < 2 ∧ quiet d (portSrc 0 6) ∧ ((d.pd[(0 : Fin 32)]).bistData || corePaused d 0) = false ∧ d.sys.retraining[linkOf (edgeOf 0)] = false ∧ lostPort d 0 = false) := by decide

theorem test_witness_MessagesOnTheWire :
    (let d := source {} 1; pdLive d 0 = true ∧ (d.pd[(0 : Fin 32)]).bistData = false ∧ (d.pd[(0 : Fin 32)]).rxQueue.length < 4 ∧
      (d.pd[(0 : Fin 32)]).rxId ≠ some 7 ∧ d.sys.retraining[linkOf (edgeOf 0)] = false ∧ PdKind.getStatus ≠ .bistOther) ∧
    (let m : PdMsg := ⟨0, .getStatus, 7, false, []⟩
     let d := port0pd { tc := .attachedSrc } { rxQueue := [m, m, m, m], rxId := some 7 }
     pdLive d 0 = true ∧ m.sop = 0 ∧ (d.pd[(0 : Fin 32)]).bistData = false ∧ 4 ≤ (d.pd[(0 : Fin 32)]).rxQueue.length) ∧
    (let m : PdMsg := ⟨0, .getStatus, 7, false, []⟩
     let d := port0pd { tc := .attachedSrc } { rxQueue := [m, m, m], rxId := some 7 }
     pdLive d 0 = true ∧ (d.pd[(0 : Fin 32)]).rxQueue.length < 4 ∧ (d.pd[(0 : Fin 32)]).rxId = some m.msgId ∧ m.kind ≠ .softReset) ∧
    (let t : PdTx := ⟨0, .accept, [], 1, 0⟩
     let d := port0pd { tc := .attachedSrc } { txQueue := [t], ams := .transition }
     d.sys.retraining[linkOf (edgeOf 0)] = false ∧ t.sop = 0 ∧ t.kind = .accept ∧ (d.pd[(0 : Fin 32)]).ams = .transition ∧ (d.pd[(0 : Fin 32)]).txQueue = [t] ∧ t.tries < 2) ∧
    (let t : PdTx := ⟨0, .request, [0], 0, 0⟩
     let d := port0pd { tc := .attachedSnk } { txQueue := t :: [] }; d.sys.retraining[linkOf (edgeOf 0)] = false ∧ t.sop = 0 ∧ t.kind = .request ∧ (d.pd[(0 : Fin 32)]).txQueue = t :: []) ∧
    (let t : PdTx := ⟨0, .eprSourceCapabilities, List.replicate 8 0, 0, 0⟩
     let d := port0pd { tc := .attachedSrc } { txQueue := t :: [] }; t.sop = 0 ∧ moreChunks t = true ∧ (d.pd[(0 : Fin 32)]).txQueue = t :: []) ∧
    (let t : PdTx := ⟨1, .discoverIdentity, [], 2, 0⟩
     let d := port0pd { tc := .attachedSrc } { txQueue := t :: [] }; 2 ≤ t.tries ∧ t.sop ≠ 0 ∧ (d.pd[(0 : Fin 32)]).sinkTxNg = false ∧ (d.pd[(0 : Fin 32)]).txQueue = t :: []) := by decide

theorem test_witness_ProtocolTimersEnd_source :
    (let d := source { capsSent := 49 } 1; pdSource d 0 = true ∧ explicit d 0 = false ∧ (d.ports[(0 : Fin 32)]).capsSent < 50 ∧ (d.pd[(0 : Fin 32)]).ams = .none ∧
      (d.ports[(0 : Fin 32)]).eprMode = false) ∧
    (let d := port0pd { tc := .attachedSrc } { sinkTxNg := true }; pdSource d 0 = true ∧ (d.pd[(0 : Fin 32)]).sinkTxNg = true ∧ (d.pd[(0 : Fin 32)]).discDue = false ∧ (d.pd[(0 : Fin 32)]).ams = .none ∧
      (d.ports[(0 : Fin 32)]).eprMode = false) ∧
    (let d := port0pd { tc := .attachedSrc } { ams := .transition, newVolt := 20000, newKind := .sprFixed }
     pdSource d 0 = true ∧ lostPort d 0 = false ∧ (d.pd[(0 : Fin 32)]).ams = .transition ∧ refNow d d.loops[(0 : Fin 32)] < refCode (d.pd[(0 : Fin 32)]).newVolt ∧
      (d.pd[(0 : Fin 32)]).newKind = .sprFixed) ∧
    (let d := source { kind := .pps, eprMode := true } 1; pdSource d 0 = true ∧ (d.ports[(0 : Fin 32)]).eprMode = true ∧ (d.pd[(0 : Fin 32)]).hardResets < 2 ∧
      quiet d (portSrc 0 6) ∧ (d.ports[(0 : Fin 32)]).kind = .pps) ∧
    (let d := port0pd { tc := .attachedSrc } { ams := .vconnGive }; pdSource d 0 = true ∧ (d.pd[(0 : Fin 32)]).ams = .vconnGive ∧ (d.pd[(0 : Fin 32)]).hardResets < 2 ∧ quiet d (portSrc 0 6)) ∧
    (let d : Dev := { port0pd { tc := .attachedSrc } { hrDischarge := true } with loops := svc.loops.set 0 { switching := true } }
     pdSource d 0 = true ∧ lostPort d 0 = false ∧ (d.pd[(0 : Fin 32)]).hrDischarge = true ∧ vbusLow d 0 = false ∧ (d.loops[(0 : Fin 32)]).switching = true ∧ wantsVconn d 0 = false ∧
      portPg d 0 = true) ∧
    (let d := port0pd { tc := .attachedSrc } { ams := .bist }; (d.pd[(0 : Fin 32)]).ams = .bist ∧ (d.pd[(0 : Fin 32)]).capsDue = false) ∧
    (let t : PdTx := ⟨0, .status, [0], 0, 0⟩
     let d := port0pd { tc := .attachedSrc } { chunks := some t }; pdLive d 0 = true ∧ (d.pd[(0 : Fin 32)]).chunks = some t ∧ t.kind = .status) := by decide

theorem test_witness_ProtocolTimersEnd_sink :
    (let d := port0pd { tc := .attachedSnk } { ams := .sinkRequest }; pdLive d 0 = true ∧ (d.pd[(0 : Fin 32)]).ams = .sinkRequest) ∧
    (let d := port0pd { tc := .attachedSnk } { ams := .sinkTransition, hardResets := 1 }; pdSink d 0 = true ∧ (d.pd[(0 : Fin 32)]).ams = .sinkTransition ∧
      (d.pd[(0 : Fin 32)]).hardResets < 2 ∧ quiet d (portSrc 0 6)) := by decide

theorem test_witness_VoltageFenceAndHand :
    (let d := port0pd { tc := .attachedSrc } { ams := .transition, newKind := .sprFixed }; (d.pd[(0 : Fin 32)]).ams = .transition ∧ (d.pd[(0 : Fin 32)]).newKind ≠ .none ∧
      d.sys.retraining[linkOf (edgeOf 0)] = false ∧ timerRuns d (.tsrctransitionExpiry 0) = false ∧ (d.ports[(0 : Fin 32)]).fencePend = none) ∧
    (let d := port0pd { tc := .attachedSrc, fencePend := some 5310 } { ams := .transition, newKind := .sprFixed }
     (d.ports[(0 : Fin 32)]).fencePend ≠ none ∧ (d.pd[(0 : Fin 32)]).newKind ≠ .none) ∧
    (let d := port0pd { tc := .attachedSrc, fence := 5310, fencePend := some 5310, kind := .sprFixed } {}
     (d.ports[(0 : Fin 32)]).fencePend = some 5310 ∧ (d.pd[(0 : Fin 32)]).ams ≠ .transition ∧ (d.ports[(0 : Fin 32)]).fence ≠ 0 ∧
      (d.ports[(0 : Fin 32)]).tc = .attachedSrc ∧ hasPort d 0 = true ∧ (d.pd[(0 : Fin 32)]).disabling = false ∧ quiet d (portSrc 0 0) ∧ lostPort d 0 = false ∧
      pdSource d 0 = true ∧ (d.ports[(0 : Fin 32)]).kind = .sprFixed ∧ (d.pd[(0 : Fin 32)]).breachTb = none ∧ quiet d (portSrc 0 7)) ∧
    (let d := port0pd { tc := .attachedSrc, pend := some (150, 7) } { target := 150 }; (d.ports[(0 : Fin 32)]).pend = some (150, 7) ∧ explicit d 0 = false ∧
      (d.pd[(0 : Fin 32)]).target ≤ 150) ∧
    (let d := port0pd { tc := .attachedSnk } { ams := .prSwapSnk }; (d.pd[(0 : Fin 32)]).ams = .prSwapSnk ∧ hasPort d 0 = true ∧ (d.ports[(0 : Fin 32)]).tc = .attachedSnk ∧
      (d.pd[(0 : Fin 32)]).disabling = false ∧ lostPort d 0 = false) ∧
    (let d := port0pd { tc := .attachedSnk } { ams := .prSwapSrc }; (d.pd[(0 : Fin 32)]).ams = .prSwapSrc ∧ hasPort d 0 = true ∧ (d.ports[(0 : Fin 32)]).tc = .attachedSnk ∧
      (d.pd[(0 : Fin 32)]).disabling = false ∧ lostPort d 0 = false) ∧
    isOwner svc 0 = true ∧ isOwner svc 4 = false := by decide

def loop0 (x : Loop) (q : Port) : Dev := { port0 q with loops := svc.loops.set 0 x }

theorem test_witness_LoopsRampLimitAndStop :
    (let d := loop0 { ramping := true, rampFor := .offRamp } {}; (d.loops[(0 : Fin 32)]).ramping = true ∧ portMinimal d 0 = false ∧
      (d.loops[(0 : Fin 32)]).rampFor = .offRamp) ∧
    (let d := loop0 { switching := true, hc := 3 } {}; (d.loops[(0 : Fin 32)]).switching = true ∧ regionNext (d.loops[(0 : Fin 32)]).region .transition = true ∧
      (d.loops[(0 : Fin 32)]).trunc = false ∧ portOfPhase d 0 = some 0 ∧ (d.loops[(0 : Fin 32)]).hc < (loopCfg d 0).mHiccup ∧ quiet d (phaseSrc 0 0) ∧
      phasesOf d 0 = [0] ∧ quiet d (phaseSrc 0 3)) ∧
    (let d := loop0 { hiccup := true } { tc := .attachedSrc }; (d.loops[(0 : Fin 32)]).hiccup = true ∧ sfFault d 0 = false ∧ hiccupLive d.ports[(0 : Fin 32)] = true ∧ portPg d 0 = true) ∧
    (let d := loop0 { hiccup := true } {}; (d.loops[(0 : Fin 32)]).hiccup = true ∧ sfFault d 0 = false ∧ hiccupLive d.ports[(0 : Fin 32)] = false) ∧
    (let d : Dev := { loop0 {} { tc := .attachedSrc } with guards := svc.guards.set 0 { state := .closed } }
     (d.guards[(0 : Fin 32)]).state = .closed ∧ (d.loops[(0 : Fin 32)]).ramping = false ∧ pdLive d 0 = true ∧ (d.pd[(0 : Fin 32)]).hardResets < 2 ∧ (d.loops[(0 : Fin 32)]).uvFrom ≤ d.tmr.tb ∧
      quiet d (portSrc 0 1) ∧ quiet d (portSrc 0 6)) := by decide

def phase0 (f : Phase) : Dev := { svc with phases := svc.phases.set 0 f }

theorem test_witness_PhasesRetireAndReturn :
    (let d : Dev := { phase0 { state := .switching } with guards := svc.guards.set 0 { state := .closed } }
     (d.phases[(0 : Fin 64)]).state = .switching ∧ quiet d (phaseSrc 0 1) ∧ portOfPhase d 0 = some 0 ∧ guardOn (d.guards[(0 : Fin 32)]) = true ∧ (d.guards[(0 : Fin 32)]).state = .closed ∧
      (d.loops[(0 : Fin 32)]).ramping = false ∧ quiet d (phaseSrc 0 2) ∧ busPorts d 0 false = [0] ∧ livePhases d 0 = [0]) ∧
    (isOwner svc 0 = true ∧ (svc.cfg.phases[(0 : Fin 64)]).isSome = true ∧ (svc.phases[(0 : Fin 64)]).state ≠ .retired ∧ isOwner svc 4 = false ∧ busPg svc false = true) ∧
    (let d := phase0 { state := .census }
     (d.phases[(0 : Fin 64)]).state = .census ∧ (d.phases[(0 : Fin 64)]).due = false ∧ d.sys.retired.getLsbD (0 : Fin 64).val = false ∧ d.sys.mode ≠ .boot ∧
      (∀ q : Fin 32, (d.pd[q]).deb = false) ∧ portOfPhase d 0 = some 0 ∧ d.host.jobs = [] ∧
      censusPass d 0 ⟨200, 50, 50, 0, 20⟩ = true ∧ quiet d (phaseSrc 0 (if censusStill d 0 ⟨0, 0, 0, 0, 0⟩ then 1 else 2)) ∧ censusPass d 0 ⟨0, 0, 0, 0, 0⟩ = false) ∧
    (let d := phase0 { state := .retired }; checkCode480 d ref 0x0103 true (some (edgeOfPhase 0)) = none ∧ mayRestore d 0 = true) ∧
    (let d : Dev := { svc with loops := svc.loops.set 0 { switching := true } }
     busPorts d 0 false = [0] ∧ livePhases d 0 = [0] ∧ (d.phases[(0 : Fin 64)]).state = .idle ∧ (d.loops[(0 : Fin 32)]).switching = true) := by decide

/-! ### Monitor, converters, feeds, guards -/

def chan (c : Fin 204) (x : Chan) : Dev := { svc with chans := svc.chans.set c x }

theorem test_witness_ChannelsChangeZone :
    (let d := chan 131 { zone := .inWin }
     chanRuns d 131 = true ∧ d.sys.retraining[dieOf 131] = false ∧ ¬((131 : Fin 204).val < 128 ∧ (131 : Fin 204).val % 4 < 3) ∧ (d.chans[(131 : Fin 204)]).route.getLsbD 2 = false ∧ (d.chans[(131 : Fin 204)]).enabled = true) ∧
    (let d := chan 3 { zone := .inWin }
     chanRuns d 3 = true ∧ d.sys.retraining[dieOf 3] = false ∧ ¬((3 : Fin 204).val < 128 ∧ (3 : Fin 204).val % 4 < 3) ∧ (d.chans[(3 : Fin 204)]).route.getLsbD 2 = false ∧ (d.chans[(3 : Fin 204)]).enabled = true ∧
      (d.chans[(3 : Fin 204)]).frozen = false ∧ (d.chans[(3 : Fin 204)]).zone ≠ .unsettled ∧ isWindow 3 = true ∧ (d.chans[(3 : Fin 204)]).zone ≠ .above) ∧
    (let d := chan 3 { unsetHi := true, unsetLo := true }
     chanRuns d 3 = true ∧ (d.chans[(3 : Fin 204)]).zone = .unsettled ∧ (d.chans[(3 : Fin 204)]).unsetHi = true ∧ (d.chans[(3 : Fin 204)]).unsetLo = true ∧ isWindow 3 = true ∧ isOwner d 0 = true) ∧
    (let d := chan 203 { frozen := true }; (d.chans[(203 : Fin 204)]).frozen = true ∧ (d.chans[(203 : Fin 204)]).holdEnd ≤ d.tmr.tb) ∧
    (let d := chan 203 { frozen := true, holdEnd := 5000 }; (d.chans[(203 : Fin 204)]).frozen = true ∧ d.tmr.tb < (d.chans[(203 : Fin 204)]).holdEnd) ∧
    (let d : Dev := { port0 { tc := .unattachedSrc } with chans := (svc.chans.set (cc1 0) { zone := .above }).set (cc2 0) { zone := .above } }
     isShadow d = false ∧ d.sys.mode ≠ .standby ∧ d.sys.mode ≠ .dormant ∧ (d.ports[(0 : Fin 32)]).tc = .unattachedSrc ∧ hasPort d 0 = true ∧ (d.pd[(0 : Fin 32)]).disabling = false ∧
      (d.chans[cc1 0]).enabled = true ∧ (d.chans[cc1 0]).frozen = false ∧ (d.chans[cc2 0]).frozen = false ∧ d.sys.retraining[dieOf (cc1 0)] = false ∧ (d.chans[cc1 0]).zone = .above ∧ (d.chans[cc2 0]).zone = .above) := by decide

def group (x : CalGroup) : Dev := { svc with groups := svc.groups.set 24 x, chans := svc.chans.set 203 { zone := .inWin } }

theorem test_witness_CalibrationTakesChannelsInTurn :
    (let d := group { next := some 203 }
     calPaused d = false ∧ (d.groups[(24 : Fin 25)]).stopped = false ∧ (d.groups[(24 : Fin 25)]).now = none ∧ (d.groups[(24 : Fin 25)]).next = some 203 ∧ calTakes d 203 = true ∧
      (∀ c : Fin 204, (d.chans[c]).waiting = none) ∧ (d.groups[(24 : Fin 25)]).failedA = false ∧ (d.groups[(24 : Fin 25)]).failedB = false) ∧
    (let d := group { now := some 203, stage := 4, retries := 3 }
     (d.groups[(24 : Fin 25)]).now = some 203 ∧ (d.groups[(24 : Fin 25)]).stage = 4 ∧ (d.groups[(24 : Fin 25)]).retries < 4) ∧
    (let d := group { now := some 203, stage := 6, retries := 4 }
     (d.groups[(24 : Fin 25)]).now = some 203 ∧ (d.groups[(24 : Fin 25)]).stage ≠ 4 ∧ 4 ≤ (d.groups[(24 : Fin 25)]).retries) ∧
    (sysOf { sys0 with trimDue := true }).sys.trimDue = true := by decide

def conv (c : Converter) : Dev :=
  { svc with
    cfg := { image with scans := (Vector.replicate 5 none).set 4 (some { scans := [{ chan := 192, sq := 15 }, { chan := 193, sq := 1 }], trigs := [{ sq := 15, tkind := 1, tmin := 10 }] }) }
    convs := svc.convs.set 4 c }

theorem test_witness_ConvertersRunSequences :
    (let d := conv { seqEn := 0x8002 }
     (15 : Fin 16) ≠ 0 ∧ (d.convs[(4 : Fin 5)]).seqEn.getLsbD (15 : Fin 16).val = true ∧ seqMembers d 4 15 ≠ [] ∧ ((d.convs[(4 : Fin 5)]).seqs[(15 : Fin 16)]).lastTrig = none ∧
      (d.convs[(4 : Fin 5)]).running = none ∧ ((d.convs[(4 : Fin 5)]).seqs[(15 : Fin 16)]).waiting = none ∧ isOwner d 0 = true ∧ d.sys.retraining[(4 : Fin 5)] = false) ∧
    (let d := conv { seqEn := 0x8002, running := some (1, 9), order := [15] }
     (1 : Fin 16) ≠ 15 ∧ (d.convs[(4 : Fin 5)]).running = some (1, 9) ∧ (d.convs[(4 : Fin 5)]).order = 15 :: []) ∧
    (let d := conv { seqEn := 0x8002, running := some (1, 9) }; (d.convs[(4 : Fin 5)]).running = some (1, 9) ∧ (d.convs[(4 : Fin 5)]).order = [] ∧ d.sys.retraining[(4 : Fin 5)] = false) ∧
    (let d := conv { seqEn := 0x8002, seqs := (Vector.replicate 16 {}).set 15 { lastTrig := some 100 } }
     ((d.convs[(4 : Fin 5)]).seqs[(15 : Fin 16)]).lastTrig = some 100 ∧ trigOf d 4 15 = some { sq := 15, tkind := 1, tmin := 10 } ∧ 599 < 100 + 50 * 10) ∧
    (svc.chans[(203 : Fin 204)]).enabled = true ∧ svc.sys.retraining[dieOf 203] = false ∧ svc.sys.mode ≠ .recovery := by decide

def feed (x : Feed) (c : FeedCfg) : Dev :=
  { svc with feeds := svc.feeds.set 3 x, cfg := { image with feeds := (Vector.replicate 4 none).set 3 (some c) }, sys := { sys0 with tempTrip := Vector.replicate 6 false } }

theorem test_witness_FeedsInsertRunAndLatch :
    (let d := feed { en := true } {}; (d.feeds[(3 : Fin 4)]).en = true ∧ (d.feeds[(3 : Fin 4)]).state = .off ∧ (d.cfg.feeds[(3 : Fin 4)]).isSome = true ∧ elfLost d = false ∧ extest d = false) ∧
    (let d := feed { state := .wait } {}; (d.feeds[(3 : Fin 4)]).state = .wait ∧ d.sys.vgdStart = true ∧ d.sys.mode ≠ .standby ∧ d.sys.tempTrip[5] = false) ∧
    (let d := feed { state := .cooling } {}; (d.feeds[(3 : Fin 4)]).state = .ramp ∨ (d.feeds[(3 : Fin 4)]).state = .cooling) ∧
    (let d := feed { state := .on, diodeOn := true, limiting := true, foldback := true } { fflags := 1 }
     feedInserting d.feeds[(3 : Fin 4)] = true ∧ gateDriven d.feeds[(3 : Fin 4)] = true ∧ (d.feeds[(3 : Fin 4)]).limiting = true ∧
      (∀ k : Fin 8, quiet d (feedSrc 3 k.val)) ∧ (feedCfg d 3).fflags.getLsbD 0 = true ∧ d.sys.vgdKeep = true ∧ (d.feeds[(3 : Fin 4)]).diodeOn = true) ∧
    (let d := feed { state := .ramp } { tsrc := 1, tau := 1, tfet := 100 }
     gateDriven d.feeds[(3 : Fin 4)] = true ∧ (d.feeds[(3 : Fin 4)]).limiting = false ∧ (d.feeds[(3 : Fin 4)]).pg = false ∧ (d.feeds[(3 : Fin 4)]).timer.up = false ∧
      (feedCfg d 3).tsrc = 1 ∧ (feedCfg d 3).tau ≠ 0 ∧ (d.feeds[(3 : Fin 4)]).hot = false ∧
      modelStep d 3 (200 : Int) 0 < ((feedCfg d 3).tfet : Int) * 1000000000) := by decide

theorem test_witness_VgdHoldsEveryGate : svc.sys.vgdStart = true ∧ (∃ p : Fin 32, ((port0 { enabled := true }).ports[p]).enabled = true) ∧
    quiet svc srcVgdUv ∧ (∀ f, quiet svc (feedSrc f 6)) := by decide

def guard0 (x : Guard) (q : Port) : Dev := { port0 q with chans := attaching.chans, guards := svc.guards.set 0 x, loops := svc.loops.set 0 { switching := true, ref := refCode 5000, target := refCode 5000 } }

theorem test_witness_GuardsCloseLimitAndLatch :
    (let d := guard0 {} { tc := .attachedSrc }; guardWanted d 0 = true ∧ extest d = false ∧ d.sys.retraining[linkOf (edgeOf 0)] = false ∧ (d.guards[(0 : Fin 32)]).state = .openG ∧ d.sys.vgdStart = true) ∧
    (let d := guard0 { state := .closing } { tc := .attachedSrc }; (d.guards[(0 : Fin 32)]).state = .closed ∨ (d.guards[(0 : Fin 32)]).state = .closing) ∧
    (let d := guard0 { state := .limiting } { tc := .attachedSrc }
     hasPort d 0 = true ∧ (d.ports[(0 : Fin 32)]).tc ≠ .disabled ∧ (d.ports[(0 : Fin 32)]).tc ≠ .errorRecovery ∧ (d.ports[(0 : Fin 32)]).tc ≠ .minimal ∧
      (d.pd[(0 : Fin 32)]).disabling = false ∧ lostPort d 0 = false ∧ (d.guards[(0 : Fin 32)]).state = .limiting ∧ quiet d (portSrc 0 2) ∧ guardOn d.guards[(0 : Fin 32)] = true ∧
      quiet d (portSrc 0 3)) ∧
    ((guard0 { state := .closed } { tc := .attachedSrc }).guards[(0 : Fin 32)]).state = .closed ∧
    (let d := guard0 { state := .latched, rearmDue := true, rearms60 := 2, discharge := true } {}
     (d.guards[(0 : Fin 32)]).rearmDue = true ∧ (d.guards[(0 : Fin 32)]).state = .latched ∧ (d.guards[(0 : Fin 32)]).rearms60 < 3 ∧ (d.pd[(0 : Fin 32)]).deb = false ∧
      (d.guards[(0 : Fin 32)]).discharge = true) := by decide

/-! #### Ledger and twin -/

def post (r : LedgerRole) (x : Post) (l : Ledger) : Dev :=
  { svc with posts := (Vector.replicate 3 {}).set 2 x, ledger := { l with role := r, dealer := 0x20, epoch := 1 } }

def helloUp : Hello := ⟨0x20, die, true, true, false, false, 1, 0x20, 0, 0⟩
def upPost : Post := { en := true, state := .up, lock := true }

theorem test_witness_PostLinksTrainAndFall :
    (∀ h : Bool, let d := post .member { en := true, holdoff := h } {}
      (d.posts[(2 : Fin 3)]).en = true ∧ (d.posts[(2 : Fin 3)]).state = .down ∧ (d.posts[(2 : Fin 3)]).holdoff = h ∧ (d.posts[(2 : Fin 3)]).state ≠ .up) ∧
    (let d := post .member upPost {}
     (d.posts[(2 : Fin 3)]).state = .up ∧ quiet d (srcPostDown 2) ∧ quiet d srcConcord ∧ isShadow d = false ∧
      (d.posts[(2 : Fin 3)]).state ≠ .down) ∧
    (let d := post .member { upPost with state := .train, hellos := 1 } {}; (d.posts[(2 : Fin 3)]).state = .train ∧ (d.posts[(2 : Fin 3)]).hellos < 2) ∧
    (let d := post .member { upPost with state := .train, hellos := 2 } {}
     (d.posts[(2 : Fin 3)]).state = .train ∧ 2 ≤ (d.posts[(2 : Fin 3)]).hellos ∧ helloUp.rxOk = true ∧ d.ledger.role ≠ .none ∧ (d.sources[srcPostDown 2]).cond = false) ∧
    isOwner svc 0 = true ∧ bit (1 : Word) 0 = true ∧ bit (2 : Word) 0 = false ∧ (svc.posts[(0 : Fin 3)]).state ≠ .up ∧ isOwner svc 1 = false := by decide

def someDeal : Deal := ⟨9, 0x20, 1, false, false, false, false, true, 600000, 10, 0, 100, 0, 0, 0, 0, 0, [⟨0x30, 40, 30⟩]⟩

theorem test_witness_LedgerTimeAndElections : isShadow svc = false ∧ quiet svc srcConcord ∧ quiet svc srcTsync ∧
    (svc.posts[(0 : Fin 3)]).state ≠ .up ∧
    (let d := post .member upPost { parent := some 2 }
     (d.posts[(2 : Fin 3)]).state = .up ∧ d.ledger.parent = some 2 ∧ (10 * (((1600 : Int) - 1000) + ((1600 : Int) - 1200))).natAbs ≤ 10000 ∧
      10 * (((0 : Int) - 5000) + ((0 : Int) - 1)) < -50000 ∧ isOwner d 0 = true ∧ isOwner d 1 = false ∧ d.ledger.role = .member ∧
      (∀ k : Fin 3, (d.posts[k]).state = .up → (d.posts[k]).foreign = false)) ∧
    (let d := post .dealer upPost {}; d.ledger.role ≠ .alone ∧ svPaused d = false ∧ liveDealer d = true ∧ d.ledger.dealer < (⟨0x21, die, 1⟩ : Elect).cand ∧ d.ledger.role = .dealer) ∧
    (let d := post .member upPost { bestKey := 0x10 }
     d.ledger.role ≠ .alone ∧ liveDealer d = false ∧ firstTime d hdr = true ∧ keyLess 0x0F die d.ledger.bestKey d.ledger.bestId = true ∧
      10 < ({ d.ledger with syncsMissed := 10 } : Ledger).syncsMissed + 1) := by decide

def someCard (k : Nat) : Card := ⟨k, die, true, false, false, true, false, 10, 0, 100, 10, 1, 10, 0, 0, 0, 0, 0, 50, 0⟩

theorem test_witness_BidsAndCardsReachTheDealer : isShadow svc = false ∧ quiet svc srcConcord ∧ (svc.posts[(0 : Fin 3)]).state ≠ .up ∧
    (let d := post .dealer upPost { dealNo := 9, members := [{ card := someCard 0x40 }] }
     (d.posts[(2 : Fin 3)]).state = .up ∧ (d.posts[(2 : Fin 3)]).foreign = false ∧ (⟨9, []⟩ : Bid).dealNo = d.ledger.dealNo ∧ (⟨8, []⟩ : Bid).dealNo ≠ d.ledger.dealNo ∧
      d.ledger.role = .dealer ∧ (∀ m ∈ d.ledger.members, m.card.key ≠ (someCard 0x41).key) ∧ d.ledger.splitSide = false ∧ bidLink d = none) ∧
    (let d : Dev := { svc with posts := Vector.replicate 3 upPost, ledger := { role := .member, parent := some 1 } }
     d.ledger.role = .member ∧ d.ledger.parent = some 1 ∧ (1 : Fin 3) ≠ 2 ∧ (d.posts[(2 : Fin 3)]).foreign = false ∧ (d.posts[(2 : Fin 3)]).state = .up ∧
      (d.posts[(1 : Fin 3)]).state = .up ∧ bidLink d = some 1) := by decide

theorem test_witness_DealsTakeEffectAtTheBoundary : isShadow svc = false ∧
    (let d := post .member upPost { parent := some 2 }
     (d.posts[(2 : Fin 3)]).state = .up ∧ quiet d srcConcord ∧ d.ledger.role = .member ∧ someDeal.dealer = d.ledger.dealer ∧ someDeal.epoch = d.ledger.epoch ∧
      someDeal.dealer ≠ seatKey d ∧ firstTime d hdr = true ∧ d.ledger.joining = false ∧ ownEntry d someDeal = some ⟨0x30, 40, 30⟩ ∧ someDeal.discord = 0 ∧
      someDeal.refusedNo = 0 ∧ (∀ o ∈ d.ledger.orders, someDeal.orderNo < o.order.no) ∧ d.tmr.tb < someDeal.tEff ∧ mayBeParent d 2 = true ∧
      d.tmr.tb / dealTicks d ≤ d.ledger.dealNo) ∧
    (let d := { post .member upPost { pendingDeal := some someDeal } with tmr := { tb := 600000 } }
     d.ledger.pendingDeal = some someDeal ∧ someDeal.tEff ≤ d.tmr.tb ∧ someDeal.step = 0 ∧ d.ledger.missed = 0 ∧ d.ledger.candidate = false ∧
      d.ledger.depthExceeded = false ∧ ownEntry d someDeal = some ⟨0x30, 40, 30⟩) ∧
    (∀ k : Fin 2, let d := { post .member upPost { missed := k.val, parent := some 2 } with tmr := { tb := 500000 } }
     d.ledger.role = .member ∧ d.ledger.dealNo < d.tmr.tb / dealTicks d ∧ d.ledger.parent = some 2 ∧ (d.posts[(2 : Fin 3)]).state = .up ∧ d.ledger.candidate = false ∧
      d.ledger.missed = k.val ∧ (k = 1 → d.ledger.pendingDeal = none ∧ d.ledger.missed ≠ 0 ∧ d.ledger.cuts = [])) ∧
    (let d := post .member upPost { candidate := true, bestKey := 0x30 }
     d.ledger.candidate = true ∧ svPaused d = false ∧ d.ledger.bestKey = seatKey d ∧ d.ledger.bestId = unitId d ∧ d.ledger.deals = [] ∧ d.ledger.joining = false) := by decide

theorem test_witness_AllotmentsFitTheBudget :
    (let low (m : Member) : Nat := if keepsEntry m || m.joining then m.allot else allotBase svc 600000 m
     let ms : List Member := [{ card := someCard 0x40, allot := 30, cut := 30, joining := true }, { card := someCard 0x41, allot := 20, cut := 20 }]
     10 + (ms.map low).sum ≤ 100) ∧ keepsEntry { card := someCard 0x41, missing := 0 } = keepsEntry { card := someCard 0x41 } ∧
    standingHand 10 80 (some 60) 1 ≤ max 10 60 ∧ standingHand 10 80 (some 60) 3 = 10 := by decide

theorem test_witness_TheDealerDealsOncePerPeriod : ∀ r ∈ [LedgerRole.dealer, .alone],
    let d := post r upPost {}
    isShadow d = false ∧ quiet d srcConcord ∧ (d.ledger.role = .dealer ∨ d.ledger.role = .alone) ∧ d.ledger.orders = [] ∧ d.ledger.joining = false ∧
      d.ledger.mergeDue = false ∧ d.ledger.refusedNo = 0 ∧ 0 < dealTicks d ∧ (d.posts[(2 : Fin 3)]).state = .up ∧ (d.posts[(2 : Fin 3)]).foreign = false := by decide

def order1 (t : Nat) : Order := ⟨3, 1, 0, 1, t, 90, 0, []⟩
def wholeOrder (t : Nat) : Order := { order1 t with digest := orderDigest (order1 t) }

theorem test_witness_OrdersAreHeldAndApplied_frames : isShadow svc = false ∧ quiet svc srcConcord ∧ (svc.posts[(2 : Fin 3)]).state ≠ .up ∧
    (let d := post .member upPost { seen := [(0x20, 1)] }; (d.posts[(2 : Fin 3)]).state = .up ∧ firstTime d hdr = false) ∧
    (let d : Dev := { svc with posts := Vector.replicate 3 upPost, ledger := { role := .member, parent := some 1, dealer := 0x20 } }
     (d.posts[(2 : Fin 3)]).state = .up ∧ firstTime d { hdr with origin := 0x50 } = true ∧ (d.posts[(2 : Fin 3)]).foreign = false ∧
      ({ hdr with origin := 0x50 } : PostHdr).origin ≠ d.ledger.dealer ∧ d.ledger.parent = some 1 ∧ (1 : Fin 3) ≠ 2 ∧ (d.posts[(1 : Fin 3)]).state = .up) ∧
    (let d := post .member upPost {}
     firstTime d hdr = true ∧ (d.posts[(2 : Fin 3)]).foreign = false ∧ d.ledger.orders = [] ∧ d.ledger.inbox = [] ∧ (order1 (2 ^ 40)).part = 0 ∧ (order1 (2 ^ 40)).parts = 1 ∧
      (order1 (2 ^ 40)).kind ≠ 2 ∧ hdr.origin = d.ledger.dealer ∧ d.tmr.tb < (order1 (2 ^ 40)).tOrder) ∧
    (let d := post .dealer upPost { orderNo := 2 }; refusesOrder d (order1 0) = true ∧ refusesOrder d (order1 (2 ^ 40)) = false) := by decide

theorem test_witness_OrdersAreHeldAndApplied_effect :
    (∀ k ∈ [1, 2, 3, 4],
      let h : HeldOrder := { order := { order1 0 with kind := k }, whole := true }
      let d : Dev := { svc with ledger := { role := .member, orders := [h] }, store := { slots := Vector.replicate 4 { state := .stored } } }
      d.ledger.orders = [h] ∧ h.order.tOrder ≤ d.tmr.tb ∧ h.whole = true ∧ h.applied = false ∧ h.order.kind = k ∧
        (d.store.slots[(Fin.ofNat 4 (h.order.param % 256) : Fin 4)]).state = .stored) ∧
    (let h : HeldOrder := { order := order1 1 }; ({ svc with ledger := { orders := [h] } } : Dev).ledger.orders = [h] ∧ svc.tmr.tb < h.order.tOrder) ∧
    (let d := post .member upPost { parent := some 2 }
     checkCode480 d ref opLedgerOrder (orderParamsOk d 3 1 0) none = none ∧ d.ledger.role = .member ∧ d.ledger.parent = some 2 ∧ (d.posts[(2 : Fin 3)]).state = .up ∧
      checkCode480 d ref opLedgerOrder (orderParamsOk d 3 1 33) none = some .badParam ∧ jobOf d opLedgerOrder = none) ∧
    jobOf ({ svc with host := { svc.host with jobs := [{ ref := ref, opcode := opLedgerOrder, arg := 3 }] } } : Dev) opLedgerOrder =
      some { ref := ref, opcode := opLedgerOrder, arg := 3 } := by decide

theorem test_order_digest_is_kept : (wholeOrder 7).digest = orderDigest (wholeOrder 7) := rfl

def twin (x : Twin) (t : Nat) : Dev := { svc with cfg := { image with twin := { en := true } }, twin := x, tmr := { tb := t } }
def peerOk : MHello := ⟨1, 4, true, true, false, false, true, 31, die, 0, 0x30⟩

theorem test_witness_MirrorLinkTrainsAndFalls : svc.cfg.twin.en = false ∧ (twin {} 0).cfg.twin.en = true ∧ (twin {} 0).twin.link = .down ∧
    (∀ r ∈ [0, 1, 2], let d := twin { link := .up, role := r, replace := true } 0
      d.twin.link = .up ∧ quiet d srcMirror ∧ (d.twin.role = 1 ∧ d.twin.replace = true ↔ r = 1) ∧ isShadow d = (r == 2)) ∧
    (let d := twin { link := .train, mhellos := 1 } 0; d.twin.link = .train ∧ d.twin.mhellos < 2 ∧ d.twin.link ≠ .up ∧ d.twin.link ≠ .down) ∧
    (let d := twin { link := .train, mhellos := 2, role := 2 } 0; 2 ≤ d.twin.mhellos ∧ peerOk.rxOk = true ∧ d.twin.role ≠ 1) ∧
    (let d := twin { link := .up, crcErrs := List.replicate 15 0 } 0
     d.twin.crcErrs.length < 16 ∧ 15 ≤ (d.twin.crcErrs.filter fun t => decide (d.tmr.tb < t + ticksOfMs 10)).length) ∧
    1000 < 10 * (((101 : Int) - 0) + ((0 : Int) - 0)) ∧ 10 * (((0 : Int) - 101) + ((0 : Int) - 0)) < -1000 ∧ (10 * (((100 : Int) - 0) + ((0 : Int) - 0))).natAbs ≤ 1000 := by decide

theorem test_witness_TheShadowFollowsTheActive :
    (let d := twin { link := .up, role := 1 } 0; d.twin.role = 1 ∧ d.twin.link = .up ∧ isShadow d = false) ∧
    (let d := twin { link := .up, role := 2 } 0
     d.cfg.twin.en = true ∧ d.twin.role ≠ 1 ∧ isShadow d = true ∧ (d.ports[(31 : Fin 32)]).fence ≤ 20000 ∧ d.ledger.joining = false ∧ d.ledger.orders = [] ∧
      someDeal.refusedNo = 0 ∧ d.tmr.tb < someDeal.tEff ∧ jrnOpen d = true ∧ (classCfg d 15).on = true) ∧
    5000 < ((port0 { fence := 9000 }).ports[(0 : Fin 32)]).fence ∧
    jrnHeld (svc.jrn.buffer ++ [⟨15, recordBytes 15 (3 + 4 * b2n svc.jrn.gap) svc.jrn.sqno svc.tmr.tb []⟩]) ≤ jrnBufferSize := by decide

theorem test_witness_TakeoverHandoverAndRelease : svc.cfg.twin.en = false ∧
    (let d := twin { role := 2, eligible := true, eligAtLoop := true, lastStamp := 0 } (ticksOfUs 15)
     d.cfg.twin.en = true ∧ isShadow d = true ∧ d.twin.eligAtLoop = true ∧ d.tmr.tb ≤ d.twin.lastStamp + ticksOfUs (d.cfg.twin.lsPeriod + 5) ∧ d.twin.eligible = true ∧
      (d.twin.prole = false ∨ d.twin.partnerHb = false) ∧ d.store.pendPorts = 0 ∧ hasPort d 0 = true ∧ (d.ports[(0 : Fin 32)]).tc ≠ .minimal) ∧
    (let d := twin { role := 2, eligAtLoop := true, prole := true, partnerHb := true } (ticksOfUs 15 + 1)
     isShadow d = true ∧ d.twin.lastStamp + ticksOfUs (d.cfg.twin.lsPeriod + 5) < d.tmr.tb ∧ d.twin.eligible = false ∧ d.twin.prole = true ∧ d.twin.partnerHb = true) ∧
    (let d := twin { role := 1, link := .up, peer := some peerOk, cmd := 1 } 0
     isOwner d 0 = true ∧ d.twin.role = 1 ∧ d.twin.link = .up ∧ d.twin.peer.any (·.eligible) = true ∧ d.twin.handoverAt = none ∧ isShadow d = false ∧
      d.twin.cmd.getLsbD 0 = true) ∧
    (twin { role := 1, handoverAt := some 5 } 0).twin.handoverAt.isSome = true ∧ isOwner svc 1 = false := by decide

/-! #### Timers, faults and the host interface -/

def alarm (x : Alarm) : Dev := { svc with alarms := (Vector.replicate 32 {}).set 31 x }

theorem test_witness_AlarmsAndIntervalTimers : isOwner svc 0 = true ∧ isOwner svc 1 = false ∧
    (let d := alarm { commitHi := some 0, commitLo := 1 }
     (d.alarms[(31 : Fin 32)]).commitHi = some 0 ∧ isAhead d ((d.alarms[(31 : Fin 32)]).commitLo + 0 * 2 ^ 32) = true) ∧
    (∀ b : Bool, let d := alarm { commitHi := some 0, late := b }
     (d.alarms[(31 : Fin 32)]).commitHi = some 0 ∧ isAhead d ((d.alarms[(31 : Fin 32)]).commitLo + 0 * 2 ^ 32) = false ∧ (d.alarms[(31 : Fin 32)]).late = b ∧
      (d.alarms[(31 : Fin 32)]).tkind = 0) ∧
    alarmDue (alarm { armed := true }) 31 = true ∧
    (let d := alarm { armed := true, tkind := 3, tindex := 15 }
     alarmDue d 31 = true ∧ (d.alarms[(31 : Fin 32)]).tkind = 3 ∧ (d.alarms[(31 : Fin 32)]).tindex = (15 : Fin 16).val) ∧
    (let d : Dev := { svc with itms := (Vector.replicate 16 {}).set 15 { state := .running }, tmr := { goPending := true, goMask := 0x8000 } }
     (d.itms[(15 : Fin 16)]).state = .running ∧ (d.itms[(15 : Fin 16)]).tkind = 0 ∧ d.tmr.goPending = true ∧ d.tmr.goEffect = 0 ∧ isAhead d d.tmr.goArmed = false ∧
      d.tmr.goMask.testBit (15 : Fin 16).val = true ∧ d.sys.mode ≠ .recovery) := by decide

def srcWith (n : Fin 768) (x : Source) (d : Dev) : Dev := { d with sources := d.sources.set n x }

theorem test_witness_FaultsLatchGraceAndClear_raise :
    (∀ n ∈ ([0, 0xFF, 0x100, 0x200, 0x220] : List (Fin 768)), (srcRow n.val).isSome = true) ∧ svc.upd.trial = none ∧
    (let d : Dev := { svc with upd := { svc.upd with paused := some (.core 3 3) } }
     d.upd.paused = some (.core 3 3) ∧ (srcRow (srcWdt (watchOf 3)).val).isSome = true ∧ quiet d (srcWdt (watchOf 3)) ∧ d.upd.trial = none) ∧
    tripDie 0xFF = none ∧ (0xFF : Fin 768) ≠ srcStoreWrite ∧ lostLink svc 0xFF = none ∧ quiet svc (0xFF : Fin 768) ∧
    (let d := srcWith 0xFF { action := 2, eff := 2 } { svc with coll := { escN := 0 } }
     lostLink d 0xFF = none ∧ (d.sources[(0xFF : Fin 768)]).later = none ∧ (d.sources[(0xFF : Fin 768)]).action ≠ 0 ∧ (d.sources[(0xFF : Fin 768)]).latch = false ∧ (d.sources[(0xFF : Fin 768)]).eff = 2 ∧ d.coll.escN = 0 ∧
      d.coll.graces.length < 64) ∧
    (let d := sysOf { sys0 with edgeUp := Vector.replicate 5 false, retraining := Vector.replicate 5 true }
     lostLink d 2 = some 0 ∧ tripDie 2 = none ∧ (2 : Fin 768) ≠ srcStoreWrite ∧ (d.loss.queue[(0 : Fin 5)]).length < lossFrames ∧
      (takeLater (d.sources[(2 : Fin 768)])).eff ≠ 3) ∧
    (let d := srcWith 2 { action := 2, graceRun := true } (port0 { tc := .attachedSrc })
     srcGroup 2 = .port 0 ∧ (d.sources[(2 : Fin 768)]).graceRun = true ∧ (d.sources[(2 : Fin 768)]).action = 2 ∧ inEffect d 2 0 < 2 ∧ isShadow d = false ∧
      hasPort d 0 = true ∧ (d.ports[(0 : Fin 32)]).tc ≠ .disabled ∧ (d.ports[(0 : Fin 32)]).tc ≠ .errorRecovery ∧ (d.ports[(0 : Fin 32)]).tc ≠ .minimal ∧
      (d.pd[(0 : Fin 32)]).disabling = false ∧ lostPort d 0 = false) := by decide

/-- With no source latched and an admitted image, minimal mode may be left. -/
theorem mayExit_of_quiet (d : Dev) (h : d.sources = Vector.replicate 768 {}) (ha : d.store.admitted = true) : mayExit d = true := by
  simp [mayExit, h, ha]

theorem test_witness_FaultsLatchGraceAndClear_clear : isOwner svc 0 = true ∧ (∀ e : Fin 4, svc.sys.edgeMin[e] = false) ∧
    (svc.sources[(0xFF : Fin 768)]).latch = false ∧ quiet svc (0xFF : Fin 768) ∧
    (let d := srcWith 0xFF { latch := true } svc; (d.sources[(0xFF : Fin 768)]).latch = true ∧ graceOver d 0xFF = false ∧ (d.sources[(0xFF : Fin 768)]).cond = false) ∧
    srcLevel 1 = true ∧
    (let d := srcWith 1 { latch := true, cond := true, realRaise := true, sev := 1, eff := 2 } svc
     (d.sources[(1 : Fin 768)]).latch = true ∧ (d.sources[(1 : Fin 768)]).cond = true ∧ (d.sources[(1 : Fin 768)]).realRaise = true ∧ graceOver d 1 = false ∧
      (d.sources[(1 : Fin 768)]).sev < (d.sources[(1 : Fin 768)]).eff) ∧
    (let m : FaultMsg := ⟨0, 0, 0, 0, 0, 0, 0, 0, []⟩
     let d : Dev := { svc with coll := { backlog := [m] }, host := { svc.host with rings := Vector.replicate 16 { en := true } } }
     d.coll.backlog = [m] ∧ (ringsOfKind d 2).head? = some 2 ∧ d.cfg.host.rings[(2 : Fin 16)] = some { kind := 2, base := 16 } ∧ ringRoom d 2 = true) ∧
    (let d := { sysOf { sys0 with edgeMin := Vector.replicate 4 true } with store := { admitted := true }, tmr := { tb := ticksOfMs 100 } }
     d.sys.edgeMin[(3 : Fin 4)] = true ∧ linkSteady d (linkOf 3) = true ∧ d.sys.mode = .service) ∧
    quiet svc (srcWdt 0) ∧ (svc.sources[srcWdt 0]).later = none ∧ (srcRow (phaseSrc 63 3).val).isSome = true := by decide

theorem test_witness_FaultsLatchGraceAndClear_exit : mayExit { svc with store := { admitted := true } } = true := mayExit_of_quiet _ rfl rfl

/-- Ring `r` changed in the block in SERVICE. -/
def ring (r : Fin 16) (x : Ring) : Dev := { svc with host := { svc.host with rings := (Vector.replicate 16 {}).set r x } }

theorem test_witness_RingsCarryCommands : svc.cfg.host.rings[(0 : Fin 16)] = some { pair := 1 } ∧ svc.cfg.host.rings[(1 : Fin 16)] = some { kind := 1, base := 8 } ∧
    (∀ p : RingCfg, p = { pair := 1 } → p.kind = 0 ∧ p.master = 0 ∧ tailFits p svc.host.rings[(0 : Fin 16)] 8 = true ∧ tailFits p svc.host.rings[(0 : Fin 16)] 9 = false) ∧
    svc.sys.mode ≠ .standby ∧ isOwner svc 0 = true ∧ (svc.host.rings[(0 : Fin 16)]).en = false ∧ ((ring 0 { en := true }).host.rings[(0 : Fin 16)]).en = true ∧
    (((3 : Word).setWidth 16 - ((ring 1 { head := 1, tail := 3 }).host.rings[(1 : Fin 16)]).head).toNat ≤ ringHeld ((ring 1 { head := 1, tail := 3 }).host.rings[(1 : Fin 16)])) ∧
    (let x := { ring 0 { en := true, tail := 1 } with ringMem := [(0, 1)] }
     let d : Dev := { x with host := { x.host with rings := x.host.rings.set 1 { en := true, tail := 8 } } }
     ∃ e, nextEntry d 0 = some e ∧ fetchWhy d 0 e ≠ 0) ∧
    (let x := { ring 0 { en := true, tail := 1 } with ringMem := [(0, 1)] }
     let d : Dev := { x with host := { x.host with rings := x.host.rings.set 1 { en := true } } }
     ∃ e, nextEntry d 0 = some e ∧ fetchReady d 0 = true ∧ decodeEntry ⟨0, 0, BitVec.ofNat 32 (fieldAt e 4 4)⟩ e = some (.nop ⟨0, 0, BitVec.ofNat 32 (fieldAt e 4 4)⟩)) ∧
    checkCode480 svc ref 0x0001 true none = none ∧ pairOf svc 0 ≠ some 0 ∧
    (let d := ring 1 { en := true, held := [List.replicate 64 0] }; (d.host.rings[(1 : Fin 16)]).held = [List.replicate 64 0] ∧ ringRoom d 1 = true) := by
  refine ⟨by decide, by decide, ?_, by decide, by decide, by decide, by decide, by decide, ⟨_, rfl, by decide⟩, ⟨_, rfl, by decide, by decide⟩, by decide, by decide, by decide⟩
  rintro p rfl; decide

theorem test_witness_PortsAreEnabledAndDisabled : checkCode480 svc ref 0x0001 true none = none ∧ checkCode480 svc ref 0x0100 true (some (edgeOf 0)) = none ∧
    hasPort svc 0 = true ∧ (let d := port0 { tc := .disabled }; (d.ports[(0 : Fin 32)]).tc = .disabled ∧ canSource d 0 = true ∧ isDrp d 0 = false ∧ livePhases d 0 ≠ [] ∧
      (d.ports[(0 : Fin 32)]).rp = .none ∧ (d.chans[cc1 0]).enabled = true) ∧
    ((port0 { tc := .attachedSrc }).ports[(0 : Fin 32)]).tc ≠ .disabled ∧ checkCode480 svc ref 0x0101 true (some (edgeOf 0)) = none ∧
    (svc.pd[(0 : Fin 32)]).disabling = false ∧ lostPort svc 0 = false ∧
    (let d := port0pd {} { disabling := true }; (d.pd[(0 : Fin 32)]).disabling = true ∧ lostPort d 0 = false) := by decide

def hostOf (x : HostIf) : Dev := { svc with host := { x with hostLoaded := true } }

theorem test_witness_OwnershipIsClaimedLeasedAndHandedOver : svc.host.owner ≠ none ∧
    (∀ w : Bool, let d := hostOf { window := w, masters := (Vector.replicate 5 {}).set 4 { claiming := true } }
      mayClaim d 4 = true ∧ d.host.owner = none ∧ d.sys.deadcar = false ∧ d.sys.mode ≠ .recovery ∧ d.host.window = w ∧ (d.host.masters[(4 : Fin 5)]).claiming = true ∧
       (∀ n : Fin 5, n ≠ 4 → (d.host.masters[n]).claiming = true → (masterCfg d n).prio < (masterCfg d 4).prio ∨
         ((masterCfg d n).prio = (masterCfg d 4).prio ∧ 4 < n))) ∧
    (let d := hostOf { window := true, masters := Vector.replicate 5 { claiming := true } }
     ∀ n : Fin 5, n ≠ 0 → (d.host.masters[n]).claiming = true → (masterCfg d n).prio < (masterCfg d 0).prio ∨ ((masterCfg d n).prio = (masterCfg d 0).prio ∧ 0 < n)) ∧
    (let d := hostOf { owner := some 0, leaseEnd := 1, successor := some 4 }
     d.host.owner = some 0 ∧ d.tmr.tb < d.host.leaseEnd ∧ bit (0xC : Word) 3 = true ∧ bits (0xC : Word) 0 3 = (4 : Fin 5).val ∧ (4 : Fin 5) ≠ 0 ∧ mayClaim d 4 = true ∧
      bit (0 : Word) 3 = false ∧ bit (8 : Word) 3 = true ∧ bits (8 : Word) 0 3 = (0 : Fin 5).val ∧ d.host.owner ≠ some 4 ∧ d.host.owner ≠ none ∧ d.host.successor = some 4 ∧
      d.host.successor ≠ none) ∧
    (hostOf { owner := some 0, leaseEnd := 0 }).host.leaseEnd ≤ (hostOf { owner := some 0, leaseEnd := 0 }).tmr.tb := by decide

theorem test_witness_TransactionsReadAndWriteWords : served svc = true ∧ (0x1D : Nat) % 4 ≠ 0 ∧ svc.sys.mode ≠ .recovery ∧ isOwner svc 0 = true ∧ isOwner svc 4 = false ∧
    (let d := hostOf { owner := some 4 }; isOwner d 4 = true) ∧ (∃ a, a % 4 = 0 ∧ locIn svc a = .unmapped) ∧
    alignedTx 0x1C [(5 : Word)].length = true ∧ (∃ k, crc16 (spiHeader 0xA2 0x1C 1 ++ [(5 : Word)].flatMap fun w => toLe 4 w.toNat) = k) ∧
    crc16 (spiHeader 0xA3 0 1) ≠ (crc16 (spiHeader 0xA3 0 1) + 1) % 65536 := by
  refine ⟨by decide, by decide, by decide, by decide, by decide, by decide, ⟨0xFFFFFFFC, by decide, by decide⟩, by decide, ⟨_, rfl⟩, by decide⟩

theorem test_witness_RemoteTransactionsAndControlFrames :
    (let d : Dev := { svc with host := { svc.host with owner := some 2 }, net := { running := true, link := true } }
     served d = true ∧ rxNow d < 20000 ∧ d.net.running = true ∧ d.net.link = true ∧ d.sys.mode ≠ .recovery ∧ isOwner d 2 = true ∧ isShadow d = false ∧
      (d.host.kept.find? fun k => k.ep == 7 && k.sqn == 9 && k.content == [1, 0x1C, 1]) = none ∧ (d.host.kept.find? fun k => k.ep == 7 && k.sqn == 9 && k.content == [3]) = none) ∧
    (let d : Dev := { svc with host := { svc.host with kept := [⟨7, 9, [3], 1, []⟩] } }
     (d.host.kept.find? fun k => k.ep == 7 && k.sqn == 9) = some ⟨7, 9, [3], 1, []⟩) ∧ svc.net.link = false ∧ svc.twin.link ≠ .up ∧
    (let x := twin { role := 2, link := .up } 0
     let d : Dev := { x with host := { x.host with owner := some 3 } }
     d.cfg.twin.en = true ∧ d.twin.link = .up ∧ isOwner d 3 = true ∧ isShadow d = true ∧ d.sys.mode ≠ .recovery ∧ (2 ^ 63 : BitVec 64).getLsbD (63 : Fin 64).val = true) := by decide

/-! #### Network, update, journal and system -/

def netDev (x : Net) (t : List TrdpCfg) : Dev := { svc with cfg := { image with net := some { ip := 0x0A000001, mask := 0xFFFFFF00, trdp := t } }, net := x }

theorem test_witness_MacAndStacksAnswer :
    (let d := netDev { running := true, link := true } []
     rxNow d < 20000 ∧ d.net.running = true ∧ d.net.link = true ∧ isShadow d = false ∧ d.net.groups.length ≤ 16 ∧ d.cfg.net ≠ none ∧ isOwner d 0 = true ∧ isOwner d 1 = false ∧
      (netCfg d).ip = 0x0A000001 ∧ routable d 0x0A0000FF = true ∧ routable d 0x0B000000 = false ∧ (576 : Nat) ≤ 576 ∧ d.net.mdio.getLsbD 27 = false ∧
      d.net.ptp.length < 16) ∧
    (let d := netDev { running := true, link := true, rxInSecond := 20000 } []; d.net.running = true ∧ d.net.link = true ∧ 20000 ≤ rxNow d) ∧
    (∀ w : Bool, let x : Net := { mdio := if w then 0x0C000000 else 0x08000000 }; x.mdio.getLsbD 27 = true ∧ x.mdio.getLsbD 26 = w) ∧
    svc.net.running = false ∧ svc.cfg.net = none ∧ (let r : PhyResult := ⟨true, false, 2⟩; (r.link && !r.half) = true) := by decide

def orderIn : TrdpIn := ⟨100, true, true, 40, 1, 5, 90, [], 2 ^ 40⟩

theorem test_witness_TrdpPublishesAndSubscribes :
    (let d := netDev { running := true, link := true } [{ comId := 100, subscribe := true, dataset := 4 }, { comId := 101, dest := 0x0A000002 }]
     rxNow d < 20000 ∧ d.net.running = true ∧ d.net.link = true ∧ (isShadow d = false ∧ d.ledger.orderHeld < orderIn.orderNo ∧ d.net.lastOrder < orderIn.orderNo) ∧ 0 < dealTicks d ∧
      trdpCfg d (0 : Fin 16).val = some { comId := 100, subscribe := true, dataset := 4 } ∧ orderIn.fcsOk = true ∧
      trdpCfg d (1 : Fin 16).val = some { comId := 101, dest := 0x0A000002 } ∧ routable d 0x0A000002 = true ∧ trdpCfg d (15 : Fin 16).val = none ∧
      (((netCfg d).trdp.find? fun c => !c.subscribe && c.comId == 101) = some { comId := 101, dest := 0x0A000002 }) ∧
      (∀ c ∈ (netCfg d).trdp, c.subscribe = true ∨ c.comId ≠ 102) ∧
      (((subsOf d 100).find? fun s => (s.2.dataset == 4 || s.2.dataset == 5) && ({ orderIn with length := datasetLen 4 } : TrdpIn).length == datasetLen s.2.dataset) =
        some (0, { comId := 100, subscribe := true, dataset := 4 }))) ∧ svc.net.running = false := by decide

def updOf (x : Update) : Dev := { svc with upd := { x with svRun := true, coreRun := 0xF } }
def jobDev (op : Nat) (x : Update) : Dev := { updOf x with host := { svc.host with jobs := [{ ref := ref, opcode := op }] } }
def slot (t : Fin 4) (x : FwSlot) : Vector FwSlot 4 := (Vector.replicate 4 {}).set t x

theorem test_witness_FirmwareIsWrittenAndVerified_write :
    checkCode480 svc ref opUpdateOpen (countOk 0 1024) none = none ∧ checkCode480 svc ref opUpdateOpen (countOk 0 1025) none = some .badParam ∧
    checkCode480 svc ref opUpdateOpen (countOk 1 2) none = none ∧
    (svc.upd.session = none ∧ svc.upd.trial = none ∧ svc.upd.quietWait = none ∧ svc.upd.paused = none ∧ openTarget svc 0 = some 0) ∧
    (updOf { session := some (0, 0, 2) }).upd.session.isSome = true ∧
    (let d := jobDev opUpdateOpen { session := some (0, 0, 2), slots := slot 0 { state := .erasing } }
     d.upd.session = some (0, 0, 2) ∧ (d.upd.slots[(0 : Fin 4)]).state = .erasing ∧ inRecovery d = false ∧ jobOf d opUpdateOpen = some { ref := ref, opcode := opUpdateOpen }) ∧
    checkCode480 svc ref opParcelWrite (decide (4096 % 4096 = 0)) none = none ∧
    (let d := updOf { session := some (0, 0, 2), slots := slot 0 { state := .writing, parcels := [(0, [])] } }
     d.upd.session = some (0, 0, 2) ∧ (d.upd.slots[(0 : Fin 4)]).state = .writing ∧ 2 * 4096 ≤ 8192 ∧ 4096 < 2 * 4096 ∧
      ((d.upd.slots[(0 : Fin 4)]).parcels.find? fun x => x.1 == 0) = some (0, []) ∧ ((d.upd.slots[(0 : Fin 4)]).parcels.find? fun x => x.1 == 4096) = none) ∧
    (let d := jobDev opParcelWrite { session := some (0, 0, 2), programming := some (4096, []) }
     d.upd.programming = some (4096, []) ∧ d.upd.session = some (0, 0, 2) ∧ inRecovery d = false ∧ jobOf d opParcelWrite = some { ref := ref, opcode := opParcelWrite }) := by decide

theorem test_witness_FirmwareIsWrittenAndVerified_sums : (∃ c, crc32c (parcelBytes svc) = c) ∧ ∃ c, crc32c (parcelBytes svc) ≠ c := ⟨⟨_, rfl⟩, ⟨_, Nat.ne_of_lt (Nat.lt_succ_self _)⟩⟩

theorem test_witness_FirmwareIsWrittenAndVerified_end :
    checkCode480 svc ref opUpdateVerify true none = none ∧ checkCode480 svc ref opUpdateAbort true none = none ∧ checkCode480 svc ref opUpdateConfirm true none = none ∧
    checkCode480 svc ref opUpdateFloor true none = none ∧
    (let d := jobDev opUpdateVerify { session := some (0, 0, 2) }
     d.upd.session ≠ none ∧ inRecovery d = false ∧ jobOf d opUpdateVerify = some { ref := ref, opcode := opUpdateVerify } ∧ verifyCode d 0 0 2 false = 0x0401 ∧ d.upd.trial = none) ∧
    (let d := { updOf { trial := some 0, trialSlot := 1, healthEnd := 1, slots := slot 1 { state := .trial } } with sys := { sys0 with edgeUp := Vector.replicate 5 true } }
     d.upd.trial = some 0 ∧ confirmWhy d 0 = 0 ∧ d.upd.trialBad = 0 ∧ d.upd.quietWait = none ∧ d.upd.paused = none ∧ d.tmr.tb < d.upd.healthEnd ∧
      (d.upd.slots[d.upd.trialSlot]).state = .trial) ∧
    (updOf { trial := some 1, healthEnd := 0 }).upd.healthEnd ≤ (updOf { trial := some 1 }).tmr.tb ∧
    (let d := updOf { slots := slot 3 { state := .active, security := 1 } }
     slotIn d 1 .active = some 3 ∧ d.upd.trial ≠ some 1 ∧ d.upd.floors[(1 : Fin 2)] < (d.upd.slots[(3 : Fin 4)]).security ∧ d.upd.floors[(1 : Fin 2)] < 64) ∧
    (let d := updOf { slots := slot 3 { state := .active } }; slotIn d 1 .active = some 3 ∧ (d.upd.slots[(3 : Fin 4)]).security ≤ d.upd.floors[(1 : Fin 2)]) := by decide

theorem test_witness_ActivationTrialAndFallback_commands : checkCode480 svc ref opUpdateActivate true none = none ∧ checkCode480 svc ref opUpdateAbort true none = none ∧
    (updOf { quietWait := some (.core 3 3) }).upd.quietWait ≠ none ∧
    ¬ (svc.sys.mode = .minimal ∧ svc.coll.minCause = 3 ∧ slotIn svc 1 .active = none) ∧ slotIn svc 0 .verified = none ∧
    (let d := { updOf { slots := slot 1 { state := .verified } } with sys := { sys0 with mode := .minimal }, coll := { minCause := 3 } }
     d.sys.mode = .minimal ∧ d.coll.minCause = 3 ∧ slotIn d 1 .active = none ∧ slotIn d (if (0 : Fin 5) = 0 then 0 else 1) .verified = some 1) ∧
    (let d := updOf { slots := slot 1 { state := .verified } }; slotIn d 0 .verified = some 1 ∧ coreRuns d 3 = false ∧ d.upd.trial = none) ∧
    (let d := updOf { slots := slot 3 { state := .verified } }
     (slotIn d 1 .trial).or (slotIn d 1 .verified) = some 3 ∧ coreSlot d 3 ≠ 3 ∧ ((diePorts 3).any fun p => isAttached (d.ports[p])) = false ∧ d.upd.trial ≠ some 0) ∧
    (let d := updOf { trial := some 1, trialSlot := 3 }; d.upd.trial = some 1 ∧ d.upd.trialBad = 0 ∧ d.upd.quietWait = none ∧ d.upd.paused = none ∧
      d.upd.healthEnd ≤ d.tmr.tb ∧ quiet d srcHealth) := by decide

theorem test_witness_ActivationTrialAndFallback_steps :
    (let d := jobDev opUpdateActivate { quietWait := some (.core 3 3), slots := slot 3 { state := .verified } }
     d.upd.quietWait = some (.core 3 3) ∧ quietFor d (.core 3 3) = true ∧ (∀ comp, Activation.core 3 3 ≠ .fallback comp) ∧ d.upd.trial = none ∧
      jobOf d opUpdateActivate = some { ref := ref, opcode := opUpdateActivate }) ∧
    (let d := updOf { quietWait := some (.platform 1) }; d.upd.quietWait = some (.platform 1) ∧ quietFor d (.platform 1) = true) ∧
    (let d := { updOf { quietWait := some (.core 0 3) } with ports := svc.ports.set 0 { transition := true } }
     d.upd.quietWait = some (.core 0 3) ∧ quietFor d (.core 0 3) = false) ∧
    (updOf { quietWait := some (.fallback 0) }).upd.quietWait = some (.fallback 0) ∧
    (let d := jobDev opUpdateActivate { paused := some (.core 3 3) }
     d.upd.paused = some (.core 3 3) ∧ d.upd.trialBad = 0 ∧ jobOf d opUpdateActivate = some { ref := ref, opcode := opUpdateActivate }) ∧
    (let d := jobDev opUpdateActivate { paused := some (.platform 1), slots := slot 0 { state := .active } }
     d.upd.paused = some (.platform 1) ∧ d.upd.trialBad = 0 ∧ jobOf d opUpdateActivate = some { ref := ref, opcode := opUpdateActivate } ∧ slotIn d 0 .active ≠ some 1) ∧
    (let d := updOf { paused := some (.fallback 0), trialSlot := 1, slots := (slot 1 { state := .trial }).set 0 { state := .previous } }
     d.upd.paused = some (.fallback 0) ∧ (d.upd.slots[d.upd.trialSlot]).state = .trial ∧ slotIn d 0 .active = none) := by decide

def recDev (x : Update) : Dev := { svc with sys := { sys0 with mode := .recovery }, upd := x, host := {} }

theorem test_witness_RecoveryLoadsAPlatformSet : inRecovery svc = false ∧ inRecovery (recDev {}) = true ∧ (recDev {}).upd.recBound ≠ some 0 ∧
    (recDev { recBound := some 4 }).upd.recBound ≠ none ∧ (recDev { recBound := some 4, recBusy := true }).upd.recBusy = true ∧
    ((recDev {}).upd.recBound = none ∧ ((4 : Fin 5) = 0 ∨ (4 : Fin 5) = 4)) ∧ (recDev { session := some (0, 0, 2) }).upd.session ≠ none ∧
    (let u := (recDev { recArg := 1024, slots := slot 0 { state := .active } }).upd
     u.session = none ∧ 2 ≤ u.recArg.toNat ∧ u.recArg.toNat ≤ 1024 ∧ (1 : Fin 4) = (if (u.slots[(0 : Fin 4)]).state = .active then 1 else 0)) ∧
    1024 < (recDev { recArg := 1025 }).upd.recArg.toNat ∧
    (let d := recDev { recBound := some 0, recSlot := some 1, recArg := 4096, slots := slot 1 { state := .verified } }
     (d.upd.recBound = some 0 ∧ d.upd.recBusy = false) ∧ d.upd.recArg.toNat % 4096 = 0 ∧ parcelFate d 4096 0 = .state ∧ d.upd.recSlot = some 1 ∧
      (d.upd.slots[(1 : Fin 4)]).state = .verified ∧ ((1 : Fin 4) = 0 ∨ (1 : Fin 4) = 1)) ∧
    (let d := recDev { recBound := some 0, session := some (0, 1, 2), slots := slot 1 { state := .writing } }; parcelFate d 8192 0 = .badParam) := by decide

theorem test_witness_JournalAndTelemetryCommands : checkCode480 svc ref opJournalMark true none = none ∧ svc.sys.storeOk = true ∧
    (sysOf { sys0 with storeOk := false }).sys.storeOk = false ∧
    checkCode480 svc ref opJournalWindow (decide (50266112 % 65536 = 0) && decide (50266112 < journalSize)) none = none ∧ (1 : Nat) % 65536 ≠ 0 ∧
    checkCode480 svc ref opJournalWindow false none = some .badParam ∧
    (let d : Dev := { svc with cfg := { image with host := { image.host with rings := image.host.rings.set 15 (some { kind := 4, base := 24 }) } } }
     checkCode480 d ref opTelemetrySet (telemetryOk d 15 (List.replicate 12 0)) none = none) ∧
    (∀ x ∈ [0, eraseBlock - 1], let d : Dev := { svc with jrn := { buffer := [⟨12, List.replicate 16 0⟩], pos := x, creditAt := 0 } }
      mayProgram d = true ∧ d.jrn.buffer = ⟨12, List.replicate 16 0⟩ :: [] ∧
       16 + (if placeAt d.jrn.pos 16 = d.jrn.pos then 0 else eraseBlock - d.jrn.pos % eraseBlock) ≤ jrnCredit d) ∧
    (let d : Dev := { svc with jrn := { buffer := [⟨12, List.replicate 16 0⟩], credit := 0 } }; mayProgram d = true ∧ jrnCredit d < 16) ∧
    svc.jrn.buffer = [] := by decide

theorem test_witness_JournalAndTelemetryCommands_shed : (svc.jrn.shed.all (· == 0)) = true ∧ (Vector.replicate 16 (1 : Nat)).all (· == 0) = false := by
  constructor <;> simp [svc]

theorem test_witness_ModesByCommandAndWake : checkCode480 svc ref opMinimalEnter true none = none ∧ checkCode480 svc ref opMinimalExit true none = none ∧
    checkCode480 svc ref opEnterStandby true none = none ∧ checkCode480 svc ref opEnterDormant true none = none ∧ checkCode480 svc ref opDeviceReset true none = none ∧
    checkCode480 svc ref opDeviceReset false none = some .badParam ∧ svc.sys.mode ≠ .standby ∧ svc.sys.mode ≠ .minimal ∧ sleepBlocked svc = false ∧ svc.sys.mode = .service ∧
    (∀ f, quiet svc (feedSrc f 6)) ∧ sleepBlocked (updOf { session := some (0, 0, 2) }) = true ∧
    (let d : Dev := { svc with sys := { sys0 with mode := .minimal }, coll := { minCause := 4 }, tmr := { tb := ticksOfMs 100 } }
     d.sys.mode = .minimal ∧ (d.coll.minCause = 1 ∨ d.coll.minCause = 4) ∧ (∀ e : Fin 4, linkSteady d (linkOf e) = true)) ∧
    (let d := sysOf { sys0 with mode := .dormant, ret := { wakeTimer := 1 } }
     d.sys.mode = .dormant ∧ d.sys.ret.wakeTimer ≠ 0 ∧ d.sys.ret.wakeLatched = false ∧ railsOk d = true) ∧
    (let d := sysOf { sys0 with mode := .dormant, ret := { wakeTimer := 1 }, supplyOk := Vector.replicate 3 false }; d.sys.ret.wakeLatched = false ∧ railsOk d = false) ∧
    (∀ b : Bool, let d := sysOf { sys0 with mode := .standby, deadcar := b }; d.sys.mode = .standby ∧ d.sys.deadcar = b) ∧
    (let t : Twin := { role := 3, roleWaits := 2, slot := true }; t.role = 3 ∧ t.roleWaits = 2 ∧ t.slot = true ∧ t.prole = false) ∧
    (let t : Twin := { role := 3, roleWaits := 1, prole := true }; t.role = 3 ∧ t.roleWaits ≠ 0 ∧ t.roleWaits ≠ 2) ∧ (svc.twin.role ≠ 3 ∨ svc.twin.roleWaits = 0) := by decide

theorem test_witness_ModesByCommandAndWake_exit :
    mayExit { svc with sys := { sys0 with mode := .minimal }, coll := { minCause := 4 }, store := { admitted := true }, tmr := { tb := ticksOfMs 100 } } = true :=
  mayExit_of_quiet _ rfl rfl

/-- The block at BOOT, with what step 1 of its programme finds. -/
def bootDev (x : Sys) (u : Update) : Dev := { sys := { x with mode := .boot, bootStep := 1 }, upd := u }
def obs0 : BootObs := ⟨false, 0, true, true, 0, 0xF, 0, false, false, false, true, 0, 0⟩

theorem test_witness_ResetsSuppliesAndBoot :
    (let d := sysOf { sys0 with mode := .dormant, ret := { wakeLatched := true }, supplyOk := #v[true, true, false] }
     d.sys.mode = .dormant ∧ d.sys.ret.wakeLatched = true ∧ (∀ k : Fin 3, k ≠ 2 → d.sys.supplyOk[k] = true)) ∧ svc.sys.mode ≠ .dormant ∧
    (∀ b : Bool, (sysOf { sys0 with edgeOn := Vector.replicate 4 b }).sys.edgeOn[(3 : Fin 4)] = b) ∧ svc.sys.mode = .service ∧
    (∃ k : Fin 4, k ≠ 3 ∧ svc.sys.edgeMin[k] = false) ∧ (∀ k : Fin 4, k ≠ 3 → (sysOf { sys0 with edgeMin := Vector.replicate 4 true }).sys.edgeMin[k] = true) ∧ (∀ p : Fin 32, (svc.ports[p]).vconnOn = false) ∧
    (let d := port0 { vconnOn := true }; d.sys.vconnIn = true ∧ (∃ p : Fin 32, (d.ports[p]).vconnOn = true) ∧ quiet d srcVconnUv) ∧
    (sysOf { sys0 with bootDue := some 5 }).sys.bootDue = some 5 ∧ svc.sys.bootDue = none ∧ (∀ b : Bool, (sysOf { sys0 with deadcar := b }).sys.deadcar = b) ∧
    (let d := bootDev {} {}
     d.sys.mode = .boot ∧ d.sys.bootStep = 1 ∧ railsOk d = true ∧ d.sys.tempTrip[(0 : Fin 7)] = false ∧ obs0.dieCrcBad = 0 ∧
      (let o := { obs0 with feedsUp := false, vgdAbove9 := false, deadcar := 8 }
       o.feedsUp = false ∧ o.vgdAbove9 = false ∧ o.deadcar ≠ 0 ∧ ((24 : Fin 32).val % 8 = 0 ∧ o.deadcar.getLsbD ((24 : Fin 32).val / 8) = true)) ∧
      ({ obs0 with bootsel0 := true } : BootObs).bootsel0 = true) ∧ 2 ≤ (bootDev { ret := { failedBoots := 2 } } {}).sys.ret.failedBoots ∧
    (let d := bootDev { ret := { failedBoots := 1 } } { slots := (slot 1 { state := .active }).set 3 { state := .active } }
     (obs0.feedsUp = true ∨ obs0.vgdAbove9 = true ∨ obs0.deadcar = 0) ∧ obs0.bootsel0 = false ∧ d.sys.ret.failedBoots < 2 ∧ d.sys.minRecord.get minRecBytes = none ∧ obs0.calBad = 0 ∧
      (∀ t : Fin 4, (d.upd.slots[t]).state ≠ .erasing ∧ (d.upd.slots[t]).state ≠ .writing ∧ (d.upd.slots[t]).state ≠ .trial) ∧
      (∀ t : Fin 4, (d.store.slots[t]).state ≠ .active ∧ (d.store.slots[t]).state ≠ .previous) ∧ slotIn d 0 .active = some 1 ∧
      obs0.slotOk.getLsbD (1 : Fin 4).val = true ∧ slotIn d 1 .active = some 3 ∧ obs0.slotOk.getLsbD (3 : Fin 4).val = true) := by decide

theorem test_witness_RecordsOutliveOneBadCopy : (0 : BitVec 2) ≠ 3 ∧ (1 : BitVec 2) ≠ 3 ∧ (2 : BitVec 2) ≠ 3 := by decide

theorem test_witness_CyclesClampAndCount : (loopCfg { svc with cfg := { image with loops := Vector.replicate 32 (some { nRun := 3 }) } } 0).nRun < 3 + 1 ∧
    ¬ (({} : Loop).ramping = true ∨ ({} : Loop).softStart = true) ∧ (({ softStart := true } : Loop).softStart = true) := by decide

theorem test_witness_BoundaryScanTurnsThePowerOff : ({} : Tap).trstLow = true ∧ (TapInstr.idcode ≠ .extest) ∧
    (({ svc with tap := { trstLow := false } } : Dev).tap.trstLow = false) := by decide

theorem test_idcode_is_the_specs_word : tapCapture (tapLoad .idcode { svc with tap := { trstLow := false } }) = some 0x23264001 := by decide

end Sys2Proof.Tests
end

section
/-! SUPPORT. What a settled command leaves: its answer, and how the frame predicates compose. -/

namespace Sys2Proof.Machine

/-- A command whose effect is f answers the block that f leaves, settled. -/
theorem next_of_act {c : Instr} {f : Dev → Dev} {s : State} {P : Dev → Prop} (hc : exec c s = act f s) (h : P (settle s.dev (f s.dev))) :
    ∃ d, exec c s = .next { s with dev := d } ∧ P d :=
  ⟨_, hc, h⟩

theorem SameBut.trans {l : List Part} {a b c : Dev} (h : SameBut l a b) (k : SameBut l b c) : SameBut l a c := by
  intro x hx
  have hab := h x hx
  have hbc := k x hx
  cases x <;> exact Eq.trans hbc hab

theorem SameBut.mono {l m : List Part} {a b : Dev} (h : SameBut l a b) (hl : l ⊆ m) : SameBut m a b := fun x hx => h x fun hm => hx (hl hm)

/-- What the settling of a command notes is outside the core of the twin block (09 R381). -/
theorem SameBut.settled {l : List Part} {a b : Dev} (h : SameBut l a b) (a' : Dev) : SameBut l a (settle a' b) := by
  intro x hx
  have hab := h x hx
  cases x
  case twin => exact (settleTwin_core a' b).trans hab
  all_goals exact hab

theorem OnlyPort.trans {p : Fin 32} {a b c : Dev} (h : OnlyPort p a b) (k : OnlyPort p b c) : OnlyPort p a c := by
  intro q hq
  obtain ⟨hports, hpd, hguards, hloops⟩ := h q hq
  obtain ⟨kports, kpd, kguards, kloops⟩ := k q hq
  exact ⟨kports.trans hports, kpd.trans hpd, kguards.trans hguards, kloops.trans hloops⟩

end Sys2Proof.Machine
end

section
/-! SUPPORT. A command of the hub at an edge die (01 R20, R29, R36, 04 R162), and the statement about it. -/

namespace Sys2Proof.Machine

theorem exec_edgeControlFrame (p : Fin 32) (k : EdgeCmd) (s : State) : exec (.edgeControlFrame p k) s = act (fxEdgeControlFrame p k) s := by rfl

/-- A command that reaches its die is applied there (01 R20). -/
theorem fxEdgeControlFrame_reaches {p : Fin 32} {d : Dev} (k : EdgeCmd) (hu : d.sys.edgeUp[(linkOf (edgeOf p)).val] = true)
    (hn : ∀ x ∈ d.loss.unconfirmed, x.1 ≠ p) : fxEdgeControlFrame p k d = edgeApply p k d :=
  if_pos (by simpa [hu] using hn)

/-- A command that does not reach its die waits behind the unconfirmed ones (01 R29, R630). -/
theorem fxEdgeControlFrame_waits {p : Fin 32} {d : Dev} (k : EdgeCmd)
    (h : d.sys.edgeUp[(linkOf (edgeOf p)).val] = false ∨ ∃ x ∈ d.loss.unconfirmed, x.1 = p) :
    fxEdgeControlFrame p k d = { d with loss := { d.loss with unconfirmed := d.loss.unconfirmed ++ [(p, k)] } } := by
  refine if_neg ?_
  rcases h with hd | ⟨x, hx, hp⟩
  · simp [hd]
  · have : d.loss.unconfirmed.any (fun x => x.1 == p) = true := List.any_eq_true.mpr ⟨x, hx, by simpa using hp⟩
    simp [this]

/-- A port in minimal mode keeps its die's state (01 R36). -/
theorem edgeApply_minimal {p : Fin 32} {d : Dev} (k : EdgeCmd) (h : portMinimal d p = true) : edgeApply p k d = d := if_pos h

/-- A fence raise stands at once (04 R162). -/
theorem fenceTo_raise {f : Nat} {q : Port} (h : q.fence ≤ f) : fenceTo f q = { q with fence := f, fencePend := none, fenceReg := fenceShown q f } := if_pos h

/-- A lowered fence waits for VBUS (04 R162). -/
theorem fenceTo_lower {f : Nat} {q : Port} (h : f < q.fence) : fenceTo f q = { q with fencePend := some f } := if_neg (Nat.not_le.mpr h)

section
variable {p : Fin 32} {d : Dev} (h : portMinimal d p = false)
include h

theorem edgeApply_fence (mv : Nat) : edgeApply p (.fence mv) d = onPort p (fenceTo mv) d := by simp [edgeApply, h, dieFence]
theorem edgeApply_down (mv : Nat) : edgeApply p (.reference mv .down) d = startRamp p (refCode mv) (diePort d p).slewDn .transition d := by
  simp [edgeApply, h, dieReference]
theorem edgeApply_guardOpen : edgeApply p .guardOpen d = openGuard p 0 d := by simp [edgeApply, h]
theorem edgeApply_vconnOn (pin : Bool) : edgeApply p (.vconnOn pin) d = onPort p (fun q => { q with vconnOn := true, vconnPin := pin }) d := by
  simp [edgeApply, h]
theorem edgeApply_vconnOff : edgeApply p .vconnOff d = vconnOff p d := by simp [edgeApply, h]
theorem edgeApply_currentLimit (ma : Nat) : edgeApply p (.currentLimit ma) d = onLoop p (fun l => { l with limitMa := some ma }) d := by
  simp [edgeApply, h]
end

/-- A ramp starts toward its code, at its slew (05 R211). -/
theorem startRamp_self (p : Fin 32) (code slew : Nat) (why : RampFor) (d : Dev) : ((startRamp p code slew why d).loops[p.val]).target = code ∧
    ((startRamp p code slew why d).loops[p.val]).ramping = true ∧ ((startRamp p code slew why d).loops[p.val]).slew = slew := by
  simp [startRamp]

/-- Settles O10, by what each command of the hub does at a die that it reaches. -/
theorem edgeCommandsReachTheDie : Obligations.EdgeCommandsReachTheDie := by
  unfold Obligations.EdgeCommandsReachTheDie
  intro s p k
  refine ⟨fun hu hn hm => ?_, fun hu hn hm => ?_, fun h => ?_⟩
  · have hr := fxEdgeControlFrame_reaches k hu hn
    refine ⟨fun mv hk hf => ?_, fun mv hk hf => ?_, fun mv hk => ?_, fun ma hk => ?_, fun b hk => ?_, fun hk => ?_, fun hk => ?_⟩ <;>
      refine next_of_act (exec_edgeControlFrame ..) ?_ <;> rw [hr, hk]
    · rw [edgeApply_fence hm]
      simp [fenceTo_raise (show (s.dev.ports[p.val]).fence ≤ mv from hf)]
    · rw [edgeApply_fence hm]
      simp [fenceTo_lower (show mv < (s.dev.ports[p.val]).fence from hf)]
    · rw [edgeApply_down hm]
      simp [startRamp_self]
    · simp [edgeApply_currentLimit hm]
    · simp [edgeApply_vconnOn hm]
    · simp [edgeApply_vconnOff hm]
    · simp [edgeApply_guardOpen hm, openGuard_self]
  · refine next_of_act (exec_edgeControlFrame ..) ?_
    rw [fxEdgeControlFrame_reaches k hu hn, edgeApply_minimal k hm]
    simp
  · refine next_of_act (exec_edgeControlFrame ..) ?_
    rw [fxEdgeControlFrame_waits k h]
    simp

end Sys2Proof.Machine
end

section
/-! SUPPORT. The loss and the return of an edge link, minimal mode of one die, and the checks of the clocks (01 R21 to R36, R630, R631), and the
statement about them. -/

namespace Sys2Proof.Machine

/-! ### The loss and the return of a link -/

theorem exec_edgeLinkCrcError (l : Fin 5) (s : State) : exec (.edgeLinkCrcError l) s = act (fxEdgeLinkCrcError l) s := by rfl
theorem exec_edgeLinkLost (l : Fin 5) (s : State) : exec (.edgeLinkLost l) s = act (fxEdgeLinkLost l) s := by rfl
theorem exec_edgeLinkRetrained (l : Fin 5) (s : State) : exec (.edgeLinkRetrained l) s = act (fxEdgeLinkRetrained l) s := by rfl
theorem exec_lossQueueDrained (l : Fin 5) (s : State) : exec (.lossQueueDrained l) s = act (fxLossQueueDrained l) s := by rfl
theorem exec_edgeDieMinimalTimeout (e : Fin 4) (s : State) : exec (.edgeDieMinimalTimeout e) s = act (fxEdgeDieMinimalTimeout e) s := by rfl
theorem exec_feedLinkHold (s : State) : exec .feedLinkHold s = act fxFeedLinkHold s := by rfl
theorem exec_clockCheckFail (k : ClockId) (s : State) : exec (.clockCheckFail k) s = act (fxClockCheckFail k) s := by rfl
theorem exec_tbSyncFrame (l : Fin 5) (s : State) : exec (.tbSyncFrame l) s = act (fxTbSyncFrame l) s := by rfl

/-- A lost link retrains, and its source is latched (01 R22, 11 R433). -/
theorem linkLost_latches {l : Fin 5} {d : Dev} (hu : d.sys.edgeUp[l.val] = true) (hq : Quiet d (srcLinkLoss l)) :
    (linkLost l d).sys.retraining[l.val] = true ∧ ((linkLost l d).sources[(srcLinkLoss l).val]).latch = true := by
  have hr : Quiet (onSys (fun s => { s with crcRetries := s.crcRetries.set l 0 }) (linkRetrain l (ticksOfMs 2 - ticksOfUs 50) d)) (srcLinkLoss l) :=
    quiet_hub (srcLinkLoss_hub l) (by simpa using hq.1)
  have hl := raise_latch hr (srcLinkLoss_row l)
  have hs : (linkRetrain l (ticksOfMs 2 - ticksOfUs 50) d).sys.retraining[l.val] = true := by simp [linkRetrain, hu]
  unfold linkLost
  simp [hu, hl, raise_quiet hr, hs]

/-- A retrained link is up, its source's condition is over, and the frames its die kept are due (01 R630, R631, 11 R433). -/
theorem fxEdgeLinkRetrained_effect {l : Fin 5} {d : Dev} (h : d.sys.retraining[l.val] = true) :
    (fxEdgeLinkRetrained l d).sys.edgeUp[l.val] = true ∧ (fxEdgeLinkRetrained l d).sys.retraining[l.val] = false ∧
    ((fxEdgeLinkRetrained l d).sources[(srcLinkLoss l).val]).cond = false ∧
    ((fxEdgeLinkRetrained l d).sources[(srcLinkLoss l).val]).latch = (d.sources[(srcLinkLoss l).val]).latch ∧ (fxEdgeLinkRetrained l d).ports = d.ports := by
  unfold fxEdgeLinkRetrained
  rw [if_neg (by simp [h])]
  dsimp only
  split <;> simp [condEnd]

/-- Where a die kept no frame, the return of its link sends the unconfirmed commands of its ports again (01 R36, R630). -/
theorem fxLossQueueDrained_resends {l : Fin 5} {d : Dev} (hu : d.sys.edgeUp[l.val] = true) (hq : d.loss.queue[l.val] = []) (hm : d.loss.marks = []) :
    fxLossQueueDrained l d = resend l (d.loss.unconfirmed.filter fun x => linkOf (edgeOf x.1) == l)
      { d with loss := { d.loss with unconfirmed := d.loss.unconfirmed.filter fun x => !(linkOf (edgeOf x.1) == l) } } := by
  have hs : d.loss.queue.set l.val [] = d.loss.queue := by rw [← hq]; exact Vector.set_getElem_self _
  simp [fxLossQueueDrained, hu, hq, hm, forEach, hs]

/-- What the hub sends again of one command of a port of an edge die: its die lets go of the parameters it held, and takes the command (01 R630). -/
theorem resend_one {p : Fin 32} {d : Dev} (k : EdgeCmd) (h : portMinimal d p = false) :
    resend (linkOf (edgeOf p)) [(p, k)] d = edgeApply p k (onSys (fun s => { s with held := s.held.set (linkOf (edgeOf p)).val none }) d) := by
  have hl : (linkOf (edgeOf p)).val < 4 := (edgeOf p).isLt
  have hf : (linkOf (edgeOf p) == elf) = false := beq_eq_false_iff_ne.mpr fun he => absurd (congrArg Fin.val he) (Nat.ne_of_lt hl)
  have hd : dieMinimal d ⟨(linkOf (edgeOf p)).val, hl⟩ = false := h
  unfold resend
  rw [dif_pos hl, hd, hf]
  rfl

/-- The current limit that waited unconfirmed is taken when the link of its die is back (01 R630). -/
theorem fxLossQueueDrained_currentLimit {p : Fin 32} {ma : Nat} {d : Dev} (hu : d.sys.edgeUp[(linkOf (edgeOf p)).val] = true)
    (hq : d.loss.queue[(linkOf (edgeOf p)).val] = []) (hm : d.loss.marks = []) (hc : d.loss.unconfirmed = [(p, .currentLimit ma)])
    (hp : portMinimal d p = false) : fxLossQueueDrained (linkOf (edgeOf p)) d = onLoop p (fun l => { l with limitMa := some ma })
      (onSys (fun s => { s with held := s.held.set (linkOf (edgeOf p)).val none }) { d with loss := { d.loss with unconfirmed := [] } }) := by
  rw [fxLossQueueDrained_resends hu hq hm, hc]
  simp only [List.filter_cons, List.filter_nil, BEq.rfl, Bool.not_true, if_true, Bool.false_eq_true, if_false]
  rw [resend_one _ (show portMinimal { d with loss := { d.loss with unconfirmed := [] } } p = false from hp)]
  refine edgeApply_currentLimit ?_ ma
  exact hp

/-! ### Minimal mode of a die -/

theorem srcEdgeMinimal_hub (e : Fin 4) : srcLink (srcEdgeMinimal e) = none := by revert e; decide

/-- A die that enters minimal mode changes the mark of itself alone, and not the mode of the device (01 R23). -/
theorem dieEnterMinimal_mode (e : Fin 4) (d : Dev) : (dieEnterMinimal e d).sys.mode = d.sys.mode ∧ (dieEnterMinimal e d).sys.edgeMin = d.sys.edgeMin.set e.val true := by
  unfold dieEnterMinimal
  split
  · rename_i h
    have : d.sys.edgeMin.set e.val true = d.sys.edgeMin := by rw [← h]; exact Vector.set_getElem_self _
    exact ⟨rfl, this.symm⟩
  · simp

/-- While one die is not in minimal mode the device is not by its dies (01 R34). -/
theorem minimalIfAll_one_runs {d : Dev} {f : Fin 4} (h : d.sys.edgeMin[f.val] = false) : minimalIfAll d = d := by
  refine if_neg ?_
  have : ∃ x ∈ indices 4, d.sys.edgeMin[x.val] = false := ⟨f, List.mem_finRange f, h⟩
  simpa using fun _ => this

/-- A die alone in minimal mode: the device keeps its mode (01 R34). -/
theorem fxEdgeDieMinimalTimeout_alone {e f : Fin 4} {d : Dev} (hr : d.sys.inReset = false) (ho : d.sys.edgeOn[e.val] = true) (hf : f ≠ e)
    (hm : d.sys.edgeMin[f.val] = false) (hq : Quiet d (srcEdgeMinimal e)) :
    (fxEdgeDieMinimalTimeout e d).sys.mode = d.sys.mode ∧ (fxEdgeDieMinimalTimeout e d).sys.edgeMin[e.val] = true := by
  have hfe : e.val ≠ f.val := fun h => hf (Fin.ext h.symm)
  unfold fxEdgeDieMinimalTimeout
  rw [if_neg (by simp [hr, ho])]
  dsimp only
  generalize hd1 : onlyIf _ (forEach (diePorts e) tryAttach) _ = d1
  have hmode : d1.sys.mode = d.sys.mode := by simp [← hd1, dieEnterMinimal_mode]
  have hmin : d1.sys.edgeMin = d.sys.edgeMin.set e.val true := by simp [← hd1, dieEnterMinimal_mode]
  have hq1 : Quiet d1 (srcEdgeMinimal e) := quiet_hub (srcEdgeMinimal_hub e) (by simpa [← hd1] using hq.1)
  generalize hd2 : onlyIf _ (levelSource (srcEdgeMinimal e) true) d1 = d2
  have hsys : d2.sys = d1.sys := by rw [← hd2]; exact onlyIf_sys _ _ _ (by simp only [levelSource_quiet hq1])
  have hrun : d2.sys.edgeMin[f.val] = false := by simp [hsys, hmin, hfe, hm]
  rw [minimalIfAll_one_runs hrun, hsys, hmode, hmin]
  simp

/-! ### A die without clock -/

/-- A port that carries nothing: its guard is open and it does not switch. -/
def PortStopped (p : Fin 32) (d : Dev) : Prop := guardOn (d.guards[p.val]) = false ∧ (d.loops[p.val]).switching = false

theorem stopPort_stopped (p : Fin 32) (why : Nat) (d : Dev) : PortStopped p (stopPort p why d) := by
  obtain ⟨hguard, hswitching, -⟩ := stopPort_self p why d
  exact ⟨hguard, hswitching⟩

/-- The stop of a port keeps the others stopped. -/
theorem stopPort_keeps_stopped {p : Fin 32} (q : Fin 32) (why : Nat) {d : Dev} (h : PortStopped p d) : PortStopped p (stopPort q why d) := by
  by_cases hpq : p = q
  · subst hpq
    exact stopPort_stopped p why d
  · simpa [PortStopped, stopPort_other q why d hpq] using h

/-- Each port of a die that stops is stopped (05 R213). -/
theorem forEach_stopPort_stopped {e : Fin 4} {p : Fin 32} (hp : edgeOf p = e) (why : Nat) (d : Dev) :
    PortStopped p (forEach (diePorts e) (fun q => stopPort q why) d) :=
  forEach_establish (fun q x => stopPort_stopped q why x) (fun _ r _ h => stopPort_keeps_stopped r why h) (by simp [diePorts, indices, hp]) d

theorem srcClock_row (k : ClockId) : (srcRow (srcClock k).val).isSome = true := by
  cases k with
  | edge e => revert e; decide
  | hub | feed | eth | aon => decide

/-- A failing clock beside those of the edge dies is latched, and the ports go on (01 R26, 11 R433). -/
theorem fxClockCheckFail_latches {k : ClockId} {d : Dev} (hq : Quiet d (srcClock k)) (hk : ∀ c, k ≠ .edge c) :
    ((fxClockCheckFail k d).sources[(srcClock k).val]).latch = true ∧ (fxClockCheckFail k d).ports = d.ports := by
  have hr := srcClock_row k
  cases k with
  | edge c => exact absurd rfl (hk c)
  | hub =>
    have hq' : Quiet (onlyIf (d.twin.role == 1) (onTwin fun t => { t with heartbeatStopped := true }) d) (srcClock .hub) :=
      quiet_of hq (by simp) (by simp)
    exact ⟨raise_latch hq' hr, by simp [fxClockCheckFail, raise_quiet hq']⟩
  | feed => exact ⟨raise_latch hq hr, by simp [fxClockCheckFail, raise_quiet hq]⟩
  | eth => exact ⟨raise_latch hq hr, by simp [fxClockCheckFail, raise_quiet hq]⟩
  | aon => exact ⟨raise_latch hq hr, by simp [fxClockCheckFail, raise_quiet hq]⟩

/-- An edge die without clock drops its link, and each of its ports stops (01 R26). -/
theorem fxClockCheckFail_edge {e : Fin 4} {d : Dev} (hc : Quiet d (srcClock (.edge e))) (hl : Quiet d (srcLinkLoss (linkOf e))) :
    (fxClockCheckFail (.edge e) d).sys.edgeUp[(linkOf e).val] = false ∧
    ∀ p, edgeOf p = e → PortStopped p (fxClockCheckFail (.edge e) d) := by
  generalize hx : forEach (diePorts e) (fun q => stopPort q 5) d = x
  have hsrc : x.sources = d.sources := by simp [← hx]
  have hsys : x.sys = d.sys := by simp [← hx]
  have hcx : Quiet x (srcClock (.edge e)) := quiet_of hc (by rw [hsrc]) hsys
  have hlx : Quiet x (srcLinkLoss (linkOf e)) := quiet_of hl (by rw [hsrc]) hsys
  obtain ⟨hup, -, hloops, hguards⟩ := linkLost_quiet (linkOf e) (raise (srcClock (.edge e)) x) (raise_quiet_other hcx hlx).1
  have hfx : fxClockCheckFail (.edge e) d = linkLost (linkOf e) (raise (srcClock (.edge e)) x) := by rw [← hx]; rfl
  rw [hfx]
  refine ⟨hup, fun p hp => ?_⟩
  obtain ⟨v, hv⟩ := hguards p
  have hstop : PortStopped p x := hx ▸ forEach_stopPort_stopped hp 5 d
  rw [PortStopped, hv, hloops]
  simpa [raise_quiet hcx, PortStopped, guardOn] using hstop

/-! ### The hold of the feed die -/

/-- The hold of the feed die marks its feeds (01 R24). -/
theorem fxFeedLinkHold_marks (f : Fin 4) (d : Dev) : ((fxFeedLinkHold d).feeds[f.val]).hubLost = true :=
  forEach_establish (Q := fun (f : Fin 4) x => (x.feeds[f.val]).hubLost = true) (fun f x => by simp)
    (fun f g x h => by by_cases hfg : f = g <;> simp [upd_get, hfg, h]) (by simp [indices]) _

/-- Beside the mark a feed stays as it is (01 R24). -/
theorem fxFeedLinkHold_keeps (f : Fin 4) (d : Dev) : ((fxFeedLinkHold d).feeds[f.val]).state = (d.feeds[f.val]).state ∧
    ((fxFeedLinkHold d).feeds[f.val]).diodeOn = (d.feeds[f.val]).diodeOn ∧ ((fxFeedLinkHold d).feeds[f.val]).pg = (d.feeds[f.val]).pg :=
  forEach_keeps (P := fun x => (x.feeds[f.val]).state = (d.feeds[f.val]).state ∧ (x.feeds[f.val]).diodeOn = (d.feeds[f.val]).diodeOn ∧
    (x.feeds[f.val]).pg = (d.feeds[f.val]).pg) (fun g x h => by by_cases hfg : f = g <;> simp_all [upd_get]) (by simp)

/-- Settles O9, by what the loss and the return of a link, and a failing clock, do where their sources have the action NONE. -/
theorem edgeLinksFreezeAndReturn : Obligations.EdgeLinksFreezeAndReturn := by
  unfold Obligations.EdgeLinksFreezeAndReturn
  intro s l e k
  refine ⟨fun hu => ?_, fun hu hq => ?_, fun hr => ?_, fun p ma hu hq hm hc hp => ?_, fun hr ho hs ⟨f, hf, hm⟩ hq => ?_, ?_, fun hq hk => ?_,
    fun hc hl => ?_, fun hu => ?_⟩
  · refine next_of_act (exec_edgeLinkCrcError ..) ?_
    simp [fxEdgeLinkCrcError, show s.dev.sys.edgeUp[l.val] = true from hu]
  · refine next_of_act (exec_edgeLinkLost ..) ?_
    obtain ⟨hup, hports, hloops, hguards⟩ := linkLost_quiet l s.dev hq.1
    obtain ⟨hretrain, hlatch⟩ := linkLost_latches hu hq
    exact ⟨hup, hretrain, hlatch, hports, hloops, hguards⟩
  · exact next_of_act (exec_edgeLinkRetrained ..) (fxEdgeLinkRetrained_effect hr)
  · refine next_of_act (exec_lossQueueDrained ..) ?_
    rw [fxLossQueueDrained_currentLimit hu hq hm hc hp]
    exact ⟨by simp, rfl, hq⟩
  · refine next_of_act (exec_edgeDieMinimalTimeout ..) ?_
    obtain ⟨hmode, hmin⟩ := fxEdgeDieMinimalTimeout_alone hr ho hf hm hq
    exact ⟨hmin, hmode.trans hs⟩
  · refine next_of_act (exec_feedLinkHold ..) fun f => ?_
    exact ⟨fxFeedLinkHold_marks f s.dev, fxFeedLinkHold_keeps f s.dev⟩
  · exact next_of_act (exec_clockCheckFail ..) (fxClockCheckFail_latches hq hk)
  · refine next_of_act (exec_clockCheckFail ..) ?_
    obtain ⟨hup, hstop⟩ := fxClockCheckFail_edge hc hl
    refine ⟨hup, fun p hp => ?_⟩
    obtain ⟨hguard, hswitching⟩ := hstop p hp
    refine ⟨fun hclosed => ?_, hswitching⟩
    rw [guardOn, show ((fxClockCheckFail (.edge e) s.dev).guards[p.val]).state = .closed from hclosed] at hguard
    simp at hguard
  · refine next_of_act (exec_tbSyncFrame ..) ?_
    simp [fxTbSyncFrame, show s.dev.sys.edgeUp[l.val] = true from hu]

end Sys2Proof.Machine
end

section
/-! SUPPORT. Messages on the wire (04 R138 to R146, R166, 06 R240), and the statement about them. -/

namespace Sys2Proof.Machine

theorem exec_pdMessageReceived (p : Fin 32) (msg : PdMsg) (s : State) : exec (.pdMessageReceived p msg) s = act (fxPdMessageReceived p msg) s := by rfl
theorem exec_pdGoodcrcReceived (p : Fin 32) (s : State) : exec (.pdGoodcrcReceived p) s = act (fxPdGoodcrcReceived p) s := by rfl
theorem exec_tcrcreceiveExpiry (p : Fin 32) (s : State) : exec (.tcrcreceiveExpiry p) s = act (fxTcrcreceiveExpiry p) s := by rfl

/-- Nothing changed but the protocol engine of port p, the channels and the timers. -/
def WireOnly (p : Fin 32) (a b : Dev) : Prop := SameBut [.pd, .chans, .timers] a b ∧ OnlyPort p a b

theorem WireOnly.trans {p : Fin 32} {a b c : Dev} (h : WireOnly p a b) (k : WireOnly p b c) : WireOnly p a c :=
  ⟨h.1.trans k.1, h.2.trans k.2⟩

theorem WireOnly.settled {p : Fin 32} {a b : Dev} (h : WireOnly p a b) (a' : Dev) : WireOnly p a (settle a' b) := ⟨h.1.settled a', h.2⟩

theorem wireOnly_onPd (p : Fin 32) (f : PortPd → PortPd) (d : Dev) : WireOnly p d (onPd p f d) :=
  ⟨sameBut_iff.mpr (by simp), fun q hq => by simp [upd_other d.pd f hq]⟩

theorem wireOnly_startTimer (p : Fin 32) (ev : Instr) (n : Nat) (d : Dev) : WireOnly p d (startTimer ev n d) :=
  ⟨sameBut_iff.mpr (by simp), fun q _ => by simp⟩

theorem wireOnly_stopTimer (p : Fin 32) (ev : Instr) (d : Dev) : WireOnly p d (stopTimer ev d) :=
  ⟨sameBut_iff.mpr (by simp), fun q _ => by simp⟩

theorem wireOnly_holdComm (p : Fin 32) (d : Dev) : WireOnly p d (holdComm p d) :=
  ⟨sameBut_iff.mpr (by simp), fun q _ => by simp⟩

theorem wireOnly_heard (p : Fin 32) (d : Dev) : WireOnly p d (heard p d) :=
  ⟨sameBut_iff.mpr (by simp), fun q hq => by simp [heard_other p d hq]⟩

theorem wireOnly_portEvent (p : Fin 32) (i : Nat) (d : Dev) : WireOnly p d (portEvent p i d) := wireOnly_onPd ..

theorem wireOnly_pdPop (p : Fin 32) (d : Dev) : WireOnly p d (pdPop p d) := by
  have h := (wireOnly_onPd p (fun x => { x with txQueue := x.txQueue.drop 1 }) d).trans (wireOnly_stopTimer p (.tcrcreceiveExpiry p) _)
  unfold pdPop
  dsimp only
  split
  · exact h
  · exact h.trans (wireOnly_startTimer ..)

theorem sameBut_onPort (p : Fin 32) (f : Port → Port) (d : Dev) : SameBut [.ports, .pd, .chans, .timers] d (onPort p f d) := sameBut_iff.mpr (by simp)

theorem onlyPort_onPort (p : Fin 32) (f : Port → Port) (d : Dev) : OnlyPort p d (onPort p f d) := fun q hq => by simp [upd_other d.ports f hq]

/-- The head of the transmit queue leaves it. -/
@[simp] theorem pdPop_pd (p : Fin 32) (d : Dev) : (pdPop p d).pd = upd d.pd p (fun x => { x with txQueue := x.txQueue.drop 1 }) := by
  unfold pdPop
  dsimp only
  split <;> rfl

@[simp] theorem pdPop_tmr (p : Fin 32) (d : Dev) : (pdPop p d).tmr = d.tmr := by
  unfold pdPop
  dsimp only
  split <;> rfl

@[simp] theorem heard_pd (p : Fin 32) (d : Dev) : (heard p d).pd = upd d.pd p (fun x => { x with rxTb := d.tmr.tb }) := by
  unfold heard onlyIf
  split <;> rfl

/-! A message that is received (04 R138 to R146). -/

theorem fxPdMessageReceived_live {p : Fin 32} {d : Dev} (msg : PdMsg) (hr : d.sys.retraining[(linkOf (edgeOf p)).val] = false) (hl : pdLive d p = true) :
    fxPdMessageReceived p msg d = takeMessage p msg (holdComm p d) :=
  if_pos (by simp [hl, hr])

/-- A new message joins the queue, and the first one fixes the revision (04 R138, R146). -/
theorem takeMessage_joins {p : Fin 32} {msg : PdMsg} {d : Dev} (hs : msg.sop = 0) (hk : msg.kind ≠ .bistOther) (hb : (d.pd[p.val]).bistData = false)
    (hq : (d.pd[p.val]).rxQueue.length < 4) (hi : (d.pd[p.val]).rxId ≠ some msg.msgId) :
    takeMessage p msg d = onPort p (fun q => { q with rev := if q.rev = 0 then (if msg.rev20 then 1 else 2) else q.rev })
      (onPd p (fun x => { x with rxId := some msg.msgId, rxQueue := x.rxQueue ++ [msg] }) (heard p d)) := by
  simp [takeMessage, hs, hk, hb, Nat.not_le.mpr hq, hi]

/-- A message that finds the queue full is dropped, but for a BIST message (04 R140, R143). -/
theorem takeMessage_full {p : Fin 32} {msg : PdMsg} {d : Dev} (hs : msg.sop = 0) (hb : (d.pd[p.val]).bistData = false)
    (hq : 4 ≤ (d.pd[p.val]).rxQueue.length) : takeMessage p msg d = if msg.kind == .bistOther then heard p d else portEvent p 19 d := by
  simp [takeMessage, hs, hb, hq]

/-- A repeat of a MessageID is heard, and dropped. -/
theorem takeMessage_repeat {p : Fin 32} {msg : PdMsg} {d : Dev} (hs : msg.sop = 0) (hq : (d.pd[p.val]).rxQueue.length < 4)
    (hi : (d.pd[p.val]).rxId = some msg.msgId) (hk : msg.kind ≠ .softReset) : takeMessage p msg d = heard p d := by
  simp [takeMessage, hs, Nat.not_le.mpr hq, hi, hk]

/-! A message that is acknowledged, or not (04 R139, R142, R166). -/

/-- The port's engine after the head of its transmit queue was acknowledged (04 R139). -/
def acknowledged (p : Fin 32) (d : Dev) : Dev := onPd p (fun x => { x with txId := x.txId + 1 }) (pdPop p (holdComm p d))

theorem wireOnly_acknowledged (p : Fin 32) (d : Dev) : WireOnly p d (acknowledged p d) :=
  ((wireOnly_holdComm p d).trans (wireOnly_pdPop ..)).trans (wireOnly_onPd ..)

@[simp] theorem acknowledged_pd (p : Fin 32) (d : Dev) :
    (acknowledged p d).pd[p.val] = { d.pd[p.val] with txQueue := (d.pd[p.val]).txQueue.drop 1, txId := (d.pd[p.val]).txId + 1 } := by
  simp [acknowledged]

@[simp] theorem acknowledged_tmr (p : Fin 32) (d : Dev) : (acknowledged p d).tmr = d.tmr := by simp [acknowledged]

section
variable {p : Fin 32} {t : PdTx} {rest : List PdTx} {d : Dev} (hr : d.sys.retraining[(linkOf (edgeOf p)).val] = false)
  (hq : (d.pd[p.val]).txQueue = t :: rest)
include hr hq

/-- A whole message on SOP that is acknowledged leaves the queue, and what it calls for follows (04 R139, R166). -/
theorem fxPdGoodcrcReceived_whole (hs : t.sop = 0) (hm : moreChunks t = false) : fxPdGoodcrcReceived p d = messageSent p t (acknowledged p d) := by
  simp [fxPdGoodcrcReceived, hr, hq, hs, hm, acknowledged]

/-- A chunk that is acknowledged waits for the request of the next (04 R142). -/
theorem fxPdGoodcrcReceived_chunk (hs : t.sop = 0) (hm : moreChunks t = true) : fxPdGoodcrcReceived p d =
    startTimer (.tchunksenderrequestExpiry p) (ticksOfMs 27) (onPd p (fun x => { x with chunks := some t }) (acknowledged p d)) := by
  simp [fxPdGoodcrcReceived, hr, hq, hs, hm, acknowledged]

/-- An unacknowledged message goes out again, at most twice (04 R139). -/
theorem fxTcrcreceiveExpiry_again (ht : t.tries < 2) : fxTcrcreceiveExpiry p d =
    startTimer (.tcrcreceiveExpiry p) (ticksOfMs 1) (onPd p (fun x => { x with txQueue := { t with tries := t.tries + 1 } :: rest }) (holdComm p d)) := by
  simp [fxTcrcreceiveExpiry, hr, hq, ht]

/-- A message to a cable that stays unacknowledged is given up (04 R139, R141). -/
theorem fxTcrcreceiveExpiry_cable (ht : 2 ≤ t.tries) (hs : t.sop ≠ 0) : fxTcrcreceiveExpiry p d =
    discoverEnd p (pdPop p (onPd p (fun x => { x with retries := inc8 x.retries }) (holdComm p d))) := by
  simp [fxTcrcreceiveExpiry, hr, hq, Nat.not_lt.mpr ht, hs]
end

theorem moreChunks_of_short {t : PdTx} (h : isExtended t.kind = false) : moreChunks t = false := by simp [moreChunks, h]

/-- Under a transition the acknowledged Accept starts tSrcTransition (04 R166). -/
theorem messageSent_accept {p : Fin 32} {t : PdTx} {d : Dev} (hk : t.kind = .accept) (ha : (d.pd[p.val]).ams = .transition) :
    messageSent p t d = startTimer (.tsrctransitionExpiry p) (ticksOfMs 28) d := by
  simp [messageSent, hk, acceptSent, ha]

/-- The acknowledged Request awaits its response (04 R166). -/
theorem messageSent_request {p : Fin 32} {t : PdTx} {d : Dev} (hk : t.kind = .request) :
    messageSent p t d = startTimer (.tsenderresponseExpiry p) (ticksOfMs 30) d := by
  simp [messageSent, hk]

/-- What an acknowledged message leaves that only starts a timer (04 R139, R166). -/
theorem acknowledged_timed {p : Fin 32} {t : PdTx} {rest : List PdTx} {d : Dev} (hq : (d.pd[p.val]).txQueue = t :: rest) (ev : Instr) (n : Nat) :
    ((startTimer ev n (acknowledged p d)).pd[p.val]).txQueue = rest ∧ ((startTimer ev n (acknowledged p d)).pd[p.val]).txId = (d.pd[p.val]).txId + 1 ∧
    (d.tmr.tb + n, ev) ∈ (startTimer ev n (acknowledged p d)).timers ∧ WireOnly p d (startTimer ev n (acknowledged p d)) :=
  ⟨by simp [hq], by simp, by simp, (wireOnly_acknowledged p d).trans (wireOnly_startTimer ..)⟩

/-- Without SinkTxNG a discovery has nothing to end (04 R141). -/
theorem discoverEnd_idle {p : Fin 32} {d : Dev} (h : (d.pd[p.val]).sinkTxNg = false) : discoverEnd p d = d := if_neg (by simp [h])

/-- Settles O22, by what a received, an acknowledged and an unacknowledged message leave of the protocol engine; the rest is the frame WireOnly. -/
theorem messagesOnTheWire : Obligations.MessagesOnTheWire := by
  unfold Obligations.MessagesOnTheWire
  intro s p hr
  refine ⟨fun msg hl hs hk hb hq hi => ?_, fun msg hl hs hb hq => ?_, fun msg hl hs hq hi hk => ?_, fun t hs hk ha hq => ?_,
    fun t rest hs hk hq => ?_, fun t rest hs hm hq => ?_, fun t rest ht hq => ?_, fun t rest ht hs hn hq => ?_⟩
  · refine next_of_act (exec_pdMessageReceived ..) ?_
    rw [fxPdMessageReceived_live msg hr hl, takeMessage_joins hs hk (by simpa using hb) (by simpa using hq) (by simpa using hi)]
    obtain ⟨hsame, honly⟩ := ((wireOnly_holdComm p s.dev).trans (wireOnly_heard ..)).trans
      (wireOnly_onPd p (fun x => { x with rxId := some msg.msgId, rxQueue := x.rxQueue ++ [msg] }) _)
    exact ⟨by simp, by simp, by simp, ((hsame.mono (by simp)).trans (sameBut_onPort p _ _)).settled _, honly.trans (onlyPort_onPort p _ _)⟩
  · refine next_of_act (exec_pdMessageReceived ..) ?_
    rw [fxPdMessageReceived_live msg hr hl, takeMessage_full hs (by simpa using hb) (by simpa using hq)]
    split
    · exact ⟨by simp, ((wireOnly_holdComm p s.dev).trans (wireOnly_heard ..)).settled _⟩
    · exact ⟨by simp, ((wireOnly_holdComm p s.dev).trans (wireOnly_portEvent ..)).settled _⟩
  · refine next_of_act (exec_pdMessageReceived ..) ?_
    rw [fxPdMessageReceived_live msg hr hl, takeMessage_repeat hs (by simpa using hq) (by simpa using hi) hk]
    exact ⟨by simp, ((wireOnly_holdComm p s.dev).trans (wireOnly_heard ..)).settled _⟩
  · refine next_of_act (exec_pdGoodcrcReceived ..) ?_
    rw [fxPdGoodcrcReceived_whole hr hq hs (moreChunks_of_short (by rw [hk]; rfl)), messageSent_accept hk (by simpa using ha)]
    obtain ⟨hqueue, hid, htimer, hwire⟩ := acknowledged_timed hq (.tsrctransitionExpiry p) (ticksOfMs 28)
    exact ⟨hqueue, hid, htimer, hwire.settled _⟩
  · refine next_of_act (exec_pdGoodcrcReceived ..) ?_
    rw [fxPdGoodcrcReceived_whole hr hq hs (moreChunks_of_short (by rw [hk]; rfl)), messageSent_request hk]
    obtain ⟨hqueue, hid, htimer, hwire⟩ := acknowledged_timed hq (.tsenderresponseExpiry p) (ticksOfMs 30)
    exact ⟨hqueue, hid, htimer, hwire.settled _⟩
  · refine next_of_act (exec_pdGoodcrcReceived ..) ?_
    rw [fxPdGoodcrcReceived_chunk hr hq hs hm]
    have hwire := ((wireOnly_acknowledged p s.dev).trans (wireOnly_onPd p (fun x => { x with chunks := some t }) _)).trans
      (wireOnly_startTimer p (.tchunksenderrequestExpiry p) (ticksOfMs 27) _)
    exact ⟨by simp [show (s.dev.pd[p.val]).txQueue = t :: rest from hq], by simp, by simp, hwire.settled _⟩
  · refine next_of_act (exec_tcrcreceiveExpiry ..) ?_
    rw [fxTcrcreceiveExpiry_again hr hq ht]
    have hwire := ((wireOnly_holdComm p s.dev).trans (wireOnly_onPd p (fun x => { x with txQueue := { t with tries := t.tries + 1 } :: rest }) _)).trans
      (wireOnly_startTimer p (.tcrcreceiveExpiry p) (ticksOfMs 1) _)
    exact ⟨by simp, by simp, hwire.settled _⟩
  · refine next_of_act (exec_tcrcreceiveExpiry ..) ?_
    rw [fxTcrcreceiveExpiry_cable hr hq ht hs, discoverEnd_idle (by simpa using hn)]
    have hwire := ((wireOnly_holdComm p s.dev).trans (wireOnly_onPd p (fun x => { x with retries := inc8 x.retries }) _)).trans (wireOnly_pdPop ..)
    exact ⟨by simp [show (s.dev.pd[p.val]).txQueue = t :: rest from hq], by simp, hwire.settled _⟩

end Sys2Proof.Machine
end

section
/-! SUPPORT. A change that stays inside one port, and how such changes compose. -/

namespace Sys2Proof.Machine

/-- Nothing changed but the parts of a list, and of the ports only port p. -/
def Within (l : List Part) (p : Fin 32) (a b : Dev) : Prop := SameBut l a b ∧ OnlyPort p a b

theorem Within.trans {l : List Part} {p : Fin 32} {a b c : Dev} (h : Within l p a b) (k : Within l p b c) : Within l p a c :=
  ⟨h.1.trans k.1, h.2.trans k.2⟩

theorem Within.mono {l m : List Part} {p : Fin 32} {a b : Dev} (h : Within l p a b) (hl : l ⊆ m) : Within m p a b := ⟨h.1.mono hl, h.2⟩

theorem Within.settled {l : List Part} {p : Fin 32} {a b : Dev} (h : Within l p a b) (a' : Dev) : Within l p a (settle a' b) := ⟨h.1.settled a', h.2⟩

section
variable (p : Fin 32) (d : Dev)

theorem within_startTimer (ev : Instr) (n : Nat) : Within [.timers] p d (startTimer ev n d) := ⟨sameBut_iff.mpr (by simp), fun q _ => by simp⟩
theorem within_stopTimer (ev : Instr) : Within [.timers] p d (stopTimer ev d) := ⟨sameBut_iff.mpr (by simp), fun q _ => by simp⟩
theorem within_stopTimers (l : List Instr) : Within [.timers] p d (stopTimers l d) := ⟨sameBut_iff.mpr (by simp), fun q _ => by simp⟩
theorem within_onPd (f : PortPd → PortPd) : Within [.pd] p d (onPd p f d) := ⟨sameBut_iff.mpr (by simp), fun q hq => by simp [upd_other d.pd f hq]⟩
theorem within_onPort (f : Port → Port) : Within [.ports] p d (onPort p f d) := ⟨sameBut_iff.mpr (by simp), fun q hq => by simp [upd_other d.ports f hq]⟩
theorem within_portEvent (i : Nat) : Within [.pd] p d (portEvent p i d) := within_onPd ..
theorem within_pdSend (sop : Fin 3) (k : PdKind) (w : List Word) : Within [.pd, .timers] p d (pdSend p sop k w d) :=
  ⟨sameBut_iff.mpr (by simp), fun q hq => by simp [hq]⟩
theorem within_takeMsg (k : PdKind) : Within [.pd, .timers] p d (takeMsg p k d) := ⟨sameBut_iff.mpr (by simp), fun q hq => by simp [hq]⟩
theorem within_present (rp : RpLevel) (rd : Bool) : Within [.ports, .guards, .chans, .timers] p d (present p rp rd d) :=
  ⟨sameBut_iff.mpr (by simp), fun q hq => by simp [hq]⟩
theorem within_vconnOff : Within [.ports, .timers] p d (vconnOff p d) :=
  ((within_onPort ..).mono (by simp)).trans ((within_stopTimers ..).mono (by simp))
theorem within_firstOffer : Within [.ports, .pd, .timers] p d (firstOffer p d) := ⟨sameBut_iff.mpr (by simp), fun q hq => by simp [hq]⟩
theorem within_discover : Within [.pd, .timers] p d (discover p d) := ((within_onPd ..).mono (by simp)).trans (within_pdSend ..)
theorem within_setTc (t : TcState) : Within [.ports] p d (setTc p t d) := within_onPort ..
theorem within_journalContract : Within [.jrn, .timers, .host, .ringMem] p d (journalContract p d) :=
  ⟨sameBut_iff.mpr (by simp), fun q _ => by simp⟩
theorem within_softStart (slew : Nat) : Within [.pd, .loops, .phases] p d (softStart p slew d) :=
  ⟨sameBut_iff.mpr (by simp), fun q hq => by simp [hq]⟩
end

end Sys2Proof.Machine
end

section
/-! SUPPORT. The debounces and the toggle of a port (03 R101, R105, R107 to R112, R153), and the statement about them. -/

namespace Sys2Proof.Machine

theorem exec_tccdebounceExpiry (p : Fin 32) (s : State) : exec (.tccdebounceExpiry p) s = act (fxTccdebounceExpiry p) s := by rfl
theorem exec_tpddebounceExpiry (p : Fin 32) (s : State) : exec (.tpddebounceExpiry p) s = act (fxTpddebounceExpiry p) s := by rfl
theorem exec_tdrpExpiry (p : Fin 32) (s : State) : exec (.tdrpExpiry p) s = act (fxTdrpExpiry p) s := by rfl
theorem exec_tdrptryExpiry (p : Fin 32) (s : State) : exec (.tdrptryExpiry p) s = act (fxTdrptryExpiry p) s := by rfl
theorem exec_ttryccdebounceExpiry (p : Fin 32) (s : State) : exec (.ttryccdebounceExpiry p) s = act (fxTtryccdebounceExpiry p) s := by rfl
theorem exec_tdrptrywaitExpiry (p : Fin 32) (s : State) : exec (.tdrptrywaitExpiry p) s = act (fxTdrptrywaitExpiry p) s := by rfl
theorem exec_terrorrecoveryExpiry (p : Fin 32) (s : State) : exec (.terrorrecoveryExpiry p) s = act (fxTerrorrecoveryExpiry p) s := by rfl

theorem rpOf_ne_none (d : Dev) (p : Fin 32) : rpOf d p ≠ .none := by
  unfold rpOf
  split <;> simp

/-! ### Entry into the unattached states (03 R107, R108) -/

/-- A port of which only the Type-C state and the termination are new, its Type-C timers stopped. -/
def tcEntry (p : Fin 32) (t : TcState) (rp : RpLevel) (rd toggle : Bool) (d : Dev) : Dev :=
  onlyIf toggle (startTimer (.tdrpExpiry p) 1875000) (present p rp rd (setTc p t (stopTimers (tcTimers p) d)))

section
variable (p : Fin 32) (t : TcState) (rp : RpLevel) (rd toggle : Bool) (d : Dev)

theorem toUnattachedSnk_eq : toUnattachedSnk p d = ccSee p (tcEntry p .unattachedSnk .none true (isDrp d p && anyPg d) d) := rfl

theorem tcEntry_port : ((tcEntry p t rp rd toggle d).ports[p.val]).tc = t ∧ ((tcEntry p t rp rd toggle d).ports[p.val]).rp = rp ∧
    ((tcEntry p t rp rd toggle d).ports[p.val]).rd = rd := by
  unfold tcEntry onlyIf
  split <;> simp

theorem within_tcEntry : Within [.ports, .guards, .chans, .timers] p d (tcEntry p t rp rd toggle d) := by
  have h : Within [.ports, .guards, .chans, .timers] p d (present p rp rd (setTc p t (stopTimers (tcTimers p) d))) :=
    ((within_stopTimers ..).mono (by simp)).trans (((within_setTc ..).mono (by simp)).trans (within_present ..))
  unfold tcEntry onlyIf
  split
  · exact h.trans ((within_startTimer ..).mono (by simp))
  · exact h

theorem tcEntry_pinRp (pin : Bool) : pinRp (tcEntry p t rp rd toggle d) p pin = pinRp d p pin := by
  unfold tcEntry onlyIf pinRp ccZone
  split <;> simp
end

section
variable {p : Fin 32} {d : Dev}

/-- A port whose termination changes waits for the end of the hold (03 R101). -/
theorem ccSee_tcEntry_held {t : TcState} {rp : RpLevel} {rd toggle : Bool} (he : (d.chans[(cc1 p).val]).enabled = true)
    (hc : (d.ports[p.val]).rp ≠ rp ∨ (d.ports[p.val]).rd ≠ rd) : ccSee p (tcEntry p t rp rd toggle d) = tcEntry p t rp rd toggle d := by
  have hheld : ccHeld (present p rp rd (setTc p t (stopTimers (tcTimers p) d))) p = true :=
    present_held (by simpa using he) (by rcases hc with h | h <;> simp [setTc, h])
  refine ccSee_held ?_
  unfold tcEntry onlyIf
  split
  · simpa [ccHeld] using hheld
  · exact hheld

/-- An unattached sink that reads no Rp stays (03 R107). -/
theorem ccSee_tcEntry_blind {toggle : Bool} (hcc1 : pinRp d p false = false) (hcc2 : pinRp d p true = false) :
    ccSee p (tcEntry p .unattachedSnk .none true toggle d) = tcEntry p .unattachedSnk .none true toggle d :=
  ccSee_snk (tcEntry_port ..).1 ((tcEntry_pinRp ..).trans hcc1) ((tcEntry_pinRp ..).trans hcc2)

/-- A port that may source, with a live phase and as DRP with power-good, goes to Unattached.SRC (03 R107, R112). -/
theorem toUnattached_entry (hs : canSource d p = true) (hl : livePhases d p ≠ []) (hg : isDrp d p = true → anyPg d = true) :
    toUnattached p d = ccSee p (tcEntry p .unattachedSrc (rpOf d p) false (isDrp d p) d) := by
  cases hdrp : isDrp d p
  · exact toUnattached_source hs hdrp hl
  · have hroles : rolesOf d p ≠ 1 := by simpa [canSource] using hs
    unfold toUnattached
    simp only [hdrp, hg hdrp]
    simp [hl, hroles] <;> rfl

/-- A DRP port may source (03 R98). -/
theorem canSource_drp (h : isDrp d p = true) : canSource d p = true := by
  have hroles : rolesOf d p = 2 := by simpa [isDrp] using h
  simp [canSource, hroles]
end

/-! ### The toggle, and the conditions that are gone (03 R107 to R109) -/

section
variable {p : Fin 32} {d : Dev}

/-- A port whose course ended in an entry: its state, its termination, and its frame. -/
structure Entered (p : Fin 32) (t : TcState) (rp : RpLevel) (rd : Bool) (a b : Dev) : Prop where
  tc : (b.ports[p.val]).tc = t
  rp : (b.ports[p.val]).rp = rp
  rd : (b.ports[p.val]).rd = rd
  within : Within [.ports, .guards, .chans, .timers] p a b

theorem entered_after_stopTimer (ev : Instr) (t : TcState) (rp : RpLevel) (rd toggle : Bool) : Entered p t rp rd d (tcEntry p t rp rd toggle (stopTimer ev d)) :=
  have ⟨htc, hrp, hrd⟩ := tcEntry_port p t rp rd toggle (stopTimer ev d)
  ⟨htc, hrp, hrd, ((within_stopTimer ..).mono (by simp)).trans (within_tcEntry ..)⟩

/-- A port whose pins read no Rp is an unattached sink at once (03 R107). -/
theorem toUnattachedSnk_blind (ev : Instr) (hcc1 : pinRp d p false = false) (hcc2 : pinRp d p true = false) :
    Entered p .unattachedSnk .none true d (toUnattachedSnk p (stopTimer ev d)) := by
  rw [toUnattachedSnk_eq, ccSee_tcEntry_blind (d := stopTimer ev d) hcc1 hcc2]
  exact entered_after_stopTimer ..

/-- A port that presented no Rd is an unattached sink that waits for the hold (03 R101, R107). -/
theorem toUnattachedSnk_held (ev : Instr) (he : (d.chans[(cc1 p).val]).enabled = true) (hr : (d.ports[p.val]).rd = false) :
    Entered p .unattachedSnk .none true d (toUnattachedSnk p (stopTimer ev d)) := by
  rw [toUnattachedSnk_eq, ccSee_tcEntry_held (d := stopTimer ev d) he (.inr (by simp [hr]))]
  exact entered_after_stopTimer ..

/-- A port that did not present its Rp is an unattached source that waits for the hold (03 R101, R107). -/
theorem toUnattached_held (ev : Instr) (hs : canSource d p = true) (hl : livePhases d p ≠ []) (hg : isDrp d p = true → anyPg d = true)
    (he : (d.chans[(cc1 p).val]).enabled = true) (hc : (d.ports[p.val]).rp ≠ rpOf d p ∨ (d.ports[p.val]).rd ≠ false) :
    Entered p .unattachedSrc (rpOf d p) false d (toUnattached p (stopTimer ev d)) := by
  rw [toUnattached_entry (d := stopTimer ev d) hs hl hg, ccSee_tcEntry_held (d := stopTimer ev d) (rp := rpOf (stopTimer ev d) p) he hc]
  exact entered_after_stopTimer ..

theorem fxTpddebounceExpiry_sink (ht : (d.ports[p.val]).tc = .attachWaitSnk) (hdrp : isDrp d p = false) :
    fxTpddebounceExpiry p d = toUnattachedSnk p (stopTimer (.tpddebounceExpiry p) d) := by simp [fxTpddebounceExpiry, ht, hdrp]

theorem fxTdrpExpiry_source (ht : (d.ports[p.val]).tc = .unattachedSrc) (hdrp : isDrp d p = true) :
    fxTdrpExpiry p d = toUnattachedSnk p (stopTimer (.tdrpExpiry p) d) := by simp [fxTdrpExpiry, ht, hdrp]

theorem fxTdrpExpiry_sink (ht : (d.ports[p.val]).tc = .unattachedSnk) (hdrp : isDrp d p = true) :
    fxTdrpExpiry p d = toUnattached p (stopTimer (.tdrpExpiry p) d) := by simp [fxTdrpExpiry, ht, hdrp]

theorem fxTdrptrywaitExpiry_sink (ht : (d.ports[p.val]).tc = .tryWaitSnk) (hv : vbusHigh4 d p = false) :
    fxTdrptrywaitExpiry p d = toUnattachedSnk p (stopTimer (.tdrptrywaitExpiry p) d) := by simp [fxTdrptrywaitExpiry, ht, hv]

theorem fxTerrorrecoveryExpiry_source (ht : (d.ports[p.val]).tc = .errorRecovery) (hd : dieTripped d (edgeOf p) = false) :
    fxTerrorrecoveryExpiry p d = toUnattached p (stopTimer (.terrorrecoveryExpiry p) d) := by simp [fxTerrorrecoveryExpiry, ht, hd]
end

/-! ### Attaching (03 R107, R109 to R112) -/

section
variable {p : Fin 32} {d : Dev}

/-- What an attach as source may change, once the timer that called for it stopped. -/
theorem sameBut_attach_settled (a' : Dev) (ev : Instr) :
    SameBut [.ports, .pd, .loops, .phases, .guards, .chans, .loss, .ledger, .jrn, .timers, .host, .ringMem] d (settle a' (attachSource p (stopTimer ev d))) :=
  SameBut.settled (sameBut_iff.mpr (by simp)) a'

theorem HandsOnly.settled {a b : Dev} (h : HandsOnly p a b) (a' : Dev) : HandsOnly p a (settle a' b) := h

/-- Beside port p an attach as source touches the hands (04 R153). -/
theorem attachSource_hands (ev : Instr) : HandsOnly p d (attachSource p (stopTimer ev d)) :=
  HandsOnly.trans (HandsOnly.of_only fun q _ => by simp) (attachSource_others p (stopTimer ev d))

/-- The port that attached as source, once the timer that called for it stopped (03 R109, R110, 04 R162). -/
structure SourceAttached (p : Fin 32) (a b : Dev) : Prop where
  tc : (b.ports[p.val]).tc = .attachedSrc
  orient : (b.ports[p.val]).orient = pinRd a p true
  source : (b.ports[p.val]).source = true
  dfp : (b.ports[p.val]).dfp = true
  fence : (b.ports[p.val]).fence = fenceOf 5000
  hand : ∃ h, 25 ≤ h ∧ h ≤ (b.ports[p.val]).hand ∧ b.ledger.kittyHeld = a.ledger.kittyHeld - h
  hands : HandsOnly p a b

theorem SourceAttached.settled {a b : Dev} (h : SourceAttached p a b) (a' : Dev) : SourceAttached p a (settle a' b) :=
  { tc := h.tc, orient := h.orient, source := h.source, dfp := h.dfp, fence := h.fence, hand := h.hand, hands := h.hands }

theorem attachSource_attached (ev : Instr) (hl : lostPort d p = false) : SourceAttached p d (attachSource p (stopTimer ev d)) := by
  have hlost : lostPort (stopTimer ev d) p = false := hl
  obtain ⟨htc, horient, hsource, hdfp, hfence, -⟩ := attachSource_port hlost
  exact ⟨htc, by simpa using horient, hsource, hdfp, hfence, by simpa using attachSource_hand hlost, attachSource_hands ev⟩

/-- With power-good its phases switch (05 R207). -/
theorem attachSource_switches (a' : Dev) (ev : Instr) (hpg : portPg d p = true) (hl : lostPort d p = false) :
    ((settle a' (attachSource p (stopTimer ev d))).loops[p.val]).switching = true := by
  simp only [settle]
  exact (attachSource_loop (d := stopTimer ev d) hpg hl).1

/-- An attach that is not held back has power-good and its link, and waits for no census (05 R194, 07 R280). -/
theorem attachHeld_free (h : attachHeld d p = false) : portPg d p = true ∧ lostPort d p = false ∧ (d.pd[p.val]).attachCensus = false := by
  simp only [attachHeld, Bool.or_eq_false_iff, Bool.not_eq_false'] at h
  obtain ⟨⟨⟨⟨⟨⟨hpg, -⟩, -⟩, -⟩, hcensus⟩, hlost⟩, -⟩ := h
  exact ⟨hpg, hlost, hcensus⟩

theorem fxTccdebounceExpiry_source (ht : (d.ports[p.val]).tc = .attachWaitSrc) (hd : (d.pd[p.val]).deb = true) (hh : attachHeld d p = false)
    (hv : vbusLow d p = true) (hr : rdOne d p = true) : fxTccdebounceExpiry p d = attachSource p (stopTimer (.tccdebounceExpiry p) d) := by
  simp [fxTccdebounceExpiry, tryAttach, ht, hd, hh, hv, hr, (attachHeld_free hh).2.2]

section
variable (ht : (d.ports[p.val]).tc = .attachWaitSnk) (hd : (d.pd[p.val]).deb = true) (hr : rpOne d p = true)
include ht hd hr

theorem fxTccdebounceExpiry_sink (hs : trySrcOn d p = false) (hv : vbusHigh4 d p = true) :
    fxTccdebounceExpiry p d = attachSink p (stopTimer (.tccdebounceExpiry p) d) := by
  simp [fxTccdebounceExpiry, tryAttach, ht, hd, hr, hs, hv]

theorem fxTccdebounceExpiry_try (hs : trySrcOn d p = true) : fxTccdebounceExpiry p d = enterTrySrc p (stopTimer (.tccdebounceExpiry p) d) := by
  simp [fxTccdebounceExpiry, tryAttach, ht, hd, hr, hs]
end

theorem fxTtryccdebounceExpiry_source (ht : (d.ports[p.val]).tc = .trySrc) (hr : rdOne d p = true) :
    fxTtryccdebounceExpiry p d = attachSource p (stopTimer (.ttryccdebounceExpiry p) d) := by
  simp [fxTtryccdebounceExpiry, ht, hr]

/-- What an attach as sink leaves (03 R107, R109). -/
theorem attachSink_port (p : Fin 32) (d : Dev) : ((attachSink p d).ports[p.val]).tc = .attachedSnk ∧ ((attachSink p d).ports[p.val]).orient = pinRp d p true ∧
    ((attachSink p d).ports[p.val]).source = false ∧ ((attachSink p d).ports[p.val]).dfp = false ∧ ((attachSink p d).ports[p.val]).rd = true := by
  simp [attachSink, noCable, resetFence, presentRd]

theorem within_attachSink (p : Fin 32) (d : Dev) : Within [.ports, .pd, .guards, .chans, .jrn, .timers, .host, .ringMem] p d (attachSink p d) := by
  have hport : Within [.ports, .guards, .chans, .timers] p d
      (onPort p (fun q => { q with tc := .attachedSnk, orient := pinRp d p true, source := false, dfp := false })
        (presentRd p (stopTimers (tcTimers p) d))) :=
    ((within_stopTimers ..).mono (by simp)).trans ((within_present ..).trans ((within_onPort ..).mono (by simp)))
  exact (hport.mono (by simp)).trans ((((within_onPort ..).trans (within_onPort ..)).mono (by simp)).trans
    (((within_portEvent ..).mono (by simp)).trans ((within_journalContract ..).mono (by simp))))
end

/-! ### Try.SRC and TryWait.SNK (03 R107, R111) -/

/-- A port that tries the other role: its state, its termination, and the timer that ends the try; no condition is debounced yet. -/
def tcTry (p : Fin 32) (t : TcState) (rp : RpLevel) (rd : Bool) (ev : Instr) (n : Nat) (d : Dev) : Dev :=
  startTimer ev n (present p rp rd (onPd p (fun x => { x with deb := false }) (setTc p t (stopTimers (tcTimers p) d))))

theorem enterTrySrc_eq (p : Fin 32) (d : Dev) : enterTrySrc p d = tcTry p .trySrc (rpOf d p) false (.tdrptryExpiry p) (ticksOfMs 110) d := rfl

theorem fxTdrptryExpiry_try {p : Fin 32} {d : Dev} (ht : (d.ports[p.val]).tc = .trySrc) :
    fxTdrptryExpiry p d = tcTry p .tryWaitSnk .none true (.tdrptrywaitExpiry p) (ticksOfMs 600) (stopTimer (.tdrptryExpiry p) d) := by
  simp [fxTdrptryExpiry, ht, tcTry, presentRd]

section
variable (p : Fin 32) (t : TcState) (rp : RpLevel) (rd : Bool) (ev : Instr) (n : Nat) (d : Dev)

theorem tcTry_port : ((tcTry p t rp rd ev n d).ports[p.val]).tc = t ∧ ((tcTry p t rp rd ev n d).ports[p.val]).rd = rd ∧
    ((tcTry p t rp rd ev n d).ports[p.val]).rp = rp ∧ (d.tmr.tb + n, ev) ∈ (tcTry p t rp rd ev n d).timers := by
  refine ⟨?_, ?_, ?_, ?_⟩ <;> simp [tcTry, startTimer]

theorem within_tcTry : Within [.ports, .pd, .guards, .chans, .timers] p d (tcTry p t rp rd ev n d) :=
  (((within_stopTimers ..).mono (by simp)).trans (((within_setTc ..).mono (by simp)).trans ((within_onPd ..).mono (by simp)))).trans
    (((within_present ..).mono (by simp)).trans ((within_startTimer ..).mono (by simp)))

theorem within_tcTry_after (ev' : Instr) : Within [.ports, .pd, .guards, .chans, .timers] p d (tcTry p t rp rd ev n (stopTimer ev' d)) :=
  ((within_stopTimer ..).mono (by simp)).trans (within_tcTry ..)
end

/-- Settles O14: the attaches by what attachSource and attachSink leave, the tries by tcTry, the other ways by the entry into the next state, which
waits for the hold where the termination changes, and elsewhere finds no Rp on its pins. -/
theorem typeCTimersMoveThePort : Obligations.TypeCTimersMoveThePort := by
  unfold Obligations.TypeCTimersMoveThePort
  intro s p
  refine ⟨fun ht hd hh hv hr => ?_, fun ht hd hr hs hv => ?_, fun ht hd hr hs => ?_, fun ht hdrp hcc1 hcc2 => ?_, fun ht hdrp hr he => ?_,
    fun ht hdrp hg hl hr he => ?_, fun ht => ?_, fun ht hr hl => ?_, fun ht hv hcc1 hcc2 => ?_, fun ht hd hs hdrp hl hr he => ?_⟩
  · refine next_of_act (exec_tccdebounceExpiry ..) ?_
    rw [fxTccdebounceExpiry_source ht hd hh hv hr]
    obtain ⟨hpg, hlost, -⟩ := attachHeld_free hh
    have h := (attachSource_attached (.tccdebounceExpiry p) hlost).settled s.dev
    exact ⟨h.tc, h.orient, h.source, h.dfp, h.fence, attachSource_switches _ _ hpg hlost, h.hand, sameBut_attach_settled _ _, h.hands⟩
  · refine next_of_act (exec_tccdebounceExpiry ..) ?_
    rw [fxTccdebounceExpiry_sink ht hd hr hs hv]
    obtain ⟨htc, horient, hsource, hdfp, hrd⟩ := attachSink_port p (stopTimer (.tccdebounceExpiry p) s.dev)
    have hwithin := (((within_stopTimer ..).mono (by simp)).trans (within_attachSink p (stopTimer (.tccdebounceExpiry p) s.dev))).settled s.dev
    exact ⟨htc, horient, hsource, hdfp, hrd, hwithin⟩
  · refine next_of_act (exec_tccdebounceExpiry ..) ?_
    rw [fxTccdebounceExpiry_try ht hd hr hs, enterTrySrc_eq]
    obtain ⟨htc, hrd, hrp, htimer⟩ := tcTry_port p .trySrc (rpOf s.dev p) false (.tdrptryExpiry p) (ticksOfMs 110) (stopTimer (.tccdebounceExpiry p) s.dev)
    exact ⟨htc, hrd, hrp, htimer, (within_tcTry_after ..).settled s.dev⟩
  · refine next_of_act (exec_tpddebounceExpiry ..) ?_
    rw [fxTpddebounceExpiry_sink ht hdrp]
    obtain ⟨htc, hrp, hrd, hwithin⟩ := toUnattachedSnk_blind (.tpddebounceExpiry p) hcc1 hcc2
    exact ⟨htc, hrd, hrp, hwithin.settled s.dev⟩
  · refine next_of_act (exec_tdrpExpiry ..) ?_
    rw [fxTdrpExpiry_source ht hdrp]
    obtain ⟨htc, -, hrd, hwithin⟩ := toUnattachedSnk_held (.tdrpExpiry p) he hr
    exact ⟨htc, hrd, hwithin.settled s.dev⟩
  · refine next_of_act (exec_tdrpExpiry ..) ?_
    rw [fxTdrpExpiry_sink ht hdrp]
    obtain ⟨htc, hrp, hrd, hwithin⟩ := toUnattached_held (.tdrpExpiry p) (canSource_drp hdrp) hl (fun _ => hg) he
      (.inr (Bool.ne_false_iff.mpr hr))
    exact ⟨htc, hrd, hrp, hwithin.settled s.dev⟩
  · refine next_of_act (exec_tdrptryExpiry ..) ?_
    rw [fxTdrptryExpiry_try ht]
    obtain ⟨htc, hrd, -, htimer⟩ := tcTry_port p .tryWaitSnk .none true (.tdrptrywaitExpiry p) (ticksOfMs 600) (stopTimer (.tdrptryExpiry p) s.dev)
    exact ⟨htc, hrd, htimer, (within_tcTry_after ..).settled s.dev⟩
  · refine next_of_act (exec_ttryccdebounceExpiry ..) ?_
    rw [fxTtryccdebounceExpiry_source ht hr]
    have h := (attachSource_attached (.ttryccdebounceExpiry p) hl).settled s.dev
    exact ⟨h.tc, h.source, h.orient, h.fence, sameBut_attach_settled _ _, h.hands⟩
  · refine next_of_act (exec_tdrptrywaitExpiry ..) ?_
    rw [fxTdrptrywaitExpiry_sink ht hv]
    obtain ⟨htc, -, hrd, hwithin⟩ := toUnattachedSnk_blind (.tdrptrywaitExpiry p) hcc1 hcc2
    exact ⟨htc, hrd, hwithin.settled s.dev⟩
  · refine next_of_act (exec_terrorrecoveryExpiry ..) ?_
    rw [fxTerrorrecoveryExpiry_source ht hd]
    have hnone : (s.dev.ports[p.val]).rp ≠ rpOf s.dev p := fun h => rpOf_ne_none s.dev p (h.symm.trans hr)
    obtain ⟨htc, hrp, -, hwithin⟩ := toUnattached_held (.terrorrecoveryExpiry p) hs hl (fun h => absurd (hdrp.symm.trans h) (by simp)) he (.inl hnone)
    exact ⟨htc, hrp, hwithin.settled s.dev⟩

end Sys2Proof.Machine
end

section
/-! SUPPORT. VCONN and cable discovery (03 R104, R113 to R120, 04 R141), and the statement about them. -/

namespace Sys2Proof.Machine

theorem exec_ccOvervoltage (p : Fin 32) (pin : Bool) (s : State) : exec (.ccOvervoltage p pin) s = act (fxCcOvervoltage p pin) s := by rfl
theorem exec_vconnOvercurrent (p : Fin 32) (s : State) : exec (.vconnOvercurrent p) s = act (fxVconnOvercurrent p) s := by rfl
theorem exec_vconnReverseBlock (p : Fin 32) (s : State) : exec (.vconnReverseBlock p) s = act (fxVconnReverseBlock p) s := by rfl
theorem exec_tvconnstableExpiry (p : Fin 32) (s : State) : exec (.tvconnstableExpiry p) s = act (fxTvconnstableExpiry p) s := by rfl
theorem exec_discoverIdentityRetry (p : Fin 32) (s : State) : exec (.discoverIdentityRetry p) s = act (fxDiscoverIdentityRetry p) s := by rfl
theorem exec_cableIdentityAnswer (p : Fin 32) (sop2 : Bool) (a : CableAnswer) (s : State) :
    exec (.cableIdentityAnswer p sop2 a) s = act (fxCableIdentityAnswer p sop2 a) s := by rfl

/-! ### CC overvoltage (03 R104) -/

theorem portSrc4_row : ∀ p : Fin 32, (srcRow (portSrc p 4).val).isSome = true := by decide

/-- The pin's termination and the VCONN switch are open (03 R104). -/
def pinCut (p : Fin 32) (pin : Bool) (d : Dev) : Dev := vconnOff p (onPort p (fun q => { q with ccCut := q.ccCut ||| (if pin then 2 else 1) }) d)

theorem fxCcOvervoltage_eq (p : Fin 32) (pin : Bool) (d : Dev) : fxCcOvervoltage p pin d = raise (portSrc p 4) (errorRecovery p 5 (pinCut p pin d)) := rfl

@[simp] theorem pinCut_port (p : Fin 32) (pin : Bool) (d : Dev) :
    (pinCut p pin d).ports[p.val] = { d.ports[p.val] with ccCut := (d.ports[p.val]).ccCut ||| (if pin then 2 else 1), vconnOn := false } := by
  simp [pinCut, vconnOff]

/-- The raise of a fault of the port is quiet still after the port's course. -/
theorem quiet_errorRecovery {n : Fin 768} {p : Fin 32} {d : Dev} (why : Nat) (pin : Bool) (h : Quiet d n) : Quiet (errorRecovery p why (pinCut p pin d)) n :=
  quiet_of h (by simp [pinCut]) (by simp [pinCut])

/-- A quiet raise leaves ports, guards and loops. -/
theorem raise_quiet_power {n : Fin 768} {d : Dev} (h : Quiet d n) : (raise n d).ports = d.ports ∧ (raise n d).guards = d.guards ∧ (raise n d).loops = d.loops := by
  simp [raise_quiet h]

/-- A port without a PORT section has no course (03 R105). -/
theorem errorRecovery_absent {p : Fin 32} {d : Dev} (why : Nat) (h : hasPort d p = false) : errorRecovery p why d = d := by
  simp [errorRecovery, h]

section
variable {p : Fin 32} {pin : Bool} {d : Dev} (hq : Quiet d (portSrc p 4))
include hq

theorem fxCcOvervoltage_opens : ((fxCcOvervoltage p pin d).ports[p.val]).vconnOn = false ∧
    ((fxCcOvervoltage p pin d).sources[(portSrc p 4).val]).latch = true := by
  have hquiet := quiet_errorRecovery (p := p) 5 pin hq
  rw [fxCcOvervoltage_eq, (raise_quiet_power hquiet).1]
  exact ⟨errorRecovery_vconnOn 5 (by simp), raise_latch hquiet (portSrc4_row p)⟩

theorem fxCcOvervoltage_recovers (hp : hasPort d p = true) (hdisabled : (d.ports[p.val]).tc ≠ .disabled) (herror : (d.ports[p.val]).tc ≠ .errorRecovery)
    (hminimal : (d.ports[p.val]).tc ≠ .minimal) (hfree : (d.pd[p.val]).disabling = false) (hlink : lostPort d p = false) :
    ((fxCcOvervoltage p pin d).ports[p.val]).tc = .errorRecovery ∧ ((fxCcOvervoltage p pin d).loops[p.val]).switching = false ∧
    guardOn ((fxCcOvervoltage p pin d).guards[p.val]) = false := by
  obtain ⟨hports, hguards, hloops⟩ := raise_quiet_power (quiet_errorRecovery (p := p) 5 pin hq)
  rw [fxCcOvervoltage_eq, hports, hguards, hloops]
  exact errorRecovery_port 5 hp (by simpa using hdisabled) (by simpa using herror) hfree (by simpa using hminimal) hlink

theorem fxCcOvervoltage_absent (hp : hasPort d p = false) :
    ((fxCcOvervoltage p pin d).ports[p.val]).ccCut = (d.ports[p.val]).ccCut ||| (if pin then 2 else 1) ∧
    (fxCcOvervoltage p pin d).guards = d.guards ∧ (fxCcOvervoltage p pin d).loops = d.loops := by
  obtain ⟨hports, hguards, hloops⟩ := raise_quiet_power (quiet_errorRecovery (p := p) 5 pin hq)
  rw [fxCcOvervoltage_eq, hports, hguards, hloops, errorRecovery_absent (d := pinCut p pin d) 5 hp]
  exact ⟨by rw [pinCut_port], by simp [pinCut], by simp [pinCut]⟩
end

/-! ### VCONN overcurrent (03 R116) -/

theorem portSrc5_row : ∀ p : Fin 32, (srcRow (portSrc p 5).val).isSome = true := by decide

/-- The port after a trip of its VCONN switch: the switch is open, the cable's limits are those without an answer (03 R116, R119). -/
def vconnTripped (q : Port) : Port :=
  { q with vconnOn := false, vconnOc := true, cableFinding := 0, cableEpr := false, cableActive := false, cableV := 20, cableI := 3000 }

/-- A trip opens the switch and raises VCONN_OC; of the port the capabilities that follow touch only its termination and their own marks. -/
theorem fxVconnOvercurrent_trips {p : Fin 32} {d : Dev} (hv : (d.ports[p.val]).vconnOn = true) (hq : Quiet d (portSrc p 5)) :
    ((fxVconnOvercurrent p d).ports[p.val]).still = (vconnTripped d.ports[p.val]).still ∧
    ((fxVconnOvercurrent p d).sources[(portSrc p 5).val]).latch = true := by
  have hx : ∀ f, Quiet (onPort p f (vconnOff p d)) (portSrc p 5) := fun f => quiet_of hq (by simp) (by simp)
  unfold fxVconnOvercurrent
  rw [if_pos (by simpa using hv)]
  dsimp only
  split
  · exact ⟨by rw [offerCaps_still, (raise_quiet_power (hx _)).1]; simp [vconnOff, vconnTripped], by simpa using raise_latch (hx _) (portSrc5_row p)⟩
  · exact ⟨by rw [firstOffer_still, (raise_quiet_power (hx _)).1]; simp [vconnOff, vconnTripped], by simpa using raise_latch (hx _) (portSrc5_row p)⟩

/-! ### Discovery (03 R118, 04 R141) -/

section
variable {p : Fin 32} {d : Dev}

theorem fxVconnReverseBlock_opens (p : Fin 32) (d : Dev) : ((fxVconnReverseBlock p d).ports[p.val]).vconnOn = false := by
  unfold fxVconnReverseBlock
  split <;> simp

theorem within_fxVconnReverseBlock : Within [.ports, .pd, .timers] p d (fxVconnReverseBlock p d) := by
  unfold fxVconnReverseBlock
  split
  · exact ((within_vconnOff ..).mono (by simp)).trans (within_firstOffer ..)
  · exact (within_vconnOff ..).mono (by simp)

/-- A Discover Identity joined the transmit queue on SOP', and the next try is due in 4 ms (03 R118). -/
structure DiscoverSent (p : Fin 32) (a b : Dev) : Prop where
  tries : (b.pd[p.val]).discoverTries = (a.pd[p.val]).discoverTries + 1
  timer : (a.tmr.tb + ticksOfMs 4, .discoverIdentityRetry p) ∈ b.timers
  queue : (b.pd[p.val]).txQueue = (a.pd[p.val]).txQueue ++ [{ sop := 1, kind := .discoverIdentity, data := [], tries := 0 }]
  within : Within [.pd, .timers] p a b

theorem discover_sent (ev : Instr) : DiscoverSent p d (startTimer (.discoverIdentityRetry p) (ticksOfMs 4) (discover p (stopTimer ev d))) where
  tries := by simp [discover]
  timer := by simp [startTimer]
  queue := by simp [discover]
  within := ((within_stopTimer ..).mono (by simp)).trans ((within_discover ..).trans ((within_startTimer ..).mono (by simp)))

/-- Before a contract a try goes out at once (03 R118). -/
theorem discoverTry_now (h : explicit d p = false) : discoverTry p d = discover p d := if_pos (by simp [h])

theorem pdSource_live (h : pdSource d p = true) : pdLive d p = true := (Bool.and_eq_true_iff.mp h).1

theorem pdSource_tc (h : pdSource d p = true) : (d.ports[p.val]).tc = .attachedSrc := by simpa using (Bool.and_eq_true_iff.mp h).2

/-- Under SinkTxNG an attached source with a contract presents Rp 1.5 A (04 R141). -/
theorem presentTx_sinkTxNg (ht : (d.ports[p.val]).tc = .attachedSrc) (he : explicit d p = true) (hn : (d.pd[p.val]).sinkTxNg = true) :
    presentTx p d = present p .a15 false d := by
  simp [explicit] at he
  simp [presentTx, ht, he, hn]

/-- The engine whose Discover Identity waits behind SinkTxNG (04 R141). -/
def discoverWaits (x : PortPd) : PortPd := { x with sinkTxNg := true, discDue := true }

/-- Under a contract of a source a try waits behind SinkTxNG for tSinkTx (04 R141). -/
theorem discoverTry_behind (hs : pdSource d p = true) (he : explicit d p = true) (hn : (d.pd[p.val]).sinkTxNg = false) (ha : (d.pd[p.val]).ams = .none)
    (ht : (d.ports[p.val]).transition = false) (hq : (d.pd[p.val]).txQueue = []) :
    discoverTry p d = startTimer (.tsinktxExpiry p) (ticksOfMs 18) (present p .a15 false (onPd p discoverWaits d)) := by
  rw [← presentTx_sinkTxNg (d := onPd p discoverWaits d) (show (d.ports[p.val]).tc = _ from pdSource_tc hs) he (by simp [discoverWaits])]
  simp [discoverTry, hs, he, hn, ready, ha, ht, hq] <;> rfl

/-- A Discover Identity waits behind SinkTxNG, and the next try is due in 50 ms (03 R118, 04 R141). -/
def discoverBehind (p : Fin 32) (d : Dev) : Dev :=
  startTimer (.discoverIdentityRetry p) (ticksOfMs 50) (startTimer (.tsinktxExpiry p) (ticksOfMs 18)
    (present p .a15 false (onPd p discoverWaits (stopTimer (.discoverIdentityRetry p) d))))

theorem discoverBehind_port (p : Fin 32) (d : Dev) : ((discoverBehind p d).ports[p.val]).rp = .a15 ∧ (discoverBehind p d).pd[p.val] = discoverWaits d.pd[p.val] ∧
    (d.tmr.tb + ticksOfMs 18, .tsinktxExpiry p) ∈ (discoverBehind p d).timers ∧
    (d.tmr.tb + ticksOfMs 50, .discoverIdentityRetry p) ∈ (discoverBehind p d).timers := by
  refine ⟨by simp [discoverBehind], by simp [discoverBehind], ?_, ?_⟩ <;> simp [discoverBehind, startTimer]

theorem within_discoverBehind (p : Fin 32) (d : Dev) : Within [.ports, .pd, .guards, .chans, .timers] p d (discoverBehind p d) :=
  (((within_stopTimer ..).mono (by simp)).trans ((within_onPd ..).mono (by simp))).trans
    (((within_present ..).mono (by simp)).trans (((within_startTimer ..).trans (within_startTimer ..)).mono (by simp)))

variable (hl : pdLive d p = true) (hv : (d.ports[p.val]).vconnOn = true) (hc : (d.ports[p.val]).cableDone = false)
include hl hv hc

theorem fxTvconnstableExpiry_first (he : explicit d p = false) : fxTvconnstableExpiry p d =
    startTimer (.discoverIdentityRetry p) (ticksOfMs 4) (discover p (stopTimer (.tvconnstableExpiry p) d)) := by
  simp [fxTvconnstableExpiry, hl, hv, hc, he, discoverTry_now]

variable (hn : (d.pd[p.val]).sinkTxNg = false)
include hn

theorem fxDiscoverIdentityRetry_again (he : explicit d p = false) (hd : (d.pd[p.val]).discoverTries < 3) : fxDiscoverIdentityRetry p d =
    startTimer (.discoverIdentityRetry p) (ticksOfMs 4) (discover p (stopTimer (.discoverIdentityRetry p) d)) := by
  simp [fxDiscoverIdentityRetry, discoverNext, discoverEnd_idle, hl, hv, hc, hn, he, hd]

theorem fxDiscoverIdentityRetry_contract (hs : pdSource d p = true) (he : explicit d p = true) (hd : (d.pd[p.val]).discoverTries < 20)
    (ha : (d.pd[p.val]).ams = .none) (ht : (d.ports[p.val]).transition = false) (hq : (d.pd[p.val]).txQueue = []) :
    fxDiscoverIdentityRetry p d = discoverBehind p d := by
  rw [discoverBehind, ← discoverTry_behind (d := stopTimer (.discoverIdentityRetry p) d) hs he hn ha ht hq]
  simp [fxDiscoverIdentityRetry, discoverNext, discoverEnd_idle, hl, hv, hc, hn, he, hd]

/-- After twenty tries the discovery is over (03 R118). -/
theorem fxDiscoverIdentityRetry_over (he : explicit d p = true) (hd : 20 ≤ (d.pd[p.val]).discoverTries) : fxDiscoverIdentityRetry p d =
    portEvent p 16 (onPort p (fun q => { q with cableDone := true }) (stopTimer (.discoverIdentityRetry p) d)) := by
  simp [fxDiscoverIdentityRetry, discoverNext, discoverEnd_idle, hl, hv, hc, hn, he, Nat.not_lt.mpr hd, show ¬ (d.pd[p.val]).discoverTries < 3 by omega]
end

/-! ### The answer of the cable (03 R119, R120) -/

/-- The port with the limits that its cable answered (03 R119). -/
def cableRead (a : CableAnswer) (q : Port) : Port :=
  let l := cableLimits a
  { q with cableFinding := l.1, cableI := l.2.1, cableV := l.2.2.1, cableEpr := l.2.2.2.1, cableActive := l.2.2.2.2, cableDone := true
           cableVid := a.vid, cablePid := a.pid }

/-- The limits of an answer (03 R119): 5 A and 50 V only from a cable that says so. -/
theorem cableLimits_eq (a : CableAnswer) : (cableLimits a).2.1 = (if a.ack = true ∧ a.isCable = true ∧ a.fiveA = true then 5000 else 3000) ∧
    (cableLimits a).2.2.1 = (if a.ack = true ∧ a.isCable = true ∧ a.maxV = 3 then 50 else 20) ∧
    (cableLimits a).2.2.2.1 = (a.ack && a.isCable && a.epr && a.maxV == 3) := by
  have hmax : a.maxV.val = 3 ↔ a.maxV = 3 := ⟨fun h => Fin.ext h, congrArg Fin.val⟩
  unfold cableLimits
  cases hack : a.ack
  · simp
  · cases hcable : a.isCable
    · simp
    · simp [hmax, show (a.maxV.val == 3) = (a.maxV == 3) from Bool.eq_iff_iff.mpr (beq_iff_eq.trans (hmax.trans beq_iff_eq.symm))]

/-- The first answer on SOP' gives the port its cable; the first offer follows (03 R118 to R120). -/
theorem fxCableIdentityAnswer_first {p : Fin 32} {d : Dev} (a : CableAnswer) (hl : pdLive d p = true) (hv : (d.ports[p.val]).vconnOn = true)
    (hc : (d.ports[p.val]).cableDone = false) (hd : (d.pd[p.val]).discoverTries ≠ 0) :
    ((fxCableIdentityAnswer p false a d).ports[p.val]).still = (cableRead a d.ports[p.val]).still ∧
    (fxCableIdentityAnswer p false a d).loops = d.loops ∧ (fxCableIdentityAnswer p false a d).phases = d.phases ∧
    (fxCableIdentityAnswer p false a d).sources = d.sources := by
  unfold fxCableIdentityAnswer
  simp [hl, hv, hc, hd, cableRead]

/-- Settles O15: a trip by its quiet raise and the course that follows, a try of the discovery by the message it sends or the SinkTxNG it waits behind,
an answer by the limits it gives the port. -/
theorem cableAndVconnOfAPort : Obligations.CableAndVconnOfAPort := by
  unfold Obligations.CableAndVconnOfAPort
  intro s p
  refine ⟨fun pin hq => ?_, fun hv hq => ?_, ?_, fun hl hv hc he => ?_, fun hl hv hc he hn hd => ?_, fun hs he hv hc hn ha ht hq hd => ?_,
    fun hl hv hc hd he hn => ?_, fun a hl hv hc hd => ?_⟩
  · refine next_of_act (exec_ccOvervoltage ..) ?_
    obtain ⟨hvconn, hlatch⟩ := fxCcOvervoltage_opens (pin := pin) hq
    exact ⟨hvconn, hlatch, fxCcOvervoltage_recovers hq, fxCcOvervoltage_absent hq⟩
  · refine next_of_act (exec_vconnOvercurrent ..) ?_
    obtain ⟨hport, hlatch⟩ := fxVconnOvercurrent_trips hv hq
    exact ⟨congrArg Port.vconnOn hport, congrArg Port.vconnOc hport, congrArg Port.cableEpr hport, congrArg Port.cableV hport, congrArg Port.cableI hport, hlatch⟩
  · refine next_of_act (exec_vconnReverseBlock ..) ⟨?_, within_fxVconnReverseBlock.settled s.dev⟩
    exact fxVconnReverseBlock_opens ..
  · refine next_of_act (exec_tvconnstableExpiry ..) ?_
    rw [fxTvconnstableExpiry_first hl hv hc he]
    obtain ⟨htries, htimer, hqueue, hwithin⟩ := discover_sent (p := p) (d := s.dev) (.tvconnstableExpiry p)
    exact ⟨htries, htimer, hqueue, hwithin.settled s.dev⟩
  · refine next_of_act (exec_discoverIdentityRetry ..) ?_
    rw [fxDiscoverIdentityRetry_again hl hv hc hn he hd]
    obtain ⟨htries, htimer, hqueue, hwithin⟩ := discover_sent (p := p) (d := s.dev) (.discoverIdentityRetry p)
    exact ⟨htries, htimer, hqueue, hwithin.settled s.dev⟩
  · refine next_of_act (exec_discoverIdentityRetry ..) ?_
    rw [fxDiscoverIdentityRetry_contract (pdSource_live hs) hv hc hn hs he hd ha ht hq]
    obtain ⟨hrp, hpd, hsink, hretry⟩ := discoverBehind_port p s.dev
    exact ⟨hrp, congrArg PortPd.sinkTxNg hpd, congrArg PortPd.discDue hpd, hsink, hretry, (within_discoverBehind p s.dev).settled s.dev⟩
  · refine next_of_act (exec_discoverIdentityRetry ..) ?_
    rw [fxDiscoverIdentityRetry_over hl hv hc hn he hd]
    have hwithin : Within [.ports, .pd, .timers] p s.dev
        (portEvent p 16 (onPort p (fun q => { q with cableDone := true }) (stopTimer (.discoverIdentityRetry p) s.dev))) :=
      ((within_stopTimer ..).mono (by simp)).trans (((within_onPort ..).mono (by simp)).trans ((within_portEvent ..).mono (by simp)))
    exact ⟨by simp, hwithin.settled s.dev⟩
  · refine next_of_act (exec_cableIdentityAnswer ..) ?_
    obtain ⟨hport, hframe⟩ := fxCableIdentityAnswer_first a hl hv hc hd
    obtain ⟨hi, hvolt, hepr⟩ := cableLimits_eq a
    exact ⟨congrArg Port.cableDone hport, (congrArg Port.cableI hport).trans hi, (congrArg Port.cableV hport).trans hvolt,
      (congrArg Port.cableEpr hport).trans hepr, hframe⟩

end Sys2Proof.Machine
end

section
/-! SUPPORT. A port in minimal mode (03 R123, R124, 15 R569), and the statement about it. -/

namespace Sys2Proof.Machine

theorem exec_minimalAttachDebounce (p : Fin 32) (s : State) : exec (.minimalAttachDebounce p) s = act (fxMinimalAttachDebounce p) s := by rfl
theorem exec_minimalDetachDebounce (p : Fin 32) (s : State) : exec (.minimalDetachDebounce p) s = act (fxMinimalDetachDebounce p) s := by rfl

/-- A port with an attach condition that its edge die lets attach (03 R123, 05 R194, R226, 15 R569). -/
structure MinimalReady (p : Fin 32) (d : Dev) : Prop where
  tc : (d.ports[p.val]).tc = .minimal
  free : (d.ports[p.val]).minAtt = false
  rd : rdOne d p = true
  low : vbusLow d p = true
  guard : (d.guards[p.val]).state ≠ .latched
  fail : (d.ports[p.val]).startFail = false
  hold : dieHolds d p = false
  record : (d.sys.dieRec[(edgeOf p).val]).isSome = true
  pg : portPg d p = true
  live : livePhases d p ≠ []
  census : censusOpen d p = false
  recovery : timerRuns d (.terrorrecoveryExpiry p) = false
  debounce : timerRuns d (.minimalAttachDebounce p) = false

/-- The port as its attach in minimal mode leaves it (03 R123). -/
def minimalAttached (pin : Bool) (q : Port) : Port := { q with minAtt := true, source := true, dfp := true, orient := pin }

theorem minimalAttach_ready {p : Fin 32} {d : Dev} (h : MinimalReady p d) :
    minimalAttach p d = portEvent p 0 (softStart p 1000 (resetFence p 5000 (onPort p (minimalAttached (pinRd d p true)) d))) := by
  unfold minimalAttach
  dsimp only
  rw [if_pos (by simp [h.tc, h.free, h.rd, h.low, h.guard, h.fail, h.hold, h.record, h.pg, h.live, h.census, h.recovery, h.debounce])]
  rfl

theorem within_minimalAttach {p : Fin 32} {d : Dev} (h : MinimalReady p d) : Within [.ports, .pd, .loops, .phases] p d (minimalAttach p d) := by
  rw [minimalAttach_ready h]
  exact ((((within_onPort ..).trans (within_onPort ..)).mono (by simp)).trans ((within_softStart ..).mono (by simp))).trans
    ((within_portEvent ..).mono (by simp))

/-- The port that attached, and its loop (03 R123, R124). -/
theorem minimalAttach_port {p : Fin 32} {d : Dev} (h : MinimalReady p d) :
    (minimalAttach p d).ports[p.val] =
      { minimalAttached (pinRd d p true) d.ports[p.val] with fence := fenceOf 5000, fencePend := none, fenceReg := fenceOf 5000 } ∧
    ((minimalAttach p d).pd[p.val]).event.getLsbD 0 = true := by
  rw [minimalAttach_ready h]
  simp [resetFence]

theorem minimalAttach_loop {p : Fin 32} {d : Dev} (h : MinimalReady p d) :
    ((minimalAttach p d).loops[p.val]).switching = true ∧ ((minimalAttach p d).loops[p.val]).target = refCode 5000 ∧
    ((minimalAttach p d).loops[p.val]).slew = 1000 := by
  have hpg : portPg (resetFence p 5000 (onPort p (minimalAttached (pinRd d p true)) d)) p = true := h.pg
  obtain ⟨hswitching, -, htarget, -, hslew, -, -⟩ := softStart_pg 1000 hpg
  rw [minimalAttach_ready h]
  simp [hswitching, htarget, hslew]

/-- A port in minimal mode whose debounce ended looks at what else it waits for (03 R123). -/
theorem fxMinimalAttachDebounce_minimal {p : Fin 32} {d : Dev} (hm : (d.ports[p.val]).tc = .minimal) (hd : (d.pd[p.val]).deb = true)
    (ht : timerRuns d (.tccdebounceExpiry p) = false) :
    fxMinimalAttachDebounce p d = minimalAttach p (stopTimer (.minimalAttachDebounce p) d) := by
  simp [fxMinimalAttachDebounce, tryAttach, hm, hd, timerRuns_stopTimer ht]

theorem within_offRamp {p : Fin 32} {d : Dev} (hl : lostPort d p = false) : Within [.loops] p d (offRamp p d) := by
  refine ⟨sameBut_iff.mpr ?_, fun q hq => by simp [hq]⟩
  simp [offRamp, toDie_up _ _ hl rfl]

/-- The off-ramp of a port that switches, with its link up (05 R211). -/
theorem offRamp_ramps {p : Fin 32} {d : Dev} (hl : lostPort d p = false) (hs : (d.loops[p.val]).switching = true) :
    ((offRamp p d).loops[p.val]).target = 0 ∧ ((offRamp p d).loops[p.val]).rampFor = .offRamp := by
  simp [offRamp, hs, toDie_up _ _ hl rfl, startRamp]

/-- An attached port in minimal mode whose sink is gone, before its off-ramp (03 R123). -/
def minimalDetached (p : Fin 32) (d : Dev) : Dev :=
  portEvent p 1 (onPort p (fun q => { q with minAtt := false, source := false, dfp := false })
    (onPd p (fun x => { x with deb := false }) (stopTimer (.minimalDetachDebounce p) d)))

theorem within_minimalDetached (p : Fin 32) (d : Dev) : Within [.ports, .pd, .timers] p d (minimalDetached p d) :=
  (((within_stopTimer ..).mono (by simp)).trans ((within_onPd ..).mono (by simp))).trans
    (((within_onPort ..).mono (by simp)).trans ((within_portEvent ..).mono (by simp)))

theorem fxMinimalDetachDebounce_attached {p : Fin 32} {d : Dev} (hm : (d.ports[p.val]).tc = .minimal) (ha : (d.ports[p.val]).minAtt = true)
    (hb : bit d.store.pendPorts p.val = false) : fxMinimalDetachDebounce p d = offRamp p (minimalDetached p d) := by
  simp [fxMinimalDetachDebounce, minimalDetached, hm, ha, takeDeferred, hb]

/-- Settles O16: the attach is the soft start of a port that MinimalReady lets attach, the detach its off-ramp. -/
theorem minimalPortAttachesAndDetaches : Obligations.MinimalPortAttachesAndDetaches := by
  unfold Obligations.MinimalPortAttachesAndDetaches
  intro s p hm
  refine ⟨fun hfree hrd hlow hguard hfail hhold hrec hpg hlive hcensus hdeb her hcc => ?_, fun ha hl hb => ?_⟩
  · refine next_of_act (exec_minimalAttachDebounce ..) ?_
    rw [fxMinimalAttachDebounce_minimal hm hdeb hcc]
    have hready : MinimalReady p (stopTimer (.minimalAttachDebounce p) s.dev) :=
      { tc := hm, free := hfree, rd := hrd, low := hlow, guard := hguard, fail := hfail, hold := hhold, record := hrec, pg := hpg, live := hlive
        census := hcensus, recovery := timerRuns_stopTimer her, debounce := timerRuns_stopTimer_self .. }
    have hwithin : Within [.ports, .pd, .loops, .phases, .timers] p s.dev (minimalAttach p (stopTimer (.minimalAttachDebounce p) s.dev)) :=
      ((within_stopTimer ..).mono (by simp)).trans ((within_minimalAttach hready).mono (by simp))
    obtain ⟨hport, hevent⟩ := minimalAttach_port hready
    obtain ⟨hswitching, htarget, hslew⟩ := minimalAttach_loop hready
    exact ⟨congrArg Port.minAtt hport, congrArg Port.source hport, congrArg Port.dfp hport, congrArg Port.orient hport, congrArg Port.fence hport,
      hswitching, htarget, hslew, hevent, hwithin.settled s.dev⟩
  · refine next_of_act (exec_minimalDetachDebounce ..) ?_
    rw [fxMinimalDetachDebounce_attached hm ha hb]
    have hwithin : Within [.ports, .pd, .loops, .timers] p s.dev (offRamp p (minimalDetached p s.dev)) :=
      ((within_minimalDetached ..).mono (by simp)).trans ((within_offRamp (d := minimalDetached p s.dev) hl).mono (by simp))
    exact ⟨by simp [minimalDetached], by simp [minimalDetached], by simp [minimalDetached], offRamp_ramps (d := minimalDetached p s.dev) hl,
      hwithin.settled s.dev⟩

end Sys2Proof.Machine
end

section
/-! SUPPORT. Service readout (03 R134 to R137, 04 R147), and the statement about it. -/

namespace Sys2Proof.Machine

theorem exec_ident (p : Fin 32) (tag : Fin 128) (s : State) : exec (.ident p tag) s = act (fxIdent p tag) s := by rfl
theorem exec_serviceState (p : Fin 32) (tag : Fin 128) (s : State) : exec (.serviceState p tag) s = act (fxServiceState p tag) s := by rfl
theorem exec_jtail (p : Fin 32) (tag : Fin 128) (arg : Nat) (s : State) : exec (.jtail p tag arg) s = act (fxJtail p tag arg) s := by rfl
theorem exec_jread (p : Fin 32) (tag : Fin 128) (arg : Nat) (s : State) : exec (.jread p tag arg) s = act (fxJread p tag arg) s := by rfl
theorem exec_serviceFaults (p : Fin 32) (tag : Fin 128) (arg : Nat) (s : State) : exec (.serviceFaults p tag arg) s = act (fxServiceFaults p tag arg) s := by rfl
theorem exec_serviceUnknownCmd (p : Fin 32) (tag : Fin 128) (cmd : Fin 16) (s : State) :
    exec (.serviceUnknownCmd p tag cmd) s = act (fxServiceUnknownCmd p tag cmd) s := by rfl

/-- The messages that wait in the transmit queue of a port are one on SOP, and only that port's engine changed. -/
def AnsweredBy (p : Fin 32) (k : PdKind) (w : List Word) (a b : Dev) : Prop :=
  (b.pd[p.val]).txQueue = [{ sop := 0, kind := k, data := w, tries := 0 }] ∧ Within [.pd, .timers] p a b

/-- What one response leaves (03 R136). -/
theorem serviceAnswer_answers {p : Fin 32} {a x : Dev} (cmd : Nat) (tag : Fin 128) (status : Nat) (payload : List Byte)
    (hx : Within [.pd, .timers] p a x) (hq : (x.pd[p.val]).txQueue = []) :
    AnsweredBy p .vendorDefined (answerHeader x cmd tag :: w32 status :: wordsOfBytes payload) a (serviceAnswer p cmd tag status payload x) :=
  ⟨by simp [serviceAnswer, hq], hx.trans ((within_pdSend ..).trans ((within_portEvent ..).mono (by simp)))⟩

/-- A response sets its event (03 R136). -/
theorem serviceAnswer_event (p : Fin 32) (cmd : Nat) (tag : Fin 128) (status : Nat) (payload : List Byte) (d : Dev) :
    ((serviceAnswer p cmd tag status payload d).pd[p.val]).event.getLsbD 17 = true := by
  simp [serviceAnswer]

section
variable {p : Fin 32} {d : Dev} (hl : pdLive d p = true) (hb : ((d.pd[p.val]).bistData || corePaused d p) = false) (ha : (d.pd[p.val]).ams = .none)
include hl hb ha

/-- A SERVICE port under a contract takes the request (03 R134). -/
theorem serviceRequest_taken (f : Dev → Dev) (hs : servicePort d p = true) : serviceRequest p f d = f (takeMsg p .vendorDefined d) := by
  simp at hb
  simp [serviceRequest, hears, ready, hl, hb, ha, hs]

/-- Another port does not support it (04 R147). -/
theorem serviceRequest_refused (f : Dev → Dev) (hs : servicePort d p = false) :
    serviceRequest p f d = notSupported p false (takeMsg p .vendorDefined d) := by
  simp at hb
  simp [serviceRequest, hears, ready, hl, hb, ha, hs]
end

/-- Not_Supported from PD 3.0 on (04 R145, R146). -/
theorem notSupported_answers {p : Fin 32} {a x : Dev} (hx : Within [.pd, .timers] p a x) (hq : (x.pd[p.val]).txQueue = [])
    (hr : (x.ports[p.val]).rev ≠ 1) : AnsweredBy p .notSupported [] a (notSupported p false x) := by
  unfold notSupported
  rw [if_neg (by simpa using hr)]
  exact ⟨by simp [hq], hx.trans ((within_pdSend ..).trans ((within_portEvent ..).mono (by simp)))⟩

theorem AnsweredBy.settled {p : Fin 32} {k : PdKind} {w : List Word} {a b : Dev} (h : AnsweredBy p k w a b) (a' : Dev) : AnsweredBy p k w a (settle a' b) :=
  ⟨h.1, h.2.settled a'⟩

section
variable {p : Fin 32} {tag : Fin 128} {arg : Nat} {d : Dev} (hl : pdLive d p = true) (hb : ((d.pd[p.val]).bistData || corePaused d p) = false)
  (ha : (d.pd[p.val]).ams = .none) (hq : (d.pd[p.val]).txQueue = [])
include hl hb ha hq

/-- A request to a port that is no SERVICE port under a contract, from PD 3.0 on (04 R147). -/
theorem serviceRequest_notSupported (f : Dev → Dev) (hs : servicePort d p = false) (hr : (d.ports[p.val]).rev ≠ 1) :
    AnsweredBy p .notSupported [] d (serviceRequest p f d) := by
  rw [serviceRequest_refused hl hb ha f hs]
  exact notSupported_answers (within_takeMsg ..) (by simp [hq]) (by simpa using hr)

variable (hs : servicePort d p = true)
include hs

/-- A response to a request that a SERVICE port took: its header names command and tag, its first object the status (03 R136). -/
theorem serviceRequest_answers {f : Dev → Dev} {cmd status : Nat} {payload : List Byte}
    (hf : f (takeMsg p .vendorDefined d) = serviceAnswer p cmd tag status payload (takeMsg p .vendorDefined d)) :
    AnsweredBy p .vendorDefined (answerHeader d cmd tag :: w32 status :: wordsOfBytes payload) d (serviceRequest p f d) := by
  rw [serviceRequest_taken hl hb ha f hs, hf]
  simpa using serviceAnswer_answers cmd tag status payload (within_takeMsg p d .vendorDefined) (by simp [hq])

/-- A response with status 0 and some payload. -/
theorem serviceRequest_done {f : Dev → Dev} {cmd : Nat}
    (hf : ∃ payload, f (takeMsg p .vendorDefined d) = serviceAnswer p cmd tag 0 payload (takeMsg p .vendorDefined d)) :
    ∃ w, AnsweredBy p .vendorDefined (answerHeader d cmd tag :: 0 :: w) d (serviceRequest p f d) :=
  hf.elim fun _ h => ⟨_, serviceRequest_answers hl hb ha hq hs h⟩

theorem fxIdent_answers : ∃ w, AnsweredBy p .vendorDefined (answerHeader d 1 tag :: 0 :: w) d (fxIdent p tag d) :=
  serviceRequest_done hl hb ha hq hs ⟨_, rfl⟩

theorem fxServiceState_answers : ∃ w, AnsweredBy p .vendorDefined (answerHeader d 2 tag :: 0 :: w) d (fxServiceState p tag d) :=
  serviceRequest_done hl hb ha hq hs ⟨_, rfl⟩

theorem fxServiceUnknownCmd_answers (cmd : Fin 16) :
    AnsweredBy p .vendorDefined [answerHeader d cmd.val tag, 1] d (fxServiceUnknownCmd p tag cmd d) :=
  serviceRequest_answers hl hb ha hq hs rfl

theorem fxServiceFaults_first : ∃ w, AnsweredBy p .vendorDefined (answerHeader d 5 tag :: 0 :: w) d (fxServiceFaults p tag 0 d) :=
  serviceRequest_done hl hb ha hq hs ⟨_, if_pos (by simp)⟩

/-- The arg-th record of the journal counted from its end (03 R137). -/
theorem fxJtail_record (ho : d.sys.storeOk = true) (hj : d.jrn.busy = false) (hn : arg < d.jrn.written.length) :
    ∃ w, AnsweredBy p .vendorDefined (answerHeader d 3 tag :: 0 :: w) d (fxJtail p tag arg d) := by
  refine serviceRequest_done hl hb ha hq hs ?_
  simp only [takeMsg_frame, ho, hj]
  rw [List.getElem?_eq_getElem (by simpa using hn)]
  exact ⟨_, rfl⟩

theorem fxJtail_beyond (ho : d.sys.storeOk = true) (hj : d.jrn.busy = false) (hn : d.jrn.written.length ≤ arg) :
    AnsweredBy p .vendorDefined [answerHeader d 3 tag, 2] d (fxJtail p tag arg d) := by
  refine serviceRequest_answers hl hb ha hq hs (payload := []) (status := 2) ?_
  simp only [takeMsg_frame, ho, hj]
  rw [List.getElem?_eq_none (by simpa using hn)]
  rfl

theorem fxJread_written (ho : d.sys.storeOk = true) (hj : d.jrn.busy = false) (h4 : arg % 4 = 0) (hw : journalWritten d arg = true) :
    ∃ w, AnsweredBy p .vendorDefined (answerHeader d 4 tag :: 0 :: w) d (fxJread p tag arg d) := by
  have hx : journalWritten (takeMsg p .vendorDefined d) arg = true := by simpa [journalWritten] using hw
  refine serviceRequest_done hl hb ha hq hs ?_
  simp only [takeMsg_frame, ho, hj, h4, hx]
  exact ⟨_, rfl⟩

theorem fxJread_busy (ho : d.sys.storeOk = true) (hj : d.jrn.busy = true) :
    AnsweredBy p .vendorDefined [answerHeader d 4 tag, 4] d (fxJread p tag arg d) := by
  refine serviceRequest_answers hl hb ha hq hs (payload := []) (status := 4) ?_
  simp [ho, hj]
end

/-- Settles O17: what a SERVICE port answers to each command of the readout, and Not_Supported of any other port. -/
theorem serviceReadoutAnswers : Obligations.ServiceReadoutAnswers := by
  unfold Obligations.ServiceReadoutAnswers
  intro s p tag hl hb ha hq
  refine ⟨fun hs hr c hc => ?_, fun hs => ⟨?_, ?_, fun arg ho hj hn => ?_, fun arg ho hj hn => ?_, fun arg ho hj h4 hw => ?_, fun arg ho hj => ?_, ?_, fun cmd => ?_⟩⟩
  · have hn := fun f => (serviceRequest_notSupported hl hb ha hq f hs hr).settled s.dev
    obtain rfl | rfl | ⟨arg, rfl⟩ | ⟨arg, rfl⟩ | ⟨arg, rfl⟩ | ⟨cmd, rfl⟩ := hc
    · exact next_of_act (exec_ident ..) (hn _)
    · exact next_of_act (exec_serviceState ..) (hn _)
    · exact next_of_act (exec_jtail ..) (hn _)
    · exact next_of_act (exec_jread ..) (hn _)
    · exact next_of_act (exec_serviceFaults ..) (hn _)
    · exact next_of_act (exec_serviceUnknownCmd ..) (hn _)
  · refine next_of_act (exec_ident ..) ?_
    obtain ⟨w, h⟩ := fxIdent_answers (tag := tag) hl hb ha hq hs
    refine ⟨⟨w, (h.settled s.dev).1⟩, ?_, (h.settled s.dev).2⟩
    show ((fxIdent p tag s.dev).pd[p.val]).event.getLsbD 17 = true
    rw [fxIdent, serviceRequest_taken hl hb ha _ hs]
    exact serviceAnswer_event ..
  · refine next_of_act (exec_serviceState ..) ?_
    obtain ⟨w, h⟩ := fxServiceState_answers (tag := tag) hl hb ha hq hs
    exact ⟨⟨w, h.1⟩, h.2.settled s.dev⟩
  · refine next_of_act (exec_jtail ..) ?_
    obtain ⟨w, h⟩ := fxJtail_record (tag := tag) hl hb ha hq hs ho hj hn
    exact ⟨⟨w, h.1⟩, h.2.settled s.dev⟩
  · exact next_of_act (exec_jtail ..) ((fxJtail_beyond hl hb ha hq hs ho hj hn).settled s.dev)
  · refine next_of_act (exec_jread ..) ?_
    obtain ⟨w, h⟩ := fxJread_written (tag := tag) hl hb ha hq hs ho hj h4 hw
    exact ⟨⟨w, h.1⟩, h.2.settled s.dev⟩
  · exact next_of_act (exec_jread ..) ((fxJread_busy hl hb ha hq hs ho hj).settled s.dev)
  · refine next_of_act (exec_serviceFaults ..) ?_
    obtain ⟨w, h⟩ := fxServiceFaults_first (tag := tag) hl hb ha hq hs
    exact ⟨⟨w, h.1⟩, h.2.settled s.dev⟩
  · exact next_of_act (exec_serviceUnknownCmd ..) ((fxServiceUnknownCmd_answers hl hb ha hq hs cmd).settled s.dev)

end Sys2Proof.Machine
end

section
/-! SUPPORT. More changes that stay inside one port: its loop, its guard, its phases, its fence and its discharge (05 R211, R213, 07 R302). -/

namespace Sys2Proof.Machine

section
variable (p : Fin 32) (d : Dev)

theorem within_onLoop (f : Loop → Loop) : Within [.loops] p d (onLoop p f d) := ⟨sameBut_iff.mpr (by simp), fun q hq => by simp [upd_other d.loops f hq]⟩
theorem within_onGuard (f : Guard → Guard) : Within [.guards] p d (onGuard p f d) := ⟨sameBut_iff.mpr (by simp), fun q hq => by simp [upd_other d.guards f hq]⟩
theorem within_guardEvent (i : Nat) : Within [.guards] p d (guardEvent p i d) := within_onGuard ..
theorem within_discharge (b : Bool) : Within [.guards] p d (discharge p b d) := within_onGuard ..
theorem within_resetFence (mv : Nat) : Within [.ports] p d (resetFence p mv d) := within_onPort ..
theorem within_post (ev : Instr) : Within [.timers] p d (post ev d) := ⟨sameBut_iff.mpr (by simp), fun q _ => by simp⟩
theorem within_setPhases (st : PhaseState) : Within [.phases] p d (setPhases p st d) := ⟨sameBut_iff.mpr (by simp), fun q _ => by simp⟩
theorem within_markPhases (i : Nat) (f : Phase → Phase) : Within [.phases] p d (markPhases p i f d) :=
  ⟨sameBut_iff.mpr (by simp), fun q _ => by simp⟩
theorem within_phasesMid : Within [.pd, .loops, .phases] p d (phasesMid p d) := ⟨sameBut_iff.mpr (by simp [phasesMid, stopRamp]), fun q hq => by simp [hq]⟩
end

end Sys2Proof.Machine
end

section
/-! SUPPORT. The loop of a port (05 R207, R211, R213 to R220, 04 R180), and the statement about it. -/

namespace Sys2Proof.Machine

theorem exec_referenceRampEnd (p : Fin 32) (s : State) : exec (.referenceRampEnd p) s = act (fxReferenceRampEnd p) s := by rfl
theorem exec_offRampEnd (p : Fin 32) (s : State) : exec (.offRampEnd p) s = act (fxOffRampEnd p) s := by rfl
theorem exec_regionChange (p : Fin 32) (r : Region) (s : State) : exec (.regionChange p r) s = act (fxRegionChange p r) s := by rfl
theorem exec_truncationStart (p : Fin 32) (s : State) : exec (.truncationStart p) s = act (fxTruncationStart p) s := by rfl
theorem exec_truncationEnd (p : Fin 32) (s : State) : exec (.truncationEnd p) s = act (fxTruncationEnd p) s := by rfl
theorem exec_limitAllowanceExceeded (p : Fin 32) (ph : Fin 64) (s : State) :
    exec (.limitAllowanceExceeded p ph) s = act (fxLimitAllowanceExceeded p ph) s := by rfl
theorem exec_hiccupOffTimeExpiry (p : Fin 32) (s : State) : exec (.hiccupOffTimeExpiry p) s = act (fxHiccupOffTimeExpiry p) s := by rfl
theorem exec_hiccupAgeOut (p : Fin 32) (s : State) : exec (.hiccupAgeOut p) s = act (fxHiccupAgeOut p) s := by rfl
theorem exec_stageFault (p : Fin 32) (s : State) : exec (.stageFault p) s = act (fxStageFault p) s := by rfl
theorem exec_vbusUv (p : Fin 32) (s : State) : exec (.vbusUv p) s = act (fxVbusUv p) s := by rfl

/-! ### Ramps (05 R211, R213, R215) -/

section
variable {p : Fin 32} {d : Dev}

/-- The loop whose reference has reached its target (05 R211); VBUS_UV can be raised again after 15 ms (05 R215). -/
def rampEnded (tb : Nat) (l : Loop) : Loop :=
  { l with ref := l.target, refTb := tb, ramping := false, rampFor := .none, softStart := false, deForced := false, lc := 0, uvFrom := tb + ticksOfMs 15 }

theorem fxReferenceRampEnd_ends (hr : (d.loops[p.val]).ramping = true) (hm : portMinimal d p = false) :
    fxReferenceRampEnd p d = onLoop p (rampEnded d.tmr.tb) d := by
  simp [fxReferenceRampEnd, hr, hm] <;> rfl

/-- At the end of an off-ramp the phases are at mid and the discharge is on; a disable that waited for it goes on (05 R213, 07 R302). -/
theorem fxOffRampEnd_mid (hr : (d.loops[p.val]).ramping = true) (hf : (d.loops[p.val]).rampFor = .offRamp) :
    ∃ c, fxOffRampEnd p d = onlyIf c (post (.portDisableDone p)) (discharge p true (phasesMid p d)) :=
  ⟨_, if_pos (by simp [hr, hf])⟩

theorem within_offRampEnd (c : Bool) :
    Within [.pd, .guards, .loops, .phases, .timers] p d (onlyIf c (post (.portDisableDone p)) (discharge p true (phasesMid p d))) := by
  have hmid : Within [.pd, .guards, .loops, .phases, .timers] p d (discharge p true (phasesMid p d)) :=
    ((within_phasesMid ..).mono (by simp)).trans ((within_discharge ..).mono (by simp))
  cases c
  · exact hmid
  · exact hmid.trans ((within_post ..).mono (by simp))

theorem offRampEnd_port (c : Bool) :
    ((onlyIf c (post (.portDisableDone p)) (discharge p true (phasesMid p d))).loops[p.val]).switching = false ∧
    ((onlyIf c (post (.portDisableDone p)) (discharge p true (phasesMid p d))).loops[p.val]).ramping = false ∧
    ((onlyIf c (post (.portDisableDone p)) (discharge p true (phasesMid p d))).guards[p.val]).discharge = !(d.ports[p.val]).rd := by
  cases c <;> simp [discharge, phasesMid, stopRamp]
end

/-! ### Regions and truncation (05 R207, R214) -/

section
variable {p : Fin 32} {d : Dev}

/-- A mark on the phases of a port leaves the change of its loop. -/
theorem markPhases_onLoop (i : Nat) (g : Phase → Phase) (f : Loop → Loop) :
    (markPhases p i g (onLoop p f d)).loops[p.val] = f d.loops[p.val] ∧ Within [.loops, .phases] p d (markPhases p i g (onLoop p f d)) :=
  ⟨by simp, ((within_onLoop ..).mono (by simp)).trans ((within_markPhases ..).mono (by simp))⟩

theorem fxRegionChange_neighbour {r : Region} (hs : (d.loops[p.val]).switching = true) (hn : regionNext (d.loops[p.val]).region r = true) :
    fxRegionChange p r d = markPhases p 9 id (onLoop p (fun l => { l with region := r }) d) :=
  if_pos (by simp [hs, hn])

theorem fxTruncationStart_acts (hs : (d.loops[p.val]).switching = true) (ht : (d.loops[p.val]).trunc = false) :
    fxTruncationStart p d = markPhases p 7 (fun f => { f with truncs := inc8 f.truncs }) (onLoop p (fun l => { l with trunc := true }) d) :=
  if_pos (by simp [hs, ht])
end

/-! ### Hiccups (05 R216 to R218) -/

section
variable {p : Fin 32} {d : Dev}

/-- The first four sources of a phase are in the source table (11 R431). -/
theorem phaseSrc_row : ∀ (n : Fin 64) (k : Fin 4), (srcRow (phaseSrc n k.val).val).isSome = true := by decide

theorem fxLimitAllowanceExceeded_hiccup {ph : Fin 64} (hs : (d.loops[p.val]).switching = true) (hp : portOfPhase d ph = some p)
    (hc : (d.loops[p.val]).hc < (loopCfg d p).mHiccup) : fxLimitAllowanceExceeded p ph d = raise (phaseSrc ph 0) (startHiccup p 0 d) := by
  have hfew : ¬ (loopCfg d p).mHiccup ≤ (d.loops[p.val]).hc := Nat.not_le.mpr hc
  simp [fxLimitAllowanceExceeded, hs, hp, hfew]

theorem startHiccup_quiet {n : Fin 768} (why : Nat) (h : Quiet d n) : Quiet (startHiccup p why d) n := quiet_of h (by simp) (by simp)

theorem fxHiccupOffTimeExpiry_ends (hh : (d.loops[p.val]).hiccup = true) (hf : sfFault d p = false) (hl : hiccupLive d.ports[p.val] = false) :
    fxHiccupOffTimeExpiry p d = onLoop p (fun l => { l with hiccup := false }) (stopTimer (.hiccupOffTimeExpiry p) d) := by
  simp [fxHiccupOffTimeExpiry, hh, hf, hl]

/-- The port whose hiccup is over, before its soft start: its fence at 5 V, its offers to be made anew (05 R217, 04 R164). -/
def hiccupOver (p : Fin 32) (d : Dev) : Dev :=
  resetFence p 5000 (onPd p (fun x => { x with hiccupRestart := true }) (onLoop p (fun l => { l with hiccup := false }) (stopTimer (.hiccupOffTimeExpiry p) d)))

theorem fxHiccupOffTimeExpiry_restarts (hh : (d.loops[p.val]).hiccup = true) (hf : sfFault d p = false) (hl : hiccupLive d.ports[p.val] = true) :
    fxHiccupOffTimeExpiry p d = softStart p (diePort d p).slewSs (hiccupOver p d) := by
  simp [fxHiccupOffTimeExpiry, hiccupOver, hh, hf, hl]

theorem within_hiccupOver : Within [.ports, .pd, .loops, .timers] p d (hiccupOver p d) :=
  (((within_stopTimer ..).mono (by simp)).trans ((within_onLoop ..).mono (by simp))).trans
    (((within_onPd ..).mono (by simp)).trans ((within_resetFence ..).mono (by simp)))

theorem within_hiccupRestart (slew : Nat) : Within [.ports, .pd, .loops, .phases, .timers] p d (softStart p slew (hiccupOver p d)) :=
  (within_hiccupOver.mono (by simp)).trans ((within_softStart ..).mono (by simp))

/-- A soft start begins no hiccup (05 R217). -/
theorem softStart_hiccup (slew : Nat) (h : (d.loops[p.val]).hiccup = false) : ((softStart p slew d).loops[p.val]).hiccup = false := by
  unfold softStart phasesGo
  dsimp only
  split
  · simpa using h
  · split <;> simp

/-- With power-good the port switches towards 5 V again (05 R207, R217). -/
theorem hiccupRestart_port (slew : Nat) (hpg : portPg d p = true) :
    ((softStart p slew (hiccupOver p d)).loops[p.val]).hiccup = false ∧ ((softStart p slew (hiccupOver p d)).loops[p.val]).switching = true ∧
    ((softStart p slew (hiccupOver p d)).loops[p.val]).target = refCode 5000 ∧ ((softStart p slew (hiccupOver p d)).ports[p.val]).fence = fenceOf 5000 := by
  obtain ⟨hswitching, -, htarget, -⟩ := softStart_pg slew (d := hiccupOver p d) (by simpa [hiccupOver, resetFence] using hpg)
  exact ⟨softStart_hiccup slew (by simp [hiccupOver]), hswitching, htarget, by simp [hiccupOver, resetFence]⟩
end

/-! ### A stage fault, and VBUS below its range (05 R215, R220, 04 R180) -/

section
variable {p : Fin 32} {d : Dev}

/-- The phases of a port whose stage signals a fault, at mid (05 R220). -/
def stageFaulted (p : Fin 32) (d : Dev) : Dev := setPhases p .idle (markPhases p 8 (fun f => { f with sf := true }) d)

theorem stageFaulted_quiet {n : Fin 768} (h : Quiet d n) : Quiet (stageFaulted p d) n := quiet_of h (by simp [stageFaulted]) (by simp [stageFaulted])

@[simp] theorem stageFaulted_ports : (stageFaulted p d).ports = d.ports := by simp [stageFaulted]
@[simp] theorem stageFaulted_loops : (stageFaulted p d).loops = d.loops := by simp [stageFaulted]

theorem stageFaulted_sf {n : Fin 64} (hn : phasesOf d p = [n]) : ((stageFaulted p d).phases[n.val]).sf = true := by
  simp [stageFaulted, markPhases, forEach, hn]

/-- The one phase of a switching port signals: the port stops (05 R213, R220). -/
theorem fxStageFault_one {n : Fin 64} (hn : phasesOf d p = [n]) (hq : Quiet d (phaseSrc n 3)) (hs : (d.loops[p.val]).switching = true) :
    fxStageFault p d = stopPort p 5 (raise (phaseSrc n 3) (stageFaulted p d)) := by
  have hloop : ((raise (phaseSrc n 3) (stageFaulted p d)).loops[p.val]).switching = true := by
    obtain ⟨-, -, hloops⟩ := raise_quiet_power (stageFaulted_quiet (p := p) hq)
    simpa [hloops] using hs
  unfold stageFaulted at hloop ⊢
  simp [fxStageFault, hn, forEach, hloop]

theorem stopPort_sf (why : Nat) (n : Fin 64) : ((stopPort p why d).phases[n.val]).sf = (d.phases[n.val]).sf := by
  simp [stopPort, phasesMid]

theorem portSrc1_row : ∀ p : Fin 32, (srcRow (portSrc p 1).val).isSome = true := by decide

/-- The port whose VBUS is below its range, as its phases note it (05 R215). -/
def uvMarked (p : Fin 32) (d : Dev) : Dev := markPhases p 10 id (onLoop p (fun l => { l with uv := true }) d)

theorem fxVbusUv_resets (hg : (d.guards[p.val]).state = .closed) (hr : (d.loops[p.val]).ramping = false) (hu : (d.loops[p.val]).uvFrom ≤ d.tmr.tb) :
    fxVbusUv p d = sendHardReset p (raise (portSrc p 1) (uvMarked p d)) :=
  if_pos (by simp [hg, hr, hu])

@[simp] theorem uvMarked_pd : (uvMarked p d).pd = d.pd := by simp [uvMarked]

theorem uvMarked_uv : ((uvMarked p d).loops[p.val]).uv = true := by simp [uvMarked]

theorem pdLive_uvMarked : pdLive (uvMarked p d) p = pdLive d p := by
  simp [pdLive, isShadow, hasPort, portCfg, rolesOf, uvMarked]

/-- A quiet raise leaves a protocol engine live, or not. -/
theorem pdLive_raise {n : Fin 768} (h : Quiet d n) : pdLive (raise n d) p = pdLive d p := by
  simp [pdLive, isShadow, hasPort, portCfg, rolesOf, raise_quiet h, raise_quiet_pd h]

theorem uvMarked_quiet {n : Fin 768} (h : Quiet d n) : Quiet (uvMarked p d) n := quiet_of h (by simp [uvMarked]) (by simp [uvMarked])

/-- VBUS below its range latches VBUS_UV and, by the Hard Reset, PD_PROTOCOL; the contract ends (05 R215, 04 R175). -/
theorem vbusUv_port (hl : pdLive d p = true) (hh : (d.pd[p.val]).hardResets < 2) (hq1 : Quiet d (portSrc p 1)) (hq6 : Quiet d (portSrc p 6)) :
    ((sendHardReset p (raise (portSrc p 1) (uvMarked p d))).loops[p.val]).uv = true ∧
    ((sendHardReset p (raise (portSrc p 1) (uvMarked p d))).ports[p.val]).kind = .none ∧
    ((sendHardReset p (raise (portSrc p 1) (uvMarked p d))).sources[(portSrc p 1).val]).latch = true ∧
    ((sendHardReset p (raise (portSrc p 1) (uvMarked p d))).sources[(portSrc p 6).val]).latch = true := by
  have hx1 : Quiet (uvMarked p d) (portSrc p 1) := uvMarked_quiet hq1
  have hx6 : Quiet (raise (portSrc p 1) (uvMarked p d)) (portSrc p 6) := raise_quiet_other hx1 (uvMarked_quiet hq6)
  have hlive : pdLive (raise (portSrc p 1) (uvMarked p d)) p = true := by
    rw [pdLive_raise hx1, pdLive_uvMarked]; exact hl
  have hfew : ((raise (portSrc p 1) (uvMarked p d)).pd[p.val]).hardResets < 2 := by simpa [raise_quiet_pd hx1] using hh
  obtain ⟨hkind, -, -, hlatch6, huv, hkeeps, -⟩ := sendHardReset_any hlive hfew hx6.1
  obtain ⟨-, -, hloops⟩ := raise_quiet_power hx1
  exact ⟨by rw [huv, hloops, uvMarked_uv], hkind, hkeeps _ (raise_latch hx1 (portSrc1_row p)), hlatch6⟩
end

/-- Settles O25: each command by the course it takes under its conditions; what a course leaves of the rest of the block by the changes it is made of. -/
theorem loopsRampLimitAndStop : Obligations.LoopsRampLimitAndStop := by
  unfold Obligations.LoopsRampLimitAndStop
  intro s p
  refine ⟨fun hr hm => ?_, fun hr hf => ?_, fun r hs hn => ?_, fun hs ht => ?_, ?_, fun ph hs hp hc hq => ?_, fun hh hf hl hpg => ?_,
    fun hh hf hl => ?_, ?_, fun n hn hq hs => ?_, fun hg hr hl hh hu hq1 hq6 => ?_⟩
  · refine next_of_act (exec_referenceRampEnd ..) ?_
    rw [fxReferenceRampEnd_ends hr hm]
    exact ⟨by simp [rampEnded], by simp [rampEnded], by simp [rampEnded], by simp [rampEnded], by simp [rampEnded], (within_onLoop ..).settled s.dev⟩
  · refine next_of_act (exec_offRampEnd ..) ?_
    obtain ⟨c, hc⟩ := fxOffRampEnd_mid hr hf
    obtain ⟨hswitching, hramping, hdischarge⟩ := offRampEnd_port (p := p) (d := s.dev) c
    rw [hc]
    exact ⟨hswitching, hramping, hdischarge, (within_offRampEnd c).settled s.dev⟩
  · refine next_of_act (exec_regionChange ..) ?_
    rw [fxRegionChange_neighbour hs hn]
    obtain ⟨hloop, hwithin⟩ := markPhases_onLoop (p := p) (d := s.dev) 9 id fun l => { l with region := r }
    exact ⟨hloop, hwithin.settled s.dev⟩
  · refine next_of_act (exec_truncationStart ..) ?_
    rw [fxTruncationStart_acts hs ht]
    obtain ⟨hloop, hwithin⟩ := markPhases_onLoop (p := p) (d := s.dev) 7 (fun f => { f with truncs := inc8 f.truncs }) fun l => { l with trunc := true }
    exact ⟨hloop, hwithin.settled s.dev⟩
  · exact next_of_act (exec_truncationEnd ..) ⟨by simp [fxTruncationEnd], (within_onLoop ..).settled s.dev⟩
  · refine next_of_act (exec_limitAllowanceExceeded ..) ?_
    rw [fxLimitAllowanceExceeded_hiccup hs hp hc]
    obtain ⟨hhiccup, hcount, hswitching, hguard, hkind, htc⟩ := startHiccup_port p 0 s.dev
    have hquiet := startHiccup_quiet (p := p) 0 hq
    obtain ⟨hports, hguards, hloops⟩ := raise_quiet_power hquiet
    simp only [settle_loops, settle_ports, settle_guards, settle_sources, hports, hguards, hloops, Fin.getElem_fin]
    exact ⟨hhiccup, hcount, hswitching, hguard, hkind, htc, raise_latch hquiet (phaseSrc_row ph 0), fun q hq => by simp [hq]⟩
  · refine next_of_act (exec_hiccupOffTimeExpiry ..) ?_
    rw [fxHiccupOffTimeExpiry_restarts hh hf hl]
    obtain ⟨hhiccup, hswitching, htarget, hfence⟩ := hiccupRestart_port (diePort s.dev p).slewSs hpg
    exact ⟨hhiccup, hswitching, htarget, hfence, (within_hiccupRestart ..).settled s.dev⟩
  · refine next_of_act (exec_hiccupOffTimeExpiry ..) ?_
    rw [fxHiccupOffTimeExpiry_ends hh hf hl]
    exact ⟨by simp, (((within_stopTimer ..).mono (by simp)).trans ((within_onLoop ..).mono (by simp))).settled s.dev⟩
  · exact next_of_act (exec_hiccupAgeOut ..) ⟨by simp [fxHiccupAgeOut], (within_onLoop ..).settled s.dev⟩
  · refine next_of_act (exec_stageFault ..) ?_
    rw [fxStageFault_one hn hq hs]
    obtain ⟨hguard, hswitching, -⟩ := stopPort_self p 5 (raise (phaseSrc n 3) (stageFaulted p s.dev))
    have hquiet := stageFaulted_quiet (p := p) hq
    have hsf : ((stopPort p 5 (raise (phaseSrc n 3) (stageFaulted p s.dev))).phases[n.val]).sf = true := by
      simp [stopPort_sf, raise_quiet_phases hquiet, stageFaulted_sf hn]
    simp only [settle_phases, settle_loops, settle_guards, settle_sources, settle_ports, Fin.getElem_fin]
    refine ⟨hsf, hswitching, hguard, ?_, ?_⟩
    · simpa using raise_latch hquiet (phaseSrc_row n 3)
    · simp [raise_quiet hquiet]
  · refine next_of_act (exec_vbusUv ..) ?_
    rw [fxVbusUv_resets hg hr hu]
    simp only [settle_loops, settle_ports, settle_sources, Fin.getElem_fin]
    exact vbusUv_port hl hh hq1 hq6

end Sys2Proof.Machine
end

section
/-! SUPPORT. Phases that retire and return (05 R194 to R198, R221 to R226, 12 R482), and the statement about them. -/

namespace Sys2Proof.Machine

theorem exec_phaseSilent (n : Fin 64) (s : State) : exec (.phaseSilent n) s = act (fxPhaseSilent n) s := by rfl
theorem exec_senseImplausible (n : Fin 64) (s : State) : exec (.senseImplausible n) s = act (fxSenseImplausible n) s := by rfl
theorem exec_phaseRetireCmd (m : Fin 5) (n : Fin 64) (s : State) : exec (.phaseRetireCmd m n) s = act (fxPhaseRetireCmd m n) s := by rfl
theorem exec_pendingCensus (b : Bool) (s : State) : exec (.pendingCensus b) s = act (fxPendingCensus b) s := by rfl
theorem exec_censusComplete (n : Fin 64) (r : CensusResult) (s : State) : exec (.censusComplete n r) s = act (fxCensusComplete n r) s := by rfl
theorem exec_restorePhase (c : CmdRef) (n : Fin 64) (s : State) : exec (.restorePhase c n) s = act (fxRestorePhase c n) s := by rfl
theorem exec_busVinLow (e : Fin 4) (b : Bool) (s : State) : exec (.busVinLow e b) s = act (fxBusVinLow e b) s := by rfl
theorem exec_busVinRecover (e : Fin 4) (b : Bool) (s : State) : exec (.busVinRecover e b) s = act (fxBusVinRecover e b) s := by rfl

/-! ### Retirement (05 R221 to R224) -/

/-- What the retirement of a phase, and the raise with it, may change. -/
def retireParts : List Part :=
  [.cfg, .ports, .pd, .guards, .loops, .phases, .chans, .feeds, .sources, .coll, .host, .store, .jrn, .sys, .ringMem, .timers, .loss]

/-- A phase that retired with a fault: RETIRED with its cause, the source latched (05 R223). -/
structure RetiredWith (n : Fin 64) (why : Nat) (m : Fin 768) (b : Dev) : Prop where
  state : (b.phases[n.val]).state = .retired
  why : (b.phases[n.val]).why = why
  latch : (b.sources[m.val]).latch = true

section
variable {n : Fin 64} {d : Dev}

theorem sameBut_retire (why : Nat) : SameBut retireParts d (retire n why d) := sameBut_iff.mpr (by simp [retireParts])

theorem sameBut_raise {m : Fin 768} (h : Quiet d m) : SameBut retireParts d (raise m d) := sameBut_iff.mpr (by simp [retireParts, raise_quiet h])

theorem raise_retire {why : Nat} {m : Fin 768} (hs : (d.phases[n.val]).state ≠ .retired) (hq : Quiet d m) (hr : (srcRow m.val).isSome = true) :
    RetiredWith n why m (raise m (retire n why d)) := by
  have hquiet : Quiet (retire n why d) m := retire_quiet n why hq
  exact ⟨by simp [raise_quiet_phases hquiet, retire_self why hs], by simp [raise_quiet_phases hquiet, retire_self why hs], raise_latch hquiet hr⟩

theorem sameBut_raise_retire {why : Nat} {m : Fin 768} (hq : Quiet d m) : SameBut retireParts d (raise m (retire n why d)) :=
  (sameBut_retire why).trans (sameBut_raise (retire_quiet n why hq))

theorem fxPhaseSilent_retires {p : Fin 32} (hp : portOfPhase d n = some p) (hs : (d.phases[n.val]).state = .switching)
    (hg : guardOn d.guards[p.val] = true) : fxPhaseSilent n d = raise (phaseSrc n 1) (retire n 1 d) :=
  if_pos (by simp [silentCounts, hp, hs, hg])

theorem fxSenseImplausible_retires {p : Fin 32} (hp : portOfPhase d n = some p) (hs : (d.phases[n.val]).state = .switching)
    (hg : (d.guards[p.val]).state = .closed) (hr : (d.loops[p.val]).ramping = false) :
    fxSenseImplausible n d = raise (phaseSrc n 2) (retire n 2 d) := by
  simp [fxSenseImplausible, hp, hs, hg, hr]

/-- A retirement by the owner is journalled, and the next census of the die may start (05 R195, R223). -/
theorem fxPhaseRetireCmd_owner {m : Fin 5} (ho : isOwner d m = true) (hm : (d.cfg.phases[n.val]).isSome = true) (hs : (d.phases[n.val]).state ≠ .retired) :
    fxPhaseRetireCmd m n d = censusNext (edgeOfPhase n) (retire n 5 (journalWrite 7 (0x10008 + 0x400 * n.val) 1 m n.val d)) := by
  have hmapped : (d.cfg.phases[n.val]).isNone = false := by simpa [Option.isSome_iff_ne_none] using hm
  simp [fxPhaseRetireCmd, ownerWrite, retireByOwner, ho, hmapped, hs]

theorem fxPhaseRetireCmd_refused {m : Fin 5} (ho : isOwner d m = false) : fxPhaseRetireCmd m n d = refuse m d := if_neg (by simp [ho])

/-- The census that starts then leaves the retired phase. -/
theorem censusNext_retire (e : Fin 4) {why : Nat} (hs : (d.phases[n.val]).state ≠ .retired) :
    (censusNext e (retire n why d)).phases[n.val] = (retire n why d).phases[n.val] :=
  censusNext_retired e (by rw [retire_self why hs])
end

/-! ### Censuses that fall due (05 R194, R198, R224) -/

/-- A phase is to be measured: its census is due, or runs. -/
def CensusAsked (n : Fin 64) (d : Dev) : Prop := (d.phases[n.val]).due = true ∨ (d.phases[n.val]).state = .census

section
variable {n : Fin 64} {d : Dev}

/-- The start of a census takes none back. -/
theorem censusBegin_asked (m : Fin 64) (h : CensusAsked n d) : CensusAsked n (censusBegin m d) := by
  by_cases hm : n = m
  · subst hm
    exact .inr (censusBegin_self n d)
  · unfold CensusAsked
    rw [censusBegin_other hm]
    exact h

theorem censusNext_asked (e : Fin 4) (h : CensusAsked n d) : CensusAsked n (censusNext e d) := by
  unfold censusNext
  dsimp only
  split
  · exact h
  · split
    · exact censusBegin_asked _ h
    · exact h

/-- A phase falls due, or is left PENDING while its bus has no power-good (05 R194). -/
def fallDue (n : Fin 64) (d : Dev) : Dev :=
  onPhase n (fun f => if phasePg d n || f.state == .switching then { f with due := true } else { f with state := .pending, census := 3 }) d

theorem fallDue_self (hpg : phasePg d n = true) : CensusAsked n (fallDue n d) := .inl (by simp [fallDue, hpg])

theorem fallDue_keeps (m : Fin 64) (hpg : phasePg d n = true) (h : CensusAsked n d) : CensusAsked n (fallDue m d) := by
  by_cases hm : n = m
  · subst hm
    exact fallDue_self hpg
  · simpa [CensusAsked, fallDue, upd_other _ _ hm] using h

/-- Each phase of a list whose bus has power-good is to be measured (05 R194). -/
theorem censusStart_asked {l : List (Fin 64)} (hn : n ∈ l) (hpg : phasePg d n = true) : CensusAsked n (censusStart l d) := by
  have hpgDue : ∀ m x, phasePg (fallDue m x) n = phasePg x n := fun m x => by simp [fallDue]
  have hdue : phasePg (forEach l fallDue d) n = true → CensusAsked n (forEach l fallDue d) :=
    forEach_establish (Q := fun n x => phasePg x n = true → CensusAsked n x) (fun m x h => fallDue_self (by simpa [fallDue] using h))
      (fun m y x h hg => have hg' : phasePg x m = true := by simpa [fallDue] using hg
        fallDue_keeps y hg' (h hg')) hn d
  have hstill : phasePg (forEach l fallDue d) n = true := forEach_keeps (P := fun x => phasePg x n = true) (fun m x h => (hpgDue m x).trans h) hpg
  exact forEach_keeps (P := CensusAsked n) (fun e x h => censusNext_asked e h) (hdue hstill)

theorem fxPendingCensus_starts {b : Bool} (h : busPg d b = true) : fxPendingCensus b d =
    censusStart ((indices 64).filter fun n => ((d.phases[n]).state == .pending || (d.phases[n]).due) && ((d.cfg.phases[n]).getD {}).busB == b) d :=
  if_pos h

/-- A PENDING phase of the bus is measured (05 R194). -/
theorem fxPendingCensus_asked {b : Bool} (h : busPg d b = true) (hs : (d.phases[n.val]).state = .pending) (hb : ((d.cfg.phases[n.val]).getD {}).busB = b) :
    CensusAsked n (fxPendingCensus b d) := by
  rw [fxPendingCensus_starts h]
  exact censusStart_asked (by simp [indices, hs, hb]) (by simpa [phasePg, hb] using h)

/-- RESTORE_PHASE that passes its check joins the accepted commands, and the census of its phase falls due (05 R224, 12 R482). -/
theorem fxRestorePhase_asks {c : CmdRef} (hc : checkCode480 d c 0x0103 true (some (edgeOfPhase n)) = none) (hm : mayRestore d n = true) :
    fxRestorePhase c n d = censusNext (edgeOfPhase n) (onPhase n (fun f => { f with due := true })
      (addJob { ref := c, opcode := opRestorePhase, arg := n.val, port := portOfPhase d n } d)) := by
  have hcheck : checkCode480 d c opRestorePhase true (some (edgeOfPhase n)) = none := hc
  simp [fxRestorePhase, checked, hcheck, cmdRestorePhase, hm]
end

/-! ### The result of a census (05 R195 to R198) -/

section
variable {n : Fin 64} {r : CensusResult} {d : Dev}

@[simp] theorem phaseEvent_phases (n : Fin 64) (i : Nat) (d : Dev) :
    (phaseEvent n i d).phases = upd d.phases n fun x => { x with event := setBit x.event i } := (rfl)

/-- The block with the first census of a phase noted in the phase's registers and in the journal (05 R196, R197). -/
def censusNoted (n : Fin 64) (r : CensusResult) (pass : Bool) (d : Dev) : Dev :=
  journalEvent 10 (0x10018 + 0x400 * n.val) (if pass then 4 else 8) n.val (onPhase n (fun f => { f with
    zeroMv := r.zeroMv, ownRise := r.ownRise, foreignPort := r.foreignPort, foreignRise := r.foreignRise, census := if pass then 1 else 2
    state := .idle }) (phaseEvent n (if pass then 2 else 3) d))

theorem censusResult_pass {p : Fin 32} (hfirst : d.sys.retired.getLsbD n.val = false) (hp : portOfPhase d n = some p) (hpass : censusPass d n r = true) :
    censusResult n r d = updateCap p (censusNoted n r true d) := by
  unfold censusResult censusNoted
  simp only [hfirst, hpass, hp, Bool.not_false, Bool.or_true, if_true, Bool.false_eq_true, if_false]

/-- The source that a failed census raises (05 R197). -/
def censusSrc (d : Dev) (n : Fin 64) (r : CensusResult) : Fin 768 := phaseSrc n (if censusStill d n r then 1 else 2)

theorem censusSrc_row (d : Dev) (n : Fin 64) (r : CensusResult) : (srcRow (censusSrc d n r).val).isSome = true := by
  unfold censusSrc
  split
  · exact phaseSrc_row n 1
  · exact phaseSrc_row n 2

/-- Without accepted commands no RESTORE_PHASE completes. -/
theorem restoreDone_none (k : Code) (h : d.host.jobs = []) : restoreDone n k d = d := by simp [restoreDone, forEach, h]

@[simp] theorem censusNoted_jobs (pass : Bool) : (censusNoted n r pass d).host.jobs = d.host.jobs := by simp [censusNoted]
@[simp] theorem censusNoted_pd (pass : Bool) : (censusNoted n r pass d).pd = d.pd := by simp [censusNoted]
@[simp] theorem censusNoted_sys (pass : Bool) : (censusNoted n r pass d).sys = d.sys := by simp [censusNoted]

theorem censusNoted_quiet {m : Fin 768} (pass : Bool) (h : Quiet d m) : Quiet (censusNoted n r pass d) m :=
  quiet_of h (by simp [censusNoted]) (by simp [censusNoted])

theorem censusResult_fail (hfirst : d.sys.retired.getLsbD n.val = false) (hfail : censusPass d n r = false) (hjobs : d.host.jobs = [])
    (hq : Quiet d (censusSrc d n r)) : censusResult n r d = raise (censusSrc d n r) (retire n 3 (censusNoted n r false d)) := by
  have hquiet : Quiet (retire n 3 (censusNoted n r false d)) (censusSrc d n r) := retire_quiet n 3 (censusNoted_quiet false hq)
  have hnone : (raise (censusSrc d n r) (retire n 3 (censusNoted n r false d))).host.jobs = [] := by simpa [raise_quiet hquiet] using hjobs
  rw [← restoreDone_none (n := n) .censusFail hnone]
  unfold censusResult censusNoted censusSrc
  simp only [hfirst, hfail, Bool.not_false, Bool.or_true, if_true, Bool.false_eq_true, if_false]

theorem keepRecord_pd (d : Dev) : (keepRecord d).pd = d.pd := onlyIf_keeps (P := fun x => x.pd = d.pd) (fun h => h) rfl

/-- Outside BOOT, and with no port debounced, the end of a census leaves the phases and sources that its result and the next census give (05 R198). -/
theorem fxCensusComplete_ends (hs : (d.phases[n.val]).state = .census) (hm : (censusResult n r d).sys.mode ≠ .boot)
    (hdeb : ∀ q : Fin 32, ((censusResult n r d).pd[q.val]).deb = false) :
    (fxCensusComplete n r d).phases = (censusNext (edgeOfPhase n) (censusResult n r d)).phases ∧
    (fxCensusComplete n r d).sources = (censusResult n r d).sources := by
  have hidle : tryAttachAll (censusNext (edgeOfPhase n) (censusResult n r d)) = censusNext (edgeOfPhase n) (censusResult n r d) :=
    tryAttachAll_idle (by simpa using hdeb)
  have hkept : tryAttachAll (keepRecord (censusNext (edgeOfPhase n) (censusResult n r d))) = keepRecord (censusNext (edgeOfPhase n) (censusResult n r d)) :=
    tryAttachAll_idle (by simpa [keepRecord_pd] using hdeb)
  unfold fxCensusComplete
  simp only [Fin.getElem_fin, hs, bne_self_eq_false, Bool.false_eq_true, if_false]
  split
  · simp [hidle]
  · rw [if_neg (by simp [hm]), hkept]
    simp

/-- The phase that a census has noted. -/
theorem censusNoted_self (pass : Bool) : (censusNoted n r pass d).phases[n.val] = { d.phases[n.val] with
    zeroMv := r.zeroMv, ownRise := r.ownRise, foreignPort := r.foreignPort, foreignRise := r.foreignRise, census := if pass then 1 else 2
    state := .idle, event := setBit (d.phases[n.val]).event (if pass then 2 else 3) } := by
  simp [censusNoted]

section
variable (hs : (d.phases[n.val]).state = .census) (hm : d.sys.mode ≠ .boot) (hdeb : ∀ q : Fin 32, (d.pd[q.val]).deb = false)
  (hfirst : d.sys.retired.getLsbD n.val = false)
include hs hm hdeb hfirst

/-- A phase that passes shows what its census noted, and nothing is raised (05 R196). -/
theorem fxCensusComplete_passes {p : Fin 32} (hdue : (d.phases[n.val]).due = false) (hp : portOfPhase d n = some p) (hpass : censusPass d n r = true) :
    (fxCensusComplete n r d).phases[n.val] = (censusNoted n r true d).phases[n.val] ∧ (fxCensusComplete n r d).sources = d.sources := by
  have hres := censusResult_pass hfirst hp hpass
  obtain ⟨hphases, hsources⟩ := fxCensusComplete_ends (r := r) hs (by simpa [hres] using hm) (by simpa [hres] using hdeb)
  have hrests : ((updateCap p (censusNoted n r true d)).phases[n.val]).due = false := by rw [updateCap_phases, censusNoted_self]; exact hdue
  simp only [hphases, hsources, hres]
  exact ⟨by rw [censusNext_retired _ hrests, updateCap_phases], by simp [censusNoted]⟩

/-- A phase that fails its first census retires with cause 3 and the fault that the result names (05 R197). -/
theorem fxCensusComplete_fails (hfail : censusPass d n r = false) (hjobs : d.host.jobs = []) (hq : Quiet d (censusSrc d n r)) :
    RetiredWith n 3 (censusSrc d n r) (fxCensusComplete n r d) ∧ ((fxCensusComplete n r d).phases[n.val]).census = 2 := by
  have hres := censusResult_fail hfirst hfail hjobs hq
  have hnoted : Quiet (censusNoted n r false d) (censusSrc d n r) := censusNoted_quiet false hq
  have hquiet := retire_quiet n 3 hnoted
  have hlive : ((censusNoted n r false d).phases[n.val]).state ≠ .retired := by simp [censusNoted_self]
  have h := raise_retire (why := 3) hlive hnoted (censusSrc_row d n r)
  obtain ⟨hphases, hsources⟩ := fxCensusComplete_ends (r := r) hs (by simpa [hres, raise_quiet hquiet, retire_mode] using hm)
    (by simpa [hres, raise_quiet_pd hquiet] using hdeb)
  have hphase : (fxCensusComplete n r d).phases[n.val] = (raise (censusSrc d n r) (retire n 3 (censusNoted n r false d))).phases[n.val] := by
    rw [hphases, hres, censusNext_retired _ (by simp [raise_quiet_phases hquiet, retire_self 3 hlive])]
  refine ⟨⟨by rw [hphase]; exact h.state, by rw [hphase]; exact h.why, by rw [hsources, hres]; exact h.latch⟩, ?_⟩
  rw [hphase]
  simp [raise_quiet_phases hquiet, retire_self 3 hlive, censusNoted_self]
end
end

/-! ### A bus below its range (05 R225) -/

section
variable {n : Fin 64} {p : Fin 32} {d : Dev}

/-- The one live phase of a port takes the state that its port's phases take. -/
theorem setPhases_one (st : PhaseState) (hl : livePhases d p = [n]) (hs : (d.phases[n.val]).state = .idle ∨ (d.phases[n.val]).state = .switching) :
    ((setPhases p st d).phases[n.val]).state = st := by
  rcases hs with hs | hs <;> simp [setPhases, forEach, hl, hs]

theorem fxBusVinLow_one {e : Fin 4} {b : Bool} (h : busPorts d e b = [p]) :
    fxBusVinLow e b d = setPhases p .idle (onLoop p (fun l => { l with vinLow := true }) d) := by
  simp [fxBusVinLow, forEach, h]

theorem fxBusVinRecover_one {e : Fin 4} {b : Bool} (h : busPorts d e b = [p]) (hs : (d.loops[p.val]).switching = true) :
    fxBusVinRecover e b d = setPhases p .switching (onLoop p (fun l => { l with vinLow := false }) d) := by
  simp [fxBusVinRecover, forEach, h, hs]

theorem within_busVin (st : PhaseState) (f : Loop → Loop) : Within [.loops, .phases] p d (setPhases p st (onLoop p f d)) :=
  ((within_onLoop ..).mono (by simp)).trans ((within_setPhases ..).mono (by simp))
end

/-- Settles O26: retirements by what a retired phase shows and its port's course leaves of it; censuses by what asks for one and keeps it asked;
a bus by the one state its phases take. -/
theorem phasesRetireAndReturn : Obligations.PhasesRetireAndReturn := by
  unfold Obligations.PhasesRetireAndReturn
  intro s
  refine ⟨fun n p hp hs hg hq => ?_, fun n p hp hs hg hr hq => ?_, fun m n ho hm hs => ?_, fun m n ho => ?_, fun b hb => ?_,
    fun n p r hs hdue hfirst hm hdeb hp hpass => ?_, fun n p r hs hdue hfirst hm hdeb hp hfail hjobs hq => ?_, fun c n hc hm => ?_,
    fun e b p n hb hl hs => ?_, fun e b p n hb hl hs hsw => ?_⟩
  · refine next_of_act (exec_phaseSilent ..) ?_
    rw [fxPhaseSilent_retires hp hs hg]
    have h := raise_retire (why := 1) (fun e => absurd (e.symm.trans hs) (by decide)) hq (phaseSrc_row n 1)
    exact ⟨h.state, h.why, h.latch, (sameBut_raise_retire hq).settled s.dev⟩
  · refine next_of_act (exec_senseImplausible ..) ?_
    rw [fxSenseImplausible_retires hp hs hg hr]
    have h := raise_retire (why := 2) (fun e => absurd (e.symm.trans hs) (by decide)) hq (phaseSrc_row n 2)
    exact ⟨h.state, h.why, h.latch, (sameBut_raise_retire hq).settled s.dev⟩
  · refine next_of_act (exec_phaseRetireCmd ..) ?_
    have hs' : ((journalWrite 7 (0x10008 + 0x400 * n.val) 1 m n.val s.dev).phases[n.val]).state ≠ .retired := by simpa using hs
    rw [fxPhaseRetireCmd_owner ho hm hs]
    simp only [settle_phases, settle_sources, Fin.getElem_fin, censusNext_retire _ hs', retire_self 5 hs']
    exact ⟨trivial, trivial, by simp⟩
  · refine next_of_act (exec_phaseRetireCmd ..) ?_
    rw [fxPhaseRetireCmd_refused ho]
    exact SameBut.settled (sameBut_iff.mpr (by simp)) s.dev
  · refine next_of_act (exec_pendingCensus ..) ?_
    refine ⟨SameBut.settled ?_ s.dev, fun n hpending hbus => ?_⟩
    · rw [fxPendingCensus_starts hb]
      exact sameBut_iff.mpr (by simp)
    · simp only [settle_phases, Fin.getElem_fin]
      exact fxPendingCensus_asked hb hpending hbus
  · refine next_of_act (exec_censusComplete ..) ?_
    obtain ⟨hphase, hsources⟩ := fxCensusComplete_passes hs hm hdeb hfirst hdue hp hpass
    simp only [settle_phases, settle_sources, Fin.getElem_fin, hphase, hsources, censusNoted_self]
    exact ⟨trivial, rfl, trivial, trivial, trivial, trivial, trivial⟩
  · refine next_of_act (exec_censusComplete ..) ?_
    obtain ⟨h, hcensus⟩ := fxCensusComplete_fails hs hm hdeb hfirst hfail hjobs hq
    exact ⟨h.state, h.why, hcensus, h.latch⟩
  · refine next_of_act (exec_restorePhase ..) ?_
    rw [fxRestorePhase_asks hc hm]
    exact ⟨censusNext_asked _ (.inl (by simp)), ⟨{ ref := c, opcode := opRestorePhase, arg := n.val, port := portOfPhase s.dev n }, by simp [addJob], rfl, rfl, rfl⟩, SameBut.settled (sameBut_iff.mpr (by simp [addJob])) s.dev⟩
  · refine next_of_act (exec_busVinLow ..) ?_
    rw [fxBusVinLow_one hb]
    exact ⟨by simp, setPhases_one .idle (by simpa using hl) (.inr hs), (within_busVin ..).settled s.dev⟩
  · refine next_of_act (exec_busVinRecover ..) ?_
    rw [fxBusVinRecover_one hb hsw]
    exact ⟨by simp, setPhases_one .switching (by simpa using hl) (.inl hs), (within_busVin ..).settled s.dev⟩

end Sys2Proof.Machine
end

section
/-! SUPPORT. The guard of a port (05 R213, 07 R274, R294 to R302), and the statement about it. -/

namespace Sys2Proof.Machine

theorem exec_guardCloseStart (p : Fin 32) (s : State) : exec (.guardCloseStart p) s = act (fxGuardCloseStart p) s := by rfl
theorem exec_guardClosed (p : Fin 32) (s : State) : exec (.guardClosed p) s = act (fxGuardClosed p) s := by rfl
theorem exec_guardLimitStart (p : Fin 32) (b : Bool) (s : State) : exec (.guardLimitStart p b) s = act (fxGuardLimitStart p b) s := by rfl
theorem exec_guardLimitEnd (p : Fin 32) (s : State) : exec (.guardLimitEnd p) s = act (fxGuardLimitEnd p) s := by rfl
theorem exec_guardFaultTimerExpiry (p : Fin 32) (s : State) : exec (.guardFaultTimerExpiry p) s = act (fxGuardFaultTimerExpiry p) s := by rfl
theorem exec_guardShortTrip (p : Fin 32) (s : State) : exec (.guardShortTrip p) s = act (fxGuardShortTrip p) s := by rfl
theorem exec_guardTemp (p : Fin 32) (byVds : Bool) (s : State) : exec (.guardTemp p byVds) s = act (fxGuardTemp p byVds) s := by rfl
theorem exec_deferredRearm (p : Fin 32) (s : State) : exec (.deferredRearm p) s = act (fxDeferredRearm p) s := by rfl
theorem exec_rearmAgeOut (p : Fin 32) (s : State) : exec (.rearmAgeOut p) s = act (fxRearmAgeOut p) s := by rfl
theorem exec_dischargeDone (p : Fin 32) (s : State) : exec (.dischargeDone p) s = act (fxDischargeDone p) s := by rfl

/-! ### Closing (05 R213, 07 R294) -/

@[simp] theorem guardEvent_guards (p : Fin 32) (i : Nat) (d : Dev) :
    (guardEvent p i d).guards = upd d.guards p fun x => { x with event := setBit x.event i } := (rfl)

section
variable {p : Fin 32} {d : Dev}

theorem fxGuardCloseStart_closes (hw : guardWanted d p = true) (ho : (d.guards[p.val]).state = .openG) (hv : d.sys.vgdStart = true) (he : extest d = false) :
    fxGuardCloseStart p d = onGuard p (fun g => { g with state := .closing, discharge := false, reached := false }) d :=
  if_pos (by simp [hw, ho, hv, he])

/-- The block whose guard has just closed (07 R294). -/
def guardShut (p : Fin 32) (d : Dev) : Dev := guardEvent p 0 (onGuard p (fun g => { g with state := .closed, reached := true }) d)

theorem fxGuardClosed_reports (hc : (d.guards[p.val]).state = .closing) (hl : d.sys.retraining[(linkOf (edgeOf p)).val] = false) :
    fxGuardClosed p d = onClosed p (guardShut p d) := by
  rw [show fxGuardClosed p d = fromDie (linkOf (edgeOf p)) (.guardClosed p) (onClosed p) (guardShut p d) from if_pos (by simp [hc])]
  exact fromDie_now _ _ (by simpa [guardShut] using hl)

/-- What the port core does at GUARD_CLOSED leaves the guard and the Type-C state (03 R113, 04 R171). -/
theorem onClosed_leaves (p : Fin 32) (d : Dev) : ((onClosed p d).guards[p.val]).state = (d.guards[p.val]).state ∧
    ((onClosed p d).ports[p.val]).tc = (d.ports[p.val]).tc := by
  unfold onClosed
  dsimp only
  repeat' split
  all_goals simp

/-- A port that is no source under Power Delivery does nothing more. -/
theorem onClosed_still (h : pdSource d p = false) : onClosed p d = d := if_pos (by simp [h])

theorem within_guardShut : Within [.guards] p d (guardShut p d) := (within_onGuard ..).trans (within_guardEvent ..)

theorem pdSource_guardShut : pdSource (guardShut p d) p = pdSource d p := by simp [guardShut]
end

/-! ### Limiting (07 R274, R296) -/

section
variable {p : Fin 32} {d : Dev}

/-- The guard whose limit begins (07 R296). -/
def limitStarted (d : Dev) (foldback : Bool) (g : Guard) : Guard :=
  { g with state := .limiting, foldback := foldback, timer := timerUp d g.timer, limits := inc8 g.limits, event := setBit g.event 2 }

theorem fxGuardLimitStart_limits (b : Bool) (h : (d.guards[p.val]).state = .closed ∨ (d.guards[p.val]).state = .closing) :
    fxGuardLimitStart p b d =
      startTimer (.guardFaultTimerExpiry p) (50 * (diePort d p).gtimer - faultCount d (d.guards[p.val]).timer) (onGuard p (limitStarted d b) d) := by
  rcases h with h | h <;> simp [fxGuardLimitStart, h] <;> rfl

/-- The guard whose limit ends (07 R296). -/
def limitEnded (d : Dev) (g : Guard) : Guard :=
  { g with state := if g.reached then .closed else .closing, foldback := false, timer := timerDown d g.timer }

theorem fxGuardLimitEnd_ends (h : (d.guards[p.val]).state = .limiting) :
    fxGuardLimitEnd p d = stopTimer (.guardFaultTimerExpiry p) (onGuard p (limitEnded d) d) :=
  if_pos (by simp [h])
end

/-! ### Trips (07 R297, R299, R300) -/

theorem portSrc2_row : ∀ p : Fin 32, (srcRow (portSrc p 2).val).isSome = true := by decide
theorem portSrc3_row : ∀ p : Fin 32, (srcRow (portSrc p 3).val).isSome = true := by decide

/-- A guard that is latched open. -/
def GuardLatched (p : Fin 32) (why : Nat) (d : Dev) : Prop := (d.guards[p.val]).state = .latched ∧ (d.guards[p.val]).latchWhy = why

section
variable {p : Fin 32} {d : Dev}

theorem latchGuard_latched (why openWhy : Nat) : GuardLatched p why (latchGuard p why openWhy d) := by simp [GuardLatched, latchGuard]

/-- The guard of a port that is stopped stays latched. -/
theorem stopByHub_latched {why : Nat} (openWhy : Nat) (h : GuardLatched p why d) : GuardLatched p why (stopByHub p openWhy d) := by
  obtain ⟨hstate, hwhy⟩ := h
  have hoff : guardOn d.guards[p.val] = false := by simp [guardOn, hstate]
  have hstop : (stopPort p openWhy d).guards[p.val] = d.guards[p.val] := by simp [stopPort, openGuard, hoff]
  have hhub : (stopByHub p openWhy d).guards[p.val] = d.guards[p.val] := by
    unfold stopByHub toDie
    split <;> split <;> simp [hstop]
  exact ⟨(congrArg Guard.state hhub).trans hstate, (congrArg Guard.latchWhy hhub).trans hwhy⟩

/-- ErrorRecovery leaves a latched guard latched (07 R300). -/
theorem errorRecovery_latched {why : Nat} (openWhy : Nat) (h : GuardLatched p why d) : GuardLatched p why (errorRecovery p openWhy d) := by
  obtain ⟨hstate, hwhy⟩ := stopByHub_latched (d := stopTimers (tcTimers p) d) openWhy (by simpa [GuardLatched] using h)
  unfold errorRecovery
  dsimp only
  split
  · exact h
  · split
    · unfold onlyIf
      split <;> simp [GuardLatched, presentOpen, hstate, hwhy]
    · split <;> simp [GuardLatched, presentOpen, hstate, hwhy]
end

/-- What a port must be for a trip of its guard to bring it to ErrorRecovery (03 R105, 07 R300). -/
structure TripsToRecovery (p : Fin 32) (d : Dev) : Prop where
  port : hasPort d p = true
  notDisabled : (d.ports[p.val]).tc ≠ .disabled
  notRecovering : (d.ports[p.val]).tc ≠ .errorRecovery
  notMinimal : (d.ports[p.val]).tc ≠ .minimal
  notDisabling : (d.pd[p.val]).disabling = false
  link : lostPort d p = false

/-- A port whose guard tripped: latched open with its cause, stopped, in ErrorRecovery, the source of the trip latched (07 R300). -/
structure Tripped (p : Fin 32) (n : Fin 768) (why : Nat) (d : Dev) : Prop where
  state : (d.guards[p.val]).state = .latched
  latchWhy : (d.guards[p.val]).latchWhy = why
  stopped : (d.loops[p.val]).switching = false
  tc : (d.ports[p.val]).tc = .errorRecovery
  latch : (d.sources[n.val]).latch = true

section
variable {p : Fin 32} {d x : Dev}

/-- The conditions rest on the port, its configuration, its disable and its link. -/
theorem TripsToRecovery.congr (h : TripsToRecovery p d) (hcfg : x.cfg = d.cfg) (hports : x.ports = d.ports)
    (hpd : (x.pd[p.val]).disabling = (d.pd[p.val]).disabling) (hsys : x.sys = d.sys) : TripsToRecovery p x where
  port := by simpa [hasPort, hcfg] using h.port
  notDisabled := by rw [hports]; exact h.notDisabled
  notRecovering := by rw [hports]; exact h.notRecovering
  notMinimal := by rw [hports]; exact h.notMinimal
  notDisabling := hpd.trans h.notDisabling
  link := (lostPort_of p hsys).trans h.link

theorem latchGuard_disabling (why openWhy : Nat) : ((latchGuard p why openWhy d).pd[p.val]).disabling = (d.pd[p.val]).disabling := by
  simp [latchGuard, phasesMid]

/-- The course of every trip (07 R300): the guard latches, the source is raised, the port goes to ErrorRecovery. -/
theorem trip_course {n : Fin 768} (why openWhy recoverWhy : Nat) (h : TripsToRecovery p d) (hq : Quiet d n) (hr : (srcRow n.val).isSome = true) :
    Tripped p n why (errorRecovery p recoverWhy (raise n (latchGuard p why openWhy d))) := by
  have hquiet : Quiet (latchGuard p why openWhy d) n := quiet_of hq (by simp) (by simp)
  obtain ⟨hports, hguards, -⟩ := raise_quiet_power hquiet
  have hgoes : TripsToRecovery p (raise n (latchGuard p why openWhy d)) :=
    h.congr (by simp [raise_quiet hquiet]) (by simp [hports]) (by simp [raise_quiet_pd hquiet, latchGuard_disabling]) (by simp [raise_quiet hquiet])
  obtain ⟨htc, hswitching, -⟩ := errorRecovery_port recoverWhy hgoes.port hgoes.notDisabled hgoes.notRecovering hgoes.notDisabling hgoes.notMinimal hgoes.link
  have hlatched : GuardLatched p why (raise n (latchGuard p why openWhy d)) := by
    unfold GuardLatched
    rw [hguards]
    exact latchGuard_latched why openWhy
  obtain ⟨hstate, hwhy⟩ := errorRecovery_latched recoverWhy hlatched
  exact ⟨hstate, hwhy, hswitching, htc, by simpa using raise_latch hquiet hr⟩

theorem Tripped.settled {n : Fin 768} {why : Nat} (h : Tripped p n why d) (a : Dev) : Tripped p n why (settle a d) :=
  { state := h.state, latchWhy := h.latchWhy, stopped := h.stopped, tc := h.tc, latch := h.latch }

/-- A trip by the fault timer or a short, whatever its counter noted before (07 R297). -/
theorem guardTrip_trips (why : Nat) (f : Guard → Guard) (h : TripsToRecovery p d) (hq : Quiet d (portSrc p 2)) :
    Tripped p (portSrc p 2) why (guardTrip p why (onGuard p f d)) :=
  trip_course why why why (h.congr (by simp) (by simp) (by simp) (by simp)) (quiet_of hq (by simp) (by simp)) (portSrc2_row p)

theorem fxGuardFaultTimerExpiry_trips (h : TripsToRecovery p d) (hl : (d.guards[p.val]).state = .limiting) (hq : Quiet d (portSrc p 2)) :
    Tripped p (portSrc p 2) 2 (fxGuardFaultTimerExpiry p d) := by
  rw [show fxGuardFaultTimerExpiry p d = _ from if_pos (by simp [hl])]
  exact guardTrip_trips 2 _ (h.congr (by simp) (by simp) (by simp) (by simp)) (quiet_of hq (by simp) (by simp))

theorem fxGuardShortTrip_trips (h : TripsToRecovery p d) (ho : guardOn d.guards[p.val] = true) (hq : Quiet d (portSrc p 2)) :
    Tripped p (portSrc p 2) 1 (fxGuardShortTrip p d) := by
  rw [show fxGuardShortTrip p d = _ from if_pos ho]
  exact guardTrip_trips 1 _ h hq

theorem fxGuardTemp_trips {byVds : Bool} (h : TripsToRecovery p d) (ho : (if byVds then (d.guards[p.val]).state == .closed else guardOn d.guards[p.val]) = true)
    (hq : Quiet d (portSrc p 3)) : Tripped p (portSrc p 3) (if byVds then 4 else 3) (fxGuardTemp p byVds d) := by
  rw [show fxGuardTemp p byVds d = _ from if_pos ho]
  exact trip_course _ 4 4 (h.congr (by simp) (by simp) (by simp) (by simp)) (quiet_of hq (by simp) (by simp)) (portSrc3_row p)
end

/-! ### Re-arms and the discharge (07 R301, R302) -/

section
variable {p : Fin 32} {d : Dev}

/-- A port with no debounced condition attaches nothing (03 R107). -/
theorem tryAttach_idle (h : (d.pd[p.val]).deb = false) : tryAttach p d = d := by simp [tryAttach, h]

/-- The guard of a port noted as cooled, its estimate at its release level (07 R301; log entry 38). -/
def cooled (p : Fin 32) (d : Dev) : Dev := onGuard p (fun g => { g with therm := min g.therm ((diePort d p).pguard / 16) }) d

theorem fxDeferredRearm_rearms (hd : (d.guards[p.val]).rearmDue = true) (hl : (d.guards[p.val]).state = .latched) (hn : (d.guards[p.val]).rearms60 < 3)
    (hb : (d.pd[p.val]).deb = false) : fxDeferredRearm p d = doRearm p (cooled p d) := by
  rw [show fxDeferredRearm p d = tryAttach p (doRearm p (cooled p d)) from if_pos (by simp [hd, hl, hn])]
  exact tryAttach_idle (by simpa [cooled] using hb)

theorem within_doRearm : Within [.guards, .timers] p d (doRearm p d) := ⟨sameBut_iff.mpr (by simp), fun q hq => by simp [hq]⟩

/-- A guard that is armed again is open, and its re-arm counts (07 R301). -/
theorem doRearm_guard : ((doRearm p d).guards[p.val]).state = .openG ∧ ((doRearm p d).guards[p.val]).latchWhy = 0 ∧
    ((doRearm p d).guards[p.val]).rearmDue = false ∧ ((doRearm p d).guards[p.val]).rearms = inc8 (d.guards[p.val]).rearms ∧
    ((doRearm p d).guards[p.val]).rearms60 = (d.guards[p.val]).rearms60 + 1 := by
  simp [doRearm]

theorem fxDischargeDone_ends (h : (d.guards[p.val]).discharge = true) :
    fxDischargeDone p d = guardEvent p 8 (onGuard p (fun g => { g with discharge := decide ((d.ports[p.val]).tc = .disabled) }) d) :=
  if_pos h
end

/-- Settles O32: closing, limiting, re-arms and the discharge by what they change of the guard; the four trips by their one course. -/
theorem guardsCloseLimitAndLatch : Obligations.GuardsCloseLimitAndLatch := by
  unfold Obligations.GuardsCloseLimitAndLatch
  intro s p
  refine ⟨fun hw ho hv he => ?_, fun hc hl => ?_, fun b hb => ?_, fun hl => ?_, fun hp hdisabled hrecovering hminimal hdisabling hlink => ?_,
    fun hd hl hn hb => ?_, ?_, fun hd => ?_⟩
  · refine next_of_act (exec_guardCloseStart ..) ?_
    rw [fxGuardCloseStart_closes hw ho hv he]
    exact ⟨by simp, (within_onGuard ..).settled s.dev⟩
  · refine next_of_act (exec_guardClosed ..) ?_
    rw [fxGuardClosed_reports hc hl]
    obtain ⟨hstate, htc⟩ := onClosed_leaves p (guardShut p s.dev)
    refine ⟨hstate.trans (by simp [guardShut]), htc.trans (by simp [guardShut]), fun hs => ?_⟩
    rw [onClosed_still (pdSource_guardShut.trans hs)]
    exact within_guardShut.settled s.dev
  · refine next_of_act (exec_guardLimitStart ..) ?_
    rw [fxGuardLimitStart_limits b hb]
    exact ⟨by simp [limitStarted], by simp [limitStarted], by simp [limitStarted], by simp [limitStarted],
      (((within_onGuard ..).mono (by simp)).trans ((within_startTimer ..).mono (by simp))).settled s.dev⟩
  · refine next_of_act (exec_guardLimitEnd ..) ?_
    rw [fxGuardLimitEnd_ends hl]
    exact ⟨by simp [limitEnded], by simp [limitEnded], by simp [limitEnded],
      (((within_onGuard ..).mono (by simp)).trans ((within_stopTimer ..).mono (by simp))).settled s.dev⟩
  · have htrips : TripsToRecovery p s.dev := ⟨hp, hdisabled, hrecovering, hminimal, hdisabling, hlink⟩
    refine ⟨fun hl hq => ?_, fun ho hq => ?_, fun ho hq => ?_, fun hc hq => ?_⟩
    · have h := (fxGuardFaultTimerExpiry_trips htrips hl hq).settled s.dev
      exact next_of_act (exec_guardFaultTimerExpiry ..) ⟨h.state, h.latchWhy, h.stopped, h.tc, h.latch⟩
    · have h := (fxGuardShortTrip_trips htrips ho hq).settled s.dev
      exact next_of_act (exec_guardShortTrip ..) ⟨h.state, h.latchWhy, h.stopped, h.tc, h.latch⟩
    · have h := (fxGuardTemp_trips (byVds := false) htrips ho hq).settled s.dev
      exact next_of_act (exec_guardTemp ..) ⟨h.state, h.latchWhy, h.stopped, h.tc, h.latch⟩
    · have h := (fxGuardTemp_trips (byVds := true) htrips (beq_iff_eq.mpr hc) hq).settled s.dev
      exact next_of_act (exec_guardTemp ..) ⟨h.state, h.latchWhy, h.stopped, h.tc, h.latch⟩
  · refine next_of_act (exec_deferredRearm ..) ?_
    rw [fxDeferredRearm_rearms hd hl hn hb]
    obtain ⟨hstate, hwhy, hdue, hrearms, hrearms60⟩ := doRearm_guard (p := p) (d := cooled p s.dev)
    exact ⟨hstate, hwhy, hdue, hrearms.trans (by simp [cooled]), hrearms60.trans (by simp [cooled]),
      (((within_onGuard ..).mono (by simp)).trans within_doRearm).settled s.dev⟩
  · exact next_of_act (exec_rearmAgeOut ..) ⟨by simp [fxRearmAgeOut], (within_onGuard ..).settled s.dev⟩
  · refine next_of_act (exec_dischargeDone ..) ?_
    rw [fxDischargeDone_ends hd]
    exact ⟨by simp, by simp, ((within_onGuard ..).trans (within_guardEvent ..)).settled s.dev⟩

end Sys2Proof.Machine
end

section
/-! SUPPORT. The switching cycle of a port (05 R201, R210, R216; log entry 40), and the statement about it. -/

namespace Sys2Proof.Machine

/-- VC is clamped between 0.30 V and 1.50 V (05 R201). -/
theorem clampVc_bounds (v : Nat) : 12000 ≤ clampVc v ∧ clampVc v ≤ 60000 := by
  unfold clampVc
  omega

/-- With VC no higher than 1.50 V the threshold is at most 15 A (05 R201). -/
theorem ithOf_le {vc : Nat} (h : vc ≤ 60000) : ithOf vc ≤ 15000 := by
  unfold ithOf
  omega

/-- Pulses are skipped where the section lets the loop, at a current below its ISKIP (05 R210). -/
theorem skipsPulses_only {d : Dev} {p : Fin 32} {k : LoopCfg} {ith : Nat} (h : skipsPulses d p k ith = true) :
    k.lflags.getLsbD 1 = true ∧ (d.chans[(iportCh p).val]).result.toInt < k.iskip := by
  simp only [skipsPulses, Bool.and_eq_true, decide_eq_true_eq] at h
  obtain ⟨⟨hflag, hcurrent⟩, -⟩ := h
  exact ⟨hflag, hcurrent⟩

/-- What a cycle makes of the loop before it is counted: VC from a sample, and whether pulses are skipped (05 R201, R210). -/
def cycleLoop (d : Dev) (p : Fin 32) (v : Nat) (forced : Bool) (l : Loop) : Loop :=
  { l with vc := clampVc v, skipping := skipsPulses d p (loopCfg d p) (ithOf (clampVc v)), deForced := forced }

/-- A cycle sets the loop from a sample and then, where a phase gave a pulse, counts it (05 R201 to R216). -/
theorem portCycle_cases (p : Fin 32) (d : Dev) : ∃ v forced x, x.loops = upd d.loops p (cycleLoop d p v forced) ∧
    (portCycle p d = x ∨ ∃ lim, portCycle p d = countCycle p lim x) := by
  unfold portCycle
  dsimp only
  split
  · exact ⟨_, _, _, rfl, .inl rfl⟩
  · split
    · exact ⟨_, _, _, by simp <;> rfl, .inl rfl⟩
    · split
      · exact ⟨_, _, _, by simp <;> rfl, .inr ⟨_, rfl⟩⟩
      · exact ⟨_, _, _, by simp <;> rfl, .inl rfl⟩

section
variable (p : Fin 32) (x : Dev)

/-- A cycle without a limited phase adds to the run, and 256 of them clear LC (05 R216). -/
theorem countCycle_unlimited : (countCycle p [] x).loops[p.val] = { x.loops[p.val] with
    run := sat 256 ((x.loops[p.val]).run + 1), lc := if sat 256 ((x.loops[p.val]).run + 1) = 256 then 0 else (x.loops[p.val]).lc } := by
  simp [countCycle]

variable (n : Fin 64) (ns : List (Fin 64))

/-- A limited cycle ends the run and adds 1 to LC (05 R216). -/
theorem countCycle_limited : (countCycle p (n :: ns) x).loops[p.val] = { x.loops[p.val] with run := 0, lc := sat 8191 ((x.loops[p.val]).lc + 1) } := by
  simp [countCycle]

/-- An exceeded allowance falls due for the lowest limited phase (05 R216). -/
theorem countCycle_exceeded
    (h : (if (x.loops[p.val]).ramping = true ∨ (x.loops[p.val]).softStart = true then (loopCfg x p).nStart else (loopCfg x p).nRun) < (x.loops[p.val]).lc + 1) :
    (x.tmr.tb, .limitAllowanceExceeded p n) ∈ (countCycle p (n :: ns) x).timers := by
  unfold countCycle
  dsimp only
  rw [decide_eq_true (by simpa using h), onlyIf_true]
  simp [post]

/-- Beside its counts a cycle leaves the loop. -/
theorem countCycle_leaves (lim : List (Fin 64)) : ((countCycle p lim x).loops[p.val]).vc = (x.loops[p.val]).vc ∧
    ((countCycle p lim x).loops[p.val]).skipping = (x.loops[p.val]).skipping := by
  cases lim with
  | nil => simp [countCycle_unlimited]
  | cons n ns => simp [countCycle_limited]
end

/-- The loop after a cycle shows a clamped VC, and skips pulses only by its section and its current. -/
theorem portCycle_loop (p : Fin 32) (d : Dev) : ∃ v, ((portCycle p d).loops[p.val]).vc = clampVc v ∧
    ((portCycle p d).loops[p.val]).skipping = skipsPulses d p (loopCfg d p) (ithOf (clampVc v)) := by
  obtain ⟨v, forced, x, hx, hcycle⟩ := portCycle_cases p d
  have hself : x.loops[p.val] = cycleLoop d p v forced d.loops[p.val] := by rw [hx, upd_self]
  rcases hcycle with h | ⟨lim, h⟩
  · rw [h, hself]
    exact ⟨v, rfl, rfl⟩
  · obtain ⟨hvc, hskipping⟩ := countCycle_leaves p x lim
    rw [h, hvc, hskipping, hself]
    exact ⟨v, rfl, rfl⟩

/-- Settles O59, by the loop that a cycle sets and the two ways it is counted. -/
theorem cyclesClampAndCount : Obligations.CyclesClampAndCount := by
  unfold Obligations.CyclesClampAndCount
  intro d p
  obtain ⟨v, hvc, hskipping⟩ := portCycle_loop p d
  obtain ⟨hlow, hhigh⟩ := clampVc_bounds v
  refine ⟨?_, fun hskips => skipsPulses_only (hskipping.symm.trans hskips), fun q hq => by simp [hq], sameBut_iff.mpr (by simp),
    countCycle_unlimited p, fun x n ns => ⟨?_, countCycle_exceeded p x n ns⟩⟩
  · simp only [Fin.getElem_fin, hvc]
    exact ⟨hlow, hhigh, ithOf_le hhigh⟩
  · simp [countCycle_limited]

end Sys2Proof.Machine
end

section
/-! SUPPORT. Writes of the owner (00 R7, 12 R460), and events of a channel, of a converter and of a sequence (06 R267, R269). -/

namespace Sys2Proof.Machine

theorem ownerWrite_owner {m : Fin 5} {d : Dev} (f : Dev → Dev) (h : isOwner d m = true) : ownerWrite m f d = f d := if_pos h

theorem ownerWrite_other {m : Fin 5} {d : Dev} (f : Dev → Dev) (h : isOwner d m = false) : ownerWrite m f d = refuse m d := if_neg (by simp [h])

@[simp] theorem chanEvent_chans (c : Fin 204) (i : Nat) (d : Dev) :
    (chanEvent c i d).chans = upd d.chans c fun x => { x with event := setBit x.event i } := (rfl)

@[simp] theorem convEvent_convs (cv : Fin 5) (i : Nat) (d : Dev) :
    (convEvent cv i d).convs = upd d.convs cv fun x => { x with event := setBit x.event i } := (rfl)

@[simp] theorem onSeq_convs (cv : Fin 5) (sq : Fin 16) (f : Sequence → Sequence) (d : Dev) :
    (onSeq cv sq f d).convs = upd d.convs cv fun x => { x with seqs := upd x.seqs sq f } := (rfl)

end Sys2Proof.Machine
end

section
/-! SUPPORT. Changes of zone (06 R237, R240, R243 to R248, R267, 03 R107), and the statement about them. -/

namespace Sys2Proof.Machine

theorem exec_monitorZoneChange (ch : Fin 204) (z : Zone) (t : Nat) (s : State) :
    exec (.monitorZoneChange ch z t) s = act (fxMonitorZoneChange ch z t) s := by rfl
theorem exec_channelSettle (ch : Fin 204) (z : Zone) (t : Nat) (s : State) : exec (.channelSettle ch z t) s = act (fxChannelSettle ch z t) s := by rfl
theorem exec_settle (m : Fin 5) (ch : Fin 204) (a b : Bool) (s : State) : exec (.settle m ch a b) s = act (fxSettle m ch a b) s := by rfl
theorem exec_channelHoldEnd (ch : Fin 204) (z : Zone) (t : Nat) (s : State) : exec (.channelHoldEnd ch z t) s = act (fxChannelHoldEnd ch z t) s := by rfl

/-! ### What the hub notes of a change of zone (06 R245 to R247) -/

/-- A channel that entered a zone: filters, count and event. -/
def zoneEntered (ch : Fin 204) (z : Zone) (x : Chan) : Chan :=
  { chanFilter ch z x with changes := wrapInc 16 x.changes, event := setBit x.event (zoneEvent z) }

/-- The block that noted a change of zone, and captured it where the channel asks for it. -/
def zoneNoted (ch : Fin 204) (z : Zone) (t : Nat) (d : Dev) : Dev :=
  onlyIf ((d.chans[ch]).route.getLsbD 1) (capture (d.chans[ch]).capt ch z t) (onChan ch (zoneEntered ch z) d)

theorem upd_upd {α : Type} {n : Nat} (v : Vector α n) (i : Fin n) (f g : α → α) : upd (upd v i f) i g = upd v i (g ∘ f) := by simp [upd]

theorem onChan_onChan (ch : Fin 204) (f g : Chan → Chan) (d : Dev) : onChan ch g (onChan ch f d) = onChan ch (g ∘ f) d := by
  simp only [onChan, upd_upd]

section
variable (ch : Fin 204) (z : Zone) (t : Nat) (d : Dev)

/-- After the change is noted a wake and the port behind the channel follow. -/
theorem zoneHub_noted : zoneHub ch z t d = portZone ch (d.chans[ch.val]).zone z t
    (onlyIf ((d.chans[ch.val]).route.getLsbD 2 && (d.sys.mode == .standby) && isWindow ch) wakeUp (standbyStamp ch t (zoneNoted ch z t d))) := by
  unfold zoneHub zoneNoted chanEvent
  rw [onChan_onChan]
  rfl

@[simp] theorem capture_convs (i : Fin 16) : (capture i ch z t d).convs = d.convs := by
  unfold capture
  dsimp only
  split <;> rfl

@[simp] theorem zoneNoted_chans : (zoneNoted ch z t d).chans = upd d.chans ch (zoneEntered ch z) := by simp [zoneNoted]

theorem sameBut_zoneNoted : SameBut [.chans, .itms, .tmr] d (zoneNoted ch z t d) := sameBut_iff.mpr (by simp [zoneNoted])

theorem sameBut_zoneTriggers : SameBut [.convs] d (zoneTriggers ch t d) := sameBut_iff.mpr (by simp)
end

/-- A window channel shows the zone it entered, in its trips too (06 R237, R238). -/
theorem zoneEntered_window {ch : Fin 204} {z : Zone} (x : Chan) (hz : z ≠ .unsettled) (hw : isWindow ch = true) : zoneEntered ch z x = { x with
    histHi := List.replicate (filterLen x) (z == .above), tripHi := z == .above
    histLo := List.replicate (filterLen x) (z == .below), tripLo := z == .below
    zone := z, changes := wrapInc 16 x.changes, event := setBit x.event (zoneEvent z) } := by
  simp [zoneEntered, chanFilter_eq hz, hw]

/-! ### Changes of zone that end with their channel (06 R245) -/

/-- The role is that of a pin of a port: CC1, CC2 or VBUS (03 R107, 06 R232). -/
def ChanRole.onPins : ChanRole → Bool
  | .cc1 _ | .cc2 _ | .vbus _ => true
  | _ => false

theorem chanRole_onPins (ch : Fin 204) : (chanRole ch).onPins = decide (ch.val < 128 ∧ ch.val % 4 < 3) := by
  unfold chanRole
  by_cases hp : ch.val < 128
  · have hpin : ch.val % 4 = 0 ∨ ch.val % 4 = 1 ∨ ch.val % 4 = 2 ∨ ch.val % 4 = 3 := by omega
    rcases hpin with h | h | h | h <;> simp [hp, h, ChanRole.onPins]
  · simp only [hp, if_false]
    repeat' split
    all_goals simp [ChanRole.onPins]

/-- No port follows a change of zone of the channel, and it wakes nothing (09 R381, 15 R564). -/
def ZoneAlone (d : Dev) (ch : Fin 204) : Prop :=
  (¬(ch.val < 128 ∧ ch.val % 4 < 3) ∨ isShadow d = true) ∧
  (((d.chans[ch.val]).route.getLsbD 2 = false ∧ ¬(ch.val < 128 ∧ ch.val % 4 < 3)) ∨ d.sys.mode ≠ .standby)

theorem ZoneAlone.of_same {a b : Dev} {ch : Fin 204} (h : ZoneAlone a ch) (htwin : b.twin = a.twin) (hsys : b.sys = a.sys)
    (hroute : (b.chans[ch.val]).route = (a.chans[ch.val]).route) : ZoneAlone b ch := by
  unfold ZoneAlone isShadow at *
  rwa [htwin, hsys, hroute]

section
variable {ch : Fin 204} {d : Dev}

theorem portZone_still {old new : Zone} (t : Nat) (h : ¬(ch.val < 128 ∧ ch.val % 4 < 3) ∨ isShadow d = true) : portZone ch old new t d = d := by
  unfold portZone
  rcases h with hpins | hshadow
  · have hrole : (chanRole ch).onPins = false := (chanRole_onPins ch).trans (decide_eq_false hpins)
    cases hc : chanRole ch <;> simp [hc, ChanRole.onPins] at hrole ⊢
  · simp [hshadow]

theorem standbyStamp_still (t : Nat) (h : ¬(ch.val < 128 ∧ ch.val % 4 < 3) ∨ d.sys.mode ≠ .standby) : standbyStamp ch t d = d := by
  unfold standbyStamp
  rcases h with hpins | hmode
  · have hrole : (chanRole ch).onPins = false := (chanRole_onPins ch).trans (decide_eq_false hpins)
    cases hc : chanRole ch <;> simp [hc, ChanRole.onPins] at hrole ⊢
  · simp [hmode]

theorem zoneHub_alone (z : Zone) (t : Nat) (h : ZoneAlone d ch) : zoneHub ch z t d = zoneNoted ch z t d := by
  obtain ⟨hport, hwake⟩ := h
  have hsys : (zoneNoted ch z t d).sys = d.sys := sameBut_zoneNoted ch z t d .sys (by simp)
  have hshadow : isShadow (zoneNoted ch z t d) = isShadow d := congrArg (fun x : Twin => x.role == 2) (by simp [zoneNoted])
  have hnone : ((d.chans[ch.val]).route.getLsbD 2 && (d.sys.mode == .standby) && isWindow ch) = false := by
    rcases hwake with ⟨hroute, -⟩ | hmode
    · rw [hroute, Bool.false_and, Bool.false_and]
    · simp [hmode]
  rw [zoneHub_noted, hnone, onlyIf_false, standbyStamp_still t (hwake.imp And.right (by rw [hsys]; exact id)), portZone_still t (by rwa [hshadow])]

/-- A change of zone that ends with its channel changes the channel, its captures, and the sequences it triggers. -/
theorem zoneTo_alone (z : Zone) (t : Nat) (h : ZoneAlone d ch) : (zoneTo ch z t d).chans = upd d.chans ch (zoneEntered ch z) ∧
    (zoneTo ch z t d).ports = d.ports ∧ SameBut [.chans, .convs, .itms, .tmr] d (zoneTo ch z t d) := by
  have heq : zoneTo ch z t d = zoneNoted ch z t (zoneTriggers ch t d) := zoneHub_alone z t (h.of_same (by simp) (by simp) (by simp))
  have hsame : SameBut [.chans, .convs, .itms, .tmr] d (zoneTo ch z t d) := by
    rw [heq]
    exact ((sameBut_zoneTriggers ch t d).mono (by simp)).trans ((sameBut_zoneNoted ch z t _).mono (by simp))
  exact ⟨by simp [heq], hsame .ports (by simp), hsame⟩
end

/-! ### The end of UNSETTLED (06 R243, R244) -/

@[simp] theorem settled_chans (ch : Fin 204) (d : Dev) :
    (settled ch d).chans = upd d.chans ch fun x => { x with unsetHi := false, unsetLo := false, event := setBit x.event 3 } := by
  unfold settled chanEvent
  rw [onChan_onChan]
  rfl

theorem sameBut_settled (ch : Fin 204) (d : Dev) : SameBut [.chans] d (settled ch d) := sameBut_iff.mpr (by simp [settled])

/-- A channel that no port follows enters its zone settled. -/
theorem leaveUnsettled_alone {ch : Fin 204} {d : Dev} (z : Zone) (t : Nat) (h : ZoneAlone d ch) :
    (leaveUnsettled ch z t d).chans = upd (settled ch d).chans ch (zoneEntered ch z) ∧ (leaveUnsettled ch z t d).ports = d.ports ∧
    SameBut [.chans, .convs, .itms, .tmr] d (leaveUnsettled ch z t d) := by
  have hsettled := sameBut_settled ch d
  obtain ⟨hchans, -, hzone⟩ := zoneTo_alone z t (h.of_same (b := settled ch d) (by simp [settled]) (hsettled .sys (by simp)) (by simp))
  have hsame : SameBut [.chans, .convs, .itms, .tmr] d (leaveUnsettled ch z t d) := (hsettled.mono (by simp)).trans hzone
  exact ⟨hchans, hsame .ports (by simp), hsame⟩

/-- The zone of the sides that the owner finds: above the middle of the upper band, and of the lower one (06 R244). -/
def sideZone (aboveHi aboveLo : Bool) : Zone := if aboveHi then .above else if aboveLo then .inWin else .below

theorem sideZone_settled (a b : Bool) : sideZone a b ≠ .unsettled := by cases a <;> cases b <;> decide

/-- The block whose owner wrote SETTLE: journalled, and the channel forced (06 R244). -/
def settleWritten (m : Fin 5) (ch : Fin 204) (d : Dev) : Dev :=
  onChan ch (fun x => { x with forced := true })
    (journalWrite 7 (if ch.val < 192 then 0x20018 + 0x40 * ch.val else 0x23018 + 0x40 * (ch.val - 192)) 1 m ch.val d)

/-! ### The commands of a channel that runs, over a standing link (06 R237, R240, R243, R244) -/

section
variable {ch : Fin 204} {d : Dev} (hr : chanRuns d ch = true) (he : (d.chans[ch.val]).enabled = true)
  (hl : d.sys.retraining[(dieOf ch).val] = false)
include hr he hl

theorem fxMonitorZoneChange_enters {z : Zone} (t : Nat) (hf : (d.chans[ch.val]).frozen = false) (hz : z ≠ .unsettled)
    (hs : (d.chans[ch.val]).zone ≠ .unsettled) (hne : (d.chans[ch.val]).zone ≠ z) : fxMonitorZoneChange ch z t d = zoneTo ch z t d := by
  have hmoves : zoneMoves d ch z = true := by simp [zoneMoves, he, hf, hz, hs, hne]
  simp [fxMonitorZoneChange, hr, hl, hmoves]

theorem fxChannelSettle_enters {z : Zone} (t : Nat) (hs : (d.chans[ch.val]).zone = .unsettled) (hz : z ≠ .unsettled) (hw : isWindow ch = true) :
    fxChannelSettle ch z t d = leaveUnsettled ch z t d := by
  simp [fxChannelSettle, zoneOpens, hr, he, hl, hs, hz, hw]

/-- With both thresholds within their bands the sides that the owner finds choose the zone (06 R244). -/
theorem settleForce_enters (m : Fin 5) (a b : Bool) (hs : (d.chans[ch.val]).zone = .unsettled) (hhi : (d.chans[ch.val]).unsetHi = true)
    (hlo : (d.chans[ch.val]).unsetLo = true) (hw : isWindow ch = true) : settleForce m ch a b d =
      leaveUnsettled ch (sideZone a b) d.tmr.tb (settleWritten m ch d) := by
  unfold settleForce settleWritten sideZone
  cases b <;> simp [hr, he, hl, hs, hhi, hlo, hw]
end

/-! ### The end of a hold (06 R240, 03 R101) -/

section
variable {ch : Fin 204} {d : Dev} (t : Nat)

theorem fxChannelHoldEnd_early (z : Zone) (h : d.tmr.tb < (d.chans[ch.val]).holdEnd) : fxChannelHoldEnd ch z t d = d := by
  simp [fxChannelHoldEnd, h]

/-- A channel whose zone is the one it held is released, and its port looks at its pins again. -/
theorem fxChannelHoldEnd_releases (hf : (d.chans[ch.val]).frozen = true) (he : (d.chans[ch.val]).holdEnd ≤ d.tmr.tb) :
    fxChannelHoldEnd ch (d.chans[ch.val]).zone t d = portZone ch (d.chans[ch.val]).zone (d.chans[ch.val]).zone t
      (stopTimersIf (isHoldEnd ch) (onChan ch (fun x => { x with frozen := false }) d)) := by
  simp [fxChannelHoldEnd, hf, Nat.not_lt.mpr he]
end

/-! ### A waiting source port sees a sink (03 R107) -/

theorem chanRuns_awake {ch : Fin 204} {d : Dev} (hs : d.sys.mode ≠ .standby) (hd : d.sys.mode ≠ .dormant) : chanRuns d ch = true := by
  unfold chanRuns
  split
  · exact absurd ‹_› hd
  · exact absurd ‹_› hs
  · rfl

theorem chanRole_cc1 (p : Fin 32) : chanRole (cc1 p) = .cc1 p := by revert p; decide
theorem isWindow_cc1 (p : Fin 32) : isWindow (cc1 p) = true := by revert p; decide
theorem cc2_ne_cc1 (p : Fin 32) : cc2 p ≠ cc1 p := by revert p; decide

section
variable {p : Fin 32} {d : Dev}

theorem portZone_cc1 {old new : Zone} (t : Nat) (hs : isShadow d = false) (hm : d.sys.mode ≠ .standby) :
    portZone (cc1 p) old new t d = ccEval p t d := by
  simp [portZone, hs, hm, chanRole_cc1]

theorem zoneHub_cc1 (z : Zone) (t : Nat) (hs : isShadow d = false) (hm : d.sys.mode ≠ .standby) :
    zoneHub (cc1 p) z t d = ccEval p t (zoneNoted (cc1 p) z t d) := by
  have hsys : (zoneNoted (cc1 p) z t d).sys = d.sys := sameBut_zoneNoted (cc1 p) z t d .sys (by simp)
  have hmode : (zoneNoted (cc1 p) z t d).sys.mode ≠ .standby := by rwa [hsys]
  have hshadow : isShadow (zoneNoted (cc1 p) z t d) = false := (congrArg (fun x : Twin => x.role == 2) (by simp [zoneNoted])).trans hs
  rw [zoneHub_noted, beq_eq_false_iff_ne.mpr hm, Bool.and_false, Bool.false_and, onlyIf_false, standbyStamp_still t (.inr hmode), portZone_cc1 t hshadow hmode]

/-- Rd on CC1 alone is the attach condition of a source. -/
theorem rdPins_cc1 (h1 : (d.chans[(cc1 p).val]).zone = .inWin) (h2 : (d.chans[(cc2 p).val]).zone = .above) : rdPins d p = 1 := by
  simp [rdPins, rdOne, ccSettled, pinRd, ccZone, pinMask, b2n, h1, h2]

/-- A debounce that does not run starts, due from its stamp. -/
theorem debounce_starts {ev : Instr} {pins : Nat} (due : Nat) (hp : pins ≠ 0) (hd : (d.pd[p.val]).deb = false) :
    debounce p ev pins due d = startTimerAt ev due (onPd p (fun x => { x with deb := true, debPins := pins }) d) := by
  simp [debounce, hp, hd]

/-- An unattached source that sees a sink on CC1 waits for the debounce (03 R107). -/
theorem ccEval_sees_sink (t : Nat) (htc : (d.ports[p.val]).tc = .unattachedSrc) (hp : hasPort d p = true) (hd : (d.pd[p.val]).disabling = false)
    (hh : ccHeld d p = false) (h1 : (d.chans[(cc1 p).val]).zone = .inWin) (h2 : (d.chans[(cc2 p).val]).zone = .above) :
    ccEval p t d = startTimerAt (.tccdebounceExpiry p) (t + ticksOfMs (portCfg d p).debounce)
      (onPd p (fun x => { x with deb := true, debPins := 1 }) (onPd p (fun x => { x with deb := false })
        (stopTimer (.tdrpExpiry p) (setTc p .attachWaitSrc d)))) := by
  have hpins := rdPins_cc1 h1 h2
  unfold ccEval
  simp only [Fin.getElem_fin, htc, hp, hd, hh, hpins]
  rw [debounce_starts _ (by simp) (by simp)]
  rfl

/-- A sink on CC1 of an unattached source starts its debounce, counted from the stamp of the change (03 R107). -/
theorem zoneTo_sees_sink (t : Nat) (hs : isShadow d = false) (hm : d.sys.mode ≠ .standby) (htc : (d.ports[p.val]).tc = .unattachedSrc)
    (hp : hasPort d p = true) (hd : (d.pd[p.val]).disabling = false) (hf1 : (d.chans[(cc1 p).val]).frozen = false)
    (hf2 : (d.chans[(cc2 p).val]).frozen = false) (h2 : (d.chans[(cc2 p).val]).zone = .above) :
    ((zoneTo (cc1 p) .inWin t d).ports[p.val]).tc = .attachWaitSrc ∧ ((zoneTo (cc1 p) .inWin t d).pd[p.val]).deb = true ∧
    ((zoneTo (cc1 p) .inWin t d).chans[(cc1 p).val]).zone = .inWin ∧
    (t + ticksOfMs (portCfg d p).debounce, .tccdebounceExpiry p) ∈ (zoneTo (cc1 p) .inWin t d).timers := by
  rw [zoneTo, zoneHub_cc1 _ _ (show isShadow (zoneTriggers (cc1 p) t d) = false by simpa [isShadow] using hs) (by simpa using hm)]
  have hchans : (zoneNoted (cc1 p) .inWin t (zoneTriggers (cc1 p) t d)).chans = upd d.chans (cc1 p) (zoneEntered (cc1 p) .inWin) := by simp
  have hsame : SameBut [.chans, .convs, .itms, .tmr] d (zoneNoted (cc1 p) .inWin t (zoneTriggers (cc1 p) t d)) :=
    ((sameBut_zoneTriggers (cc1 p) t d).mono (by simp)).trans ((sameBut_zoneNoted (cc1 p) .inWin t _).mono (by simp))
  generalize zoneNoted (cc1 p) .inWin t (zoneTriggers (cc1 p) t d) = x at hchans hsame
  have hports : x.ports = d.ports := hsame .ports (by simp)
  have hpd : x.pd = d.pd := hsame .pd (by simp)
  have hcfg : x.cfg = d.cfg := hsame .cfg (by simp)
  have hcc1 : x.chans[(cc1 p).val] = zoneEntered (cc1 p) .inWin d.chans[(cc1 p).val] := by rw [hchans, upd_self]
  have hcc2 : x.chans[(cc2 p).val] = d.chans[(cc2 p).val] := by rw [hchans, upd_other _ _ (cc2_ne_cc1 p)]
  rw [zoneEntered_window _ (by simp) (isWindow_cc1 p)] at hcc1
  have hheld : ccHeld x p = false := by simp [ccHeld, hcc1, hcc2, hf1, hf2]
  have hport : hasPort x p = true := by rw [hasPort, hcfg]; exact hp
  have hdebounce : (portCfg x p).debounce = (portCfg d p).debounce := by rw [portCfg, hcfg]; rfl
  rw [ccEval_sees_sink t (by rw [hports]; exact htc) hport (by rw [hpd]; exact hd) hheld (by rw [hcc1]) (by rw [hcc2]; exact h2), hdebounce]
  refine ⟨by simp, by simp, by simp [hcc1], by simp [startTimerAt]⟩
end

/-- Settles O27: a change of zone, by itself or forced, by what it leaves where no port follows; the end of a hold; and the port that follows. -/
theorem channelsChangeZone : Obligations.ChannelsChangeZone := by
  unfold Obligations.ChannelsChangeZone
  intro s ch
  refine ⟨fun hport hwake hr he hl => ?_, fun t hport hf hend => ?_, fun t z hf hend => ?_,
    fun t p hch hs hm hdormant htc hp hd he hf hl hf2 h1 h2 => ?_⟩
  · have halone : ZoneAlone s.dev ch := ⟨hport, hwake⟩
    refine ⟨fun z t hf hz hset hw hne => ?_, fun z t hset hz hw => ?_, fun m a b ho hset hhi hlo hw => ?_⟩
    · refine next_of_act (exec_monitorZoneChange ..) ?_
      obtain ⟨hchans, -, hsame⟩ := zoneTo_alone z t halone
      rw [fxMonitorZoneChange_enters hr he hl t hf hz hset hne]
      simp only [settle_chans, Fin.getElem_fin, hchans, upd_self, zoneEntered_window _ hz hw]
      exact ⟨trivial, trivial, trivial, trivial, fun c hc => upd_other _ _ hc, hsame.settled s.dev⟩
    · refine next_of_act (exec_channelSettle ..) ?_
      obtain ⟨hchans, -, hsame⟩ := leaveUnsettled_alone z t halone
      rw [fxChannelSettle_enters hr he hl t hset hz hw]
      simp only [settle_chans, Fin.getElem_fin, hchans, upd_self, settled_chans, zoneEntered_window _ hz hw]
      exact ⟨trivial, trivial, trivial, fun c hc => by simp [upd_other _ _ hc], hsame.settled s.dev⟩
    · refine next_of_act (exec_settle ..) ?_
      obtain ⟨hchans, hports, -⟩ := leaveUnsettled_alone (sideZone a b) s.dev.tmr.tb
        (halone.of_same (b := settleWritten m ch s.dev) (by simp [settleWritten]) (by simp [settleWritten]) (by simp [settleWritten]))
      rw [fxSettle, ownerWrite_owner _ ho, settleForce_enters hr he hl m a b hset hhi hlo hw]
      simp only [settle_chans, Fin.getElem_fin, hchans, upd_self, settled_chans, zoneEntered_window _ (sideZone_settled a b) hw]
      exact ⟨rfl, by simp [settleWritten], trivial, trivial, hports.trans (by simp [settleWritten])⟩
  · refine next_of_act (exec_channelHoldEnd ..) ?_
    rw [show fxChannelHoldEnd ch (s.dev.chans[ch]).zone t s.dev = _ from fxChannelHoldEnd_releases t hf hend, portZone_still t (by exact hport)]
    exact ⟨rfl, SameBut.settled (sameBut_iff.mpr (by simp)) s.dev⟩
  · refine next_of_act (exec_channelHoldEnd ..) ?_
    rw [fxChannelHoldEnd_early t z hend]
    exact SameBut.settled (sameBut_iff.mpr (by simp)) s.dev
  · subst hch
    refine next_of_act (exec_monitorZoneChange ..) ?_
    rw [fxMonitorZoneChange_enters (chanRuns_awake hm hdormant) he hl t hf (by decide)
      (fun hu => absurd (h1.symm.trans hu) (by decide)) (fun hi => absurd (h1.symm.trans hi) (by decide))]
    exact zoneTo_sees_sink t hs hm htc hp hd hf hf2 h2

end Sys2Proof.Machine
end

section
/-! SUPPORT. Converters and their sequences (06 R257, R260 to R266, 02 R62), and the statement about them. -/

namespace Sys2Proof.Machine

theorem exec_converterTrigger (cv : Fin 5) (sq : Fin 16) (t : Nat) (s : State) :
    exec (.converterTrigger cv sq t) s = act (fxConverterTrigger cv sq t) s := by rfl
theorem exec_cvxTrig (m cv : Fin 5) (v : Word) (s : State) : exec (.cvxTrig m cv v) s = act (fxCvxTrig m cv v) s := by rfl
theorem exec_sequenceComplete (cv : Fin 5) (rs : List (BitVec 16)) (s : State) :
    exec (.sequenceComplete cv rs) s = act (fxSequenceComplete cv rs) s := by rfl
theorem exec_continuousResult (ch : Fin 204) (v : BitVec 16) (s : State) :
    exec (.continuousResult ch v) s = act (fxContinuousResult ch v) s := by rfl
theorem exec_seqEnDisable (m cv : Fin 5) (sq : Fin 16) (s : State) : exec (.seqEnDisable m cv sq) s = act (fxSeqEnDisable m cv sq) s := by rfl
theorem exec_contEnClear (m cv : Fin 5) (s : State) : exec (.contEnClear m cv) s = act (fxContEnClear m cv) s := by rfl
theorem exec_ressStampLoRead (m cv : Fin 5) (sq : Fin 16) (s : State) :
    exec (.ressStampLoRead m cv sq) s = act (fxRessStampLoRead m cv sq) s := by rfl

/-! ### Triggers (06 R261, R262, R265, 02 R62) -/

section
variable {cv : Fin 5} {sq : Fin 16} {d : Dev} (t : Nat) (h0 : sq ≠ 0) (he : (d.convs[cv.val]).seqEn.getLsbD sq.val = true)
  (hm : seqMembers d cv sq ≠ [])
include h0 he hm

/-- A trigger of an enabled sequence with members counts. -/
theorem trigger_counts : (decide (sq = 0) || !(d.convs[cv.val]).seqEn.getLsbD sq.val || (seqMembers d cv sq).isEmpty) = false := by
  rw [decide_eq_false h0, he, List.isEmpty_eq_false_iff.mpr hm]
  rfl

/-- On an idle converter the sequence starts. -/
theorem trigSeq_starts (hl : ((d.convs[cv.val]).seqs[sq.val]).lastTrig = none) (hr : (d.convs[cv.val]).running = none)
    (hw : ((d.convs[cv.val]).seqs[sq.val]).waiting = none) : trigSeq cv sq t d =
      onConv cv (fun c => { c with running := some (sq, t), startTb := d.tmr.tb }) (onSeq cv sq (fun q => { q with lastTrig := some t }) d) := by
  simp only [trigSeq, Fin.getElem_fin, trigger_counts h0 he hm]
  simp [hl, hr, hw]

/-- Behind another sequence the trigger waits, last in the order of arrival. -/
theorem trigSeq_waits {r : Fin 16} {t' : Nat} (hrs : r ≠ sq) (hl : ((d.convs[cv.val]).seqs[sq.val]).lastTrig = none)
    (hr : (d.convs[cv.val]).running = some (r, t')) (hw : ((d.convs[cv.val]).seqs[sq.val]).waiting = none) : trigSeq cv sq t d =
      onConv cv (fun c => { c with order := c.order ++ [sq] }) (onSeq cv sq (fun q => { q with waiting := some t })
        (onSeq cv sq (fun q => { q with lastTrig := some t }) d)) := by
  simp only [trigSeq, Fin.getElem_fin, trigger_counts h0 he hm]
  simp [hl, hr, hw, hrs]

/-- Within TMIN of the last trigger the new one is dropped. -/
theorem trigSeq_drops {t' : Nat} {k : TrigCfg} (hl : ((d.convs[cv.val]).seqs[sq.val]).lastTrig = some t') (hk : trigOf d cv sq = some k)
    (hkind : k.tkind ≠ 0) (hmin : t < t' + 50 * k.tmin) :
    trigSeq cv sq t d = convEvent cv 16 (onSeq cv sq (fun q => { q with drops := inc8 q.drops }) d) := by
  simp only [trigSeq, Fin.getElem_fin, trigger_counts h0 he hm]
  simp [hl, hk, hkind, hmin]
end

/-- A write of CVx_TRIG with one bit triggers the one sequence (06 R265). -/
theorem trigMany_one {cv : Fin 5} {sq : Fin 16} {d : Dev} (h0 : sq ≠ 0) : trigMany cv (BitVec.ofNat 32 (2 ^ sq.val)) d = trigSeq cv sq d.tmr.tb d := by
  have hone : ((indices 16).filter fun s => s.val != 0 && bit (BitVec.ofNat 32 (2 ^ sq.val)) s.val) = [sq] := by revert sq; decide
  unfold trigMany
  rw [hone]
  rfl

/-! ### The end of a sequence (06 R262 to R264) -/

/-- A sequence whose block is written, whole or not (06 R263, R264). -/
def blockWritten (t n : Nat) (cut : Bool) (valid : BitVec 16) (data : Vector (BitVec 16) 16) (q : Sequence) : Sequence :=
  let k := if cut then q.completions else wrapInc 16 q.completions
  { q with completions := k, incomplete := cut, block := { stamp := t, number := k, members := n, incomplete := cut, valid := valid, data := data } }

/-- A sequence ends: its block is written and the event of its converter is set. -/
def seqEnded (cv : Fin 5) (i : Nat) (sq : Fin 16) (t : Nat) (rs : List (BitVec 16)) (cut : Bool) (d : Dev) : Dev :=
  convEvent cv i (writeBlock cv sq t rs cut d)

section
variable (cv : Fin 5) (i : Nat) (sq : Fin 16) (t : Nat) (rs : List (BitVec 16)) (cut : Bool) (d : Dev)

theorem seqEnded_convs : ∃ valid data, (seqEnded cv i sq t rs cut d).convs[cv.val] = { d.convs[cv.val] with
    event := setBit (d.convs[cv.val]).event i
    seqs := upd (d.convs[cv.val]).seqs sq (blockWritten t (seqMembers d cv sq).length cut valid data) } :=
  ⟨_, _, by simp [seqEnded, writeBlock]; rfl⟩

theorem sameBut_seqEnded : SameBut [.convs, .chans] d (seqEnded cv i sq t rs cut d) := sameBut_iff.mpr (by simp [seqEnded, writeBlock])

theorem sameBut_seqNext : SameBut [.convs, .chans] d (seqNext cv d) := by
  unfold seqNext
  dsimp only
  split <;> exact sameBut_iff.mpr (by simp)
end

section
variable {cv : Fin 5} {d : Dev}

/-- With no trigger waiting the converter goes idle (06 R262). -/
theorem seqNext_idle (h : (d.convs[cv.val]).order = []) : seqNext cv d = onConv cv (fun c => { c with running := none }) d := by
  simp [seqNext, h]

/-- The first of the waiting triggers starts its sequence (06 R262). -/
theorem seqNext_starts {r : Fin 16} {rest : List (Fin 16)} (h : (d.convs[cv.val]).order = r :: rest) : seqNext cv d =
    onSeq cv r (fun q => { q with waiting := none }) (onConv cv (fun c => { c with
      running := some (r, ((c.seqs[r]).waiting).getD 0), order := rest, startTb := d.tmr.tb }) d) := by
  simp [seqNext, h]

/-- Where no trigger waits, the end of a sequence leaves the converter idle and the block written. -/
theorem seqNext_ended_idle {sq : Fin 16} (i t : Nat) (rs : List (BitVec 16)) (cut : Bool) (h : (d.convs[cv.val]).order = []) :
    ∃ valid data, (seqNext cv (seqEnded cv i sq t rs cut d)).convs[cv.val] = { d.convs[cv.val] with
      running := none
      event := setBit (d.convs[cv.val]).event i
      seqs := upd (d.convs[cv.val]).seqs sq (blockWritten t (seqMembers d cv sq).length cut valid data) } := by
  obtain ⟨valid, data, hconv⟩ := seqEnded_convs cv i sq t rs cut d
  refine ⟨valid, data, ?_⟩
  rw [seqNext_idle (by rw [hconv, h]), onConv_convs, upd_self, hconv]

/-- Where a trigger waits, the end of a sequence starts the one it is for. -/
theorem seqNext_ended_starts {sq r : Fin 16} {rest : List (Fin 16)} (i t : Nat) (rs : List (BitVec 16)) (cut : Bool)
    (h : (d.convs[cv.val]).order = r :: rest) : ∃ valid data stamp, (seqNext cv (seqEnded cv i sq t rs cut d)).convs[cv.val] = { d.convs[cv.val] with
      running := some (r, stamp), order := rest, startTb := d.tmr.tb
      event := setBit (d.convs[cv.val]).event i
      seqs := upd (upd (d.convs[cv.val]).seqs sq (blockWritten t (seqMembers d cv sq).length cut valid data)) r
        fun q => { q with waiting := none } } := by
  obtain ⟨valid, data, hconv⟩ := seqEnded_convs cv i sq t rs cut d
  have htb : (seqEnded cv i sq t rs cut d).tmr = d.tmr := sameBut_seqEnded cv i sq t rs cut d .tmr (by simp)
  rw [seqNext_starts (by rw [hconv, h]), onSeq_convs, upd_self, onConv_convs, upd_self, hconv, htb]
  exact ⟨valid, data, _, rfl⟩

theorem sameBut_seqNext_ended {i t : Nat} {sq : Fin 16} {rs : List (BitVec 16)} {cut : Bool} :
    SameBut [.convs, .chans] d (seqNext cv (seqEnded cv i sq t rs cut d)) :=
  SameBut.trans (sameBut_seqEnded cv i sq t rs cut d) (sameBut_seqNext cv _)

/-- Over a standing link the block of the sequence that ran reaches the hub, and the next one starts (06 R262, R263). -/
theorem fxSequenceComplete_ends {sq : Fin 16} {t : Nat} (rs : List (BitVec 16)) (hr : (d.convs[cv.val]).running = some (sq, t))
    (hl : d.sys.retraining[cv.val] = false) : fxSequenceComplete cv rs d = seqNext cv (seqEnded cv sq.val sq t rs false d) := by
  simp [fxSequenceComplete, hr, hl, takeBlock, seqEnded]

/-- A result reaches its channel (06 R260, R266). -/
theorem fxContinuousResult_reaches {ch : Fin 204} (v : BitVec 16) (he : (d.chans[ch.val]).enabled = true)
    (hl : d.sys.retraining[(dieOf ch).val] = false) : fxContinuousResult ch v d = putResult ch v d :=
  (if_pos he).trans (fromDie_now _ _ hl)
end

/-! ### Disabling (06 R264) -/

/-- A sequence is disabled, and its trigger waits no more. -/
def seqOff (cv : Fin 5) (sq : Fin 16) (d : Dev) : Dev :=
  onConv cv (fun c => { c with seqEn := c.seqEn &&& ~~~ BitVec.ofNat 16 (2 ^ sq.val), order := c.order.filter (· != sq) })
    (onSeq cv sq (fun q => { q with waiting := none }) d)

section
variable {cv : Fin 5} {sq : Fin 16} {d : Dev}

theorem seqStop_idle (h : (d.convs[cv.val]).running = none) : seqStop cv sq d = seqOff cv sq d := by simp [seqStop, seqOff, h]

/-- The sequence that runs ends with a partial block, of as many free values as it has converted members. -/
theorem seqStop_running {t : Nat} (h : (d.convs[cv.val]).running = some (sq, t)) :
    ∃ rs x, seqStop cv sq d = seqNext cv (seqEnded cv 18 sq t rs true x) ∧ x.convs = (seqOff cv sq d).convs ∧ SameBut [.convs, .chans] d x := by
  unfold seqStop
  simp only [Fin.getElem_fin, h, if_true]
  exact ⟨_, _, rfl, rfl, sameBut_iff.mpr (by simp)⟩

theorem bit_cleared (w : BitVec 16) (sq : Fin 16) : (w &&& ~~~ BitVec.ofNat 16 (2 ^ sq.val)).getLsbD sq.val = false := by
  rw [BitVec.getLsbD_and, BitVec.getLsbD_not, BitVec.getLsbD_ofNat, Nat.testBit_two_pow_self]
  simp

/-- The enable, the trigger and the running sequence after a disable. -/
theorem seqOff_conv : ((seqOff cv sq d).convs[cv.val]).seqEn.getLsbD sq.val = false ∧
    (((seqOff cv sq d).convs[cv.val]).seqs[sq.val]).waiting = none ∧ ((seqOff cv sq d).convs[cv.val]).running = (d.convs[cv.val]).running ∧
    ((seqOff cv sq d).convs[cv.val]).order = (d.convs[cv.val]).order.filter (· != sq) ∧
    (((seqOff cv sq d).convs[cv.val]).seqs[sq.val]).completions = ((d.convs[cv.val]).seqs[sq.val]).completions := by
  refine ⟨?_, by simp [seqOff], by simp [seqOff], by simp [seqOff], by simp [seqOff]⟩
  rw [seqOff, onConv_convs, upd_self]
  exact bit_cleared _ sq

theorem sameBut_seqOff : SameBut [.convs] d (seqOff cv sq d) := sameBut_iff.mpr (by simp [seqOff])
end

/-- Outside RECOVERY a read of the stamp loads the reader's buffer and answers the stamp's low word (06 R263, 14 R553). -/
theorem fxRessStampLoRead_loads {m cv : Fin 5} {sq : Fin 16} {d : Dev} (h : d.sys.mode ≠ .recovery) : fxRessStampLoRead m cv sq d =
    onMaster m (fun x => { x with reply := [wordOf ((d.convs[cv.val]).seqs[sq.val]).block.stamp 0] }) (loadBuffer (bufOf m) cv sq d) :=
  if_neg (by simpa using h)

/-- Settles O29: a trigger by the three things it can do, the end of a sequence by the block it writes and what starts next, a disable by what it leaves. -/
theorem convertersRunSequences : Obligations.ConvertersRunSequences := by
  unfold Obligations.ConvertersRunSequences
  intro s cv
  refine ⟨fun sq t h0 he hm => ⟨fun hl hr hw => ?_, fun r t' hrs hl hr hw => ?_, fun t' k hl hk hkind hmin => ?_, fun m ho hlink hl hr hw => ?_⟩,
    fun sq t rs hr hord hlink => ?_, fun sq r t rs rest hr hord hrs hlink => ?_, fun ch v he hlink => ?_,
    fun m sq ho => ⟨fun hr => ?_, fun t hr hord => ?_⟩, fun m ho => ?_, fun m sq hmode => ?_⟩
  · refine next_of_act (exec_converterTrigger ..) ?_
    rw [fxConverterTrigger, trigSeq_starts t h0 he hm hl hr hw]
    exact ⟨by simp, by simp, by simp, SameBut.settled (sameBut_iff.mpr (by simp)) s.dev⟩
  · refine next_of_act (exec_converterTrigger ..) ?_
    rw [fxConverterTrigger, trigSeq_waits t h0 he hm hrs hl hr hw]
    exact ⟨by simpa using hr, by simp, by simp, SameBut.settled (sameBut_iff.mpr (by simp)) s.dev⟩
  · refine next_of_act (exec_converterTrigger ..) ?_
    rw [fxConverterTrigger, trigSeq_drops t h0 he hm hl hk hkind hmin]
    exact ⟨by simp, by simp, by simpa using hl, SameBut.settled (sameBut_iff.mpr (by simp)) s.dev⟩
  · refine next_of_act (exec_cvxTrig ..) ?_
    have hstands : (!s.dev.sys.retraining[cv]) = true := by simp [hlink]
    rw [fxCvxTrig, ownerWrite_owner _ ho, hstands, onlyIf_true, trigMany_one h0, trigSeq_starts _ h0 he hm hl hr hw]
    exact ⟨by simp, by simp, SameBut.settled (sameBut_iff.mpr (by simp)) s.dev⟩
  · refine next_of_act (exec_sequenceComplete ..) ?_
    obtain ⟨valid, data, hconv⟩ := seqNext_ended_idle sq.val t rs false (sq := sq) hord
    rw [fxSequenceComplete_ends rs hr hlink]
    simp only [settle_convs, Fin.getElem_fin, hconv, upd_self]
    exact ⟨trivial, rfl, rfl, rfl, rfl, sameBut_seqNext_ended.settled s.dev⟩
  · refine next_of_act (exec_sequenceComplete ..) ?_
    obtain ⟨valid, data, stamp, hconv⟩ := seqNext_ended_starts sq.val t rs false (sq := sq) hord
    rw [fxSequenceComplete_ends rs hr hlink]
    simp only [settle_convs, Fin.getElem_fin, hconv, upd_self, upd_other _ _ hrs.symm]
    exact ⟨rfl, trivial, rfl, trivial, sameBut_seqNext_ended.settled s.dev⟩
  · refine next_of_act (exec_continuousResult ..) ?_
    rw [fxContinuousResult_reaches v he hlink]
    exact ⟨rfl, SameBut.settled (sameBut_iff.mpr (by simp)) s.dev⟩
  · refine next_of_act (exec_seqEnDisable ..) ?_
    rw [fxSeqEnDisable, ownerWrite_owner _ ho, seqStop_idle hr]
    obtain ⟨hen, hwait, hrun, -, -⟩ := seqOff_conv (cv := cv) (sq := sq) (d := s.dev)
    exact ⟨hen, hwait, hrun.trans hr, sameBut_seqOff.settled s.dev⟩
  · refine next_of_act (exec_seqEnDisable ..) ?_
    obtain ⟨hen, -, -, hrest, hcount⟩ := seqOff_conv (cv := cv) (sq := sq) (d := s.dev)
    obtain ⟨rs, x, hstop, hoff, hx⟩ := seqStop_running hr
    have hnone : (x.convs[cv.val]).order = [] := by rw [hoff, hrest, show (s.dev.convs[cv.val]).order = [] from hord]; rfl
    obtain ⟨valid, data, hconv⟩ := seqNext_ended_idle 18 t rs true (sq := sq) hnone
    rw [fxSeqEnDisable, ownerWrite_owner _ ho, hstop]
    simp only [settle_convs, Fin.getElem_fin, hconv, upd_self]
    rw [hoff]
    exact ⟨hen, trivial, rfl, hcount, (hx.trans sameBut_seqNext_ended).settled s.dev⟩
  · refine next_of_act (exec_contEnClear ..) ?_
    rw [fxContEnClear, ownerWrite_owner _ ho]
    exact ⟨by simp, by simp, SameBut.settled (sameBut_iff.mpr (by simp)) s.dev⟩
  · refine next_of_act (exec_ressStampLoRead ..) ?_
    rw [fxRessStampLoRead_loads hmode]
    exact ⟨by simp [loadBuffer], by simp, SameBut.settled (sameBut_iff.mpr (by simp [loadBuffer])) s.dev⟩

end Sys2Proof.Machine
end

section
/-! SUPPORT. Live calibration (06 R249 to R255, R268), and the statement about it. -/

namespace Sys2Proof.Machine

theorem exec_calStep (g : Fin 25) (ok : Bool) (s : State) : exec (.calStep g ok) s = act (fxCalStep g ok) s := by rfl
theorem exec_calAgreement (g : Fin 25) (err : Int) (s : State) : exec (.calAgreement g err) s = act (fxCalAgreement g err) s := by rfl
theorem exec_calRetry (g : Fin 25) (s : State) : exec (.calRetry g) s = act (fxCalRetry g) s := by rfl
theorem exec_trimWrite (s : State) : exec .trimWrite s = act fxTrimWrite s := by rfl
theorem exec_calNext (m : Fin 5) (ch : Fin 204) (s : State) : exec (.calNext m ch) s = act (fxCalNext m ch) s := by rfl
theorem exec_monCalCtlWrite (m : Fin 5) (v : Word) (s : State) : exec (.monCalCtlWrite m v) s = act (fxMonCalCtlWrite m v) s := by rfl

/-! ### A step takes a channel (06 R249, R254, R255) -/

section
variable {g : Fin 25} {c : Fin 204} {d : Dev}

/-- With no levels waiting the channel that the owner named is next, and its spare decides (06 R249, R254, R255). -/
theorem fxCalStep_named (ok : Bool) (hp : calPaused d = false) (hs : (d.groups[g.val]).stopped = false) (hn : (d.groups[g.val]).now = none)
    (hnext : (d.groups[g.val]).next = some c) (ht : calTakes d c = true) (hw : ∀ e : Fin 204, (d.chans[e.val]).waiting = none) :
    fxCalStep g ok d = if ok then onGroup g (fun x => { x with now := some c, next := none, stage := 4, retries := 0 }) d else spareFail g d := by
  have hnone : (groupChans g).find? (fun e => (d.chans[e.val]).waiting.isSome && calTakes d e) = none :=
    List.find?_eq_none.mpr fun e _ => by simp [hw e]
  unfold fxCalStep
  simp only [Fin.getElem_fin, hp, hs, hn, hnone, hnext, ht]
  cases ok <;> simp

/-- The first failure of a spare: it is marked, and its group goes on with the other (06 R254). -/
theorem spareFail_first (ha : (d.groups[g.val]).failedA = false) (hb : (d.groups[g.val]).failedB = false) :
    ((spareFail g d).groups[g.val]).failedA = !(d.groups[g.val]).useB ∧ ((spareFail g d).groups[g.val]).failedB = (d.groups[g.val]).useB ∧
    ((spareFail g d).groups[g.val]).useB = !(d.groups[g.val]).useB ∧ ((spareFail g d).groups[g.val]).stopped = false ∧ (spareFail g d).chans = d.chans := by
  unfold spareFail
  simp [ha, hb]
end

/-! ### A channel is given back (06 R250 to R252) -/

section
variable (g : Fin 25) (c : Fin 204) (err : Int) (d : Dev)

/-- The group lets go of its channel, and the rounds of its die are counted (06 R249, R268). -/
theorem calAdvance_group : ((calAdvance g c d).groups[g.val]).now = none ∧ ((calAdvance g c d).groups[g.val]).stage = 0 ∧
    (calAdvance g c d).sys.trimDue = d.sys.trimDue := by simp [calAdvance]

theorem sameBut_calAdvance : SameBut [.groups, .sys] d (calAdvance g c d) := sameBut_iff.mpr (by simp [calAdvance])

@[simp] theorem calAdvance_chans : (calAdvance g c d).chans = d.chans := sameBut_calAdvance g c d .chans (by simp)

/-- The channel takes its output back with its trim, or keeps its last trim and shows a drift (06 R250, R252), whether levels wait for it or not. -/
theorem calFinish_chan : ((calFinish c err d).chans[c.val]).spare = false ∧ ((calFinish c err d).chans[c.val]).trimErr = err ∧
    ((calFinish c err d).chans[c.val]).calTb = d.tmr.tb ∧
    ((calFinish c err d).chans[c.val]).trimOfs = (trimNew d.chans[c.val] err).getD (d.chans[c.val]).trimOfs ∧
    ((calFinish c err d).chans[c.val]).drift = (trimNew d.chans[c.val] err).isNone := by
  cases hw : (d.chans[c.val]).waiting <;> cases ht : trimNew d.chans[c.val] err <;> simp [calFinish, hw, ht]

/-- A calibration leaves a trim to be written (06 R252). -/
theorem calFinish_trimDue : (calFinish c err d).sys.trimDue = true := by
  unfold calFinish onlyIf
  dsimp only
  repeat' split
  all_goals simp
end

section
variable {g : Fin 25} {c : Fin 204} {d : Dev} (hn : (d.groups[g.val]).now = some c)
include hn

/-- At the first agreement the spare takes the channel over (06 R250). -/
theorem fxCalAgreement_first (err : Int) (hs : (d.groups[g.val]).stage = 4) : fxCalAgreement g err d =
    onGroup g (fun x => { x with stage := 6, retries := 0 }) (onChan c (fun x => { x with spare := true }) d) := by simp [fxCalAgreement, hn, hs]

/-- At the next the channel takes its output back (06 R250, R252). -/
theorem fxCalAgreement_second (err : Int) (hs : (d.groups[g.val]).stage ≠ 4) : fxCalAgreement g err d = calAdvance g c (calFinish c err d) := by
  simp [fxCalAgreement, hn, hs]

theorem fxCalRetry_again (hr : (d.groups[g.val]).retries < 4) :
    fxCalRetry g d = onGroup g (fun x => { x with retries := x.retries + 1 }) d := by simp [fxCalRetry, hn, hr]

/-- After four retries the channel is skipped (06 R251). -/
theorem fxCalRetry_skips (hr : 4 ≤ (d.groups[g.val]).retries) : fxCalRetry g d =
    calAdvance g c (onGroup g (fun x => { x with skips := x.skips + 1 }) (chanEvent c 5 (onChan c (fun x => { x with spare := false }) d))) := by
  simp [fxCalRetry, hn, Nat.not_lt.mpr hr]
end

/-- Settles O28: a step by the channel that is next and its spare, an agreement and a retry by what gives the channel over or back, writes by their owner. -/
theorem calibrationTakesChannelsInTurn : Obligations.CalibrationTakesChannelsInTurn := by
  unfold Obligations.CalibrationTakesChannelsInTurn
  intro s g
  refine ⟨fun c ok hp hs hn hnext ht hw => ⟨fun hok => ?_, fun hok ha hb => ?_⟩,
    fun c err hn => ⟨fun h4 => ?_, fun h4 => ?_, fun hr => ?_, fun hr => ?_⟩, fun hd => ?_, fun m ch ho => ?_, fun m v ho => ?_, fun m v ho => ?_⟩
  · refine next_of_act (exec_calStep ..) ?_
    rw [fxCalStep_named ok hp hs hn hnext ht hw, if_pos hok]
    exact ⟨rfl, SameBut.settled (sameBut_iff.mpr (by simp)) s.dev⟩
  · refine next_of_act (exec_calStep ..) ?_
    rw [fxCalStep_named ok hp hs hn hnext ht hw, if_neg (by simp [hok])]
    exact spareFail_first ha hb
  · refine next_of_act (exec_calAgreement ..) ?_
    rw [fxCalAgreement_first hn err h4]
    exact ⟨by simp, by simpa using hn, rfl, SameBut.settled (sameBut_iff.mpr (by simp)) s.dev⟩
  · refine next_of_act (exec_calAgreement ..) ?_
    rw [fxCalAgreement_second hn err h4]
    obtain ⟨hnow, hstage, htrim⟩ := calAdvance_group g c (calFinish c err s.dev)
    obtain ⟨hspare, herr, htb, hofs, hdrift⟩ := calFinish_chan c err s.dev
    simp only [settle_chans, settle_groups, settle_sys, calAdvance_chans]
    exact ⟨hnow, hstage, hspare, herr, htb, hofs, hdrift, htrim.trans (calFinish_trimDue ..)⟩
  · refine next_of_act (exec_calRetry ..) ?_
    rw [fxCalRetry_again hn hr]
    exact ⟨rfl, SameBut.settled (sameBut_iff.mpr (by simp)) s.dev⟩
  · refine next_of_act (exec_calRetry ..) ?_
    rw [fxCalRetry_skips hn hr]
    refine ⟨(calAdvance_group ..).1, by simp, by simp, SameBut.settled (SameBut.trans ?_ ((sameBut_calAdvance g c _).mono (by simp))) s.dev⟩
    exact sameBut_iff.mpr (by simp)
  · refine next_of_act (exec_trimWrite ..) ?_
    have hdue : s.dev.sys.trimDue = true := hd
    simp [fxTrimWrite, hdue]
  · refine next_of_act (exec_calNext ..) ?_
    rw [fxCalNext, ownerWrite_owner _ ho]
    exact ⟨by simp, by simp, SameBut.settled (sameBut_iff.mpr (by simp)) s.dev⟩
  · refine next_of_act (exec_monCalCtlWrite ..) ?_
    rw [fxMonCalCtlWrite, ownerWrite_owner _ ho]
    exact ⟨rfl, SameBut.settled (sameBut_iff.mpr (by simp [calCtl])) s.dev⟩
  · refine next_of_act (exec_monCalCtlWrite ..) ?_
    rw [fxMonCalCtlWrite, ownerWrite_other _ ho]
    exact SameBut.settled (sameBut_iff.mpr (by simp)) s.dev

end Sys2Proof.Machine
end

section
/-! SUPPORT. What the operations of a feed change of it, and what its faults leave of the rest of the block (07 R276 to R291). -/

namespace Sys2Proof.Machine

@[simp] theorem feedEvent_feeds (f : Fin 4) (i : Nat) (d : Dev) :
    (feedEvent f i d).feeds = upd d.feeds f fun x => { x with event := setBit x.event i } := (rfl)

@[simp] theorem feedEvent_timers (f : Fin 4) (i : Nat) (d : Dev) : (feedEvent f i d).timers = d.timers := (rfl)

/-- Every source of a feed stands in the tables (11 R432). -/
theorem feedSrc_row : ∀ (f : Fin 4) (k : Nat), k < 8 → (srcRow (feedSrc f k).val).isSome = true := by decide

theorem condEnd_cond (n : Fin 768) (d : Dev) : ((condEnd n d).sources[n.val]).cond = false := by simp [condEnd]

/-- The end of one condition leaves another ended. -/
theorem condEnd_cond_keeps (n : Fin 768) {m : Fin 768} {d : Dev} (h : (d.sources[m.val]).cond = false) :
    ((condEnd n d).sources[m.val]).cond = false := by
  simp only [condEnd, onSource_sources, upd_get]
  split
  · rfl
  · exact h

theorem sameBut_onFeed (f : Fin 4) (g : Feed → Feed) (d : Dev) : SameBut [.feeds] d (onFeed f g d) := sameBut_iff.mpr (by simp)

/-! ### The insertion delay (07 R277, R278) -/

section
variable {f : Fin 4} {d : Dev}

theorem sameBut_feedTryDelay : SameBut [.feeds, .timers] d (feedTryDelay f d) := sameBut_iff.mpr (by simp)

/-- A try of the delay changes nothing of the feed but its state. -/
theorem feedTryDelay_feed : (feedTryDelay f d).feeds[f.val] = { d.feeds[f.val] with state := ((feedTryDelay f d).feeds[f.val]).state } := by
  unfold feedTryDelay
  dsimp only
  split <;> simp

/-- A feed in WAIT starts its delay where its window, VGD, the mode and the temperature let it, and waits on otherwise. -/
theorem feedTryDelay_state (hw : (d.feeds[f.val]).state = .wait) (he : extest d = false) : ((feedTryDelay f d).feeds[f.val]).state =
    if (d.feeds[f.val]).inWindow && d.sys.vgdStart && d.sys.mode != .standby && !d.sys.tempTrip[5] then .delay else .wait := by
  unfold feedTryDelay
  simp only [Fin.getElem_fin, hw, he, beq_self_eq_true, Bool.true_and, Bool.not_false, Bool.and_true]
  split <;> simp [hw]
end

/-! ### Power-good lost, and the faults of a feed (07 R278, R282 to R291) -/

/-- What a change that turns a gate off leaves alone: the sources, the system block, and what other units hold. -/
structure LeavesUnits (after : Dev → Dev) : Prop where
  sources : ∀ x, (after x).sources = x.sources
  ports : ∀ x, (after x).ports = x.ports
  guards : ∀ x, (after x).guards = x.guards
  loops : ∀ x, (after x).loops = x.loops
  chans : ∀ x, (after x).chans = x.chans
  cfg : ∀ x, (after x).cfg = x.cfg
  sys : ∀ x, (after x).sys = x.sys

/-- What the quiet faults of feed f leave of a block: no source that was quiet is less so, a power-good that was up is reported lost, and
ports, the configuration and the system block are as they were. -/
structure FeedFaultOf (f : Fin 4) (a b : Dev) : Prop where
  quiet : ∀ n, Quiet a n → Quiet b n
  pgLoss : (a.feeds[f.val]).pg = true → (b.sources[(feedSrc f 6).val]).latch = true
  ports : b.ports = a.ports
  cfg : b.cfg = a.cfg
  sys : b.sys = a.sys

theorem feedToWait_leavesUnits (f : Fin 4) : LeavesUnits (feedToWait f) := by constructor <;> simp

theorem latchFeed_leavesUnits (f : Fin 4) (why : Nat) : LeavesUnits (latchFeed f why) := by constructor <;> simp

section
variable {f : Fin 4} {d : Dev}

theorem gateOffLoss_fault {after : Dev → Dev} (ha : LeavesUnits after) (h6 : Quiet d (feedSrc f 6)) : FeedFaultOf f d (gateOffLoss f after d) := by
  obtain ⟨-, -, -, -, hnext, hlatch⟩ := gateOffLoss_feed h6 ha.sources ha.sys
  obtain ⟨hports, -, -, -, hcfg, hsys⟩ := gateOffLoss_quiet h6 ha.sources ha.ports ha.guards ha.loops ha.chans ha.cfg ha.sys
  exact ⟨fun n hn => quiet_of hn (hnext n) hsys, hlatch, hports, hcfg, hsys⟩

theorem FeedFaultOf.feedEvent {x : Dev} (h : FeedFaultOf f d x) (i : Nat) : FeedFaultOf f d (feedEvent f i x) where
  quiet n hn := quiet_of (h.quiet n hn) (by simp) (by simp)
  pgLoss hpg := by simpa using h.pgLoss hpg
  ports := by simpa using h.ports
  cfg := by simpa using h.cfg
  sys := by simpa using h.sys

/-- A quiet raise after it keeps it. -/
theorem FeedFaultOf.raise {x : Dev} (h : FeedFaultOf f d x) {n : Fin 768} (hn : Quiet d n) (hr : (srcRow n.val).isSome = true) :
    FeedFaultOf f d (raise n x) := by
  have hq := h.quiet n hn
  exact {
    quiet := fun m hm => raise_quiet_other hq (h.quiet m hm)
    pgLoss := fun hpg => raise_latch_keeps hq hr (h.pgLoss hpg)
    ports := by simpa [raise_quiet hq] using h.ports
    cfg := by simpa [raise_quiet hq] using h.cfg
    sys := by simpa [raise_quiet hq] using h.sys }

/-- A feed whose gate went off to WAIT with PG_LOSS: in WAIT, its window as it was. -/
theorem gateOffLoss_wait (h6 : Quiet d (feedSrc f 6)) :
    ((gateOffLoss f (feedToWait f) d).feeds[f.val]).state = .wait ∧
    ((gateOffLoss f (feedToWait f) d).feeds[f.val]).inUv = (d.feeds[f.val]).inUv ∧
    ((gateOffLoss f (feedToWait f) d).feeds[f.val]).inOv = (d.feeds[f.val]).inOv := by
  obtain ⟨x, -, hsame, hfeed, -, -⟩ := gateOffLoss_feed h6 (feedToWait_leavesUnits f).sources (feedToWait_leavesUnits f).sys
  obtain ⟨hstate, -, -, huv, hov⟩ := feedToWait_feed f x
  obtain ⟨-, -, -, hxuv, hxov, -⟩ := hsame f
  exact ⟨(congrArg Feed.state (hfeed f) :).trans hstate, (congrArg Feed.inUv (hfeed f) :).trans (huv.trans hxuv),
    (congrArg Feed.inOv (hfeed f) :).trans (hov.trans hxov)⟩

/-- The other feeds keep their states. -/
theorem gateOffLoss_wait_other (h6 : Quiet d (feedSrc f 6)) {i : Fin 4} (hi : i ≠ f) :
    ((gateOffLoss f (feedToWait f) d).feeds[i.val]).state = (d.feeds[i.val]).state := by
  obtain ⟨x, -, hsame, hfeed, -, -⟩ := gateOffLoss_feed h6 (feedToWait_leavesUnits f).sources (feedToWait_leavesUnits f).sys
  obtain ⟨hxstate, -⟩ := hsame i
  exact (congrArg Feed.state (hfeed i) :).trans ((congrArg Feed.state (feedToWait_other f i x hi)).trans hxstate)

/-- A feed that latched with PG_LOSS: LATCHED with its cause. -/
theorem gateOffLoss_latched (why : Nat) (h6 : Quiet d (feedSrc f 6)) :
    ((gateOffLoss f (latchFeed f why) d).feeds[f.val]).state = .latched ∧
    ((gateOffLoss f (latchFeed f why) d).feeds[f.val]).latchWhy = why ∧
    ((gateOffLoss f (latchFeed f why) d).feeds[f.val]).hot = (d.feeds[f.val]).hot := by
  obtain ⟨x, -, hsame, hfeed, -, -⟩ := gateOffLoss_feed h6 (latchFeed_leavesUnits f why).sources (latchFeed_leavesUnits f why).sys
  obtain ⟨hstate, -, hwhy, -, hhot⟩ := latchFeed_feed f why x
  obtain ⟨-, hxhot, -⟩ := hsame f
  exact ⟨(congrArg Feed.state (hfeed f) :).trans hstate, (congrArg Feed.latchWhy (hfeed f) :).trans hwhy,
    (congrArg Feed.hot (hfeed f) :).trans (hhot.trans hxhot)⟩
end

end Sys2Proof.Machine
end

section
/-! SUPPORT. A hot-swap feed (07 R275 to R279, R282 to R291), and the statement about it. -/

namespace Sys2Proof.Machine

theorem exec_feedEnableRise (f : Fin 4) (s : State) : exec (.feedEnableRise f) s = act (fxFeedEnableRise f) s := by rfl
theorem exec_feedEnableFall (f : Fin 4) (s : State) : exec (.feedEnableFall f) s = act (fxFeedEnableFall f) s := by rfl
theorem exec_feedWindowEnter (f : Fin 4) (s : State) : exec (.feedWindowEnter f) s = act (fxFeedWindowEnter f) s := by rfl
theorem exec_insDelayExpiry (f : Fin 4) (s : State) : exec (.insDelayExpiry f) s = act (fxInsDelayExpiry f) s := by rfl
theorem exec_insTimeoutExpiry (f : Fin 4) (s : State) : exec (.insTimeoutExpiry f) s = act (fxInsTimeoutExpiry f) s := by rfl
theorem exec_feedUvBreach (f : Fin 4) (s : State) : exec (.feedUvBreach f) s = act (fxFeedUvBreach f) s := by rfl
theorem exec_feedOvBreach (f : Fin 4) (s : State) : exec (.feedOvBreach f) s = act (fxFeedOvBreach f) s := by rfl
theorem exec_feedLimitStart (f : Fin 4) (b : Bool) (s : State) : exec (.feedLimitStart f b) s = act (fxFeedLimitStart f b) s := by rfl
theorem exec_feedLimitEnd (f : Fin 4) (s : State) : exec (.feedLimitEnd f) s = act (fxFeedLimitEnd f) s := by rfl
theorem exec_feedFaultTimerExpiry (f : Fin 4) (s : State) : exec (.feedFaultTimerExpiry f) s = act (fxFeedFaultTimerExpiry f) s := by rfl
theorem exec_feedOvercurrentTrip (f : Fin 4) (s : State) : exec (.feedOvercurrentTrip f) s = act (fxFeedOvercurrentTrip f) s := by rfl
theorem exec_fetTempTrip (f : Fin 4) (s : State) : exec (.fetTempTrip f) s = act (fxFetTempTrip f) s := by rfl
theorem exec_fetTempRelease (f : Fin 4) (s : State) : exec (.fetTempRelease f) s = act (fxFetTempRelease f) s := by rfl
theorem exec_feedModelStep (f : Fin 4) (t w : Int) (s : State) : exec (.feedModelStep f t w) s = act (fxFeedModelStep f t w) s := by rfl
theorem exec_feedPowerGood (f : Fin 4) (s : State) : exec (.feedPowerGood f) s = act (fxFeedPowerGood f) s := by rfl
theorem exec_feedReverseTurnOff (f : Fin 4) (s : State) : exec (.feedReverseTurnOff f) s = act (fxFeedReverseTurnOff f) s := by rfl
theorem exec_diodeRedrive (f : Fin 4) (s : State) : exec (.diodeRedrive f) s = act (fxDiodeRedrive f) s := by rfl

/-! ### Insertion (07 R275 to R279) -/

section
variable {f : Fin 4} {d : Dev}

/-- The block whose feed has just left OFF for WAIT, its channels at the levels of its section (07 R275, 02 R91). -/
def feedWaits (f : Fin 4) (d : Dev) : Dev :=
  onFeed f (fun x => { x with state := .wait }) (feedChans f (onFeed f (fun x => { x with fen := true }) d))

theorem fxFeedEnableRise_waits (hen : (d.feeds[f.val]).en = true) (hoff : (d.feeds[f.val]).state = .off) (hcfg : (d.cfg.feeds[f.val]).isSome = true)
    (hlink : elfLost d = false) : fxFeedEnableRise f d = feedTryDelay f (feedWaits f d) :=
  if_pos (by simp [feedEnabled, hen, hoff, hcfg, hlink])

theorem sameBut_feedWaits : SameBut [.feeds, .chans, .timers] d (feedWaits f d) := sameBut_iff.mpr (by simp [feedWaits])

theorem feedWaits_feed : (feedWaits f d).feeds[f.val] = { d.feeds[f.val] with fen := true, state := .wait } := by simp [feedWaits]

/-- A feed whose enable fell (07 R276). -/
theorem fxFeedEnableFall_off : ((fxFeedEnableFall f d).feeds[f.val]).fen = false ∧ ((fxFeedEnableFall f d).feeds[f.val]).state = .off ∧
    ((fxFeedEnableFall f d).feeds[f.val]).latchWhy = 0 ∧ ((fxFeedEnableFall f d).feeds[f.val]).pg = false := by
  have hoff := gateOff_feed f (onFeed f (fun x => { x with fen := false }) d)
  simp [fxFeedEnableFall, feedOff, hoff]

theorem sameBut_fxFeedEnableFall : SameBut [.feeds, .timers] d (fxFeedEnableFall f d) :=
  sameBut_iff.mpr (by simp [fxFeedEnableFall, feedOff])

/-- The block whose feed is in its window, the conditions of its breaches over (07 R278). -/
def feedInWindow (f : Fin 4) (d : Dev) : Dev :=
  condEnd (feedSrc f 1) (condEnd (feedSrc f 0) (onFeed f (fun x => { x with inWindow := true, inUv := false, inOv := false }) d))

theorem feedInWindow_conds : ((feedInWindow f d).sources[(feedSrc f 0).val]).cond = false ∧ ((feedInWindow f d).sources[(feedSrc f 1).val]).cond = false :=
  ⟨condEnd_cond_keeps _ (condEnd_cond ..), condEnd_cond ..⟩

theorem sameBut_feedInWindow : SameBut [.feeds, .sources, .timers] d (feedInWindow f d) := sameBut_iff.mpr (by simp [feedInWindow, condEnd])

theorem feedInWindow_feed : (feedInWindow f d).feeds[f.val] = { d.feeds[f.val] with inWindow := true, inUv := false, inOv := false } := by
  simp [feedInWindow]

/-- After its delay a feed ramps, or cools while its FET is hot (07 R277, R286). -/
theorem fxInsDelayExpiry_state (h : (d.feeds[f.val]).state = .delay) :
    ((fxInsDelayExpiry f d).feeds[f.val]).state = if (d.feeds[f.val]).hot then .cooling else .ramp := by
  cases hhot : (d.feeds[f.val]).hot <;> simp [fxInsDelayExpiry, feedRamp, h, hhot]

theorem sameBut_fxInsDelayExpiry : SameBut [.feeds, .timers] d (fxInsDelayExpiry f d) := by
  refine sameBut_iff.mpr ?_
  unfold fxInsDelayExpiry
  dsimp only
  repeat' split
  all_goals simp [feedRamp]
end

/-! ### Faults that latch (07 R277, R282, R283, R286) -/

/-- A feed that a fault latched: its cause in its registers, the source of the fault latched, no port and nothing of the system block moved. -/
structure FeedLatched (f : Fin 4) (why : Nat) (n : Fin 768) (a b : Dev) : Prop where
  state : (b.feeds[f.val]).state = .latched
  latchWhy : (b.feeds[f.val]).latchWhy = why
  latch : (b.sources[n.val]).latch = true
  ports : b.ports = a.ports
  sys : b.sys = a.sys

section
variable {f : Fin 4} {d : Dev}

theorem fxInsTimeoutExpiry_latches (h : (d.feeds[f.val]).state = .ramp ∨ (d.feeds[f.val]).state = .cooling) (hq : Quiet d (feedSrc f 5)) :
    FeedLatched f 5 (feedSrc f 5) d (fxInsTimeoutExpiry f d) := by
  rw [show fxInsTimeoutExpiry f d = raise (feedSrc f 5) (latchFeed f 5 (stopTimer (.insTimeoutExpiry f) d)) from if_pos (by simpa using h)]
  have hquiet : Quiet (latchFeed f 5 (stopTimer (.insTimeoutExpiry f) d)) (feedSrc f 5) := quiet_of hq (by simp) (by simp)
  obtain ⟨hstate, -, hwhy, -⟩ := latchFeed_feed f 5 (stopTimer (.insTimeoutExpiry f) d)
  exact { state := by simp [raise_quiet_feeds hquiet, hstate]
          latchWhy := by simp [raise_quiet_feeds hquiet, hwhy]
          latch := raise_latch hquiet (feedSrc_row f 5 (by decide))
          ports := by simp [raise_quiet hquiet]
          sys := by simp [raise_quiet hquiet] }

/-- The course of a fault of a driven gate (07 R282 to R286): the gate goes off with PG_LOSS, the feed latches, its source is raised. -/
theorem latchLoss_course {k : Nat} (why : Nat) (h6 : Quiet d (feedSrc f 6)) (hk : Quiet d (feedSrc f k)) (hlt : k < 8) :
    FeedLatched f why (feedSrc f k) d (raise (feedSrc f k) (gateOffLoss f (latchFeed f why) d)) ∧
    ((raise (feedSrc f k) (gateOffLoss f (latchFeed f why) d)).feeds[f.val]).hot = (d.feeds[f.val]).hot := by
  have hfault := gateOffLoss_fault (latchFeed_leavesUnits f why) h6
  have hquiet := hfault.quiet _ hk
  have hraised := hfault.raise hk (feedSrc_row f k hlt)
  obtain ⟨hstate, hwhy, hhot⟩ := gateOffLoss_latched why h6
  exact ⟨{ state := by simp [raise_quiet_feeds hquiet, hstate]
           latchWhy := by simp [raise_quiet_feeds hquiet, hwhy]
           latch := raise_latch hquiet (feedSrc_row f k hlt)
           ports := hraised.ports
           sys := hraised.sys }, by simp [raise_quiet_feeds hquiet, hhot]⟩

theorem fxFeedFaultTimerExpiry_latches (hl : (d.feeds[f.val]).limiting = true) (h6 : Quiet d (feedSrc f 6))
    (hk : Quiet d (feedSrc f (if (d.feeds[f.val]).foldback then 7 else 2))) :
    FeedLatched f (if (d.feeds[f.val]).foldback then 3 else 1) (feedSrc f (if (d.feeds[f.val]).foldback then 7 else 2)) d (fxFeedFaultTimerExpiry f d) := by
  rw [show fxFeedFaultTimerExpiry f d = _ from if_pos hl]
  have hlatched := (latchLoss_course (d := stopTimer (.feedFaultTimerExpiry f) d) (if (d.feeds[f.val]).foldback then 3 else 1)
    (quiet_of h6 (by simp) (by simp)) (quiet_of hk (by simp) (by simp)) (by split <;> decide)).1
  exact { hlatched with ports := by simpa using hlatched.ports, sys := by simpa using hlatched.sys }

theorem fxFeedOvercurrentTrip_latches (hg : gateDriven d.feeds[f.val] = true) (h6 : Quiet d (feedSrc f 6)) (hk : Quiet d (feedSrc f 2)) :
    FeedLatched f 2 (feedSrc f 2) d (fxFeedOvercurrentTrip f d) := by
  rw [show fxFeedOvercurrentTrip f d = _ from if_pos hg]
  exact (latchLoss_course 2 h6 hk (by decide)).1

theorem fxFetTempTrip_latches (hg : gateDriven d.feeds[f.val] = true) (h6 : Quiet d (feedSrc f 6)) (hk : Quiet d (feedSrc f 3)) :
    FeedLatched f 4 (feedSrc f 3) d (fxFetTempTrip f d) ∧ ((fxFetTempTrip f d).feeds[f.val]).hot = true := by
  have heq : fxFetTempTrip f d = raise (feedSrc f 3) (gateOffLoss f (latchFeed f 4) (onFeed f (fun x => { x with hot := true }) d)) :=
    congrArg (raise (feedSrc f 3)) (if_pos hg)
  obtain ⟨hlatched, hhot⟩ := latchLoss_course (d := onFeed f (fun x => { x with hot := true }) d) 4
    (quiet_of h6 (by simp) (by simp)) (quiet_of hk (by simp) (by simp)) (by decide)
  rw [heq]
  exact ⟨{ hlatched with ports := by simpa using hlatched.ports, sys := by simpa using hlatched.sys }, hhot.trans (by simp)⟩
end

/-! ### A breach of the window (07 R278) -/

/-- A feed that left its insertion for a breach of its window. -/
structure Breached (f : Fin 4) (k : Nat) (a b : Dev) : Prop where
  state : (b.feeds[f.val]).state = .wait
  inUv : (b.feeds[f.val]).inUv = (a.feeds[f.val]).inUv
  inOv : (b.feeds[f.val]).inOv = (a.feeds[f.val]).inOv
  latch : (b.sources[(feedSrc f k).val]).latch = true
  fault : FeedFaultOf f a b

section
variable {f : Fin 4} {d : Dev}

theorem feedBreach_breached {k : Nat} (ev : Nat) (hi : feedInserting d.feeds[f.val] = true) (h6 : Quiet d (feedSrc f 6)) (hk : Quiet d (feedSrc f k))
    (hlt : k < 8) : Breached f k d (feedBreach f k ev d) := by
  rw [show feedBreach f k ev d = _ from if_pos hi]
  have hfault := (gateOffLoss_fault (feedToWait_leavesUnits f) h6).feedEvent ev
  have hquiet := hfault.quiet _ hk
  obtain ⟨hstate, huv, hov⟩ := gateOffLoss_wait h6
  exact { state := by simp [raise_quiet_feeds hquiet, hstate]
          inUv := by simp [raise_quiet_feeds hquiet, huv]
          inOv := by simp [raise_quiet_feeds hquiet, hov]
          latch := raise_latch hquiet (feedSrc_row f k hlt)
          fault := hfault.raise hk (feedSrc_row f k hlt) }

/-- The breach of a feed whose window registers were just set. -/
theorem feedBreach_noted {k : Nat} (ev : Nat) (uv ov : Bool) (hi : feedInserting d.feeds[f.val] = true) (h6 : Quiet d (feedSrc f 6))
    (hk : Quiet d (feedSrc f k)) (hlt : k < 8) :
    Breached f k (onFeed f (fun x => { x with inWindow := false, inUv := uv, inOv := ov }) d)
      (feedBreach f k ev (onFeed f (fun x => { x with inWindow := false, inUv := uv, inOv := ov }) d)) :=
  feedBreach_breached ev (by simpa [feedInserting] using hi) (quiet_of h6 (by simp) (by simp)) (quiet_of hk (by simp) (by simp)) hlt
end

/-! ### Limiting (07 R274, R291) -/

section
variable {f : Fin 4} {d : Dev}

/-- The feed whose limit begins (07 R291). -/
def feedLimited (d : Dev) (foldback : Bool) (x : Feed) : Feed :=
  { x with limiting := true, foldback := foldback, timer := timerUp d x.timer, pgWarn := x.pgWarn || x.pg }

theorem fxFeedLimitStart_limits (b : Bool) (hg : gateDriven d.feeds[f.val] = true) (hl : (d.feeds[f.val]).limiting = false) :
    fxFeedLimitStart f b d = startTimer (.feedFaultTimerExpiry f) (50 * (feedCfg d f).ftimer - faultCount d (d.feeds[f.val]).timer)
      (feedEvent f 3 (onlyIf ((d.feeds[f.val]).pg && !(d.feeds[f.val]).pgWarn) (feedEvent f 2) (onFeed f (feedLimited d b) d))) :=
  (if_neg (by simp [hg])).trans (if_neg (by simp [hl]))

theorem fxFeedLimitStart_feed (b : Bool) (hg : gateDriven d.feeds[f.val] = true) (hl : (d.feeds[f.val]).limiting = false) :
    ((fxFeedLimitStart f b d).feeds[f.val]).limiting = true ∧ ((fxFeedLimitStart f b d).feeds[f.val]).foldback = b ∧
    ((fxFeedLimitStart f b d).feeds[f.val]).timer = timerUp d (d.feeds[f.val]).timer ∧
    ((fxFeedLimitStart f b d).feeds[f.val]).state = (d.feeds[f.val]).state := by
  rw [fxFeedLimitStart_limits b hg hl]
  cases (d.feeds[f.val]).pg && !(d.feeds[f.val]).pgWarn <;> simp [feedLimited]

theorem sameBut_fxFeedLimitStart (b : Bool) (hg : gateDriven d.feeds[f.val] = true) (hl : (d.feeds[f.val]).limiting = false) :
    SameBut [.feeds, .timers] d (fxFeedLimitStart f b d) := by
  rw [fxFeedLimitStart_limits b hg hl]
  exact sameBut_iff.mpr (by simp)

/-- The feed whose limit ends (07 R274, R291). -/
def feedUnlimited (d : Dev) (f : Fin 4) (x : Feed) : Feed :=
  { x with limiting := false, foldback := false, timer := timerDown d x.timer,
           pgWarn := x.pg && decide ((feedCfg d f).pgVds < 10 * Config.feedVds d.freeCtr f) }

theorem fxFeedLimitEnd_ends (h : (d.feeds[f.val]).limiting = true) :
    fxFeedLimitEnd f d = stopTimer (.feedFaultTimerExpiry f) (onFeed f (feedUnlimited d f) d) :=
  if_pos h
end

/-! ### The temperature of the FET (07 R277, R285, R286) -/

section
variable {f : Fin 4} {d : Dev}

theorem fetCooled_feed : ((fetCooled f d).feeds[f.val]).hot = false ∧
    ((fetCooled f d).feeds[f.val]).state = if (d.feeds[f.val]).state = .cooling then .ramp else (d.feeds[f.val]).state := by
  by_cases hc : (d.feeds[f.val]).state = .cooling <;> simp [fetCooled, feedRamp, hc]

theorem fetCooled_cond : ((fetCooled f d).sources[(feedSrc f 3).val]).cond = false := by
  have hcond := condEnd_cond (feedSrc f 3) (onFeed f (fun x => { x with hot := false }) d)
  by_cases hc : (d.feeds[f.val]).state = .cooling <;> simp [fetCooled, feedRamp, hc, hcond]

theorem sameBut_fetCooled : SameBut [.feeds, .sources] d (fetCooled f d) := by
  by_cases hc : (d.feeds[f.val]).state = .cooling <;> exact sameBut_iff.mpr (by simp [fetCooled, feedRamp, condEnd, hc])

/-- A step of the thermal model below its trip level, the FET not hot, only moves the estimate (07 R285). -/
theorem fxFeedModelStep_estimates {t w : Int} (hsrc : (feedCfg d f).tsrc = 1) (htau : (feedCfg d f).tau ≠ 0) (hhot : (d.feeds[f.val]).hot = false)
    (hlow : modelStep d f t w < ((feedCfg d f).tfet : Int) * 1000000000) : fxFeedModelStep f t w d =
      onFeed f (fun x => { x with model := modelStep d f t w, modelOn := true, temp := modelStep d f t w / 125000000 }) d := by
  have hruns : ¬((feedCfg d f).tsrc != 1 || (feedCfg d f).tau == 0) = true := by simp [hsrc, htau]
  have htrips : ¬(!(d.feeds[f.val]).hot && decide (((feedCfg d f).tfet : Int) * 1000000000 ≤ modelStep d f t w)) = true := by
    simp only [hhot, Bool.not_false, Bool.true_and, decide_eq_true_eq]
    omega
  have hcools : ¬((d.feeds[f.val]).hot && decide (modelStep d f t w < (((feedCfg d f).tfet : Int) - 10) * 1000000000)) = true := by
    simp only [hhot, Bool.false_and, Bool.false_eq_true, not_false_eq_true]
  exact (if_neg hruns).trans ((if_neg htrips).trans (if_neg hcools))
end

/-! ### Power-good and the diode FET (07 R287 to R290) -/

section
variable {f : Fin 4} {d : Dev}

/-- The block whose feed has just become good (07 R290). -/
def feedGood (f : Fin 4) (d : Dev) : Dev :=
  feedEvent f 0 (onlyIf ((d.feeds[f.val]).state == .ramp) (fun y => feedEvent f 8 (onFeed f (fun z => { z with inserts := inc8 z.inserts }) y))
    (stopTimer (.insTimeoutExpiry f) (onFeed f (fun x => { x with pg := true, state := .on }) d)))

theorem fxFeedPowerGood_good (hg : gateDriven d.feeds[f.val] = true) (hpg : (d.feeds[f.val]).pg = false) (ht : (d.feeds[f.val]).timer.up = false) :
    fxFeedPowerGood f d = if busPg d (feedBusB f) then feedGood f d else busGood (feedBusB f) (feedGood f d) :=
  if_pos (by simp [hg, hpg, ht])

theorem feedGood_feed : ((feedGood f d).feeds[f.val]).pg = true ∧ ((feedGood f d).feeds[f.val]).state = .on := by
  unfold feedGood
  cases (d.feeds[f.val]).state == .ramp <;> simp

theorem sameBut_feedGood : SameBut [.feeds, .timers] d (feedGood f d) := sameBut_iff.mpr (by simp [feedGood])

/-- What a bus that is good again brings changes no feed and no source (05 R194, 07 R280). -/
theorem busGood_leaves (busB : Bool) : (busGood busB d).feeds = d.feeds ∧ (busGood busB d).sources = d.sources := by simp [busGood]

/-- The block whose diode FET was turned off against a reverse current (07 R288). -/
def diodeTurnedOff (f : Fin 4) (d : Dev) : Dev :=
  feedEvent f 5 (onFeed f (fun x => { x with diodeOn := false, blocking := true, reverses := inc8 x.reverses }) d)

theorem diodeTurnedOff_feed : ((diodeTurnedOff f d).feeds[f.val]).diodeOn = false ∧ ((diodeTurnedOff f d).feeds[f.val]).blocking = true ∧
    ((diodeTurnedOff f d).feeds[f.val]).reverses = inc8 (d.feeds[f.val]).reverses ∧ ((diodeTurnedOff f d).feeds[f.val]).state = (d.feeds[f.val]).state := by
  simp [diodeTurnedOff]

theorem sameBut_diodeTurnedOff : SameBut [.feeds] d (diodeTurnedOff f d) := sameBut_iff.mpr (by simp [diodeTurnedOff])

theorem fxFeedReverseTurnOff_raises (hf : (feedCfg d f).fflags.getLsbD 0 = true) (hon : (d.feeds[f.val]).diodeOn = true) :
    fxFeedReverseTurnOff f d = raise (feedSrc f 4) (diodeTurnedOff f d) :=
  (if_neg (by rw [hf]; decide)).trans (if_pos hon)

theorem fxDiodeRedrive_drives (hf : (feedCfg d f).fflags.getLsbD 0 = true) (hv : d.sys.vgdKeep = true) :
    fxDiodeRedrive f d = onFeed f (fun x => { x with diodeOn := true, blocking := false }) d :=
  if_pos (by simp [hf, hv])
end

/-- Settles O30: insertion by the delay a feed tries for, faults by their one course through PG_LOSS and the latch, breaches by theirs through WAIT,
limits, temperature and power-good by what they change of the feed. -/
theorem feedsInsertRunAndLatch : Obligations.FeedsInsertRunAndLatch := by
  unfold Obligations.FeedsInsertRunAndLatch
  intro s f
  refine ⟨fun hen hoff hcfg hlink he => ?_, ?_, fun hw hv hm ht he => ?_, fun hd => ?_, fun hr hq => ?_, fun hi h6 hk => ?_, fun hi h6 hk => ?_,
    fun b hg hl => ?_, fun hl => ?_, fun hl h6 hk => ?_, fun hg h6 hk => ?_, fun hg h6 hk => ?_, ?_, fun t w hsrc htau hhot hlow => ?_,
    fun hg hpg ht => ?_, fun hf hon hq => ?_, fun hf hv => ?_⟩
  · refine next_of_act (exec_feedEnableRise ..) ?_
    rw [fxFeedEnableRise_waits hen hoff hcfg hlink]
    refine ⟨?_, (sameBut_feedWaits.trans (sameBut_feedTryDelay.mono (by simp))).settled s.dev, ?_⟩
    · exact (congrArg Feed.fen feedTryDelay_feed :).trans (by simp [feedWaits_feed])
    · refine (feedTryDelay_state (by simp [feedWaits_feed]) (by simpa [extest, feedWaits] using he)).trans ?_
      simp [feedWaits]
  · obtain ⟨hfen, hstate, hwhy, hpg⟩ := fxFeedEnableFall_off (f := f) (d := s.dev)
    exact next_of_act (exec_feedEnableFall ..) ⟨hfen, hstate, hwhy, hpg, sameBut_fxFeedEnableFall.settled s.dev⟩
  · refine next_of_act (exec_feedWindowEnter ..) ?_
    rw [show fxFeedWindowEnter f s.dev = feedTryDelay f (feedInWindow f s.dev) from rfl]
    obtain ⟨hcond0, hcond1⟩ := feedInWindow_conds (f := f) (d := s.dev)
    have hstate := feedTryDelay_state (f := f) (d := feedInWindow f s.dev) (by simpa [feedInWindow_feed] using hw) (by simpa [extest, feedInWindow, condEnd] using he)
    refine ⟨hstate.trans ?_, (congrArg Feed.inWindow feedTryDelay_feed :).trans (by simp [feedInWindow_feed]), by simpa using hcond0, by simpa using hcond1,
      (sameBut_feedInWindow.trans (sameBut_feedTryDelay.mono (by simp))).settled s.dev⟩
    have hset : (feedInWindow f s.dev).sys = s.dev.sys := by simp [feedInWindow]
    have htrip : s.dev.sys.tempTrip[5] = false := ht
    simp [feedInWindow_feed, hset, hv, hm, htrip]
  · exact next_of_act (exec_insDelayExpiry ..) ⟨fxInsDelayExpiry_state hd, sameBut_fxInsDelayExpiry.settled s.dev⟩
  · have h := fxInsTimeoutExpiry_latches hr hq
    exact next_of_act (exec_insTimeoutExpiry ..) ⟨h.state, h.latchWhy, h.latch, h.ports, h.sys⟩
  · have h := feedBreach_noted 6 true false hi h6 hk (by decide)
    exact next_of_act (exec_feedUvBreach ..) ⟨h.state, h.inUv.trans (by simp), h.latch, fun hpg => h.fault.pgLoss (by simpa using hpg), h.fault.ports, h.fault.sys⟩
  · have h := feedBreach_noted 7 false true hi h6 hk (by decide)
    exact next_of_act (exec_feedOvBreach ..) ⟨h.state, h.inOv.trans (by simp), h.latch, fun hpg => h.fault.pgLoss (by simpa using hpg), h.fault.ports, h.fault.sys⟩
  · obtain ⟨hlim, hfold, htimer, hstate⟩ := fxFeedLimitStart_feed b hg hl
    exact next_of_act (exec_feedLimitStart ..) ⟨hlim, hfold, htimer, hstate, (sameBut_fxFeedLimitStart b hg hl).settled s.dev⟩
  · refine next_of_act (exec_feedLimitEnd ..) ?_
    rw [fxFeedLimitEnd_ends hl]
    exact ⟨by simp [feedUnlimited], by simp [feedUnlimited], by simp [feedUnlimited], SameBut.settled (sameBut_iff.mpr (by simp)) s.dev⟩
  · have h := fxFeedFaultTimerExpiry_latches hl h6 hk
    exact next_of_act (exec_feedFaultTimerExpiry ..) ⟨h.state, h.latchWhy, h.latch, h.ports, h.sys⟩
  · have h := fxFeedOvercurrentTrip_latches hg h6 hk
    exact next_of_act (exec_feedOvercurrentTrip ..) ⟨h.state, h.latchWhy, h.latch, h.ports, h.sys⟩
  · obtain ⟨h, hhot⟩ := fxFetTempTrip_latches hg h6 hk
    exact next_of_act (exec_fetTempTrip ..) ⟨hhot, h.state, h.latchWhy, h.latch, h.ports, h.sys⟩
  · obtain ⟨hhot, hstate⟩ := fetCooled_feed (f := f) (d := s.dev)
    exact next_of_act (exec_fetTempRelease ..) ⟨hhot, hstate, fetCooled_cond, sameBut_fetCooled.settled s.dev⟩
  · refine next_of_act (exec_feedModelStep ..) ?_
    rw [fxFeedModelStep_estimates hsrc htau hhot hlow]
    exact ⟨by simp, by simp, by simp, (sameBut_onFeed f _ s.dev).settled s.dev⟩
  · refine next_of_act (exec_feedPowerGood ..) ?_
    rw [fxFeedPowerGood_good hg hpg ht]
    obtain ⟨hgood, hon⟩ := feedGood_feed (f := f) (d := s.dev)
    have hsources : (feedGood f s.dev).sources = s.dev.sources := sameBut_feedGood .sources (by simp)
    obtain ⟨hfeeds, hsrc⟩ := busGood_leaves (d := feedGood f s.dev) (feedBusB f)
    cases hbus : busPg s.dev (feedBusB f)
    · exact ⟨by simp [hfeeds, hgood], by simp [hfeeds, hon], by simp [hsrc, hsources], fun h => absurd h (by simp)⟩
    · exact ⟨hgood, hon, hsources, fun _ => sameBut_feedGood.settled s.dev⟩
  · refine next_of_act (exec_feedReverseTurnOff ..) ?_
    rw [fxFeedReverseTurnOff_raises hf hon]
    obtain ⟨hdiode, hblocking, hreverses, hstate⟩ := diodeTurnedOff_feed (f := f) (d := s.dev)
    have hsame := sameBut_diodeTurnedOff (f := f) (d := s.dev)
    have hports : (diodeTurnedOff f s.dev).ports = s.dev.ports := hsame .ports (by simp)
    have hsys : (diodeTurnedOff f s.dev).sys = s.dev.sys := hsame .sys (by simp)
    have hsources : (diodeTurnedOff f s.dev).sources = s.dev.sources := hsame .sources (by simp)
    have hquiet : Quiet (diodeTurnedOff f s.dev) (feedSrc f 4) := quiet_of hq (by rw [hsources]) hsys
    exact ⟨by simp [raise_quiet_feeds hquiet, hdiode], by simp [raise_quiet_feeds hquiet, hblocking], by simp [raise_quiet_feeds hquiet, hreverses],
      by simp [raise_quiet_feeds hquiet, hstate], raise_latch hquiet (feedSrc_row f 4 (by decide)), by simp [raise_quiet hquiet, hports],
      by simp [raise_quiet hquiet, hsys]⟩
  · refine next_of_act (exec_diodeRedrive ..) ?_
    rw [fxDiodeRedrive_drives hf hv]
    exact ⟨rfl, (sameBut_onFeed f _ s.dev).settled s.dev⟩

end Sys2Proof.Machine
end

section
/-! SUPPORT. VGD and the gates it holds (07 R272, R291, R295, 11 R433), and the statement about it. -/

namespace Sys2Proof.Machine

theorem exec_vgdBelowStartLevel (s : State) : exec .vgdBelowStartLevel s = act fxVgdBelowStartLevel s := by rfl
theorem exec_vgdLow (s : State) : exec .vgdLow s = act fxVgdLow s := by rfl
theorem exec_vgdRecover (s : State) : exec .vgdRecover s = act fxVgdRecover s := by rfl

/-- Under an invariant of every step: what a step establishes for its own element and every step keeps holds at the end for each element that was
stepped on or had it before. -/
theorem forEach_establish_under {α : Type} {I : Dev → Prop} {Q : α → Dev → Prop} {l : List α} {f : α → Dev → Dev} (hI : ∀ x d, I d → I (f x d))
    (he : ∀ x d, I d → Q x (f x d)) (hk : ∀ x y d, I d → Q x d → Q x (f y d)) {d : Dev} (h : I d) (hl : ∀ x, x ∈ l ∨ Q x d) :
    I (forEach l f d) ∧ ∀ x, Q x (forEach l f d) := by
  induction l generalizing d with
  | nil => exact ⟨h, fun x => (hl x).resolve_left (by simp)⟩
  | cons y r ih =>
    refine ih (d := f y d) (hI y d h) fun x => ?_
    rcases hl x with hx | hx
    · rcases List.mem_cons.mp hx with rfl | hr
      · exact .inr (he x d h)
      · exact .inl hr
    · exact .inr (hk x y d h hx)

/-- The next action of a source and the loss of the links are what a quiet raise rests on. -/
theorem quiet_congr {n : Fin 768} {a b : Dev} (h : Quiet a n) (hs : b.sources = a.sources) (hl : b.sys.retraining = a.sys.retraining) : Quiet b n := by
  obtain ⟨haction, hlink⟩ := h
  exact ⟨by rw [hs]; exact haction, by unfold lostLink; rw [hl]; exact hlink⟩

theorem srcVgdUv_row : (srcRow srcVgdUv.val).isSome = true := by decide

/-! ### Below the start level (07 R272) -/

/-- A feed that does not wait to insert. -/
def NoInsertion (f : Fin 4) (d : Dev) : Prop := (d.feeds[f.val]).state ≠ .delay ∧ (d.feeds[f.val]).state ≠ .cooling

section
variable {d : Dev}

theorem feedToWait_noInsertion (f : Fin 4) (d : Dev) : NoInsertion f (feedToWait f d) := by
  obtain ⟨hstate, -⟩ := feedToWait_feed f d
  simp [NoInsertion, hstate]

theorem feedToWait_keeps_noInsertion (f g : Fin 4) (d : Dev) (h : NoInsertion f d) : NoInsertion f (feedToWait g d) := by
  by_cases e : f = g
  · subst e; exact feedToWait_noInsertion f d
  · simpa [NoInsertion, feedToWait_other g f d e] using h

/-- The block with VGD below its start level, every feed that waited to insert back in WAIT (07 R272). -/
def insertionsEnded (d : Dev) : Dev :=
  forEach ((indices 4).filter fun f => (d.feeds[f]).state == .delay || (d.feeds[f]).state == .cooling) feedToWait
    (onSys (fun s => { s with vgdStart := false }) d)

theorem insertionsEnded_feeds (f : Fin 4) : NoInsertion f (insertionsEnded d) := by
  refine (forEach_establish_under (I := fun _ => True) (Q := NoInsertion) (fun _ _ _ => trivial) (fun f d _ => feedToWait_noInsertion f d)
    (fun f g d _ => feedToWait_keeps_noInsertion f g d) trivial fun f => ?_).2 f
  by_cases h : (d.feeds[f.val]).state = .delay ∨ (d.feeds[f.val]).state = .cooling
  · exact .inl (by simpa [indices] using h)
  · exact .inr (by simpa [NoInsertion, not_or] using h)

theorem sameBut_insertionsEnded : SameBut [.feeds, .sys, .timers] d (insertionsEnded d) := sameBut_iff.mpr (by simp [insertionsEnded])

theorem insertionsEnded_sys : (insertionsEnded d).sys = { d.sys with vgdStart := false } := by simp [insertionsEnded]

theorem insertionsEnded_quiet {n : Fin 768} (h : Quiet d n) : Quiet (insertionsEnded d) n :=
  quiet_congr h (sameBut_insertionsEnded .sources (by simp)) (by rw [insertionsEnded_sys])

/-- VGD_UV is raised when VGD falls below its start level while a feed or a port is enabled (07 R272). -/
theorem vgdBelow_cases : vgdBelow d = raise srcVgdUv (insertionsEnded d) ∨ vgdBelow d = insertionsEnded d := by
  unfold vgdBelow
  dsimp only
  split
  · exact .inl rfl
  · exact .inr rfl

theorem vgdBelow_raises (hv : d.sys.vgdStart = true) (hp : ∃ p : Fin 32, (d.ports[p.val]).enabled = true) :
    vgdBelow d = raise srcVgdUv (insertionsEnded d) := by
  have hused : ((indices 32).any fun p => (d.ports[p]).enabled) = true := by simpa [indices] using hp
  exact if_pos (by simp only [hused, hv, Bool.or_true, Bool.and_self])

/-- VGD below its start level, whether VGD_UV is raised or not: a quiet source stays so, and only the level shows in the system block. -/
theorem vgdBelow_leaves (hq : Quiet d srcVgdUv) : (∀ n, Quiet d n → Quiet (vgdBelow d) n) ∧ (vgdBelow d).cfg = d.cfg ∧
    (vgdBelow d).sys = { d.sys with vgdStart := false } := by
  have hquiet := insertionsEnded_quiet hq
  have hcfg : (insertionsEnded d).cfg = d.cfg := sameBut_insertionsEnded .cfg (by simp)
  rcases vgdBelow_cases (d := d) with h | h <;> rw [h]
  · exact ⟨fun n hn => raise_quiet_other hquiet (insertionsEnded_quiet hn), by simp [raise_quiet hquiet, hcfg],
      by simp [raise_quiet hquiet, insertionsEnded_sys]⟩
  · exact ⟨fun n hn => insertionsEnded_quiet hn, hcfg, insertionsEnded_sys⟩
end

/-! ### Below the keep level (07 R272, R291, R295) -/

/-- A feed whose gate is off. -/
def GateUndriven (f : Fin 4) (d : Dev) : Prop := gateDriven d.feeds[f.val] = false

/-- A block on the way to having its gates off: PG_LOSS still quiet, and the configuration and the system block those of a. -/
structure GatesGoing (a b : Dev) : Prop where
  quiet : ∀ f : Fin 4, Quiet b (feedSrc f 6)
  cfg : b.cfg = a.cfg
  sys : b.sys = a.sys

section
variable {a d : Dev}

theorem gateOffLoss_going (f : Fin 4) (h : GatesGoing a d) : GatesGoing a (gateOffLoss f (feedToWait f) d) := by
  have hfault := gateOffLoss_fault (feedToWait_leavesUnits f) (h.quiet f)
  exact ⟨fun g => hfault.quiet _ (h.quiet g), hfault.cfg.trans h.cfg, hfault.sys.trans h.sys⟩

theorem gateOffLoss_gateUndriven (f : Fin 4) (h : GatesGoing a d) : GateUndriven f (gateOffLoss f (feedToWait f) d) := by
  obtain ⟨hstate, -⟩ := gateOffLoss_wait (h.quiet f)
  simp [GateUndriven, gateDriven, hstate]

theorem gateOffLoss_keeps_gateUndriven (f g : Fin 4) (h : GatesGoing a d) (hf : GateUndriven f d) : GateUndriven f (gateOffLoss g (feedToWait g) d) := by
  by_cases e : f = g
  · subst e; exact gateOffLoss_gateUndriven f h
  · simpa [GateUndriven, gateDriven, gateOffLoss_wait_other (h.quiet g) e] using hf

/-- The block whose feeds' gates went off with PG_LOSS (07 R291). -/
def feedGatesOff (d : Dev) : Dev := forEach ((indices 4).filter fun f => gateDriven (d.feeds[f])) (fun f x => gateOffLoss f (feedToWait f) x) d

theorem feedGatesOff_off (h : ∀ f : Fin 4, Quiet d (feedSrc f 6)) : GatesGoing d (feedGatesOff d) ∧ ∀ f, GateUndriven f (feedGatesOff d) := by
  refine forEach_establish_under (I := GatesGoing d) (fun f _ hx => gateOffLoss_going f hx) (fun f _ hx => gateOffLoss_gateUndriven f hx)
    (fun f g _ hx => gateOffLoss_keeps_gateUndriven f g hx) ⟨h, rfl, rfl⟩ fun f => ?_
  cases hg : gateDriven d.feeds[f.val]
  · exact .inr hg
  · exact .inl (by simpa [indices] using hg)

/-- A guard opened for want of VGD, its discharge off (07 R295). -/
def vgdOpens (p : Fin 32) (d : Dev) : Dev := onGuard p (fun g => { g with discharge := false }) (openGuard p 6 d)

/-- A guard that neither ramps nor conducts. -/
def GuardOff (p : Fin 32) (d : Dev) : Prop := guardOn d.guards[p.val] = false

theorem vgdOpens_off (p : Fin 32) (d : Dev) : GuardOff p (vgdOpens p d) := by
  simpa [GuardOff, vgdOpens, guardOn] using openGuard_self p 6 d

theorem vgdOpens_keeps_off (p q : Fin 32) (d : Dev) (h : GuardOff p d) : GuardOff p (vgdOpens q d) := by
  by_cases e : p = q
  · subst e; exact vgdOpens_off p d
  · simpa [GuardOff, vgdOpens, upd_other _ _ e, e] using h

/-- The block whose feed gates are off, with the diode FETs off too. -/
def diodesOff (d : Dev) : Dev := { feedGatesOff d with feeds := (feedGatesOff d).feeds.map fun x => { x with diodeOn := false } }

theorem gatesOff_eq : gatesOff d = forEach (indices 32) vgdOpens (diodesOff d) := by
  unfold gatesOff diodesOff feedGatesOff vgdOpens
  rfl

theorem gatesOff_guards (d : Dev) (p : Fin 32) : GuardOff p (gatesOff d) := by
  rw [gatesOff_eq]
  exact forEach_establish vgdOpens_off vgdOpens_keeps_off (List.mem_finRange p) (diodesOff d)

theorem gatesOff_leaves : (gatesOff d).feeds = (diodesOff d).feeds ∧ (gatesOff d).cfg = (feedGatesOff d).cfg ∧ (gatesOff d).sys = (feedGatesOff d).sys := by
  simp [gatesOff_eq, vgdOpens, diodesOff]

/-- Below the keep level every gate of a feed and every diode FET is off (07 R272). -/
theorem gatesOff_feeds (h : ∀ f : Fin 4, Quiet d (feedSrc f 6)) (f : Fin 4) :
    gateDriven (gatesOff d).feeds[f.val] = false ∧ ((gatesOff d).feeds[f.val]).diodeOn = false := by
  have hoff := (feedGatesOff_off h).2 f
  obtain ⟨hfeeds, -, -⟩ := gatesOff_leaves (d := d)
  simpa [hfeeds, diodesOff, GateUndriven, gateDriven] using hoff
end

/-- The block with VGD below both its levels, its gates still as they were. -/
def vgdLowered (d : Dev) : Dev := onSys (fun s => { s with vgdKeep := false }) (vgdBelow d)

theorem fxVgdLow_eq (d : Dev) : fxVgdLow d = gatesOff (vgdLowered d) := rfl

/-- Settles O31: below the start level by the feeds that return to WAIT and the raise of VGD_UV; below the keep level by the gates that go off one
after another, no source of PG_LOSS the less quiet; the recovery by the delays it lets begin. -/
theorem vgdHoldsEveryGate : Obligations.VgdHoldsEveryGate := by
  unfold Obligations.VgdHoldsEveryGate
  intro s
  refine ⟨fun hv hp hq => ?_, fun hq h6 => ?_, ?_⟩
  · refine next_of_act (exec_vgdBelowStartLevel ..) ?_
    rw [fxVgdBelowStartLevel, vgdBelow_raises hv hp]
    have hquiet := insertionsEnded_quiet hq
    have hguards : (insertionsEnded s.dev).guards = s.dev.guards := sameBut_insertionsEnded .guards (by simp)
    have hports : (insertionsEnded s.dev).ports = s.dev.ports := sameBut_insertionsEnded .ports (by simp)
    refine ⟨by simp [raise_quiet hquiet, insertionsEnded_sys], raise_latch hquiet srcVgdUv_row, fun f => ?_,
      by simp [raise_quiet hquiet, hguards], by simp [raise_quiet hquiet, hports]⟩
    simpa [NoInsertion, raise_quiet_feeds hquiet] using insertionsEnded_feeds (d := s.dev) f
  · refine next_of_act (exec_vgdLow ..) ?_
    rw [fxVgdLow_eq]
    obtain ⟨hquiet, hcfg, hsys⟩ := vgdBelow_leaves hq
    have hlow : ∀ f : Fin 4, Quiet (vgdLowered s.dev) (feedSrc f 6) := fun f => quiet_congr (hquiet _ (h6 f)) rfl rfl
    have hgoing := (feedGatesOff_off hlow).1
    obtain ⟨-, hgcfg, hgsys⟩ := gatesOff_leaves (d := vgdLowered s.dev)
    have hsysLow : (gatesOff (vgdLowered s.dev)).sys = { s.dev.sys with vgdStart := false, vgdKeep := false } := by
      rw [hgsys, hgoing.sys, vgdLowered, onSys_sys, hsys]
    have hcfgLow : (gatesOff (vgdLowered s.dev)).cfg = s.dev.cfg := by rw [hgcfg, hgoing.cfg, vgdLowered, onSys_cfg, hcfg]
    refine ⟨by simp [hsysLow], by simp [hsysLow], fun f => ?_, fun p => ?_, by simpa using hcfgLow⟩
    · simpa using gatesOff_feeds hlow f
    · simpa [GuardOff] using gatesOff_guards (vgdLowered s.dev) p
  · refine next_of_act (exec_vgdRecover ..) ?_
    exact ⟨by simp [fxVgdRecover], by simp [fxVgdRecover], by simp [fxVgdRecover, condEnd],
      SameBut.settled (sameBut_iff.mpr (by simp [fxVgdRecover, condEnd])) s.dev⟩

end Sys2Proof.Machine
end

section
/-! SUPPORT. Alarms (10 R407 to R411, R418): what a trigger leaves, the end of a commit, and the configuration of BOOT. -/

namespace Sys2Proof.Machine

theorem exec_alarmCommit (a : Fin 32) (s : State) : exec (.alarmCommit a) s = act (fxAlarmCommit a) s := by rfl

/-! ### Triggers (10 R418) -/

/-- What a trigger leaves of the timer block: the alarms, which of them have fired, and the configuration. -/
def AlarmsKept (a b : Dev) : Prop := b.alarms = a.alarms ∧ b.tmr.fired = a.tmr.fired ∧ b.cfg = a.cfg

theorem AlarmsKept.trans {a b c : Dev} (h : AlarmsKept a b) (k : AlarmsKept b c) : AlarmsKept a c := by
  obtain ⟨halarms, hfired, hcfg⟩ := h
  obtain ⟨kalarms, kfired, kcfg⟩ := k
  exact ⟨kalarms.trans halarms, kfired.trans hfired, kcfg.trans hcfg⟩

theorem readEffect_keepsAlarms (b : Fin 21) (a : Nat) (d : Dev) : AlarmsKept d (readEffect b a d) := by
  refine ⟨by simp, ?_, by simp⟩
  unfold readEffect
  split
  case h_2 => split <;> simp [loadBuffer]
  all_goals simp

theorem readMany_keepsAlarms (m : Fin 5) (b : Fin 21) (l : List Nat) (d : Dev) : AlarmsKept d (readMany m b l d).2 := by
  induction l generalizing d with
  | nil => exact ⟨rfl, rfl, rfl⟩
  | cons a r ih => exact (readEffect_keepsAlarms b a d).trans (ih _)

theorem telemetry_keepsAlarms (r : Fin 16) (c : RingCfg) (d : Dev) : AlarmsKept d (telemetry r c d) :=
  (readMany_keepsAlarms c.master (bufOfRing r) ((d.host.rings[r]).addrs.getD []) d).trans ⟨by simp [telemetry], by simp [telemetry], by simp [telemetry]⟩

theorem doorbell_keepsAlarms (r : Fin 16) (d : Dev) : AlarmsKept d (doorbell r d) := by
  unfold doorbell
  split
  · exact ⟨rfl, rfl, rfl⟩
  · dsimp only
    split
    · split <;> exact ⟨by simp, by simp, by simp⟩
    · split
      · exact telemetry_keepsAlarms ..
      · exact ⟨by simp, by simp, by simp⟩

theorem launch_keepsAlarms (kind index sub : Nat) (d : Dev) : AlarmsKept d (launch kind index sub d) := by
  unfold launch
  dsimp only
  split
  · split <;> exact ⟨by simp, by simp, by simp⟩
  · split
    · split
      · exact doorbell_keepsAlarms ..
      · exact ⟨rfl, rfl, rfl⟩
    · split
      · split <;> exact ⟨by simp, by simp, by simp⟩
      · exact ⟨rfl, rfl, rfl⟩

/-- No trigger is configured. -/
@[simp] theorem launch_none (index sub : Nat) (d : Dev) : launch 0 index sub d = d := (rfl)

/-- A trigger of an interval timer starts it at the next tick. -/
@[simp] theorem launch_itm (t : Fin 16) (sub : Nat) (d : Dev) : launch 3 t.val sub d = onItm t (fun x => { x with startDue := true }) d := by
  simp [launch]

/-! ### An alarm that fires (10 R408, R409) -/

/-- The block with an alarm fired, its trigger not launched yet. -/
def alarmFired (a : Fin 32) (late stepped : Bool) (d : Dev) : Dev :=
  onTmr (fun t => { t with fired := setBit t.fired a.val }) (onAlarm a (fun x => { x with
    armed := false, wasLate := late, stepped := stepped, fireTb := d.tmr.tb, fires := sat 0xFFFF (x.fires + 1)
    lates := if late then inc8 x.lates else x.lates }) d)

theorem fireAlarm_eq (a : Fin 32) (late stepped : Bool) (d : Dev) : fireAlarm a late stepped d =
    launch (d.alarms[a.val]).tkind (d.alarms[a.val]).tindex (d.alarms[a.val]).tsub (alarmFired a late stepped d) := (rfl)

section
variable (a : Fin 32) (late stepped : Bool) (d : Dev)

@[simp] theorem alarmFired_alarm : (alarmFired a late stepped d).alarms[a.val] = { d.alarms[a.val] with
    armed := false, wasLate := late, stepped := stepped, fireTb := d.tmr.tb, fires := sat 0xFFFF ((d.alarms[a.val]).fires + 1)
    lates := if late then inc8 (d.alarms[a.val]).lates else (d.alarms[a.val]).lates } := by simp [alarmFired]
@[simp] theorem alarmFired_tmr : (alarmFired a late stepped d).tmr = { d.tmr with fired := setBit d.tmr.fired a.val } := (rfl)
@[simp] theorem alarmFired_cfg : (alarmFired a late stepped d).cfg = d.cfg := (rfl)
end

theorem sameBut_alarmFired {a : Fin 32} {late stepped : Bool} {d : Dev} : SameBut [.alarms, .tmr] d (alarmFired a late stepped d) :=
  sameBut_iff.mpr (by simp [alarmFired])

/-! ### The end of a commit (10 R407, R408) -/

/-- The block with a compare value committed, neither armed nor past yet. -/
def compareTaken (a : Fin 32) (c : Nat) (d : Dev) : Dev :=
  stopTimer (.alarmCommit a) (onAlarm a (fun x => { x with cmp := c, commitHi := none, missed := false }) d)

/-- The block with a past compare value that an alarm missed. -/
def compareMissed (a : Fin 32) (c : Nat) (d : Dev) : Dev :=
  onTmr (fun t => { t with missed := setBit t.missed a.val })
    (onAlarm a (fun x => { x with armed := false, missed := true, misses := inc8 x.misses }) (compareTaken a c d))

section
variable (a : Fin 32) (c : Nat) (d : Dev)

@[simp] theorem compareTaken_alarm : (compareTaken a c d).alarms[a.val] = { d.alarms[a.val] with cmp := c, commitHi := none, missed := false } := by
  simp [compareTaken]
@[simp] theorem compareTaken_tmr : (compareTaken a c d).tmr = d.tmr := (rfl)
@[simp] theorem compareTaken_cfg : (compareTaken a c d).cfg = d.cfg := (rfl)
@[simp] theorem compareMissed_alarm : (compareMissed a c d).alarms[a.val] = { d.alarms[a.val] with
    cmp := c, commitHi := none, armed := false, missed := true, misses := inc8 (d.alarms[a.val]).misses } := by
  simp [compareMissed]
@[simp] theorem compareMissed_tmr : (compareMissed a c d).tmr = { d.tmr with missed := setBit d.tmr.missed a.val } := (rfl)
end

theorem sameBut_compareTaken {a : Fin 32} {c : Nat} {d : Dev} : SameBut [.alarms, .timers] d (compareTaken a c d) :=
  sameBut_iff.mpr (by simp [compareTaken])

theorem sameBut_compareMissed {a : Fin 32} {c : Nat} {d : Dev} : SameBut [.alarms, .timers, .tmr] d (compareMissed a c d) :=
  sameBut_iff.mpr (by simp [compareMissed, compareTaken])

section
variable {a : Fin 32} {h : Nat} {d : Dev} (hc : (d.alarms[a.val]).commitHi = some h)
include hc

theorem fxAlarmCommit_arms (hahead : isAhead d ((d.alarms[a.val]).commitLo + h * 2 ^ 32) = true) : fxAlarmCommit a d =
    onAlarm a (fun x => { x with armed := true }) (compareTaken a ((d.alarms[a.val]).commitLo + h * 2 ^ 32) d) := by
  simp only [fxAlarmCommit, Fin.getElem_fin, hc, hahead, if_true]
  rfl

theorem fxAlarmCommit_misses (hpast : isAhead d ((d.alarms[a.val]).commitLo + h * 2 ^ 32) = false) (hl : (d.alarms[a.val]).late = false) :
    fxAlarmCommit a d = compareMissed a ((d.alarms[a.val]).commitLo + h * 2 ^ 32) d := by
  simp only [fxAlarmCommit, Fin.getElem_fin, hc, hpast, hl, Bool.false_eq_true, if_false]
  rfl

theorem fxAlarmCommit_firesLate (hpast : isAhead d ((d.alarms[a.val]).commitLo + h * 2 ^ 32) = false) (hl : (d.alarms[a.val]).late = true) :
    fxAlarmCommit a d = launch (d.alarms[a.val]).tkind (d.alarms[a.val]).tindex (d.alarms[a.val]).tsub
      (alarmFired a true false (compareTaken a ((d.alarms[a.val]).commitLo + h * 2 ^ 32) d)) := by
  simp only [fxAlarmCommit, Fin.getElem_fin, hc, hpast, hl, Bool.false_eq_true, if_false, if_true, fireAlarm_eq]
  simp only [stopTimer_alarms, onAlarm_alarms, upd_self]
  rfl
end

/-! ### The configuration of BOOT (02 R63) -/

theorem netStart_alarms (d : Dev) : (netStart d).alarms = d.alarms := by
  unfold netStart
  split
  · simp
  · dsimp only
    rw [forEach_onlyTimers (indices 16)]
    · split <;> simp [stopTimersIf]
    · intro i y
      split
      · split <;> rfl
      · rfl

theorem applyTimers_boot_alarm (old : ImageCfg) (d : Dev) (a : Fin 32) :
    (applyTimers true old d).alarms[a.val] = almApply d.cfg.alms[a.val] d.alarms[a.val] := by
  simp [applyTimers]

theorem applyFaults_alarms (d : Dev) : (applyFaults d).alarms = d.alarms := by simp [applyFaults]

/-- At BOOT every alarm takes its record. -/
theorem applyBoot_alarm (new : ImageCfg) (d : Dev) (a : Fin 32) :
    (applyBoot new d).alarms[a.val] = almApply new.alms[a.val] d.alarms[a.val] := by
  simp [applyBoot, netStart_alarms, applyTimers_boot_alarm, applyFaults_alarms]

/-- Settles O8: at the end of a commit by what a missed and a late compare value leave, whatever the trigger; at BOOT by the alarm's record. -/
theorem pastCompareMissesOrFiresLate : Obligations.PastCompareMissesOrFiresLate := by
  unfold Obligations.PastCompareMissesOrFiresLate
  refine ⟨fun s a h hc hpast => ⟨fun hl => ?_, fun hl => ?_⟩, fun new d a => ?_⟩
  · refine next_of_act (exec_alarmCommit ..) ?_
    rw [fxAlarmCommit_misses hc hpast hl]
    exact ⟨by simp, by simp, by simp, by simp, sameBut_compareMissed.settled s.dev⟩
  · refine next_of_act (exec_alarmCommit ..) ?_
    rw [fxAlarmCommit_firesLate hc hpast hl]
    obtain ⟨halarms, hfired, hcfg⟩ := launch_keepsAlarms (s.dev.alarms[a.val]).tkind (s.dev.alarms[a.val]).tindex (s.dev.alarms[a.val]).tsub
      (alarmFired a true false (compareTaken a ((s.dev.alarms[a.val]).commitLo + h * 2 ^ 32) s.dev))
    simp only [settle_alarms, settle_tmr, settle_cfg, settle_itms, Fin.getElem_fin, halarms, hfired, hcfg]
    refine ⟨by simp, by simp, by simp, by simp, by simp, fun t hk hi => ?_, by simp⟩
    simp [hk, hi]
  · simp only [Fin.getElem_fin, applyBoot_alarm]
    cases new.alms[a.val] <;> rfl

end Sys2Proof.Machine
end

section
/-! SUPPORT. The timer block (10 R405, R407 to R411, R413 to R417, R421 to R424), and the statement about it. -/

namespace Sys2Proof.Machine

theorem exec_alarmFire (a : Fin 32) (b : Bool) (s : State) : exec (.alarmFire a b) s = act (fxAlarmFire a b) s := by rfl
theorem exec_itmZero (t : Fin 16) (s : State) : exec (.itmZero t) s = act (fxItmZero t) s := by rfl
theorem exec_tmrGoDatedRelease (s : State) : exec .tmrGoDatedRelease s = act fxTmrGoDatedRelease s := by rfl
theorem exec_tbLoRead (m : Fin 5) (s : State) : exec (.tbLoRead m) s = act (fxTbLoRead m) s := by rfl

/-! ### The owner's writes (00 R7, 12 R460) -/

section
variable (m : Fin 5) (a : Fin 32) (t : Fin 16) (v : Word) (s : State)

theorem exec_almCmpLoWrite : exec (.almCmpLoWrite m a v) s = act (ownerWrite m (onAlarm a fun x => { x with staged := v.toNat })) s := by rfl
theorem exec_almCmpHiWrite : exec (.almCmpHiWrite m a v) s = act (ownerWrite m (cmpHi a v)) s := by rfl
theorem exec_cancel : exec (.cancel m a) s = act (ownerWrite m (cancelAlarm a)) s := by rfl
theorem exec_itmReloadWrite : exec (.itmReloadWrite m t v) s = act (ownerWrite m (reloadItm t v)) s := by rfl
theorem exec_itmStart : exec (.itmStart m t) s = act (ownerWrite m (startItm t)) s := by rfl
theorem exec_itmStop : exec (.itmStop m t) s = act (ownerWrite m (stopItm t)) s := by rfl
theorem exec_capPop : exec (.capPop m t) s = act (ownerWrite m (popCapture t)) s := by rfl
theorem exec_tmrGo : exec (.tmrGo m v) s = act (ownerWrite m (goWrite v)) s := by rfl
end

/-- A write of the owner answers the block with the write made, settled. -/
theorem next_of_owner {c : Instr} {m : Fin 5} {f : Dev → Dev} {s : State} {P : Dev → Prop} (hc : exec c s = act (ownerWrite m f) s)
    (ho : isOwner s.dev m = true) (h : P (settle s.dev (f s.dev))) : ∃ d, exec c s = .next { s with dev := d } ∧ P d :=
  next_of_act hc (by rwa [ownerWrite_owner f ho])

theorem sameBut_onAlarm {a : Fin 32} {f : Alarm → Alarm} {d : Dev} : SameBut [.alarms] d (onAlarm a f d) := sameBut_iff.mpr (by simp)
theorem sameBut_onItm {t : Fin 16} {f : Itm → Itm} {d : Dev} : SameBut [.itms] d (onItm t f d) := sameBut_iff.mpr (by simp)

/-! ### Starts and releases of interval timers (10 R415, R416, R421) -/

theorem startNow_runs (x : Itm) : (startNow x).state = .running ∧ (startNow x).load = true := by
  unfold startNow
  split
  · next hrun => split <;> exact ⟨hrun, rfl⟩
  · exact ⟨rfl, rfl⟩

theorem startItm_held {t : Fin 16} {d : Dev} (h : (d.itms[t.val]).state = .held) : (startItm t d).itms = d.itms := by
  simp [startItm, upd, h]

theorem startItm_starts {t : Fin 16} {d : Dev} (h : (d.itms[t.val]).state ≠ .held) : (startItm t d).itms[t.val] = startNow d.itms[t.val] := by
  rw [startItm, onItm_itms, upd_self]
  split
  · next hheld => exact absurd hheld h
  all_goals rfl

theorem sameBut_startItm {t : Fin 16} {d : Dev} : SameBut [.itms] d (startItm t d) := sameBut_onItm

/-- An interval timer runs, its count to be loaded at the next tick. -/
def ItmStarted (t : Fin 16) (d : Dev) : Prop := (d.itms[t.val]).state = .running ∧ (d.itms[t.val]).load = true

@[simp] theorem releaseItm_itms (t : Fin 16) (d : Dev) : (releaseItm t d).itms = upd d.itms t startNow := (rfl)

theorem releaseItm_started (t : Fin 16) (d : Dev) : ItmStarted t (releaseItm t d) := by
  simpa [ItmStarted] using startNow_runs d.itms[t.val]

theorem releaseItm_keeps_started (t u : Fin 16) (d : Dev) (h : ItmStarted t d) : ItmStarted t (releaseItm u d) := by
  by_cases hu : t = u
  · exact hu ▸ releaseItm_started t d
  · simpa [ItmStarted, upd_other _ _ hu] using h

/-- A release starts every timer of its mask. -/
theorem goRelease_started {mask : Nat} {t : Fin 16} (h : mask.testBit t.val = true) (d : Dev) : ItmStarted t (goRelease mask d) := by
  have hall : ItmStarted t (forEach (goTimers mask) releaseItm d) :=
    forEach_establish releaseItm_started releaseItm_keeps_started (by simp [goTimers, indices, h]) d
  simpa [goRelease, ItmStarted] using hall

theorem sameBut_goRelease {mask : Nat} {d : Dev} : SameBut [.itms, .tmr] d (goRelease mask d) :=
  sameBut_iff.mpr (by simp [goRelease, tmrEvent])

/-- A dated release whose instant has come (10 R422). -/
theorem fxTmrGoDatedRelease_releases {d : Dev} (hp : d.tmr.goPending = true) (he : d.tmr.goEffect = 0) (ha : isAhead d d.tmr.goArmed = false) :
    fxTmrGoDatedRelease d = goRelease d.tmr.goMask (stopTimer .tmrGoDatedRelease (onTmr (fun t => { t with goPending := false }) d)) :=
  if_pos (by simp [hp, he, ha])

/-! ### Zero of an interval timer (10 R413) -/

/-- The block with an interval timer at zero, its trigger not launched yet. -/
def itmAtZero (t : Fin 16) (d : Dev) : Dev :=
  onTmr (fun y => { y with summary := setBit y.summary t.val }) (onItm t (fun x => { x with
    count := 0, zero := true, zeroTb := d.tmr.tb, zeros := wrapInc 16 x.zeros, load := !x.oneShot
    state := if x.oneShot then .stopped else .running }) d)

theorem fxItmZero_running {t : Fin 16} {d : Dev} (h : (d.itms[t.val]).state = .running) : fxItmZero t d =
    launch (d.itms[t.val]).tkind (d.itms[t.val]).tindex (d.itms[t.val]).tsub (itmAtZero t d) := by
  simp only [fxItmZero, Fin.getElem_fin, h, bne_self_eq_false, Bool.false_eq_true, if_false]
  rfl

@[simp] theorem itmAtZero_itm (t : Fin 16) (d : Dev) : (itmAtZero t d).itms[t.val] = { d.itms[t.val] with
    count := 0, zero := true, zeroTb := d.tmr.tb, zeros := wrapInc 16 (d.itms[t.val]).zeros, load := !(d.itms[t.val]).oneShot
    state := if (d.itms[t.val]).oneShot then .stopped else .running } := by simp [itmAtZero]

theorem sameBut_itmAtZero {t : Fin 16} {d : Dev} : SameBut [.itms, .tmr] d (itmAtZero t d) := sameBut_iff.mpr (by simp [itmAtZero])

/-! ### A due alarm (10 R409), a read of TB_LO (10 R405) -/

theorem fxAlarmFire_due {a : Fin 32} {d : Dev} (b : Bool) (h : alarmDue d a = true) : fxAlarmFire a b d =
    launch (d.alarms[a.val]).tkind (d.alarms[a.val]).tindex (d.alarms[a.val]).tsub (alarmFired a false b d) :=
  (if_pos h).trans (fireAlarm_eq ..)

/-- The time base with TB_HI latched into one buffer. -/
def tbHiLatched (b : Fin 21) (t : Timers) : Timers := { t with tbHi := t.tbHi.set b (t.tb / 2 ^ 32 % 2 ^ 32) }

/-- Outside RECOVERY a read of TB_LO latches TB_HI and answers TB's low word (14 R553). -/
theorem fxTbLoRead_latches {m : Fin 5} {d : Dev} (h : d.sys.mode ≠ .recovery) : fxTbLoRead m d =
    onMaster m (fun x => { x with reply := [wordOf d.tmr.tb 0] }) (onTmr (tbHiLatched (bufOf m)) d) := by
  have hloc : locIn d 0x4000 = .timer 0 := (if_neg (by simp [h])).trans (by decide)
  have heffect : readEffect (bufOf m) 0x4000 d = onTmr (tbHiLatched (bufOf m)) d := by
    unfold readEffect
    rw [hloc]
    rfl
  rw [fxTbLoRead, if_neg (by simpa using h), heffect]

/-- Settles O43: the owner's writes one by one, an alarm by what its commit or its firing leaves, an interval timer by its zero and its release. -/
theorem alarmsAndIntervalTimers : Obligations.AlarmsAndIntervalTimers := by
  unfold Obligations.AlarmsAndIntervalTimers
  intro s m
  refine ⟨fun ho => ⟨fun a v => ?_, fun a v => ?_, fun a => ?_, fun t v => ?_, fun t => ?_, fun t => ?_, fun t => ?_, fun v => ?_⟩,
    fun ho a v => ?_, fun a h hc => ⟨fun hahead => ?_, fun hpast hl => ?_, fun hpast hl hk => ?_⟩,
    fun a b hdue => ⟨fun hk => ?_, fun t hk hi => ?_⟩, fun t hr hk => ?_, fun hp he ha => ?_, fun hmode => ?_⟩
  · exact next_of_owner (exec_almCmpLoWrite ..) ho ⟨rfl, sameBut_onAlarm.settled s.dev⟩
  · exact next_of_owner (exec_almCmpHiWrite ..) ho ⟨by simp [cmpHi], by simp [cmpHi], by simp [cmpHi],
      SameBut.settled (sameBut_iff.mpr (by simp [cmpHi])) s.dev⟩
  · exact next_of_owner (exec_cancel ..) ho ⟨rfl, sameBut_onAlarm.settled s.dev⟩
  · exact next_of_owner (exec_itmReloadWrite ..) ho ⟨by simp [reloadItm], by simp [reloadItm], sameBut_onItm.settled s.dev⟩
  · refine next_of_owner (exec_itmStart ..) ho ?_
    simp only [settle_itms, Fin.getElem_fin]
    by_cases hheld : (s.dev.itms[t.val]).state = .held
    · exact ⟨by simp [startItm_held hheld, hheld], fun _ => startItm_held hheld, fun hn => absurd hheld hn, sameBut_startItm.settled s.dev⟩
    · obtain ⟨hstate, hload⟩ := startNow_runs s.dev.itms[t.val]
      exact ⟨by simp [startItm_starts hheld, hheld, hstate], fun hn => absurd hn hheld, fun _ => by rw [startItm_starts hheld, hload],
        sameBut_startItm.settled s.dev⟩
  · exact next_of_owner (exec_itmStop ..) ho ⟨by simp [stopItm], by simp [stopItm], sameBut_onItm.settled s.dev⟩
  · exact next_of_owner (exec_capPop ..) ho ⟨by simp [popCapture], sameBut_onItm.settled s.dev⟩
  · exact next_of_owner (exec_tmrGo ..) ho ⟨rfl, rfl, rfl, rfl, SameBut.settled (sameBut_iff.mpr (by simp [goWrite])) s.dev⟩
  · refine next_of_act (exec_almCmpLoWrite ..) ?_
    rw [ownerWrite_other _ ho]
    exact SameBut.settled (sameBut_iff.mpr (by simp)) s.dev
  · refine next_of_act (exec_alarmCommit ..) ?_
    rw [fxAlarmCommit_arms hc hahead]
    exact ⟨by simp, by simp, by simp, (sameBut_compareTaken.trans (sameBut_onAlarm.mono (by simp))).settled s.dev⟩
  · refine next_of_act (exec_alarmCommit ..) ?_
    rw [fxAlarmCommit_misses hc hpast hl]
    exact ⟨by simp, by simp, by simp, by simp, sameBut_compareMissed.settled s.dev⟩
  · refine next_of_act (exec_alarmCommit ..) ?_
    rw [fxAlarmCommit_firesLate hc hpast hl, show (s.dev.alarms[a.val]).tkind = 0 from hk, launch_none]
    exact ⟨by simp, by simp, by simp, by simp,
      ((sameBut_compareTaken.mono (by simp)).trans (sameBut_alarmFired.mono (by simp))).settled s.dev⟩
  · refine next_of_act (exec_alarmFire ..) ?_
    rw [fxAlarmFire_due b hdue, show (s.dev.alarms[a.val]).tkind = 0 from hk, launch_none]
    exact ⟨by simp, by simp, by simp, by simp, rfl, sameBut_alarmFired.settled s.dev⟩
  · refine next_of_act (exec_alarmFire ..) ?_
    rw [fxAlarmFire_due b hdue, show (s.dev.alarms[a.val]).tkind = 3 from hk, show (s.dev.alarms[a.val]).tindex = t.val from hi, launch_itm]
    exact ⟨by simp, rfl, ((sameBut_alarmFired.mono (by simp)).trans (sameBut_onItm.mono (by simp))).settled s.dev⟩
  · refine next_of_act (exec_itmZero ..) ?_
    rw [fxItmZero_running hr, show (s.dev.itms[t.val]).tkind = 0 from hk, launch_none]
    exact ⟨by simp, by simp, by simp, by simp, by simp, by simp, sameBut_itmAtZero.settled s.dev⟩
  · refine next_of_act (exec_tmrGoDatedRelease ..) ?_
    rw [fxTmrGoDatedRelease_releases hp he ha]
    refine ⟨fun t ht => goRelease_started ht _, by simp [goRelease, tmrEvent], SameBut.settled (SameBut.trans ?_ (sameBut_goRelease.mono (by simp))) s.dev⟩
    exact sameBut_iff.mpr (by simp)
  · refine next_of_act (exec_tbLoRead ..) ?_
    rw [fxTbLoRead_latches hmode]
    exact ⟨by simp, by simp [tbHiLatched], by simp [tbHiLatched], SameBut.settled (sameBut_iff.mpr (by simp)) s.dev⟩

end Sys2Proof.Machine
end

section
/-! SUPPORT. The front of the queue (10 R404, 12 R479), and the statement about it. -/

namespace Sys2Proof.Machine

/-- Settles O1: with a command at the front the step is its first branch, by definition. -/
theorem stepRunsTheFrontCommand : Obligations.StepRunsTheFrontCommand := by
  unfold Obligations.StepRunsTheFrontCommand
  intro c rest s hfront
  rw [step, hfront]

end Sys2Proof.Machine
end

section
/-! SUPPORT. Raises and graces of the fault collector (11 R435 to R442, 01 R32, R631). -/

namespace Sys2Proof.Machine

/-! ### Raises (11 R439, R441, 01 R631, 14 R551) -/

section
variable {n : Fin 768} {d : Dev}

/-- Without a trial no raise falls one back (14 R551). -/
theorem healthWatch_noTrial (n : Fin 768) (ht : d.upd.trial = none) : healthWatch n d = d := by
  unfold healthWatch startFallback
  rw [ht]
  exact ite_self d

/-- Over a link that stands a raise reaches the collector, and without a trial nothing follows it there (01 R631, 14 R551). -/
theorem takeRaise_quiet (t : Nat) (hq : Quiet d n) (ht : d.upd.trial = none) : takeRaise n t d = raiseStamped n t d := by
  have htrial : (raiseStamped n t d).upd.trial = none := by simpa [raiseStamped_quiet hq] using ht
  exact ite_eq_right_iff.mpr fun _ => healthWatch_noTrial n htrial

/-- A raise that is no TEMP_TRIP and no failed block of the store is taken, and what follows a RESET_BLOCK of it (11 R432). -/
theorem fxFaultRaise_takes (t : Nat) (htrip : tripDie n = none) (hw : n ≠ srcStoreWrite) :
    fxFaultRaise n t d = blockFollow n d (takeRaise n t d) := by
  simp [fxFaultRaise, htrip, beq_eq_false_iff_ne.mpr hw]

theorem fxFaultRaise_quiet (t : Nat) (htrip : tripDie n = none) (hw : n ≠ srcStoreWrite) (hr : (srcRow n.val).isSome = true) (hq : Quiet d n)
    (ht : d.upd.trial = none) : fxFaultRaise n t d = raiseStamped n t d := by
  rw [fxFaultRaise_takes t htrip hw, takeRaise_quiet t hq ht]
  exact blockFollow_else (.inl (by simp [raiseStamped_action hq hr]))

/-- Behind a lost link a raise waits with its stamp in the queue of its die (01 R631). -/
theorem fxFaultRaise_waits {l : Fin 5} (t : Nat) (htrip : tripDie n = none) (hw : n ≠ srcStoreWrite) (hl : lostLink d n = some l)
    (hroom : (d.loss.queue[l.val]).length < lossFrames) (hsafe : (takeLater d.sources[n.val]).eff ≠ 3) : fxFaultRaise n t d =
      { d with loss := { d.loss with queue := d.loss.queue.set l.val (d.loss.queue[l.val] ++ [.report (.faultRaise n t)]) } } := by
  have hput : lossPut l (.report (.faultRaise n t)) d =
      { d with loss := { d.loss with queue := d.loss.queue.set l.val (d.loss.queue[l.val] ++ [.report (.faultRaise n t)]) } } := if_pos hroom
  have hraise : takeRaise n t d = lossPut l (.report (.faultRaise n t)) d := by
    simp [takeRaise, raiseStamped, hl, dieSafe, hsafe]
  rw [fxFaultRaise_takes t htrip hw, hraise, hput]
  exact blockFollow_else (.inr id)

/-- The block in which the grace of a source runs to an instant (11 R441). -/
def graceRunning (n : Fin 768) (due : Nat) (d : Dev) : Dev :=
  startTimerAt (.graceExpiry n) due (onSource n (fun s => { s with graceRun := true })
    (onColl (fun c => { c with graces := c.graces ++ [(n, due)], graceMost := max c.graceMost (c.graces.length + 1) }) d))

/-- A latch just set whose severity is ACT starts its grace while one of the 64 timers is free (11 R435, R441). -/
theorem applySeverity_startsGrace {again : Fin 768 → Dev → Dev} {stamp index master : Nat} (ha : (d.sources[n.val]).action ≠ 0)
    (he : (d.sources[n.val]).eff = 2) (hroom : d.coll.graces.length < 64) : applySeverity again n stamp index master true true d =
      report n .raised false true stamp master index (graceRunning n (stamp + 50 * (d.sources[n.val]).grace) d) := by
  simp [applySeverity, graceRunning, ha, he, hroom]

/-- Without escalation a raise leaves the severity of its source (11 R442). -/
theorem raiseSource_noEscalation {stamp index : Nat} {forced : Option (Fin 5)} (hesc : d.coll.escN = 0) :
    (raiseSource d n stamp index forced).2 = false := by
  simp [raiseSource, hesc]

/-- The block whose collector took a raise that raises no severity: the source, what FAULT_LAST and
FAULT_LAST_TB_LO show, the return of a raised severity (11 R439, R442). -/
def raiseTaken (n : Fin 768) (t index : Nat) (forced : Option (Fin 5)) (d : Dev) : Dev :=
  let r := (raiseSource d n t index forced).1
  onlyIf (decide (r.sev < r.eff)) (startTimerAt (.severityRelax n) (t + ticksOfS 60))
    (onColl (fun c => { c with lastSrc := n.val, lastSev := r.eff, lastTb := t }) { d with sources := d.sources.set n r })

section
variable (t index : Nat) (forced : Option (Fin 5))

@[simp] theorem raiseTaken_sources : (raiseTaken n t index forced d).sources = d.sources.set n.val (raiseSource d n t index forced).1 := by
  simp [raiseTaken]
@[simp] theorem raiseTaken_graces : (raiseTaken n t index forced d).coll.graces = d.coll.graces := by simp [raiseTaken]
@[simp] theorem raiseTaken_frame : (raiseTaken n t index forced d).ports = d.ports ∧ (raiseTaken n t index forced d).sys = d.sys ∧
    (raiseTaken n t index forced d).upd = d.upd := by simp [raiseTaken]

/-- A raise that finds the latch clear and raises no severity is taken, and then its action goes by the severity (11 R435, R439). -/
theorem raiseWith_fresh (again : Fin 768 → Dev → Dev) (act : Bool) (hr : (srcRow n.val).isSome = true) (hlatch : (d.sources[n.val]).latch = false)
    (hup : (raiseSource d n t index forced).2 = false) : raiseWith again n t index forced act d =
      applySeverity again n t index ((forced.map (·.val)).getD 0xFF) act true (collEvent 0 (raiseTaken n t index forced d)) := by
  have hrow : ¬ (srcRow n.val).isNone = true := by simpa [Option.isSome_iff_ne_none] using hr
  have hclear : ¬ (d.sources[n]).latch = true := by simp [hlatch]
  rw [raiseWith, if_neg hrow]
  dsimp only
  rw [if_neg hclear, hup]
  rfl
end

/-- A source whose next raise starts a grace: its latch is clear, its severity ACT with an action and no amendment of it waiting, escalation is
off, and one of the 64 timers is free (11 R435, R441, R442). -/
structure AwaitsGrace (n : Fin 768) (d : Dev) : Prop where
  later : (d.sources[n.val]).later = none
  action : (d.sources[n.val]).action ≠ 0
  latch : (d.sources[n.val]).latch = false
  eff : (d.sources[n.val]).eff = 2
  escN : d.coll.escN = 0
  room : d.coll.graces.length < 64

/-- What a raise that starts a grace leaves: the source latched, its grace running to an instant, and nothing carried out (11 R435). -/
structure StartsGrace (n : Fin 768) (due : Nat) (a b : Dev) : Prop where
  latch : (b.sources[n.val]).latch = true
  graceRun : (b.sources[n.val]).graceRun = true
  acted : (b.sources[n.val]).acted = false
  due : (n, due) ∈ b.coll.graces
  ports : b.ports = a.ports
  sys : b.sys = a.sys
  upd : b.upd = a.upd

/-- What a raise leaves of a source that awaits its grace, before the grace starts (11 R439). -/
theorem raiseSource_awaitsGrace (t index : Nat) (h : AwaitsGrace n d) :
    (raiseSource d n t index none).1.latch = true ∧ (raiseSource d n t index none).1.acted = false ∧ (raiseSource d n t index none).1.eff = 2 ∧
    (raiseSource d n t index none).1.action = (d.sources[n.val]).action ∧ (raiseSource d n t index none).1.grace = (d.sources[n.val]).grace := by
  have hnow : takeLater d.sources[n.val] = d.sources[n.val] := by rw [takeLater, h.later]
  simp [raiseSource, hnow, h.escN, h.latch, h.eff]

/-- The grace of an ACT source is counted from the stamp of its raise (11 R441, 01 R32). -/
theorem raiseWith_startsGrace (again : Fin 768 → Dev → Dev) (t index : Nat) (hr : (srcRow n.val).isSome = true) (h : AwaitsGrace n d) :
    StartsGrace n (t + 50 * (d.sources[n.val]).grace) d (raiseWith again n t index none true d) := by
  obtain ⟨hlatch, hacted, heff, haction, hgrace⟩ := raiseSource_awaitsGrace t index h
  rw [raiseWith_fresh t index none again true hr h.latch (raiseSource_noEscalation h.escN),
    applySeverity_startsGrace (by simpa [haction] using h.action) (by simp [heff]) (by simpa [collEvent] using h.room)]
  constructor <;> simp [graceRunning, collEvent, hlatch, hacted, hgrace]

theorem fxFaultRaise_startsGrace (t : Nat) (htrip : tripDie n = none) (hw : n ≠ srcStoreWrite) (hr : (srcRow n.val).isSome = true)
    (ht : d.upd.trial = none) (hup : lostLink d n = none) (h : AwaitsGrace n d) :
    StartsGrace n (t + 50 * (d.sources[n.val]).grace) d (fxFaultRaise n t d) := by
  have hgrace := raiseWith_startsGrace raiseInner t 0 hr h
  have htake : takeRaise n t d = raiseWith raiseInner n t 0 none true d := by
    rw [takeRaise, raiseStamped_up hup]
    exact ite_eq_right_iff.mpr fun _ => healthWatch_noTrial n (hgrace.upd ▸ ht)
  rw [fxFaultRaise_takes t htrip hw, htake, blockFollow_else (.inr (by simp [hgrace.acted]))]
  exact hgrace

/-! ### Graces that run out (11 R435 to R437, 01 R32) -/

/-- The action of a source as it is carried out: it is noted, and its report leaves (11 R437, R447). -/
def actionNoted (n : Fin 768) (index : Nat) (grace : Bool) (d : Dev) : Dev :=
  collEvent 1 (report n .action false grace d.tmr.tb 0xFF index (onSource n (fun s => { s with acted := true }) d))

/-- An action that nothing subsumes is noted and carried out (11 R437). -/
theorem actionDue_carriesOut {again : Fin 768 → Dev → Dev} {index : Nat} {grace : Bool} (ha : (d.sources[n.val]).action ≠ 0)
    (hs : subsumed d n index = false) : actionDue again n index grace d = carryOut again n index (actionNoted n index grace d) := by
  simp [actionDue, actionNoted, ha, hs]

/-- PORT_RECOVER of a port's own source brings that port into ErrorRecovery (11 R436). -/
theorem carryOut_portRecover {again : Fin 768 → Dev → Dev} {index : Nat} {p : Fin 32} (ha : (d.sources[n.val]).action = 2)
    (hg : srcGroup n = .port p) : carryOut again n index d = errorRecovery p 5 d := by
  simp [carryOut, actionPort, ha, hg]

/-- For a source of a port the actions in effect do not depend on what a report names besides it (11 R437). -/
theorem inEffect_port {p : Fin 32} (hg : srcGroup n = .port p) (i j : Nat) : inEffect d n i = inEffect d n j := by
  simp [inEffect, hg]

/-- PORT_RECOVER of an ACTIVE or stand-alone device is subsumed only by an action in effect of its code or above (11 R437, R438). -/
theorem subsumed_portRecover {p : Fin 32} (index : Nat) (hg : srcGroup n = .port p) (ha : (d.sources[n.val]).action = 2) (he : inEffect d n 0 < 2)
    (hs : isShadow d = false) : subsumed d n index = false := by
  simp [subsumed, ha, hs, inEffect_port hg index 0, he]

theorem stopGrace_inEffect (index : Nat) : inEffect (stopGrace n d) n index = inEffect d n index := by
  simp [inEffect, stopGrace, portInEffect]

/-- Of the sources a noted action changes only its own (11 R437). -/
theorem actionNoted_sources (index : Nat) (grace : Bool) : (actionNoted n index grace d).sources = upd d.sources n (fun s => { s with acted := true }) := by
  simp [actionNoted, collEvent]

theorem actionNoted_frame (index : Nat) (grace : Bool) : (actionNoted n index grace d).cfg = d.cfg ∧ (actionNoted n index grace d).ports = d.ports ∧
    (actionNoted n index grace d).sys = d.sys := by
  simp [actionNoted, collEvent]

theorem actionNoted_disabling (index : Nat) (grace : Bool) (p : Fin 32) : ((actionNoted n index grace d).pd[p.val]).disabling = (d.pd[p.val]).disabling :=
  (congrArg PortPd.disabling (report_pd p n .action false grace d.tmr.tb 0xFF index (onSource n (fun s => { s with acted := true }) d)) :)

/-- A grace with PORT_RECOVER that runs out brings its port into ErrorRecovery (11 R435, R436, 01 R32). -/
theorem fxGraceExpiry_recovers {p : Fin 32} (hg : srcGroup n = .port p) (hrun : (d.sources[n.val]).graceRun = true)
    (ha : (d.sources[n.val]).action = 2) (he : inEffect d n 0 < 2) (hs : isShadow d = false) (hp : hasPort d p = true)
    (hdisabled : (d.ports[p.val]).tc ≠ .disabled) (herror : (d.ports[p.val]).tc ≠ .errorRecovery) (hmin : (d.ports[p.val]).tc ≠ .minimal)
    (hdis : (d.pd[p.val]).disabling = false) (hl : lostPort d p = false) :
    ((fxGraceExpiry n d).sources[n.val]).graceRun = false ∧ ((fxGraceExpiry n d).sources[n.val]).acted = true ∧
    ((fxGraceExpiry n d).ports[p.val]).tc = .errorRecovery ∧ guardOn ((fxGraceExpiry n d).guards[p.val]) = false := by
  generalize hindex : (d.sources[n.val]).index = index
  generalize hx : actionNoted n index true (stopGrace n d) = x
  have hout : graceOut n d = errorRecovery p 5 x := by
    have hnow : ((stopGrace n d).sources[n.val]).action = 2 := by rw [stopGrace_action, ha]
    have hfree : subsumed (stopGrace n d) n index = false :=
      subsumed_portRecover index hg hnow (by rwa [stopGrace_inEffect]) (by simpa [isShadow] using hs)
    have hnoted : (x.sources[n.val]).action = 2 := by simp [← hx, actionNoted_sources, hnow]
    rw [graceOut, if_pos (show (d.sources[n]).graceRun = true from hrun), Fin.getElem_fin, hindex, actionDue_carriesOut (by simp [hnow]) hfree, hx,
      carryOut_portRecover hnoted hg]
  obtain ⟨hcfg, hports, hsys⟩ := actionNoted_frame (n := n) (d := stopGrace n d) index true
  have hsource : x.sources[n.val] = { d.sources[n.val] with graceRun := false, acted := true } := by
    simp [← hx, actionNoted_sources, stopGrace]
  rw [hx] at hcfg hports hsys
  have hport := errorRecovery_port (p := p) (d := x) 5 (by simpa [hasPort, hcfg] using hp) (by simpa [hports] using hdisabled)
    (by simpa [hports] using herror) (by simpa [← hx, actionNoted_disabling] using hdis) (by simpa [hports] using hmin)
    (by rw [lostPort_of p (by simpa using hsys)]; exact hl)
  obtain ⟨htc, -, hguard⟩ := hport
  rw [fxGraceExpiry, hout, blockFollow_else (.inl (by simp [hsource, ha]))]
  exact ⟨by simp [hsource], by simp [hsource], htc, hguard⟩
end

end Sys2Proof.Machine
end

section
/-! SUPPORT. Cores that do not run again (11 R433, 09 R390, 14 R545, R551). -/

namespace Sys2Proof.Machine

/-- The block in which a core stands, as its watchdog finds it (11 R433). -/
def coreStopped (core : Fin 9) (d : Dev) : Dev :=
  if core.val = 0 then onUpd (fun u => { u with svRun := false }) d
  else if core.val ≤ 4 then onUpd (fun u => { u with coreRun := u.coreRun &&& ~~~ BitVec.ofNat 4 (2 ^ (core.val - 1)) }) d
  else d

/-- The block that has raised the watchdog of a core that stands (11 R433). -/
def coreRaised (core : Fin 9) (d : Dev) : Dev := takeRaise (srcWdt core) d.tmr.tb (coreStopped core d)

/-- The heartbeat of an ACTIVE stops where the raise of a core carried out RESET_BLOCK or above (09 R390). -/
def heartbeatEnds (core : Fin 9) (d x : Dev) : Dev :=
  onlyIf (d.twin.role == 1 && decide (core.val ≤ 4) && decide (6 ≤ (d.sources[(srcWdt core).val]).action) && (x.sources[(srcWdt core).val]).acted)
    (onTwin fun t => { t with heartbeatStopped := true }) x

section
variable {d : Dev} (core : Fin 9)

theorem coreDead_eq : coreDead core d = onlyIf (d.upd.trialBad != 0 && d.upd.paused.isSome && (coreRaised core d).upd.paused.isNone) continueFallback
    (heartbeatEnds core d (coreRaised core d)) := rfl

theorem coreStopped_frame : (coreStopped core d).ports = d.ports ∧ (coreStopped core d).sources = d.sources ∧ (coreStopped core d).sys = d.sys ∧
    (coreStopped core d).twin = d.twin ∧ (coreStopped core d).upd.paused = d.upd.paused ∧ (coreStopped core d).upd.trial = d.upd.trial := by
  unfold coreStopped
  split
  · simp
  · split <;> simp

/-- SV stands (11 R433). -/
theorem coreStopped_sv : (coreStopped 0 d).upd.svRun = false := rfl

/-- The port core of a watchdog stands (11 R433). -/
theorem coreStopped_core (k : Fin 4) : (coreStopped (watchOf k) d).upd.coreRun.getLsbD k.val = false := by
  have hbit : ∀ k : Fin 4, (~~~ BitVec.ofNat 4 (2 ^ (1 + k.val - 1))).getLsbD k.val = false := by decide
  have hstopped : (coreStopped (watchOf k) d).upd.coreRun = d.upd.coreRun &&& ~~~ BitVec.ofNat 4 (2 ^ (1 + k.val - 1)) := by
    rw [coreStopped, if_neg (by simp [watchOf]), if_pos (by simp [watchOf]; omega)]
    rfl
  rw [hstopped, BitVec.getLsbD_and, hbit k, Bool.and_false]

@[simp] theorem heartbeatEnds_frame (x : Dev) : (heartbeatEnds core d x).ports = x.ports ∧ (heartbeatEnds core d x).sources = x.sources ∧
    (heartbeatEnds core d x).upd = x.upd := by simp [heartbeatEnds]

/-- A core whose action now is below RESET_BLOCK leaves the heartbeat (09 R390). -/
theorem heartbeatEnds_below (x : Dev) (ha : (d.sources[(srcWdt core).val]).action < 6) : heartbeatEnds core d x = x := by
  have hbelow : decide (6 ≤ (d.sources[(srcWdt core).val]).action) = false := by simpa using ha
  rw [heartbeatEnds, hbelow, Bool.and_false, Bool.false_and, onlyIf_false]

theorem srcWdt_row : (srcRow (srcWdt core).val).isSome = true := by revert core; decide

/-- The raise of a watchdog without an action latches its source, and leaves the rest of the stopped core's block (11 R433, R435). -/
theorem coreRaised_quiet (hq : Quiet d (srcWdt core)) (ht : d.upd.trial = none) : ((coreRaised core d).sources[(srcWdt core).val]).latch = true ∧
    (coreRaised core d).ports = d.ports ∧ (coreRaised core d).twin = d.twin ∧ (coreRaised core d).upd = (coreStopped core d).upd := by
  obtain ⟨hports, hsources, hsys, htwin, -, htrial⟩ := coreStopped_frame (d := d) core
  have hqx : Quiet (coreStopped core d) (srcWdt core) := quiet_of hq (by rw [hsources]) hsys
  rw [coreRaised, takeRaise_quiet _ hqx (htrial.trans ht)]
  simp [raiseStamped_latch hqx (srcWdt_row core), raiseStamped_quiet hqx, hports, htwin]

/-- Such a raise ends no pause, so no fallback goes on from it (14 R551). -/
theorem coreDead_quiet (hq : Quiet d (srcWdt core)) (ht : d.upd.trial = none) : coreDead core d = heartbeatEnds core d (coreRaised core d) := by
  obtain ⟨-, -, -, -, hpaused, -⟩ := coreStopped_frame (d := d) core
  obtain ⟨-, -, -, hupd⟩ := coreRaised_quiet core hq ht
  have hpause : (d.upd.trialBad != 0 && d.upd.paused.isSome && d.upd.paused.isNone) = false := by cases d.upd.paused <;> simp
  rw [coreDead_eq, hupd, hpaused, hpause, onlyIf_false]

/-- What such a raise leaves: the source latched, the ports as they were, and of the update engine only that the core stands. -/
theorem coreDead_effect (hq : Quiet d (srcWdt core)) (ht : d.upd.trial = none) : ((coreDead core d).sources[(srcWdt core).val]).latch = true ∧
    (coreDead core d).ports = d.ports ∧ (coreDead core d).upd = (coreStopped core d).upd := by
  obtain ⟨hlatch, hports, -, hupd⟩ := coreRaised_quiet core hq ht
  simp [coreDead_quiet core hq ht, hlatch, hports, hupd]

theorem coreDead_twin (hq : Quiet d (srcWdt core)) (ht : d.upd.trial = none) (ha : (d.sources[(srcWdt core).val]).action < 6) :
    (coreDead core d).twin = d.twin := by
  obtain ⟨-, -, htwin, -⟩ := coreRaised_quiet core hq ht
  rw [coreDead_quiet core hq ht, heartbeatEnds_below core _ ha, htwin]

/-- A port core whose pause exceeds its bound raises its watchdog (14 R545). -/
theorem fxActivationDone_late {k s : Fin 4} (h : d.upd.paused = some (.core k s)) : fxActivationDone false d = coreDead (watchOf k) d := by
  simp [fxActivationDone, h]
end

end Sys2Proof.Machine
end

section
/-! SUPPORT. Clears and forces of the owner, the return of a severity, held messages, and the ends of minimal mode and of a condition (11 R433,
R440, R442, R443, R449, R453, R454), and the statement about the fault collector. -/

namespace Sys2Proof.Machine

section
variable (n : Fin 768) (m : Fin 5) (s : State)

theorem exec_faultRaise (t : Nat) : exec (.faultRaise n t) s = act (fxFaultRaise n t) s := by rfl
theorem exec_graceExpiry : exec (.graceExpiry n) s = act (fxGraceExpiry n) s := by rfl
theorem exec_faultClear (v : Word) : exec (.faultClear m v) s = act (ownerWrite m (clearById m v)) s := by rfl
theorem exec_faultLatchBitClear : exec (.faultLatchBitClear m n) s = act (ownerWrite m (clearBy m n)) s := by rfl
theorem exec_faultForce (v : Word) : exec (.faultForce m v) s = act (ownerWrite m (forceById m v)) s := by rfl
theorem exec_severityRelax : exec (.severityRelax n) s = act (fxSeverityRelax n) s := by rfl
theorem exec_faultBacklogDrain : exec .faultBacklogDrain s = act (backlogDrain 64) s := by rfl
theorem exec_minimalAutoExit (e : Fin 4) : exec (.minimalAutoExit e) s = act (fxMinimalAutoExit e) s := by rfl
theorem exec_watchdogExpiry_dead (core : Fin 9) : exec (.watchdogExpiry core false) s = act (coreDead core) s := by rfl
theorem exec_watchdogExpiry_restarted (core : Fin 9) : exec (.watchdogExpiry core true) s = act id s := by rfl
theorem exec_activationDone (ok : Bool) : exec (.activationDone ok) s = act (fxActivationDone ok) s := by rfl
theorem exec_faultConditionEnd : exec (.faultConditionEnd n) s = act (fxFaultConditionEnd n) s := by rfl
end

/-! ### Clears (11 R440, R443, R453) -/

section
variable {n : Fin 768} {d : Dev}

/-- A die that is not in minimal mode has none to leave (11 R453). -/
theorem autoExit_running (e : Fin 4) (h : d.sys.edgeMin[e.val] = false) : autoExit e d = d := by
  simp [autoExit, h]

/-- Where no grace is over and no die in minimal mode, a clear is that of the latch alone (01 R32, 11 R453). -/
theorem clearBy_latch (m : Fin 5) (hg : graceOver d n = false) (hmin : ∀ e : Fin 4, d.sys.edgeMin[e.val] = false) :
    clearBy m n d = clearLatch n m d := by
  have hsource : clearSource n m d = clearLatch n m d := by rw [clearSource, hg, onlyIf_false]
  rw [clearBy, hsource]
  refine forEach_keeps (P := fun x => x = clearLatch n m d) (fun e x hx => ?_) rfl
  rw [hx, autoExit_running e (by simp [hmin])]

/-- A clear without the condition clears the latch with its count, and stops a running grace (11 R439, R440). -/
theorem clearLatch_clears (m : Fin 5) (hlatch : (d.sources[n.val]).latch = true) (hcond : (d.sources[n.val]).cond = false) :
    ((clearLatch n m d).sources[n.val]).latch = false ∧ ((clearLatch n m d).sources[n.val]).count = 0 ∧
    ((clearLatch n m d).sources[n.val]).graceRun = false := by
  simp [clearLatch, stopGrace, hlatch, hcond]

/-- A clear of an L source whose condition is present, raised by its die, is refused (11 R440, R443). -/
theorem clearLatch_refused (m : Fin 5) (hlatch : (d.sources[n.val]).latch = true) (hl : srcLevel n = true) (hcond : (d.sources[n.val]).cond = true)
    (hreal : (d.sources[n.val]).realRaise = true) : clearLatch n m d = collEvent 3 d := by
  simp [clearLatch, hlatch, hl, hcond, hreal]

/-- FAULT_CLEAR and FAULT_FORCE name a source by its number (11 R455). -/
theorem bits_source (n : Fin 768) : bits (BitVec.ofNat 32 n.val) 0 12 = n.val := by
  have := n.isLt
  simp [bits]
  omega

theorem clearById_source (m : Fin 5) (n : Fin 768) (d : Dev) : clearById m (BitVec.ofNat 32 n.val) d = clearBy m n d := by
  simp [clearById, bits_source]
end

/-! ### Forces, relaxed severities and held messages (11 R442, R443, R449) -/

section
variable {n : Fin 768} {d : Dev}

/-- A forced raise of a source with the action NONE latches it, and nothing follows (11 R443). -/
theorem raiseForced_quiet (m : Fin 5) (act : Bool) (hr : (srcRow n.val).isSome = true) (ha : (takeLater d.sources[n]).action = 0) :
    ((raiseForced n m act d).sources[n.val]).latch = true ∧ ((raiseForced n m act d).sources[n.val]).action = 0 ∧
    (raiseForced n m act d).ports = d.ports ∧ (raiseForced n m act d).sys = d.sys ∧ (raiseForced n m act d).upd = d.upd := by
  have hquiet := raiseWith_quiet (again := raiseInner) (stamp := d.tmr.tb) (index := 0) (forced := some m) (act := act) ha
  exact ⟨raiseWith_latch ha hr, raiseWith_action ha hr, by simp [raiseForced, hquiet], by simp [raiseForced, hquiet], by simp [raiseForced, hquiet]⟩

/-- FAULT_FORCE of a source with the action NONE latches it (11 R443). -/
theorem forceById_latches (m : Fin 5) (hr : (srcRow n.val).isSome = true) (hq : Quiet d n) (ht : d.upd.trial = none) :
    ((forceById m (BitVec.ofNat 32 n.val) d).sources[n.val]).latch = true ∧ (forceById m (BitVec.ofNat 32 n.val) d).ports = d.ports ∧
    (forceById m (BitVec.ofNat 32 n.val) d).sys = d.sys := by
  generalize hx : journalWrite 7 0x2014 (BitVec.ofNat 32 n.val) m (srcInstance n) d = x
  have hsources : x.sources = d.sources := by simp [← hx]
  have hports : x.ports = d.ports := by simp [← hx]
  have hsys : x.sys = d.sys := by simp [← hx]
  have hupd : x.upd = d.upd := by simp [← hx]
  obtain ⟨hlatch, haction, kports, ksys, kupd⟩ := raiseForced_quiet m (bit (BitVec.ofNat 32 n.val) 12) hr (d := x) (by rw [hsources]; exact hq.1)
  have hforce : forceById m (BitVec.ofNat 32 n.val) d = raiseForced n m (bit (BitVec.ofNat 32 n.val) 12) x := by
    simp only [forceById, bits_source, n.isLt, dif_pos, hx]
    rw [healthWatch_noTrial n (by rw [kupd, hupd, ht]), blockFollow_else (.inl (by simp [haction]))]
  rw [hforce]
  exact ⟨hlatch, kports.trans hports, ksys.trans hsys⟩

/-- The effective severity returns to the configured one in one step, and the latch stays (11 R442). -/
theorem fxSeverityRelax_returns (h : (d.sources[n.val]).sev < (d.sources[n.val]).eff) :
    ((fxSeverityRelax n d).sources[n.val]).eff = (d.sources[n.val]).sev ∧ ((fxSeverityRelax n d).sources[n.val]).raises = [] ∧
    ((fxSeverityRelax n d).sources[n.val]).latch = (d.sources[n.val]).latch := by
  simp [fxSeverityRelax, relax, h]

theorem fxSeverityRelax_frame : (fxSeverityRelax n d).ports = d.ports ∧ (fxSeverityRelax n d).sys = d.sys := by
  unfold fxSeverityRelax relax
  dsimp only
  split <;> simp

/-- The one message held leaves for the ring that takes it, and the backlog is empty (11 R449). -/
theorem backlogDrain_one {a : FaultMsg} {r : Fin 16} {c : RingCfg} (k : Nat) (hb : d.coll.backlog = [a]) (hr : (ringsOfKind d 2).head? = some r)
    (hc : d.cfg.host.rings[r.val] = some c) (hroom : ringRoom d r = true) : backlogDrain (k + 2) d =
      onColl (fun x => { x with backlog := [], gap := false }) (ringPut r c (msgBytes a d.coll.gap) d) := by
  have hempty : ∀ x : Dev, x.coll.backlog = [] → backlogDrain (k + 1) x = x := fun x hx => by simp [backlogDrain, hx]
  rw [backlogDrain, hb, hr]
  simp only [Fin.getElem_fin, hc, hroom, if_true]
  exact hempty _ rfl
end

/-! ### Minimal mode of one die that ends (11 R453, R454) -/

/-- A die that leaves minimal mode changes its mark and drops the parameters it held (01 R24, 11 R454). -/
theorem dieExitMinimal_sys {e : Fin 4} {d : Dev} (h : d.sys.edgeMin[e.val] = true) : (dieExitMinimal e d).sys =
    { d.sys with edgeMin := d.sys.edgeMin.set e.val false, held := d.sys.held.set (linkOf e).val none } := by
  simp [dieExitMinimal, h]

/-- A die whose link is steady leaves minimal mode by itself, and EDGE_MINIMAL ends with it (11 R432, R453). -/
theorem fxMinimalAutoExit_leaves {e : Fin 4} {d : Dev} (h : d.sys.edgeMin[e.val] = true) (hx : mayExit d = true)
    (hl : linkSteady d (linkOf e) = true) (hm : d.sys.mode = .service) :
    fxMinimalAutoExit e d = leaveDie e (stopTimer (.minimalAutoExit e) d) := by
  have hx' : mayExit (stopTimer (.minimalAutoExit e) d) = true := hx
  have hl' : linkSteady (stopTimer (.minimalAutoExit e) d) (linkOf e) = true := hl
  simp [fxMinimalAutoExit, autoExit, h, hx', hl', hm]

theorem leaveDie_ends {e : Fin 4} {d : Dev} (h : d.sys.edgeMin[e.val] = true) : (leaveDie e d).sys.edgeMin[e.val] = false ∧
    ((leaveDie e d).sources[(srcEdgeMinimal e).val]).cond = false ∧ (leaveDie e d).sys.held[(linkOf e).val] = none ∧
    (leaveDie e d).sys.mode = d.sys.mode := by
  refine ⟨?_, condEnd_cond .., ?_, ?_⟩ <;> simp [leaveDie, dieExitMinimal_sys h]

/-! ### Conditions that end (11 R433) -/

/-- STAGE_FAULT is an L source of its phase, and no TEMP_TRIP (11 R431). -/
theorem phaseSrc_stage (n : Fin 64) : srcLevel (phaseSrc n 3) = true ∧ tripDie (phaseSrc n 3) = none ∧ srcGroup (phaseSrc n 3) = .phase n ∧
    (phaseSrc n 3).val % 4 = 3 := by
  revert n
  decide

/-- The end of STAGE_FAULT ends the condition and the SF level of its phase (11 R433). -/
theorem fxFaultConditionEnd_stage (n : Fin 64) (d : Dev) :
    fxFaultConditionEnd (phaseSrc n 3) d = onPhase n (fun f => { f with sf := false }) (condEnd (phaseSrc n 3) d) := by
  obtain ⟨hlevel, htrip, hgroup, hindex⟩ := phaseSrc_stage n
  simp [fxFaultConditionEnd, condFollow, hlevel, htrip, hgroup, hindex]

/-- Settles O44, command by command, from what each leaves of the collector and of the rest of the block. -/
theorem faultsLatchGraceAndClear : Obligations.FaultsLatchGraceAndClear := by
  unfold Obligations.FaultsLatchGraceAndClear
  intro s src hr ht
  refine ⟨fun htrip hw => ⟨fun t hq => ?_, fun t hup hlater ha hlatch he hesc hroom => ?_⟩, fun l t htrip hw hl hroom hsafe => ?_,
    fun p hg hrun ha he hs hp hdisabled herror hmin hdis hl => ?_,
    fun m ho hlatch hg hmin => ⟨fun hcond => ⟨?_, ?_⟩, fun hl hcond hreal => ?_⟩, fun m ho hlatch hq => ?_, fun h => ?_,
    fun a r c hb hrings hc hroom => ?_, fun e h hx hl hm => ?_, fun hq hlater => ?_, fun k t hp hsrc hq => ?_, fun core => ?_, fun n hsrc => ?_⟩
  · refine next_of_act (exec_faultRaise ..) ?_
    rw [fxFaultRaise_quiet t htrip hw hr hq ht]
    exact ⟨raiseStamped_latch hq hr, by simp [raiseStamped_quiet hq], by simp [raiseStamped_quiet hq], fun n hn => raiseStamped_latch_other hq hn⟩
  · have hgrace := fxFaultRaise_startsGrace t htrip hw hr ht hup ⟨hlater, ha, hlatch, he, hesc, hroom⟩
    exact next_of_act (exec_faultRaise ..) ⟨hgrace.latch, hgrace.graceRun, hgrace.due, hgrace.ports, hgrace.sys⟩
  · refine next_of_act (exec_faultRaise ..) ?_
    rw [fxFaultRaise_waits t htrip hw hl hroom hsafe]
    exact ⟨by simp, SameBut.settled (sameBut_iff.mpr (by simp)) s.dev⟩
  · exact next_of_act (exec_graceExpiry ..) (fxGraceExpiry_recovers hg hrun ha he hs hp hdisabled herror hmin hdis hl)
  · refine next_of_owner (exec_faultClear ..) ho ?_
    rw [clearById_source, clearBy_latch m hg hmin]
    obtain ⟨hclear, hcount, hstop⟩ := clearLatch_clears m hlatch hcond
    exact ⟨hclear, hcount, hstop, by simp, by simp⟩
  · refine next_of_owner (exec_faultLatchBitClear ..) ho ?_
    rw [clearBy_latch m hg hmin]
    obtain ⟨hclear, hcount, hstop⟩ := clearLatch_clears m hlatch hcond
    exact ⟨hclear, hcount, hstop, by simp, by simp⟩
  · refine next_of_owner (exec_faultLatchBitClear ..) ho ?_
    rw [clearBy_latch m hg hmin, clearLatch_refused m hlatch hl hcond hreal]
    exact ⟨rfl, SameBut.settled (sameBut_iff.mpr (by simp [collEvent])) s.dev⟩
  · exact next_of_owner (exec_faultForce ..) ho (forceById_latches m hr hq ht)
  · refine next_of_act (exec_severityRelax ..) ?_
    obtain ⟨heff, hraises, hlatch⟩ := fxSeverityRelax_returns h
    exact ⟨heff, hraises, hlatch, fxSeverityRelax_frame⟩
  · refine next_of_act (exec_faultBacklogDrain ..) ?_
    rw [backlogDrain_one 62 hb hrings hc hroom]
    exact ⟨by simp, by simp, by simp, SameBut.settled (sameBut_iff.mpr (by simp)) s.dev⟩
  · refine next_of_act (exec_minimalAutoExit ..) ?_
    rw [fxMinimalAutoExit_leaves h hx hl hm]
    obtain ⟨hmin, hcond, hheld, hmode⟩ := leaveDie_ends (d := stopTimer (.minimalAutoExit e) s.dev) h
    exact ⟨hmin, hcond, hheld, hmode.trans hm⟩
  · refine next_of_act (exec_watchdogExpiry_dead ..) ?_
    have hnow : (s.dev.sources[(srcWdt 0).val]).action = 0 := by
      simpa [Quiet, takeLater, show (s.dev.sources[(srcWdt 0).val]).later = none from hlater] using hq.1
    obtain ⟨hlatch, hports, hupd⟩ := coreDead_effect 0 hq ht
    refine ⟨by simp [hupd, coreStopped_sv], hlatch, hports, (settleTwin_core ..).trans ?_⟩
    exact congrArg Twin.core (coreDead_twin 0 hq ht (by simp [hnow]))
  · refine next_of_act (exec_activationDone ..) ?_
    subst hsrc
    rw [fxActivationDone_late hp]
    obtain ⟨hlatch, hports, hupd⟩ := coreDead_effect (watchOf k) hq ht
    obtain ⟨-, -, -, -, hpaused, -⟩ := coreStopped_frame (d := s.dev) (watchOf k)
    exact ⟨hlatch, hupd ▸ coreStopped_core k, by simp [hupd, hpaused], hports⟩
  · exact next_of_act (exec_watchdogExpiry_restarted ..) (SameBut.settled (sameBut_iff.mpr (by simp)) s.dev)
  · refine next_of_act (exec_faultConditionEnd ..) ?_
    subst hsrc
    rw [fxFaultConditionEnd_stage]
    exact ⟨condEnd_cond .., by simp, by simp [condEnd], SameBut.settled (sameBut_iff.mpr (by simp [condEnd])) s.dev⟩

end Sys2Proof.Machine
end
